-- ==== Sys2Proof/Word.lean ====
section
/-! DEFINITION. The word types of the module: register words of 32 bits (R7) and bytes of host memory (R97). -/

namespace Sys2Proof

/-- A register word (R7: every register is 32 bits wide). -/
abbrev Word := BitVec 32

/-- One byte of host memory, of the station image or of a frame. -/
abbrev Byte := BitVec 8

end Sys2Proof
end

