-- ==== Sys2Proof/Machine/Sparse.lean ====
section
/-! DEFINITION. Sparse stores: a list of (key, value) pairs in one canonical form, keys strictly rising and no entry
equal to what an unlisted key reads as. Memory, registers, latches and process images are all held this way. -/

namespace Sys2Proof.Machine

variable {α : Type} [DecidableEq α]

/-- What key `k` reads as: its entry, or the default of an unlisted key. -/
def Sparse.get (dflt : Nat → α) : List (Nat × α) → Nat → α
  | [], k => dflt k
  | (a, v) :: l, k => if a = k then v else Sparse.get dflt l k

/-- Drop every entry of key `k`. -/
def Sparse.drop : List (Nat × α) → Nat → List (Nat × α)
  | [], _ => []
  | (a, v) :: l, k => if a = k then Sparse.drop l k else (a, v) :: Sparse.drop l k

/-- Put a new entry before the first greater key. -/
def Sparse.put : List (Nat × α) → Nat → α → List (Nat × α)
  | [], k, v => [(k, v)]
  | (a, x) :: l, k, v => if k < a then (k, v) :: (a, x) :: l else (a, x) :: Sparse.put l k v

/-- Write `v` at key `k`, keeping the canonical form. -/
def Sparse.set (dflt : Nat → α) (l : List (Nat × α)) (k : Nat) (v : α) : List (Nat × α) :=
  if v = dflt k then Sparse.drop l k else Sparse.put (Sparse.drop l k) k v

/-- Keys strictly rising, all above `lo`, and no entry equal to its default. -/
def Sparse.wfFrom (dflt : Nat → α) : Option Nat → List (Nat × α) → Bool
  | _, [] => true
  | lo, (a, v) :: l =>
    (match lo with | none => true | some b => decide (b < a)) && decide (v ≠ dflt a) && Sparse.wfFrom dflt (some a) l

/-- The canonical form. -/
def Sparse.wf (dflt : Nat → α) (l : List (Nat × α)) : Bool := Sparse.wfFrom dflt none l

/-- Write `n` consecutive keys from `k`, one value each. -/
def Sparse.setMany (dflt : Nat → α) (l : List (Nat × α)) (k : Nat) : List α → List (Nat × α)
  | [] => l
  | v :: vs => Sparse.setMany dflt (Sparse.set dflt l k v) (k + 1) vs

end Sys2Proof.Machine
end

