-- ==== Sys2Proof/Machine/Bits.lean ====
section
/-! DEFINITION. Bit fields, byte orders, signed views, serial-number arithmetic and saturation (R7, R9, R11). -/

namespace Sys2Proof.Machine

/-- A field of a register: the register's address, its lowest bit and its width. -/
structure Field where
  addr : Nat
  lo : Nat
  width : Nat
  deriving DecidableEq, Repr

/-- Bits [lo+n-1:lo] of a number. -/
def bits (w lo n : Nat) : Nat := (w / 2 ^ lo) % 2 ^ n

/-- Bit `i` of a number. -/
def bit (w i : Nat) : Bool := bits w i 1 = 1

/-- Bits [lo+n-1:lo] of a register word. -/
def wordField (w : Word) (lo n : Nat) : Nat := (w.extractLsb' lo n).toNat

/-- A register word with bits [lo+n-1:lo] replaced by the low `n` bits of `v`. -/
def wordWith (w : Word) (lo n v : Nat) : Word :=
  (w &&& ~~~(BitVec.ofNat 32 ((2 ^ n - 1) * 2 ^ lo))) ||| BitVec.ofNat 32 ((v % 2 ^ n) * 2 ^ lo)

/-- A Boolean as a one-bit field value. -/
def b2n (b : Bool) : Nat := if b then 1 else 0

/-- Little-endian number of a byte list (R9). -/
def leNat : List Byte → Nat
  | [] => 0
  | b :: bs => b.toNat + 256 * leNat bs

/-- Big-endian number of a byte list (R9, Kereth's own network frames). -/
def beNat (bs : List Byte) : Nat := leNat bs.reverse

/-- `n` little-endian bytes of a number. -/
def leBytes : Nat → Nat → List Byte
  | 0, _ => []
  | n + 1, v => BitVec.ofNat 8 v :: leBytes n (v / 256)

/-- `n` big-endian bytes of a number. -/
def beBytes (n v : Nat) : List Byte := (leBytes n v).reverse

/-- Bytes `o .. o+n-1` of a byte string; a position beyond its end reads 0. -/
def slice (b : List Byte) (o n : Nat) : List Byte := (List.range n).map (fun i => b.getD (o + i) 0)

/-- Little-endian field of a byte string. -/
def u8 (b : List Byte) (o : Nat) : Nat := (b.getD o 0).toNat
def u16 (b : List Byte) (o : Nat) : Nat := leNat (slice b o 2)
def u32 (b : List Byte) (o : Nat) : Nat := leNat (slice b o 4)
def u64 (b : List Byte) (o : Nat) : Nat := leNat (slice b o 8)

/-- Two's-complement value of the low `n` bits. -/
def sint (n v : Nat) : Int := if v % 2 ^ n < 2 ^ (n - 1) then (v % 2 ^ n : Nat) else ((v % 2 ^ n : Nat) : Int) - 2 ^ n

/-- The low `n` bits of an integer, two's complement. -/
def unsint (n : Nat) (v : Int) : Nat := (v % (2 ^ n : Nat)).toNat

/-- Serial-number comparison over `n` bits (R11): `a` is newer than `b`. -/
def newer (n a b : Nat) : Bool :=
  let d := (a + 2 ^ n - b % 2 ^ n) % 2 ^ n
  1 ≤ d && d ≤ 2 ^ (n - 1) - 1

/-- `a` is older than `b` (R11). -/
def older (n a b : Nat) : Bool :=
  let d := (a + 2 ^ n - b % 2 ^ n) % 2 ^ n
  2 ^ (n - 1) + 1 ≤ d

/-- Saturate an integer to the signed `n`-bit range. -/
def satInt (n : Nat) (v : Int) : Int :=
  if v > 2 ^ (n - 1) - 1 then 2 ^ (n - 1) - 1 else if v < -(2 ^ (n - 1) : Int) then -(2 ^ (n - 1) : Int) else v

/-- Whether a list holds no element twice. -/
def noDup [DecidableEq α] : List α → Bool
  | [] => true
  | a :: l => !(l.contains a) && noDup l

/-- The ceiling of a / b. -/
def ceilDiv (a b : Nat) : Nat := (a + b - 1) / b

end Sys2Proof.Machine
end

