-- ==== Sys2Proof/Syntax.lean ====
section
/-! DEFINITION. The commands of the block: one constructor per row of the table of operations and events, with the data each
carries in from outside the module. -/

namespace Sys2Proof

/-- The fabric masters (05, master numbers). -/
inductive Master where
  | pair0 | pair1 | pair2 | hdp | lpp
  deriving DecidableEq, Repr

/-- A master's number. -/
def Master.num : Master → Nat
  | .pair0 => 0 | .pair1 => 1 | .pair2 => 2 | .hdp => 3 | .lpp => 4

/-- Whether a master is a core pair. -/
def Master.isPair : Master → Bool
  | .pair0 | .pair1 | .pair2 => true
  | .hdp | .lpp => false

/-- The two handover inputs (R38). -/
inductive HoLine where
  | give | take
  deriving DecidableEq, Repr

/-- What a read of memory meets in the check bits (R100, R101, R104). -/
inductive Ecc where
  | clean
  | corrected (syndrome : BitVec 8)
  | uncorrectable (syndrome : BitVec 8)
  deriving DecidableEq, Repr

/-- How the wait for a PTP master ends (R433). -/
inductive WaitEnd where
  | locked | master | expired
  deriving DecidableEq, Repr

/-- The physical outcomes of the ten start-up steps (R515): what the hardware finds at each. -/
structure StartFindings where
  /-- the main PLL and the time base lock within 10 ms (step 2) -/
  pllLocks : Bool
  /-- the relock with the image's dividers completes (step 3, R74) -/
  relocks : Bool
  /-- an uncorrectable MRAM error is met in the image store: its address and syndrome (R104) -/
  storeEcc : Option (Nat × BitVec 8)
  /-- lanes whose three injections were detected on that lane alone (R446) -/
  lanesPass : BitVec 24
  /-- no lane fired in the clean run (R446) -/
  cleanRun : Bool
  /-- the memory test passes (step 5); and whether Pair 0's local SRAM and shared SRAM pass it (R516) -/
  bist : Bool
  bistService : Bool
  /-- FIELD_STARTED arrives at the first, and at the retried, attempt (step 6) -/
  field1 : Bool
  field2 : Bool
  /-- IN frames are valid in time (step 7) -/
  rimUp : Bool
  /-- a retentive bank read meets an uncorrectable error: its address and syndrome (R522) -/
  bank0Ecc : Option (Nat × BitVec 8)
  bank1Ecc : Option (Nat × BitVec 8)
  deriving DecidableEq, Repr

/-- A frame on a CAN bus (15). -/
structure CanFrame where
  ide : Bool
  id : Nat
  fd : Bool
  brs : Bool
  data : List Byte
  deriving DecidableEq, Repr

/-- The kinds of CAN error (R410, ISO 11898-1). -/
inductive CanErr where
  | bit | stuff | form | ack | crc
  deriving DecidableEq, Repr

/-- How a CAN transmission ends (R410, R413): sent and acknowledged, with the loop delay measured in an FD frame with bit-rate switch
(R403); arbitration lost; an error, and whether ISO 11898-1 exempts it from counting; a bit error after arbitration was won. -/
inductive CanEnd where
  | sent (tdcv : Option (BitVec 7))
  | arbLost
  | error (kind : CanErr) (exempt : Bool)
  | dup
  deriving DecidableEq, Repr

/-- What the front end of one channel measures in its slot (R292, R295, R315, R319): terminal voltage in 10 mV, current in 0.1 µA (already
filtered, R316), whether a current limit or the compliance limit acts, the raw level of an SI, and whether the slot is cut off (R285). -/
structure Meas where
  vt : Int
  amp : Nat
  lim : Bool
  raw : Bool
  cut : Bool
  deriving DecidableEq, Repr

/-- How a Rim frame arrives (R299): whole, failing its CRC, or whole but with a gap in SEQ before it. -/
inductive RimRx where
  | whole | crcFail | gap
  deriving DecidableEq, Repr

/-- A frame waiting for the bus: its object (255 for the queue head, 254 for a reference), and whether it is one-shot (R411). -/
structure CanTx where
  obj : Nat
  frame : CanFrame
  oneShot : Bool
  deriving DecidableEq, Repr

/-- A remote station as the process image unit keeps it (14): the last accepted SEQ, the IN frame accepted for the release that is due and
the newest sample (release instant, FLAGS, payload), whether its CFG is acknowledged, the payload and T of the last CFG and the elapsed
instant it was sent, the last SEQ sent, the values of its output elements visible at t_rel, those of the last release at which its whole
group was PRESENT, and the release at which its state was last set. -/
structure Station where
  num : Nat
  seqIn : Option Nat
  due : Option (Nat × Nat × List Byte)
  sample : Option (Nat × Nat × List Byte)
  acked : Bool
  cfg : List Byte
  cfgT : Nat
  cfgAt : Nat
  seqOut : Nat
  atRel : List Nat
  held : List Nat
  upd : Option Nat
  deriving DecidableEq, Repr

/-- An ESC connection (14): the last accepted or sent SEQ, the instant of the last accepted PDU, whether the next good PDU is the first
since start-up or a reset, its data and the data it replaced, the last RST, and the PDU formed last. -/
structure EscConn where
  num : Nat
  seq : Nat
  acc : Option Nat
  first : Bool
  data : List Byte
  old : Option (List Byte)
  rst : Option Bool
  pdu : List Byte
  deriving DecidableEq, Repr

/-- The Trick buffers of a task: the applied Trick with its number, the latest committed one with its number, and its apply instant while
that is pending; for F also the start of the cycle that committed it (SYS needs it, R217). -/
structure TrickBufs where
  applied : List Host.Cell
  appliedTrick : Option Nat
  committed : List Host.Cell
  trick : Nat
  applyAt : Option Nat
  began : Nat
  deriving DecidableEq, Repr

/-- A mirrored input Trick (R456, R461): task, Trick number to be committed, t_rel, SYS values, input image, latched loop values, the change
sets and the parameter-port batches attached to it (slot, then offset and value). -/
structure InputMsg where
  task : Nat
  trick : Nat
  tRel : Nat
  sysP : Nat
  first : Bool
  trace : Bool
  image : List Host.Cell
  latch : List Host.Cell
  sets : List (Nat × List (Nat × Nat))
  batches : List (Nat × List (Nat × Nat))
  deriving DecidableEq, Repr

/-- A repair (R464): the task's V and G and Trick buffers, or for the loop engine (task 10) the whole slot memory. -/
structure RepairMsg where
  task : Nat
  v : List Host.Cell
  g : List (Nat × Byte)
  bufs : TrickBufs
  slots : List Host.Cell
  deriving DecidableEq, Repr

/-- Lines of the state set (R458). -/
inductive StateItem where
  | lines (space task off : Nat) (bytes : List Byte)
  | bufs (task : Nat) (b : TrickBufs)
  | slot (n : Nat) (bytes : List Byte)
  | station (x : Station)
  | esc (x : EscConn)
  | can (port : Nat) (pend : List CanTx)
  | journal (bytes : List Byte)
  deriving DecidableEq, Repr

/-- A message of the Rolent link (R456). SWAP_ACK's reason and the cause of GIVE_UP are the sender's codes. -/
inductive Rolent where
  | negotiate (pos build safeChk : Nat) (confirmed : Bool)
  | giveUp (cause : Nat) (tricks : List Nat)
  | stop (ovr : Word)
  | role (role : Nat) (trace : Bool)
  | swapProp (ts : Nat) (load : Bool)
  | swapAck (ts : Nat) (accepted : Bool)
  | swapCancel (reason : Nat)
  | time (sent lastRx : Nat)
  | input (m : InputMsg)
  | digest (task trick digest : Nat)
  | loopin (tg : Nat) (vals : List (Nat × Nat × Nat))
  | repairReq (task : Nat)
  | joinReq (build safeChk : Nat) (confirmed : Bool)
  | joinAck (build safeChk : Nat) (confirmed : Bool) (time : Nat)
  | state (items : List StateItem)
  | cut (task trick : Nat) (items : List StateItem)
  | repair (m : RepairMsg)
  | fstate (cycle : Nat) (sets : List (Nat × List (Nat × Nat))) (items : List StateItem)
  | image (offset : Nat) (bytes : List Byte)
  deriving DecidableEq, Repr

/-- A Sync received by the ordinary clock (IEEE 1588): sender's port identity, SEQ, two-step flag, originTimestamp in ns, correctionField in
2^-16 ns, logMessageInterval, ingress port and MAC-PHY boundary time in 1/16 ns of the module's counter. -/
structure PtpSync where
  src : Nat
  seq : Nat
  twoStep : Bool
  origin : Nat
  corr : Int
  logInt : Int
  port : Fin 3
  boundary : Nat
  deriving DecidableEq, Repr

/-- An Announce received: sender's port identity, grandmaster's data set, stepsRemoved, logMessageInterval. -/
structure PtpAnnounce where
  src : Nat
  gm : Nat
  priority1 : Nat
  cls : Nat
  accuracy : Nat
  variance : Nat
  priority2 : Nat
  steps : Nat
  logInt : Int
  deriving DecidableEq, Repr

/-- The commands: one constructor per row of the table of operations. -/
inductive Instr where
  /-- STARTUP (R515): Supply good and the slot code stable start the ten-step start-up sequence. -/
  | startup (f : StartFindings)
  /-- START_WAIT_END (R433): The wait for a PTP master ends on lock, on MASTER selection or when START_WAIT expires, and the unit enters RUN. -/
  | startWaitEnd (how : WaitEnd)
  /-- NEGOTIATE_TIMEOUT (R453): With no NEGOTIATE received, position A takes ACTIVE after 200 ms and position B after 300 ms, if HO_GIVE_I is still asserted. -/
  | negotiateTimeout
  /-- NEGOTIATE_INDETERMINATE_TIMEOUT (R453): HO_GIVE_I still indeterminate after 1 s puts the unit in OFF in HALT with OFFCAUSE 5. -/
  | negotiateIndeterminateTimeout
  /-- SUPPLY_LOW (R46): The supply enters 16.0 V to 16.8 V and is reported. -/
  | supplyLow (vsup : BitVec 10)
  /-- SUPPLY_OVER (R46): The supply exceeds 32 V and is reported. -/
  | supplyOver (vsup : BitVec 10)
  /-- SUPPLY_FAIL (R519): A supply below 16.0 V for 200 µs is declared supply fail, and the hold-up energy is spent in priority order. -/
  | supplyFail (vsup : BitVec 10) (granted : BitVec 7)
  /-- SUPPLY_RETURN (R50): The supply returns during hold-up; the store recharges and the unit restarts under R520. -/
  | supplyReturn (vsup : BitVec 10) (pct : Nat)
  /-- SLOT_CODE_CHANGE (R44): A change of the slot code while running is reported and has no other effect. -/
  | slotCodeChange (code : BitVec 4)
  /-- HO_INPUT_ACCEPT (R38): A handover input level that has been stable for 2 µs is accepted as its new state. -/
  | hoInputAccept (line : HoLine) (asserted : Bool)
  /-- HO_INDETERMINATE (R39): A handover input indeterminate for 100 µs sets HOFAIL and raises EV_RDL_HOTEST. -/
  | hoIndeterminate (line : HoLine)
  /-- TAKEOVER_ASSERT_TAKE (R471): At t_own − 15 µs the new active asserts HO_TAKE_O and releases HO_GIVE_O. -/
  | takeoverAssertTake
  /-- IOSC_TRIM (R76): Every 10 s the CPM measures the IOSC error and moves the trim by at most one step. -/
  | ioscTrim (ppm : Int)
  /-- XT32_CHECK (R77): Once per second XT32 is checked against IOSC, with a switch to IOSC on failure. -/
  | xt32Check (good : Bool)
  /-- FM_START (R78): A write of CPM_FMCTRL.START starts a frequency measurement. -/
  | fmStart (m : Master) (w : Word)
  /-- FM_DONE (R78): The measurement gate ends, the count is placed in CPM_FMRES and EV_FM_DONE is raised. -/
  | fmDone (count : Nat)
  /-- REF_LOSS (R79): REF25 shows no edge for 200 ns, or deviates by more than 500 ppm, and reference loss is declared. -/
  | refLoss
  /-- ALWAYS_ON_SAVE (R94): Every second the operating seconds, power-cycle count and trim are written to MRAM. -/
  | alwaysOnSave
  /-- CPM_RESTART (R95): CPM_CTRL.RESTART with KEY 0xA5 restarts the station through start-up. -/
  | cpmRestart (m : Master) (w : Word)
  /-- HALT_REQ (R92): CPM_CTRL.HALT_REQ with KEY 0xA5 puts the station into HALT. -/
  | haltReq (m : Master) (w : Word)
  /-- CLKDIV_WRITE (R95): A write of CPM_CLKDIV by a core pair or the host data port is ignored and sets CPM_FAULT.DIVWR. -/
  | clkdivWrite (m : Master) (w : Word)
  /-- PAIR_IDLE_ENTER (R89): A pair with no running task and no pending routed event gates its cores. -/
  | pairIdleEnter (p : Fin 3)
  /-- DOZE_ENTER (R90): The CPM enters DOZE when DOZE_EN is set and every DOZE condition holds. -/
  | dozeEnter
  /-- DOZE_WAKE (R91): WAKE_LEAD before a release or an evaluation instant, the CPM starts the main PLL. -/
  | dozeWake
  /-- X6_LINK_ENERGY (R90): Link energy on X6 ends DOZE. -/
  | x6LinkEnergy
  /-- TASK_RELEASE (R18): At t_rel the process image unit latches the task's input set in one atomic step. -/
  | taskRelease (c : Fin 8)
  /-- LATCH_COMPLETE (R20): Latch completion lets the owning pair start the task and sends the input Trick to the standby. -/
  | latchComplete (c : Fin 9)
  /-- TRICK_APPLY (R22): At t_apply the committed Trick takes effect and becomes visible to other readers. -/
  | trickApply (c : Fin 9)
  /-- TASK_OVERRUN (R200): A task not committed by t_dl is in overrun and gets the reaction of its role. -/
  | taskOverrun (c : Fin 8)
  /-- F_CYCLE_START (R195): At s_m, a T0 release instant, F's input image is latched and a new F cycle starts. -/
  | fCycleStart
  /-- F_WATCHDOG_EXPIRY (R196): F not committed within FWDOG_MS is in overrun and the station stops. -/
  | fWatchdogExpiry
  /-- RETAIN_SNAPSHOT (R105): Every IMG_RETAIN_MS a snapshot of G is written to the older bank, header last. -/
  | retainSnapshot
  /-- VIEW_OPEN (R197): A non-zero MASK write opens or reopens a view that pins the latest applied Tricks. -/
  | viewOpen (m : Master) (v : Fin 8) (w : Word)
  /-- VIEW_CLOSE (R197): A MASK write of 0 closes the view. -/
  | viewClose (m : Master) (v : Fin 8) (w : Word)
  /-- VIEW_DATA_READ (R208): A read of IMG_VIEW_DATA returns pinned bytes and advances OFFSET by 4. -/
  | viewDataRead (m : Master) (v : Fin 8)
  /-- END (R222): The END call word ends execution of the release and commits. -/
  | endWord (c : Fin 9)
  /-- JMP (R218): An unconditional jump by a signed word offset. -/
  | jmp (c : Fin 9)
  /-- JMPC (R226): A jump taken when C is TRUE. -/
  | jmpc (c : Fin 9)
  /-- JMPCN (R226): A jump taken when C is FALSE. -/
  | jmpcn (c : Fin 9)
  /-- MOVE (R228): Copies value and quality unchanged. -/
  | move (c : Fin 9)
  /-- CONV (R227): Converts a numeric value by WIDEN or SAT. -/
  | conv (c : Fin 9)
  /-- AND (R226): Logical AND of 2 to 8 BOOL inputs. -/
  | logAnd (c : Fin 9)
  /-- OR (R226): Logical OR of 2 to 8 BOOL inputs. -/
  | logOr (c : Fin 9)
  /-- XOR (R226): Logical XOR of 2 to 8 BOOL inputs. -/
  | logXor (c : Fin 9)
  /-- NOT (R226): Logical negation of a BOOL. -/
  | logNot (c : Fin 9)
  /-- ADD (R227): Adds 2 to 8 inputs, with saturation. -/
  | addBlock (c : Fin 9)
  /-- SUB (R227): Subtracts IN2 from IN1, with saturation. -/
  | subBlock (c : Fin 9)
  /-- MUL (R227): Multiplies 2 to 8 inputs, with saturation. -/
  | mulBlock (c : Fin 9)
  /-- DIV (R227): Divides IN1 by IN2, with defined results for division by zero. -/
  | divide (c : Fin 9)
  /-- MOD (R227): Integer remainder with the sign of IN1. -/
  | modulo (c : Fin 9)
  /-- NEG (R227): Negation with saturation. -/
  | negBlock (c : Fin 9)
  /-- ABS (R227): Absolute value with saturation. -/
  | absBlock (c : Fin 9)
  /-- EQ (R228): Compares for equality. -/
  | cmpEq (c : Fin 9)
  /-- NE (R228): Compares for inequality. -/
  | cmpNe (c : Fin 9)
  /-- LT (R228): Compares IN1 less than IN2. -/
  | cmpLt (c : Fin 9)
  /-- LE (R228): Compares IN1 less than or equal to IN2. -/
  | cmpLe (c : Fin 9)
  /-- GT (R228): Compares IN1 greater than IN2. -/
  | cmpGt (c : Fin 9)
  /-- GE (R228): Compares IN1 greater than or equal to IN2. -/
  | cmpGe (c : Fin 9)
  /-- SEL (R228): Selects IN1 when G is TRUE, otherwise IN0. -/
  | sel (c : Fin 9)
  /-- MUX (R228): Selects IN_K, clamping an out-of-range K. -/
  | mux (c : Fin 9)
  /-- MAX (R228): Gives the largest input. -/
  | maximum (c : Fin 9)
  /-- MIN (R228): Gives the smallest input. -/
  | minimum (c : Fin 9)
  /-- LIMIT (R228): Limits IN to MN to MX and reports ACT. -/
  | limitBlock (c : Fin 9)
  /-- RAMP (R229): Moves Y towards X at the rate limits, or tracks TV. -/
  | ramp (c : Fin 9)
  /-- ROC (R230): Computes the rate of change and the alarm against LIM. -/
  | roc (c : Fin 9)
  /-- TON (R231): On-delay timer evaluation. -/
  | ton (c : Fin 9)
  /-- TOF (R231): Off-delay timer evaluation. -/
  | tof (c : Fin 9)
  /-- TP (R231): Pulse timer evaluation. -/
  | tpTimer (c : Fin 9)
  /-- CTU (R232): Up counter evaluation. -/
  | ctu (c : Fin 9)
  /-- CTD (R232): Down counter evaluation. -/
  | ctd (c : Fin 9)
  /-- CTUD (R232): Up-down counter evaluation. -/
  | ctud (c : Fin 9)
  /-- R_TRIG (R233): Rising-edge detector. -/
  | rTrig (c : Fin 9)
  /-- F_TRIG (R233): Falling-edge detector. -/
  | fTrig (c : Fin 9)
  /-- SR (R233): Set-dominant bistable. -/
  | sr (c : Fin 9)
  /-- RS (R233): Reset-dominant bistable. -/
  | rs (c : Fin 9)
  /-- QGET (R228): Returns the quality byte of IN. -/
  | qget (c : Fin 9)
  /-- QSET (R228): Gives the value of IN with the quality byte QB. -/
  | qset (c : Fin 9)
  /-- QOK (R228): TRUE when the STATE of IN is GOOD or UNCERTAIN. -/
  | qok (c : Fin 9)
  /-- SAND (R347): Safety AND: TRUE when every input counts TRUE. -/
  | sand (c : Fin 9)
  /-- SOR (R347): Safety OR: TRUE when any input counts TRUE. -/
  | sor (c : Fin 9)
  /-- SVAL (R347): TRUE when IN counts TRUE. -/
  | sval (c : Fin 9)
  /-- SGE (R347): TRUE when both inputs are GOOD and IN1 ≥ IN2. -/
  | sge (c : Fin 9)
  /-- RESTART (R347): Restart interlock: EN sets on a rising RST while PERMIT counts TRUE. -/
  | restartBlock (c : Fin 9)
  /-- LOOP_WINDOW (R262): At a grid instant t_g every due slot is evaluated in period and slot order. -/
  | loopWindow
  /-- LOOP_DEPOSIT (R262): At t_g + 48 µs the window's results are deposited and become visible. -/
  | loopDeposit
  /-- PP_GO (R275): LPE_PP_CTRL.GO starts a parameter-port transaction or is refused. -/
  | ppGo (m : Master) (w : Word)
  /-- PP_LOCK_ACQUIRED (R275): The port acquires the list lock, copies and checks the list, releases the lock and forms batches. -/
  | ppLockAcquired
  /-- RGNDATA_READ (R277): A read of LPE_RGNDATA returns a region-table word and advances WORD. -/
  | rgndataRead (m : Master)
  /-- CHANNEL_ROUND (R283): Every 100 µs the field side serves all 64 channel slots and closes the input frame. -/
  | channelRound (lpA : BitVec 10) (lpB : BitVec 10) (ambient : Int) (ms : List Meas)
  /-- LPLUS_STATE_CHANGE (R57): Enough consecutive L+ measurements change the group's L+ state. -/
  | lplusStateChange (g : Fin 2)
  /-- DI_SAMPLE_WINDOW (R287): A DI sampling window ends, gives a raw sample and may change the filtered state. -/
  | diSampleWindow (c : Fin 64) (level : Bool) (vt : Int)
  /-- FI_EDGE (R288): A stable FI level change is timestamped and counted. -/
  | fiEdge (c : Fin 64) (level : Bool) (t : Nat)
  /-- DO_SHORT_SWITCHOFF (R291): The current limit acting for 5 ms, or thermal shutdown, switches a DO off with CH_SHORT. -/
  | doShortSwitchoff (c : Fin 64) (thermal : Bool)
  /-- DO_RESTART_ATTEMPT (R291): 1 s after a switch-off the DO tries again, and latches off after RETRY failures. -/
  | doRestartAttempt (c : Fin 64)
  /-- DO_OPEN_LOAD (R292): A current below 2 mA for OPEN_MS with CMD TRUE sets CH_OPEN. -/
  | doOpenLoad (c : Fin 64)
  /-- DO_FOREIGN_VOLTAGE (R292): Ten consecutive judged rounds set or clear CH_FOREIGN. -/
  | doForeignVoltage (c : Fin 64)
  /-- GROUP_OVERLOAD (R294): A group's DO current above the limit for 100 ms sets OVERLOAD, and 100 ms below clears it. -/
  | groupOverload (g : Fin 2)
  /-- PROTECTIVE_STATE_ENTER (R296): Three consecutive checks outside the working range put the channel into its protective state. -/
  | protectiveStateEnter (c : Fin 64)
  /-- PROTECTIVE_STATE_EXIT (R296): 1,000 consecutive checks within range end the protective state and the channel restarts as at first use. -/
  | protectiveStateExit (c : Fin 64)
  /-- KEEP_SEND (R298): The Rim host half queues a KEEP frame at the start of every round. -/
  | keepSend
  /-- RIM_OUT_FRAME (R300): The field side receives an OUT frame, stores its entries and restarts the watchdog. -/
  | rimOutFrame (rx : RimRx)
  /-- RIM_KEEP_FRAME (R299): A valid KEEP frame arrives and restarts the safe-state watchdog. -/
  | rimKeepFrame (rx : RimRx)
  /-- RIM_CTRL_FRAME (R298): A host-to-field CTRL frame delivers a mailbox message or take to Pair F. -/
  | rimCtrlFrame
  /-- RIM_BULK_FRAME (R298): A BULK frame carries a queue-20 payload across the Rim. -/
  | rimBulkFrame
  /-- RIM_CFG_FRAME (R298): A CFG frame delivers channel records, the watchdog timeout and the slot code to the field side. -/
  | rimCfgFrame
  /-- RIM_SAFE_FRAME (R304): A SAFE frame sets or releases the field safe-state hold. -/
  | rimSafeFrame
  /-- RIM_HO_FRAME (R468): An HO frame carries the HO_TAKE_I level or the give-up flag to the field side. -/
  | rimHoFrame
  /-- RIM_IN_FRAME (R301): The host half receives an IN frame with channel values, group states and field events. -/
  | rimInFrame (rx : RimRx)
  /-- RIM_CTRL_IN_FRAME (R140): A field-to-host CTRL frame delivers a Pair F post or take to the host side. -/
  | rimCtrlInFrame
  /-- RIM_LOSS (R301): No valid IN frame for 300 µs clears RIM_UP and raises EV_RIM_LOSS. -/
  | rimLoss
  /-- RIM_RECOVERY_TIMEOUT (R306): FIELD_STARTED not arrived 50 ms after EV_RIM_LOSS causes a station stop. -/
  | rimRecoveryTimeout
  /-- FIELD_ENTRY_APPLY (R300): The field side applies a pending output entry at its apply instant. -/
  | fieldEntryApply (c : Fin 64)
  /-- SAFE_STATE_WATCHDOG_EXPIRY (R303): No valid OUT or KEEP frame within the timeout puts every output into its safe state. -/
  | safeStateWatchdogExpiry
  /-- SAFE_REQ (R304): CHN_CTRL.SAFE_REQ with KEY 0x5A sends the safe-state request. -/
  | safeReq (m : Master) (w : Word)
  /-- SAFE_REL (R304): CHN_CTRL.SAFE_REL with KEY 0x5A lifts a hold set by SAFE_REQ, in RUN and in control only. -/
  | safeRel (m : Master) (w : Word)
  /-- FIELD_RESTART (R306): A Pair F mismatch, memory error, supply fault or 10 ms link loss de-energises the outputs and restarts the field side. -/
  | fieldRestart (cause : Fin 5)
  /-- CH_CLEAR (R307): Pair F clears LATCHED and the retry count of the masked channels. -/
  | chClear
  /-- GROUP_MODE (R309): Pair F accepts or refuses a mode change of groups at an instant. -/
  | groupMode
  /-- GROUP_MODE_APPLY (R309): At its instant the groups enter own or partner mode and MODE_DONE is sent. -/
  | groupModeApply
  /-- RUN_GRANT (R304): Pair F lifts the safe-state hold on RUN_GRANT. -/
  | runGrant
  /-- MODE_DONE (R307): The host receives the result of a GROUP_MODE. -/
  | modeDone
  /-- FIELD_STARTED (R306): The host receives FIELD_STARTED, reloads the configuration and raises EV_FIELD_RESTART. -/
  | fieldStarted
  /-- TXS_LIMIT (R315): A transmitter supply in limit for 100 ms is switched off with TXS_LIMIT. -/
  | txsLimit (c : Fin 64)
  /-- TXS_RESTART (R315): Every 10 s a switched-off transmitter supply is tried again. -/
  | txsRestart (c : Fin 64)
  /-- AO_COMPL_ALARM (R320): A deficit above 0.5 mA for 1,000 consecutive rounds raises EV_AO_COMPL. -/
  | aoComplAlarm (c : Fin 64)
  /-- AO_OPEN (R321): An AO command of at least 1 mA with ACH below 0.1 mA at the compliance limit for 100 ms sets AO_OPEN. -/
  | aoOpen (c : Fin 64)
  /-- TRIM_DRIVE (R323): The channel drives 4 mA or 20 mA on factory calibration alone. -/
  | trimDrive (m : Master) (w : Word) (mram : Bool)
  /-- TRIM_COMMIT (R323): Both points are checked and the trim record is written and sent. -/
  | trimCommit (m : Master) (w : Word) (mram : Bool)
  /-- TRIM_END (R323): The trim session ends and the channel returns to its safe state. -/
  | trimEnd (m : Master) (w : Word) (mram : Bool)
  /-- TRIM_CLEAR (R323): An identity trim record is written for the channel. -/
  | trimClear (m : Master) (w : Word) (mram : Bool)
  /-- TRIM_TIMEOUT (R323): 300 s after the last DRIVE the trim session ends. -/
  | trimTimeout
  /-- HART_TRANSMIT_START (R331): The channel sends the next request once the modem is idle and the data-link timing allows. -/
  | hartTransmitStart (c : Fin 64)
  /-- HART_RESPONSE_END (R330): The last character of a response is received and checked, and a record is formed. -/
  | hartResponseEnd (c : Fin 64) (good : Bool) (frame : List Byte) (t : Nat)
  /-- HART_NO_RESPONSE (R330): An attempt ends without a response, with a retry or a NO_RESPONSE record. -/
  | hartNoResponse (c : Fin 64)
  /-- HART_LISTEN_FRAME (R333): A frame that belongs to no transaction of the channel is delivered as a LISTEN record. -/
  | hartListenFrame (c : Fin 64) (frame : List Byte) (t : Nat)
  /-- HART_BURST_FRAME (R330): A burst-mode frame received between transactions is delivered as a BURST record. -/
  | hartBurstFrame (c : Fin 64) (frame : List Byte) (t : Nat)
  /-- HART_RECORD_PUSH (R332): A waiting record is pushed to QRSP, with a retry in every round while the queue is FULL. -/
  | hartRecordPush
  /-- HART_RECORD_DISCARD (R332): A record that has waited 100 ms is discarded and EV_HART_REFUSED with LOST is raised. -/
  | hartRecordDiscard
  /-- HART_SCAN_DUE (R334): Every SCAN_S seconds the field side queues command 3 to the device. -/
  | hartScanDue (c : Fin 64)
  /-- HART_CANCEL (R335): Queued and running requests of the masked channels end with CANCELLED. -/
  | hartCancel
  /-- HART_SCAN (R335): Scanning is suspended or resumed on the masked channels. -/
  | hartScan
  /-- TEST_PULSE_START (R348): A TS source pulses low for 500 µs at its grid instant. -/
  | testPulseStart (c : Fin 64)
  /-- TS_CHECK (R348): A TS terminal not below 5 V 100 µs into its pulse enters TS_FAULT. -/
  | tsCheck (c : Fin 64) (below : Bool)
  /-- TS_RESTART (R348): 1 s after a protective switch-off the TS channel restarts. -/
  | tsRestart (c : Fin 64)
  /-- TP_JUDGEMENT (R350): At m · TP_PERIOD + 31 ms each SI's test pulses are judged. -/
  | tpJudgement
  /-- SIN_DISCREPANCY (R351): The two channels disagreeing for DISC_MS latch DISCREPANCY. -/
  | sinDiscrepancy (n : Fin 128)
  /-- AN_DISC (R354): |A − B| above DISC at every latch for DISC_MS latches AN_DISC. -/
  | anDisc (n : Fin 128)
  /-- SPD_DISC (R362): Speed disagreement beyond V_DISC for DISC_MS latches SPD_DISC and gives STO. -/
  | spdDisc (n : Fin 128)
  /-- OFF_PULSE (R356): An energised SO channel is switched off for OFFP_US at its grid instant. -/
  | offPulse (c : Fin 64)
  /-- OFF_PULSE_CHECK (R356): Readback above 5 V 100 µs into the off time latches OFFP_STUCK. -/
  | offPulseCheck (c : Fin 64) (above : Bool)
  /-- FB_CHECK (R358): FB_MS after energising or de-energising, the feedback contact is checked. -/
  | fbCheck (n : Fin 128)
  /-- SAF_ARM (R367): The field half arms or disarms when the check value matches, and answers with ARM_DONE. -/
  | safArm
  /-- ARM_DONE (R367): The host receives ARM_DONE, and status 0 sets FARMED. -/
  | armDone
  /-- SAF_RESET (R367): The field half receives reset edges for masked functions and answers with RESET_DONE. -/
  | safReset
  /-- RESET_DONE (R367): The host receives the reset acknowledgement. -/
  | resetDone
  /-- CONFIRM_WINDOW_EXPIRY (R366): The 30 s confirmation window ends without a press and EV_SAF_CONF_EXPIRED is raised. -/
  | confirmWindowExpiry
  /-- ECX_IN_FRAME (R377): An IN frame from a station is checked and accepted or discarded. -/
  | ecxInFrame (src : BitVec 32) (frame : List Byte)
  /-- ECX_CFG_ACK (R376): A CFG_ACK that matches ends WAITING for the station. -/
  | ecxCfgAck (src : BitVec 32) (frame : List Byte)
  /-- ECX_CFG_RESEND (R376): Once per second CFG is resent to a station without a matching CFG_ACK. -/
  | ecxCfgResend (n : Fin 256)
  /-- ESC_WATCHDOG_EXPIRY (R393): No accepted PDU for WDOG_MS latches the connection fault. -/
  | escWatchdogExpiry (n : Fin 256)
  /-- CAN_FRAME_RECEIVED (R405): A valid received frame is timestamped and routed by the filters. -/
  | canFrameReceived (n : Fin 4) (x : CanFrame) (esi : Bool) (remote : Bool) (sof : Nat)
  /-- CAN_HP_POP (R408): A write of CANn_HP_POP removes the head frame. -/
  | canHpPop (m : Master) (n : Fin 4)
  /-- CAN_TX_START (R409): The bus is idle and the lowest-identifier pending frame is offered. -/
  | canTxStart (n : Fin 4)
  /-- CAN_TX_END (R410): A transmission ends with a result; one-shot failures are recorded and other frames are retried. -/
  | canTxEnd (n : Fin 4) (r : CanEnd)
  /-- CAN_RECOVER (R414): CANn_CTRL.RECOVER with KEY 0xC5 begins bus-off recovery. -/
  | canRecover (m : Master) (n : Fin 4) (w : Word)
  /-- CAN_BUS_ON (R414): Recovery completes after 128 occurrences of 11 recessive bits. -/
  | canBusOn (n : Fin 4)
  /-- TTCAN_REFERENCE (R415): At t_ref(k) the time master sends the reference message one-shot. -/
  | ttcanReference (n : Fin 4) (late : Bool)
  /-- TTCAN_WINDOW (R415): A transmit window opens and its object frame is offered. -/
  | ttcanWindow (n : Fin 4) (o : Fin 128) (started : Bool)
  /-- TTCAN_SYNC_LOSS (R417): A time monitor without a reference for 1 s clears SYNC. -/
  | ttcanSyncLoss (n : Fin 4)
  /-- ETH_FRAME_RECEIVED (R423): The switch receives a frame, forwards it store-and-forward, or delivers it to the host. -/
  | ethFrameReceived (p : Fin 3) (frame : List Byte) (ing : Nat) (egr : Nat) (lost : Bool)
  /-- ETH_LINK_CHANGE (R426): A port's link goes up or down, with an MRP LinkChange on ring ports. -/
  | ethLinkChange (p : Fin 3) (up : Bool)
  /-- MRP_TOPOLOGY_CHANGE (R426): An MRP_TopologyChange flushes the MAC table within 1 ms. -/
  | mrpTopologyChange
  /-- PTP_SYNC (R432): A Sync gives the servo an offset, which updates the addend and the lock state. -/
  | ptpSync (x : PtpSync)
  /-- PTP_ANNOUNCE (R427): An Announce enters the BMCA, which selects a master. -/
  | ptpAnnounce (a : PtpAnnounce)
  /-- PTP_ANNOUNCE_TIMEOUT (R434): No Announce within announceReceiptTimeout makes the clock UNLOCKED. -/
  | ptpAnnounceTimeout
  /-- PTP_SYNC_TIMEOUT (R434): No Sync for 4 sync intervals moves LOCKED to HOLDOVER. -/
  | ptpSyncTimeout
  /-- PTP_ADDEND_WRITE (R431): A write of PTP_ADDEND takes effect at the next time-base cycle, clamped to ±250 ppm. -/
  | ptpAddendWrite (m : Master) (w : Word)
  /-- PTP_STEP (R432): PTP_CTRL.STEP with KEY 0x3C steps the counter, or is refused in RUN and DOZE. -/
  | ptpStep (m : Master) (w : Word)
  /-- LOCKSTEP_MISMATCH (R442): A lane difference gates the pair and triggers the reaction of its role. -/
  | lockstepMismatch (lanes : BitVec 24) (syn : BitVec 64)
  /-- CACHE_PARITY_ERROR (R440): A cache parity error invalidates the line in both cores and is counted. -/
  | cacheParityError (p : Fin 3)
  /-- CMP_PAIR_RESTART (R445): CMP_CTRL with KEY 0x96 restarts a stopped pair in HALT after a lane test. -/
  | cmpPairRestart (m : Master) (w : Word) (lanes : BitVec 24)
  /-- PAIR0_AUTO_RESTART (R445): The CPM restarts a stopped Pair 0 once the first-out record is written, at most 3 times. -/
  | pair0AutoRestart (lanes : BitVec 24)
  /-- DOMAIN_RESET (R143): A domain reset increments its generation and discards mailbox messages to it. -/
  | domainReset (d : Fin 4)
  /-- SCRUB_READ (R102): The background scrubber reads the next SRAM word and corrects it. -/
  | scrubRead (addr : Nat) (ecc : Ecc) (last : Bool)
  /-- MRAM_SCRUB_READ (R104): The MRAM scrubber reads and corrects the next word. -/
  | mramScrubRead (addr : Nat) (ecc : Ecc) (pct : Nat)
  /-- HDP_DATA_READ (R109): A read of HDP_DATA performs a single read at HDP_ADDR. -/
  | hdpDataRead (m : Master) (ecc : Ecc)
  /-- HDP_DATA_WRITE (R109): A write of HDP_DATA performs a single write at HDP_ADDR. -/
  | hdpDataWrite (m : Master) (w : Word) (ecc : Ecc)
  /-- HDP_BURST_GO (R110): HDP_CTRL.GO checks the range and starts a burst. -/
  | hdpBurstGo (m : Master) (w : Word)
  /-- HDP_BURST_DONE (R110): A burst ends, with or without error, and DONE sets. -/
  | hdpBurstDone (ecc : Ecc) (good : Nat)
  /-- HELLO (R115): The module answers HELLO with CHALLENGE and a new SID. -/
  | hello (port : Fin 3) (ip : Nat) (frame : List Byte)
  /-- AUTH (R115): The module checks the tool proof and answers AUTH_OK or AUTH_FAIL. -/
  | auth (port : Fin 3) (ip : Nat) (frame : List Byte)
  /-- READ (R114): The module reads memory and answers READ_REPLY. -/
  | readMem (port : Fin 3) (ip : Nat) (frame : List Byte) (ecc : Ecc) (good : Nat)
  /-- WRITE (R114): The module writes memory and answers WRITE_ACK. -/
  | writeMem (port : Fin 3) (ip : Nat) (frame : List Byte) (ecc : Ecc) (good : Nat)
  /-- STATUS (R114): The module answers with role, power state, counters and time. -/
  | statusReq (port : Fin 3) (ip : Nat) (frame : List Byte)
  /-- IMAGE_BEGIN (R159): The image store is marked invalid and a load begins. -/
  | imageBegin (port : Fin 3) (ip : Nat) (frame : List Byte)
  /-- IMAGE_DATA (R159): Image bytes are written at their offset. -/
  | imageData (port : Fin 3) (ip : Nat) (frame : List Byte)
  /-- IMAGE_END (R160): All loading checks run and, on success, bytes 0 to 7 are written and the image becomes CHECKED. -/
  | imageEnd (port : Fin 3) (ip : Nat) (frame : List Byte) (storeEcc : Option (Nat × BitVec 8))
  /-- CHANGE_SET (R174): A change set is checked, journalled and queued, or refused whole. -/
  | changeSet (port : Fin 3) (ip : Nat) (frame : List Byte)
  /-- CHANGE_SWAP_REQUEST (R178): The active fixes the swap instant t_s or refuses with CHG_SWAP. -/
  | changeSwapRequest (port : Fin 3) (ip : Nat) (frame : List Byte) (phase : Nat) (needConf : Bool)
  /-- CHANGE_SWAP_CANCEL (R182): A swap-load is abandoned before t_s. -/
  | changeSwapCancel (port : Fin 3) (ip : Nat) (frame : List Byte)
  /-- CONFIRM (R366): A matching safety check value opens a 30 s confirmation window. -/
  | confirmReq (port : Fin 3) (ip : Nat) (frame : List Byte)
  /-- OTP_PROGRAM (R107): A blank key slot is programmed and made active. -/
  | otpProgram (port : Fin 3) (ip : Nat) (frame : List Byte)
  /-- OTP_REVOKE (R107): An active key slot that is not the last of its kind is revoked. -/
  | otpRevoke (port : Fin 3) (ip : Nat) (frame : List Byte)
  /-- CLOSE (R114): The session closes. -/
  | closeSession (port : Fin 3) (ip : Nat) (frame : List Byte)
  /-- KSAP_SESSION_TIMEOUT (R118): A session with no valid frame for 30 s is closed. -/
  | ksapSessionTimeout (sid : Nat)
  /-- SWAP_PREPARED (R178): The standby finishes placing the new image and the second route bank, and PHASE becomes PREPARED. -/
  | swapPrepared
  /-- SWAP_LOAD_INSTANT (R180): At t_s control passes to the standby and the carry of state begins. -/
  | swapLoadInstant
  /-- CARRY_COMPLETE (R180): At t_s + D_carry the new image's releases and evaluations may begin. -/
  | carryComplete
  /-- EVT_SWTRIG (R123): A write of EVT_SWTRIG raises software source 248 + SEL. -/
  | evtSwtrig (m : Master) (w : Word)
  /-- EVT_CLAIM (R125): A read of EVT_CLAIM returns the highest pending source and clears its bit. -/
  | evtClaim (m : Master) (p : Fin 3)
  /-- QUE_PUSH (R129): A descriptor is copied into the ring, or the push is refused. -/
  | quePush (m : Master) (q : Fin 64) (addr : Nat)
  /-- QUE_ROUND (R131): The transfer engine arbitrates a round and serves the winning queue's head descriptor. -/
  | queRound (egr : Nat)
  /-- QUE_REL (R130): The consumer pair releases the available descriptor. -/
  | queRel (m : Master) (q : Fin 64)
  /-- QUE_CFG_WRITE (R137): A write of QUE_CFG changes EN or, while idle, the configuration, or is ignored with EV_QUE_FAULT. -/
  | queCfgWrite (m : Master) (q : Fin 64) (base : Bool) (w : Word)
  /-- MBX_POST (R139): The sender posts the staged message, or collides when FULL. -/
  | mbxPost (m : Master) (mbx : Fin 24) (w : Word)
  /-- MBX_TAKE (R139): The receiver takes the message and FULL clears. -/
  | mbxTake (m : Master) (mbx : Fin 24)
  /-- MBX_TIMEOUT (R141): A message posted longer than TMO · 10 µs sets TMO. -/
  | mbxTimeout (mbx : Fin 24)
  /-- LCK_ACQUIRE (R147): A read of LCK[n] by a core pair attempts to acquire the lock. -/
  | lckAcquire (n : Fin 32) (ms : List Master)
  /-- LCK_RELEASE (R147): A write of 0 by the owner releases the lock; any other write is rejected. -/
  | lckRelease (m : Master) (n : Fin 32) (w : Word)
  /-- LCK_HDPREQ (R148): Pair 0 makes one acquire attempt on behalf of the host data port. -/
  | lckHdpreq (m : Master) (n : Fin 32)
  /-- LCK_HDPREL (R148): Pair 0 releases a lock held by the host data port. -/
  | lckHdprel (m : Master) (n : Fin 32)
  /-- LCK_HOLD_EXPIRY (R150): A lock held longer than LCK_HOLD_LIMIT raises EV_LCK_HOLD. -/
  | lckHoldExpiry (n : Fin 32)
  /-- RC_FIELD_READ (R8): A core-pair read of an RC field returns its value and resets it. -/
  | rcFieldRead (m : Master) (addr : Nat)
  /-- LATCHED_LOW_WORD_READ (R206): A read of a low word latches the higher words for that master. -/
  | latchedLowWordRead (m : Master) (addr : Nat)
  /-- REGISTER_WRITE (R8): A write to a register with no behaviour of its own sets RW fields and clears W1C bits. -/
  | registerWrite (m : Master) (addr : Nat) (w : Word)
  /-- NEGOTIATE (R453): The partner's NEGOTIATE arrives and decides which unit takes ACTIVE. -/
  | negotiate (pos : Nat) (build : Nat) (safeChk : Nat) (confirmed : Bool)
  /-- GIVE_UP (R469): The partner's GIVE_UP notice arrives, setting the takeover path. -/
  | giveUp (cause : Nat) (tricks : List Nat) (indet : Bool)
  /-- STOP (R467): On a common overrun notice the standby also stops. -/
  | stopNotice (ovr : Word)
  /-- ROLE (R456): The partner's role and TRACE are updated. -/
  | roleMsg (role : Nat) (trace : Bool)
  /-- ROLE_SEND (R456): Every 10 ms the unit sends ROLE and TIME to its partner. -/
  | roleSend (peak : Nat)
  /-- TIME (R455): A TIME exchange gives the follower an offset and it adjusts its rate. -/
  | timeMsg (sent : Nat) (lastRx : Nat)
  /-- SWAP_PROP (R474): The standby receives a proposed swap instant and answers. -/
  | swapProp (ts : Nat) (load : Bool)
  /-- SWAP_ACK (R474): The active receives the acceptance and fixes t_s. -/
  | swapAck (ts : Nat) (accepted : Bool)
  /-- SWAP_CANCEL (R476): A planned swap ends with no effect. -/
  | swapCancel (reason : Nat)
  /-- INPUT (R461): The standby receives a mirrored input Trick and shadows the release. -/
  | inputTrick (m : InputMsg)
  /-- DIGEST (R463): A partner digest arrives and is compared with the unit's own. -/
  | digestMsg (task : Nat) (trick : Nat) (digest : Nat)
  /-- DIGEST_LATE (R463): The budget passes without the standby's digest and the standby is declared LAGGING. -/
  | digestLate
  /-- LOOPIN (R461): The standby receives a loop window's external inputs and evaluates the window. -/
  | loopin (tg : Nat) (vals : List (Nat × Nat × Nat))
  /-- REPAIR_REQ (R464): The active receives a repair request and sends REPAIR at its next commit. -/
  | repairReq (task : Nat)
  /-- JOIN_REQ (R459): The active accepts a join request and answers JOIN_ACK. -/
  | joinReq (build : Nat) (safeChk : Nat) (confirmed : Bool)
  /-- JOIN_ACK (R459): The joining unit steps its counter to the partner's, or copies the image. -/
  | joinAck (build : Nat) (safeChk : Nat) (confirmed : Bool) (time : Nat)
  /-- STATE (R459): The joining unit receives lines of the state set. -/
  | stateLines (items : List StateItem)
  /-- CUT (R459): The standby receives a task's cut-over and shadows from the next release. -/
  | cutOver (task : Nat) (trick : Nat) (items : List StateItem)
  /-- JOIN_CUT_OVER (R459): When a task is not executing after phase 2, the active sends its CUT. -/
  | joinCutOver (c : Fin 11)
  /-- JOIN_RETRY (R459): 10 s after a failed join it is retried. -/
  | joinRetry
  /-- REPAIR (R464): The standby replaces the task's state and resumes shadowing. -/
  | repairMsg (m : RepairMsg)
  /-- FSTATE (R460): The standby stores F's cycle lines and change sets. -/
  | fstate (cycle : Nat) (sets : List (Nat × List (Nat × Nat))) (items : List StateItem)
  /-- IMAGE (R456): Station image bytes arrive from the partner over Rolent. -/
  | imageBytes (offset : Nat) (bytes : List Byte) (storeEcc : Option (Nat × BitVec 8))
  /-- ROLENT_LANE_LOSS (R454): One lane is lost and all traffic moves to the other lane. -/
  | rolentLaneLoss (lane : Fin 2)
  /-- ROLENT_LINK_LOSS (R454): No valid frame for 100 µs; a standby or lagging unit enters OFF with cause LINK. -/
  | rolentLinkLoss
  /-- ROLENT_REJOIN (R454): Once the link has been up for 1 s a unit in OFF with cause LINK rejoins. -/
  | rolentRejoin
  /-- REJOIN (R466): RDL_CTRL.REJOIN starts a join from OFF. -/
  | rejoin (m : Master) (w : Word)
  /-- GIVE (R467): RDL_CTRL.GIVE makes the unit give up control. -/
  | giveControl (m : Master) (w : Word)
  /-- SWAP_NOW (R474): RDL_CTRL.SWAP_NOW requests a planned swap. -/
  | swapNow (m : Master) (w : Word)
  /-- PLANNED_SWAP_DUE (R474): SWAP_H hours have passed, or the 600 s retest falls due, and the swap proceeds or is deferred. -/
  | plannedSwapDue
  /-- SWAP_OVERLAP_START (R475): At t_s − 1.05 ms the active releases HO_TAKE_O and the overlap begins. -/
  | swapOverlapStart
  /-- PLANNED_SWAP_INSTANT (R475): At t_s the old active enters partner mode and becomes STANDBY, and the new active takes full control. -/
  | plannedSwapInstant
  /-- SWAP_ASSERT_TAKE (R475): At t_s + 20 µs the new active asserts HO_TAKE_O and the swap is done. -/
  | swapAssertTake
  /-- HO_PULSE_TEST (R477): Every 10 s an active unit pulses both handover drivers for 1 µs and checks the readback. -/
  | hoPulseTest (giveOk : Bool) (takeOk : Bool)
  /-- AUTO_RESTART (R524): 10 s after the STOP record, a unit with AUTORST restarts through start-up. -/
  | autoRestart
  /-- RECORD_WRITE (R484): The writer takes the next claimed entry and writes the record into MRAM. -/
  | recordWrite (ecc : Ecc)
  /-- EVR_ARM (R491): EVR_CTRL.ARM with KEY 0xE7 arms the first-out area. -/
  | evrArm (m : Master) (w : Word)
  /-- EVR_CLEAR (R492): EVR_CTRL.CLEAR in HALT empties every record and starts erasing. -/
  | evrClear (m : Master) (w : Word)
  /-- EVR_CLEAR_END (R492): The erasure completes, the area is armed and EV_EVR_CLEARED is raised. -/
  | evrClearEnd
  /-- EVR_SWREC (R482): A write of EVR_SWREC claims a SOFT record. -/
  | evrSwrec (m : Master) (w : Word)
  /-- EVR_WIN_READ (R494): A core-pair read of EVR_WIN[63] with AUTO advances INDEX. -/
  | evrWinRead (m : Master) (w : Fin 64)
  /-- PNL_UPDATE (R502): PNL_CTRL.UPDATE requests an update of the region, merged if one is pending. -/
  | pnlUpdate (m : Master) (w : Word)
  /-- PNL_FULL (R499): PNL_CTRL.FULL requests a recovery refresh of the full panel. -/
  | pnlFull (m : Master) (w : Word)
  /-- PNL_UPDATE_START (R502): A pending update starts after the previous one ends, latching the levels and the band and raising the rails. -/
  | pnlUpdateStart
  /-- PNL_RAIL_FAIL (R506): A rail not at its level within 5 ms raises EV_PNL_RAIL and the update does not start. -/
  | pnlRailFail
  /-- PNL_FRAME (R503): A 10 ms waveform frame ends and the next frame is driven. -/
  | pnlFrame
  /-- PNL_UPDATE_COMMIT (R502): The update ends, FRONT and PNL_FCRC take the new levels and the rails go down. -/
  | pnlUpdateCommit
  /-- PNL_TEMP_MEASURE (R504): Once per second the panel temperature is measured and the band updated. -/
  | pnlTempMeasure (temp : Int)
  /-- PNL_CRC_CHECK (R499): Every 10 s FRONT is checked against PNL_FCRC. -/
  | pnlCrcCheck
  /-- PNL_RECOVERY (R509): After start-up or a returned supply, an INDET record is balanced and cleared before other updates. -/
  | pnlRecovery
  /-- PNL_FBDATA_ACCESS (R513): A core-pair access of PNL_FBDATA reads or writes four bytes and advances OFFSET. -/
  | pnlFbdataAccess (m : Master) (write : Option Word)
  /-- KEY_DOWN (R512): The Confirm key registers as down after 20 ms of stable contact. -/
  | keyDown
  /-- KEY_RELEASE (R512): The Confirm key registers as up; the press confirms an open window or starts a test. -/
  | keyRelease (held : Nat)
  /-- STORE_SHUTDOWN_LEVEL (R50): The hold-up store falls to its shutdown level, the internal rails collapse and the module enters power state OFF. -/
  | storeShutdownLevel
  /-- SUPPLY_NORMAL (R46): The supply returns from the low or over band into 16.8 V to 32 V and CPM_STAT.SUPST reads normal. -/
  | supplyNormal (vsup : BitVec 10)
  /-- DOZE_PLL_LOCK (R91): The main PLL started by a DOZE wake locks within 40 µs, the clocks are released and the station leaves DOZE. -/
  | dozePllLock
  /-- GIVE_UP_NOTICE_TD (R39): 10 µs after a GIVE_UP notice arrives while HO_GIVE_I is indeterminate, the STANDBY takes t_d and takes control on the ALIGNED path. -/
  | giveUpNoticeTd
  /-- SWAP_GROUP_MODE_POST (R475): At t_s − 1.2 ms the standby posts GROUP_MODE own at t_s − 1 ms and the active posts GROUP_MODE partner at t_s. -/
  | swapGroupModePost
  /-- TEST_PULSE_END (R348): 500 µs after its start, a TS source ends its test pulse and drives L+ to its terminal again. -/
  | testPulseEnd (c : Fin 64) (recovered : Bool)
  /-- OFF_PULSE_END (R356): OFFP_US after an off-pulse starts, the energised SO channel is switched on again. -/
  | offPulseEnd (c : Fin 64)
  /-- FIELD_RESTART_COMPLETE (R306): The restarted field side is running again in safe hold, requests CFG frames and sends FIELD_STARTED. -/
  | fieldRestartComplete
  /-- ROLENT_CRC_FAIL (R454): A Rolent link frame fails its CRC and is retransmitted at most 20 µs later. -/
  | rolentCrcFail (mine : Bool)
  /-- ROLENT_LANE_UP (R454): A Rolent lane completes link training and comes up, bringing the link up and raising EV_RDL_LINK. -/
  | rolentLaneUp (lane : Fin 2)
  /-- CAN_RECEIVE_ERROR (R414): A port detects an error while receiving, sends its error flag and increments REC and the error statistics. -/
  | canReceiveError (n : Fin 4) (kind : CanErr) (heavy : Bool)
  /-- PTP_FOLLOW_UP (R427): A Follow_Up for a two-step Sync arrives and gives the servo the precise origin timestamp. -/
  | ptpFollowUp (src : Nat) (seq : Nat) (origin : Nat) (corr : Int)
  /-- PTP_DELAY_REQ_SEND (R427): At each logMinDelayReqInterval the ordinary clock sends a Delay_Req and timestamps its egress. -/
  | ptpDelayReqSend (boundary : Nat) (lost : Bool)
  /-- PTP_DELAY_RESP (R432): A Delay_Resp arrives and gives the servo the mean path delay. -/
  | ptpDelayResp (src : Nat) (seq : Nat) (receive : Nat) (corr : Int)
  /-- PTP_SYNC_SEND (R427): As MASTER the module sends a one-step Sync at each logSyncInterval, the switch writing originTimestamp at egress. -/
  | ptpSyncSend (boundary : Nat)
  /-- PTP_ANNOUNCE_SEND (R427): As MASTER the module sends an Announce at each logAnnounceInterval with the values of R427. -/
  | ptpAnnounceSend
  deriving DecidableEq, Repr

end Sys2Proof
end

