-- ==== Sys2Proof/Machine/Fp.lean ====
section
/-! DEFINITION. IEEE 754 binary32 and binary64 arithmetic on bit patterns, exact and then rounded to nearest, ties to even (R210, R227). -/

namespace Sys2Proof.Machine

/-- A binary format: precision, least exponent, width of the encoding. -/
structure Fmt where
  p : Nat
  emin : Int
  width : Nat
  deriving DecidableEq, Repr

def fmt32 : Fmt := ⟨24, -149, 32⟩
def fmt64 : Fmt := ⟨53, -1074, 64⟩

/-- A finite number: sign, magnitude m · 2^e. -/
structure Fl where
  neg : Bool
  m : Nat
  e : Int
  deriving DecidableEq, Repr

/-- A number before rounding, with a sticky bit below its last place. -/
structure Raw where
  neg : Bool
  m : Nat
  e : Int
  sticky : Bool
  deriving DecidableEq, Repr

/-- A rounded result: bit pattern, and whether the magnitude overflowed the format (the pattern is then the largest finite one). -/
structure Rounded where
  bits : Nat
  ovf : Bool
  deriving DecidableEq, Repr

/-- Bits of the exponent field. -/
def Fmt.expBits (f : Fmt) : Nat := f.width - f.p

/-- The pattern of infinity without its sign: one above the largest finite magnitude. -/
def Fmt.inf (f : Fmt) : Nat := (2 ^ f.expBits - 1) * 2 ^ (f.p - 1)

/-- The sign bit's weight. -/
def Fmt.signBit (f : Fmt) : Nat := 2 ^ (f.width - 1)

/-- Whether a pattern is a finite number. -/
def Fmt.finite (f : Fmt) (b : Nat) : Bool := decide (b % f.signBit < f.inf)

/-- Decode a pattern as a finite number (an infinity or NaN pattern decodes by its fields and is never asked for). -/
def Fmt.decode (f : Fmt) (b : Nat) : Fl :=
  let mag := b % f.signBit
  let ex := mag / 2 ^ (f.p - 1)
  let fr := mag % 2 ^ (f.p - 1)
  let neg := decide (f.signBit ≤ b)
  if ex = 0 then ⟨neg, fr, f.emin⟩ else ⟨neg, fr + 2 ^ (f.p - 1), f.emin + (ex : Int) - 1⟩

/-- The number of bits of a magnitude. -/
def bitLen (m : Nat) : Nat := if m = 0 then 0 else Nat.log2 m + 1

/-- Round a magnitude of 2^-s units to an integer, ties to even. -/
def roundShift (m s : Nat) (sticky : Bool) : Nat :=
  if s = 0 then m
  else
    let q := m / 2 ^ s
    let r := m % 2 ^ s
    let half := 2 ^ (s - 1)
    if r > half ∨ (r = half ∧ (sticky ∨ q % 2 = 1)) then q + 1 else q

/-- Round to a format. -/
def Fmt.round (f : Fmt) (x : Raw) : Rounded :=
  let sgn := if x.neg then f.signBit else 0
  if x.m = 0 then ⟨sgn, false⟩
  else
    let t := max (x.e + (bitLen x.m : Int) - (f.p : Int)) f.emin
    let q := if t ≤ x.e then x.m * 2 ^ (x.e - t).toNat else roundShift x.m (t - x.e).toNat x.sticky
    let mag := if q < 2 ^ (f.p - 1) then q else ((t - f.emin).toNat + 1) * 2 ^ (f.p - 1) + (q - 2 ^ (f.p - 1))
    if f.inf ≤ mag then ⟨sgn + f.inf - 1, true⟩ else ⟨sgn + mag, false⟩

/-- A finite number before rounding. -/
def Fl.raw (x : Fl) : Raw := ⟨x.neg, x.m, x.e, false⟩

/-- The integer of a number in units of 2^u, for u no greater than its exponent. -/
def Fl.scaled (x : Fl) (u : Int) : Int :=
  let v : Int := (x.m * 2 ^ (x.e - u).toNat : Nat)
  if x.neg then -v else v

/-- An integer as a finite number. -/
def Fl.ofInt (v : Int) : Fl := ⟨decide (v < 0), v.natAbs, 0⟩

/-- Exact sum; a zero sum is negative only when both terms are. -/
def Fl.add (x y : Fl) : Raw :=
  let u := min x.e y.e
  let v := x.scaled u + y.scaled u
  ⟨if v = 0 then x.neg && y.neg else decide (v < 0), v.natAbs, u, false⟩

def Fl.negate (x : Fl) : Fl := { x with neg := !x.neg }
def Fl.sub (x y : Fl) : Raw := x.add y.negate
def Fl.mul (x y : Fl) : Raw := ⟨xor x.neg y.neg, x.m * y.m, x.e + y.e, false⟩

/-- Quotient by a non-zero number, to 64 bits beyond any format's precision and a sticky bit. -/
def Fl.div (x y : Fl) : Raw :=
  let k := bitLen y.m + 128
  let n := x.m * 2 ^ k
  ⟨xor x.neg y.neg, n / y.m, x.e - y.e - (k : Int), decide (n % y.m ≠ 0)⟩

/-- Integer square root, bit by bit from bit `k - 1` down. -/
def isqrt (n : Nat) : Nat → Nat → Nat
  | 0, r => r
  | k + 1, r => isqrt n k (if (r + 2 ^ k) * (r + 2 ^ k) ≤ n then r + 2 ^ k else r)

/-- Square root of a non-negative number, to 64 bits beyond any format's precision and a sticky bit. -/
def Fl.sqrt (x : Fl) : Raw :=
  let k : Nat := 128 + (if (x.e % 2 = 0) then 0 else 1)
  let n := x.m * 2 ^ k
  let r := isqrt n (bitLen n / 2 + 1) 0
  ⟨false, r, (x.e - (k : Int)) / 2, decide (r * r ≠ n)⟩

/-- Exact comparisons. -/
def Fl.lt (x y : Fl) : Bool := let u := min x.e y.e; decide (x.scaled u < y.scaled u)
def Fl.eq (x y : Fl) : Bool := let u := min x.e y.e; decide (x.scaled u = y.scaled u)
def Fl.le (x y : Fl) : Bool := x.lt y || x.eq y

/-- Truncation towards zero, and the nearest integer with ties away from zero (R166). -/
def Fl.trunc (x : Fl) : Int :=
  let v : Int := if 0 ≤ x.e then (x.m * 2 ^ x.e.toNat : Nat) else (x.m / 2 ^ (-x.e).toNat : Nat)
  if x.neg then -v else v
def Fl.nearest (x : Fl) : Int :=
  let v : Int := if 0 ≤ x.e then (x.m * 2 ^ x.e.toNat : Nat) else ((2 * x.m + 2 ^ (-x.e).toNat) / 2 ^ ((-x.e).toNat + 1) : Nat)
  if x.neg then -v else v

/-- Binary64 operations on patterns; an overflow gives the largest finite magnitude of its sign. -/
def r64 (b : Nat) : Fl := fmt64.decode b
def add64 (a b : Nat) : Nat := (fmt64.round ((r64 a).add (r64 b))).bits
def sub64 (a b : Nat) : Nat := (fmt64.round ((r64 a).sub (r64 b))).bits
def mul64 (a b : Nat) : Nat := (fmt64.round ((r64 a).mul (r64 b))).bits
def div64 (a b : Nat) : Nat := (fmt64.round ((r64 a).div (r64 b))).bits
def lt64 (a b : Nat) : Bool := (r64 a).lt (r64 b)
def le64 (a b : Nat) : Bool := (r64 a).le (r64 b)
def neg64 (a : Nat) : Nat := (a + fmt64.signBit) % 2 ^ 64
def int64 (v : Int) : Nat := (fmt64.round (Fl.ofInt v).raw).bits
def min64 (a b : Nat) : Nat := if lt64 b a then b else a
def max64 (a b : Nat) : Nat := if lt64 a b then b else a
def abs64 (a : Nat) : Nat := a % fmt64.signBit

/-- Binary32 operations on patterns, the same way. -/
def r32 (b : Nat) : Fl := fmt32.decode b
def add32 (a b : Nat) : Nat := (fmt32.round ((r32 a).add (r32 b))).bits
def sub32 (a b : Nat) : Nat := (fmt32.round ((r32 a).sub (r32 b))).bits
def mul32 (a b : Nat) : Nat := (fmt32.round ((r32 a).mul (r32 b))).bits
def div32 (a b : Nat) : Nat := (fmt32.round ((r32 a).div (r32 b))).bits
def lt32 (a b : Nat) : Bool := (r32 a).lt (r32 b)
def le32 (a b : Nat) : Bool := (r32 a).le (r32 b)
def eq32 (a b : Nat) : Bool := (r32 a).eq (r32 b)
def neg32 (a : Nat) : Nat := (a + fmt32.signBit) % 2 ^ 32
def int32 (v : Int) : Nat := (fmt32.round (Fl.ofInt v).raw).bits
def min32 (a b : Nat) : Nat := if lt32 b a then b else a
def max32 (a b : Nat) : Nat := if lt32 a b then b else a
def abs32 (a : Nat) : Nat := a % fmt32.signBit
def sqrt32 (a : Nat) : Nat := (fmt32.round (r32 a).sqrt).bits
def fin32 (a : Nat) : Bool := fmt32.finite a

/-- A binary32 as binary64, exactly, and back by rounding. -/
def widen32 (a : Nat) : Nat := (fmt64.round (r32 a).raw).bits
def narrow64 (a : Nat) : Rounded := fmt32.round (r64 a).raw

/-- A ratio of integers rounded to binary32 (denominator positive). -/
def ratio32 (n : Int) (d : Nat) : Nat := (fmt32.round ((Fl.ofInt n).div (Fl.ofInt d))).bits
def ratio64 (n : Int) (d : Nat) : Nat := (fmt64.round ((Fl.ofInt n).div (Fl.ofInt d))).bits

end Sys2Proof.Machine
end

