-- ==== Sys2Proof/Machine/Elements.lean ====
section
/-! DEFINITION. Data types, elements, quality bytes (R210 to R213), and route conversions and quality rules (R165 to R167). -/

namespace Sys2Proof.Machine

/-- Value bytes of a type code (R210): 1 BOOL, 2 INT16, 3 INT32, 4 REAL32, 5 REAL64, 6 TIME. -/
def tySize : Nat → Nat
  | 1 => 1 | 2 => 2 | 3 => 4 | 4 => 4 | 5 => 8 | 6 => 8 | _ => 0

/-- Offset of the quality byte, element size and alignment of a type (R212). -/
def tyQual (t : Nat) : Nat := tySize t
def tyElem (t : Nat) : Nat := 2 * tySize t
def tyAlign : Nat → Nat
  | 1 => 2 | 2 => 4 | 3 => 4 | 4 => 4 | 5 => 8 | 6 => 8 | _ => 1

def tyValid (t : Nat) : Bool := decide (1 ≤ t) && decide (t ≤ 6)
def tyReal (t : Nat) : Bool := decide (t = 4) || decide (t = 5)
def tyNum (t : Nat) : Bool := decide (2 ≤ t) && decide (t ≤ 5)
def tyFmt (t : Nat) : Fmt := if t = 4 then fmt32 else fmt64

/-- A value with its quality byte: the value is the type's bit pattern. -/
structure El where
  v : Nat
  q : Nat
  deriving DecidableEq, Repr

/-- Quality bytes (R213): STATE in [1:0], DETAIL in [7:2]. -/
def qGood : Nat := 0
def qState (q : Nat) : Nat := q % 4
def qDetail (q : Nat) : Nat := q / 4
def qUnc (r : Nat) : Nat := 1 + 4 * r
def qBad (r : Nat) : Nat := 3 + 4 * r
def qStale (age : Nat) : Nat := 2 + 4 * min 63 age

/-- Whether a STATE is GOOD or UNCERTAIN. -/
def qUsable (q : Nat) : Bool := decide (qState q ≤ 1)

/-- The quality of a block's output from its contributing inputs (R225, steps 2 and 3). -/
def qWorst (qs : List Nat) : Nat :=
  let st := (qs.map qState).foldl max 0
  if st = 2 then 2 + 4 * ((qs.filter (fun q => decide (qState q = 2))).map qDetail).foldl max 0
  else match qs.find? (fun q => decide (qState q = st)) with
    | some q => st + 4 * qDetail q
    | none => 0

/-- An exception whose STATE is UNCERTAIN, and one whose STATE is BAD (R225, step 4). -/
def qLower (r : Nat) (act : Bool) (q : Nat) : Nat := if act ∧ qState q = 0 then qUnc r else q
def qWorsen (r : Nat) (act : Bool) (q : Nat) : Nat := if act ∧ qState q ≠ 3 then qBad r else q

/-- A BOOL pattern. -/
def boolVal (b : Bool) : Nat := if b then 1 else 0
def isTrue (v : Nat) : Bool := decide (v ≠ 0)

/-- The signed value of an INT16, INT32 or TIME pattern, and back. -/
def tyInt (t v : Nat) : Int := sint (8 * tySize t) v
def tyOfInt (t : Nat) (i : Int) : Nat := unsint (8 * tySize t) i

/-- Clamp an exact integer to the range of a type: the pattern, and whether it was clamped. -/
def clampInt (t : Nat) (i : Int) : Nat × Bool :=
  let c := satInt (8 * tySize t) i
  (tyOfInt t c, decide (c ≠ i))

/-- A numeric pattern as an exact number. -/
def numOf (t v : Nat) : Fl := if tyReal t then (tyFmt t).decode v else Fl.ofInt (tyInt t v)

/-- Round to a type and clamp to its range (R166, SAT): integers to nearest, ties away from zero. -/
def satTo (t : Nat) (x : Fl) : Nat × Bool :=
  if tyReal t then
    let r := (tyFmt t).round x.raw
    (r.bits, r.ovf)
  else clampInt t x.nearest

/-- Whether a pattern of a type is finite (integers always are). -/
def tyFinite (t v : Nat) : Bool := if tyReal t then (tyFmt t).finite v else true

/-- One route record (R165). -/
structure Route where
  src : Nat
  dst : Nat
  sty : Nat
  dty : Nat
  conv : Nat
  qrule : Nat
  scale : Nat
  offset : Nat
  subst : Nat
  deriving DecidableEq, Repr

/-- SUBST in the sink's type (R165): INT32 for BOOL, integers and TIME, REAL32 for reals; sign-extended or widened exactly. -/
def substVal (t subst : Nat) : Nat :=
  if t = 4 then subst else if t = 5 then widen32 subst
  else if t = 1 then boolVal (decide (subst ≠ 0)) else tyOfInt t (sint 32 subst)

/-- SCALE · x + OFFSET in REAL64 (R166, LINEAR): none when a step is not finite. -/
def linear64 (scale offset : Nat) (x : Fl) : Option Fl :=
  let p := fmt64.round ((r32 scale).mul x)
  let r := fmt64.round ((r64 p.bits).add (r32 offset))
  if p.ovf ∨ r.ovf ∨ ¬ fin32 scale ∨ ¬ fin32 offset then none else some (r64 r.bits)

/-- A converted value: pattern, clamped, not finite (R166). -/
structure Converted where
  v : Nat
  sat : Bool
  nonfinite : Bool
  deriving DecidableEq, Repr

/-- The conversions of R166. -/
def convert (r : Route) (v : Nat) : Converted :=
  let plain := fun (p : Nat × Bool) => (⟨p.1, p.2, false⟩ : Converted)
  if ¬ tyFinite r.sty v then ⟨0, false, true⟩
  else match r.conv with
    | 0 => ⟨v, false, false⟩
    | 1 => plain (satTo r.dty (numOf r.sty v))
    | 2 => plain (satTo r.dty (numOf r.sty v))
    | 3 => match linear64 r.scale r.offset (numOf r.sty v) with
      | some x => plain (satTo r.dty x)
      | none => ⟨0, false, true⟩
    | 4 => ⟨boolVal ((r32 r.offset).le (numOf r.sty v)), false, false⟩
    | 5 => plain (satTo r.dty (r32 (if isTrue v then r.scale else r.offset)))
    | _ => ⟨boolVal (!isTrue v), false, false⟩

/-- What a route does with a source value (R166, R167): the sink's element, the last usable value it then keeps, whether it clamped
and whether it substituted. `last` is the last converted value that arrived GOOD or UNCERTAIN. -/
structure Routed where
  el : El
  last : Option Nat
  sat : Bool
  substituted : Bool
  deriving DecidableEq, Repr

def applyRoute (r : Route) (e : El) (last : Option Nat) : Routed :=
  let sub := substVal r.dty r.subst
  if r.src / 2 ^ 24 = 9 then ⟨⟨sub, qGood⟩, last, false, false⟩
  else
    let c := convert r e.v
    if c.nonfinite then ⟨⟨sub, qBad 0x1F⟩, last, false, false⟩
    else if qUsable e.q then ⟨⟨c.v, qLower 1 c.sat e.q⟩, some c.v, c.sat, false⟩
    else match r.qrule with
      | 1 => ⟨⟨sub, e.q⟩, last, c.sat, true⟩
      | 2 => ⟨⟨last.getD sub, e.q⟩, last, c.sat, true⟩
      | _ => ⟨⟨c.v, e.q⟩, last, c.sat, false⟩

end Sys2Proof.Machine
end

