-- ==== Sys2Proof/Config.lean ====
section
/-! DEFINITION. What an implementation fixes and the free values: opaque constants without a body, so that no proof can see
what they are. Each is indexed by the State's counter of free values or by the operands it depends on. -/

namespace Sys2Proof.Config

/-- A fresh number of the hardware random generator (R115): the `n`-th draw. -/
opaque randomWord : Nat → BitVec 128

/-- A value the spec does not state: the `n`-th one drawn. -/
opaque freeWord : Nat → BitVec 64

/-- CTX of a descriptor that a hardware port pushes, by the port's end code (R128 leaves it to the port's chapter, which is silent). -/
opaque descCtx : Nat → BitVec 32

/-- The detail code of EV_RDL_GIVEUP and of the GIVE_UP notice, by row of R467's table (its numbering is not given). -/
opaque giveUpCode : Nat → BitVec 8

/-- REC after a valid receipt by an error-passive port: 119 plus this (ISO 11898-1 leaves 119 to 127 open). -/
opaque recAfter : Nat → Fin 9

/-- Whether a higher TRIM makes IOSC faster (R76 gives the step's size, not its sense). -/
opaque trimUpFaster : Bool

/-- S(k) + 20 of a waveform (R503: |S(k)| never exceeds 20): by band, whether it is the clearing waveform, and the frame boundary k. -/
opaque waveSum : Nat → Bool → Nat → Fin 41

/-- Where the field side's port puts the payload of its n-th push to QRSP (R128 leaves a hardware producer's buffers to its chapter, which
is silent): a 16-byte unit of shared SRAM. -/
opaque hartBuffer : Nat → Fin 1179630

/-- The IPv4 address of a unit of a pair (R375 names one for each position, and the image gives one): by position (true for B) and the
address of the image. -/
opaque pairAddress : Bool → BitVec 32 → BitVec 32

/-- Where the internal switch port puts the payload of its n-th push to queue 0 (R128): a 16-byte unit of shared SRAM. -/
opaque netBuffer : Nat → Fin 1179552

/-- The task whose V space a V offset of a CARRY entry names (R179 gives the entry no task): by side (true for the new image) and offset. -/
opaque carryTask : Bool → BitVec 32 → Fin 9

/-- Base addresses of the descriptor rings of queues 0 and 1 of the Slath (R162 gives their size only), as 1,024-byte units of shared SRAM:
the first, and how far the second lies behind it. -/
opaque slathRing : Fin 18432
opaque slathGap : Fin 18431

/-- PHY_ING and PHY_EGR of the factory calibration by switch port, in 1/16 ns (R429; its layout in the OTP space is not given). -/
opaque phyIngress : Nat → BitVec 16
opaque phyEgress : Nat → BitVec 16

/-- The addend that the servo of Pair 0 firmware writes at its n-th Sync, above the lower clamp (R431, R432 fix no control law). -/
opaque servoAddend : Nat → Fin 1342177

/-- Minor and patch number of the running firmware release, whose major number is 1 (R1, R160). -/
opaque fwRelease : BitVec 16

end Sys2Proof.Config
end

