-- ==== Sys2Proof/Machine/Crypto.lean ====
section
/-! DEFINITION. The check values and cryptographic functions the spec names by standard (R5): CRC-32C, CRC-64/ECMA-182, SHA-256,
SHA-512, HMAC-SHA-256 and Ed25519 verification (RFC 8032, pure form). -/

namespace Sys2Proof.Machine

/-- One reflected step of CRC-32C for one bit. -/
def crc32cBit (c : BitVec 32) : BitVec 32 :=
  if c.getLsbD 0 then (c >>> 1) ^^^ 0x82F63B78 else c >>> 1

/-- CRC-32C (Castagnoli) folded over one byte. -/
def crc32cByte (c : BitVec 32) (b : Byte) : BitVec 32 :=
  crc32cBit (crc32cBit (crc32cBit (crc32cBit (crc32cBit (crc32cBit (crc32cBit (crc32cBit (c ^^^ b.setWidth 32))))))))

/-- CRC-32C of a byte string (R5: RFC 3720 appendix B.4). -/
def crc32c (bs : List Byte) : Nat := (~~~(bs.foldl crc32cByte 0xFFFFFFFF)).toNat

/-- One step of CRC-64/ECMA-182 for one bit. -/
def crc64Bit (c : BitVec 64) : BitVec 64 :=
  if c.getLsbD 63 then (c <<< 1) ^^^ 0x42F0E1EBA9EA3693 else c <<< 1

/-- CRC-64/ECMA-182 folded over one byte. -/
def crc64Byte (c : BitVec 64) (b : Byte) : BitVec 64 :=
  crc64Bit (crc64Bit (crc64Bit (crc64Bit (crc64Bit (crc64Bit (crc64Bit (crc64Bit (c ^^^ (b.setWidth 64 <<< 56)))))))))

/-- CRC-64/ECMA-182 of a byte string (R462: initial value 0, no reflection, no final XOR). -/
def crc64 (bs : List Byte) : Nat := (bs.foldl crc64Byte 0).toNat

/-- Round constants of FIPS 180-4, part 0. -/
def sha256K0 : List (BitVec 32) :=
  [0x428a2f98, 0x71374491, 0xb5c0fbcf, 0xe9b5dba5, 0x3956c25b, 0x59f111f1, 0x923f82a4, 0xab1c5ed5,
   0xd807aa98, 0x12835b01, 0x243185be, 0x550c7dc3, 0x72be5d74, 0x80deb1fe, 0x9bdc06a7, 0xc19bf174,
   0xe49b69c1, 0xefbe4786, 0xfc19dc6, 0x240ca1cc]

/-- Round constants of FIPS 180-4, part 1. -/
def sha256K1 : List (BitVec 32) :=
  [0x2de92c6f, 0x4a7484aa, 0x5cb0a9dc, 0x76f988da, 0x983e5152, 0xa831c66d, 0xb00327c8, 0xbf597fc7,
   0xc6e00bf3, 0xd5a79147, 0x6ca6351, 0x14292967, 0x27b70a85, 0x2e1b2138, 0x4d2c6dfc, 0x53380d13,
   0x650a7354, 0x766a0abb, 0x81c2c92e, 0x92722c85]

/-- Round constants of FIPS 180-4, part 2. -/
def sha256K2 : List (BitVec 32) :=
  [0xa2bfe8a1, 0xa81a664b, 0xc24b8b70, 0xc76c51a3, 0xd192e819, 0xd6990624, 0xf40e3585, 0x106aa070,
   0x19a4c116, 0x1e376c08, 0x2748774c, 0x34b0bcb5, 0x391c0cb3, 0x4ed8aa4a, 0x5b9cca4f, 0x682e6ff3,
   0x748f82ee, 0x78a5636f, 0x84c87814, 0x8cc70208]

/-- Round constants of FIPS 180-4, part 3. -/
def sha256K3 : List (BitVec 32) :=
  [0x90befffa, 0xa4506ceb, 0xbef9a3f7, 0xc67178f2]

/-- The round constants of FIPS 180-4. -/
def sha256K : List (BitVec 32) := sha256K0 ++ sha256K1 ++ sha256K2 ++ sha256K3

/-- SHA-256's initial hash value. -/
def sha256H0 : List (BitVec 32) :=
  [0x6a09e667, 0xbb67ae85, 0x3c6ef372, 0xa54ff53a, 0x510e527f, 0x9b05688c, 0x1f83d9ab, 0x5be0cd19]

/-- Round constants of FIPS 180-4, part 0. -/
def sha512K0 : List (BitVec 64) :=
  [0x428a2f98d728ae22, 0x7137449123ef65cd, 0xb5c0fbcfec4d3b2f, 0xe9b5dba58189dbbc,
   0x3956c25bf348b538, 0x59f111f1b605d019, 0x923f82a4af194f9b, 0xab1c5ed5da6d8118,
   0xd807aa98a3030242, 0x12835b0145706fbe, 0x243185be4ee4b28c, 0x550c7dc3d5ffb4e2,
   0x72be5d74f27b896f, 0x80deb1fe3b1696b1, 0x9bdc06a725c71235, 0xc19bf174cf692694,
   0xe49b69c19ef14ad2, 0xefbe4786384f25e3, 0xfc19dc68b8cd5b5, 0x240ca1cc77ac9c65]

/-- Round constants of FIPS 180-4, part 1. -/
def sha512K1 : List (BitVec 64) :=
  [0x2de92c6f592b0275, 0x4a7484aa6ea6e483, 0x5cb0a9dcbd41fbd4, 0x76f988da831153b5,
   0x983e5152ee66dfab, 0xa831c66d2db43210, 0xb00327c898fb213f, 0xbf597fc7beef0ee4,
   0xc6e00bf33da88fc2, 0xd5a79147930aa725, 0x6ca6351e003826f, 0x142929670a0e6e70,
   0x27b70a8546d22ffc, 0x2e1b21385c26c926, 0x4d2c6dfc5ac42aed, 0x53380d139d95b3df,
   0x650a73548baf63de, 0x766a0abb3c77b2a8, 0x81c2c92e47edaee6, 0x92722c851482353b]

/-- Round constants of FIPS 180-4, part 2. -/
def sha512K2 : List (BitVec 64) :=
  [0xa2bfe8a14cf10364, 0xa81a664bbc423001, 0xc24b8b70d0f89791, 0xc76c51a30654be30,
   0xd192e819d6ef5218, 0xd69906245565a910, 0xf40e35855771202a, 0x106aa07032bbd1b8,
   0x19a4c116b8d2d0c8, 0x1e376c085141ab53, 0x2748774cdf8eeb99, 0x34b0bcb5e19b48a8,
   0x391c0cb3c5c95a63, 0x4ed8aa4ae3418acb, 0x5b9cca4f7763e373, 0x682e6ff3d6b2b8a3,
   0x748f82ee5defb2fc, 0x78a5636f43172f60, 0x84c87814a1f0ab72, 0x8cc702081a6439ec]

/-- Round constants of FIPS 180-4, part 3. -/
def sha512K3 : List (BitVec 64) :=
  [0x90befffa23631e28, 0xa4506cebde82bde9, 0xbef9a3f7b2c67915, 0xc67178f2e372532b,
   0xca273eceea26619c, 0xd186b8c721c0c207, 0xeada7dd6cde0eb1e, 0xf57d4f7fee6ed178,
   0x6f067aa72176fba, 0xa637dc5a2c898a6, 0x113f9804bef90dae, 0x1b710b35131c471b,
   0x28db77f523047d84, 0x32caab7b40c72493, 0x3c9ebe0a15c9bebc, 0x431d67c49c100d4c,
   0x4cc5d4becb3e42b6, 0x597f299cfc657e2a, 0x5fcb6fab3ad6faec, 0x6c44198c4a475817]

/-- The round constants of FIPS 180-4. -/
def sha512K : List (BitVec 64) := sha512K0 ++ sha512K1 ++ sha512K2 ++ sha512K3

/-- SHA-512's initial hash value. -/
def sha512H0 : List (BitVec 64) :=
  [0x6a09e667f3bcc908, 0xbb67ae8584caa73b, 0x3c6ef372fe94f82b, 0xa54ff53a5f1d36f1,
   0x510e527fade682d1, 0x9b05688c2b3e6c1f, 0x1f83d9abfb41bd6b, 0x5be0cd19137e2179]

/-- Message padding of FIPS 180-4 for blocks of `blk` bytes with a length field of `lf` bytes. -/
def shaPad (blk lf : Nat) (m : List Byte) : List Byte :=
  let z := (blk - (m.length + 1 + lf) % blk) % blk
  m ++ [0x80] ++ List.replicate z 0 ++ beBytes lf (8 * m.length)

/-- The rotation amounts and round count that distinguish SHA-256 from SHA-512. -/
structure ShaParams where
  bytes : Nat
  rounds : Nat
  bs0 : Nat × Nat × Nat
  bs1 : Nat × Nat × Nat
  ss0 : Nat × Nat × Nat
  ss1 : Nat × Nat × Nat
  deriving DecidableEq, Repr

def sha256Params : ShaParams := ⟨4, 64, (2, 13, 22), (6, 11, 25), (7, 18, 3), (17, 19, 10)⟩
def sha512Params : ShaParams := ⟨8, 80, (28, 34, 39), (14, 18, 41), (1, 8, 7), (19, 61, 6)⟩

variable {w : Nat}

def shaBig (r : Nat × Nat × Nat) (x : BitVec w) : BitVec w :=
  x.rotateRight r.1 ^^^ x.rotateRight r.2.1 ^^^ x.rotateRight r.2.2

def shaSmall (r : Nat × Nat × Nat) (x : BitVec w) : BitVec w :=
  x.rotateRight r.1 ^^^ x.rotateRight r.2.1 ^^^ (x >>> r.2.2)

/-- One compression round on (a, …, h) with schedule word `wt` and constant `k`. -/
def shaRound (p : ShaParams) (h : List (BitVec w)) (k wt : BitVec w) : List (BitVec w) :=
  match h with
  | [a, b, c, d, e, f, g, h] =>
    let t1 := h + shaBig p.bs1 e + ((e &&& f) ^^^ (~~~e &&& g)) + k + wt
    let t2 := shaBig p.bs0 a + ((a &&& b) ^^^ (a &&& c) ^^^ (b &&& c))
    [t1 + t2, a, b, c, d + t1, e, f, g]
  | l => l

/-- The message schedule, newest word first: `n` more words. -/
def shaSchedule (p : ShaParams) : Nat → List (BitVec w) → List (BitVec w)
  | 0, ws => ws
  | n + 1, ws =>
    shaSchedule p n ((shaSmall p.ss1 (ws.getD 1 0) + ws.getD 6 0 + shaSmall p.ss0 (ws.getD 14 0) + ws.getD 15 0) :: ws)

/-- One block. -/
def shaBlock (p : ShaParams) (ks : List (BitVec w)) (h : List (BitVec w)) (block : List Byte) : List (BitVec w) :=
  let m := (List.range 16).map (fun i => BitVec.ofNat w (beNat (slice block (p.bytes * i) p.bytes)))
  let ws := (shaSchedule p (p.rounds - 16) m.reverse).reverse
  List.zipWith (· + ·) h ((List.zip ks ws).foldl (fun h kw => shaRound p h kw.1 kw.2) h)

/-- The hash over every block. -/
def shaBlocks (p : ShaParams) (ks : List (BitVec w)) : Nat → List (BitVec w) → List Byte → List (BitVec w)
  | 0, h, _ => h
  | n + 1, h, m => shaBlocks p ks n (shaBlock p ks h (m.take (16 * p.bytes))) (m.drop (16 * p.bytes))

/-- SHA-256 of a byte string. -/
def sha256 (m : List Byte) : List Byte :=
  let q := shaPad 64 8 m
  (shaBlocks sha256Params sha256K (q.length / 64) sha256H0 q).flatMap (fun x => beBytes 4 x.toNat)

/-- SHA-512 of a byte string. -/
def sha512 (m : List Byte) : List Byte :=
  let q := shaPad 128 16 m
  (shaBlocks sha512Params sha512K (q.length / 128) sha512H0 q).flatMap (fun x => beBytes 8 x.toNat)

/-- HMAC-SHA-256 (RFC 2104). -/
def hmac (key m : List Byte) : List Byte :=
  let k := if key.length > 64 then sha256 key else key
  let k := k ++ List.replicate (64 - k.length) 0
  sha256 (k.map (· ^^^ 0x5C) ++ sha256 (k.map (· ^^^ 0x36) ++ m))

/-- The field prime of Ed25519. -/
def edP : Nat := 2 ^ 255 - 19
/-- The group order of Ed25519. -/
def edL : Nat := 2 ^ 252 + 27742317777372353535851937790883648493

/-- `b ^ e mod m` by squaring, over the low `n` bits of `e`. -/
def powMod (m : Nat) : Nat → Nat → Nat → Nat → Nat
  | 0, _, _, acc => acc
  | n + 1, b, e, acc => powMod m n (b * b % m) (e / 2) (if e % 2 = 1 then acc * b % m else acc)

def edInv (x : Nat) : Nat := powMod edP 256 (x % edP) (edP - 2) 1
/-- The curve constant d = −121665 / 121666. -/
def edD : Nat := (edP - 121665) * edInv 121666 % edP

/-- A curve point in extended coordinates. -/
structure EdPoint where
  x : Nat
  y : Nat
  z : Nat
  t : Nat
  deriving DecidableEq, Repr

def edAdd (p q : EdPoint) : EdPoint :=
  let a := (p.y + edP - p.x) * (q.y + edP - q.x) % edP
  let b := (p.y + p.x) * (q.y + q.x) % edP
  let c := 2 * p.t * q.t % edP * edD % edP
  let d := 2 * p.z * q.z % edP
  let e := b + edP - a
  let f := d + edP - c
  let g := d + c
  let h := b + a
  ⟨e * f % edP, g * h % edP, f * g % edP, e * h % edP⟩

/-- Scalar multiple over the low `n` bits of the scalar. -/
def edMul : Nat → Nat → EdPoint → EdPoint → EdPoint
  | 0, _, _, acc => acc
  | n + 1, k, p, acc => edMul n (k / 2) (edAdd p p) (if k % 2 = 1 then edAdd acc p else acc)

def edZero : EdPoint := ⟨0, 1, 1, 0⟩

/-- x from y and the sign bit (RFC 8032, 5.1.3); none where y is no point's. -/
def edRecoverX (y sign : Nat) : Option Nat :=
  if y ≥ edP then none else
  let x2 := (y * y + edP - 1) % edP * edInv (edD * (y * y % edP) + 1) % edP
  if x2 = 0 then (if sign = 1 then none else some 0) else
  let x := powMod edP 256 x2 ((edP + 3) / 8) 1
  let x := if (x * x + edP - x2) % edP = 0 then x else x * powMod edP 256 2 ((edP - 1) / 4) 1 % edP
  if (x * x + edP - x2) % edP ≠ 0 then none
  else some (if x % 2 = sign then x else edP - x)

/-- Decode 32 bytes to a point. -/
def edDecode (b : List Byte) : Option EdPoint :=
  let v := leNat b
  let y := v % 2 ^ 255
  match edRecoverX y (v / 2 ^ 255) with
  | none => none
  | some x => some ⟨x, y, 1, x * y % edP⟩

/-- The base point (y = 4/5, x even). -/
def edBase : EdPoint :=
  let y := 4 * edInv 5 % edP
  match edRecoverX y 0 with
  | none => edZero
  | some x => ⟨x, y, 1, x * y % edP⟩

def edEq (p q : EdPoint) : Bool :=
  decide (p.x * q.z % edP = q.x * p.z % edP) && decide (p.y * q.z % edP = q.y * p.z % edP)

/-- Ed25519 verification of signature `sig` (64 bytes) under public key `pk` (32 bytes): S·B = R + h·A with S below the order. -/
def edVerify (pk msg sig : List Byte) : Bool :=
  if pk.length ≠ 32 ∨ sig.length ≠ 64 then false else
  match edDecode pk, edDecode (sig.take 32) with
  | some a, some r =>
    let s := leNat (sig.drop 32)
    let h := leNat (sha512 (sig.take 32 ++ pk ++ msg)) % edL
    decide (s < edL) && edEq (edMul 256 s edBase edZero) (edAdd r (edMul 256 h a edZero))
  | _, _ => false

end Sys2Proof.Machine
end

