-- ==== Sys2Proof/Machine/Parts.lean ====
section
/-! DEFINITION. The plain data that the blocks of the module hold beyond their registers: one structure per block. -/

namespace Sys2Proof.Machine

/-- The phase of the station's life (R88, R515): OFF, the parts of start-up that wait on an outside event, RUN, DOZE, HALT. -/
inductive Phase where
  | off | ready | negotiating | ptpWait | run | doze | halt
  deriving DecidableEq, Repr

/-- Why the next start-up begins (CPM_RSTCAUSE, R95). -/
inductive RstCause where
  | power | swreq | supret | auto
  deriving DecidableEq, Repr

/-- A frequency measurement in progress (R78). -/
structure FmRun where
  meas : Nat
  ref : Nat
  gate : Nat
  deriving DecidableEq, Repr

/-- The CPM's state beyond its registers (02, 03, 21). -/
structure Cpm where
  phase : Phase
  startCause : RstCause
  /-- the slot code the carrier presents now (R43) -/
  slotNow : Nat
  /-- the hold-up store supplies the rails (R49, R50) -/
  holdUp : Bool
  /-- a handover input level has been accepted since start-up (R39) -/
  giveSeen : Bool
  takeSeen : Bool
  /-- the input's level lies in the indeterminate band (R39) -/
  giveIndet : Bool
  takeIndet : Bool
  /-- HALT is entered when the waiting STOP record is written (R444, R468, R201) -/
  haltOnStop : Bool
  /-- HALT, faulted: no service runs unless `service` (R516) -/
  faulted : Bool
  service : Bool
  /-- a DOZE wake has started the main PLL (R91) -/
  waking : Bool
  /-- a frequency measurement runs -/
  fm : Option FmRun
  /-- operating second of each automatic restart of the last 86,400 (R468) -/
  autoRst : List Nat
  /-- instant at which the STOP record of a give-up or station stop was written, while an automatic restart may follow -/
  restartFrom : Option Nat
  /-- the stop was an overrun, after which no automatic restart follows (R524) -/
  overrunStop : Bool
  /-- give-up with a fault, by GIVE, or test (R468); false for a plain station stop -/
  gaveUp : Bool
  /-- PTP instant of RUN entry (R190) -/
  runAt : Nat
  /-- PTP instant at which negotiation began, on the elapsed clock (R453) -/
  negAt : Nat
  /-- instant on the elapsed clock at which the present supply condition began -/
  supplyAt : Nat
  /-- sequence number of the newest retentive bank (R105) -/
  bankSeq : Nat
  /-- the MRAM copies of OPSEC, PWRCYC and the trim (R94), and the elapsed instant of the last save -/
  savedOp : Nat
  savedCyc : Nat
  savedTrim : Nat
  savedAt : Nat
  deriving DecidableEq, Repr

/-- One claimed entry of the recorder's buffer (R488): everything fixed at the occurrence, and its snapshot. -/
structure RecEntry where
  cls : Nat
  src : Nat
  opsec : Nat
  pwrcyc : Nat
  time : Nat
  flags : Nat
  role : Nat
  lo : Word
  hi : Word
  snap : List (Nat × Word)
  deriving DecidableEq, Repr

/-- The recorder's state beyond its registers and its MRAM area (19). -/
structure Recorder where
  buf : List RecEntry
  /-- per source, the elapsed instant of its last recorded occurrence (R486) -/
  last : List (Nat × Nat)
  /-- the present run of drops: count, first and last source (R488) -/
  lost : Option (Nat × Nat × Nat)
  deriving DecidableEq, Repr

/-- The queue unit's state beyond its registers (05). -/
structure Queues where
  /-- ring index of each queue's head -/
  head : List (Nat × Nat)
  /-- each class's pointer: the queue that last won at that class (R131) -/
  ptr : List (Nat × Nat)
  /-- per queue, a payload is at its port: the descriptor's 16 bytes -/
  atPort : List (Nat × List Byte)
  deriving DecidableEq, Repr

/-- The mailbox unit's state beyond its registers (05). -/
structure Mailboxes where
  /-- elapsed instant at which the present message of a mailbox was posted, and whether TMO has been set for it (R141) -/
  posted : List (Nat × Nat × Bool)
  /-- mailboxes 20 to 23 as Pair F sees them: posted and not yet seen taken (R140) -/
  fieldFull : List Nat
  deriving DecidableEq, Repr

/-- A held lock: the lock, the elapsed instant of its grant, and whether its hold has been reported (R150). -/
structure LockHold where
  lock : Nat
  since : Nat
  reported : Bool
  deriving DecidableEq, Repr

/-- One task class (07). The process images and V are sparse byte lists whose unlisted bytes read 0. -/
structure Task where
  /-- released, latch not complete -/
  latching : Bool
  /-- the latched release is executing (or interrupted) -/
  executing : Bool
  /-- the release is shadowed from an INPUT message (R461) -/
  shadow : Bool
  /-- t_rel (s_m for F) of the present or last release -/
  tRel : Nat
  /-- t_rel of the next release, while releases run -/
  nextRel : Option Nat
  /-- word index of the next call word in the task's code -/
  pc : Nat
  /-- elapsed instant of latch completion -/
  latchedAt : Nat
  /-- SYS values of the release (R217): P_c in µs, FIRST, Trick number, TRACE -/
  sysP : Nat
  sysFirst : Bool
  sysTrick : Nat
  sysTrace : Bool
  /-- no release of the task has run since start-up or under the running image (R217) -/
  fresh : Bool
  /-- latched input image I, with quality bytes in their places -/
  input : List Host.Cell
  /-- output image being written, committed Trick, applied Trick -/
  work : List Host.Cell
  committed : List Host.Cell
  applied : List Host.Cell
  /-- apply instant of the committed Trick that is pending -/
  applyAt : Option Nat
  /-- number of the applied Trick; none before the task's first release -/
  appliedTrick : Option Nat
  /-- instance data V -/
  v : List Host.Cell
  /-- G writes of the release, made at commit (R215): every byte written, listed or not by its value -/
  gPend : List Host.Cell
  /-- L writes of the release (R216) -/
  lPend : List (Nat × List Byte)
  /-- loop slot memory as latched at t_rel (R216) -/
  lLatch : List Host.Cell
  /-- 64-byte lines of V and G the release wrote, as tags (R462) -/
  lines : List Nat
  /-- set identifiers of the change sets of this release (R176) -/
  sets : List Nat
  /-- the release's deadline (R189; the watchdog instant of F), and whether the partner reported completion of its shadow (R201) -/
  deadline : Nat
  partnerDone : Bool
  /-- the task's loop outputs of F: instant s of the previous cycle and its apply instant a (R217) -/
  prevStart : Nat
  /-- apply instant of the latest Trick that has applied -/
  appliedAt : Nat
  /-- the task has executed a call word of the present release: it can be interrupted (R188) -/
  begun : Bool
  deriving DecidableEq, Repr

/-- One open view (R197, R198). -/
structure View where
  /-- pinned tasks: class, Trick number, image -/
  pins : List (Nat × Nat × List Host.Cell)
  /-- commits of each pinned task since the opening -/
  commits : List (Nat × Nat)
  deriving DecidableEq, Repr

/-- A rectangle of the panel, both corners inclusive (R502). -/
structure PnlRect where
  x0 : Nat
  y0 : Nat
  x1 : Nat
  y1 : Nat
  deriving DecidableEq, Repr

/-- A running panel update or recovery (R502, R509): its rectangle, latched band and levels, whether it drives the clearing waveform, the
frames of its balancing phase and the signed count these undo, whether it ends a recovery, and the elapsed instant it began. -/
structure PnlRun where
  rect : PnlRect
  band : Nat
  levels : List Host.Cell
  clearing : Bool
  balance : Nat
  count : Int
  recovery : Bool
  whole : Bool
  begun : Nat
  deriving DecidableEq, Repr

/-- The panel driver (20): its two frame buffers in MRAM of its own, the pending rectangle, a full recovery refresh asked for, the
running update, and the elapsed instant at which the Confirm key went down. -/
structure Panel where
  front : List Host.Cell
  back : List Host.Cell
  pend : Option PnlRect
  full : Bool
  run : Option PnlRun
  keyAt : Nat
  deriving DecidableEq, Repr

/-- A station image that has been loaded (06): header values, and the bytes of each section by type code. -/
structure Image where
  build : Nat
  safeChk : Nat
  nSections : Nat
  sections : List (Nat × List Byte)
  /-- bytes of CONST that online changes have written (R175) -/
  kEdits : List Host.Cell
  deriving DecidableEq, Repr

/-- A full image load in progress (R159): the session, the announced length, the offsets of the blocks written, bytes 0 to 7. -/
structure ImageLoad where
  sid : Nat
  total : Nat
  blocks : List Nat
  head : List Byte
  deriving DecidableEq, Repr

/-- An accepted change set (R173 to R175): task, SET_ID, records (ELEM, VALUE), and the instant it reached the queue. -/
structure ChangeSet where
  task : Nat
  setId : Nat
  recs : List (Nat × Nat)
  queuedAt : Nat
  deriving DecidableEq, Repr

/-- A received frame of an object: start of frame, instant it became valid, data. -/
structure CanRx where
  obj : Nat
  sof : Nat
  valid : Nat
  data : List Byte
  deriving DecidableEq, Repr

/-- A frame in the high-priority buffer (R408). -/
structure CanHp where
  frame : CanFrame
  esi : Bool
  filter : Nat
  sof : Nat
  deriving DecidableEq, Repr

/-- One CAN port beyond its registers. -/
structure CanPort where
  pend : List CanTx
  onBus : Option CanTx
  /-- start of frame of the frame on the bus -/
  onBusAt : Nat
  /-- newest frames of the receive objects, newest first -/
  rx : List CanRx
  hp : List CanHp
  /-- next buffer of the receive pool, and the buffers in use -/
  poolNext : Nat
  poolUsed : List Nat
  /-- bus-off recovery runs -/
  recovering : Bool
  /-- stopped by PLL coasting (R419) -/
  stopped : Bool
  /-- elapsed instant of the last reference seen (R417), and the t_ref of the next reference to send (R415) -/
  lastRef : Nat
  nextRef : Option Nat
  /-- t_ref of the present basic cycle -/
  cycleRef : Nat
  /-- a reference loss has been reported (R417) -/
  syncLost : Bool
  /-- sequence number of the next receive descriptor (R128) -/
  rxSeq : Nat
  /-- per transmit object, the element values that its sources outside the task's own image showed at t_rel (R374, R409) -/
  atRel : List (Nat × List Nat)
  deriving DecidableEq, Repr

/-- One output entry of a Rim OUT frame (R298): channel, SUB, value, the quality latched with it (R322), apply instant in PTP ns. -/
structure OutEntry where
  ch : Nat
  sub : Nat
  value : Nat
  q : Nat
  apply : Nat
  deriving DecidableEq, Repr

/-- A host-to-field Rim frame waiting to arrive (R298). -/
inductive RimFrame where
  | out (entries : List OutEntry)
  | keep
  | ctrlPost (mbx : Nat) (hdr : Word) (msg : List Word)
  | ctrlTake (mbx : Nat)
  | bulk (payload : List Byte)
  | cfg (channels safety : List Byte) (chk wdogUs slot : Nat)
  | trim (ch m4 m20 : Nat)
  | safe (set : Bool)
  | ho (take giveUp : Bool)
  deriving DecidableEq, Repr

/-- A field-side occurrence waiting for its IN frame (R123): source, detail, field timestamp. -/
structure FieldEvent where
  src : Nat
  lo : Nat
  hi : Nat
  time : Nat
  deriving DecidableEq, Repr

/-- What an IN frame carries of one channel (R298, R310): (SUB, value, quality) of its source elements, and what the gateway registers show. -/
structure ChIn where
  vals : List (Nat × Nat × Nat)
  chReg : Nat
  vtReg : Nat
  iaReg : Nat
  haReg : Nat
  fails : Nat
  lost : Nat
  deriving DecidableEq, Repr

/-- An IN frame (R298): start of the round, channels, groups, safety functions as (number, register word, elements), CHN_STAT, events. -/
structure RimIn where
  round : Nat
  chans : List ChIn
  grps : List Nat
  fns : List (Nat × Nat × List (Nat × Nat × Nat))
  stat : Nat
  events : List FieldEvent
  deriving DecidableEq, Repr

/-- A field-to-host frame waiting to arrive. -/
inductive FieldFrame where
  | inp (f : RimIn)
  | ctrlPost (mbx : Nat) (hdr : Word) (msg : List Word)
  | ctrlTake (mbx : Nat)
  deriving DecidableEq, Repr

/-- The Rim's host half: the last two IN frames with the PTP instant each was delivered, the elapsed instant of the newest, of a Rim loss
that lasts (R301, R306), whether the hold in force was set by SAFE_REQ (R304), messages from Pair F not yet acted on, and the start of the
last round for which KEEP was queued. -/
structure RimHost where
  cur : Option (Nat × RimIn)
  old : Option (Nat × RimIn)
  lastIn : Nat
  lossAt : Option Nat
  reqHold : Bool
  inbox : List (Nat × List Byte)
  keepAt : Nat
  deriving DecidableEq, Repr

/-- The filter of a DI or SI (R287): the filtered state and the one before its last change with the instants of change, LAST_EDGE in µs, and
the run of equal samples. -/
structure DiFilt where
  filt : Option Bool
  prev : Bool
  chgAt : Nat
  edge : Option Nat
  prevEdge : Option Nat
  run : Bool
  first : Nat
  last : Nat
  deriving DecidableEq, Repr

/-- A HART request (R330), or a scan (R334). -/
structure HartReq where
  scan : Bool
  tag : Nat
  retry : Nat
  frame : List Byte
  deriving DecidableEq, Repr

/-- HART on one channel: its FIFO, the transaction running with its attempts and whether one was received in error, scanning, the last scan's
instant, scans missed in a row, the device status, and the elements 0x28 to 0x2D as (value, quality). -/
structure Hart where
  fifo : List HartReq
  run : Option (HartReq × Nat × Bool)
  suspended : Bool
  scanAt : Nat
  misses : Nat
  ds : Nat
  seen : Bool
  vals : List (Nat × Nat)
  fails : Nat
  lost : Nat
  deriving DecidableEq, Repr

/-- A response, LISTEN or BURST record waiting for its push (R332). -/
structure HartRec where
  ch : Nat
  status : Nat
  tag : Nat
  time : Nat
  attempts : Nat
  frame : List Byte
  since : Nat
  deriving DecidableEq, Repr

/-- A universal channel on the field side (11, 12). -/
structure Chan where
  /-- its CHANNELS record; none for OFF -/
  cfg : List Byte
  /-- last applied CMD with its quality, pending entries, and whether the output is held in its safe state -/
  cmd : Nat
  cmdQ : Nat
  pend : List OutEntry
  safe : Bool
  /-- the switch or stage is on, and the instant it last turned off and on -/
  on : Bool
  offAt : Nat
  onAt : Nat
  /-- protective state, and the runs of checks outside and within range -/
  prot : Bool
  bad : Nat
  good : Nat
  /-- DO protection (R291): switched off, failed attempts, latched, CMD has applied FALSE since, instant of the last switch-off and of the
  last restart -/
  short : Bool
  retry : Nat
  latched : Bool
  sawFalse : Bool
  shortAt : Nat
  tryAt : Option Nat
  limRun : Nat
  /-- DO diagnosis (R292) -/
  openRun : Nat
  openSet : Bool
  forRun : Nat
  forLevel : Bool
  foreign : Bool
  di : DiFilt
  /-- FI: stable level, selected edges newest first, EDGE_SEQ, instant of first use -/
  level : Bool
  edges : List Nat
  edgeSeq : Nat
  useAt : Option Nat
  /-- the last round's terminal voltage (10 mV), current (0.1 µA), limit flag and element values -/
  vt : Int
  amp : Nat
  lim : Bool
  vals : List (Nat × Nat × Nat)
  /-- AI: zone of R317 (none before the first value), values since first use, ALM_ROC, transmitter supply switched off -/
  zone : Option Nat
  nval : Nat
  roc : Bool
  txsOff : Option Nat
  /-- AO: deficit and the runs of R320 and R321 -/
  compl : Bool
  complRun : Nat
  complTold : Bool
  aoRun : Nat
  aoOpen : Bool
  /-- AO trim: M4, M20, user trim in use, calibration point driven (R323) -/
  m4 : Nat
  m20 : Nat
  trimmed : Bool
  drive : Nat
  /-- the last entry came in the overlap of a planned swap: the AO drives half (R336, R475) -/
  half : Bool
  /-- SI: DIAG code and detail of the last judgement of its test pulses (R350) -/
  tpCode : Nat
  tpDetail : Nat
  /-- TS: its pulse runs, its terminal fell in time in this pulse, TS_FAULT -/
  pulse : Bool
  fell : Bool
  tsFault : Bool
  /-- SI: samples of the first 31 ms of the test period (instant, level, filtered state) (R350) -/
  samples : List (Nat × Bool × Bool)
  hart : Hart
  deriving DecidableEq, Repr

/-- A channel group: L+ (R57), the runs of rounds that meet each entry and leave condition, and DO overload (R294). -/
structure Group where
  vlp : Nat
  lpst : Nat
  inNorm : Nat
  inLow : Nat
  inMiss : Nat
  inHigh : Nat
  outLow : Nat
  outMiss : Nat
  outHigh : Nat
  cls : Nat
  clsRun : Nat
  ido : Nat
  ovrRun : Nat
  underRun : Nat
  overload : Bool
  partner : Bool
  deriving DecidableEq, Repr

/-- The field half of a safety function (13): SIN or SOUT. -/
structure FieldFn where
  num : Nat
  ty : Nat
  param : List Byte
  value : Bool
  code : Nat
  detail : Nat
  latch : Bool
  /-- SIN: both channels have indicated demand together since it last fell; probation and the channels that have shown a correct pulse;
  since when the two disagree, and the channel that changed first -/
  joint : Bool
  probation : Bool
  seenA : Bool
  seenB : Bool
  discAt : Option Nat
  firstCh : Nat
  /-- SOUT: demand applied, instant at which the pair was last energised or switched off, waits for a rising RST, off-pulse of A or B, the
  runs of R357 -/
  demand : Bool
  turnAt : Nat
  wait : Bool
  pulseA : Bool
  pulseB : Bool
  lowA : Nat
  lowB : Nat
  highA : Nat
  highB : Nat
  deriving DecidableEq, Repr

/-- The field side of the module: Pair F with its channels, groups, safety functions, watchdog and safe-state hold. -/
structure FieldSide where
  up : Bool
  chans : List Chan
  grps : List Group
  fns : List FieldFn
  safety : List Byte
  chk : Nat
  wdogUs : Nat
  slot : Nat
  /-- elapsed instant of the last valid OUT or KEEP frame -/
  wdogAt : Nat
  wdog : Bool
  hold : Bool
  granted : Bool
  take : Bool
  armed : Bool
  /-- a GROUP_MODE accepted: mask, mode, instant -/
  modeReq : Option (Nat × Nat × Nat)
  /-- messages that Pair F can read in mailboxes 16 to 19, and messages it posts to 20 to 23 when they empty -/
  mail : List (Nat × List Byte)
  out : List (Nat × Nat × List Byte)
  events : List FieldEvent
  /-- start of the last channel round served -/
  round : Option Nat
  /-- the cause of the last field start (R307) and the elapsed instant it began -/
  cause : Nat
  downAt : Nat
  records : List HartRec
  cancel : Option Nat
  deriving DecidableEq, Repr

/-- The gateway's trim session (R323): channel, points driven, elapsed instant of the last DRIVE. -/
structure TrimSession where
  ch : Nat
  driven : Nat
  at_ : Nat
  deriving DecidableEq, Repr


/-- A function of the safety supervisor as the host half keeps it (13): what RST last read; its fault; since when its two channels disagree;
for SS1 its stop (instant and v0), whether torque is removed, and the speed judged; whether its RST rose at the last latch; and its elements
as (INDEX, value, quality): as readers see them now, and as the last commit formed them. -/
structure HostFn where
  num : Nat
  ty : Nat
  rst : Option Bool
  code : Nat
  detail : Nat
  latch : Bool
  discAt : Option Nat
  stopAt : Option Nat
  v0 : Nat
  sto : Bool
  speed : Nat
  rose : Bool
  shown : List (Nat × Nat × Nat)
  formed : List (Nat × Nat × Nat)
  deriving DecidableEq, Repr

/-- The host half of the safety supervisor: functions, the reset mask gathered for the next post, the mask of resets under way, and the
confirmation window (value, elapsed instant of its end). -/
structure SafeHost where
  fns : List HostFn
  gather : Nat
  resets : Nat
  window : Option (Nat × Nat)
  deriving DecidableEq, Repr

/-- A batch of parameter writes on its way to a slot (R242): its origin (0 change, 1 port, 2 task) and task, the instant it reaches the
slot, and the bytes by offset in the slot. -/
structure Batch where
  slot : Nat
  origin : Nat
  task : Nat
  due : Nat
  writes : List (Nat × List Byte)
  deriving DecidableEq, Repr

/-- An evaluated window that waits for its deposit (R262, R264): the slots' new contents in the order of evaluation, the events they raise,
and the slots abandoned. -/
structure LoopWin where
  t : Nat
  results : List (Nat × List Byte)
  events : List (Nat × Nat)
  skipped : List Nat
  cycles : Nat
  deriving DecidableEq, Repr

/-- A transaction of the parameter port (R275): its list and count, whether it has been copied, the batches not yet applied or refused. -/
structure PpRun where
  list : Nat
  count : Nat
  copied : Bool
  left : Nat
  refused : Nat
  deriving DecidableEq, Repr

/-- The loop engine beyond its registers and slot memory (10): the first instant evaluated, the last window's t_g, the window waiting for
deposit, the last deposit's instant with what the slots held before it, batches in order of arrival, the port's transaction, external inputs
received for windows to come (R461), and the digest string of the present T0 period (R462). -/
structure Loops where
  start : Nat
  last : Option Nat
  win : Option LoopWin
  depAt : Nat
  olds : List (Nat × List Byte)
  batches : List Batch
  pp : Option PpRun
  inputs : List (Nat × List (Nat × Nat × Nat))
  dig : List Byte
  deriving DecidableEq, Repr

/-- A takeover under way (R469, R471): t_d, t_own, and whether its path is IMMEDIATE. -/
structure Takeover where
  td : Nat
  own : Nat
  immediate : Bool
  deriving DecidableEq, Repr

/-- The Rolent unit's state beyond its registers (18). -/
structure Rdl where
  /-- PTP instant of the last change of role -/
  roleAt : Nat
  /-- instant t_s of a planned swap that has been fixed (R474), and whether this unit is the active that leaves at t_s -/
  swapAt : Option Nat
  swapFrom : Bool
  /-- a swap proposed by this unit waits for its answer -/
  swapAsked : Bool
  /-- operating second of the last completed swap, and elapsed instant of the last deferral -/
  swapOp : Nat
  swapTest : Option Nat
  /-- the partner's GIVE_UP has arrived, and the elapsed instant of its arrival -/
  giveNotice : Option Nat
  take : Option Takeover
  /-- the partner's NEGOTIATE that has arrived: position, BUILD_ID, safety check value, confirmed (R453) -/
  neg : Option (Nat × Nat × Nat × Bool)
  /-- tasks (10 for the loop engine) mirrored to the partner, or shadowed by this unit -/
  mirror : List Nat
  /-- join: tasks still to be cut over, lines written since the last pass (task, tag), elapsed instant of a failed join -/
  cutLeft : List Nat
  dirty : List (Nat × Nat)
  joinFail : Option Nat
  /-- own digests (task, Trick, digest, instant of commit), and the partner's that came first -/
  own : List (Nat × Nat × Nat × Nat)
  other : List (Nat × Nat × Nat)
  /-- repairs pending on the standby, those that count no divergence, and requests the active has to answer -/
  repair : List Nat
  quiet : List Nat
  asked : List Nat
  /-- operating seconds of the divergences counted under R466 -/
  divs : List Nat
  /-- counters of TIME messages (R455): sent, and the arrival of the partner's last -/
  timeTx : Nat
  timeRx : Nat
  /-- elapsed instants: the link up since, ROLE and TIME last sent, handover pulses last sent -/
  linkAt : Nat
  sentAt : Nat
  pulseAt : Nat
  /-- end of the carry of a swap-load, while it runs (R180) -/
  carryEnd : Option Nat
  deriving DecidableEq, Repr

/-- The Ethernet switch (16): learned MAC addresses (address, port, elapsed instant), broadcast and multicast frames of the present second
for the internal port, the SEQ of MRP frames, and the SEQ of descriptors pushed to queue 0. -/
structure Net where
  macs : List (Nat × Nat × Nat)
  stormAt : Nat
  stormN : Nat
  mrpSeq : Nat
  rxSeq : Nat
  deriving DecidableEq, Repr

/-- A foreign master (16, IEEE 1588): its last Announce, and the elapsed instants of the last two. -/
structure Foreign where
  ann : PtpAnnounce
  last : Nat
  prev : Option Nat
  deriving DecidableEq, Repr

/-- The PTP ordinary clock and its servo (16): foreign masters, the selected one (port identity) and its grandmaster, elapsed instants of the
last Announce of it (or of the start) and the last Sync, their interval; runs of Syncs within LOCK_NS, beyond UNLOCK_NS and within 1 µs
before RUN; a two-step Sync that waits for its Follow_Up; the last Sync's instants (t1 with corrections, t2) in units of 2^-16 ns; a Delay_Req
sent (SEQ, t3); SEQs; and whether PLL coasting has ended PTP (R81). -/
structure Ptp where
  foreign : List Foreign
  sel : Option Nat
  gm : Nat
  annAt : Nat
  syncAt : Nat
  syncInt : Nat
  inRun : Nat
  outRun : Nat
  startRun : Nat
  twoStep : Option (Nat × Int × Int)
  sync : Option (Int × Int)
  req : Option (Nat × Int)
  seqDelay : Nat
  seqSync : Nat
  seqAnn : Nat
  ended : Bool
  deriving DecidableEq, Repr

/-- A burst of the host data port (R110): first address, word size, words, and whether it writes memory. -/
structure HdpBurst where
  addr : Nat
  size : Nat
  count : Nat
  write : Bool
  deriving DecidableEq, Repr

/-- A KSAP session (04): its session key, rights, newest SEQ, the replies to its last 8 accepted requests, consecutive MAC failures, and the
elapsed instant of the last valid frame. -/
structure Session where
  sid : Nat
  ip : Nat
  key : List Byte
  write : Bool
  boot : Bool
  seq : Nat
  replies : List (Nat × List Byte)
  macFails : Nat
  validAt : Nat
  deriving DecidableEq, Repr

/-- A CHALLENGE sent (R115, R116): SID, tool address, K, both nonces, whether write rights were asked, the elapsed instant, and for a bootstrap
session whether the Confirm key has been pressed since. -/
structure Challenge where
  sid : Nat
  ip : Nat
  key : List Byte
  nm : List Byte
  nt : List Byte
  write : Bool
  boot : Bool
  at_ : Nat
  pressed : Bool
  deriving DecidableEq, Repr

/-- The KSAP service (R115 to R118): sessions, challenges, elapsed instants of recent failures, addresses ignored and until when, and until when
every HELLO is ignored. -/
structure Ksap where
  sessions : List Session
  challenges : List Challenge
  fails : List Nat
  ignored : List (Nat × Nat)
  quietTo : Nat
  deriving DecidableEq, Repr

/-- What the unit sends out of its connectors: KSAP and ECX datagrams, Rolent messages, CAN frames and Ethernet frames. -/
inductive OutMsg where
  | ksap (ip : Nat) (frame : List Byte)
  | ecx (station : Nat) (frame : List Byte)
  | rolent (m : Rolent)
  | can (port : Nat) (ide : Bool) (id : Nat) (fd brs : Bool) (data : List Byte)
  | hart (ch : Nat) (frame : List Byte)
  | eth (port : Nat) (frame : List Byte)
  deriving DecidableEq, Repr

end Sys2Proof.Machine
end

