-- ==== Sys2Proof/Machine/RegMap.lean ====
section
/-! DEFINITION. The register maps of the spec's chapters (R95, R111, R126, R136, R146, R151, R183, R208, R277, R310, R337, R368,
R394, R395, R420, R436, R448, R479, R496, R513): every register's address and fields by name, and the table of access codes (R8)
and reset values. A field the spec gives a dash for reset (restored or latched during start-up) stands at 0 here. -/

namespace Sys2Proof.Machine

/-- The access codes of R8 (RSV needs none: a bit no field covers reads 0 and ignores writes). -/
inductive Acc where
  | rw | ro | w1c | rc | wo
  deriving DecidableEq, Repr

/-- One field of a register map: lowest bit, width, access code, reset value. -/
structure FieldSpec where
  lo : Nat
  width : Nat
  acc : Acc
  reset : Nat
  deriving DecidableEq, Repr

/-- A register, or an array of registers with up to two indices (count and stride of each). -/
structure RegSpec where
  base : Nat
  n1 : Nat
  s1 : Nat
  n2 : Nat
  s2 : Nat
  fields : List FieldSpec
  deriving DecidableEq, Repr

/-- Whether `a` is the address of a register of the entry. -/
def RegSpec.has (r : RegSpec) (a : Nat) : Bool :=
  decide (r.base ≤ a) && decide ((a - r.base) / r.s1 < r.n1) &&
  decide ((a - r.base) % r.s1 / r.s2 < r.n2) && decide ((a - r.base) % r.s1 % r.s2 = 0)

/-- Register maps, part 0. -/
def regTable0 : List RegSpec := [
  ⟨0x40000000, 1, 4, 1, 4, [⟨0, 2, .ro, 2⟩, ⟨2, 3, .ro, 0⟩, ⟨5, 1, .ro, 0⟩, ⟨6, 1, .ro, 0⟩, ⟨7, 1, .ro, 0⟩, ⟨8, 1, .ro, 0⟩, ⟨9, 1, .ro, 0⟩, ⟨10, 1, .ro, 0⟩, ⟨11, 1, .ro, 0⟩, ⟨12, 4, .ro, 0⟩, ⟨16, 1, .ro, 0⟩, ⟨17, 2, .ro, 0⟩, ⟨19, 1, .ro, 0⟩]⟩ /- CPM_STAT -/,
  ⟨0x40000004, 1, 4, 1, 4, [⟨0, 1, .wo, 0⟩, ⟨1, 1, .wo, 0⟩, ⟨8, 8, .wo, 0⟩]⟩ /- CPM_CTRL -/,
  ⟨0x40000008, 1, 4, 1, 4, [⟨0, 5, .ro, 5⟩, ⟨8, 6, .ro, 10⟩, ⟨16, 8, .ro, 50⟩, ⟨24, 6, .ro, 32⟩]⟩ /- CPM_CLKDIV -/,
  ⟨0x4000000C, 1, 4, 1, 4, [⟨0, 1, .rw, 0⟩, ⟨4, 4, .rw, 0⟩, ⟨8, 8, .rw, 60⟩]⟩ /- CPM_PSCFG -/,
  ⟨0x40000010, 1, 4, 1, 4, [⟨0, 10, .rw, 0⟩, ⟨10, 2, .rw, 3⟩, ⟨12, 2, .rw, 0⟩, ⟨14, 1, .ro, 0⟩, ⟨16, 16, .ro, 0⟩]⟩ /- CPM_TRIM -/,
  ⟨0x40000014, 1, 4, 1, 4, [⟨0, 4, .rw, 0⟩, ⟨4, 4, .rw, 1⟩, ⟨8, 16, .rw, 1000⟩, ⟨24, 1, .wo, 0⟩, ⟨25, 1, .ro, 0⟩, ⟨26, 1, .ro, 0⟩]⟩ /- CPM_FMCTRL -/,
  ⟨0x40000018, 1, 4, 1, 4, [⟨0, 32, .ro, 0⟩]⟩ /- CPM_FMRES -/,
  ⟨0x4000001C, 1, 4, 1, 4, [⟨0, 32, .ro, 0⟩]⟩ /- CPM_OPSEC -/,
  ⟨0x40000020, 1, 4, 1, 4, [⟨0, 32, .ro, 0⟩]⟩ /- CPM_PWRCYC -/,
  ⟨0x40000024, 1, 4, 1, 4, [⟨0, 10, .ro, 0⟩, ⟨16, 8, .ro, 0⟩]⟩ /- CPM_SUP -/,
  ⟨0x40000028, 1, 4, 1, 4, [⟨0, 1, .w1c, 0⟩, ⟨1, 1, .w1c, 0⟩, ⟨2, 1, .w1c, 0⟩, ⟨3, 1, .w1c, 0⟩]⟩ /- CPM_RSTCAUSE -/,
  ⟨0x4000002C, 1, 4, 1, 4, [⟨0, 1, .w1c, 0⟩, ⟨1, 1, .w1c, 0⟩, ⟨2, 1, .w1c, 0⟩, ⟨3, 1, .w1c, 0⟩, ⟨4, 1, .w1c, 0⟩]⟩ /- CPM_FAULT -/,
  ⟨0x40010000, 256, 4, 1, 4, [⟨0, 2, .rw, 3⟩, ⟨4, 4, .rw, 0⟩, ⟨8, 1, .rw, 0⟩]⟩ /- EVT_ROUTE -/,
  ⟨0x40010400, 256, 4, 1, 4, [⟨0, 8, .rc, 0⟩, ⟨8, 1, .rc, 0⟩]⟩ /- EVT_CNT -/,
  ⟨0x40010800, 256, 8, 1, 4, [⟨0, 32, .ro, 0⟩]⟩ /- EVT_INFO_LO -/,
  ⟨0x40010804, 256, 8, 1, 4, [⟨0, 32, .ro, 0⟩]⟩ /- EVT_INFO_HI -/,
  ⟨0x40011000, 8, 4, 1, 4, [⟨0, 32, .ro, 0⟩]⟩ /- EVT_PEND -/,
  ⟨0x40011040, 3, 16, 1, 4, [⟨0, 8, .rc, 0⟩, ⟨8, 4, .rc, 0⟩, ⟨31, 1, .rc, 0⟩]⟩ /- EVT_CLAIM -/,
  ⟨0x40011044, 3, 16, 1, 4, [⟨0, 5, .rw, 16⟩]⟩ /- EVT_THR -/,
  ⟨0x40011080, 1, 4, 1, 4, [⟨0, 3, .wo, 0⟩, ⟨16, 16, .wo, 0⟩]⟩ /- EVT_SWTRIG -/,
  ⟨0x40020000, 1, 4, 1, 4, [⟨0, 16, .rw, 256⟩]⟩ /- QUE_AGE_LIMIT -/,
  ⟨0x40020004, 1, 4, 1, 4, [⟨0, 3, .ro, 0⟩, ⟨8, 6, .ro, 0⟩]⟩ /- QUE_PUSHST -/,
  ⟨0x40020020, 3, 8, 1, 4, [⟨0, 32, .rc, 0⟩]⟩ /- QUE_ATTN_LO -/,
  ⟨0x40020024, 3, 8, 1, 4, [⟨0, 32, .rc, 0⟩]⟩ /- QUE_ATTN_HI -/,
  ⟨0x40020100, 64, 32, 1, 4, [⟨0, 3, .rw, 0⟩, ⟨3, 1, .rw, 0⟩, ⟨4, 4, .rw, 4⟩, ⟨8, 6, .rw, 63⟩, ⟨16, 6, .rw, 63⟩]⟩ /- QUE_CFG -/,
  ⟨0x40020104, 64, 32, 1, 4, [⟨0, 32, .rw, 0⟩]⟩ /- QUE_BASE -/,
  ⟨0x40020108, 64, 32, 1, 4, [⟨0, 32, .wo, 0⟩]⟩ /- QUE_PUSH -/,
  ⟨0x4002010C, 64, 32, 1, 4, [⟨0, 32, .ro, 0⟩]⟩ /- QUE_POP -/,
  ⟨0x40020110, 64, 32, 1, 4, []⟩ /- QUE_REL -/,
  ⟨0x40020114, 64, 32, 1, 4, [⟨0, 13, .ro, 0⟩, ⟨13, 3, .ro, 0⟩, ⟨16, 16, .ro, 0⟩]⟩ /- QUE_STAT -/]

/-- Register maps, part 1. -/
def regTable1 : List RegSpec := [
  ⟨0x40020118, 64, 32, 1, 4, [⟨0, 16, .rc, 0⟩, ⟨16, 1, .rc, 0⟩]⟩ /- QUE_DROP -/,
  ⟨0x4002011C, 64, 32, 1, 4, [⟨0, 16, .rc, 0⟩, ⟨16, 1, .rc, 0⟩]⟩ /- QUE_TRUMPS -/,
  ⟨0x40024000, 24, 128, 1, 4, [⟨0, 2, .rw, 0⟩, ⟨2, 2, .rw, 0⟩, ⟨4, 1, .rw, 0⟩, ⟨16, 16, .rw, 0⟩]⟩ /- MBX_CFG -/,
  ⟨0x40024004, 24, 128, 1, 4, [⟨0, 1, .ro, 0⟩, ⟨1, 1, .w1c, 0⟩, ⟨2, 1, .w1c, 0⟩, ⟨3, 1, .w1c, 0⟩]⟩ /- MBX_STAT -/,
  ⟨0x40024008, 24, 128, 1, 4, [⟨0, 6, .wo, 0⟩, ⟨8, 8, .wo, 0⟩]⟩ /- MBX_POST -/,
  ⟨0x4002400C, 24, 128, 1, 4, []⟩ /- MBX_TAKE -/,
  ⟨0x40024010, 24, 128, 1, 4, [⟨0, 6, .ro, 0⟩, ⟨8, 8, .ro, 0⟩, ⟨16, 8, .ro, 0⟩]⟩ /- MBX_RXHDR -/,
  ⟨0x40024020, 24, 128, 8, 4, [⟨0, 32, .rw, 0⟩]⟩ /- MBX_TX -/,
  ⟨0x40024040, 24, 128, 8, 4, [⟨0, 32, .ro, 0⟩]⟩ /- MBX_RX -/,
  ⟨0x40024C00, 1, 4, 1, 4, [⟨0, 8, .ro, 1⟩, ⟨8, 8, .ro, 1⟩, ⟨16, 8, .ro, 1⟩, ⟨24, 8, .ro, 1⟩]⟩ /- MBX_GEN -/,
  ⟨0x40024C10, 3, 4, 1, 4, [⟨0, 24, .rc, 0⟩]⟩ /- MBX_ATTN -/,
  ⟨0x40026000, 32, 4, 1, 4, [⟨0, 3, .rw, 0⟩]⟩ /- LCK -/,
  ⟨0x40026080, 32, 4, 1, 4, [⟨0, 3, .ro, 0⟩, ⟨4, 3, .ro, 0⟩]⟩ /- LCK_PEEK -/,
  ⟨0x40026100, 1, 4, 1, 4, [⟨0, 5, .wo, 0⟩]⟩ /- LCK_HDPREQ -/,
  ⟨0x40026104, 1, 4, 1, 4, [⟨0, 5, .wo, 0⟩]⟩ /- LCK_HDPREL -/,
  ⟨0x40026108, 1, 4, 1, 4, [⟨0, 1, .ro, 0⟩, ⟨1, 1, .ro, 0⟩, ⟨2, 3, .ro, 0⟩]⟩ /- LCK_HDPRES -/,
  ⟨0x4002610C, 1, 4, 1, 4, [⟨0, 16, .rw, 0⟩]⟩ /- LCK_HOLD_LIMIT -/,
  ⟨0x40026110, 1, 4, 1, 4, [⟨0, 32, .w1c, 0⟩]⟩ /- LCK_BADREL -/,
  ⟨0x40030000, 1, 4, 1, 4, [⟨0, 1, .ro, 0⟩, ⟨1, 1, .ro, 0⟩]⟩ /- IMG_STAT -/,
  ⟨0x40030004, 1, 4, 1, 4, [⟨0, 11, .rw, 100⟩]⟩ /- IMG_RETAIN_MS -/,
  ⟨0x40030008, 1, 4, 1, 4, [⟨0, 4, .ro, 0⟩, ⟨4, 2, .ro, 0⟩, ⟨6, 1, .ro, 0⟩, ⟨8, 24, .ro, 0⟩]⟩ /- IMG_OVR -/,
  ⟨0x4003000C, 1, 4, 1, 4, [⟨0, 7, .rw, 0⟩]⟩ /- IMG_SLACKWARN -/,
  ⟨0x40030010, 1, 4, 1, 4, [⟨0, 16, .rc, 0⟩, ⟨16, 1, .rc, 0⟩, ⟨24, 8, .ro, 0⟩]⟩ /- IMG_ECXERR -/,
  ⟨0x40030014, 1, 4, 1, 4, [⟨0, 32, .ro, 0⟩]⟩ /- IMG_GRPHOLD -/,
  ⟨0x40030040, 9, 32, 1, 4, [⟨0, 1, .ro, 0⟩, ⟨1, 2, .ro, 0⟩, ⟨3, 1, .ro, 0⟩, ⟨4, 1, .ro, 0⟩]⟩ /- IMG_TASK -/,
  ⟨0x40030044, 9, 32, 1, 4, [⟨0, 24, .ro, 0⟩, ⟨24, 1, .ro, 0⟩]⟩ /- IMG_TRICK -/,
  ⟨0x40030048, 9, 32, 1, 4, [⟨0, 32, .ro, 0⟩]⟩ /- IMG_EXEC -/,
  ⟨0x4003004C, 9, 32, 1, 4, [⟨0, 32, .rc, 0⟩]⟩ /- IMG_EXMAX -/,
  ⟨0x40030050, 9, 32, 1, 4, [⟨0, 32, .rc, 4294967295⟩]⟩ /- IMG_SLACK -/,
  ⟨0x40030200, 8, 16, 1, 4, [⟨0, 9, .wo, 0⟩]⟩ /- IMG_VIEW_CTRL -/]

/-- Register maps, part 2. -/
def regTable2 : List RegSpec := [
  ⟨0x40030204, 8, 16, 1, 4, [⟨0, 2, .ro, 0⟩, ⟨4, 4, .ro, 0⟩, ⟨8, 24, .ro, 0⟩]⟩ /- IMG_VIEW_STAT -/,
  ⟨0x40030208, 8, 16, 1, 4, [⟨0, 16, .rw, 0⟩, ⟨16, 4, .rw, 0⟩]⟩ /- IMG_VIEW_ADDR -/,
  ⟨0x4003020C, 8, 16, 1, 4, [⟨0, 32, .ro, 0⟩]⟩ /- IMG_VIEW_DATA -/,
  ⟨0x40030400, 256, 8, 1, 4, [⟨0, 2, .ro, 0⟩, ⟨2, 1, .ro, 0⟩, ⟨3, 1, .ro, 0⟩, ⟨4, 1, .ro, 0⟩, ⟨5, 1, .ro, 0⟩, ⟨8, 6, .ro, 0⟩, ⟨16, 8, .ro, 255⟩, ⟨24, 8, .ro, 0⟩]⟩ /- IMG_STN_STAT -/,
  ⟨0x40030404, 256, 8, 1, 4, [⟨0, 16, .rc, 0⟩, ⟨16, 1, .rc, 0⟩]⟩ /- IMG_STN_CNT -/,
  ⟨0x40040000, 1, 4, 1, 4, [⟨0, 1, .ro, 0⟩, ⟨16, 11, .ro, 0⟩]⟩ /- LPE_STAT -/,
  ⟨0x40040004, 1, 4, 1, 4, [⟨0, 25, .ro, 0⟩]⟩ /- LPE_RATE -/,
  ⟨0x40040008, 1, 4, 1, 4, [⟨0, 15, .ro, 0⟩, ⟨16, 15, .rc, 0⟩]⟩ /- LPE_BURST -/,
  ⟨0x4004000C, 1, 4, 1, 4, [⟨0, 16, .rc, 0⟩, ⟨16, 1, .rc, 0⟩, ⟨20, 10, .ro, 0⟩]⟩ /- LPE_OVR -/,
  ⟨0x40040010, 1, 4, 1, 4, [⟨0, 16, .rc, 0⟩, ⟨16, 1, .rc, 0⟩, ⟨20, 10, .ro, 0⟩]⟩ /- LPE_REJ -/,
  ⟨0x40040020, 1, 4, 1, 4, [⟨0, 20, .ro, 0⟩, ⟨20, 4, .ro, 0⟩]⟩ /- LPE_PP_CFG -/,
  ⟨0x40040024, 1, 4, 1, 4, [⟨0, 7, .rw, 1⟩, ⟨8, 2, .rw, 0⟩, ⟨10, 1, .wo, 0⟩]⟩ /- LPE_PP_CTRL -/,
  ⟨0x40040028, 1, 4, 1, 4, [⟨0, 1, .ro, 0⟩, ⟨1, 1, .w1c, 0⟩, ⟨2, 3, .ro, 0⟩, ⟨8, 8, .ro, 0⟩]⟩ /- LPE_PP_STAT -/,
  ⟨0x40040030, 4, 4, 1, 4, [⟨0, 32, .rw, 0⟩]⟩ /- LPE_PP_ADDR -/,
  ⟨0x40040040, 1, 4, 1, 4, [⟨0, 6, .rw, 0⟩, ⟨16, 10, .rw, 0⟩]⟩ /- LPE_RGNSEL -/,
  ⟨0x40040044, 1, 4, 1, 4, [⟨0, 32, .ro, 0⟩]⟩ /- LPE_RGNDATA -/,
  ⟨0x40050000, 1, 4, 1, 4, [⟨0, 1, .ro, 0⟩, ⟨1, 1, .ro, 1⟩, ⟨2, 1, .ro, 0⟩, ⟨3, 1, .ro, 0⟩, ⟨4, 2, .ro, 0⟩, ⟨6, 2, .ro, 0⟩, ⟨8, 1, .ro, 0⟩]⟩ /- CHN_STAT -/,
  ⟨0x40050004, 1, 4, 1, 4, [⟨0, 1, .wo, 0⟩, ⟨1, 1, .wo, 0⟩, ⟨8, 8, .wo, 0⟩]⟩ /- CHN_CTRL -/,
  ⟨0x40050008, 1, 4, 1, 4, [⟨0, 17, .ro, 1000⟩]⟩ /- CHN_WDOG -/,
  ⟨0x4005000C, 1, 4, 1, 4, [⟨0, 8, .rc, 0⟩, ⟨8, 1, .rc, 0⟩, ⟨16, 8, .rc, 0⟩, ⟨24, 1, .rc, 0⟩]⟩ /- CHN_RIMERR -/,
  ⟨0x40050010, 1, 4, 1, 4, [⟨0, 16, .rc, 0⟩, ⟨16, 1, .rc, 0⟩, ⟨24, 6, .ro, 0⟩]⟩ /- CHN_LATE -/,
  ⟨0x40050014, 1, 4, 1, 4, [⟨0, 16, .rc, 0⟩, ⟨16, 1, .rc, 0⟩, ⟨24, 6, .ro, 0⟩]⟩ /- CHN_SLOTOVR -/,
  ⟨0x40050020, 2, 4, 1, 4, [⟨0, 10, .ro, 0⟩, ⟨10, 3, .ro, 4⟩, ⟨13, 1, .ro, 0⟩, ⟨16, 14, .ro, 0⟩]⟩ /- CHN_GRP -/,
  ⟨0x40050100, 64, 4, 1, 4, [⟨0, 4, .ro, 0⟩, ⟨4, 1, .ro, 0⟩, ⟨5, 1, .ro, 0⟩, ⟨6, 1, .ro, 0⟩, ⟨7, 1, .ro, 0⟩, ⟨8, 8, .ro, 0⟩]⟩ /- CHN_CH -/,
  ⟨0x40050200, 64, 4, 1, 4, [⟨0, 16, .ro, 0⟩]⟩ /- CHN_VT -/,
  ⟨0x40050300, 64, 4, 1, 4, [⟨0, 18, .ro, 0⟩, ⟨18, 1, .ro, 0⟩, ⟨19, 1, .ro, 0⟩, ⟨20, 1, .ro, 0⟩, ⟨21, 3, .ro, 0⟩]⟩ /- CHN_IA -/,
  ⟨0x40050400, 1, 4, 1, 4, [⟨0, 6, .rw, 0⟩, ⟨8, 2, .rw, 0⟩, ⟨16, 3, .wo, 0⟩, ⟨24, 8, .wo, 0⟩]⟩ /- CHN_TRIM_CTRL -/,
  ⟨0x40050404, 1, 4, 1, 4, [⟨0, 32, .rw, 1082130432⟩]⟩ /- CHN_TRIM_M4 -/,
  ⟨0x40050408, 1, 4, 1, 4, [⟨0, 32, .rw, 1101004800⟩]⟩ /- CHN_TRIM_M20 -/,
  ⟨0x4005040C, 1, 4, 1, 4, [⟨0, 1, .ro, 0⟩, ⟨1, 2, .ro, 0⟩, ⟨8, 6, .ro, 0⟩, ⟨16, 3, .ro, 0⟩]⟩ /- CHN_TRIM_STAT -/]

/-- Register maps, part 3. -/
def regTable3 : List RegSpec := [
  ⟨0x40050500, 64, 4, 1, 4, [⟨0, 3, .ro, 0⟩, ⟨3, 1, .ro, 0⟩, ⟨4, 1, .ro, 0⟩, ⟨8, 8, .rc, 0⟩, ⟨16, 1, .rc, 0⟩, ⟨17, 4, .rc, 0⟩, ⟨24, 8, .ro, 0⟩]⟩ /- CHN_HART -/,
  ⟨0x40060000, 1, 4, 1, 4, [⟨0, 4, .ro, 15⟩, ⟨4, 1, .ro, 0⟩, ⟨5, 1, .ro, 0⟩, ⟨6, 1, .ro, 0⟩, ⟨7, 1, .ro, 0⟩, ⟨8, 8, .ro, 0⟩]⟩ /- SAF_STAT -/,
  ⟨0x40060004, 1, 4, 1, 4, [⟨0, 32, .ro, 0⟩]⟩ /- SAF_CONF -/,
  ⟨0x40060008, 1, 4, 1, 4, [⟨0, 32, .ro, 0⟩]⟩ /- SAF_CONFOLD -/,
  ⟨0x4006000C, 1, 4, 1, 4, [⟨0, 5, .ro, 0⟩]⟩ /- SAF_CONFT -/,
  ⟨0x40060010, 1, 4, 1, 4, [⟨0, 16, .rc, 0⟩, ⟨16, 1, .rc, 0⟩]⟩ /- SAF_TRIPS -/,
  ⟨0x40060100, 128, 4, 1, 4, [⟨0, 4, .ro, 0⟩, ⟨4, 4, .ro, 0⟩, ⟨8, 8, .ro, 0⟩, ⟨16, 8, .ro, 0⟩, ⟨24, 1, .ro, 0⟩]⟩ /- SAF_FN -/,
  ⟨0x40060300, 128, 4, 1, 4, [⟨0, 32, .ro, 0⟩]⟩ /- SAF_RESP -/,
  ⟨0x40060500, 256, 8, 1, 4, [⟨0, 2, .ro, 0⟩, ⟨2, 1, .ro, 0⟩, ⟨3, 1, .ro, 0⟩, ⟨4, 4, .ro, 0⟩, ⟨16, 16, .ro, 0⟩]⟩ /- SAF_ESC_STAT -/,
  ⟨0x40060504, 256, 8, 1, 4, [⟨0, 8, .rc, 0⟩, ⟨8, 8, .rc, 0⟩, ⟨16, 8, .rc, 0⟩, ⟨24, 1, .rc, 0⟩]⟩ /- SAF_ESC_ERR -/,
  ⟨0x40070000, 4, 4096, 1, 4, [⟨0, 2, .ro, 0⟩, ⟨2, 1, .ro, 0⟩, ⟨3, 1, .ro, 0⟩, ⟨4, 2, .ro, 0⟩, ⟨6, 1, .ro, 0⟩]⟩ /- CAN_STAT -/,
  ⟨0x40070004, 4, 4096, 1, 4, [⟨0, 1, .wo, 0⟩, ⟨8, 8, .wo, 0⟩]⟩ /- CAN_CTRL -/,
  ⟨0x40070008, 4, 4096, 1, 4, [⟨0, 5, .ro, 0⟩, ⟨5, 8, .ro, 0⟩, ⟨13, 7, .ro, 0⟩, ⟨20, 7, .ro, 0⟩]⟩ /- CAN_NBT -/,
  ⟨0x4007000C, 4, 4096, 1, 4, [⟨0, 5, .ro, 0⟩, ⟨5, 5, .ro, 0⟩, ⟨10, 4, .ro, 0⟩, ⟨14, 4, .ro, 0⟩]⟩ /- CAN_DBT -/,
  ⟨0x40070010, 4, 4096, 1, 4, [⟨0, 7, .ro, 0⟩, ⟨7, 1, .ro, 0⟩, ⟨8, 7, .ro, 0⟩, ⟨15, 1, .ro, 0⟩, ⟨16, 7, .ro, 0⟩]⟩ /- CAN_TDC -/,
  ⟨0x40070014, 4, 4096, 1, 4, [⟨0, 8, .ro, 0⟩, ⟨8, 8, .ro, 0⟩, ⟨16, 1, .ro, 0⟩, ⟨17, 1, .ro, 0⟩]⟩ /- CAN_ERR -/,
  ⟨0x40070018, 4, 4096, 1, 4, [⟨0, 8, .rc, 0⟩, ⟨8, 8, .rc, 0⟩, ⟨16, 8, .rc, 0⟩, ⟨24, 8, .rc, 0⟩]⟩ /- CAN_ECNT0 -/,
  ⟨0x4007001C, 4, 4096, 1, 4, [⟨0, 8, .rc, 0⟩, ⟨8, 8, .rc, 0⟩, ⟨16, 1, .rc, 0⟩]⟩ /- CAN_ECNT1 -/,
  ⟨0x40070020, 4, 4096, 1, 4, [⟨0, 16, .rc, 0⟩, ⟨16, 1, .rc, 0⟩]⟩ /- CAN_DUPID -/,
  ⟨0x40070024, 4, 4096, 1, 4, [⟨0, 29, .ro, 0⟩, ⟨29, 1, .ro, 0⟩]⟩ /- CAN_DUPLAST -/,
  ⟨0x40070028, 4, 4096, 1, 4, [⟨0, 8, .ro, 0⟩, ⟨8, 3, .ro, 0⟩, ⟨16, 8, .rc, 0⟩, ⟨24, 1, .rc, 0⟩]⟩ /- CAN_TXFAIL -/,
  ⟨0x4007002C, 4, 4096, 1, 4, [⟨0, 16, .rc, 0⟩, ⟨16, 1, .rc, 0⟩]⟩ /- CAN_RXDROP -/,
  ⟨0x40070030, 4, 4096, 1, 4, [⟨0, 6, .ro, 0⟩, ⟨8, 8, .rc, 0⟩, ⟨16, 1, .rc, 0⟩]⟩ /- CAN_TT -/,
  ⟨0x40070040, 4, 4096, 1, 4, [⟨0, 3, .ro, 0⟩, ⟨8, 8, .rc, 0⟩, ⟨16, 1, .rc, 0⟩]⟩ /- CAN_HP_STAT -/,
  ⟨0x40070044, 4, 4096, 1, 4, [⟨0, 32, .ro, 0⟩]⟩ /- CAN_HP_ID -/,
  ⟨0x40070048, 4, 4096, 1, 4, [⟨0, 7, .ro, 0⟩, ⟨7, 1, .ro, 0⟩, ⟨8, 8, .ro, 0⟩]⟩ /- CAN_HP_INFO -/,
  ⟨0x4007004C, 4, 4096, 1, 4, [⟨0, 30, .ro, 0⟩]⟩ /- CAN_HP_TSNS -/,
  ⟨0x40070050, 4, 4096, 1, 4, [⟨0, 32, .ro, 0⟩]⟩ /- CAN_HP_TSS -/,
  ⟨0x40070054, 4, 4096, 1, 4, []⟩ /- CAN_HP_POP -/,
  ⟨0x40070080, 4, 4096, 16, 4, [⟨0, 32, .ro, 0⟩]⟩ /- CAN_HP_DATA -/]

/-- Register maps, part 4. -/
def regTable4 : List RegSpec := [
  ⟨0x40070200, 4, 4096, 128, 4, [⟨0, 1, .ro, 0⟩, ⟨1, 1, .ro, 0⟩, ⟨2, 1, .ro, 0⟩, ⟨3, 1, .ro, 0⟩, ⟨8, 8, .rc, 0⟩, ⟨16, 8, .rc, 0⟩, ⟨24, 1, .rc, 0⟩]⟩ /- CAN_OBJ -/,
  ⟨0x40080000, 1, 4, 1, 4, [⟨0, 1, .ro, 0⟩, ⟨1, 1, .ro, 0⟩]⟩ /- NET_STAT -/,
  ⟨0x40080004, 3, 4, 1, 4, [⟨0, 1, .ro, 0⟩, ⟨1, 1, .ro, 0⟩, ⟨2, 2, .ro, 0⟩, ⟨16, 8, .rc, 0⟩, ⟨24, 1, .rc, 0⟩]⟩ /- NET_PORT -/,
  ⟨0x40080010, 1, 4, 1, 4, [⟨0, 16, .ro, 47310⟩]⟩ /- NET_KSAP_PORT -/,
  ⟨0x40080014, 1, 4, 1, 4, [⟨0, 16, .ro, 47312⟩]⟩ /- NET_ECX_PORT -/,
  ⟨0x40080018, 1, 4, 1, 4, [⟨0, 16, .rc, 0⟩, ⟨16, 1, .rc, 0⟩]⟩ /- NET_DROP -/,
  ⟨0x4008001C, 1, 4, 1, 4, [⟨0, 1, .ro, 0⟩, ⟨16, 8, .rc, 0⟩, ⟨24, 1, .rc, 0⟩]⟩ /- NET_MRP -/,
  ⟨0x40080100, 1, 4, 1, 4, [⟨0, 3, .ro, 0⟩, ⟨3, 1, .ro, 0⟩, ⟨4, 1, .w1c, 0⟩, ⟨5, 1, .w1c, 0⟩]⟩ /- PTP_STAT -/,
  ⟨0x40080104, 1, 4, 1, 4, [⟨0, 1, .wo, 0⟩, ⟨8, 8, .wo, 0⟩]⟩ /- PTP_CTRL -/,
  ⟨0x40080108, 1, 4, 1, 4, [⟨0, 32, .rw, 2684354560⟩]⟩ /- PTP_ADDEND -/,
  ⟨0x4008010C, 1, 4, 1, 4, [⟨0, 30, .ro, 0⟩]⟩ /- PTP_NS -/,
  ⟨0x40080110, 1, 4, 1, 4, [⟨0, 32, .ro, 0⟩]⟩ /- PTP_SL -/,
  ⟨0x40080114, 1, 4, 1, 4, [⟨0, 16, .ro, 0⟩]⟩ /- PTP_SH -/,
  ⟨0x40080118, 1, 4, 1, 4, [⟨0, 32, .rw, 0⟩]⟩ /- PTP_ADJ_NS -/,
  ⟨0x4008011C, 1, 4, 1, 4, [⟨0, 32, .rw, 0⟩]⟩ /- PTP_ADJ_S -/,
  ⟨0x40080120, 1, 4, 1, 4, [⟨0, 32, .ro, 0⟩]⟩ /- PTP_OFFSET -/,
  ⟨0x40080124, 1, 4, 1, 4, [⟨0, 32, .ro, 0⟩]⟩ /- PTP_MPD -/,
  ⟨0x40080130, 3, 4, 1, 4, [⟨0, 16, .rw, 0⟩, ⟨16, 16, .rw, 0⟩]⟩ /- PTP_ASYM -/,
  ⟨0x40090000, 1, 4, 1, 4, [⟨0, 3, .ro, 0⟩, ⟨3, 1, .ro, 0⟩, ⟨4, 3, .ro, 7⟩, ⟨7, 1, .ro, 0⟩, ⟨8, 1, .ro, 0⟩, ⟨9, 1, .ro, 0⟩, ⟨10, 1, .ro, 1⟩, ⟨11, 1, .ro, 0⟩, ⟨12, 1, .ro, 0⟩, ⟨13, 1, .ro, 0⟩, ⟨16, 4, .ro, 0⟩]⟩ /- RDL_STAT -/,
  ⟨0x40090004, 1, 4, 1, 4, [⟨0, 8, .ro, 24⟩, ⟨8, 1, .ro, 0⟩, ⟨9, 2, .ro, 0⟩]⟩ /- RDL_CFG -/,
  ⟨0x40090008, 1, 4, 1, 4, [⟨0, 7, .ro, 30⟩, ⟨16, 16, .ro, 0⟩]⟩ /- RDL_SYNC_BUDGET -/,
  ⟨0x4009000C, 1, 4, 1, 4, [⟨0, 1, .wo, 0⟩, ⟨1, 1, .wo, 0⟩, ⟨2, 1, .wo, 0⟩, ⟨8, 8, .wo, 0⟩]⟩ /- RDL_CTRL -/,
  ⟨0x40090010, 1, 4, 1, 4, [⟨0, 1, .ro, 0⟩, ⟨1, 1, .ro, 0⟩, ⟨2, 1, .ro, 0⟩, ⟨8, 8, .rc, 0⟩, ⟨16, 8, .rc, 0⟩, ⟨24, 1, .rc, 0⟩]⟩ /- RDL_LINK -/,
  ⟨0x40090014, 1, 4, 1, 4, [⟨0, 3, .ro, 0⟩, ⟨8, 4, .ro, 0⟩, ⟨16, 7, .ro, 0⟩]⟩ /- RDL_JOIN -/,
  ⟨0x40090018, 1, 4, 1, 4, [⟨0, 10, .ro, 0⟩, ⟨16, 8, .rc, 0⟩, ⟨24, 1, .rc, 0⟩]⟩ /- RDL_LAG -/,
  ⟨0x4009001C, 1, 4, 1, 4, [⟨0, 16, .rc, 0⟩, ⟨16, 1, .rc, 0⟩, ⟨17, 2, .ro, 0⟩, ⟨20, 4, .ro, 15⟩]⟩ /- RDL_DIV -/,
  ⟨0x40090020, 1, 4, 1, 4, [⟨0, 1, .ro, 0⟩, ⟨1, 1, .ro, 0⟩, ⟨8, 4, .ro, 0⟩, ⟨12, 4, .ro, 0⟩, ⟨16, 16, .ro, 0⟩]⟩ /- RDL_TAKE -/,
  ⟨0x40090024, 1, 4, 1, 4, [⟨0, 3, .ro, 0⟩, ⟨16, 16, .ro, 0⟩]⟩ /- RDL_SWAP -/,
  ⟨0x40090028, 1, 4, 1, 4, [⟨0, 16, .ro, 0⟩, ⟨16, 16, .rc, 0⟩]⟩ /- RDL_LOAD -/,
  ⟨0x400A0000, 1, 4, 1, 4, [⟨0, 7, .ro, 0⟩, ⟨7, 1, .ro, 0⟩, ⟨8, 1, .ro, 0⟩, ⟨9, 1, .ro, 0⟩, ⟨16, 9, .ro, 0⟩]⟩ /- EVR_STAT -/]

/-- Register maps, part 5. -/
def regTable5 : List RegSpec := [
  ⟨0x400A0004, 1, 4, 1, 4, [⟨0, 1, .wo, 0⟩, ⟨1, 1, .wo, 0⟩, ⟨8, 8, .wo, 0⟩]⟩ /- EVR_CTRL -/,
  ⟨0x400A0008, 1, 4, 1, 4, [⟨0, 32, .ro, 0⟩]⟩ /- EVR_SEQ -/,
  ⟨0x400A000C, 1, 4, 1, 4, [⟨0, 32, .ro, 0⟩]⟩ /- EVR_ARMSEQ -/,
  ⟨0x400A0010, 1, 4, 1, 4, [⟨0, 32, .ro, 0⟩]⟩ /- EVR_CLRSEQ -/,
  ⟨0x400A0014, 1, 4, 1, 4, [⟨0, 13, .ro, 0⟩]⟩ /- EVR_RINGIDX -/,
  ⟨0x400A0018, 1, 4, 1, 4, [⟨0, 16, .rc, 0⟩, ⟨16, 1, .rc, 0⟩]⟩ /- EVR_LOST -/,
  ⟨0x400A001C, 1, 4, 1, 4, [⟨0, 4, .wo, 0⟩, ⟨16, 16, .wo, 0⟩]⟩ /- EVR_SWREC -/,
  ⟨0x400A0020, 1, 4, 1, 4, [⟨0, 13, .rw, 0⟩, ⟨16, 1, .rw, 0⟩]⟩ /- EVR_CUR -/,
  ⟨0x400A0024, 1, 4, 1, 4, [⟨0, 7, .rc, 0⟩]⟩ /- EVR_PEAK -/,
  ⟨0x400A0100, 64, 4, 1, 4, [⟨0, 32, .ro, 0⟩]⟩ /- EVR_WIN -/,
  ⟨0x400A0400, 256, 4, 1, 4, [⟨0, 1, .rw, 1⟩, ⟨4, 4, .rw, 0⟩, ⟨8, 8, .rw, 0⟩]⟩ /- EVR_TRIG -/,
  ⟨0x400A0800, 16, 128, 26, 4, [⟨0, 32, .rw, 0⟩]⟩ /- EVR_LIST -/,
  ⟨0x400B0000, 1, 4, 1, 4, [⟨0, 3, .ro, 0⟩, ⟨3, 3, .ro, 0⟩]⟩ /- CMP_STAT -/,
  ⟨0x400B0004, 1, 4, 1, 4, [⟨0, 3, .wo, 0⟩, ⟨8, 8, .wo, 0⟩]⟩ /- CMP_CTRL -/,
  ⟨0x400B0008, 1, 4, 1, 4, [⟨0, 5, .ro, 0⟩, ⟨5, 1, .ro, 0⟩]⟩ /- CMP_FIRST -/,
  ⟨0x400B000C, 1, 4, 1, 4, [⟨0, 24, .ro, 0⟩]⟩ /- CMP_LANES -/,
  ⟨0x400B0010, 1, 4, 1, 4, [⟨0, 32, .ro, 0⟩]⟩ /- CMP_SYN_LO -/,
  ⟨0x400B0014, 1, 4, 1, 4, [⟨0, 32, .ro, 0⟩]⟩ /- CMP_SYN_HI -/,
  ⟨0x400B0018, 1, 4, 1, 4, [⟨0, 24, .ro, 0⟩, ⟨24, 1, .ro, 0⟩, ⟨25, 1, .ro, 0⟩]⟩ /- CMP_SELFTEST -/,
  ⟨0x400B001C, 1, 4, 1, 4, [⟨0, 16, .rc, 0⟩, ⟨16, 1, .rc, 0⟩]⟩ /- CMP_CPAR -/,
  ⟨0x400B0040, 1, 4, 1, 4, [⟨0, 16, .rc, 0⟩, ⟨16, 1, .rc, 0⟩]⟩ /- CMP_SCORR -/,
  ⟨0x400B0044, 1, 4, 1, 4, [⟨0, 8, .rc, 0⟩, ⟨8, 1, .rc, 0⟩]⟩ /- CMP_SUNC -/,
  ⟨0x400B0048, 1, 4, 1, 4, [⟨0, 32, .ro, 0⟩]⟩ /- CMP_SADDR -/,
  ⟨0x400B004C, 1, 4, 1, 4, [⟨0, 3, .ro, 0⟩, ⟨3, 1, .ro, 0⟩, ⟨4, 8, .ro, 0⟩]⟩ /- CMP_SINFO -/,
  ⟨0x400B0050, 1, 4, 1, 4, [⟨0, 16, .rc, 0⟩, ⟨16, 1, .rc, 0⟩]⟩ /- CMP_MCORR -/,
  ⟨0x400B0054, 1, 4, 1, 4, [⟨0, 8, .rc, 0⟩, ⟨8, 1, .rc, 0⟩]⟩ /- CMP_MUNC -/,
  ⟨0x400B0058, 1, 4, 1, 4, [⟨0, 32, .ro, 0⟩]⟩ /- CMP_MADDR -/,
  ⟨0x400B005C, 1, 4, 1, 4, [⟨0, 3, .ro, 0⟩, ⟨3, 1, .ro, 0⟩, ⟨4, 8, .ro, 0⟩]⟩ /- CMP_MINFO -/,
  ⟨0x400B0060, 1, 4, 1, 4, [⟨0, 16, .rc, 0⟩, ⟨16, 1, .rc, 0⟩, ⟨24, 7, .ro, 0⟩]⟩ /- CMP_SCRUB -/,
  ⟨0x400C0000, 1, 4, 1, 4, [⟨0, 1, .ro, 0⟩, ⟨1, 1, .ro, 0⟩, ⟨2, 1, .ro, 0⟩, ⟨3, 1, .ro, 0⟩, ⟨4, 3, .ro, 0⟩, ⟨8, 8, .ro, 0⟩, ⟨16, 8, .ro, 0⟩]⟩ /- PNL_STAT -/]

/-- Register maps, part 6. -/
def regTable6 : List RegSpec := [
  ⟨0x400C0004, 1, 4, 1, 4, [⟨0, 1, .wo, 0⟩, ⟨1, 1, .wo, 0⟩, ⟨8, 8, .wo, 0⟩]⟩ /- PNL_CTRL -/,
  ⟨0x400C0008, 1, 4, 1, 4, [⟨0, 9, .rw, 0⟩, ⟨16, 8, .rw, 0⟩]⟩ /- PNL_RGN0 -/,
  ⟨0x400C000C, 1, 4, 1, 4, [⟨0, 9, .rw, 399⟩, ⟨16, 8, .rw, 239⟩]⟩ /- PNL_RGN1 -/,
  ⟨0x400C0010, 1, 4, 1, 4, [⟨0, 16, .rw, 0⟩, ⟨16, 1, .rw, 0⟩]⟩ /- PNL_FBADDR -/,
  ⟨0x400C0014, 1, 4, 1, 4, [⟨0, 32, .rw, 0⟩]⟩ /- PNL_FBDATA -/,
  ⟨0x400C0018, 1, 4, 1, 4, [⟨0, 32, .ro, 0⟩]⟩ /- PNL_FCRC -/,
  ⟨0x400C001C, 1, 4, 1, 4, [⟨0, 1, .ro, 0⟩, ⟨1, 1, .ro, 0⟩, ⟨16, 16, .ro, 0⟩]⟩ /- PNL_KEY -/,
  ⟨0x400C0020, 1, 4, 1, 4, [⟨0, 1, .ro, 0⟩, ⟨1, 1, .ro, 0⟩, ⟨2, 1, .ro, 0⟩, ⟨8, 8, .ro, 0⟩, ⟨16, 3, .ro, 0⟩]⟩ /- PNL_REC -/,
  ⟨0x400C0024, 1, 4, 1, 4, [⟨0, 16, .rc, 0⟩, ⟨16, 1, .rc, 0⟩]⟩ /- PNL_UPDCNT -/,
  ⟨0x400D0000, 1, 4, 1, 4, [⟨0, 2, .ro, 0⟩, ⟨2, 1, .ro, 0⟩, ⟨8, 8, .ro, 0⟩]⟩ /- WVE_STAT -/,
  ⟨0x400D0004, 1, 4, 1, 4, [⟨0, 32, .ro, 0⟩]⟩ /- WVE_BUILD -/,
  ⟨0x400D0008, 1, 4, 1, 4, [⟨0, 32, .ro, 0⟩]⟩ /- WVE_SAFECHK -/,
  ⟨0x400D000C, 1, 4, 1, 4, [⟨0, 16, .ro, 0⟩, ⟨16, 8, .ro, 255⟩]⟩ /- WVE_LOADRES -/,
  ⟨0x400D0010, 1, 4, 1, 4, [⟨0, 15, .ro, 0⟩, ⟨15, 1, .ro, 0⟩, ⟨16, 15, .ro, 0⟩]⟩ /- WVE_ROUTES -/,
  ⟨0x400D0014, 1, 4, 1, 4, [⟨0, 5, .ro, 0⟩, ⟨8, 4, .ro, 0⟩, ⟨16, 15, .ro, 0⟩]⟩ /- WVE_CHGSTAT -/,
  ⟨0x400D0018, 1, 4, 1, 4, [⟨0, 32, .ro, 0⟩]⟩ /- WVE_CHGLAST -/,
  ⟨0x400D001C, 1, 4, 1, 4, [⟨0, 32, .ro, 0⟩]⟩ /- WVE_CHGTRICK -/,
  ⟨0x400D0020, 1, 4, 1, 4, [⟨0, 3, .ro, 0⟩, ⟨3, 1, .ro, 0⟩, ⟨16, 16, .ro, 0⟩]⟩ /- WVE_SWAP -/,
  ⟨0x400D0024, 1, 4, 1, 4, [⟨0, 30, .ro, 0⟩]⟩ /- WVE_SWAPT_NS -/,
  ⟨0x400D0028, 1, 4, 1, 4, [⟨0, 32, .ro, 0⟩]⟩ /- WVE_SWAPT_SL -/,
  ⟨0x400D002C, 1, 4, 1, 4, [⟨0, 16, .ro, 0⟩]⟩ /- WVE_SWAPT_SH -/,
  ⟨0x400D0030, 1, 4, 1, 4, [⟨0, 16, .rc, 0⟩, ⟨16, 1, .rc, 0⟩]⟩ /- WVE_ROUTESAT -/,
  ⟨0x400D0034, 1, 4, 1, 4, [⟨0, 16, .rc, 0⟩, ⟨16, 1, .rc, 0⟩]⟩ /- WVE_SUBST -/,
  ⟨0x400E0000, 1, 4, 1, 4, [⟨0, 32, .rw, 0⟩]⟩ /- HDP_ADDR -/,
  ⟨0x400E0004, 1, 4, 1, 4, [⟨0, 32, .rw, 0⟩]⟩ /- HDP_DATA -/,
  ⟨0x400E0008, 1, 4, 1, 4, [⟨0, 32, .rw, 0⟩]⟩ /- HDP_DATAH -/,
  ⟨0x400E000C, 1, 4, 1, 4, [⟨0, 2, .rw, 2⟩, ⟨2, 1, .rw, 1⟩, ⟨3, 1, .rw, 0⟩, ⟨4, 1, .wo, 0⟩, ⟨8, 9, .rw, 1⟩]⟩ /- HDP_CTRL -/,
  ⟨0x400E0010, 1, 4, 1, 4, [⟨0, 1, .ro, 0⟩, ⟨1, 1, .w1c, 0⟩, ⟨2, 1, .w1c, 0⟩, ⟨3, 1, .w1c, 0⟩, ⟨4, 1, .w1c, 0⟩, ⟨5, 1, .w1c, 0⟩, ⟨16, 9, .ro, 0⟩]⟩ /- HDP_STAT -/]

/-- Every register of the host address space that has a map. -/
def regTable : List RegSpec := regTable0 ++ regTable1 ++ regTable2 ++ regTable3 ++ regTable4 ++ regTable5 ++ regTable6

/-- The map entry of an address, if it is a register (R99: any other offset of a window reads 0 and ignores writes). -/
def regSpec (a : Nat) : Option RegSpec := regTable.find? (fun r => r.has a)

/-- The reset value of a map entry. -/
def RegSpec.resetNat (r : RegSpec) : Nat := r.fields.foldl (fun acc f => acc + f.reset * 2 ^ f.lo) 0

/-- The reset value of a register: its map's, with the two mailbox groups that reset enabled (R146) and list 15 of the
recorder, which the hardware fixes (R487); EN of the recorder's own sources reads 0 (R496); a new module's first sequence number is
1, it is shipped armed, and its ring starts at record 512 (R483, R490, R491). -/
def regReset (a : Nat) : Word :=
  if 0x40024800 ≤ a ∧ a < 0x40024A00 ∧ a % 0x80 = 0 then 0x1C
  else if 0x40024A00 ≤ a ∧ a < 0x40024C00 ∧ a % 0x80 = 0 then 0x13
  else if 0x400A0F80 ≤ a ∧ a < 0x400A0FE8 then
    BitVec.ofNat 32 ([0x40000000, 0x4000002C, 0x40000024, 0x40000028, 0x400B0000, 0x400B0008, 0x400B000C, 0x400B0010,
      0x400B0014, 0x400B0048, 0x400B004C, 0x400B0058, 0x400B005C, 0x40030000, 0x40030008, 0x40090000, 0x40090010,
      0x40090020, 0x40050000, 0x40050020, 0x40050024, 0x400D0000, 0x40060000, 0x40080100, 0x40011004,
      0x4001100C].getD ((a - 0x400A0F80) / 4) 0)
  else if 0x400A07A0 ≤ a ∧ a < 0x400A07C0 then 0
  else if a = 0x400A0008 ∨ a = 0x400A000C then 1
  else if a = 0x400A0014 then 512
  else match regSpec a with
    | some r => BitVec.ofNat 32 r.resetNat
    | none => 0

end Sys2Proof.Machine

/-! Addresses and fields by the spec's names. -/

namespace Sys2Proof.Machine.Reg
open Sys2Proof.Machine

def CPM_STAT : Nat := 0x40000000
def CPM_STAT_PSTATE : Field := ⟨CPM_STAT, 0, 2⟩
def CPM_STAT_PAIR_IDLE : Field := ⟨CPM_STAT, 2, 3⟩
def CPM_STAT_PLL_LOCK : Field := ⟨CPM_STAT, 5, 1⟩
def CPM_STAT_PLL_COAST : Field := ⟨CPM_STAT, 6, 1⟩
def CPM_STAT_REF_OK : Field := ⟨CPM_STAT, 7, 1⟩
def CPM_STAT_XT32_OK : Field := ⟨CPM_STAT, 8, 1⟩
def CPM_STAT_TB_LOCK : Field := ⟨CPM_STAT, 9, 1⟩
def CPM_STAT_OSEC_IOSC : Field := ⟨CPM_STAT, 10, 1⟩
def CPM_STAT_DOZE_OK : Field := ⟨CPM_STAT, 11, 1⟩
def CPM_STAT_SLOT : Field := ⟨CPM_STAT, 12, 4⟩
def CPM_STAT_SLOT_CHG : Field := ⟨CPM_STAT, 16, 1⟩
def CPM_STAT_SUPST : Field := ⟨CPM_STAT, 17, 2⟩
def CPM_STAT_HOLD_RDY : Field := ⟨CPM_STAT, 19, 1⟩
def CPM_FMRES : Nat := 0x40000018
def CPM_FMRES_COUNT : Field := ⟨CPM_FMRES, 0, 32⟩
def CPM_CTRL : Nat := 0x40000004
def CPM_CTRL_RESTART : Field := ⟨CPM_CTRL, 0, 1⟩
def CPM_CTRL_HALT_REQ : Field := ⟨CPM_CTRL, 1, 1⟩
def CPM_CTRL_KEY : Field := ⟨CPM_CTRL, 8, 8⟩
def CPM_OPSEC : Nat := 0x4000001C
def CPM_OPSEC_OPSEC : Field := ⟨CPM_OPSEC, 0, 32⟩
def CPM_CLKDIV : Nat := 0x40000008
def CPM_CLKDIV_CORE_DIV : Field := ⟨CPM_CLKDIV, 0, 5⟩
def CPM_CLKDIV_FAB_DIV : Field := ⟨CPM_CLKDIV, 8, 6⟩
def CPM_CLKDIV_CAN_DIV : Field := ⟨CPM_CLKDIV, 16, 8⟩
def CPM_CLKDIV_ETH_DIV : Field := ⟨CPM_CLKDIV, 24, 6⟩
def CPM_PWRCYC : Nat := 0x40000020
def CPM_PWRCYC_PWRCYC : Field := ⟨CPM_PWRCYC, 0, 32⟩
def CPM_PSCFG : Nat := 0x4000000C
def CPM_PSCFG_DOZE_EN : Field := ⟨CPM_PSCFG, 0, 1⟩
def CPM_PSCFG_WAKE_LVL : Field := ⟨CPM_PSCFG, 4, 4⟩
def CPM_PSCFG_WAKE_LEAD : Field := ⟨CPM_PSCFG, 8, 8⟩
def CPM_SUP : Nat := 0x40000024
def CPM_SUP_VSUP : Field := ⟨CPM_SUP, 0, 10⟩
def CPM_SUP_HOLD_PCT : Field := ⟨CPM_SUP, 16, 8⟩
def CPM_TRIM : Nat := 0x40000010
def CPM_TRIM_TRIM : Field := ⟨CPM_TRIM, 0, 10⟩
def CPM_TRIM_SRC : Field := ⟨CPM_TRIM, 10, 2⟩
def CPM_TRIM_CANPORT : Field := ⟨CPM_TRIM, 12, 2⟩
def CPM_TRIM_TRIMMED : Field := ⟨CPM_TRIM, 14, 1⟩
def CPM_TRIM_ERR_PPM : Field := ⟨CPM_TRIM, 16, 16⟩
def CPM_RSTCAUSE : Nat := 0x40000028
def CPM_RSTCAUSE_POWER : Field := ⟨CPM_RSTCAUSE, 0, 1⟩
def CPM_RSTCAUSE_SWREQ : Field := ⟨CPM_RSTCAUSE, 1, 1⟩
def CPM_RSTCAUSE_SUPRET : Field := ⟨CPM_RSTCAUSE, 2, 1⟩
def CPM_RSTCAUSE_AUTO : Field := ⟨CPM_RSTCAUSE, 3, 1⟩
def CPM_FMCTRL : Nat := 0x40000014
def CPM_FMCTRL_MEAS : Field := ⟨CPM_FMCTRL, 0, 4⟩
def CPM_FMCTRL_REF : Field := ⟨CPM_FMCTRL, 4, 4⟩
def CPM_FMCTRL_GATE : Field := ⟨CPM_FMCTRL, 8, 16⟩
def CPM_FMCTRL_START : Field := ⟨CPM_FMCTRL, 24, 1⟩
def CPM_FMCTRL_BUSY : Field := ⟨CPM_FMCTRL, 25, 1⟩
def CPM_FMCTRL_OVF : Field := ⟨CPM_FMCTRL, 26, 1⟩
def CPM_FAULT : Nat := 0x4000002C
def CPM_FAULT_REF_LOSS : Field := ⟨CPM_FAULT, 0, 1⟩
def CPM_FAULT_XT32_FAIL : Field := ⟨CPM_FAULT, 1, 1⟩
def CPM_FAULT_DIVWR : Field := ⟨CPM_FAULT, 2, 1⟩
def CPM_FAULT_SUP_LOW : Field := ⟨CPM_FAULT, 3, 1⟩
def CPM_FAULT_SUP_OVER : Field := ⟨CPM_FAULT, 4, 1⟩
def HDP_ADDR : Nat := 0x400E0000
def HDP_ADDR_ADDR : Field := ⟨HDP_ADDR, 0, 32⟩
def HDP_DATA : Nat := 0x400E0004
def HDP_DATA_DATA : Field := ⟨HDP_DATA, 0, 32⟩
def HDP_DATAH : Nat := 0x400E0008
def HDP_DATAH_DATAH : Field := ⟨HDP_DATAH, 0, 32⟩
def HDP_CTRL : Nat := 0x400E000C
def HDP_CTRL_SIZE : Field := ⟨HDP_CTRL, 0, 2⟩
def HDP_CTRL_INC : Field := ⟨HDP_CTRL, 2, 1⟩
def HDP_CTRL_DIR : Field := ⟨HDP_CTRL, 3, 1⟩
def HDP_CTRL_GO : Field := ⟨HDP_CTRL, 4, 1⟩
def HDP_CTRL_COUNT : Field := ⟨HDP_CTRL, 8, 9⟩
def HDP_STAT : Nat := 0x400E0010
def HDP_STAT_BUSY : Field := ⟨HDP_STAT, 0, 1⟩
def HDP_STAT_DONE : Field := ⟨HDP_STAT, 1, 1⟩
def HDP_STAT_ERR_ALIGN : Field := ⟨HDP_STAT, 2, 1⟩
def HDP_STAT_ERR_MAP : Field := ⟨HDP_STAT, 3, 1⟩
def HDP_STAT_ERR_DENIED : Field := ⟨HDP_STAT, 4, 1⟩
def HDP_STAT_ERR_ECC : Field := ⟨HDP_STAT, 5, 1⟩
def HDP_STAT_XFER : Field := ⟨HDP_STAT, 16, 9⟩
def EVT_ROUTE (s : Nat) : Nat := 0x40010000 + 4 * s
def EVT_ROUTE_TARGET (s : Nat) : Field := ⟨EVT_ROUTE s, 0, 2⟩
def EVT_ROUTE_LEVEL (s : Nat) : Field := ⟨EVT_ROUTE s, 4, 4⟩
def EVT_ROUTE_EN (s : Nat) : Field := ⟨EVT_ROUTE s, 8, 1⟩
def EVT_CNT (s : Nat) : Nat := 0x40010400 + 4 * s
def EVT_CNT_COUNT (s : Nat) : Field := ⟨EVT_CNT s, 0, 8⟩
def EVT_CNT_SAT (s : Nat) : Field := ⟨EVT_CNT s, 8, 1⟩
def EVT_INFO_LO (s : Nat) : Nat := 0x40010800 + 8 * s
def EVT_INFO_LO_INFO (s : Nat) : Field := ⟨EVT_INFO_LO s, 0, 32⟩
def EVT_INFO_HI (s : Nat) : Nat := 0x40010804 + 8 * s
def EVT_INFO_HI_INFO (s : Nat) : Field := ⟨EVT_INFO_HI s, 0, 32⟩
def EVT_PEND (i : Nat) : Nat := 0x40011000 + 4 * i
def EVT_PEND_PEND (i : Nat) : Field := ⟨EVT_PEND i, 0, 32⟩
def EVT_CLAIM (p : Nat) : Nat := 0x40011040 + 16 * p
def EVT_CLAIM_SRC (p : Nat) : Field := ⟨EVT_CLAIM p, 0, 8⟩
def EVT_CLAIM_LEVEL (p : Nat) : Field := ⟨EVT_CLAIM p, 8, 4⟩
def EVT_CLAIM_VALID (p : Nat) : Field := ⟨EVT_CLAIM p, 31, 1⟩
def EVT_THR (p : Nat) : Nat := 0x40011044 + 16 * p
def EVT_THR_THR (p : Nat) : Field := ⟨EVT_THR p, 0, 5⟩
def EVT_SWTRIG : Nat := 0x40011080
def EVT_SWTRIG_SEL : Field := ⟨EVT_SWTRIG, 0, 3⟩
def EVT_SWTRIG_INFO : Field := ⟨EVT_SWTRIG, 16, 16⟩
def QUE_AGE_LIMIT : Nat := 0x40020000
def QUE_AGE_LIMIT_LIMIT : Field := ⟨QUE_AGE_LIMIT, 0, 16⟩
def QUE_PUSHST : Nat := 0x40020004
def QUE_PUSHST_RESULT : Field := ⟨QUE_PUSHST, 0, 3⟩
def QUE_PUSHST_QUEUE : Field := ⟨QUE_PUSHST, 8, 6⟩
def QUE_ATTN_LO (p : Nat) : Nat := 0x40020020 + 8 * p
def QUE_ATTN_LO_ATTN (p : Nat) : Field := ⟨QUE_ATTN_LO p, 0, 32⟩
def QUE_ATTN_HI (p : Nat) : Nat := 0x40020024 + 8 * p
def QUE_ATTN_HI_ATTN (p : Nat) : Field := ⟨QUE_ATTN_HI p, 0, 32⟩
def QUE_CFG (q : Nat) : Nat := 0x40020100 + 32 * q
def QUE_CFG_CLASS (q : Nat) : Field := ⟨QUE_CFG q, 0, 3⟩
def QUE_CFG_EN (q : Nat) : Field := ⟨QUE_CFG q, 3, 1⟩
def QUE_CFG_SIZE (q : Nat) : Field := ⟨QUE_CFG q, 4, 4⟩
def QUE_CFG_PROD (q : Nat) : Field := ⟨QUE_CFG q, 8, 6⟩
def QUE_CFG_CONS (q : Nat) : Field := ⟨QUE_CFG q, 16, 6⟩
def QUE_BASE (q : Nat) : Nat := 0x40020104 + 32 * q
def QUE_BASE_BASE (q : Nat) : Field := ⟨QUE_BASE q, 0, 32⟩
def QUE_PUSH (q : Nat) : Nat := 0x40020108 + 32 * q
def QUE_PUSH_DESC (q : Nat) : Field := ⟨QUE_PUSH q, 0, 32⟩
def QUE_POP (q : Nat) : Nat := 0x4002010C + 32 * q
def QUE_POP_DESC (q : Nat) : Field := ⟨QUE_POP q, 0, 32⟩
def QUE_REL (q : Nat) : Nat := 0x40020110 + 32 * q
def QUE_STAT (q : Nat) : Nat := 0x40020114 + 32 * q
def QUE_STAT_LEVEL (q : Nat) : Field := ⟨QUE_STAT q, 0, 13⟩
def QUE_STAT_ECLASS (q : Nat) : Field := ⟨QUE_STAT q, 13, 3⟩
def QUE_STAT_AGE (q : Nat) : Field := ⟨QUE_STAT q, 16, 16⟩
def QUE_DROP (q : Nat) : Nat := 0x40020118 + 32 * q
def QUE_DROP_DROPS (q : Nat) : Field := ⟨QUE_DROP q, 0, 16⟩
def QUE_DROP_SAT (q : Nat) : Field := ⟨QUE_DROP q, 16, 1⟩
def QUE_TRUMPS (q : Nat) : Nat := 0x4002011C + 32 * q
def QUE_TRUMPS_TRUMPS (q : Nat) : Field := ⟨QUE_TRUMPS q, 0, 16⟩
def QUE_TRUMPS_SAT (q : Nat) : Field := ⟨QUE_TRUMPS q, 16, 1⟩
def MBX_CFG (m : Nat) : Nat := 0x40024000 + 128 * m
def MBX_CFG_SND (m : Nat) : Field := ⟨MBX_CFG m, 0, 2⟩
def MBX_CFG_RCV (m : Nat) : Field := ⟨MBX_CFG m, 2, 2⟩
def MBX_CFG_EN (m : Nat) : Field := ⟨MBX_CFG m, 4, 1⟩
def MBX_CFG_TMO (m : Nat) : Field := ⟨MBX_CFG m, 16, 16⟩
def MBX_STAT (m : Nat) : Nat := 0x40024004 + 128 * m
def MBX_STAT_FULL (m : Nat) : Field := ⟨MBX_STAT m, 0, 1⟩
def MBX_STAT_COLL (m : Nat) : Field := ⟨MBX_STAT m, 1, 1⟩
def MBX_STAT_TMO (m : Nat) : Field := ⟨MBX_STAT m, 2, 1⟩
def MBX_STAT_RXRST (m : Nat) : Field := ⟨MBX_STAT m, 3, 1⟩
def MBX_POST (m : Nat) : Nat := 0x40024008 + 128 * m
def MBX_POST_LEN (m : Nat) : Field := ⟨MBX_POST m, 0, 6⟩
def MBX_POST_TAG (m : Nat) : Field := ⟨MBX_POST m, 8, 8⟩
def MBX_TAKE (m : Nat) : Nat := 0x4002400C + 128 * m
def MBX_RXHDR (m : Nat) : Nat := 0x40024010 + 128 * m
def MBX_RXHDR_LEN (m : Nat) : Field := ⟨MBX_RXHDR m, 0, 6⟩
def MBX_RXHDR_TAG (m : Nat) : Field := ⟨MBX_RXHDR m, 8, 8⟩
def MBX_RXHDR_GEN (m : Nat) : Field := ⟨MBX_RXHDR m, 16, 8⟩
def MBX_TX (m : Nat) (w : Nat) : Nat := 0x40024020 + 128 * m + 4 * w
def MBX_TX_DATA (m : Nat) (w : Nat) : Field := ⟨MBX_TX m w, 0, 32⟩
def MBX_RX (m : Nat) (w : Nat) : Nat := 0x40024040 + 128 * m + 4 * w
def MBX_RX_DATA (m : Nat) (w : Nat) : Field := ⟨MBX_RX m w, 0, 32⟩
def MBX_GEN : Nat := 0x40024C00
def MBX_GEN_GEN0 : Field := ⟨MBX_GEN, 0, 8⟩
def MBX_GEN_GEN1 : Field := ⟨MBX_GEN, 8, 8⟩
def MBX_GEN_GEN2 : Field := ⟨MBX_GEN, 16, 8⟩
def MBX_GEN_GENF : Field := ⟨MBX_GEN, 24, 8⟩
def MBX_ATTN (p : Nat) : Nat := 0x40024C10 + 4 * p
def MBX_ATTN_ATTN (p : Nat) : Field := ⟨MBX_ATTN p, 0, 24⟩
def LCK (n : Nat) : Nat := 0x40026000 + 4 * n
def LCK_OWNER (n : Nat) : Field := ⟨LCK n, 0, 3⟩
def LCK_PEEK (n : Nat) : Nat := 0x40026080 + 4 * n
def LCK_PEEK_OWNER (n : Nat) : Field := ⟨LCK_PEEK n, 0, 3⟩
def LCK_PEEK_TOKEN (n : Nat) : Field := ⟨LCK_PEEK n, 4, 3⟩
def LCK_HDPREQ : Nat := 0x40026100
def LCK_HDPREQ_LOCK : Field := ⟨LCK_HDPREQ, 0, 5⟩
def LCK_HDPREL : Nat := 0x40026104
def LCK_HDPREL_LOCK : Field := ⟨LCK_HDPREL, 0, 5⟩
def LCK_HDPRES : Nat := 0x40026108
def LCK_HDPRES_DONE : Field := ⟨LCK_HDPRES, 0, 1⟩
def LCK_HDPRES_GOT : Field := ⟨LCK_HDPRES, 1, 1⟩
def LCK_HDPRES_OWNER : Field := ⟨LCK_HDPRES, 2, 3⟩
def LCK_HOLD_LIMIT : Nat := 0x4002610C
def LCK_HOLD_LIMIT_LIMIT : Field := ⟨LCK_HOLD_LIMIT, 0, 16⟩
def LCK_BADREL : Nat := 0x40026110
def LCK_BADREL_BADREL : Field := ⟨LCK_BADREL, 0, 32⟩
def WVE_STAT : Nat := 0x400D0000
def WVE_STAT_IMG : Field := ⟨WVE_STAT, 0, 2⟩
def WVE_STAT_JBAD : Field := ⟨WVE_STAT, 2, 1⟩
def WVE_STAT_SECTIONS : Field := ⟨WVE_STAT, 8, 8⟩
def WVE_SWAP : Nat := 0x400D0020
def WVE_SWAP_PHASE : Field := ⟨WVE_SWAP, 0, 3⟩
def WVE_SWAP_NEEDCONF : Field := ⟨WVE_SWAP, 3, 1⟩
def WVE_SWAP_ABORT : Field := ⟨WVE_SWAP, 16, 16⟩
def WVE_BUILD : Nat := 0x400D0004
def WVE_BUILD_BUILD_ID : Field := ⟨WVE_BUILD, 0, 32⟩
def WVE_SWAPT_NS : Nat := 0x400D0024
def WVE_SWAPT_NS_NS : Field := ⟨WVE_SWAPT_NS, 0, 30⟩
def WVE_SAFECHK : Nat := 0x400D0008
def WVE_SAFECHK_CHECK : Field := ⟨WVE_SAFECHK, 0, 32⟩
def WVE_SWAPT_SL : Nat := 0x400D0028
def WVE_SWAPT_SL_SEC_LO : Field := ⟨WVE_SWAPT_SL, 0, 32⟩
def WVE_LOADRES : Nat := 0x400D000C
def WVE_LOADRES_REASON : Field := ⟨WVE_LOADRES, 0, 16⟩
def WVE_LOADRES_SECTION : Field := ⟨WVE_LOADRES, 16, 8⟩
def WVE_SWAPT_SH : Nat := 0x400D002C
def WVE_SWAPT_SH_SEC_HI : Field := ⟨WVE_SWAPT_SH, 0, 16⟩
def WVE_ROUTES : Nat := 0x400D0010
def WVE_ROUTES_COUNT : Field := ⟨WVE_ROUTES, 0, 15⟩
def WVE_ROUTES_BANK : Field := ⟨WVE_ROUTES, 15, 1⟩
def WVE_ROUTES_COUNT_ALT : Field := ⟨WVE_ROUTES, 16, 15⟩
def WVE_ROUTESAT : Nat := 0x400D0030
def WVE_ROUTESAT_COUNT : Field := ⟨WVE_ROUTESAT, 0, 16⟩
def WVE_ROUTESAT_SAT : Field := ⟨WVE_ROUTESAT, 16, 1⟩
def WVE_CHGSTAT : Nat := 0x400D0014
def WVE_CHGSTAT_PENDING : Field := ⟨WVE_CHGSTAT, 0, 5⟩
def WVE_CHGSTAT_LASTTASK : Field := ⟨WVE_CHGSTAT, 8, 4⟩
def WVE_CHGSTAT_JBYTES : Field := ⟨WVE_CHGSTAT, 16, 15⟩
def WVE_SUBST : Nat := 0x400D0034
def WVE_SUBST_COUNT : Field := ⟨WVE_SUBST, 0, 16⟩
def WVE_SUBST_SAT : Field := ⟨WVE_SUBST, 16, 1⟩
def WVE_CHGLAST : Nat := 0x400D0018
def WVE_CHGLAST_SET_ID : Field := ⟨WVE_CHGLAST, 0, 32⟩
def WVE_CHGTRICK : Nat := 0x400D001C
def WVE_CHGTRICK_TRICK : Field := ⟨WVE_CHGTRICK, 0, 32⟩
def IMG_STAT : Nat := 0x40030000
def IMG_STAT_RELEASING : Field := ⟨IMG_STAT, 0, 1⟩
def IMG_STAT_STOPPED : Field := ⟨IMG_STAT, 1, 1⟩
def IMG_RETAIN_MS : Nat := 0x40030004
def IMG_RETAIN_MS_MS : Field := ⟨IMG_RETAIN_MS, 0, 11⟩
def IMG_OVR : Nat := 0x40030008
def IMG_OVR_TASK : Field := ⟨IMG_OVR, 0, 4⟩
def IMG_OVR_CAUSE : Field := ⟨IMG_OVR, 4, 2⟩
def IMG_OVR_COMMON : Field := ⟨IMG_OVR, 6, 1⟩
def IMG_OVR_TRICK : Field := ⟨IMG_OVR, 8, 24⟩
def IMG_SLACKWARN : Nat := 0x4003000C
def IMG_SLACKWARN_PCT : Field := ⟨IMG_SLACKWARN, 0, 7⟩
def IMG_TASK (c : Nat) : Nat := 0x40030040 + 32 * c
def IMG_TASK_EN (c : Nat) : Field := ⟨IMG_TASK c, 0, 1⟩
def IMG_TASK_PAIR (c : Nat) : Field := ⟨IMG_TASK c, 1, 2⟩
def IMG_TASK_RUNNING (c : Nat) : Field := ⟨IMG_TASK c, 3, 1⟩
def IMG_TASK_PREEMPTED (c : Nat) : Field := ⟨IMG_TASK c, 4, 1⟩
def IMG_TRICK (c : Nat) : Nat := 0x40030044 + 32 * c
def IMG_TRICK_COMMITTED (c : Nat) : Field := ⟨IMG_TRICK c, 0, 24⟩
def IMG_TRICK_PENDING (c : Nat) : Field := ⟨IMG_TRICK c, 24, 1⟩
def IMG_EXEC (c : Nat) : Nat := 0x40030048 + 32 * c
def IMG_EXEC_LAST (c : Nat) : Field := ⟨IMG_EXEC c, 0, 32⟩
def IMG_EXMAX (c : Nat) : Nat := 0x4003004C + 32 * c
def IMG_EXMAX_MAX (c : Nat) : Field := ⟨IMG_EXMAX c, 0, 32⟩
def IMG_SLACK (c : Nat) : Nat := 0x40030050 + 32 * c
def IMG_SLACK_MIN (c : Nat) : Field := ⟨IMG_SLACK c, 0, 32⟩
def IMG_VIEW_CTRL (v : Nat) : Nat := 0x40030200 + 16 * v
def IMG_VIEW_CTRL_MASK (v : Nat) : Field := ⟨IMG_VIEW_CTRL v, 0, 9⟩
def IMG_VIEW_STAT (v : Nat) : Nat := 0x40030204 + 16 * v
def IMG_VIEW_STAT_STATE (v : Nat) : Field := ⟨IMG_VIEW_STAT v, 0, 2⟩
def IMG_VIEW_STAT_EXPTASK (v : Nat) : Field := ⟨IMG_VIEW_STAT v, 4, 4⟩
def IMG_VIEW_STAT_TRICK (v : Nat) : Field := ⟨IMG_VIEW_STAT v, 8, 24⟩
def IMG_VIEW_ADDR (v : Nat) : Nat := 0x40030208 + 16 * v
def IMG_VIEW_ADDR_OFFSET (v : Nat) : Field := ⟨IMG_VIEW_ADDR v, 0, 16⟩
def IMG_VIEW_ADDR_TASK (v : Nat) : Field := ⟨IMG_VIEW_ADDR v, 16, 4⟩
def IMG_VIEW_DATA (v : Nat) : Nat := 0x4003020C + 16 * v
def IMG_VIEW_DATA_DATA (v : Nat) : Field := ⟨IMG_VIEW_DATA v, 0, 32⟩
def LPE_STAT : Nat := 0x40040000
def LPE_STAT_RUN : Field := ⟨LPE_STAT, 0, 1⟩
def LPE_STAT_SLOTS : Field := ⟨LPE_STAT, 16, 11⟩
def LPE_RATE : Nat := 0x40040004
def LPE_RATE_RATE : Field := ⟨LPE_RATE, 0, 25⟩
def LPE_BURST : Nat := 0x40040008
def LPE_BURST_CYCLES : Field := ⟨LPE_BURST, 0, 15⟩
def LPE_BURST_PEAK : Field := ⟨LPE_BURST, 16, 15⟩
def LPE_OVR : Nat := 0x4004000C
def LPE_OVR_SKIPS : Field := ⟨LPE_OVR, 0, 16⟩
def LPE_OVR_SAT : Field := ⟨LPE_OVR, 16, 1⟩
def LPE_OVR_LAST : Field := ⟨LPE_OVR, 20, 10⟩
def LPE_REJ : Nat := 0x40040010
def LPE_REJ_COUNT : Field := ⟨LPE_REJ, 0, 16⟩
def LPE_REJ_SAT : Field := ⟨LPE_REJ, 16, 1⟩
def LPE_REJ_LAST : Field := ⟨LPE_REJ, 20, 10⟩
def LPE_PP_CFG : Nat := 0x40040020
def LPE_PP_CFG_LOCK : Field := ⟨LPE_PP_CFG, 0, 20⟩
def LPE_PP_CFG_EN : Field := ⟨LPE_PP_CFG, 20, 4⟩
def LPE_PP_CTRL : Nat := 0x40040024
def LPE_PP_CTRL_COUNT : Field := ⟨LPE_PP_CTRL, 0, 7⟩
def LPE_PP_CTRL_LIST : Field := ⟨LPE_PP_CTRL, 8, 2⟩
def LPE_PP_CTRL_GO : Field := ⟨LPE_PP_CTRL, 10, 1⟩
def LPE_PP_STAT : Nat := 0x40040028
def LPE_PP_STAT_BUSY : Field := ⟨LPE_PP_STAT, 0, 1⟩
def LPE_PP_STAT_DONE : Field := ⟨LPE_PP_STAT, 1, 1⟩
def LPE_PP_STAT_ERR : Field := ⟨LPE_PP_STAT, 2, 3⟩
def LPE_PP_STAT_REFUSED : Field := ⟨LPE_PP_STAT, 8, 8⟩
def LPE_PP_ADDR (l : Nat) : Nat := 0x40040030 + 4 * l
def LPE_PP_ADDR_ADDR (l : Nat) : Field := ⟨LPE_PP_ADDR l, 0, 32⟩
def LPE_RGNSEL : Nat := 0x40040040
def LPE_RGNSEL_TABLE : Field := ⟨LPE_RGNSEL, 0, 6⟩
def LPE_RGNSEL_WORD : Field := ⟨LPE_RGNSEL, 16, 10⟩
def LPE_RGNDATA : Nat := 0x40040044
def LPE_RGNDATA_DATA : Field := ⟨LPE_RGNDATA, 0, 32⟩
def CHN_STAT : Nat := 0x40050000
def CHN_STAT_RIM_UP : Field := ⟨CHN_STAT, 0, 1⟩
def CHN_STAT_SAFE_HOLD : Field := ⟨CHN_STAT, 1, 1⟩
def CHN_STAT_WDOG : Field := ⟨CHN_STAT, 2, 1⟩
def CHN_STAT_GRANTED : Field := ⟨CHN_STAT, 3, 1⟩
def CHN_STAT_MODE_A : Field := ⟨CHN_STAT, 4, 2⟩
def CHN_STAT_MODE_B : Field := ⟨CHN_STAT, 6, 2⟩
def CHN_STAT_HO_TAKE : Field := ⟨CHN_STAT, 8, 1⟩
def CHN_SLOTOVR : Nat := 0x40050014
def CHN_SLOTOVR_COUNT : Field := ⟨CHN_SLOTOVR, 0, 16⟩
def CHN_SLOTOVR_SAT : Field := ⟨CHN_SLOTOVR, 16, 1⟩
def CHN_SLOTOVR_LAST : Field := ⟨CHN_SLOTOVR, 24, 6⟩
def CHN_CTRL : Nat := 0x40050004
def CHN_CTRL_SAFE_REQ : Field := ⟨CHN_CTRL, 0, 1⟩
def CHN_CTRL_SAFE_REL : Field := ⟨CHN_CTRL, 1, 1⟩
def CHN_CTRL_KEY : Field := ⟨CHN_CTRL, 8, 8⟩
def CHN_GRP (g : Nat) : Nat := 0x40050020 + 4 * g
def CHN_GRP_VLP (g : Nat) : Field := ⟨CHN_GRP g, 0, 10⟩
def CHN_GRP_LPST (g : Nat) : Field := ⟨CHN_GRP g, 10, 3⟩
def CHN_GRP_OVERLOAD (g : Nat) : Field := ⟨CHN_GRP g, 13, 1⟩
def CHN_GRP_IDO (g : Nat) : Field := ⟨CHN_GRP g, 16, 14⟩
def CHN_WDOG : Nat := 0x40050008
def CHN_WDOG_TIMEOUT : Field := ⟨CHN_WDOG, 0, 17⟩
def CHN_CH (c : Nat) : Nat := 0x40050100 + 4 * c
def CHN_CH_KIND (c : Nat) : Field := ⟨CHN_CH c, 0, 4⟩
def CHN_CH_PROT (c : Nat) : Field := ⟨CHN_CH c, 4, 1⟩
def CHN_CH_LATCHED (c : Nat) : Field := ⟨CHN_CH c, 5, 1⟩
def CHN_CH_PARTNER (c : Nat) : Field := ⟨CHN_CH c, 6, 1⟩
def CHN_CH_SAFE (c : Nat) : Field := ⟨CHN_CH c, 7, 1⟩
def CHN_CH_DIAG (c : Nat) : Field := ⟨CHN_CH c, 8, 8⟩
def CHN_RIMERR : Nat := 0x4005000C
def CHN_RIMERR_IN_ERR : Field := ⟨CHN_RIMERR, 0, 8⟩
def CHN_RIMERR_IN_SAT : Field := ⟨CHN_RIMERR, 8, 1⟩
def CHN_RIMERR_OUT_ERR : Field := ⟨CHN_RIMERR, 16, 8⟩
def CHN_RIMERR_OUT_SAT : Field := ⟨CHN_RIMERR, 24, 1⟩
def CHN_VT (c : Nat) : Nat := 0x40050200 + 4 * c
def CHN_VT_VT (c : Nat) : Field := ⟨CHN_VT c, 0, 16⟩
def CHN_LATE : Nat := 0x40050010
def CHN_LATE_COUNT : Field := ⟨CHN_LATE, 0, 16⟩
def CHN_LATE_SAT : Field := ⟨CHN_LATE, 16, 1⟩
def CHN_LATE_LAST : Field := ⟨CHN_LATE, 24, 6⟩
def CHN_IA (c : Nat) : Nat := 0x40050300 + 4 * c
def CHN_IA_IMA (c : Nat) : Field := ⟨CHN_IA c, 0, 18⟩
def CHN_IA_COMPL (c : Nat) : Field := ⟨CHN_IA c, 18, 1⟩
def CHN_IA_TRIMMED (c : Nat) : Field := ⟨CHN_IA c, 19, 1⟩
def CHN_IA_TXS (c : Nat) : Field := ⟨CHN_IA c, 20, 1⟩
def CHN_IA_ZONE (c : Nat) : Field := ⟨CHN_IA c, 21, 3⟩
def CHN_TRIM_CTRL : Nat := 0x40050400
def CHN_TRIM_CTRL_CH : Field := ⟨CHN_TRIM_CTRL, 0, 6⟩
def CHN_TRIM_CTRL_POINT : Field := ⟨CHN_TRIM_CTRL, 8, 2⟩
def CHN_TRIM_CTRL_OP : Field := ⟨CHN_TRIM_CTRL, 16, 3⟩
def CHN_TRIM_CTRL_KEY : Field := ⟨CHN_TRIM_CTRL, 24, 8⟩
def CHN_TRIM_M4 : Nat := 0x40050404
def CHN_TRIM_M4_M4 : Field := ⟨CHN_TRIM_M4, 0, 32⟩
def CHN_TRIM_M20 : Nat := 0x40050408
def CHN_TRIM_M20_M20 : Field := ⟨CHN_TRIM_M20, 0, 32⟩
def CHN_TRIM_STAT : Nat := 0x4005040C
def CHN_TRIM_STAT_ACTIVE : Field := ⟨CHN_TRIM_STAT, 0, 1⟩
def CHN_TRIM_STAT_DRIVEN : Field := ⟨CHN_TRIM_STAT, 1, 2⟩
def CHN_TRIM_STAT_CH : Field := ⟨CHN_TRIM_STAT, 8, 6⟩
def CHN_TRIM_STAT_RESULT : Field := ⟨CHN_TRIM_STAT, 16, 3⟩
def CHN_HART (c : Nat) : Nat := 0x40050500 + 4 * c
def CHN_HART_QUEUED (c : Nat) : Field := ⟨CHN_HART c, 0, 3⟩
def CHN_HART_BUSY (c : Nat) : Field := ⟨CHN_HART c, 3, 1⟩
def CHN_HART_SCAN (c : Nat) : Field := ⟨CHN_HART c, 4, 1⟩
def CHN_HART_FAILS (c : Nat) : Field := ⟨CHN_HART c, 8, 8⟩
def CHN_HART_SAT (c : Nat) : Field := ⟨CHN_HART c, 16, 1⟩
def CHN_HART_LOST (c : Nat) : Field := ⟨CHN_HART c, 17, 4⟩
def CHN_HART_DS (c : Nat) : Field := ⟨CHN_HART c, 24, 8⟩
def SAF_STAT : Nat := 0x40060000
def SAF_STAT_TASK : Field := ⟨SAF_STAT, 0, 4⟩
def SAF_STAT_CONF : Field := ⟨SAF_STAT, 4, 1⟩
def SAF_STAT_WINDOW : Field := ⟨SAF_STAT, 5, 1⟩
def SAF_STAT_ARMED : Field := ⟨SAF_STAT, 6, 1⟩
def SAF_STAT_FARMED : Field := ⟨SAF_STAT, 7, 1⟩
def SAF_STAT_FUNCS : Field := ⟨SAF_STAT, 8, 8⟩
def SAF_CONF : Nat := 0x40060004
def SAF_CONF_CHK_NEW : Field := ⟨SAF_CONF, 0, 32⟩
def SAF_CONFOLD : Nat := 0x40060008
def SAF_CONFOLD_CHK_OLD : Field := ⟨SAF_CONFOLD, 0, 32⟩
def SAF_CONFT : Nat := 0x4006000C
def SAF_CONFT_SECS : Field := ⟨SAF_CONFT, 0, 5⟩
def SAF_TRIPS : Nat := 0x40060010
def SAF_TRIPS_COUNT : Field := ⟨SAF_TRIPS, 0, 16⟩
def SAF_TRIPS_SAT : Field := ⟨SAF_TRIPS, 16, 1⟩
def SAF_FN (n : Nat) : Nat := 0x40060100 + 4 * n
def SAF_FN_TYPE (n : Nat) : Field := ⟨SAF_FN n, 0, 4⟩
def SAF_FN_STATE (n : Nat) : Field := ⟨SAF_FN n, 4, 4⟩
def SAF_FN_CODE (n : Nat) : Field := ⟨SAF_FN n, 8, 8⟩
def SAF_FN_DETAIL (n : Nat) : Field := ⟨SAF_FN n, 16, 8⟩
def SAF_FN_LATCH (n : Nat) : Field := ⟨SAF_FN n, 24, 1⟩
def SAF_RESP (n : Nat) : Nat := 0x40060300 + 4 * n
def SAF_RESP_BOUND (n : Nat) : Field := ⟨SAF_RESP n, 0, 32⟩
def IMG_ECXERR : Nat := 0x40030010
def IMG_ECXERR_COUNT : Field := ⟨IMG_ECXERR, 0, 16⟩
def IMG_ECXERR_SAT : Field := ⟨IMG_ECXERR, 16, 1⟩
def IMG_ECXERR_STN : Field := ⟨IMG_ECXERR, 24, 8⟩
def IMG_GRPHOLD : Nat := 0x40030014
def IMG_GRPHOLD_HOLD : Field := ⟨IMG_GRPHOLD, 0, 32⟩
def IMG_STN_STAT (s : Nat) : Nat := 0x40030400 + 8 * s
def IMG_STN_STAT_STATE (s : Nat) : Field := ⟨IMG_STN_STAT s, 0, 2⟩
def IMG_STN_STAT_EN (s : Nat) : Field := ⟨IMG_STN_STAT s, 2, 1⟩
def IMG_STN_STAT_HELD (s : Nat) : Field := ⟨IMG_STN_STAT s, 3, 1⟩
def IMG_STN_STAT_INBAD (s : Nat) : Field := ⟨IMG_STN_STAT s, 4, 1⟩
def IMG_STN_STAT_SAFE (s : Nat) : Field := ⟨IMG_STN_STAT s, 5, 1⟩
def IMG_STN_STAT_AGE (s : Nat) : Field := ⟨IMG_STN_STAT s, 8, 6⟩
def IMG_STN_STAT_GROUP (s : Nat) : Field := ⟨IMG_STN_STAT s, 16, 8⟩
def IMG_STN_STAT_MISS (s : Nat) : Field := ⟨IMG_STN_STAT s, 24, 8⟩
def IMG_STN_CNT (s : Nat) : Nat := 0x40030404 + 8 * s
def IMG_STN_CNT_LATE (s : Nat) : Field := ⟨IMG_STN_CNT s, 0, 16⟩
def IMG_STN_CNT_SAT (s : Nat) : Field := ⟨IMG_STN_CNT s, 16, 1⟩
def SAF_ESC_STAT (n : Nat) : Nat := 0x40060500 + 8 * n
def SAF_ESC_STAT_STATE (n : Nat) : Field := ⟨SAF_ESC_STAT n, 0, 2⟩
def SAF_ESC_STAT_DIR (n : Nat) : Field := ⟨SAF_ESC_STAT n, 2, 1⟩
def SAF_ESC_STAT_LATCH (n : Nat) : Field := ⟨SAF_ESC_STAT n, 3, 1⟩
def SAF_ESC_STAT_CAUSE (n : Nat) : Field := ⟨SAF_ESC_STAT n, 4, 4⟩
def SAF_ESC_STAT_SEQ (n : Nat) : Field := ⟨SAF_ESC_STAT n, 16, 16⟩
def SAF_ESC_ERR (n : Nat) : Nat := 0x40060504 + 8 * n
def SAF_ESC_ERR_CRCERR (n : Nat) : Field := ⟨SAF_ESC_ERR n, 0, 8⟩
def SAF_ESC_ERR_LOST (n : Nat) : Field := ⟨SAF_ESC_ERR n, 8, 8⟩
def SAF_ESC_ERR_OLD (n : Nat) : Field := ⟨SAF_ESC_ERR n, 16, 8⟩
def SAF_ESC_ERR_SAT (n : Nat) : Field := ⟨SAF_ESC_ERR n, 24, 1⟩
def CAN_STAT (k : Nat) : Nat := 0x40070000 + 4096 * k
def CAN_STAT_MODE (k : Nat) : Field := ⟨CAN_STAT k, 0, 2⟩
def CAN_STAT_FD (k : Nat) : Field := ⟨CAN_STAT k, 2, 1⟩
def CAN_STAT_RESTRICT (k : Nat) : Field := ⟨CAN_STAT k, 3, 1⟩
def CAN_STAT_EST (k : Nat) : Field := ⟨CAN_STAT k, 4, 2⟩
def CAN_STAT_SYNC (k : Nat) : Field := ⟨CAN_STAT k, 6, 1⟩
def CAN_TT (k : Nat) : Nat := 0x40070030 + 4096 * k
def CAN_TT_CYCSEQ (k : Nat) : Field := ⟨CAN_TT k, 0, 6⟩
def CAN_TT_LATE (k : Nat) : Field := ⟨CAN_TT k, 8, 8⟩
def CAN_TT_SAT (k : Nat) : Field := ⟨CAN_TT k, 16, 1⟩
def CAN_CTRL (k : Nat) : Nat := 0x40070004 + 4096 * k
def CAN_CTRL_RECOVER (k : Nat) : Field := ⟨CAN_CTRL k, 0, 1⟩
def CAN_CTRL_KEY (k : Nat) : Field := ⟨CAN_CTRL k, 8, 8⟩
def CAN_HP_STAT (k : Nat) : Nat := 0x40070040 + 4096 * k
def CAN_HP_STAT_LEVEL (k : Nat) : Field := ⟨CAN_HP_STAT k, 0, 3⟩
def CAN_HP_STAT_LOST (k : Nat) : Field := ⟨CAN_HP_STAT k, 8, 8⟩
def CAN_HP_STAT_SAT (k : Nat) : Field := ⟨CAN_HP_STAT k, 16, 1⟩
def CAN_NBT (k : Nat) : Nat := 0x40070008 + 4096 * k
def CAN_NBT_NBRP (k : Nat) : Field := ⟨CAN_NBT k, 0, 5⟩
def CAN_NBT_NTSEG1 (k : Nat) : Field := ⟨CAN_NBT k, 5, 8⟩
def CAN_NBT_NTSEG2 (k : Nat) : Field := ⟨CAN_NBT k, 13, 7⟩
def CAN_NBT_NSJW (k : Nat) : Field := ⟨CAN_NBT k, 20, 7⟩
def CAN_HP_ID (k : Nat) : Nat := 0x40070044 + 4096 * k
def CAN_HP_ID_ID (k : Nat) : Field := ⟨CAN_HP_ID k, 0, 32⟩
def CAN_DBT (k : Nat) : Nat := 0x4007000C + 4096 * k
def CAN_DBT_DBRP (k : Nat) : Field := ⟨CAN_DBT k, 0, 5⟩
def CAN_DBT_DTSEG1 (k : Nat) : Field := ⟨CAN_DBT k, 5, 5⟩
def CAN_DBT_DTSEG2 (k : Nat) : Field := ⟨CAN_DBT k, 10, 4⟩
def CAN_DBT_DSJW (k : Nat) : Field := ⟨CAN_DBT k, 14, 4⟩
def CAN_HP_INFO (k : Nat) : Nat := 0x40070048 + 4096 * k
def CAN_HP_INFO_LEN (k : Nat) : Field := ⟨CAN_HP_INFO k, 0, 7⟩
def CAN_HP_INFO_ESI (k : Nat) : Field := ⟨CAN_HP_INFO k, 7, 1⟩
def CAN_HP_INFO_FILTER (k : Nat) : Field := ⟨CAN_HP_INFO k, 8, 8⟩
def CAN_TDC (k : Nat) : Nat := 0x40070010 + 4096 * k
def CAN_TDC_TDCO (k : Nat) : Field := ⟨CAN_TDC k, 0, 7⟩
def CAN_TDC_EN (k : Nat) : Field := ⟨CAN_TDC k, 7, 1⟩
def CAN_TDC_TDCV (k : Nat) : Field := ⟨CAN_TDC k, 8, 7⟩
def CAN_TDC_CAP (k : Nat) : Field := ⟨CAN_TDC k, 15, 1⟩
def CAN_TDC_SSP (k : Nat) : Field := ⟨CAN_TDC k, 16, 7⟩
def CAN_HP_TSNS (k : Nat) : Nat := 0x4007004C + 4096 * k
def CAN_HP_TSNS_NS (k : Nat) : Field := ⟨CAN_HP_TSNS k, 0, 30⟩
def CAN_ERR (k : Nat) : Nat := 0x40070014 + 4096 * k
def CAN_ERR_TEC (k : Nat) : Field := ⟨CAN_ERR k, 0, 8⟩
def CAN_ERR_REC (k : Nat) : Field := ⟨CAN_ERR k, 8, 8⟩
def CAN_ERR_EPASS (k : Nat) : Field := ⟨CAN_ERR k, 16, 1⟩
def CAN_ERR_BOFF (k : Nat) : Field := ⟨CAN_ERR k, 17, 1⟩
def CAN_HP_TSS (k : Nat) : Nat := 0x40070050 + 4096 * k
def CAN_HP_TSS_SEC (k : Nat) : Field := ⟨CAN_HP_TSS k, 0, 32⟩
def CAN_ECNT0 (k : Nat) : Nat := 0x40070018 + 4096 * k
def CAN_ECNT0_BIT (k : Nat) : Field := ⟨CAN_ECNT0 k, 0, 8⟩
def CAN_ECNT0_STUFF (k : Nat) : Field := ⟨CAN_ECNT0 k, 8, 8⟩
def CAN_ECNT0_FORM (k : Nat) : Field := ⟨CAN_ECNT0 k, 16, 8⟩
def CAN_ECNT0_ACK (k : Nat) : Field := ⟨CAN_ECNT0 k, 24, 8⟩
def CAN_HP_POP (k : Nat) : Nat := 0x40070054 + 4096 * k
def CAN_ECNT1 (k : Nat) : Nat := 0x4007001C + 4096 * k
def CAN_ECNT1_CRC (k : Nat) : Field := ⟨CAN_ECNT1 k, 0, 8⟩
def CAN_ECNT1_BUSOFFS (k : Nat) : Field := ⟨CAN_ECNT1 k, 8, 8⟩
def CAN_ECNT1_SAT (k : Nat) : Field := ⟨CAN_ECNT1 k, 16, 1⟩
def CAN_HP_DATA (k : Nat) (w : Nat) : Nat := 0x40070080 + 4096 * k + 4 * w
def CAN_HP_DATA_DATA (k : Nat) (w : Nat) : Field := ⟨CAN_HP_DATA k w, 0, 32⟩
def CAN_DUPID (k : Nat) : Nat := 0x40070020 + 4096 * k
def CAN_DUPID_COUNT (k : Nat) : Field := ⟨CAN_DUPID k, 0, 16⟩
def CAN_DUPID_SAT (k : Nat) : Field := ⟨CAN_DUPID k, 16, 1⟩
def CAN_OBJ (k : Nat) (o : Nat) : Nat := 0x40070200 + 4096 * k + 4 * o
def CAN_OBJ_EN (k : Nat) (o : Nat) : Field := ⟨CAN_OBJ k o, 0, 1⟩
def CAN_OBJ_DIR (k : Nat) (o : Nat) : Field := ⟨CAN_OBJ k o, 1, 1⟩
def CAN_OBJ_PEND (k : Nat) (o : Nat) : Field := ⟨CAN_OBJ k o, 2, 1⟩
def CAN_OBJ_FRESH (k : Nat) (o : Nat) : Field := ⟨CAN_OBJ k o, 3, 1⟩
def CAN_OBJ_OVW (k : Nat) (o : Nat) : Field := ⟨CAN_OBJ k o, 8, 8⟩
def CAN_OBJ_SHORT (k : Nat) (o : Nat) : Field := ⟨CAN_OBJ k o, 16, 8⟩
def CAN_OBJ_SAT (k : Nat) (o : Nat) : Field := ⟨CAN_OBJ k o, 24, 1⟩
def CAN_DUPLAST (k : Nat) : Nat := 0x40070024 + 4096 * k
def CAN_DUPLAST_ID (k : Nat) : Field := ⟨CAN_DUPLAST k, 0, 29⟩
def CAN_DUPLAST_IDE (k : Nat) : Field := ⟨CAN_DUPLAST k, 29, 1⟩
def CAN_TXFAIL (k : Nat) : Nat := 0x40070028 + 4096 * k
def CAN_TXFAIL_SRC (k : Nat) : Field := ⟨CAN_TXFAIL k, 0, 8⟩
def CAN_TXFAIL_CAUSE (k : Nat) : Field := ⟨CAN_TXFAIL k, 8, 3⟩
def CAN_TXFAIL_COUNT (k : Nat) : Field := ⟨CAN_TXFAIL k, 16, 8⟩
def CAN_TXFAIL_SAT (k : Nat) : Field := ⟨CAN_TXFAIL k, 24, 1⟩
def CAN_RXDROP (k : Nat) : Nat := 0x4007002C + 4096 * k
def CAN_RXDROP_COUNT (k : Nat) : Field := ⟨CAN_RXDROP k, 0, 16⟩
def CAN_RXDROP_SAT (k : Nat) : Field := ⟨CAN_RXDROP k, 16, 1⟩
def NET_STAT : Nat := 0x40080000
def NET_STAT_RING_IF : Field := ⟨NET_STAT, 0, 1⟩
def NET_STAT_BRIDGE : Field := ⟨NET_STAT, 1, 1⟩
def PTP_STAT : Nat := 0x40080100
def PTP_STAT_STATE : Field := ⟨PTP_STAT, 0, 3⟩
def PTP_STAT_TRACE : Field := ⟨PTP_STAT, 3, 1⟩
def PTP_STAT_STEPREJ : Field := ⟨PTP_STAT, 4, 1⟩
def PTP_STAT_ADDCLAMP : Field := ⟨PTP_STAT, 5, 1⟩
def NET_PORT (p : Nat) : Nat := 0x40080004 + 4 * p
def NET_PORT_EN (p : Nat) : Field := ⟨NET_PORT p, 0, 1⟩
def NET_PORT_LINK (p : Nat) : Field := ⟨NET_PORT p, 1, 1⟩
def NET_PORT_MRPST (p : Nat) : Field := ⟨NET_PORT p, 2, 2⟩
def NET_PORT_LINKCHG (p : Nat) : Field := ⟨NET_PORT p, 16, 8⟩
def NET_PORT_SAT (p : Nat) : Field := ⟨NET_PORT p, 24, 1⟩
def PTP_CTRL : Nat := 0x40080104
def PTP_CTRL_STEP : Field := ⟨PTP_CTRL, 0, 1⟩
def PTP_CTRL_KEY : Field := ⟨PTP_CTRL, 8, 8⟩
def NET_KSAP_PORT : Nat := 0x40080010
def NET_KSAP_PORT_PORT : Field := ⟨NET_KSAP_PORT, 0, 16⟩
def PTP_ADDEND : Nat := 0x40080108
def PTP_ADDEND_ADDEND : Field := ⟨PTP_ADDEND, 0, 32⟩
def NET_ECX_PORT : Nat := 0x40080014
def NET_ECX_PORT_PORT : Field := ⟨NET_ECX_PORT, 0, 16⟩
def PTP_NS : Nat := 0x4008010C
def PTP_NS_NS : Field := ⟨PTP_NS, 0, 30⟩
def NET_DROP : Nat := 0x40080018
def NET_DROP_STORM : Field := ⟨NET_DROP, 0, 16⟩
def NET_DROP_SAT : Field := ⟨NET_DROP, 16, 1⟩
def PTP_SL : Nat := 0x40080110
def PTP_SL_SEC_LO : Field := ⟨PTP_SL, 0, 32⟩
def NET_MRP : Nat := 0x4008001C
def NET_MRP_EN : Field := ⟨NET_MRP, 0, 1⟩
def NET_MRP_TOPO : Field := ⟨NET_MRP, 16, 8⟩
def NET_MRP_SAT : Field := ⟨NET_MRP, 24, 1⟩
def PTP_SH : Nat := 0x40080114
def PTP_SH_SEC_HI : Field := ⟨PTP_SH, 0, 16⟩
def PTP_ADJ_NS : Nat := 0x40080118
def PTP_ADJ_NS_NS : Field := ⟨PTP_ADJ_NS, 0, 32⟩
def PTP_ADJ_S : Nat := 0x4008011C
def PTP_ADJ_S_SEC : Field := ⟨PTP_ADJ_S, 0, 32⟩
def PTP_OFFSET : Nat := 0x40080120
def PTP_OFFSET_OFS : Field := ⟨PTP_OFFSET, 0, 32⟩
def PTP_MPD : Nat := 0x40080124
def PTP_MPD_MPD : Field := ⟨PTP_MPD, 0, 32⟩
def PTP_ASYM (p : Nat) : Nat := 0x40080130 + 4 * p
def PTP_ASYM_ING (p : Nat) : Field := ⟨PTP_ASYM p, 0, 16⟩
def PTP_ASYM_EGR (p : Nat) : Field := ⟨PTP_ASYM p, 16, 16⟩
def CMP_STAT : Nat := 0x400B0000
def CMP_STAT_FAILED : Field := ⟨CMP_STAT, 0, 3⟩
def CMP_STAT_RESTARTS : Field := ⟨CMP_STAT, 3, 3⟩
def CMP_SCORR : Nat := 0x400B0040
def CMP_SCORR_COUNT : Field := ⟨CMP_SCORR, 0, 16⟩
def CMP_SCORR_SAT : Field := ⟨CMP_SCORR, 16, 1⟩
def CMP_CTRL : Nat := 0x400B0004
def CMP_CTRL_RST : Field := ⟨CMP_CTRL, 0, 3⟩
def CMP_CTRL_KEY : Field := ⟨CMP_CTRL, 8, 8⟩
def CMP_SUNC : Nat := 0x400B0044
def CMP_SUNC_COUNT : Field := ⟨CMP_SUNC, 0, 8⟩
def CMP_SUNC_SAT : Field := ⟨CMP_SUNC, 8, 1⟩
def CMP_FIRST : Nat := 0x400B0008
def CMP_FIRST_LANE : Field := ⟨CMP_FIRST, 0, 5⟩
def CMP_FIRST_VALID : Field := ⟨CMP_FIRST, 5, 1⟩
def CMP_SADDR : Nat := 0x400B0048
def CMP_SADDR_ADDR : Field := ⟨CMP_SADDR, 0, 32⟩
def CMP_LANES : Nat := 0x400B000C
def CMP_LANES_LANES : Field := ⟨CMP_LANES, 0, 24⟩
def CMP_SINFO : Nat := 0x400B004C
def CMP_SINFO_MASTER : Field := ⟨CMP_SINFO, 0, 3⟩
def CMP_SINFO_UNC : Field := ⟨CMP_SINFO, 3, 1⟩
def CMP_SINFO_SYND : Field := ⟨CMP_SINFO, 4, 8⟩
def CMP_SYN_LO : Nat := 0x400B0010
def CMP_SYN_LO_SYN : Field := ⟨CMP_SYN_LO, 0, 32⟩
def CMP_MCORR : Nat := 0x400B0050
def CMP_MCORR_COUNT : Field := ⟨CMP_MCORR, 0, 16⟩
def CMP_MCORR_SAT : Field := ⟨CMP_MCORR, 16, 1⟩
def CMP_SYN_HI : Nat := 0x400B0014
def CMP_SYN_HI_SYN : Field := ⟨CMP_SYN_HI, 0, 32⟩
def CMP_MUNC : Nat := 0x400B0054
def CMP_MUNC_COUNT : Field := ⟨CMP_MUNC, 0, 8⟩
def CMP_MUNC_SAT : Field := ⟨CMP_MUNC, 8, 1⟩
def CMP_SELFTEST : Nat := 0x400B0018
def CMP_SELFTEST_PASS : Field := ⟨CMP_SELFTEST, 0, 24⟩
def CMP_SELFTEST_CLEAN : Field := ⟨CMP_SELFTEST, 24, 1⟩
def CMP_SELFTEST_DONE : Field := ⟨CMP_SELFTEST, 25, 1⟩
def CMP_MADDR : Nat := 0x400B0058
def CMP_MADDR_ADDR : Field := ⟨CMP_MADDR, 0, 32⟩
def CMP_CPAR : Nat := 0x400B001C
def CMP_CPAR_COUNT : Field := ⟨CMP_CPAR, 0, 16⟩
def CMP_CPAR_SAT : Field := ⟨CMP_CPAR, 16, 1⟩
def CMP_MINFO : Nat := 0x400B005C
def CMP_MINFO_MASTER : Field := ⟨CMP_MINFO, 0, 3⟩
def CMP_MINFO_UNC : Field := ⟨CMP_MINFO, 3, 1⟩
def CMP_MINFO_SYND : Field := ⟨CMP_MINFO, 4, 8⟩
def CMP_SCRUB : Nat := 0x400B0060
def CMP_SCRUB_SPASS : Field := ⟨CMP_SCRUB, 0, 16⟩
def CMP_SCRUB_SAT : Field := ⟨CMP_SCRUB, 16, 1⟩
def CMP_SCRUB_MPCT : Field := ⟨CMP_SCRUB, 24, 7⟩
def RDL_STAT : Nat := 0x40090000
def RDL_STAT_ROLE : Field := ⟨RDL_STAT, 0, 3⟩
def RDL_STAT_POS : Field := ⟨RDL_STAT, 3, 1⟩
def RDL_STAT_PROLE : Field := ⟨RDL_STAT, 4, 3⟩
def RDL_STAT_PCONF : Field := ⟨RDL_STAT, 7, 1⟩
def RDL_STAT_GIVE_I : Field := ⟨RDL_STAT, 8, 1⟩
def RDL_STAT_TAKE_I : Field := ⟨RDL_STAT, 9, 1⟩
def RDL_STAT_GIVE_O : Field := ⟨RDL_STAT, 10, 1⟩
def RDL_STAT_TAKE_O : Field := ⟨RDL_STAT, 11, 1⟩
def RDL_STAT_REPAIR : Field := ⟨RDL_STAT, 12, 1⟩
def RDL_STAT_HOFAIL : Field := ⟨RDL_STAT, 13, 1⟩
def RDL_STAT_OFFCAUSE : Field := ⟨RDL_STAT, 16, 4⟩
def RDL_LAG : Nat := 0x40090018
def RDL_LAG_ONTIME : Field := ⟨RDL_LAG, 0, 10⟩
def RDL_LAG_LATE : Field := ⟨RDL_LAG, 16, 8⟩
def RDL_LAG_SAT : Field := ⟨RDL_LAG, 24, 1⟩
def RDL_CFG : Nat := 0x40090004
def RDL_CFG_SWAP_H : Field := ⟨RDL_CFG, 0, 8⟩
def RDL_CFG_AUTORST : Field := ⟨RDL_CFG, 8, 1⟩
def RDL_CFG_TEST : Field := ⟨RDL_CFG, 9, 2⟩
def RDL_DIV : Nat := 0x4009001C
def RDL_DIV_COUNT : Field := ⟨RDL_DIV, 0, 16⟩
def RDL_DIV_SAT : Field := ⟨RDL_DIV, 16, 1⟩
def RDL_DIV_HOUR : Field := ⟨RDL_DIV, 17, 2⟩
def RDL_DIV_LAST : Field := ⟨RDL_DIV, 20, 4⟩
def RDL_SYNC_BUDGET : Nat := 0x40090008
def RDL_SYNC_BUDGET_PCT : Field := ⟨RDL_SYNC_BUDGET, 0, 7⟩
def RDL_SYNC_BUDGET_US : Field := ⟨RDL_SYNC_BUDGET, 16, 16⟩
def RDL_TAKE : Nat := 0x40090020
def RDL_TAKE_VALID : Field := ⟨RDL_TAKE, 0, 1⟩
def RDL_TAKE_PATH : Field := ⟨RDL_TAKE, 1, 1⟩
def RDL_TAKE_LOST : Field := ⟨RDL_TAKE, 8, 4⟩
def RDL_TAKE_CHGLOST : Field := ⟨RDL_TAKE, 12, 4⟩
def RDL_TAKE_GAP : Field := ⟨RDL_TAKE, 16, 16⟩
def RDL_CTRL : Nat := 0x4009000C
def RDL_CTRL_SWAP_NOW : Field := ⟨RDL_CTRL, 0, 1⟩
def RDL_CTRL_REJOIN : Field := ⟨RDL_CTRL, 1, 1⟩
def RDL_CTRL_GIVE : Field := ⟨RDL_CTRL, 2, 1⟩
def RDL_CTRL_KEY : Field := ⟨RDL_CTRL, 8, 8⟩
def RDL_SWAP : Nat := 0x40090024
def RDL_SWAP_PHASE : Field := ⟨RDL_SWAP, 0, 3⟩
def RDL_SWAP_NEXT : Field := ⟨RDL_SWAP, 16, 16⟩
def RDL_LINK : Nat := 0x40090010
def RDL_LINK_LANE0 : Field := ⟨RDL_LINK, 0, 1⟩
def RDL_LINK_LANE1 : Field := ⟨RDL_LINK, 1, 1⟩
def RDL_LINK_UP : Field := ⟨RDL_LINK, 2, 1⟩
def RDL_LINK_RETX : Field := ⟨RDL_LINK, 8, 8⟩
def RDL_LINK_CRCERR : Field := ⟨RDL_LINK, 16, 8⟩
def RDL_LINK_SAT : Field := ⟨RDL_LINK, 24, 1⟩
def RDL_LOAD : Nat := 0x40090028
def RDL_LOAD_ADMIT : Field := ⟨RDL_LOAD, 0, 16⟩
def RDL_LOAD_PEAK : Field := ⟨RDL_LOAD, 16, 16⟩
def RDL_JOIN : Nat := 0x40090014
def RDL_JOIN_PHASE : Field := ⟨RDL_JOIN, 0, 3⟩
def RDL_JOIN_PASS : Field := ⟨RDL_JOIN, 8, 4⟩
def RDL_JOIN_PCT : Field := ⟨RDL_JOIN, 16, 7⟩
def EVR_STAT : Nat := 0x400A0000
def EVR_STAT_BUF : Field := ⟨EVR_STAT, 0, 7⟩
def EVR_STAT_FO_FULL : Field := ⟨EVR_STAT, 7, 1⟩
def EVR_STAT_FO_STOP : Field := ⟨EVR_STAT, 8, 1⟩
def EVR_STAT_CLEARING : Field := ⟨EVR_STAT, 9, 1⟩
def EVR_STAT_FO_FILL : Field := ⟨EVR_STAT, 16, 9⟩
def EVR_SWREC : Nat := 0x400A001C
def EVR_SWREC_LIST : Field := ⟨EVR_SWREC, 0, 4⟩
def EVR_SWREC_INFO : Field := ⟨EVR_SWREC, 16, 16⟩
def EVR_CTRL : Nat := 0x400A0004
def EVR_CTRL_ARM : Field := ⟨EVR_CTRL, 0, 1⟩
def EVR_CTRL_CLEAR : Field := ⟨EVR_CTRL, 1, 1⟩
def EVR_CTRL_KEY : Field := ⟨EVR_CTRL, 8, 8⟩
def EVR_CUR : Nat := 0x400A0020
def EVR_CUR_INDEX : Field := ⟨EVR_CUR, 0, 13⟩
def EVR_CUR_AUTO : Field := ⟨EVR_CUR, 16, 1⟩
def EVR_SEQ : Nat := 0x400A0008
def EVR_SEQ_NEXT : Field := ⟨EVR_SEQ, 0, 32⟩
def EVR_PEAK : Nat := 0x400A0024
def EVR_PEAK_BUF : Field := ⟨EVR_PEAK, 0, 7⟩
def EVR_ARMSEQ : Nat := 0x400A000C
def EVR_ARMSEQ_SEQ : Field := ⟨EVR_ARMSEQ, 0, 32⟩
def EVR_WIN (w : Nat) : Nat := 0x400A0100 + 4 * w
def EVR_WIN_DATA (w : Nat) : Field := ⟨EVR_WIN w, 0, 32⟩
def EVR_CLRSEQ : Nat := 0x400A0010
def EVR_CLRSEQ_SEQ : Field := ⟨EVR_CLRSEQ, 0, 32⟩
def EVR_TRIG (s : Nat) : Nat := 0x400A0400 + 4 * s
def EVR_TRIG_EN (s : Nat) : Field := ⟨EVR_TRIG s, 0, 1⟩
def EVR_TRIG_LIST (s : Nat) : Field := ⟨EVR_TRIG s, 4, 4⟩
def EVR_TRIG_HOLD (s : Nat) : Field := ⟨EVR_TRIG s, 8, 8⟩
def EVR_RINGIDX : Nat := 0x400A0014
def EVR_RINGIDX_NEXT : Field := ⟨EVR_RINGIDX, 0, 13⟩
def EVR_LIST (l : Nat) (e : Nat) : Nat := 0x400A0800 + 128 * l + 4 * e
def EVR_LIST_ADDR (l : Nat) (e : Nat) : Field := ⟨EVR_LIST l e, 0, 32⟩
def EVR_LOST : Nat := 0x400A0018
def EVR_LOST_COUNT : Field := ⟨EVR_LOST, 0, 16⟩
def EVR_LOST_SAT : Field := ⟨EVR_LOST, 16, 1⟩
def PNL_STAT : Nat := 0x400C0000
def PNL_STAT_BUSY : Field := ⟨PNL_STAT, 0, 1⟩
def PNL_STAT_RECOV : Field := ⟨PNL_STAT, 1, 1⟩
def PNL_STAT_DEFER : Field := ⟨PNL_STAT, 2, 1⟩
def PNL_STAT_RAILS : Field := ⟨PNL_STAT, 3, 1⟩
def PNL_STAT_BAND : Field := ⟨PNL_STAT, 4, 3⟩
def PNL_STAT_FRAME : Field := ⟨PNL_STAT, 8, 8⟩
def PNL_STAT_TEMP : Field := ⟨PNL_STAT, 16, 8⟩
def PNL_FBDATA : Nat := 0x400C0014
def PNL_FBDATA_DATA : Field := ⟨PNL_FBDATA, 0, 32⟩
def PNL_CTRL : Nat := 0x400C0004
def PNL_CTRL_UPDATE : Field := ⟨PNL_CTRL, 0, 1⟩
def PNL_CTRL_FULL : Field := ⟨PNL_CTRL, 1, 1⟩
def PNL_CTRL_KEY : Field := ⟨PNL_CTRL, 8, 8⟩
def PNL_FCRC : Nat := 0x400C0018
def PNL_FCRC_CRC : Field := ⟨PNL_FCRC, 0, 32⟩
def PNL_RGN0 : Nat := 0x400C0008
def PNL_RGN0_X : Field := ⟨PNL_RGN0, 0, 9⟩
def PNL_RGN0_Y : Field := ⟨PNL_RGN0, 16, 8⟩
def PNL_KEY : Nat := 0x400C001C
def PNL_KEY_DOWN : Field := ⟨PNL_KEY, 0, 1⟩
def PNL_KEY_WINDOW : Field := ⟨PNL_KEY, 1, 1⟩
def PNL_KEY_HELD : Field := ⟨PNL_KEY, 16, 16⟩
def PNL_RGN1 : Nat := 0x400C000C
def PNL_RGN1_X : Field := ⟨PNL_RGN1, 0, 9⟩
def PNL_RGN1_Y : Field := ⟨PNL_RGN1, 16, 8⟩
def PNL_REC : Nat := 0x400C0020
def PNL_REC_INPROG : Field := ⟨PNL_REC, 0, 1⟩
def PNL_REC_INDET : Field := ⟨PNL_REC, 1, 1⟩
def PNL_REC_WHOLE : Field := ⟨PNL_REC, 2, 1⟩
def PNL_REC_COUNT : Field := ⟨PNL_REC, 8, 8⟩
def PNL_REC_BAND : Field := ⟨PNL_REC, 16, 3⟩
def PNL_FBADDR : Nat := 0x400C0010
def PNL_FBADDR_OFFSET : Field := ⟨PNL_FBADDR, 0, 16⟩
def PNL_FBADDR_BUF : Field := ⟨PNL_FBADDR, 16, 1⟩
def PNL_UPDCNT : Nat := 0x400C0024
def PNL_UPDCNT_COUNT : Field := ⟨PNL_UPDCNT, 0, 16⟩
def PNL_UPDCNT_SAT : Field := ⟨PNL_UPDCNT, 16, 1⟩

end Sys2Proof.Machine.Reg
end

