-- ==== Sys2Proof/Machine/State.lean ====
section
/-! DEFINITION. The state of the module, its reset, and the reasons a command can stop. -/

namespace Sys2Proof.Machine

/-- The state of one PS64, host half and field half together, with the queue of commands that wait. Plain data. -/
structure State where
  /-- every host register, by address; an unlisted register holds its reset value (R8, RegMap) -/
  regs : List (Nat × Word)
  /-- host memory: SRAM, MRAM and loop slot memory (R97); an unlisted byte reads 0 -/
  mem : List Host.Cell
  /-- the latch of each master for values wider than 32 bits (R206), key master · 2^32 + address of the high word -/
  latches : List (Nat × Word)
  /-- the time counter in PTP nanoseconds (R82) -/
  now : Nat
  /-- its fraction in units of 2^-28 ns (R431) -/
  frac : Nat
  /-- elapsed nanoseconds, never stepped: the base of timeouts that count real time -/
  mono : Nat
  /-- what the last read of each master returned (unlisted: 0) -/
  rdata : List (Nat × Word)
  /-- the masters to which an access has ended in a bus error since their last completed read (R99) -/
  busErr : List Nat
  /-- the CPM (02, 03, 21) -/
  cpm : Cpm
  /-- the front panel driver (20) -/
  pnl : Panel
  /-- the recorder (19) -/
  evr : Recorder
  /-- the queue unit (05) -/
  que : Queues
  /-- the mailbox unit (05) -/
  mbx : Mailboxes
  /-- held locks (05) -/
  locks : List LockHold
  /-- the running image; none on the Slath alone (06) -/
  img : Option Image
  /-- the image of a swap-load, placed beside the running one (R178) -/
  imgAlt : Option Image
  /-- an image load in progress (R159) -/
  load : Option ImageLoad
  /-- committed retentive G (R215) -/
  g : List Host.Cell
  /-- queued change sets, oldest first (R175) -/
  changes : List ChangeSet
  /-- per route, the last value that arrived usable (R167) -/
  routeLast : List (Nat × Nat)
  /-- the nine task classes (07) -/
  tasks : List Task
  /-- the eight views (R197) -/
  views : List View
  /-- the four CAN ports (15) -/
  can : List CanPort
  /-- the Rim host half (11) -/
  rim : RimHost
  /-- the field side (11 to 13) -/
  field : FieldSide
  /-- the trim session of the gateway (R323) -/
  trim : Option TrimSession
  /-- the host half of the safety supervisor (13) -/
  saf : SafeHost
  /-- the remote stations (14) -/
  stns : List Station
  /-- the ESC connections (14) -/
  escs : List EscConn
  /-- the loop engine (09, 10) -/
  loops : Loops
  /-- the Rolent unit (18) -/
  rdl : Rdl
  /-- the Ethernet switch (16) -/
  net : Net
  /-- the PTP ordinary clock (16) -/
  ptp : Ptp
  /-- a running burst of the host data port (R110) -/
  hdp : Option HdpBurst
  /-- the KSAP service (04) -/
  ksap : Ksap
  /-- host-to-field frames on their way across the Rim -/
  toField : List RimFrame
  /-- field-to-host frames on their way across the Rim -/
  toHost : List FieldFrame
  /-- everything sent out of the connectors, newest last -/
  outbox : List OutMsg
  /-- MODEL FIELD: counts the free values drawn so far; indexes the opaque constants of Config -/
  freeCtr : Nat
  /-- commands waiting, first in first out -/
  pending : List Instr
  deriving DecidableEq, Repr

/-- Why a command faults. -/
inductive Fault where
  /-- the supply is beyond its absolute limit, where R46 and R71 specify no behaviour; raised by the supply commands; safe -/
  | beyondAbsoluteLimit
  deriving DecidableEq, Repr

/-- Why a command is refused. -/
inductive Refusal where
  /-- no meaning is written for the command; raised by Dispatch alone; safe -/
  | notModelled (mnemonic : String)
  deriving DecidableEq, Repr

/-- The result of a command. -/
abbrev Result := Host.Outcome State Fault Refusal

/-- A task class before its first release. -/
def Task.reset : Task :=
  { latching := false, executing := false, shadow := false, tRel := 0, nextRel := none, pc := 0, latchedAt := 0, sysP := 0,
    sysFirst := false, sysTrick := 0, sysTrace := false, fresh := true, input := [], work := [], committed := [], applied := [],
    applyAt := none, appliedTrick := none, v := [], gPend := [], lPend := [], lLatch := [], lines := [], sets := [],
    deadline := 0, partnerDone := false, prevStart := 0, appliedAt := 0, begun := false }

/-- The loop engine with no slot. -/
def Loops.reset : Loops :=
  { start := 0, last := none, win := none, depAt := 0, olds := [], batches := [], pp := none, inputs := [], dig := [] }

/-- The ordinary clock at start-up. -/
def Ptp.reset : Ptp :=
  { foreign := [], sel := none, gm := 0, annAt := 0, syncAt := 0, syncInt := 0, inRun := 0, outRun := 0, startRun := 0, twoStep := none,
    sync := none, req := none, seqDelay := 0, seqSync := 0, seqAnn := 0, ended := false }

/-- The Rolent unit with nothing under way. -/
def Rdl.reset : Rdl :=
  { roleAt := 0, swapAt := none, swapFrom := false, swapAsked := false, swapOp := 0, swapTest := none, giveNotice := none, take := none,
    neg := none, mirror := [], cutLeft := [], dirty := [], joinFail := none, own := [], other := [], repair := [], quiet := [],
    asked := [], divs := [], timeTx := 0, timeRx := 0, linkAt := 0, sentAt := 0, pulseAt := 0, carryEnd := none }

/-- The CPM before the first start-up: no supply, slot code not read. -/
def Cpm.reset : Cpm :=
  { phase := .off, startCause := .power, slotNow := 0, holdUp := false, giveSeen := false, takeSeen := false, giveIndet := false,
    takeIndet := false, haltOnStop := false, faulted := false, service := false, waking := false, fm := none, autoRst := [],
    restartFrom := none, overrunStop := false, gaveUp := false, runAt := 0, negAt := 0, supplyAt := 0, bankSeq := 0,
    savedOp := 0, savedCyc := 0, savedTrim := 0, savedAt := 0 }

/-- HART on a channel before first use. -/
def Hart.reset : Hart :=
  { fifo := [], run := none, suspended := false, scanAt := 0, misses := 0, ds := 0, seen := false, vals := [], fails := 0, lost := 0 }

/-- A channel at first use (R207), with no record. -/
def Chan.reset : Chan :=
  { cfg := [], cmd := 0, cmdQ := 0, pend := [], safe := true, on := false, offAt := 0, onAt := 0, prot := false, bad := 0, good := 0,
    short := false, retry := 0, latched := false, sawFalse := false, shortAt := 0, tryAt := none, limRun := 0, openRun := 0,
    openSet := false, forRun := 0, forLevel := false, foreign := false,
    di := { filt := none, prev := false, chgAt := 0, edge := none, prevEdge := none, run := false, first := 0, last := 0 },
    level := false, edges := [], edgeSeq := 0, useAt := none, vt := 0, amp := 0, lim := false, vals := [], zone := none, nval := 0,
    roc := false, txsOff := none, compl := false, complRun := 0, complTold := false, aoRun := 0, aoOpen := false,
    m4 := 0x40800000, m20 := 0x41A00000, trimmed := false, drive := 0,
    half := false, tpCode := 0, tpDetail := 0, pulse := false, fell := false, tsFault := false, samples := [],
    hart := Hart.reset }

/-- A group not yet measured. -/
def Group.reset : Group :=
  { vlp := 0, lpst := 4, inNorm := 0, inLow := 0, inMiss := 0, inHigh := 0, outLow := 0, outMiss := 0, outHigh := 0, cls := 4,
    clsRun := 0, ido := 0, ovrRun := 0, underRun := 0, overload := false, partner := false }

/-- The field side before its first start: no supply, safe hold in force (R304). -/
def FieldSide.reset : FieldSide :=
  { up := false, chans := List.replicate 64 Chan.reset, grps := [Group.reset, Group.reset], fns := [], safety := [], chk := 0,
    wdogUs := 1000, slot := 0, wdogAt := 0, wdog := false, hold := true, granted := false, take := false, armed := false,
    modeReq := none, mail := [], out := [], events := [], round := none, cause := 0, downAt := 0, records := [],
    cancel := none }

/-- A CAN port that is off. -/
def CanPort.reset : CanPort :=
  { pend := [], onBus := none, onBusAt := 0, rx := [], hp := [], poolNext := 0, poolUsed := [], recovering := false, stopped := false,
    lastRef := 0, nextRef := none, cycleRef := 0, syncLost := false, rxSeq := 0, atRel := [] }

/-- The module right after reset: every register at its map's reset value, nothing listed in memory, the time counter at 0 (R83). -/
def State.reset : State :=
  { regs := [],
    mem := [],
    latches := [],
    now := 0,
    frac := 0,
    mono := 0,
    rdata := [],
    busErr := [],
    cpm := Cpm.reset,
    pnl := { front := [], back := [], pend := none, full := false, run := none, keyAt := 0 },
    evr := { buf := [], last := [], lost := none },
    que := { head := [], ptr := [], atPort := [] },
    mbx := { posted := [], fieldFull := [] },
    locks := [],
    img := none,
    imgAlt := none,
    load := none,
    g := [],
    changes := [],
    routeLast := [],
    tasks := List.replicate 9 Task.reset,
    views := List.replicate 8 { pins := [], commits := [] },
    can := List.replicate 4 CanPort.reset,
    rim := { cur := none, old := none, lastIn := 0, lossAt := none, reqHold := false, inbox := [], keepAt := 0 },
    field := FieldSide.reset,
    trim := none,
    saf := { fns := [], gather := 0, resets := 0, window := none },
    stns := [],
    escs := [],
    loops := Loops.reset,
    rdl := Rdl.reset,
    net := { macs := [], stormAt := 0, stormN := 0, mrpSeq := 0, rxSeq := 0 },
    ptp := Ptp.reset,
    hdp := none,
    ksap := { sessions := [], challenges := [], fails := [], ignored := [], quietTo := 0 },
    toField := [],
    toHost := [],
    outbox := [],
    freeCtr := 0,
    pending := [] }

end Sys2Proof.Machine
end

