-- ==== Sys2Proof/Machine/Image.lean ====
section
/-! DEFINITION. The records of a loaded image, read from the bytes of its sections: tasks (R186), block code words (R218), routes
(R165), safety parameters (R342), CAN records (R399 to R401). -/

namespace Sys2Proof.Machine

/-- The bytes of a section; empty when the image has none of that type. -/
def Image.sec (i : Image) (ty : Nat) : List Byte :=
  match i.sections.find? (fun s => s.1 = ty) with
  | some s => s.2
  | none => []

/-- Section types by name (R155). -/
def tySystem : Nat := 0x01
def tyTasks : Nat := 0x02
def tyCode : Nat := 0x03
def tyConst : Nat := 0x04
def tyInstance : Nat := 0x05
def tyRetain : Nat := 0x06
def tyChangeable : Nat := 0x07
def tyChannels : Nat := 0x10
def tySafety : Nat := 0x11
def tySafeCode : Nat := 0x12
def tySafeConst : Nat := 0x13
def tyLoops : Nat := 0x20
def tyRegions : Nat := 0x21
def tyRoutes : Nat := 0x30
def tyEvents : Nat := 0x31
def tyQueues : Nat := 0x32
def tyCan : Nat := 0x40
def tyNet : Nat := 0x41
def tyEsc : Nat := 0x42
def tyPanel : Nat := 0x50
def tyCarry : Nat := 0x60

/-- `n` records of `size` bytes from offset `o`. -/
def recordsAt (b : List Byte) (o size n : Nat) : List (List Byte) :=
  (List.range n).map (fun i => slice b (o + size * i) size)

/-! ### Parameter records (R156) -/

/-- The (tag, value bytes) records of a parameter section from offset `o`. -/
def tagRecords (b : List Byte) : Nat → Nat → List (Nat × List Byte)
  | 0, _ => []
  | fuel + 1, o =>
    if o + 4 ≤ b.length then
      let n := u16 b (o + 2)
      (u16 b o, slice b (o + 4) n) :: tagRecords b fuel (o + 4 + 4 * ceilDiv n 4)
    else []

/-- The value of a SYSTEM tag. -/
def Image.systemTag (i : Image) (tag : Nat) : Option (List Byte) :=
  let b := i.sec tySystem
  ((tagRecords b b.length 0).find? (fun r => r.1 = tag)).map (·.2)

/-! ### Tasks -/

/-- One TASKS record (R186). -/
structure TaskRec where
  cls : Nat
  pair : Nat
  period : Nat
  phase : Nat
  lout : Nat
  entry : Nat
  inSize : Nat
  outSize : Nat
  fwdog : Nat
  deriving DecidableEq, Repr

def taskRecOf (b : List Byte) : TaskRec :=
  ⟨u8 b 0, u8 b 1, u32 b 4, u32 b 8, u32 b 12, u32 b 16, u32 b 20, u32 b 24, u16 b 28⟩

def Image.taskRecs (i : Image) : List TaskRec :=
  let b := i.sec tyTasks
  (recordsAt b 4 32 (min 9 (u32 b 0))).map taskRecOf

/-- The record of task class `c`. -/
def Image.taskRec (i : Image) (c : Nat) : Option TaskRec := i.taskRecs.find? (fun r => r.cls = c)

/-- The record of task class `c` of the running image. -/
def State.taskRec (s : State) (c : Nat) : Option TaskRec := s.img.bind (fun i => i.taskRec c)

/-- A loop period code in ns (R261). -/
def periodNs (p : Nat) : Nat := if p = 14 then 1000000000 else 50000 * 2 ^ p

/-- The LOOPS records: slot and its first 128 bytes. -/
def Image.loopRecs (i : Image) : List (Nat × List Byte) :=
  let b := i.sec tyLoops
  (recordsAt b 4 132 (min 1024 (u32 b 0))).map (fun r => (u16 r 0, r.drop 4))

/-- The period code of a slot (CFG). -/
def slotPeriod (b : List Byte) : Nat := bits (u32 b 0) 0 4

/-- A region table record. -/
def Image.regionTab (i : Image) (n : Nat) : Option (List Byte) :=
  let b := i.sec tyRegions
  (recordsAt b 4 2152 (min 64 (u32 b 0))).find? (fun r => decide (u8 r 0 = n))

/-- The T0 period in nanoseconds; 0 without an image. -/
def State.pT0 (s : State) : Nat := match s.taskRec 0 with | some r => 1000 * r.period | none => 0

/-- The safety task's class (R342); 15 where the image has no SAFETY section. -/
def Image.safeTask (i : Image) : Nat := if i.sec tySafety = [] then 15 else u8 (i.sec tySafety) 0

/-- The code section of a task (R341), and one of its words. -/
def Image.codeOf (i : Image) (c : Nat) : List Byte := if c = i.safeTask then i.sec tySafeCode else i.sec tyCode
def Image.codeWord (i : Image) (c w : Nat) : Nat := u32 (i.codeOf c) (4 * w)

/-- A byte of the K space of a task (R214): SAFE_CONST for the safety task, else CONST with what online changes have written. -/
def Image.kByte (i : Image) (c a : Nat) : Byte :=
  if c = i.safeTask then (i.sec tySafeConst).getD a 0
  else Sparse.get (fun k => (i.sec tyConst).getD k 0) i.kEdits a

/-- Write bytes of CONST by an online change. -/
def Image.kWrite (i : Image) (a : Nat) (bs : List Byte) : Image :=
  { i with kEdits := Sparse.setMany (fun k => (i.sec tyConst).getD k 0) i.kEdits a bs }

/-- The INSTANCE records (R221): class, V_SIZE, initial V, initial output image. -/
def instRecords (b : List Byte) : Nat → Nat → List (Nat × Nat × List Byte × List Byte)
  | 0, _ => []
  | n + 1, o =>
    let vl := u32 b (o + 8)
    let ql := u32 b (o + 12)
    (u8 b o, u32 b (o + 4), slice b (o + 16) vl, slice b (o + 16 + vl) ql) :: instRecords b n (o + 16 + 8 * ceilDiv (vl + ql) 8)

def Image.instRec (i : Image) (c : Nat) : Option (Nat × Nat × List Byte × List Byte) :=
  let b := i.sec tyInstance
  (instRecords b (min 9 (u32 b 0)) 4).find? (fun r => r.1 = c)

/-- V_SIZE of a task. -/
def Image.vSize (i : Image) (c : Nat) : Nat := match i.instRec c with | some r => r.2.1 | none => 0

/-- The ranges of RETAIN (R221): offset, length, task; and the initial G. -/
def Image.gRanges (i : Image) : List (Nat × Nat × Nat) :=
  let b := i.sec tyRetain
  (recordsAt b 8 12 (min 65536 (u32 b 0))).map (fun r => (u32 r 0, u32 r 4, u8 r 8))

def Image.gInit (i : Image) : List Byte :=
  let b := i.sec tyRetain
  slice b (8 + 12 * u32 b 0) (u32 b 4)

/-- Length of the retentive data: the end of the last range (R105). -/
def Image.gLen (i : Image) : Nat := (i.gRanges.map (fun r => r.1 + r.2.1)).foldl max 0

/-! ### Routes -/

def routeOf (b : List Byte) : Route :=
  ⟨u32 b 0, u32 b 4, u8 b 8, u8 b 9, u8 b 10, u8 b 11, u32 b 12, u32 b 16, u32 b 20⟩

/-! ### Safety parameters (R342, R343) -/

/-- Counts and offsets of the SAFETY section. -/
def Image.safetyOffsets (i : Image) : Nat × Nat × Nat × Nat :=
  let b := i.sec tySafety
  let ch := 16
  let ns := ch + 4 * u8 b 1
  let fn := ns + 4 * u8 b 3
  (ch, ns, fn, fn + 32 * u8 b 2)

/-- Channel records: channel, kind, P1, P2. -/
def Image.safeChans (i : Image) : List (Nat × Nat × Nat × Nat) :=
  let b := i.sec tySafety
  (recordsAt b i.safetyOffsets.1 4 (u8 b 1)).map (fun r => (u8 r 0, u8 r 1, u8 r 2, u8 r 3))

/-- Offsets of the non-safety input elements. -/
def Image.nonSafety (i : Image) : List Nat :=
  let b := i.sec tySafety
  (recordsAt b i.safetyOffsets.2.1 4 (u8 b 3)).map (fun r => u16 r 0)

/-- One function record: number, type, process safety time, parameter bytes. -/
structure SafeFn where
  num : Nat
  ty : Nat
  pst : Nat
  param : List Byte
  deriving DecidableEq, Repr

def Image.safeFns (i : Image) : List SafeFn :=
  let b := i.sec tySafety
  (recordsAt b i.safetyOffsets.2.2.1 32 (u8 b 2)).map (fun r => ⟨u8 r 0, u8 r 1, u16 r 2, r.drop 4⟩)

def Image.safeRoutes (i : Image) : List Route :=
  let b := i.sec tySafety
  (recordsAt b i.safetyOffsets.2.2.2 24 (u16 b 6)).map routeOf

/-- TP_PERIOD in nanoseconds (R342: 0 means 1,000 ms). -/
def Image.tpPeriod (i : Image) : Nat :=
  let p := u16 (i.sec tySafety) 4
  1000000 * (if p = 0 then 1000 else p)

/-- Ordinary routes, then safety routes: the route index of R184 counts in this order. -/
def Image.plainRoutes (i : Image) : List Route :=
  let b := i.sec tyRoutes
  (recordsAt b 0 24 (b.length / 24)).map routeOf
def Image.routes (i : Image) : List Route := i.plainRoutes ++ i.safeRoutes

/-- The safety functions of the running image. -/
def State.safeFns (s : State) : List SafeFn := match s.img with | some i => i.safeFns | none => []
def State.safeFn (s : State) (n : Nat) : Option SafeFn := s.safeFns.find? (fun f => f.num = n)

/-! ### CAN records (R399 to R401) -/

/-- One port record, as far as the port uses it at run time. -/
structure CanPortRec where
  port : Nat
  mode : Nat
  fd : Bool
  boAuto : Bool
  tdcEn : Bool
  tdco : Nat
  rxq : Nat
  txq : Nat
  pool : Nat
  poolN : Nat
  refId : Nat
  bytes : List Byte
  deriving DecidableEq, Repr

def canPortOf (r : List Byte) : CanPortRec :=
  { port := u8 r 0, mode := u8 r 1, fd := decide (u8 r 2 = 1), boAuto := decide (u8 r 3 % 2 = 1), tdcEn := decide (u8 r 3 / 2 % 2 = 1),
    tdco := u8 r 13, rxq := u8 r 14, txq := u8 r 15, pool := u32 r 16, poolN := u16 r 20, refId := u32 r 24, bytes := r }

/-- One object record. -/
structure CanObj where
  port : Nat
  obj : Nat
  tx : Bool
  fmt : Nat
  id : Nat
  len : Nat
  task : Nat
  oneShot : Bool
  rxTmo : Nat
  winStart : Nat
  winLen : Nat
  types : List Nat
  deriving DecidableEq, Repr

def canObjsAt (b : List Byte) : Nat → Nat → List CanObj
  | 0, _ => []
  | n + 1, o =>
    let nel := u8 b (o + 9)
    { port := u8 b o, obj := u8 b (o + 1), tx := decide (u8 b (o + 2) = 1), fmt := u8 b (o + 3), id := u32 b (o + 4), len := u8 b (o + 8),
      task := u8 b (o + 10), oneShot := decide (u8 b (o + 11) % 2 = 1), rxTmo := u16 b (o + 12), winStart := u32 b (o + 16),
      winLen := u32 b (o + 20), types := (List.range nel).map (fun k => u8 b (o + 24 + k)) } ::
    canObjsAt b n (o + 24 + 4 * ceilDiv nel 4)

/-- The offset after the object records. -/
def canObjsEnd (b : List Byte) : Nat → Nat → Nat
  | 0, o => o
  | n + 1, o => canObjsEnd b n (o + 24 + 4 * ceilDiv (u8 b (o + 9)) 4)

/-- One filter record. -/
structure CanFilter where
  port : Nat
  ide : Bool
  target : Nat
  obj : Nat
  id : Nat
  mask : Nat
  deriving DecidableEq, Repr

def Image.canPorts (i : Image) : List CanPortRec :=
  let b := i.sec tyCan
  (recordsAt b 12 32 (min 4 (u32 b 0))).map canPortOf
def Image.canObjOffset (i : Image) : Nat := 12 + 32 * u32 (i.sec tyCan) 0
def Image.canObjs (i : Image) : List CanObj :=
  let b := i.sec tyCan
  canObjsAt b (min 512 (u32 b 4)) i.canObjOffset
def Image.canFilters (i : Image) : List CanFilter :=
  let b := i.sec tyCan
  (recordsAt b (canObjsEnd b (min 512 (u32 b 4)) i.canObjOffset) 12 (min 768 (u32 b 8))).map
    (fun r => ⟨u8 r 0, decide (u8 r 1 = 1), u8 r 2, u8 r 3, u32 r 4, u32 r 8⟩)

def State.canPortRec (s : State) (n : Nat) : Option CanPortRec := s.img.bind (fun i => i.canPorts.find? (fun p => p.port = n))
def State.canObj (s : State) (n o : Nat) : Option CanObj := s.img.bind (fun i => i.canObjs.find? (fun x => x.port = n ∧ x.obj = o))
def State.canObjs (s : State) : List CanObj := match s.img with | some i => i.canObjs | none => []

/-- A CAN port. -/
def State.canPort (s : State) (n : Nat) : CanPort := s.can.getD n CanPort.reset

/-- The newest frame of a receive object that became valid strictly before an instant (R406). -/
def State.canNewest (s : State) (n o t : Nat) : Option CanRx :=
  (s.canPort n).rx.find? (fun r => decide (r.obj = o) && decide (r.valid < t))

/-- Whether a receive object's data is within its timeout now (CANn_OBJ.FRESH, R420). -/
def State.canFresh (s : State) (n o : Nat) : Bool :=
  match s.canObj n o, s.canNewest n o (s.now + 1) with
  | some c, some r => decide (c.rxTmo = 0) || decide (s.now < r.valid + 1000000 * c.rxTmo)
  | _, _ => false

end Sys2Proof.Machine
end

