-- ==== Sys2Proof/Machine/Ops.lean ====
section
/-! DEFINITION. The named operations every block uses: registers, memory, time, messages out, and the occurrence of an event. -/

namespace Sys2Proof.Machine

/-! ### Registers -/

/-- A register's word. -/
def State.reg (s : State) (a : Nat) : Word := Sparse.get regReset s.regs a

/-- Set a register's word. -/
def State.setReg (s : State) (a : Nat) (w : Word) : State := { s with regs := Sparse.set regReset s.regs a w }

/-- A register field as a number. -/
def State.fld (s : State) (f : Field) : Nat := wordField (s.reg f.addr) f.lo f.width

/-- Set a register field to the low bits of a number. -/
def State.setFld (s : State) (f : Field) (v : Nat) : State := s.setReg f.addr (wordWith (s.reg f.addr) f.lo f.width v)

/-- A one-bit field. -/
def State.flag (s : State) (f : Field) : Bool := decide (s.fld f = 1)

/-- Set a one-bit field. -/
def State.setFlag (s : State) (f : Field) (b : Bool) : State := s.setFld f (b2n b)

/-- A field's largest value. -/
def Field.max (f : Field) : Nat := 2 ^ f.width - 1

/-- Count one in a saturating statistics counter (R205): at its largest value it stays, and its sticky bit is set. -/
def State.bump (s : State) (cnt sat : Field) : State :=
  if s.fld cnt + 1 < cnt.max then s.setFld cnt (s.fld cnt + 1)
  else (s.setFld cnt cnt.max).setFlag sat true

/-- Count one in a saturating counter without a sticky bit. -/
def State.bumpOnly (s : State) (cnt : Field) : State := s.setFld cnt (min cnt.max (s.fld cnt + 1))

/-! ### Memory -/

/-- What an unlisted byte of memory reads as: 0 (DESIGN CHOICE, assumption 2). -/
def memDefault : Nat → Byte := fun _ => 0

/-- A byte of memory. -/
def State.byte (s : State) (a : Nat) : Byte := Sparse.get memDefault s.mem a

/-- Write bytes at consecutive addresses. -/
def State.wrBytes (s : State) (a : Nat) (bs : List Byte) : State := { s with mem := Sparse.setMany memDefault s.mem a bs }

/-- `n` bytes at consecutive addresses. -/
def State.bytes (s : State) (a n : Nat) : List Byte := (List.range n).map (fun i => s.byte (a + i))

/-- An `n`-byte little-endian number (R9). -/
def State.rdLE (s : State) (a n : Nat) : Nat := leNat (s.bytes a n)

/-- Write an `n`-byte little-endian number. -/
def State.wrLE (s : State) (a n v : Nat) : State := s.wrBytes a (leBytes n v)

/-- The canonical form of a sparse byte store. -/
def Memory.wf (m : List Host.Cell) : Bool := Sparse.wf memDefault m

/-- A byte of a sparse image. -/
def imgByte (m : List Host.Cell) (a : Nat) : Byte := Sparse.get memDefault m a

/-- `n` bytes of a sparse image. -/
def imgBytes (m : List Host.Cell) (a n : Nat) : List Byte := (List.range n).map (fun i => imgByte m (a + i))

/-- Write bytes into a sparse image. -/
def imgWrite (m : List Host.Cell) (a : Nat) (bs : List Byte) : List Host.Cell := Sparse.setMany memDefault m a bs

/-- Make all of a byte list a sparse image from address `a`. -/
def imgOf (a : Nat) (bs : List Byte) : List Host.Cell := imgWrite [] a bs

/-! ### The address map (R97, R103) -/

/-- A region of the host address map. -/
inductive Region where
  | localSram (p : Nat) | sharedSram | imageStore | retain | trim | stateRec | otp | recorder | window (n : Nat) | slots | reserved
  deriving DecidableEq, Repr

/-- The region an address lies in (R97, R103). -/
def region (a : Nat) : Region :=
  if a < 0x600000 then .localSram (a / 0x200000)
  else if a < 0x1800000 then .sharedSram
  else if a < 0x20000000 then .reserved
  else if a < 0x205C0000 then .imageStore
  else if a < 0x205E0000 then .retain
  else if a < 0x205E8000 then .trim
  else if a < 0x205F0000 then .stateRec
  else if a < 0x20600000 then .otp
  else if a < 0x20800000 then .recorder
  else if a < 0x40000000 then .reserved
  else if a < 0x400F0000 then .window ((a - 0x40000000) / 0x10000)
  else if a < 0x41000000 then .reserved
  else if a < 0x41040000 then .slots
  else .reserved

/-- Whether [a, a+n) lies entirely in shared SRAM. -/
def inShared (a n : Nat) : Bool := decide (0x600000 ≤ a) && decide (a + n ≤ 0x1800000)

/-! ### Time (R82, R431) -/

/-- The seconds and nanoseconds of an instant. -/
def secOf (t : Nat) : Nat := t / 1000000000 % 2 ^ 48
def nsOf (t : Nat) : Nat := t % 1000000000

/-- Let `n` time-base cycles pass: elapsed time moves by 10 ns a cycle and, once the time base has locked, the counter by its addend. -/
def State.cycles (s : State) (n : Nat) : State :=
  if s.flag Reg.CPM_STAT_TB_LOCK then
    let total := s.frac + n * s.fld Reg.PTP_ADDEND_ADDEND
    { s with mono := s.mono + 10 * n, now := s.now + total / 2 ^ 28, frac := total % 2 ^ 28 }
  else { s with mono := s.mono + 10 * n }

/-- Let time pass until PTP instant `t`: a command that the spec binds to an instant happens at that instant. -/
def State.toTime (s : State) (t : Nat) : State :=
  if t ≤ s.now then s
  else
    let a := s.fld Reg.PTP_ADDEND_ADDEND
    if a = 0 then s else s.cycles (ceilDiv ((t - s.now) * 2 ^ 28 - s.frac) a)

/-- Let time pass until elapsed instant `m`. -/
def State.toMono (s : State) (m : Nat) : State := if m ≤ s.mono then s else s.cycles (ceilDiv (m - s.mono) 10)

/-! ### Free values and messages out -/

/-- Draw a free value: the state with its counter advanced. -/
def State.draw (s : State) : State := { s with freeCtr := s.freeCtr + 1 }

/-- Send something out of the connectors. -/
def State.send (s : State) (o : OutMsg) : State := { s with outbox := s.outbox ++ [o] }

/-- Queue a host-to-field frame. -/
def State.rimSend (s : State) (f : RimFrame) : State := { s with toField := s.toField ++ [f] }

/-! ### Reads without side effects (R108, R206, R487) -/

/-- The words a read of a low word latches (R206). -/
def latchedWith (a : Nat) : List Nat :=
  if a = Reg.PTP_NS then [Reg.PTP_SL, Reg.PTP_SH]
  else if a = Reg.WVE_SWAPT_NS then [Reg.WVE_SWAPT_SL, Reg.WVE_SWAPT_SH]
  else if a = Reg.CMP_SYN_LO then [Reg.CMP_SYN_HI]
  else if 0x40010800 ≤ a ∧ a < 0x40011000 ∧ a % 8 = 0 then [a + 4]
  else if 0x40070000 ≤ a ∧ a < 0x40074000 ∧ a % 0x1000 = 0x4C then [a + 4]
  else []

/-- Whether a word is read through the reader's own copy: a latched high word (R206), or QUE_PUSHST (R136, one copy per master). -/
def isLatched (a : Nat) : Bool :=
  decide (a = Reg.QUE_PUSHST) || decide (a = Reg.PTP_SL) || decide (a = Reg.PTP_SH) || decide (a = Reg.WVE_SWAPT_SL) || decide (a = Reg.WVE_SWAPT_SH)
    || decide (a = Reg.CMP_SYN_HI) || (decide (0x40010800 ≤ a) && decide (a < 0x40011000) && decide (a % 8 = 4))
    || (decide (0x40070000 ≤ a) && decide (a < 0x40074000) && decide (a % 0x1000 = 0x50))

/-- Byte `o` of the image a view pins for task `c`; 0 beyond it. -/
def State.viewWord (s : State) (v : Nat) : Nat :=
  let c := s.fld (Reg.IMG_VIEW_ADDR_TASK v)
  let o := s.fld (Reg.IMG_VIEW_ADDR_OFFSET v)
  if s.fld (Reg.IMG_VIEW_STAT_STATE v) = 1 then
    match ((s.views.getD v ⟨[], []⟩).pins.find? (fun p => p.1 = c)) with
    | some (_, _, img) => leNat (imgBytes img o 4)
    | none => 0
  else 0

/-- The four bytes that PNL_FBADDR names (R498, R513). -/
def State.pnlWord (s : State) : Nat :=
  leNat (imgBytes (if s.flag Reg.PNL_FBADDR_BUF then s.pnl.front else s.pnl.back) (s.fld Reg.PNL_FBADDR_OFFSET) 4)

/-- Whether a confirmation window (R366) or a bootstrap session that waits for the key (R116) holds the Confirm key. -/
def State.keyWindow (s : State) : Bool :=
  s.saf.window.isSome || s.ksap.challenges.any (fun c => c.boot && decide (s.mono ≤ c.at_ + 30000000000)) ||
    s.ksap.sessions.any (fun x => x.boot)

/-- PNL_KEY: WINDOW as it stands, and HELD of a hold in progress in 10 ms units, saturating (R512, R513). -/
def State.pnlKeyWord (s : State) : Nat :=
  let held := if s.flag Reg.PNL_KEY_DOWN then min 65535 ((s.mono - s.pnl.keyAt) / 10000000) else s.fld Reg.PNL_KEY_HELD
  s.fld Reg.PNL_KEY_DOWN + 2 * b2n s.keyWindow + 65536 * (if s.flag Reg.PNL_KEY_DOWN && s.keyWindow then 0 else held)

/-- RDL_SWAP with the whole minutes until the next planned swap falls due (R474, R479). -/
def State.swapWord (s : State) : Nat :=
  let due := s.rdl.swapOp + 3600 * s.fld Reg.RDL_CFG_SWAP_H
  let next := if s.fld Reg.RDL_CFG_SWAP_H = 0 ∨ s.fld Reg.RDL_STAT_ROLE < 2 then 0 else (due - s.fld Reg.CPM_OPSEC_OPSEC) / 60
  wordField (s.reg Reg.RDL_SWAP) 0 16 + 65536 * min 65535 next

/-! ### The loop grid and DOZE (R90, R91, R261) -/

/-- The slots of the running image with their periods in ns. -/
def State.loopRecs (s : State) : List (Nat × List Byte) := match s.img with | some i => i.loopRecs | none => []
def recPeriod (r : Nat × List Byte) : Nat := periodNs (slotPeriod r.2)

/-- The first instant at or after `t` at which some slot is due. -/
def State.loopNext (s : State) (t : Nat) : Option Nat :=
  (s.loopRecs.map (fun r => recPeriod r * ceilDiv t (recPeriod r))).min?

/-- The next window to evaluate. -/
def State.windowNext (s : State) : Option Nat :=
  s.loopNext (match s.loops.last with | some t => max (t + 1) s.loops.start | none => s.loops.start)

/-- The next wake instant: the earliest release or loop window to come (R91). -/
def State.nextWake (s : State) : Option Nat :=
  (s.tasks.filterMap (fun t => t.nextRel) ++ (if s.flag Reg.LPE_STAT_RUN then s.windowNext.toList else [])).min?

/-- The conditions of R90, as CPM_STAT.DOZE_OK shows them. -/
def State.dozeOk (s : State) : Bool :=
  let recs := match s.img with | some i => i.taskRecs | none => []
  recs.all (fun r => decide (r.cls = 8) || decide (10000 ≤ r.period)) && s.loopRecs.all (fun r => decide (12800000 ≤ recPeriod r)) &&
    decide (s.fld Reg.CPM_STAT_SLOT = 1) && (List.range 2).all (fun p => !s.flag (Reg.NET_PORT_EN p)) &&
    (List.range 4).all (fun n => decide (s.fld (Reg.CAN_STAT_MODE n) = 0)) && s.ksap.sessions.isEmpty &&
    (match s.nextWake with | some t => decide (s.now + 100000 < t) | none => true)

/-! ### Claims (R124, R125) -/

/-- Whether source `src` is presented to a pair (R124): enabled, and its target names one. -/
def State.presented (s : State) (src : Nat) : Bool :=
  s.flag (Reg.EVT_ROUTE_EN src) && decide (s.fld (Reg.EVT_ROUTE_TARGET src) ≠ 3)

/-- Whether source `src` is pending. -/
def State.isPending (s : State) (src : Nat) : Bool := (s.reg (Reg.EVT_PEND (src / 32))).getLsbD (src % 32)

/-- The pending sources presented to pair `p` (R124). -/
def State.presentedTo (s : State) (p : Nat) : List Nat :=
  (List.range 256).filter (fun src => s.isPending src && s.presented src && decide (s.fld (Reg.EVT_ROUTE_TARGET src) = p))

/-- The source with the highest level, and among equal levels the lowest number (R125). -/
def State.topSource (s : State) : List Nat → Option Nat
  | [] => none
  | a :: l =>
    match State.topSource s l with
    | none => some a
    | some b => if s.fld (Reg.EVT_ROUTE_LEVEL a) < s.fld (Reg.EVT_ROUTE_LEVEL b) then some b else some a

/-- The source that EVT_CLAIM[p] returns (R125). -/
def State.claim (s : State) (p : Nat) : Option Nat := s.topSource (s.presentedTo p)


/-- The word EVT_CLAIM[p] returns. -/
def State.claimWord (s : State) (p : Nat) : Nat :=
  match s.claim p with | none => 0 | some src => src + 256 * s.fld (Reg.EVT_ROUTE_LEVEL src) + 2 ^ 31

/-- The word LPE_RGNDATA returns (R277). -/
def State.rgnWord (s : State) : Nat :=
  match s.img.bind (fun i => i.regionTab (s.fld Reg.LPE_RGNSEL_TABLE)) with | some t => u32 t (4 * s.fld Reg.LPE_RGNSEL_WORD) | none => 0

/-- What a register holds now, before latches: most are the word of the file, and some show another store live. -/
def State.liveReg (s : State) (a : Nat) : Nat :=
  if a = Reg.PTP_NS then nsOf s.now
  else if a = Reg.PTP_SL then secOf s.now % 2 ^ 32
  else if a = Reg.PTP_SH then secOf s.now / 2 ^ 32
  else if 0x400A0100 ≤ a ∧ a < 0x400A0200 then s.rdLE (0x20600000 + 256 * s.fld Reg.EVR_CUR_INDEX + (a - 0x400A0100)) 4
  else if 0x40030200 ≤ a ∧ a < 0x40030280 ∧ a % 16 = 12 then s.viewWord ((a - 0x40030200) / 16)
  else if a = Reg.PNL_FBDATA then s.pnlWord
  else if a = Reg.LPE_RGNDATA then s.rgnWord
  else if 0x40011040 ≤ a ∧ a < 0x40011070 ∧ a % 16 = 0 then s.claimWord ((a - 0x40011040) / 16)
  else if a = Reg.PNL_KEY then s.pnlKeyWord
  else if a = Reg.RDL_SWAP then s.swapWord
  else if a = Reg.CPM_STAT then (wordWith (s.reg a) 11 1 (b2n s.dozeOk)).toNat
  else if 0x40026000 ≤ a ∧ a < 0x40026080 then s.fld (Reg.LCK_PEEK_OWNER ((a - 0x40026000) / 4))
  else if 0x40070000 ≤ a ∧ a < 0x40074000 ∧ 0x200 ≤ a % 0x1000 ∧ a % 0x1000 < 0x400 then
    let n := (a - 0x40070000) / 0x1000
    let o := (a % 0x1000 - 0x200) / 4
    (s.reg a).toNat + 8 * b2n (s.canFresh n o)
  else (s.reg a).toNat

/-- Key of a master's latch. -/
def latchKey (m a : Nat) : Nat := m * 2 ^ 32 + a

/-- Latch words for a master (R206). -/
def State.latchAll (s : State) (m : Nat) : List Nat → State
  | [] => s
  | h :: hs =>
    State.latchAll { s with latches := Sparse.set (fun _ => 0) s.latches (latchKey m h) (BitVec.ofNat 32 (s.liveReg h)) } m hs

/-- A register as a reader sees it that changes nothing but its own latch (R108, R487): the value, and the state with the latch set. -/
def State.readQuiet (s : State) (m a : Nat) : Nat × State :=
  if isLatched a then ((Sparse.get (fun _ => 0) s.latches (latchKey m a)).toNat, s)
  else (s.liveReg a, s.latchAll m (latchedWith a))

/-- Master number under which the recorder holds its own latch (R487). -/
def recorderMaster : Nat := 5

/-- One snapshot read of the recorder: a register window by the rules above, or a memory word (R487). -/
def State.snapRead (s : State) (a : Nat) : Nat × State :=
  match region a with
  | .window _ => s.readQuiet recorderMaster a
  | .reserved => (0, s)
  | _ => (s.rdLE a 4, s)

/-- Read a snapshot list, entry by entry. -/
def State.snapAll (s : State) : List Nat → State × List (Nat × Word)
  | [] => (s, [])
  | a :: as =>
    let r := s.snapRead a
    let q := State.snapAll r.2 as
    (q.1, (a, BitVec.ofNat 32 r.1) :: q.2)

/-- The addresses of snapshot list `l`, up to its first 0 (R487). -/
def State.snapList (s : State) (l : Nat) : List Nat :=
  ((List.range 26).map (fun e => (s.reg (Reg.EVR_LIST l e)).toNat)).takeWhile (fun a => a ≠ 0)

/-! ### The occurrence of an event (R122, R89, R90, R486, R488) -/

/-- Set or clear the pending bit of source `src`. -/
def State.setPending (s : State) (src : Nat) (b : Bool) : State :=
  s.setFld ⟨Reg.EVT_PEND (src / 32), src % 32, 1⟩ (b2n b)

/-- Bit of CPM_STAT.PAIR_IDLE of pair `p`. -/
def idleBit (p : Nat) : Field := ⟨Reg.CPM_STAT, 2 + p, 1⟩

/-- The part of R122 before the recorder: count, detail, pending bit; a source presented to a pair ends its IDLE (R89), and one at
the wake level or above starts the exit from DOZE (R90). -/
def State.occur (s : State) (src lo hi : Nat) : State :=
  let s := s.bump (Reg.EVT_CNT_COUNT src) (Reg.EVT_CNT_SAT src)
  let s := (s.setReg (Reg.EVT_INFO_LO src) (BitVec.ofNat 32 lo)).setReg (Reg.EVT_INFO_HI src) (BitVec.ofNat 32 hi)
  if s.presented src then
    let s := (s.setPending src true).setFlag (idleBit (s.fld (Reg.EVT_ROUTE_TARGET src))) false
    if s.cpm.phase = .doze ∧ s.fld Reg.CPM_PSCFG_WAKE_LVL ≤ s.fld (Reg.EVT_ROUTE_LEVEL src) then
      { s with cpm := { s.cpm with waking := true } }
    else s
  else s

/-- A recorder entry for an occurrence now, with its snapshot taken (R481, R488). -/
def State.recEntry (s : State) (cls src lo hi time flags : Nat) (list : Option Nat) : State × RecEntry :=
  let q := match list with
    | some l => s.snapAll (s.snapList l)
    | none => (s, [])
  (q.1, { cls := cls, src := src, opsec := s.fld Reg.CPM_OPSEC_OPSEC, pwrcyc := s.fld Reg.CPM_PWRCYC_PWRCYC, time := time,
          flags := b2n (s.flag Reg.CPM_STAT_TB_LOCK) + 2 * b2n (s.flag Reg.PTP_STAT_TRACE) + flags,
          role := s.fld Reg.RDL_STAT_ROLE, lo := BitVec.ofNat 32 lo, hi := BitVec.ofNat 32 hi, snap := q.2 })

/-- Show the buffer's fill in EVR_STAT.BUF and EVR_PEAK (R496). -/
def State.showBuf (s : State) : State :=
  let n := min 64 s.evr.buf.length
  let s := s.setFld Reg.EVR_STAT_BUF n
  s.setFld Reg.EVR_PEAK_BUF (max n (s.fld Reg.EVR_PEAK_BUF))

/-- Whether the entry is a START or STOP record, for which entries 62 and 63 are reserved (R488). -/
def RecEntry.reserved (e : RecEntry) : Bool := decide (e.cls = 0) || decide (e.cls = 2)

/-- Whether an entry is free for a record of the other classes (R488). -/
def State.recFree (s : State) : Bool :=
  decide ((s.evr.buf.filter (fun e => !e.reserved)).length < 62) && decide (s.evr.buf.length < 64)

/-- Claim an entry at the end of the buffer, or drop the occurrence (R488). -/
def State.recClaim (s : State) (cls src lo hi time flags : Nat) (list : Option Nat) : State :=
  if s.recFree then
    let q := s.recEntry cls src lo hi time flags list
    ({ q.1 with evr := { q.1.evr with buf := q.1.evr.buf ++ [q.2] } }).showBuf
  else
    let s := s.bump Reg.EVR_LOST_COUNT Reg.EVR_LOST_SAT
    match s.evr.lost with
    | none => ({ s with evr := { s.evr with lost := some (1, src, src) } }).occur 232 src 0
    | some (n, f, _) => { s with evr := { s.evr with lost := some (n + 1, f, src) } }

/-- Claim the entry of a START or STOP record: never dropped, and a STOP goes ahead of every waiting entry (R488). -/
def State.recFirst (s : State) (cls src lo hi : Nat) : State :=
  let q := s.recEntry cls src lo hi s.now 0 (some 15)
  let buf := q.1.evr.buf
  ({ q.1 with evr := { q.1.evr with
      buf := if cls = 2 then buf.takeWhile (fun e : RecEntry => decide (e.cls = 2)) ++ [q.2] ++ buf.dropWhile (fun e : RecEntry => decide (e.cls = 2))
             else buf ++ [q.2] } }).showBuf

/-- Whether an occurrence of `src` triggers a record now: enabled, no recorder source, and past its hold-off (R486). -/
def State.recTriggers (s : State) (src : Nat) : Bool :=
  s.flag (Reg.EVR_TRIG_EN src) && !(decide (232 ≤ src) && decide (src ≤ 239)) &&
  (match s.evr.last.find? (fun p => p.1 = src) with
   | some (_, t) => decide (s.mono ≥ t + 1000000 * s.fld (Reg.EVR_TRIG_HOLD src)) | none => true)

/-- Trigger an EVENT record of an occurrence, and remember when (R486). -/
def State.recEvent (s : State) (src lo hi time flags : Nat) : State :=
  if s.recTriggers src then
    let free := s.recFree
    let t := s.recClaim 1 src lo hi time flags (some (s.fld (Reg.EVR_TRIG_LIST src)))
    if free then
      { t with evr := { t.evr with last := (src, t.mono) :: t.evr.last.filter (fun p => decide (p.1 ≠ src)) } }
    else t
  else s

/-- An occurrence of event source `src` with its detail (R122). -/
def State.raise (s : State) (src lo hi : Nat) : State := (s.occur src lo hi).recEvent src lo hi s.now 0

/-- A field-side occurrence, with its field timestamp (R123). -/
def State.raiseField (s : State) (e : FieldEvent) : State := (s.occur e.src e.lo e.hi).recEvent e.src e.lo e.hi e.time 8

/-- A STOP record of the reaction to an occurrence of `src` (R482), whose detail is EVT_INFO of that source. -/
def State.stopRecord (s : State) (src : Nat) : State :=
  s.recFirst 2 src (s.reg (Reg.EVT_INFO_LO src)).toNat (s.reg (Reg.EVT_INFO_HI src)).toNat

/-- A forbidden or reserved access (R99): nothing is done, and EV_BUSERR carries the address and the master. -/
def State.busError (s : State) (m a : Nat) : State :=
  ({ s with busErr := m :: s.busErr.filter (fun x => decide (x ≠ m)) }).raise 45 a m

/-- What a read returns to master `m`. -/
def State.ret (s : State) (m v : Nat) : State :=
  { s with rdata := Sparse.set (fun _ => 0) s.rdata m (BitVec.ofNat 32 v), busErr := s.busErr.filter (fun x => decide (x ≠ m)) }

/-- The value master `m`'s last read returned. -/
def State.returned (s : State) (m : Nat) : Word := Sparse.get (fun _ => 0) s.rdata m

/-- Whether the station is in HALT (as CPM_STAT.PSTATE shows it). -/
def State.inHalt (s : State) : Bool := decide (s.fld Reg.CPM_STAT_PSTATE = 2)

/-- Whether the unit is in control: SOLO or ACTIVE (R450). -/
def State.inControl (s : State) : Bool := decide (s.fld Reg.RDL_STAT_ROLE = 1) || decide (s.fld Reg.RDL_STAT_ROLE = 2)

/-- Set an HDP error bit, with EV_HDP_ERR (R108, R120). -/
def State.hdpErr (s : State) (f : Field) : State := (s.setFlag f true).raise 13 0 0

/-- Whether master `m` may write registers now: core pairs always, the host data port in HALT only (R108). -/
def State.mayWriteRegs (s : State) (m : Master) : Bool := m.isPair || (decide (m = .hdp) && s.inHalt)

/-- A register write the region rules forbid (R99, R108). -/
def State.denyWrite (s : State) (m : Master) (a : Nat) : State :=
  if m = .hdp then (s.hdpErr Reg.HDP_STAT_ERR_DENIED).busError m.num a else s.busError m.num a

/-- A task class's record. -/
def State.task (s : State) (c : Nat) : Task := s.tasks.getD c Task.reset
/-- The tables that the model indexes have their sizes: nine tasks, eight views, four CAN ports, 64 channels in two groups. -/
def State.sized (s : State) : Prop :=
  s.tasks.length = 9 ∧ s.views.length = 8 ∧ s.can.length = 4 ∧ s.field.chans.length = 64 ∧ s.field.grps.length = 2

def State.setTask (s : State) (c : Nat) (t : Task) : State := { s with tasks := s.tasks.set c t }

end Sys2Proof.Machine
end

