-- ==== Sys2Proof/Machine/Queues.lean ====
section
/-! DEFINITION. The queue unit (05): pushes, releases, rounds' arbitration and configuration writes. -/

namespace Sys2Proof.Machine

/-- Number that stands for a hardware unit as master of an access (R448, code 6). -/
def hardwareMaster : Nat := 6

/-- Set the attention bit of queue `q` for pair `p`; a bit that goes from 0 to 1 raises EV_ATTN_Pp (R130, R152). -/
def State.queAttn (s : State) (p q : Nat) : State :=
  let f : Field := ⟨if q < 32 then Reg.QUE_ATTN_LO p else Reg.QUE_ATTN_HI p, q % 32, 1⟩
  if s.flag f then s else (s.setFlag f true).raise (64 + p) 0 0

/-- Ring address of descriptor `i` (counted from the ring's start, wrapping) of queue `q`. -/
def State.ringAddr (s : State) (q i : Nat) : Nat :=
  (s.reg (Reg.QUE_BASE q)).toNat + 16 * (i % 2 ^ s.fld (Reg.QUE_CFG_SIZE q))

/-- Ring index of the head of queue `q`. -/
def State.qHead (s : State) (q : Nat) : Nat := Sparse.get (fun _ => 0) s.que.head q

/-- Note the result of a master's push (QUE_PUSHST, one copy per master). -/
def State.pushResult (s : State) (m q r : Nat) : State :=
  { s with latches := Sparse.set (fun _ => 0) s.latches (latchKey m Reg.QUE_PUSHST) (BitVec.ofNat 32 (r + 256 * q)) }

/-- A refused push (R129): counted, reported, nothing in the ring. -/
def State.pushRefuse (s : State) (m q r : Nat) : State :=
  ((s.pushResult m q r).bump (Reg.QUE_DROP_DROPS q) (Reg.QUE_DROP_SAT q)).raise 68 (q + 256 * r) m

/-- Generation of a producing domain (R128): a pair's, Pair F's for the Rim, 0 for a port that is no domain. -/
def State.genOf (s : State) (code : Nat) : Nat :=
  if code < 3 then s.fld ⟨Reg.MBX_GEN, 8 * code, 8⟩ else if code = 20 then s.fld Reg.MBX_GEN_GENF else 0

/-- Whether a 16-byte descriptor names a payload outside shared SRAM or has its reserved byte set (R129). -/
def badDesc (d : List Byte) : Bool := !(inShared (u32 d 0) (u16 d 4)) || decide (u8 d 15 ≠ 0)

/-- A push of descriptor bytes by the end coded `code`, reported to master `m` (R129): denied, full, bad, or copied into the ring. -/
def State.push (s : State) (q code m : Nat) (desc : List Byte) (placed : Bool) : State :=
  if ¬ s.flag (Reg.QUE_CFG_EN q) ∨ s.fld (Reg.QUE_CFG_PROD q) ≠ code then s.pushRefuse m q 4
  else if 2 ^ s.fld (Reg.QUE_CFG_SIZE q) ≤ s.fld (Reg.QUE_STAT_LEVEL q) then s.pushRefuse m q 2
  else if ¬ placed ∨ badDesc desc then s.pushRefuse m q 3
  else
    let n := s.fld (Reg.QUE_STAT_LEVEL q)
    let d := (desc.take 14) ++ [BitVec.ofNat 8 (s.genOf code), 0]
    ((s.wrBytes (s.ringAddr q (s.qHead q + n)) d).setFld (Reg.QUE_STAT_LEVEL q) (n + 1)).pushResult m q 1

/-- Whether a push of queue `q` would be accepted for a hardware producer now. -/
def State.pushOk (s : State) (q code : Nat) (desc : List Byte) : Bool :=
  s.flag (Reg.QUE_CFG_EN q) && decide (s.fld (Reg.QUE_CFG_PROD q) = code) &&
    decide (s.fld (Reg.QUE_STAT_LEVEL q) < 2 ^ s.fld (Reg.QUE_CFG_SIZE q)) && !(badDesc desc)

/-- QUE_PUSH (R128, R129): a master writes the address of a descriptor in shared SRAM. -/
def quePush (m : Master) (q addr : Nat) (s : State) : State :=
  if s.mayWriteRegs m then
    s.push q m.num m.num (s.bytes addr 16) (decide (addr % 16 = 0) && inShared addr 16)
  else s.denyWrite m (Reg.QUE_PUSH q)

def execQuePush (m : Master) (q : Fin 64) (addr : Nat) (s : State) : Result := .next (quePush m q addr s)

/-- Attention to the producer pair at completion, where the descriptor asks for it (R128 DONE_EV). -/
def State.doneEv (s : State) (q : Nat) (desc : List Byte) : State :=
  if u16 desc 6 % 2 = 1 ∧ s.fld (Reg.QUE_CFG_PROD q) < 3 then s.queAttn (s.fld (Reg.QUE_CFG_PROD q)) q else s

/-- QUE_REL (R130): any write releases the available descriptor. -/
def queRelease (m : Master) (q : Nat) (s : State) : State :=
  if ¬ s.mayWriteRegs m then s.denyWrite m (Reg.QUE_REL q)
  else if s.reg (Reg.QUE_POP q) = 0 then s
  else (s.setReg (Reg.QUE_POP q) 0).doneEv q (s.bytes (s.reg (Reg.QUE_POP q)).toNat 16)

/-- Whether the queue's configuration may change (R137): disabled, empty, nothing available. -/
def State.queIdle (s : State) (q : Nat) : Bool :=
  !(s.flag (Reg.QUE_CFG_EN q)) && decide (s.fld (Reg.QUE_STAT_LEVEL q) = 0) && decide (s.reg (Reg.QUE_POP q) = 0)

/-- Set or clear EN; clearing returns the age to 0 and the effective class to the base class (R137). -/
def State.queSetEn (s : State) (q : Nat) (en : Bool) : State :=
  let s := s.setFlag (Reg.QUE_CFG_EN q) en
  if en then s else (s.setFld (Reg.QUE_STAT_AGE q) 0).setFld (Reg.QUE_STAT_ECLASS q) (s.fld (Reg.QUE_CFG_CLASS q))

/-- The fields of a QUE_CFG word other than EN. -/
def queCfgRest (w : Word) : Nat × Nat × Nat × Nat :=
  (wordField w 0 3, wordField w 4 4, wordField w 8 6, wordField w 16 6)

/-- QUE_CFG and QUE_BASE writes (R133, R136, R137). -/
def queCfgWrite (m : Master) (q : Nat) (base : Bool) (w : Word) (s : State) : State :=
  let fault := fun (s : State) => s.raise 68 (q + 256 * 5) m.num
  if ¬ s.mayWriteRegs m then s.denyWrite m (if base then Reg.QUE_BASE q else Reg.QUE_CFG q)
  else if base then
    if s.queIdle q then s.setReg (Reg.QUE_BASE q) w else fault s
  else if wordField w 0 3 = 7 ∧ wordField w 8 6 ≠ 32 ∧ wordField w 16 6 ≠ 32 then s
  else
    let same := decide (queCfgRest w = queCfgRest (s.reg (Reg.QUE_CFG q)))
    let en := w.getLsbD 3
    if same then s.queSetEn q en
    else if s.queIdle q then
      let s := s.setReg (Reg.QUE_CFG q) (w &&& 0x003F3FFF)
      s.queSetEn q en |>.setFld (Reg.QUE_STAT_ECLASS q) (wordField w 0 3)
    else if s.flag (Reg.QUE_CFG_EN q) then fault (s.queSetEn q en)
    else fault s

def execQueCfgWrite (m : Master) (q : Fin 64) (base : Bool) (w : Word) (s : State) : Result := .next (queCfgWrite m q base w s)

/-- Whether a CAN port can take a payload: it runs unrestricted. -/
def State.canTakes (s : State) (n : Nat) : Bool :=
  decide (s.fld (Reg.CAN_STAT_MODE n) ≠ 0) && !(s.canPort n).stopped && !s.flag (Reg.CAN_STAT_RESTRICT n)

/-- A port's end code is ready when no payload of the queue is at it and the port can take one (R130, R410). -/
def State.portReady (s : State) (q code : Nat) : Bool :=
  decide (code < 63) && !((s.que.atPort.map (·.1)).contains q) && (decide (code < 8) || decide (11 < code) || s.canTakes (code - 8))

/-- Whether queue `q` competes in a round (R130). -/
def State.competes (s : State) (q : Nat) : Bool :=
  let cons := s.fld (Reg.QUE_CFG_CONS q)
  s.flag (Reg.QUE_CFG_EN q) && decide (1 ≤ s.fld (Reg.QUE_STAT_LEVEL q)) &&
    (if cons < 3 then decide (s.reg (Reg.QUE_POP q) = 0) else s.portReady q cons)

/-- The effective class for a base class, an age and a limit (R132). -/
def effClass (b age l : Nat) : Nat := if b = 7 then 7 else min 6 (b + age / l)

/-- The effective class of a queue (R132). -/
def State.eclass (s : State) (q : Nat) : Nat :=
  effClass (s.fld (Reg.QUE_CFG_CLASS q)) (s.fld (Reg.QUE_STAT_AGE q)) (max 1 (s.fld Reg.QUE_AGE_LIMIT_LIMIT))

/-- The queues in the order that class `k`'s pointer gives: those after the last winner, then from 0 (R131). -/
def State.pollOrder (s : State) (k : Nat) : List Nat :=
  let p := Sparse.get (fun _ => 63) s.que.ptr k
  ((List.range 64).filter (fun q => decide (p < q))) ++ ((List.range 64).filter (fun q => decide (q ≤ p)))

/-- The winner of a round: the highest effective class, then the pointer's order (R131). -/
def State.winner (s : State) : Option Nat :=
  let cs := (List.range 64).filter (fun q => s.competes q)
  let top := (cs.map (fun q => s.eclass q)).foldl max 0
  (s.pollOrder top).find? (fun q => cs.contains q && decide (s.eclass q = top))

/-- One lost round of queue `q` (R132): age plus one, and a Trump where the effective class rises. -/
def State.loseRound (s : State) (q : Nat) : State :=
  let before := s.eclass q
  let t := s.bumpOnly (Reg.QUE_STAT_AGE q)
  let after := t.eclass q
  let t := t.setFld (Reg.QUE_STAT_ECLASS q) after
  if before < after then (t.bump (Reg.QUE_TRUMPS_TRUMPS q) (Reg.QUE_TRUMPS_SAT q)).raise 67 (q + 256 * after) 0 else t

/-- The winner's state after its round, before its payload is delivered (R130, R131, R132): descriptor out of the ring, age 0. -/
def State.winRound (s : State) (q : Nat) : State :=
  let k := s.eclass q
  let h := s.qHead q
  let s := ((s.setFld (Reg.QUE_STAT_LEVEL q) (s.fld (Reg.QUE_STAT_LEVEL q) - 1)).setFld (Reg.QUE_STAT_AGE q) 0).setFld
    (Reg.QUE_STAT_ECLASS q) (s.fld (Reg.QUE_CFG_CLASS q))
  { s with que := { s.que with head := Sparse.set (fun _ => 0) s.que.head q ((h + 1) % 2 ^ s.fld (Reg.QUE_CFG_SIZE q)),
                               ptr := Sparse.set (fun _ => 63) s.que.ptr k q } }

/-- A domain reset of pair `p` returns the descriptors it had not released to the head of their queues (R135). -/
def State.queReturn (s : State) (p : Nat) : List Nat → State
  | [] => s
  | q :: qs =>
    if s.fld (Reg.QUE_CFG_CONS q) = p ∧ s.reg (Reg.QUE_POP q) ≠ 0 then
      let n := 2 ^ s.fld (Reg.QUE_CFG_SIZE q)
      let t := (s.setReg (Reg.QUE_POP q) 0).setFld (Reg.QUE_STAT_LEVEL q) (s.fld (Reg.QUE_STAT_LEVEL q) + 1)
      State.queReturn { t with que := { t.que with head := Sparse.set (fun _ => 0) t.que.head q ((s.qHead q + n - 1) % n) } } p qs
    else State.queReturn s p qs

end Sys2Proof.Machine
end

