-- ==== Sys2Proof/Machine/Can.lean ====
section
/-! DEFINITION. The CAN ports (15): receiving, transmitting, error states, and the ends of frames. -/

namespace Sys2Proof.Machine

/-- Event source `i` of port `n` (R421). -/
def canSrc (n i : Nat) : Nat := 176 + 8 * n + i

/-- Replace a port's state. -/
def State.setCan (s : State) (n : Nat) (p : CanPort) : State := { s with can := s.can.set n p }

/-- Whether a port runs: configured and not stopped by coasting (R419). -/
def State.canOn (s : State) (n : Nat) : Bool := decide (s.fld (Reg.CAN_STAT_MODE n) ≠ 0) && !(s.canPort n).stopped

/-- A frame's ID word (R407). -/
def canIdWord (f : CanFrame) : Nat := f.id % 2 ^ 29 + 2 ^ 29 * b2n f.ide + 2 ^ 30 * b2n f.fd + 2 ^ 31 * b2n f.brs

/-- Valid data lengths of a format (ISO 11898-1). -/
def canLenOk (fd : Bool) (n : Nat) : Bool :=
  decide (n ≤ 8) || (fd && [12, 16, 20, 24, 32, 48, 64].contains n)

/-- The key of bus arbitration: the lower one wins (a base frame before an extended one with the same leading 11 bits). -/
def canArbKey (f : CanFrame) : Nat := if f.ide then 2 * f.id + 1 else 2 * (f.id * 2 ^ 18)

/-! ### Counters and error states (R414) -/

/-- Count an error by type in CANn_ECNT0 or CANn_ECNT1. -/
def State.canCount (s : State) (n : Nat) : CanErr → State
  | .bit => s.bump (Reg.CAN_ECNT0_BIT n) (Reg.CAN_ECNT1_SAT n)
  | .stuff => s.bump (Reg.CAN_ECNT0_STUFF n) (Reg.CAN_ECNT1_SAT n)
  | .form => s.bump (Reg.CAN_ECNT0_FORM n) (Reg.CAN_ECNT1_SAT n)
  | .ack => s.bump (Reg.CAN_ECNT0_ACK n) (Reg.CAN_ECNT1_SAT n)
  | .crc => s.bump (Reg.CAN_ECNT1_CRC n) (Reg.CAN_ECNT1_SAT n)

/-- The queue frame at a port: the queue and the descriptor (R410). -/
def State.canQueued (s : State) (n : Nat) : Option (Nat × List Byte) :=
  match s.canPortRec n with
  | some p => s.que.atPort.find? (fun e => e.1 = p.txq)
  | none => none

/-- Write RESULT and the timestamp into the queued frame's record and complete its descriptor (R410). A frame that never started has no
start of frame: its timestamp is a free value. -/
def State.canQueueDone (s : State) (n result sof : Nat) : State :=
  match s.canQueued n with
  | none => s
  | some (q, desc) =>
    let a := u32 desc 0
    let never := decide (sof = 0)
    let stamp := if never then (Config.freeWord s.freeCtr).toNat else nsOf sof + 2 ^ 32 * (secOf sof % 2 ^ 32)
    let s := if never then s.draw else s
    let s := (s.wrLE (a + 6) 1 result).wrLE (a + 8) 8 stamp
    ({ s with que := { s.que with atPort := s.que.atPort.filter (fun e => decide (e.1 ≠ q)) } }).doneEv q desc

/-- A failure of a one-shot frame of an object or of the queue (R411). -/
def State.canTxFail (s : State) (n : Nat) (t : CanTx) (cause : Nat) : State :=
  if t.obj = 254 then s
  else
    let s := ((s.setFld (Reg.CAN_TXFAIL_SRC n) t.obj).setFld (Reg.CAN_TXFAIL_CAUSE n) cause).bump
      (Reg.CAN_TXFAIL_COUNT n) (Reg.CAN_TXFAIL_SAT n)
    s.raise (canSrc n 2) (t.obj + 256 * cause) (canIdWord t.frame)

/-- CANn_OBJ.PEND of a transmit object follows what waits or is on the bus. -/
def State.canShowPend (s : State) (n o : Nat) : State :=
  if o < 128 then
    let p := s.canPort n
    let busy := (p.pend.any (fun t => decide (t.obj = o))) || (match p.onBus with | some t => decide (t.obj = o) | none => false)
    s.setFlag (Reg.CAN_OBJ_PEND n o) busy
  else s

/-- A frame ends with a failure: a one-shot frame is recorded, and a queued one completes (R410, R411). -/
def State.canFail (s : State) (n : Nat) (t : CanTx) (cause sof : Nat) : State :=
  let s := if t.oneShot then s.canTxFail n t cause else s
  let s := if t.obj = 255 then s.canQueueDone n cause sof else s
  s.canShowPend n t.obj

/-- The frames that bus-off ends (R412): pending one-shot frames and the queue head, with BUSOFF. -/
def State.canEndAll (s : State) (n cause : Nat) : List CanTx → State
  | [] => s
  | t :: ts => State.canEndAll (s.canFail n t cause 0) n cause ts

/-- A queued frame as a frame waiting for the bus. -/
def State.canQueuedTx (s : State) (n : Nat) : Option CanTx :=
  match s.canQueued n with
  | none => none
  | some (_, desc) =>
    let b := s.bytes (u32 desc 0) (u16 desc 4)
    let w := u32 b 0
    some ⟨255, ⟨bit w 29, w % 2 ^ 29, bit w 30, bit w 31, slice b 16 (u8 b 5)⟩, bit (u8 b 4) 0⟩

/-- Entry into bus-off (R414, R412). -/
def State.canBusOff (s : State) (n : Nat) : State :=
  let s := ((s.setFld (Reg.CAN_ERR_TEC n) 255).setFlag (Reg.CAN_ERR_BOFF n) true).setFld (Reg.CAN_STAT_EST n) 2
  let s := (s.bump (Reg.CAN_ECNT1_BUSOFFS n) (Reg.CAN_ECNT1_SAT n)).raise (canSrc n 4) 0 0
  let p := s.canPort n
  let ended := p.pend.filter (fun t => t.oneShot)
  let auto := match s.canPortRec n with | some r => r.boAuto | none => false
  let s := s.setCan n { p with pend := p.pend.filter (fun t => !t.oneShot), recovering := auto }
  let s := s.canEndAll n 5 ended
  match s.canQueuedTx n with
  | some t => s.canFail n t 5 0
  | none => s

/-- Store new error counters: error passive from 128 on, bus-off above 255 (R414). -/
def State.canSetErr (s : State) (n tec rec : Nat) : State :=
  let was := s.flag (Reg.CAN_ERR_EPASS n)
  let s := (s.setFld (Reg.CAN_ERR_TEC n) (min 255 tec)).setFld (Reg.CAN_ERR_REC n) (min 255 rec)
  let pass := decide (128 ≤ tec) || decide (128 ≤ rec)
  let s := s.setFlag (Reg.CAN_ERR_EPASS n) pass
  if 255 < tec then s.canBusOff n
  else
    let s := s.setFld (Reg.CAN_STAT_EST n) (b2n pass)
    if pass ∧ ¬ was then s.raise (canSrc n 3) (s.reg (Reg.CAN_ERR n)).toNat 0 else s

/-- A transmit error: TEC plus 8 unless ISO 11898-1 exempts it. -/
def State.canTxErr (s : State) (n : Nat) (exempt : Bool) : State :=
  if exempt then s else s.canSetErr n (s.fld (Reg.CAN_ERR_TEC n) + 8) (s.fld (Reg.CAN_ERR_REC n))

/-- A receive error: REC plus 1, or plus 8 where ISO 11898-1 counts it so. -/
def State.canRxErr (s : State) (n : Nat) (kind : CanErr) (heavy : Bool) : State :=
  (s.canCount n kind).canSetErr n (s.fld (Reg.CAN_ERR_TEC n)) (s.fld (Reg.CAN_ERR_REC n) + (if heavy then 8 else 1))

/-! ### Receiving (R405 to R408) -/

/-- Whether a filter matches a frame. -/
def CanFilter.hit (f : CanFilter) (n : Nat) (x : CanFrame) : Bool :=
  decide (f.port = n) && decide (f.ide = x.ide) && decide ((BitVec.ofNat 29 x.id &&& BitVec.ofNat 29 f.mask) =
    (BitVec.ofNat 29 f.id &&& BitVec.ofNat 29 f.mask))

/-- The port's filters in section order, and the index and filter of the first match. -/
def State.canMatch (s : State) (n : Nat) (x : CanFrame) : Option (Nat × CanFilter) :=
  let fs := match s.img with | some i => i.canFilters.filter (fun f => decide (f.port = n)) | none => []
  ((List.range fs.length).zip fs).find? (fun e => e.2.hit n x)

/-- Show the head of the high-priority buffer in its registers (R408, R420). -/
def State.canHpShow (s : State) (n : Nat) : State :=
  let p := s.canPort n
  let s := s.setFld (Reg.CAN_HP_STAT_LEVEL n) p.hp.length
  let put := fun (s : State) (h : CanHp) (len : Nat) =>
    let s := (s.setReg (Reg.CAN_HP_ID n) (BitVec.ofNat 32 (canIdWord h.frame))).setReg (Reg.CAN_HP_INFO n)
      (BitVec.ofNat 32 (len + 128 * b2n h.esi + 256 * h.filter))
    let s := (s.setReg (Reg.CAN_HP_TSNS n) (BitVec.ofNat 32 (nsOf h.sof))).setReg (Reg.CAN_HP_TSS n) (BitVec.ofNat 32 (secOf h.sof))
    (List.range 16).foldl (fun s w => s.setReg (Reg.CAN_HP_DATA n w) (BitVec.ofNat 32 (u32 h.frame.data (4 * w)))) s
  match p.hp with
  | h :: _ => put s h h.frame.data.length
  | [] => put s ⟨⟨false, 0, false, false, []⟩, false, 0, 0⟩ 0

/-- A frame for the high-priority buffer (R408): held in order of arrival, or discarded when 4 are held. -/
def State.canHiPri (s : State) (n : Nat) (h : CanHp) : State :=
  let p := s.canPort n
  if 4 ≤ p.hp.length then s.bump (Reg.CAN_HP_STAT_LOST n) (Reg.CAN_HP_STAT_SAT n)
  else
    let s := (s.setCan n { p with hp := p.hp ++ [h] }).canHpShow n
    s.raise (canSrc n 0) (canIdWord h.frame) (h.frame.data.length + 128 * b2n h.esi + 256 * h.filter)

/-- The next free buffer of a pool, in pool order (R407). -/
def freeBuffer (n next : Nat) (used : List Nat) : Option Nat :=
  ((List.range n).map (fun i => (next + i) % n)).find? (fun b => !(used.contains b))

/-- A frame record (R407). -/
def frameRecord (x : CanFrame) (flags result sof : Nat) : List Byte :=
  leBytes 4 (canIdWord x) ++ leBytes 1 flags ++ leBytes 1 x.data.length ++ leBytes 1 result ++ leBytes 1 0 ++ leBytes 4 (nsOf sof) ++
    leBytes 4 (secOf sof) ++ x.data

/-- Count a frame dropped under R407. -/
def State.canRxDrop (s : State) (n why : Nat) : State :=
  (s.bump (Reg.CAN_RXDROP_COUNT n) (Reg.CAN_RXDROP_SAT n)).raise (canSrc n 6) why 0

/-- A frame for the receive FIFO (R407): a buffer, a descriptor, a push to RXQ, or a drop. -/
def State.canFifo (s : State) (n : Nat) (r : CanPortRec) (x : CanFrame) (flags fidx sof : Nat) : State :=
  let p := s.canPort n
  match freeBuffer r.poolN p.poolNext p.poolUsed with
  | none => s.canRxDrop n 0
  | some b =>
    let a := r.pool + 80 * b
    let desc := leBytes 4 a ++ leBytes 2 (16 + x.data.length) ++ leBytes 2 0 ++ leBytes 4 (Config.descCtx (8 + n)).toNat ++
      leBytes 2 p.rxSeq ++ leBytes 2 0
    let s := s.wrBytes a (frameRecord x flags fidx sof)
    if s.pushOk r.rxq (8 + n) desc then
      let s := s.setCan n { p with poolNext := (b + 1) % r.poolN, poolUsed := b :: p.poolUsed, rxSeq := (p.rxSeq + 1) % 2 ^ 16 }
      s.push r.rxq (8 + n) hardwareMaster desc true
    else (s.push r.rxq (8 + n) hardwareMaster desc true).canRxDrop n 1

/-- A frame for an object (R405): too short is counted, else it becomes the newest frame of the object. -/
def State.canObject (s : State) (n o : Nat) (x : CanFrame) (sof : Nat) : State :=
  match s.canObj n o with
  | none => s
  | some c =>
    if x.data.length < c.len then s.bump (Reg.CAN_OBJ_SHORT n o) (Reg.CAN_OBJ_SAT n o)
    else
      let p := s.canPort n
      let old := (p.rx.filter (fun r => decide (r.obj = o))).take 1
      s.setCan n { p with rx := ⟨o, sof, s.now, x.data.take c.len⟩ :: (old ++ p.rx.filter (fun r => decide (r.obj ≠ o))) }

/-- REC after a valid receipt (ISO 11898-1): one less, or a value of 119 to 127 from error passive. -/
def State.canRxGood (s : State) (n : Nat) : State :=
  let r := s.fld (Reg.CAN_ERR_REC n)
  if r = 0 then s
  else if r < 128 then s.canSetErr n (s.fld (Reg.CAN_ERR_TEC n)) (r - 1)
  else s.draw.canSetErr n (s.fld (Reg.CAN_ERR_TEC n)) (119 + (Config.recAfter s.freeCtr).val)

/-- A reference message seen on the bus (R416, R417). -/
def State.canReference (s : State) (n : Nat) (r : CanPortRec) (x : CanFrame) : State :=
  if r.refId % 2 ^ 30 ≠ x.id % 2 ^ 29 + 2 ^ 29 * b2n x.ide then s
  else if r.mode = 2 then s.raise (canSrc n 7) 1 0
  else if r.mode = 3 then
    let p := s.canPort n
    let s := (s.setFlag (Reg.CAN_STAT_SYNC n) true).setFld (Reg.CAN_TT_CYCSEQ n) (u8 x.data 0 % 64)
    let s := s.setCan n { p with lastRef := s.mono, syncLost := false }
    if p.syncLost then s.raise (canSrc n 7) 3 0 else s
  else s

/-- What a valid received frame does inside the port (R405 to R408, R414, R416, R417); an FD frame on a classical port is answered with
an error frame (R397). -/
def State.canReceive (s : State) (n : Nat) (x : CanFrame) (esi remote : Bool) (sof : Nat) : State :=
  match s.canPortRec n with
  | none => s
  | some r =>
    if ¬ s.canOn n ∨ s.fld (Reg.CAN_STAT_EST n) = 2 then s
    else if x.fd ∧ ¬ r.fd then s.canRxErr n .form false
    else
      let s := (s.canRxGood n).canReference n r x
      match s.canMatch n x with
      | none => s
      | some (i, f) =>
        if remote ∧ f.target ≠ 1 then s
        else match f.target with
          | 0 => s.canObject n f.obj x sof
          | 1 => s.canFifo n r x (2 * b2n esi + 4 * b2n remote) i sof
          | 2 => s.canHiPri n ⟨x, esi, i, sof⟩
          | _ => s

/-- CAN_HP_POP (R408): any write removes the head frame. -/
def canHpPop (m : Master) (n : Nat) (s : State) : State :=
  if ¬ s.mayWriteRegs m then s.denyWrite m (Reg.CAN_HP_POP n)
  else
    let p := s.canPort n
    (s.setCan n { p with hp := p.hp.drop 1 }).canHpShow n

def execCanHpPop (m : Master) (n : Fin 4) (s : State) : Result := .next (canHpPop m n s)

/-! ### Transmitting (R409 to R413) -/

/-- The frames offered to the bus: the pending frames of a port in MODE 1 or 3, and the head frame of TXQ. -/
def State.canOffers (s : State) (n : Nat) : List CanTx :=
  (if s.fld (Reg.CAN_STAT_MODE n) = 2 then [] else (s.canPort n).pend) ++ (s.canQueuedTx n).toList

/-- Whether one offered frame goes before another (R409). -/
def canBefore (a b : CanTx) : Bool :=
  decide (canArbKey a.frame < canArbKey b.frame) || (decide (canArbKey a.frame = canArbKey b.frame) && decide (a.obj < b.obj))

/-- The first of a list of offers. -/
def firstOffer : List CanTx → Option CanTx
  | [] => none
  | t :: ts => match firstOffer ts with
    | none => some t
    | some u => if canBefore u t then some u else some t

/-- Whether a port may start a frame: running, not restricted, not bus-off, nothing of its own on the bus. -/
def State.canMaySend (s : State) (n : Nat) : Bool :=
  s.canOn n && !(s.flag (Reg.CAN_STAT_RESTRICT n)) && decide (s.fld (Reg.CAN_STAT_EST n) ≠ 2) && (s.canPort n).onBus.isNone

/-- Put a frame on the bus. -/
def State.canStart (s : State) (n : Nat) (t : CanTx) : State :=
  let p := s.canPort n
  s.setCan n { p with onBus := some t, onBusAt := s.now, pend := p.pend.filter (fun u => decide (u.obj ≠ t.obj)) }

/-- CAN_TX_START (R409): the bus is idle and the lowest-identifier frame is offered. -/
def canTxStart (n : Nat) (s : State) : State :=
  if s.canMaySend n then
    match firstOffer (s.canOffers n) with
    | some t => s.canStart n t
    | none => s
  else s

def execCanTxStart (n : Fin 4) (s : State) : Result := .next (canTxStart n s)

/-- The delay compensation of an FD frame with bit-rate switch (R403). -/
def State.canTdc (s : State) (n tdcv : Nat) : State :=
  if s.flag (Reg.CAN_TDC_EN n) then
    let ssp := tdcv + s.fld (Reg.CAN_TDC_TDCO n)
    let s := (s.setFld (Reg.CAN_TDC_TDCV n) tdcv).setFld (Reg.CAN_TDC_SSP n) (min 127 ssp)
    if 127 < ssp then s.setFlag (Reg.CAN_TDC_CAP n) true else s
  else s

/-- Put a frame that is retried back among the pending ones, unless a newer frame of its object waits (R411, R412). -/
def State.canRetry (s : State) (n : Nat) (t : CanTx) : State :=
  let p := s.canPort n
  if t.obj < 255 ∧ ¬ p.pend.any (fun u => decide (u.obj = t.obj)) then s.setCan n { p with pend := p.pend ++ [t] } else s

/-- A failed transmission: the end of a one-shot frame, or a retry (R411); in bus-off a one-shot or queued frame has ended BUSOFF. -/
def State.canTxFailed (s : State) (n : Nat) (t : CanTx) (cause sof : Nat) : State :=
  if t.oneShot then s.canFail n t cause sof else (s.canRetry n t).canShowPend n t.obj

/-- A duplicate identifier (R413). -/
def State.canDup (s : State) (n : Nat) (t : CanTx) : State :=
  let s := (s.canCount n .bit).bump (Reg.CAN_DUPID_COUNT n) (Reg.CAN_DUPID_SAT n)
  let s := s.setReg (Reg.CAN_DUPLAST n) (BitVec.ofNat 32 (t.frame.id % 2 ^ 29 + 2 ^ 29 * b2n t.frame.ide))
  s.raise (canSrc n 1) (s.reg (Reg.CAN_DUPLAST n)).toNat 0

/-- The end of the frame on the bus (R410 to R414). -/
def canTxEnd (n : Nat) (r : CanEnd) (s : State) : State :=
  let p := s.canPort n
  match p.onBus with
  | none => s
  | some t =>
    let sof := p.onBusAt
    let s := s.setCan n { p with onBus := none }
    match r with
    | .sent tdcv =>
      let s := if t.frame.fd ∧ t.frame.brs then (match tdcv with | some v => s.canTdc n v.toNat | none => s) else s
      let s := s.send (.can n t.frame.ide t.frame.id t.frame.fd t.frame.brs t.frame.data)
      let s := s.canSetErr n (s.fld (Reg.CAN_ERR_TEC n) - 1) (s.fld (Reg.CAN_ERR_REC n))
      let s := if t.obj = 255 then s.canQueueDone n 1 sof else s
      let s := if t.obj = 254 then s.setFld (Reg.CAN_TT_CYCSEQ n) (u8 t.frame.data 0) else s
      s.canShowPend n t.obj
    | .arbLost => s.canTxFailed n t 2 sof
    | .error kind exempt => ((s.canCount n kind).canTxFailed n t 3 sof).canTxErr n exempt
    | .dup => ((s.canDup n t).canTxFailed n t 4 sof).canTxErr n false

def execCanTxEnd (n : Fin 4) (r : CanEnd) (s : State) : Result := .next (canTxEnd n r s)

/-- CAN_RECEIVE_ERROR (R414). -/
def execCanReceiveError (n : Fin 4) (kind : CanErr) (heavy : Bool) (s : State) : Result :=
  .next (if s.canOn n ∧ s.fld (Reg.CAN_STAT_EST n) ≠ 2 then s.canRxErr n kind heavy else s)

/-- CAN_RECOVER (R414): no effect unless the port is bus-off. -/
def canRecover (m : Master) (n : Nat) (w : Word) (s : State) : State :=
  if ¬ s.mayWriteRegs m then s.denyWrite m (Reg.CAN_CTRL n)
  else if wordField w 8 8 = 0xC5 ∧ wordField w 0 1 = 1 ∧ s.fld (Reg.CAN_STAT_EST n) = 2 then
    s.setCan n { s.canPort n with recovering := true }
  else s

def execCanRecover (m : Master) (n : Fin 4) (w : Word) (s : State) : Result := .next (canRecover m n w s)

/-- CAN_BUS_ON (R414): recovery completes, both counters are 0. -/
def canBusOn (n : Nat) (s : State) : State :=
  if (s.canPort n).recovering ∧ s.canOn n then
    let s := s.setCan n { s.canPort n with recovering := false }
    let s := (s.setReg (Reg.CAN_ERR n) 0).setFld (Reg.CAN_STAT_EST n) 0
    s.raise (canSrc n 5) 0 0
  else s

def execCanBusOn (n : Fin 4) (s : State) : Result := .next (canBusOn n s)

/-- TTCAN_SYNC_LOSS (R417): 1 s without a reference. -/
def ttcanSyncLoss (n : Nat) (s : State) : State :=
  if s.fld (Reg.CAN_STAT_MODE n) = 3 ∧ s.flag (Reg.CAN_STAT_SYNC n) then
    let p := s.canPort n
    let s := s.toMono (p.lastRef + 1000000000)
    let s := (s.setFlag (Reg.CAN_STAT_SYNC n) false).setCan n { p with syncLost := true }
    s.raise (canSrc n 7) 2 0
  else s

def execTtcanSyncLoss (n : Fin 4) (s : State) : Result := .next (ttcanSyncLoss n s)

/-! ### Restricted operation and stopping (R412, R418, R419) -/

/-- A frame on the bus is destroyed and ends ABORTED (R412). -/
def State.canAbortBus (s : State) (n : Nat) : State :=
  let p := s.canPort n
  match p.onBus with
  | none => s
  | some t => (s.setCan n { p with onBus := none }).canFail n t 6 p.onBusAt

/-- Restricted operation on or off at every configured port (R418). -/
def State.canRestrict (s : State) (on : Bool) : List Nat → State
  | [] => s
  | n :: ns =>
    if s.fld (Reg.CAN_STAT_MODE n) = 0 then State.canRestrict s on ns
    else
      let s := if on then s.canAbortBus n else s
      let s := s.setCan n { s.canPort n with nextRef := none }
      State.canRestrict (s.setFlag (Reg.CAN_STAT_RESTRICT n) on) on ns

/-- Coasting stops every port, and pending frames end ABORTED (R419). -/
def State.canStop (s : State) : List Nat → State
  | [] => s
  | n :: ns =>
    let s := s.canAbortBus n
    let p := s.canPort n
    let s := s.setCan n { p with pend := [], stopped := true }
    let s := s.canEndAll n 6 p.pend
    let s := match s.canQueuedTx n with | some t => s.canFail n t 6 0 | none => s
    State.canStop s ns

end Sys2Proof.Machine
end

