-- ==== Sys2Proof/Machine/Mailboxes.lean ====
section
/-! DEFINITION. Mailboxes, locks and domain resets (05). -/

namespace Sys2Proof.Machine

/-- Set the attention bit of mailbox `m` for the pair that sends on it; a bit that goes from 0 to 1 raises EV_ATTN_Pp (R142, R152). -/
def State.mbxAttn (s : State) (m : Nat) : State :=
  let p := s.fld (Reg.MBX_CFG_SND m)
  let f : Field := ⟨Reg.MBX_ATTN p, m, 1⟩
  if p = 3 ∨ s.flag f then s else (s.setFlag f true).raise (64 + p) 0 0

/-- Copy the staged words of mailbox `m` to its message words. -/
def State.stageToRx (s : State) (m : Nat) : List Nat → State
  | [] => s
  | w :: ws => State.stageToRx (s.setReg (Reg.MBX_RX m w) (s.reg (Reg.MBX_TX m w))) m ws

/-- The message words of mailbox `m`. -/
def State.rxWords (s : State) (m : Nat) : List Word := (List.range 8).map (fun w => s.reg (Reg.MBX_RX m w))

/-- A message header: the length, the tag and the sender's generation (R139). -/
def mbxHeader (len tag gen : Nat) : Word := BitVec.ofNat 32 (len + 256 * tag + 65536 * gen)

/-- Whether mailbox `m`'s receiver is Pair F. -/
def State.mbxToField (s : State) (m : Nat) : Bool := decide (s.fld (Reg.MBX_CFG_RCV m) = 3)

/-- The staged words become the message (R139): FULL, header with the sender's generation, the post's instant; a host receiver gets
its event, and a message to Pair F goes out on the Rim (R140). -/
def State.mbxAccept (s : State) (m len tag : Nat) : State :=
  let gen := s.fld ⟨Reg.MBX_GEN, 8 * s.fld (Reg.MBX_CFG_SND m), 8⟩
  let s := s.stageToRx m (List.range 8)
  let s := s.setReg (Reg.MBX_RXHDR m) (mbxHeader len tag gen)
  let s := s.setFlag (Reg.MBX_STAT_FULL m) true
  let s := { s with mbx := { s.mbx with posted := (m, s.mono, false) :: s.mbx.posted.filter (fun e => decide (e.1 ≠ m)) } }
  if s.mbxToField m then s.rimSend (.ctrlPost m (s.reg (Reg.MBX_RXHDR m)) (s.rxWords m))
  else s.raise (72 + m) (s.reg (Reg.MBX_RXHDR m)).toNat 0

/-- Whether master `m` is the pair coded `e` of a mailbox end (code 3 is Pair F, which no fabric master is). -/
def isEnd (m : Master) (e : Nat) : Bool := m.isPair && decide (m.num = e)

/-- MBX_POST (R138, R139): post or collide. -/
def mbxPost (m : Master) (b : Nat) (w : Word) (s : State) : State :=
  let len := wordField w 0 6
  if ¬ isEnd m (s.fld (Reg.MBX_CFG_SND b)) ∨ ¬ s.flag (Reg.MBX_CFG_EN b) ∨ len > 32 then s.denyWrite m (Reg.MBX_POST b)
  else if s.flag (Reg.MBX_STAT_FULL b) then (s.setFlag (Reg.MBX_STAT_COLL b) true).mbxAttn b
  else s.mbxAccept b len (wordField w 8 8)

def execMbxPost (m : Master) (mbx : Fin 24) (w : Word) (s : State) : Result := .next (mbxPost m mbx w s)

/-- Stage a word list. -/
def State.stage (s : State) (m : Nat) : Nat → List Word → State
  | _, [] => s
  | w, x :: xs => State.stage (s.setReg (Reg.MBX_TX m w) x) m (w + 1) xs

/-- The host half's own posts (RUN_GRANT, GROUP_MODE: R304, R471, R475): the message's bytes, staged and posted. -/
def State.hostPost (s : State) (m tag : Nat) (bytes : List Byte) : State :=
  let words := (List.range 8).map (fun i => BitVec.ofNat 32 (u32 bytes (4 * i)))
  if s.flag (Reg.MBX_STAT_FULL m) then (s.setFlag (Reg.MBX_STAT_COLL m) true).mbxAttn m
  else (s.stage m 0 words).mbxAccept m bytes.length tag

/-- FULL clears (R139): the message is taken. -/
def State.mbxClear (s : State) (b : Nat) : State :=
  let s := s.setFlag (Reg.MBX_STAT_FULL b) false
  { s with mbx := { s.mbx with posted := s.mbx.posted.filter (fun e => decide (e.1 ≠ b)) } }

/-- MBX_TAKE (R138 to R140): the receiver takes the message; a take of Pair F's message goes back over the Rim. -/
def mbxTake (m : Master) (b : Nat) (s : State) : State :=
  if ¬ isEnd m (s.fld (Reg.MBX_CFG_RCV b)) ∨ ¬ s.flag (Reg.MBX_CFG_EN b) then s.denyWrite m (Reg.MBX_TAKE b)
  else if s.flag (Reg.MBX_STAT_FULL b) then
    let s := s.mbxClear b
    if s.fld (Reg.MBX_CFG_SND b) = 3 then s.rimSend (.ctrlTake b) else s
  else s

def execMbxTake (m : Master) (mbx : Fin 24) (s : State) : Result := .next (mbxTake m mbx s)

/-- MBX_TIMEOUT (R141): the present message has been posted longer than TMO · 10 µs; once for each message, sender's view only. -/
def mbxTimeout (b : Nat) (s : State) : State :=
  match s.mbx.posted.find? (fun e => e.1 = b) with
  | some (_, t, false) =>
    let tmo := s.fld (Reg.MBX_CFG_TMO b)
    if tmo = 0 ∨ s.fld (Reg.MBX_CFG_SND b) = 3 then s
    else
      let s := s.toMono (t + tmo * 10000 + 10)
      let s := { s with mbx := { s.mbx with posted := (b, t, true) :: s.mbx.posted.filter (fun e => decide (e.1 ≠ b)) } }
      (s.setFlag (Reg.MBX_STAT_TMO b) true).mbxAttn b
  | _ => s

def execMbxTimeout (mbx : Fin 24) (s : State) : Result := .next (mbxTimeout mbx s)

/-! ### Locks (R147 to R151) -/

/-- Owner of lock `n`: 0 free, else the master's number plus 1. -/
def State.lockOwner (s : State) (n : Nat) : Nat := s.fld (Reg.LCK_PEEK_OWNER n)

/-- Grant lock `n` to master `m`. -/
def State.lockGrant (s : State) (n m : Nat) : State :=
  { s.setFld (Reg.LCK_PEEK_OWNER n) (m + 1) with locks := ⟨n, s.mono, false⟩ :: s.locks.filter (fun h => decide (h.lock ≠ n)) }

/-- Free lock `n`. -/
def State.lockFree (s : State) (n : Nat) : State :=
  { s.setFld (Reg.LCK_PEEK_OWNER n) 0 with locks := s.locks.filter (fun h => decide (h.lock ≠ n)) }

/-- The master a tie goes to (R149): the token holder, else the first attempting one after it, cyclically. -/
def tieWinner (token : Nat) (ms : List Nat) : Option Nat :=
  ((List.range 5).map (fun i => (token + i) % 5)).find? (fun m => ms.contains m)

/-- What an attempt returns to a master: 0 for the owner, else the owner's number plus 1 (R147); the port's goes to LCK_HDPRES (R148). -/
def State.lockAnswer (s : State) (n : Nat) : List Nat → State
  | [] => s
  | m :: ms =>
    let o := s.lockOwner n
    let v := if o = m + 1 then 0 else o
    let s := if m = 3 then
        s.setReg Reg.LCK_HDPRES (BitVec.ofNat 32 (1 + (if v = 0 then 2 else 0) + 4 * v))
      else s.ret m v
    State.lockAnswer s n ms

/-- The attempts of one fabric cycle on lock `n` (R147, R149). -/
def lockAttempt (n : Nat) (ms : List Nat) (s : State) : State :=
  let s := if s.lockOwner n = 0 then
      match tieWinner (s.fld (Reg.LCK_PEEK_TOKEN n)) ms with
      | none => s
      | some w =>
        let s := s.lockGrant n w
        if ms.length > 1 then s.setFld (Reg.LCK_PEEK_TOKEN n) ((w + 1) % 5) else s
    else s
  s.lockAnswer n ms

def execLckAcquire (n : Fin 32) (ms : List Master) (s : State) : Result := .next (lockAttempt n (ms.map Master.num) s)

/-- A rejected release (R147). -/
def State.badRelease (s : State) (n m : Nat) : State :=
  (s.setFlag ⟨Reg.LCK_BADREL, n, 1⟩ true).raise 71 (n + 256 * m) 0

/-- LCK_RELEASE (R147): a write of 0 by the owner frees the lock; any other write is rejected. -/
def lockRelease (m : Master) (n : Nat) (w : Word) (s : State) : State :=
  if ¬ s.mayWriteRegs m then s.denyWrite m (Reg.LCK n)
  else if w = 0 ∧ s.lockOwner n = m.num + 1 then s.lockFree n
  else s.badRelease n m.num

def execLckRelease (m : Master) (n : Fin 32) (w : Word) (s : State) : Result := .next (lockRelease m n w s)

/-- LCK_HDPREQ (R148): one attempt for master 3; only Pair 0 may write. -/
def hdpReq (m : Master) (n : Nat) (s : State) : State := if m = .pair0 then lockAttempt n [3] s else s.denyWrite m Reg.LCK_HDPREQ

def execLckHdpreq (m : Master) (n : Fin 32) (s : State) : Result := .next (hdpReq m n s)

/-- LCK_HDPREL (R148): release of a lock that master 3 holds; another lock's is a rejected release of master 3 (R147). -/
def hdpRel (m : Master) (n : Nat) (s : State) : State :=
  if m ≠ .pair0 then s.denyWrite m Reg.LCK_HDPREL
  else if s.lockOwner n = 4 then s.lockFree n else s.badRelease n 3

def execLckHdprel (m : Master) (n : Fin 32) (s : State) : Result := .next (hdpRel m n s)

/-- LCK_HOLD_EXPIRY (R150): once for each holding. -/
def lockHoldExpiry (n : Nat) (s : State) : State :=
  match s.locks.find? (fun h => h.lock = n) with
  | some ⟨_, t, false⟩ =>
    let l := s.fld Reg.LCK_HOLD_LIMIT_LIMIT
    if l = 0 then s
    else
      let s := s.toMono (t + l * 1000 + 10)
      let s := { s with locks := ⟨n, t, true⟩ :: s.locks.filter (fun h => decide (h.lock ≠ n)) }
      s.raise 70 (n + 256 * (s.lockOwner n - 1)) 0
  | _ => s

def execLckHoldExpiry (n : Fin 32) (s : State) : Result := .next (lockHoldExpiry n s)

/-! ### Domain resets (R143 to R145, R150) -/

/-- Free the locks whose owner `who` selects; each raises EV_LCK_ORPHAN (R150). -/
def State.orphanLocks (s : State) (who : Nat → Bool) : List Nat → State
  | [] => s
  | n :: ns =>
    let o := s.lockOwner n
    let s := if o ≠ 0 ∧ who (o - 1) then (s.lockFree n).raise 69 (n + 256 * (o - 1)) 0 else s
    State.orphanLocks s who ns

/-- Clear the staging words of mailbox `m`. -/
def State.clearStage (s : State) (m : Nat) : State := s.stage m 0 (List.replicate 8 0)

/-- A domain reset's effect on the mailboxes (R144, R145): messages to the domain are discarded with RXRST in the sender's view,
and the domain's own staging words are cleared. -/
def State.mbxReset (s : State) (d : Nat) : List Nat → State
  | [] => s
  | m :: ms =>
    let s := if s.fld (Reg.MBX_CFG_RCV m) = d ∧ s.flag (Reg.MBX_STAT_FULL m) then
        let s := s.mbxClear m
        if s.fld (Reg.MBX_CFG_SND m) = 3 then s else (s.setFlag (Reg.MBX_STAT_RXRST m) true).mbxAttn m
      else s
    let s := if s.fld (Reg.MBX_CFG_SND m) = d ∧ d < 3 then s.clearStage m else s
    State.mbxReset s d ms

/-- A domain reset (R143): the generation counts, messages and locks go as R144, R145 and R150 say, and unreleased descriptors
return (R135). For Pair F the messages in transit on the Rim are discarded too. -/
def domainReset (d : Nat) (s : State) : State :=
  let g : Field := ⟨Reg.MBX_GEN, 8 * d, 8⟩
  let s := s.setFld g (s.fld g + 1)
  let s := if d = 3 then
      { s with toField := s.toField.filter (fun f => match f with | .ctrlPost _ _ _ => false | _ => true) }
    else s
  let s := s.mbxReset d (List.range 24)
  if d < 3 then
    (s.orphanLocks (fun o => decide (o = d) || (decide (d = 0) && decide (o = 3))) (List.range 32)).queReturn d (List.range 64)
  else s

/-- DOMAIN_RESET: a host pair's takes place only in HALT (R143). -/
def execDomainReset (d : Fin 4) (s : State) : Result := .next (if d.val < 3 ∧ ¬ s.inHalt then s else domainReset d s)

end Sys2Proof.Machine
end

