-- ==== Sys2Proof/Machine/Reactions.lean ====
section
/-! DEFINITION. The unit-level reactions (R201, R444, R467, R468, R518): change of role, give-up, station stop, HALT, and the record
copies in MRAM (R324, R521). -/

namespace Sys2Proof.Machine

/-! ### Records in two copies of 32 bytes (R324) -/

/-- Whether a copy's CRC over its first 24 bytes is good. -/
def copyGood (b : List Byte) : Bool := decide (crc32c (b.take 24) = u32 b 24)

/-- Which of the two copies at `a` is valid: the good one with the newer SEQ. -/
def State.copyPick (s : State) (a : Nat) (ok : List Byte → Bool) : Option Nat :=
  let c0 := s.bytes a 32
  let c1 := s.bytes (a + 32) 32
  match ok c0, ok c1 with
  | true, true => some (if newer 32 (u32 c1 0) (u32 c0 0) then 1 else 0)
  | true, false => some 0
  | false, true => some 1
  | false, false => none

/-- The valid copy. -/
def State.copyRead (s : State) (a : Nat) (ok : List Byte → Bool) : Option (List Byte) :=
  (s.copyPick a ok).map (fun k => s.bytes (a + 32 * k) 32)

/-- Overwrite the other copy with the next SEQ and 20 bytes of content. -/
def State.copyWrite (s : State) (a : Nat) (ok : List Byte → Bool) (body : List Byte) : State :=
  let k := s.copyPick a ok
  let seq := match s.copyRead a ok with | some b => (u32 b 0 + 1) % 2 ^ 32 | none => 1
  let b := leBytes 4 seq ++ body.take 20
  s.wrBytes (a + 32 * (match k with | some 0 => 1 | _ => 0)) (b ++ leBytes 4 (crc32c b) ++ leBytes 4 0)

/-- BUILD_ID of the running image; 0 on the Slath. -/
def imgBuild (i : Option Image) : Nat := match i with | some i => i.build | none => 0

/-- The run record (R521): FLAGS and CAUSE, with BUILD_ID, the bank sequence and the time. -/
def runRecordAt : Nat := 0x205EFF00
def State.runRecord (s : State) (flags cause : Nat) : State :=
  s.copyWrite runRecordAt copyGood
    (leBytes 4 (imgBuild s.img) ++ leBytes 1 flags ++ leBytes 1 cause ++ leBytes 2 0 ++ leBytes 4 s.cpm.bankSeq ++ leBytes 8 (secOf s.now))

/-! ### Roles (R450) -/

/-- The partner's role, as its last ROLE message gave it. -/
def State.partnerStandby (s : State) : Bool := decide (s.fld Reg.RDL_STAT_PROLE = 3)

/-- Whether the latched slot code is one of the redundancy carrier's (R43). -/
def State.onPairCarrier (s : State) : Bool := decide (s.fld Reg.CPM_STAT_SLOT = 2) || decide (s.fld Reg.CPM_STAT_SLOT = 3)

/-- Send a message to the partner while the link is up. -/
def State.tell (s : State) (m : Rolent) : State := if s.flag Reg.RDL_LINK_UP then s.send (.rolent m) else s

/-- Change the role: EV_RDL_ROLE, and a ROLE message (R450, R456, R480). -/
def State.setRole (s : State) (r : Nat) : State :=
  let old := s.fld Reg.RDL_STAT_ROLE
  if old = r then s
  else (({ s with rdl := { s.rdl with roleAt := s.now } }).setFld Reg.RDL_STAT_ROLE r |>.tell (.role r (s.flag Reg.PTP_STAT_TRACE))).raise 46 (old + 256 * r) 0

/-- The handover outputs (R40, R450). -/
def State.setLines (s : State) (give take : Bool) : State := (s.setFlag Reg.RDL_STAT_GIVE_O give).setFlag Reg.RDL_STAT_TAKE_O take

/-! ### Stopping tasks -/

/-- Abandon a task's release without commit (R201). -/
def Task.abandon (t : Task) : Task :=
  { t with latching := false, executing := false, nextRel := none, gPend := [], lPend := [], lines := [] }

/-- Discard a committed Trick that has not applied (R201). -/
def Task.discard (t : Task) : Task := { t with applyAt := none }

/-- Clear RUNNING and PREEMPTED of tasks, and PENDING too where their Tricks are discarded. -/
def State.clearTaskBits (s : State) (pend : Bool) : List Nat → State
  | [] => s
  | c :: cs =>
    let s := (s.setFlag (Reg.IMG_TASK_RUNNING c) false).setFlag (Reg.IMG_TASK_PREEMPTED c) false
    State.clearTaskBits (if pend then s.setFlag (Reg.IMG_TRICK_PENDING c) false else s) pend cs

/-- No further release; running tasks are abandoned. -/
def State.stopTasks (s : State) (discard : Bool) : State :=
  let s := (s.setFlag Reg.IMG_STAT_RELEASING false).clearTaskBits discard (List.range 9)
  { s with tasks := s.tasks.map (fun t => if discard then t.abandon.discard else t.abandon) }

/-- The host half sends the safe-state request (R304): the safety halves disarm (R367). -/
def State.safeRequest (s : State) : State :=
  let was := s.flag Reg.SAF_STAT_ARMED || s.flag Reg.SAF_STAT_FARMED
  let s := ((s.rimSend (.safe true)).setFlag Reg.SAF_STAT_ARMED false).setFlag Reg.SAF_STAT_FARMED false
  if was then s.raise 168 (s.reg Reg.SAF_STAT).toNat 0 else s

/-! ### A swap that does not come to pass (R182, R476) -/

/-- Change WVE_SWAP.PHASE: EV_SWAP_PHASE (R184). -/
def State.wvePhase (s : State) (p : Nat) : State :=
  if s.fld Reg.WVE_SWAP_PHASE = p then s
  else
    let s := s.setFld Reg.WVE_SWAP_PHASE p
    s.raise 18 (s.reg Reg.WVE_SWAP).toNat 0

/-- Whether a swap-load is under way whose t_s has not passed (R182): its image is being loaded into a standby, or its phase says so. -/
def State.swapLoading (s : State) : Bool :=
  (s.load.isSome && decide (s.fld Reg.RDL_STAT_ROLE ≠ 0)) ||
    (decide (1 ≤ s.fld Reg.WVE_SWAP_PHASE) && decide (s.fld Reg.WVE_SWAP_PHASE ≤ 3) && s.rdl.carryEnd.isNone)

/-- A swap-load is abandoned (R182). -/
def State.abandonSwap (s : State) : State :=
  if s.swapLoading then
    let s := { s with imgAlt := none, load := none }
    (((s.setFld Reg.WVE_SWAP_ABORT 0x24).setFlag Reg.WVE_SWAP_NEEDCONF false).setFld Reg.WVE_ROUTES_COUNT_ALT 0).wvePhase 5
  else s

/-- Change the phase of a planned swap (R475): EV_RDL_SWAP. -/
def State.swapPhase (s : State) (p : Nat) : State :=
  if s.fld Reg.RDL_SWAP_PHASE = p then s
  else
    let s := s.setFld Reg.RDL_SWAP_PHASE p
    s.raise 54 (s.reg Reg.RDL_SWAP).toNat 0

/-- A swap whose instant is still to come ends: with no effect before t_s − 1.05 ms, aborted from then on (R476). -/
def State.swapEnd (s : State) : State :=
  match s.rdl.swapAt with
  | none => { s with rdl := { s.rdl with swapAsked := false } }
  | some ts =>
    if ts ≤ s.now then s
    else
      let p := if s.now + 1050000 < ts then 0 else 4
      ({ s with rdl := { s.rdl with swapAt := none, swapFrom := false, swapAsked := false } }).abandonSwap.swapPhase p

/-! ### HALT, give-up, station stop -/

/-- Enter HALT (R92): nothing is released, the loop engine stops, the role is OFF, and the safe-state request goes out unless the unit
has given up control. -/
def State.enterHalt (s : State) : State :=
  let s := (s.stopTasks false).setFld Reg.CPM_STAT_PSTATE 2
  let s := (s.setFlag Reg.LPE_STAT_RUN false).setLines true false
  let s := { s with cpm := { s.cpm with phase := .halt, haltOnStop := false } }
  let s := s.setRole 0
  let s := s.canRestrict true (List.range 4)
  if s.cpm.gaveUp then s else s.safeRequest

/-- Leave RUN for a station stop (R201): no release, tasks abandoned, unapplied Tricks discarded, the safe-state request, a STOP record,
and HALT when that record is written. `rec` is the CAUSE of the run record (R521; 0 for its general
code), `src` the causing event. -/
def State.stationStop (s : State) (rec src : Nat) : State :=
  let s := (s.swapEnd.abandonSwap.stopTasks true).setFlag Reg.IMG_STAT_STOPPED true
  let s := (s.safeRequest.setLines true false).setFlag Reg.LPE_STAT_RUN false
  let s := (s.setFld Reg.RDL_STAT_OFFCAUSE 5).setRole 0
  let s := { s with cpm := { s.cpm with haltOnStop := true, overrunStop := decide (rec = 1) } }
  ((s.canRestrict true (List.range 4)).runRecord 3 (if rec = 0 then 2 else rec)).stopRecord src

/-- Give up control (R468): the lines, the notice, the HO frame with the give-up flag, and HALT when the STOP record is written. `row` is
the cause's row of R467's table, `rec` the CAUSE of the run record, `notice` whether GIVE_UP is sent. -/
def State.giveUp (s : State) (row rec src : Nat) (notice : Bool) : State :=
  let s := s.swapEnd.abandonSwap.setLines true false
  let tricks := (List.range 9).map (fun c => s.fld (Reg.IMG_TRICK_COMMITTED c))
  let s := if notice then s.tell (.giveUp (Config.giveUpCode row).toNat tricks) else s
  let s := (s.rimSend (.ho (s.flag Reg.RDL_STAT_TAKE_I) true)).stopTasks false
  let s := (s.setFlag Reg.LPE_STAT_RUN false).canRestrict true (List.range 4)
  let s := (s.setFld Reg.RDL_STAT_OFFCAUSE 2).setRole 0
  let s := { s with cpm := { s.cpm with haltOnStop := true, gaveUp := true, overrunStop := decide (rec = 1) } }
  ((s.runRecord 3 (if rec = 0 then 3 else rec)).stopRecord src).raise 47 (Config.giveUpCode row).toNat 0

/-- A cause of R467 in a unit in control: give up where the partner is STANDBY, else a station stop. -/
def State.loseControl (s : State) (row rec src : Nat) (notice : Bool) : State :=
  if s.fld Reg.RDL_STAT_ROLE = 2 ∧ s.partnerStandby then s.giveUp row rec src notice else s.stationStop rec src

/-- A unit not in control leaves the pair for a fault of its own (R444, R451, R518): role OFF, a STOP record, then HALT. -/
def State.leavePair (s : State) (rec src : Nat) : State :=
  let s := (s.swapEnd.abandonSwap.stopTasks true).setLines true false
  let s := (s.setFld Reg.RDL_STAT_OFFCAUSE 5).setRole 0
  let s := { s with cpm := { s.cpm with haltOnStop := true } }
  (s.runRecord 3 (if rec = 0 then 2 else rec)).stopRecord src

/-- The reaction to a fault of the unit by role (R518): once, and only while the station runs. -/
def State.unitFault (s : State) (row rec src : Nat) (notice : Bool) : State :=
  if s.cpm.phase ≠ .run ∧ s.cpm.phase ≠ .doze then s
  else if s.cpm.haltOnStop then s.stopRecord src
  else if s.inControl then s.loseControl row rec src notice
  else s.leavePair rec src

/-! ### The recorder's writer (R484, R490) -/

/-- The bytes of a record but for its sequence numbers and CRC (R481). -/
def RecEntry.body (e : RecEntry) (fo : Bool) (us : Nat) : List Byte :=
  leBytes 4 e.opsec ++ leBytes 4 e.pwrcyc ++ leBytes 4 (nsOf e.time) ++ leBytes 6 (secOf e.time) ++
    leBytes 1 (e.flags + 4 * b2n fo) ++ leBytes 1 e.cls ++ leBytes 1 e.src ++ leBytes 1 e.snap.length ++ leBytes 1 e.role ++ leBytes 1 us ++
    leBytes 4 e.lo.toNat ++ leBytes 4 e.hi.toNat ++ e.snap.flatMap (fun p => leBytes 4 p.1 ++ leBytes 4 p.2.toNat) ++
    List.replicate (8 * (26 - e.snap.length)) 0

/-- A whole record of 256 bytes. -/
def RecEntry.record (e : RecEntry) (seq : Nat) (fo : Bool) (us : Nat) : List Byte :=
  let b := leBytes 4 seq ++ e.body fo us
  b ++ leBytes 4 (crc32c b) ++ leBytes 4 seq ++ leBytes 4 0

/-- Address of record `i`. -/
def recAddr (i : Nat) : Nat := 0x20600000 + 256 * i

/-- Where the next record of class `cls` goes (R490), with the area's state moved on. -/
def State.recPlace (s : State) (cls : Nat) : Nat × State :=
  if cls = 2 ∧ ¬ s.flag Reg.EVR_STAT_FO_STOP then (511, s.setFlag Reg.EVR_STAT_FO_STOP true)
  else
    let n := s.fld Reg.EVR_STAT_FO_FILL
    if n < 511 then (n, s.setFld Reg.EVR_STAT_FO_FILL (n + 1))
    else
      let i := s.fld Reg.EVR_RINGIDX_NEXT
      (i, s.setFld Reg.EVR_RINGIDX_NEXT (if i = 8191 then 512 else i + 1))

/-- After a write: the area freezes once records 0 to 511 are used (R490). -/
def State.recFreeze (s : State) : State :=
  if s.flag Reg.EVR_STAT_FO_STOP ∧ s.fld Reg.EVR_STAT_FO_FILL = 511 ∧ ¬ s.flag Reg.EVR_STAT_FO_FULL then
    (s.setFlag Reg.EVR_STAT_FO_FULL true).raise 235 0 0
  else s

/-- A LOSS record at the first free entry after drops (R488). -/
def State.recLoss (s : State) : State :=
  match s.evr.lost with
  | some (n, f, l) =>
    if s.recFree then ({ s with evr := { s.evr with lost := none } }).recClaim 4 0 n (f + 256 * l) s.now 0 none else s
  | none => s

/-- Put a record's bytes into MRAM at its place (R484, R490). -/
def State.recPut (s : State) (e : RecEntry) : State :=
  let seq := s.fld Reg.EVR_SEQ_NEXT
  let q := (s.setFld Reg.EVR_SEQ_NEXT (seq + 1)).recPlace e.cls
  (q.2.wrBytes (recAddr q.1) (e.record seq (decide (q.1 < 512)) 0)).recFreeze

/-- The written entry is free again; a LOSS record may take it (R488). -/
def State.recDone (s : State) (rest : List RecEntry) : State :=
  ({ s with evr := { s.evr with buf := rest } }).showBuf.recLoss

/-- HALT follows the STOP record of a reaction (R201, R444, R468). -/
def State.recHalt (s : State) (cls : Nat) : State :=
  if cls = 2 ∧ s.cpm.haltOnStop then ({ s with cpm := { s.cpm with restartFrom := some s.mono } }).enterHalt else s

/-- Write the first claimed entry into MRAM (R484). -/
def State.recWriteOne (s : State) : State :=
  match s.evr.buf with
  | [] => s
  | e :: rest => ((s.recPut e).recDone rest).recHalt e.cls

/-- Write every claimed entry (R489). -/
def State.recDrain (s : State) : Nat → State
  | 0 => s
  | n + 1 => if s.evr.buf = [] then s else State.recDrain s.recWriteOne n

end Sys2Proof.Machine
end

