-- ==== Sys2Proof/Machine/Field.lean ====
section
/-! DEFINITION. The field side's shared operations (11 to 13): channels, their kinds and parameters, what each output drives, the latching of
safety faults, and the element values and qualities of a channel. -/

namespace Sys2Proof.Machine

/-! ### Access -/

def State.chan (s : State) (c : Nat) : Chan := s.field.chans.getD c Chan.reset
def State.setChan (s : State) (c : Nat) (x : Chan) : State := { s with field := { s.field with chans := s.field.chans.set c x } }
def State.modChan (s : State) (c : Nat) (f : Chan → Chan) : State := s.setChan c (f (s.chan c))

def State.grp (s : State) (g : Nat) : Group := s.field.grps.getD g Group.reset
def State.setGrp (s : State) (g : Nat) (x : Group) : State := { s with field := { s.field with grps := s.field.grps.set g x } }
def State.modGrp (s : State) (g : Nat) (f : Group → Group) : State := s.setGrp g (f (s.grp g))

/-- Group of channel `c`: 0 for A, 1 for B (R52). -/
def grpOf (c : Nat) : Nat := c / 32

/-- A field-side occurrence, with its field timestamp; it travels in the next IN frame (R123). -/
def State.fev (s : State) (src lo hi : Nat) : State := { s with field := { s.field with events := s.field.events ++ [⟨src, lo, hi, s.now⟩] } }

/-- Fields of a CHANNELS record (R280), and of its PARAM. -/
def Chan.kind (x : Chan) : Nat := u8 x.cfg 1
def Chan.safeCode (x : Chan) : Nat := u8 x.cfg 2
def Chan.lpDep (x : Chan) : Bool := bit (u8 x.cfg 3) 0
def Chan.p8 (x : Chan) (o : Nat) : Nat := u8 x.cfg (4 + o)
def Chan.p16 (x : Chan) (o : Nat) : Nat := u16 x.cfg (4 + o)
def Chan.p32 (x : Chan) (o : Nat) : Nat := u32 x.cfg (4 + o)

/-- HFLAGS, PREAMB, RETRY, SCAN_S, POLL and LADDR of an AI or AO (R312). -/
def Chan.hflags (x : Chan) : Nat := if x.kind = 4 then x.p8 2 else x.p8 1
def Chan.hartEn (x : Chan) : Bool := (decide (x.kind = 4) || decide (x.kind = 5)) && bit x.hflags 1
def Chan.hartRetry (x : Chan) : Nat := if x.kind = 4 then x.p8 15 else x.p8 3
def Chan.scanS (x : Chan) : Nat := if x.kind = 4 then x.p16 12 else x.p16 8
def Chan.poll (x : Chan) : Nat := if x.kind = 4 then x.p8 14 else x.p8 10
def Chan.laddr (x : Chan) : List Byte := slice x.cfg (4 + (if x.kind = 4 then 16 else 12)) 5

/-- L+ of the channel's group is MISSING; it is LOW or HIGH (R57). -/
def State.lpMissing (s : State) (c : Nat) : Bool := decide ((s.grp (grpOf c)).lpst = 2)
def State.lpOff (s : State) (c : Nat) : Bool := decide ((s.grp (grpOf c)).lpst = 1) || decide ((s.grp (grpOf c)).lpst = 3)

/-- The channel's group is in partner mode: by request, or forced by HO_TAKE_I (R309). -/
def State.partnerMode (s : State) (g : Nat) : Bool := (s.grp g).partner || s.field.take
def State.chPartner (s : State) (c : Nat) : Bool := s.partnerMode (grpOf c)

/-- Output kinds: DO, AO and SO. -/
def isOutput (k : Nat) : Bool := decide (k = 3) || decide (k = 5) || decide (k = 8)

/-! ### What an output drives (R290 to R292, R302, R319, R322, R325) -/

/-- The value a DO is asked for: its safe state while held there, else CMD. -/
def Chan.doWant (x : Chan) : Bool :=
  if x.safe then (if x.safeCode = 1 then isTrue x.cmd else decide (x.safeCode = 2)) else isTrue x.cmd

/-- CMD of an AO clamped to 0.0 to 24.0 mA, or the failure level while CMD's quality is BAD. -/
def Chan.aoCmd (x : Chan) : Nat :=
  if qState x.cmdQ = 3 ∧ x.p8 0 = 1 then 0x40600000
  else if qState x.cmdQ = 3 ∧ x.p8 0 = 2 then 0x41B00000
  else if lt32 x.cmd 0 then 0 else min32 x.cmd 0x41C00000

/-- The desired current of an AO, REAL32 mA. -/
def Chan.aoWant (x : Chan) : Nat :=
  if x.safe then
    match x.safeCode with
    | 1 => x.aoCmd
    | 3 => x.p32 4
    | _ => 0
  else x.aoCmd

/-- Whether an AO drives a failure level. -/
def Chan.failDrv (x : Chan) : Bool := decide (qState x.cmdQ = 3) && decide (x.p8 0 ≠ 0) && (!x.safe || decide (x.safeCode = 1))

/-- The factory-calibrated current of an AO for a desired current (R325), clamped to 0 to 24 mA, in REAL64. -/
def trimmed64 (m4 m20 d : Nat) : Nat :=
  let x := add64 (widen32 0x40800000)
    (div64 (mul64 (sub64 (widen32 d) (widen32 m4)) (widen32 0x41800000)) (sub64 (widen32 m20) (widen32 m4)))
  if lt64 x 0 then 0 else min64 x (widen32 0x41C00000)

/-- The stage or switch of a channel may be on at all. -/
def State.stageFree (s : State) (c : Nat) : Bool :=
  s.field.up && !(s.chan c).prot && !(s.lpMissing c) && !(s.chPartner c)

/-- The safety function that a channel serves as CH_A or CH_B. -/
def FieldFn.chA (f : FieldFn) : Nat := u8 f.param 0
def FieldFn.chB (f : FieldFn) : Nat := u8 f.param 1
def FieldFn.has (f : FieldFn) (c : Nat) : Bool := decide (f.chA = c) || decide (f.chB = c)
def FieldFn.fbCh (f : FieldFn) : Nat := u8 f.param 2
def State.fieldFn (s : State) (n : Nat) : Option FieldFn := s.field.fns.find? (fun f => f.num = n)
def State.fnOf (s : State) (ty c : Nat) : Option FieldFn := s.field.fns.find? (fun f => decide (f.ty = ty) && f.has c)
def State.setFn (s : State) (x : FieldFn) : State :=
  { s with field := { s.field with fns := s.field.fns.map (fun f => if f.num = x.num then x else f) } }
def State.modFn (s : State) (n : Nat) (f : FieldFn → FieldFn) : State :=
  match s.fieldFn n with | some x => s.setFn (f x) | none => s

/-- Whether a channel's switch or stage is on now. -/
def State.wantOn (s : State) (c : Nat) : Bool :=
  let x := s.chan c
  match x.kind with
  | 3 => s.stageFree c && x.doWant && !x.short && !x.latched
  | 5 => s.stageFree c && (decide (x.drive ≠ 0) || !x.safe || decide (x.safeCode ≠ 0))
  | 7 => s.stageFree c && !x.pulse && !x.short
  | 8 =>
    match s.fnOf 3 c with
    | some f => s.stageFree c && !x.short && f.value && !(if f.chA = c then f.pulseA else f.pulseB)
    | none => false
  | _ => false

/-- Bring a channel's switch to what it should be, noting the instant of a change. -/
def State.settleChan (s : State) (c : Nat) : State :=
  let x := s.chan c
  let w := s.wantOn c
  if w = x.on then s
  else s.setChan c { x with on := w, onAt := if w then s.now else x.onAt, offAt := if w then x.offAt else s.now }

/-- A fault latches a safety function (R352): the first one is kept; a SOUT that latches is switched off (R357). -/
def State.fnLatch (s : State) (n code detail : Nat) : State :=
  match s.fieldFn n with
  | some f =>
    if f.latch then s
    else
      let s := s.setFn { f with latch := true, code := code, detail := detail, value := false, joint := false, turnAt := if f.value then s.now else f.turnAt }
      let s := s.fev 160 n (code + 256 * detail)
      if f.ty = 3 then s.fev 162 n 0 else s
  | none => s

/-- The filtered state of an input channel. -/
def Chan.filtered (x : Chan) : Bool := x.di.filt.getD false

/-- Whether a SOUT may be energised (R355): demand, armed, no latch, no reset waited for, and both channels free to drive. -/
def State.soutWant (s : State) (f : FieldFn) : Bool :=
  f.demand && s.field.armed && !f.latch && !f.wait && !s.field.hold && !s.field.wdog &&
    !(s.chan f.chA).safe && s.stageFree f.chA && s.stageFree f.chB

/-- Energise or switch off a SOUT pair; before energising the feedback contact must read TRUE (R358). -/
def State.settleFn (s : State) (f : FieldFn) : State :=
  let w := s.soutWant f
  if w = f.value then s
  else if w ∧ f.fbCh ≠ 0xFF ∧ ¬ (s.chan f.fbCh).filtered then s.fnLatch f.num 9 f.fbCh
  else s.setFn { f with value := w, turnAt := s.now, pulseA := false, pulseB := false }

/-- Bring every output to what it should be now. -/
def State.settle (s : State) : State :=
  let s := (s.field.fns.filter (fun f => f.ty = 3)).foldl (fun s f => s.settleFn f) s
  (List.range 64).foldl (fun s c => s.settleChan c) s

/-! ### Qualities and elements (R281, R282, R313, R314) -/

/-- The leading reason and the worst STATE of a list of (reason, STATE) in precedence order. -/
def qLead (l : List (Nat × Nat)) : Nat :=
  match l with
  | [] => qGood
  | (r, _) :: _ => (l.map (·.2)).foldl max 0 + 4 * r

/-- The reasons of a channel that apply, in precedence order, for its main elements. -/
def State.chReasons (s : State) (c : Nat) : List (Nat × Nat) :=
  let x := s.chan c
  let an := decide (x.kind = 4)
  let r := fun (b : Bool) (code st : Nat) => if b then [(code, st)] else []
  r x.prot 0x08 3 ++ r (x.lpDep && s.lpMissing c) 0x0A 3 ++ r x.short 0x0C 3 ++ r x.txsOff.isSome 0x15 3 ++
    r (decide (x.kind = 5) && x.aoOpen) 0x14 3 ++ r (an && decide (x.zone = some 3)) 0x10 3 ++ r (an && decide (x.zone = some 4)) 0x11 3 ++
    r (an && (decide (x.zone = some 1) || decide (x.zone = some 2))) 0x12 1 ++ r (decide (x.kind = 5) && x.compl) 0x13 1 ++
    r (decide (x.kind = 5) && x.failDrv) 0x16 1 ++ r (decide (x.kind = 5) && s.chPartner c) 0x17 1 ++ r x.openSet 0x0B 1 ++
    r x.foreign 0x0D 1 ++ r (x.lpDep && s.lpOff c) 0x09 1 ++ r (isOutput x.kind && x.safe) 0x0E 1

/-- Quality of a channel's main elements. -/
def State.chQ (s : State) (c : Nat) : Nat := qLead (s.chReasons c)

/-- CHN_CH.DIAG: the leading reason; a TS fault shows its own code (R348), and LOW and HIGH show CH_LP on safety kinds (R359). -/
def State.chDiag (s : State) (c : Nat) : Nat :=
  let x := s.chan c
  if x.kind = 7 ∧ x.tsFault then 4
  else match s.chReasons c with
    | (r, _) :: _ => r
    | [] => if 6 ≤ x.kind ∧ s.lpOff c then 0x09 else 0

/-- Lower a quality that no reason worsens to UNCERTAIN, NO_VALUE, before a first value (R287, R289). -/
def firstUse (have_ : Bool) (q : Nat) : Nat := if have_ then q else qLower 3 true q

/-- I_MEAS or ACH in REAL32 mA from a current in 0.1 µA. -/
def ma32 (a : Nat) : Nat := ratio32 a 10000
/-- A DO's CURRENT in REAL32 A. -/
def amp32 (a : Nat) : Nat := ratio32 a 10000000

end Sys2Proof.Machine
end

