-- ==== Sys2Proof/Machine/Rounds.lean ====
section
/-! DEFINITION. The channel round (R283): what each slot measures, judges and enters into the input frame, by kind (11 to 13). -/

namespace Sys2Proof.Machine

/-! ### Input filters (R287, R349) -/

/-- One raw sample at instant `t` with filter time `f` ns. -/
def DiFilt.sample (d : DiFilt) (level : Bool) (t f : Nat) : DiFilt :=
  match d.filt with
  | none => { d with filt := some level, prev := level, chgAt := t, run := level, first := t, last := t }
  | some cur =>
    let first := if level = d.run then d.first else t
    if level ≠ cur ∧ first + f ≤ t then
      { filt := some level, prev := cur, chgAt := t, edge := some (first / 1000), prevEdge := d.edge, run := level, first := first, last := t }
    else { d with run := level, first := first, last := t }

/-- The filtered state and LAST_EDGE after the last window that ended at or before `t`. -/
def DiFilt.stateAt (d : DiFilt) (t : Nat) : Bool := if d.chgAt ≤ t then d.filt.getD false else d.prev
def DiFilt.edgeAt (d : DiFilt) (t : Nat) : Option Nat := if d.chgAt ≤ t then d.edge else d.prevEdge

/-! ### Frequency (R289) -/

/-- n intervals over a time of dt ns as a frequency in Hz, with the falling-speed rule: `since` is t_e − t_last. -/
def freqOf (n dt since : Nat) : Nat :=
  if dt = 0 then 0 else if n * since > dt then ratio32 1000000000 since else ratio32 (1000000000 * (n : Int)) dt

/-- FREQ at t_e from the selected edges, newest first. -/
def fiFreq (edges : List Nat) (te gate zms : Nat) : Nat :=
  let es := edges.filter (fun t => decide (t ≤ te))
  let g := es.filter (fun t => decide (te ≤ t + gate))
  match es with
  | a :: b :: _ =>
    if 2 ≤ g.length then freqOf (g.length - 1) (a - g.getLastD a) (te - a)
    else if te ≤ a + zms then freqOf 1 (a - b) (te - a)
    else 0
  | _ => 0

/-- Edges that a later gate can still use: those in the longest window, and the last two. -/
def fiKeep (edges : List Nat) (te gate : Nat) : List Nat :=
  edges.take (max 2 (edges.filter (fun t => decide (te ≤ t + gate))).length)

/-! ### Analogue inputs (R317, R318) -/

/-- The NE 43 zone that holds a current in 0.1 µA: 0 NORMAL, 1 and 2 the margins, 3 UNDER, 4 OVER. -/
def zoneOf (a : Nat) : Nat :=
  if a < 36000 then 3 else if a ≤ 38000 then 1 else if a < 205000 then 0 else if a ≤ 210000 then 2 else 4

/-- The bounds of a zone. -/
def zoneLo : Nat → Nat | 1 => 36000 | 0 => 38000 | 2 => 205000 | 4 => 210000 | _ => 0
def zoneHi : Nat → Nat | 3 => 36000 | 1 => 38000 | 0 => 205000 | 2 => 210000 | _ => 1000000000

/-- The zone after a value: left only at 0.05 mA beyond a boundary. -/
def zoneNext (z : Option Nat) (a : Nat) : Nat :=
  match z with
  | none => zoneOf a
  | some z => if zoneHi z + 500 ≤ a ∨ a + 500 ≤ zoneLo z then zoneOf a else z

/-- An AI's judgement of a value (R315, R317, R318). -/
def State.aiRound (s : State) (c : Nat) (m : Meas) : State :=
  let x := s.chan c
  let z := if bit x.hflags 0 then some (zoneNext x.zone m.amp) else none
  let lim := x.p32 4
  let roc := decide (8 ≤ x.nval) && lt32 0 lim && lt32 lim (int32 ((m.amp : Int) - x.amp).natAbs)
  let s := s.setChan c { x with zone := z, nval := min 8 (x.nval + 1), roc := roc, limRun := if m.lim then x.limRun + 1 else 0 }
  let s := if roc ∧ ¬ x.roc then s.fev 148 c 0 else s
  match z with
  | some k => if 3 ≤ k ∧ x.zone ≠ some k then s.fev 144 (c + 256 * k) 0 else s
  | none => s

/-! ### Analogue outputs (R320, R321) -/

/-- The commanded loop current in 0.1 µA, REAL64: halved in the overlap of a planned swap; 4.000 or 20.000 mA in a trim session. -/
def Chan.aoTenths (x : Chan) : Nat :=
  let d := if x.drive = 1 then 0x40800000 else if x.drive = 2 then 0x41A00000 else x.aoWant
  let d := mul64 (widen32 d) (int64 10000)
  if x.half then div64 d (int64 2) else d

/-- Whether the command exceeds the achieved current by more than `u` 0.1 µA. -/
def Chan.aoShort (x : Chan) (amp u : Nat) : Bool := lt64 (int64 ((amp : Int) + u)) x.aoTenths

/-- An AO's judgement; suspended while L+ is MISSING and in partner mode (R326, R336). -/
def State.aoRound (s : State) (c : Nat) (m : Meas) : State :=
  let x := s.chan c
  if s.lpMissing c ∨ s.chPartner c then
    s.setChan c { x with compl := false, complRun := 0, complTold := false, aoRun := 0, aoOpen := false }
  else
    let compl := if x.compl then x.aoShort m.amp 300 else m.lim && x.aoShort m.amp 500
    let far := x.aoShort m.amp 5000
    let openNow := m.lim && decide (m.amp < 1000) && le64 (int64 10000) x.aoTenths
    s.setChan c { x with
      compl := compl
      complRun := if far then x.complRun + 1 else 0
      complTold := x.complTold && compl
      aoRun := if openNow then x.aoRun + 1 else 0
      aoOpen := x.aoOpen && decide (m.amp < 1000) }

/-! ### Digital outputs (R291, R292) -/

def readback (vt : Int) : Bool := decide (1200 < vt)

/-- A DO's runs of R291 and R292. -/
def State.doRound (s : State) (c : Nat) (m : Meas) : State :=
  let x := s.chan c
  let judged := !x.doWant && decide (x.offAt + 10000000 ≤ s.now)
  let rb := readback m.vt
  let held := match x.tryAt with | some t => !m.lim && decide (t + 1000000000 ≤ s.now) | none => false
  s.setChan c { x with
    openRun := if x.doWant ∧ x.p8 0 = 1 ∧ m.amp < 20000 then x.openRun + 1 else 0
    openSet := x.openSet && decide (m.amp < 20000)
    forRun := if judged then (if rb = x.forLevel then x.forRun + 1 else 1) else x.forRun
    forLevel := if judged then rb else x.forLevel
    retry := if held then 0 else x.retry
    tryAt := if held then none else if m.lim then x.tryAt.map (fun _ => s.now) else x.tryAt }

/-! ### Safety kinds (R349, R350, R357) -/

/-- Channel records of a SAFETY section held by the field side. -/
def safeChanRecs (b : List Byte) : List (List Byte) := recordsAt b 16 4 (u8 b 1)
def tsrcOf (b : List Byte) (c : Nat) : Nat :=
  match (safeChanRecs b).find? (fun r => decide (u8 r 0 = c) && decide (u8 r 1 = 6)) with
  | some r => u8 r 2
  | none => 0xFF

/-- Source number 8 · g + k of a TS channel. -/
def tsSource (b : List Byte) (c : Nat) : Nat :=
  match (safeChanRecs b).find? (fun r => decide (u8 r 0 = c) && decide (u8 r 1 = 7)) with
  | some r => 8 * grpOf c + u8 r 2
  | none => 16

/-- TP_PERIOD in ns (R342). -/
def tpNs (b : List Byte) : Nat := 1000000 * (if u16 b 4 = 0 then 1000 else u16 b 4)

/-- Filter time of an SI in ns: FILT_US of its SIN, or 1 ms for a feedback contact (R358). -/
def State.siFilter (s : State) (c : Nat) : Nat :=
  match s.fnOf 1 c with
  | some f => 1000 * u32 f.param 8
  | none => 1000000

/-- An SI's sample in its slot, with the samples the next judgement needs. -/
def State.siRound (s : State) (c t : Nat) (m : Meas) : State :=
  let x := s.chan c
  let d := x.di.sample m.raw t (s.siFilter c)
  let o := t % tpNs s.field.safety
  let old := match x.samples with
    | (t0, _) :: _ => if t / tpNs s.field.safety = t0 / tpNs s.field.safety then x.samples else []
    | [] => []
  s.setChan c { x with di := d, samples := if o < 31000000 then (t, m.raw, d.filt.getD false) :: old else x.samples }

/-- Readback of an SO (R357): runs below 12 V while on, above 5 V while off. -/
def State.soRound (s : State) (c : Nat) (m : Meas) : State :=
  let x := s.chan c
  match s.fnOf 3 c with
  | none => s
  | some f =>
    if s.chPartner c then s
    else
      let isA := decide (f.chA = c)
      let pulsing := if isA then f.pulseA else f.pulseB
      let low := if f.value ∧ ¬ pulsing ∧ m.vt < 1200 then (if isA then f.lowA else f.lowB) + 1 else 0
      let high := if ¬ f.value ∧ 500 < m.vt ∧ x.offAt + 10000000 ≤ s.now then (if isA then f.highA else f.highB) + 1 else 0
      let s := s.setFn (if isA then { f with lowA := low, highA := high } else { f with lowB := low, highB := high })
      if 2 ≤ low then s.fnLatch f.num 7 c else if 10 ≤ high then s.fnLatch f.num 8 c else s

/-! ### The terminal voltage check (R295, R296, R327) -/

/-- Whether a voltage lies in the working range of a channel; none where it is not checked. -/
def State.inRange (s : State) (c : Nat) (vt : Int) : Option Bool :=
  let x := s.chan c
  let lp : Int := 5 * (s.grp (grpOf c)).vlp
  let between := fun (lo hi : Int) => some (decide (lo ≤ vt) && decide (vt ≤ hi))
  match x.kind with
  | 1 => between (-300) 3250
  | 2 => between (-300) 3250
  | 6 => between (-300) 3250
  | 4 => if x.p8 0 = 0 then between (-100) 300 else between (-100) (lp + 50)
  | 5 => between (-100) (lp + 50)
  | 3 => if x.on ∨ x.offAt + 10000000 ≤ s.now then between (-100) (lp + 50) else none
  | 7 => if x.on ∨ x.offAt + 10000000 ≤ s.now then between (-100) (lp + 50) else none
  | 8 => if x.on ∨ x.offAt + 10000000 ≤ s.now then between (-100) (lp + 50) else none
  | _ => none

/-- One check: the runs outside and within range. -/
def State.checkVt (s : State) (c : Nat) (vt : Int) : State :=
  match s.inRange c vt with
  | some true => s.modChan c (fun x => { x with bad := 0, good := x.good + 1 })
  | some false => s.modChan c (fun x => { x with bad := x.bad + 1, good := 0 })
  | none => s

/-! ### Element values of a round (R281, R313) -/

/-- HART elements 0x28 to 0x2D. -/
def Chan.hartVals (x : Chan) : List (Nat × Nat × Nat) :=
  if x.hartEn then
    (List.range 6).map (fun k => let v := x.hart.vals.getD k (0, qBad 3); (0x28 + k, v.1, v.2))
  else []

def State.diVals (s : State) (c t : Nat) : List (Nat × Nat × Nat) :=
  let x := s.chan c
  let e := x.di.edgeAt t
  [(0x00, boolVal (x.di.stateAt t), s.chQ c), (0x03, e.getD 0, firstUse e.isSome (s.chQ c))]

def State.fiVals (s : State) (c te : Nat) : List (Nat × Nat × Nat) :=
  let x := s.chan c
  let gate := 1000000 * x.p16 2
  let zms := 1000000 * x.p16 4
  let es := x.edges.filter (fun t => decide (t ≤ te))
  let known := decide (2 ≤ es.length) || decide ((x.useAt.getD te) + zms ≤ te)
  [(0x00, boolVal x.level, s.chQ c), (0x01, fiFreq x.edges te gate zms, firstUse known (s.chQ c)), (0x02, x.edgeSeq, s.chQ c),
   (0x03, (es.headD 0) / 1000, firstUse (decide (es ≠ [])) (s.chQ c))]

def State.doVals (s : State) (c : Nat) (m : Meas) : List (Nat × Nat × Nat) :=
  let x := s.chan c
  [(0x11, boolVal (readback m.vt && !x.prot && !(s.lpMissing c)), s.chQ c),
   (0x12, if s.chPartner c then 0 else amp32 m.amp, s.chQ c)]

def State.aoVals (s : State) (c : Nat) (m : Meas) : List (Nat × Nat × Nat) :=
  let x := s.chan c
  let a := if s.chPartner c ∨ s.lpMissing c then 0 else if x.half then 2 * m.amp else m.amp
  [(0x31, ma32 a, s.chQ c), (0x32, boolVal x.compl, s.chQ c)] ++ x.hartVals

/-- The source elements of a channel for the round that starts at `r`. -/
def State.slotVals (s : State) (c r : Nat) (m : Meas) : List (Nat × Nat × Nat) :=
  let x := s.chan c
  let vals := match x.kind with
    | 1 => s.diVals c (r + 3125 * c / 2)
    | 2 => s.fiVals c (r + 3125 * (c + 1) / 2)
    | 3 => s.doVals c m
    | 4 => [(0x20, ma32 m.amp, s.chQ c), (0x21, boolVal x.roc, s.chQ c)] ++ x.hartVals
    | 5 => s.aoVals c m
    | _ => []
  if x.kind = 0 then [] else vals ++ [(0x08, s.chDiag c, if x.prot then qBad 8 else qGood)]

/-- The judgement a slot makes by its kind. -/
def State.slotJudge (s : State) (c t : Nat) (m : Meas) : State :=
  let s := if (s.chan c).kind = 1 then s else s.checkVt c m.vt
  match (s.chan c).kind with
  | 2 =>
    s.modChan c (fun x => { x with useAt := some (x.useAt.getD t), edges := fiKeep x.edges t (1000000 * max (x.p16 2) (x.p16 4)) })
  | 3 => s.doRound c m
  | 4 => s.aiRound c m
  | 5 => s.aoRound c m
  | 6 => s.siRound c t m
  | 8 => s.soRound c m
  | _ => s

/-- One slot (R283, R285). -/
def State.slot (s : State) (r c : Nat) (m : Meas) : State :=
  if m.cut then
    (s.modChan c (fun x => { x with vals := x.vals.map (fun v => (v.1, v.2.1, if qState v.2.2 = 0 then qUnc (qDetail v.2.2) else v.2.2)) })).fev
      141 c 0
  else
    let s := s.slotJudge c (r + 3125 * c / 2) m
    let vals := s.slotVals c r m
    s.modChan c (fun x => { x with vt := m.vt, amp := m.amp, lim := m.lim, vals := vals })

/-- The slots in order; a channel without a measurement measures nothing. -/
def State.slots (s : State) (r : Nat) : Nat → List Meas → State
  | _, [] => s
  | c, m :: ms => State.slots (s.slot r c m) r (c + 1) ms

end Sys2Proof.Machine
end

