-- ==== Sys2Proof/Machine/SafeField.lean ====
section
/-! DEFINITION. The field half of the safety supervisor (13): input pairs, test pulses, output pairs, resets and arming; and the messages of
Pair F (R140, R307). -/

namespace Sys2Proof.Machine

/-! ### Pair F's mailboxes (R140, R307) -/

/-- A message as eight words. -/
def msgWords (b : List Byte) : List Word := (List.range 8).map (fun i => BitVec.ofNat 32 (u32 b (4 * i)))

/-- Put a message of Pair F on the Rim. -/
def State.fieldSend (s : State) (b : Nat) (msg : List Byte) : State :=
  let hdr := BitVec.ofNat 32 (msg.length + 65536 * s.fld Reg.MBX_GEN_GENF)
  { s with toHost := s.toHost ++ [.ctrlPost b hdr (msgWords msg)], mbx := { s.mbx with fieldFull := b :: s.mbx.fieldFull } }

/-- Pair F posts a message: at once where its mailbox is empty as it sees it, else when the host's take has arrived. -/
def State.fieldPost (s : State) (b : Nat) (msg : List Byte) : State :=
  if s.mbx.fieldFull.contains b then { s with field := { s.field with out := s.field.out ++ [(b, 0, msg)] } } else s.fieldSend b msg

/-- The host's take of mailbox `b` has arrived: the next message waiting goes. -/
def State.fieldFree (s : State) (b : Nat) : State :=
  let s := { s with mbx := { s.mbx with fieldFull := s.mbx.fieldFull.filter (fun x => decide (x ≠ b)) } }
  match s.field.out.find? (fun e => e.1 = b) with
  | some e => ({ s with field := { s.field with out := s.field.out.erase e } }).fieldSend b e.2.2
  | none => s

/-- The message Pair F holds in mailbox `b`, if its type byte is `ty`. -/
def State.fieldMsg (s : State) (b ty : Nat) : Option (List Byte) :=
  (s.field.mail.find? (fun e => decide (e.1 = b) && decide (u8 e.2 0 = ty))).map (·.2)

/-- Pair F takes mailbox `b`, having acted on its message. -/
def State.fieldTake (s : State) (b : Nat) : State :=
  { s with field := { s.field with mail := s.field.mail.filter (fun e => decide (e.1 ≠ b)) }, toHost := s.toHost ++ [.ctrlTake b] }

/-! ### Safety input pairs (R349 to R352) -/

/-- SIN parameters. -/
def FieldFn.antivalent (f : FieldFn) : Bool := decide (u8 f.param 2 = 1)
def FieldFn.discNs (f : FieldFn) : Nat := 1000000 * u16 f.param 4

/-- What each channel of a SIN says: TRUE for no demand. -/
def State.sinA (s : State) (f : FieldFn) : Bool := (s.chan f.chA).filtered
def State.sinB (s : State) (f : FieldFn) : Bool := xor (s.chan f.chB).filtered f.antivalent

/-- Whether a channel of a SIN is fed by a TS source. -/
def State.hasTs (s : State) (c : Nat) : Bool := decide (tsrcOf s.field.safety c ≠ 0xFF)

/-- The SIN value of a round (R351, R359). -/
def State.sinRound (s : State) (f : FieldFn) : State :=
  let a := s.sinA f
  let b := s.sinB f
  let gone := s.lpMissing f.chA || s.lpMissing f.chB
  let joint := f.joint || (!a && !b)
  let may := a && b && !f.latch && !f.probation && !gone
  let first := if (s.chan f.chB).di.chgAt ≤ (s.chan f.chA).di.chgAt then f.chA else f.chB
  let f := if a = b then { f with discAt := none }
           else if f.discAt = none then { f with discAt := some s.now, firstCh := first } else f
  if f.value then s.setFn { f with value := may, joint := if may then false else !a && !b }
  else if may ∧ joint then s.setFn { f with value := true, joint := false }
  else s.setFn { f with joint := joint }

/-- SIN_DISCREPANCY (R351): the two channels have disagreed for longer than DISC_MS. -/
def sinDiscrepancy (n : Nat) (s : State) : State :=
  match s.fieldFn n with
  | some f =>
    match f.discAt with
    | some t => if f.ty = 1 ∧ t + f.discNs < s.now then s.fnLatch n 3 f.firstCh else s
    | none => s
  | none => s

def execSinDiscrepancy (n : Fin 128) (s : State) : Result := .next (sinDiscrepancy n s)

/-! ### Test pulses (R348, R350) -/

/-- The next instant at or after `now` on the grid m · period + offset; the last one at or before `now`. -/
def gridNext (period offset now : Nat) : Nat := if now ≤ offset then offset else offset + period * ceilDiv (now - offset) period
def gridLast (period offset now : Nat) : Nat := if now < offset then 0 else offset + period * ((now - offset) / period)

/-- Offset of a TS channel's pulse in the test period. -/
def State.tsOffset (s : State) (c : Nat) : Nat := 2000000 * tsSource s.field.safety c
def State.tpPeriodNs (s : State) : Nat := tpNs s.field.safety

/-- The functions with a channel fed by TS channel `c`: SINs, and SOUTs by their feedback contact. -/
def State.fedBy (s : State) (c : Nat) : List FieldFn :=
  s.field.fns.filter (fun f =>
    (decide (f.ty = 1) && (decide (tsrcOf s.field.safety f.chA = c) || decide (tsrcOf s.field.safety f.chB = c))) ||
    (decide (f.ty = 3) && decide (f.fbCh ≠ 0xFF) && decide (tsrcOf s.field.safety f.fbCh = c)))

/-- A TS channel enters TS_FAULT: every function fed by it latches it. -/
def State.tsFail (s : State) (c : Nat) : State :=
  let s := s.modChan c (fun x => { x with tsFault := true })
  ((s.fedBy c).foldl (fun s f => s.fnLatch f.num 4 c) s).settle

/-- TEST_PULSE_START: the source pulses low at its grid instant. -/
def testPulseStart (c : Nat) (s : State) : State :=
  if (s.chan c).kind = 7 ∧ s.stageFree c ∧ ¬ (s.chan c).pulse then
    ((s.toTime (gridNext s.tpPeriodNs (s.tsOffset c) s.now)).modChan c (fun x => { x with pulse := true, fell := false })).settle
  else s

def execTestPulseStart (c : Fin 64) (s : State) : Result := .next (testPulseStart c s)

/-- TS_CHECK: 100 µs into the pulse the terminal has, or has not, fallen below 5 V. -/
def tsCheck (c : Nat) (below : Bool) (s : State) : State :=
  if (s.chan c).pulse then
    let s := (s.toTime (gridLast s.tpPeriodNs (s.tsOffset c) s.now + 100000)).modChan c (fun x => { x with fell := below })
    if below then s else s.tsFail c
  else s

def execTsCheck (c : Fin 64) (below : Bool) (s : State) : Result := .next (tsCheck c below s)

/-- TEST_PULSE_END: the pulse ends; a period in which the terminal fell in time and its line recovers ends TS_FAULT. -/
def testPulseEnd (c : Nat) (recovered : Bool) (s : State) : State :=
  if (s.chan c).pulse then
    let s := s.toTime (gridLast s.tpPeriodNs (s.tsOffset c) s.now + 500000)
    (s.modChan c (fun x => { x with pulse := false, tsFault := x.tsFault && !(x.fell && recovered && !x.short) })).settle
  else s

def execTestPulseEnd (c : Fin 64) (recovered : Bool) (s : State) : Result := .next (testPulseEnd c recovered s)

/-- TS_RESTART: 1 s after a protective switch-off, with no limit on attempts. -/
def tsRestart (c : Nat) (s : State) : State :=
  if (s.chan c).kind = 7 ∧ (s.chan c).short then
    ((s.toTime ((s.chan c).shortAt + 1000000000)).modChan c (fun x => { x with short := false })).settle
  else s

def execTsRestart (c : Fin 64) (s : State) : Result := .next (tsRestart c s)

/-- Whether a channel's samples show a pulse of source `k` in the test period that starts at `p0`. -/
def pulseSeen (l : List (Nat × Bool × Bool)) (p0 k : Nat) : Bool :=
  let w := p0 + 2000000 * k + 100000
  l.any (fun a => !a.2.1 && decide (w ≤ a.1) && decide (a.1 ≤ w + 400000) &&
    l.any (fun b => b.2.1 && decide (a.1 < b.1) && decide (b.1 ≤ w + 800000)))

/-- The judgement of an SI fed by source `own` (R350): none where its contact is open, else DIAG code and detail, 0 for correct. -/
def tpJudge (l : List (Nat × Bool × Bool)) (p0 own c : Nat) (filt : Bool) : Option (Nat × Nat) :=
  let w := p0 + 2000000 * own + 100000
  let was : Bool := match l.find? (fun a => decide (a.1 ≤ w)) with | some a => a.2.2 | none => filt
  if !was then none
  else match (List.range 16).find? (fun k => decide (k ≠ own) && pulseSeen l p0 k) with
    | some k => some (2, k)
    | none => if pulseSeen l p0 own then some (0, 0) else some (1, c)

/-- A correct pulse counts for a function in probation (R352). -/
def State.tpCredit (s : State) (c : Nat) : State :=
  match s.fnOf 1 c with
  | some f =>
    let a := f.seenA || decide (f.chA = c)
    let b := f.seenB || decide (f.chB = c)
    s.setFn { f with seenA := a, seenB := b,
                     probation := f.probation && !((a || !s.hasTs f.chA) && (b || !s.hasTs f.chB)) }
  | none => s

/-- The functions in which a fault of SI `c` latches: its SIN, or the SOUTs it reports feedback to (R358). -/
def State.siFns (s : State) (c : Nat) : List FieldFn :=
  s.field.fns.filter (fun f => (decide (f.ty = 1) && f.has c) || (decide (f.ty = 3) && decide (f.fbCh = c)))

/-- Judge one SI. -/
def State.judgeSi (s : State) (p0 c : Nat) : State :=
  let x := s.chan c
  let ts := tsrcOf s.field.safety c
  if x.kind ≠ 6 ∨ ts = 0xFF then s
  else match tpJudge x.samples p0 (tsSource s.field.safety ts) c x.filtered with
    | none => s
    | some (code, detail) =>
      let s := s.setChan c { x with tpCode := code, tpDetail := detail }
      if code = 0 then s.tpCredit c else (s.siFns c).foldl (fun s f => s.fnLatch f.num code detail) s

/-- TP_JUDGEMENT: at m · TP_PERIOD + 31 ms every SI is judged. -/
def tpJudgement (s : State) : State :=
  let s := s.toTime (gridNext s.tpPeriodNs 31000000 s.now)
  let p0 := s.now / s.tpPeriodNs * s.tpPeriodNs
  ((List.range 64).foldl (fun s c => s.judgeSi p0 c) s).settle

def execTpJudgement (s : State) : Result := .next (tpJudgement s)

/-! ### Safety output pairs (R356, R358) -/

/-- Offset of a channel's off-pulses in 500 ms. -/
def offOffset (f : FieldFn) (c : Nat) : Nat := 40000000 + 4000000 * (f.num % 32) + (if f.chA = c then 0 else 250000000)

/-- Whether an off-pulse may start at `t`: 10 ms after energising and after a change of role, and clear of a planned swap's overlap. -/
def State.offPulseFree (s : State) (f : FieldFn) (t : Nat) : Bool :=
  f.value && decide (f.turnAt + 10000000 ≤ t) && decide (s.rdl.roleAt + 10000000 ≤ t) &&
    (match s.rdl.swapAt with | some ts => decide (t + 11000000 < ts) || decide (ts ≤ t) | none => true)

/-- Set or end the off-pulse of one channel of a pair. -/
def State.setPulse (s : State) (f : FieldFn) (c : Nat) (on : Bool) : State :=
  (s.setFn (if f.chA = c then { f with pulseA := on } else { f with pulseB := on })).settle

/-- Whether the channel's off-pulse runs. -/
def FieldFn.pulsing (f : FieldFn) (c : Nat) : Bool := if f.chA = c then f.pulseA else f.pulseB

/-- OFF_PULSE: at its grid instant an energised channel is switched off. -/
def offPulse (c : Nat) (s : State) : State :=
  match s.fnOf 3 c with
  | some f =>
    let t := gridNext 500000000 (offOffset f c) s.now
    if s.offPulseFree f t ∧ ¬ f.pulsing c then (s.toTime t).setPulse f c true else s
  | none => s

def execOffPulse (c : Fin 64) (s : State) : Result := .next (offPulse c s)

/-- OFF_PULSE_CHECK: the readback 100 µs into the off time. -/
def offPulseCheck (c : Nat) (above : Bool) (s : State) : State :=
  match s.fnOf 3 c with
  | some f =>
    if f.value ∧ f.pulsing c then
      let s := s.toTime (gridLast 500000000 (offOffset f c) s.now + 100000)
      if above then (s.fnLatch f.num 6 c).settle else s
    else s
  | none => s

def execOffPulseCheck (c : Fin 64) (above : Bool) (s : State) : Result := .next (offPulseCheck c above s)

/-- OFF_PULSE_END: OFFP_US after its start the channel is switched on again. -/
def offPulseEnd (c : Nat) (s : State) : State :=
  match s.fnOf 3 c with
  | some f =>
    if f.pulsing c then
      (s.toTime (gridLast 500000000 (offOffset f c) s.now + 1000 * u16 f.param 6)).setPulse f c false
    else s
  | none => s

def execOffPulseEnd (c : Fin 64) (s : State) : Result := .next (offPulseEnd c s)

/-- FB_CHECK: FB_MS after the pair was energised or switched off, the feedback must have followed. -/
def fbCheck (n : Nat) (s : State) : State :=
  match s.fieldFn n with
  | some f =>
    if f.ty = 3 ∧ f.fbCh ≠ 0xFF then
      let s := s.toTime (f.turnAt + 1000000 * u16 f.param 4)
      if (s.chan f.fbCh).filtered = f.value then (s.fnLatch n (if f.value then 10 else 9) f.fbCh).settle else s
    else s
  | none => s

def execFbCheck (n : Fin 128) (s : State) : Result := .next (fbCheck n s)

/-! ### Resets and arming (R352, R367) -/

/-- Whether the cause of a latched fault is still present. -/
def State.causeNow (s : State) (f : FieldFn) : Bool :=
  match f.code with
  | 1 => decide ((s.chan f.detail).tpCode = 1)
  | 2 => [f.chA, f.chB, f.fbCh].any (fun c => decide ((s.chan c).tpCode = 2))
  | 3 => decide (s.sinA f ≠ s.sinB f)
  | 4 => (s.chan f.detail).tsFault
  | 5 => (s.chan f.detail).prot
  | 6 => decide (500 < (s.chan f.detail).vt)
  | 8 => decide (500 < (s.chan f.detail).vt)
  | 9 => !(s.chan f.detail).filtered
  | 10 => !(s.chan f.detail).filtered
  | _ => false

/-- A reset edge at one function: a latch whose cause is gone clears; a SOUT that waits for the edge goes on. -/
def State.fnReset (s : State) (f : FieldFn) : State :=
  if f.latch then
    if s.causeNow f then s
    else
      let ts := decide (f.ty = 1) && (s.hasTs f.chA || s.hasTs f.chB)
      (s.setFn { f with latch := false, code := 0, detail := 0, probation := ts, seenA := false, seenB := false, wait := false,
                        lowA := 0, lowB := 0, highA := 0, highB := 0 }).fev 161 f.num 0
  else s.setFn { f with wait := false }

/-- SAF_RESET: the masked functions, and RESET_DONE. -/
def safReset (s : State) : State :=
  match s.fieldMsg 18 0x21 with
  | some m =>
    let mask := leNat (slice m 4 16)
    let s := (s.field.fns.filter (fun f => bit mask f.num)).foldl (fun s f => s.fnReset f) s
    (s.settle.fieldTake 18).fieldPost 22 ([0xA1, 0, 0, 0] ++ leBytes 16 mask)
  | none => s

def execSafReset (s : State) : Result := .next (safReset s)

/-- SAF_ARM: the field half arms when the check value is the one of its CFG frames; ARM_DONE answers. -/
def safArm (s : State) : State :=
  match s.fieldMsg 18 0x20 with
  | some m =>
    let flag := u8 m 8
    let ok := decide (flag ≠ 1) || decide (u32 m 4 = s.field.chk)
    let s := if ok then ({ s with field := { s.field with armed := decide (flag = 1) } }).settle else s
    (s.fieldTake 18).fieldPost 22 ([0xA0] ++ leBytes 1 flag ++ leBytes 1 (b2n (!ok)))
  | none => s

def execSafArm (s : State) : Result := .next (safArm s)

/-! ### What the IN frame says of a function (R344, R346, R368) -/

/-- The quality of a function's main element. -/
def State.fnQ (s : State) (f : FieldFn) : Nat :=
  if f.latch then qBad 0x30
  else if f.ty = 3 ∧ f.wait then qUnc 0x31
  else if f.ty = 3 ∧ ¬ s.field.armed then qUnc 0x32
  else if f.ty = 1 ∧ f.probation then qUnc 0x33
  else qGood

/-- The SAF_FN word of a function. -/
def State.fnWord (s : State) (f : FieldFn) : Nat :=
  let st := if f.latch then (if s.causeNow f then 3 else 4) else if f.ty = 1 ∧ f.probation then 5 else if f.value then 2 else 1
  f.ty + 16 * st + 256 * f.code + 65536 * f.detail + 2 ^ 24 * b2n f.latch

/-- The source elements of a function: main, FAULT, DIAG. -/
def State.fnVals (s : State) (f : FieldFn) : List (Nat × Nat × Nat) :=
  let main := (if f.ty = 1 then 0 else 4, boolVal (f.value && decide (s.fnQ f = 0)), s.fnQ f)
  [main, (2, boolVal f.latch, qGood), (3, f.code + 256 * f.detail, qGood)]

end Sys2Proof.Machine
end

