-- ==== Sys2Proof/Machine/Channels.lean ====
section
/-! DEFINITION. The commands of the universal channels (11): the round, L+ states, digital inputs and outputs, protective states. -/

namespace Sys2Proof.Machine

/-! ### L+ of a group (R57, R294) -/

/-- The class of an L+ measurement in 50 mV: 0 NORMAL, 1 LOW, 2 MISSING, 3 HIGH. -/
def lpClass (v : Nat) : Nat := if v < 180 then 2 else if v < 370 then 1 else if v ≤ 660 then 0 else 3

/-- One round's measurement of L+: the runs that the state table counts. -/
def Group.measure (g : Group) (v : Nat) : Group :=
  let run := fun (b : Bool) (n : Nat) => if b then n + 1 else 0
  { g with
    vlp := v
    inNorm := run (decide (370 ≤ v) && decide (v ≤ 650)) g.inNorm
    inLow := run (decide (v < 360)) g.inLow
    inMiss := run (decide (v < 180)) g.inMiss
    inHigh := run (decide (660 < v)) g.inHigh
    outLow := run (decide (370 ≤ v)) g.outLow
    outMiss := run (decide (190 ≤ v)) g.outMiss
    outHigh := run (decide (v ≤ 650)) g.outHigh
    cls := lpClass v
    clsRun := if lpClass v = g.cls then g.clsRun + 1 else 1 }

/-- The L+ state that the runs call for: a state entered, MISSING before the others; else the class of the present measurement when the
leave condition has held; before a first state, the class whose run is long enough. -/
def Group.lpNext (g : Group) : Nat :=
  if g.lpst = 4 then
    (if (if g.cls = 2 then 2 else 10) ≤ g.clsRun then g.cls else 4)
  else if 2 ≤ g.inMiss then 2
  else if g.lpst = 2 then (if 10 ≤ g.outMiss then g.cls else 2)
  else if 10 ≤ g.inLow ∧ g.lpst ≠ 1 then 1
  else if 10 ≤ g.inHigh ∧ g.lpst ≠ 3 then 3
  else if 10 ≤ g.inNorm ∧ g.lpst ≠ 0 then 0
  else if g.lpst = 1 ∧ 10 ≤ g.outLow then g.cls
  else if g.lpst = 3 ∧ 10 ≤ g.outHigh then g.cls
  else g.lpst

/-- A DO resumes CMD, and an AI SOURCE restarts R318, when L+ leaves MISSING; a SOUT then waits for a rising RST (R293, R326, R359). -/
def Chan.lpBack (x : Chan) : Chan := if x.kind = 4 ∧ x.p8 0 = 1 then { x with nval := 0 } else x
def State.lpEdge (s : State) (g old new : Nat) : State :=
  if old = 2 then
    (List.range 32).foldl (fun s i => s.modChan (32 * g + i) Chan.lpBack) s
  else if new = 2 then
    { s with field := { s.field with fns := s.field.fns.map (fun f =>
        if f.ty = 3 ∧ (grpOf f.chA = g ∨ grpOf f.chB = g) then { f with wait := true } else f) } }
  else s

/-- LPLUS_STATE_CHANGE (R57, R293). -/
def lplusChange (g : Nat) (s : State) : State :=
  let x := s.grp g
  let n := x.lpNext
  if n = x.lpst then s
  else (((s.setGrp g { x with lpst := n }).lpEdge g x.lpst n).fev (133 + g) n x.vlp).settle

def execLplusStateChange (g : Fin 2) (s : State) : Result := .next (lplusChange g s)

/-- The DO current limit of a group in mA at an ambient temperature in °C (R67). -/
def doLimit (t : Int) : Nat := if t ≤ 50 then 14000 else if t ≤ 70 then 14000 - 100 * (t - 50).toNat else 12000

/-- Sum of a group's DO currents in mA. -/
def State.doSum (s : State) (g : Nat) : Nat :=
  ((List.range 32).map (fun i => let x := s.chan (32 * g + i); if x.kind = 3 then x.amp else 0)).foldl (· + ·) 0 / 10000

/-- A group's part of a round. -/
def State.grpRound (s : State) (g lp : Nat) (ambient : Int) : State :=
  let sum := s.doSum g
  let above := decide (doLimit ambient < sum)
  s.setGrp g { (s.grp g).measure lp with
    ido := sum
    ovrRun := if above then (s.grp g).ovrRun + 1 else 0
    underRun := if above then 0 else (s.grp g).underRun + 1 }

/-- GROUP_OVERLOAD (R294): 100 ms above the limit sets OVERLOAD, 100 ms at or below clears it. -/
def groupOverload (g : Nat) (s : State) : State :=
  let x := s.grp g
  if ¬ x.overload ∧ 1000 ≤ x.ovrRun then (s.setGrp g { x with overload := true }).fev 143 g x.ido
  else if x.overload ∧ 1000 ≤ x.underRun then s.setGrp g { x with overload := false }
  else s

def execGroupOverload (g : Fin 2) (s : State) : Result := .next (groupOverload g s)

/-! ### The round (R283, R298, R310) -/

/-- What the IN frame carries of a channel. -/
def State.chIn (s : State) (c : Nat) : ChIn :=
  let x := s.chan c
  let ch := x.kind + 16 * b2n x.prot + 32 * b2n x.latched + 64 * b2n (s.chPartner c && decide (x.kind ≠ 0)) +
    128 * b2n (isOutput x.kind && x.safe) + 256 * s.chDiag c
  let txs := decide (x.kind = 4) && decide (x.p8 0 = 1) && s.stageFree c && x.txsOff.isNone
  let ima := if x.kind = 4 ∨ x.kind = 5 then min (2 ^ 18 - 1) x.amp else 0
  let ia := ima + 2 ^ 18 * b2n x.compl + 2 ^ 19 * b2n (decide (x.kind = 5) && x.trimmed) + 2 ^ 20 * b2n txs + 2 ^ 21 * x.zone.getD 0
  let h := x.hart
  let ha := (h.fifo.filter (fun r => !r.scan)).length + 8 * b2n h.run.isSome +
    16 * b2n (x.hartEn && decide (0 < x.scanS) && !h.suspended && !(s.chPartner c)) + 2 ^ 24 * h.ds
  ⟨x.vals, ch, unsint 16 (satInt 16 x.vt), ia, ha, h.fails, h.lost⟩

/-- The CHN_GRP word of a group. -/
def Group.word (g : Group) : Nat := min 1023 g.vlp + 1024 * g.lpst + 8192 * b2n g.overload + 65536 * min 16383 g.ido

/-- CHN_STAT [8:1] as the field side reports it; RIM_UP is the host's. -/
def State.fieldStat (s : State) : Nat :=
  2 * b2n s.field.hold + 4 * b2n s.field.wdog + 8 * b2n s.field.granted + 16 * b2n (s.partnerMode 0) + 64 * b2n (s.partnerMode 1) +
    256 * b2n s.field.take

/-- Close the input frame of a round. -/
def State.closeFrame (s : State) (r : Nat) : State :=
  let f : RimIn := ⟨r, (List.range 64).map (fun c => s.chIn c), s.field.grps.map Group.word,
    s.field.fns.map (fun f => (f.num, s.fnWord f, s.fnVals f)), s.fieldStat, s.field.events⟩
  let chans := s.field.chans.map (fun x => { x with hart := { x.hart with fails := 0, lost := 0 } })
  { s with toHost := s.toHost ++ [.inp f], field := { s.field with events := [], chans := chans } }

/-- The start of the next round to serve. -/
def State.nextRound (s : State) : Nat :=
  let floor := s.now / 100000 * 100000
  match s.field.round with
  | some r => max (r + 100000) floor
  | none => floor

/-- CHANNEL_ROUND: all 64 slots, the groups and the input pairs; the frame closes at the end of slot 63. -/
def channelRound (lpA lpB : Nat) (ambient : Int) (ms : List Meas) (s : State) : State :=
  if s.field.up then
    let r := s.nextRound
    let s := s.toTime (r + 100000)
    let s := { s with field := { s.field with round := some r } }
    let s := s.slots r 0 (ms.take 64)
    let s := (s.grpRound 0 lpA ambient).grpRound 1 lpB ambient
    let s := (s.field.fns.filter (fun f => f.ty = 1)).foldl (fun s f => s.sinRound f) s
    s.settle.closeFrame r
  else s

def execChannelRound (lpA lpB : BitVec 10) (ambient : Int) (ms : List Meas) (s : State) : Result :=
  .next (channelRound lpA.toNat lpB.toNat ambient ms s)

/-! ### Digital inputs (R286 to R288) -/

/-- Sampling period of a DI in ns. -/
def Chan.diPeriod (x : Chan) : Nat := 62500 * 2 ^ x.p8 1

/-- DI_SAMPLE_WINDOW: the next window ends 16 µs after a multiple of the sampling period; the voltage check is made once per window. -/
def diSample (c : Nat) (level : Bool) (vt : Int) (s : State) : State :=
  let x := s.chan c
  if x.kind = 1 ∧ s.field.up then
    let t := gridNext x.diPeriod 16000 (max s.now (x.di.last + 1))
    let s := (s.toTime t).checkVt c vt
    if x.prot then s
    else s.modChan c (fun x => { x with di := x.di.sample level t (1000 * x.p32 4) })
  else s

def execDiSampleWindow (c : Fin 64) (level : Bool) (vt : Int) (s : State) : Result := .next (diSample c level vt s)

/-- Whether an FI selects edges to a level. -/
def Chan.selects (x : Chan) (level : Bool) : Bool :=
  decide (x.p8 1 = 3) || (if level then decide (x.p8 1 = 1) else decide (x.p8 1 = 2))

/-- FI_EDGE: a level stable for 1 µs since `t` counts, with its edge at `t`. -/
def fiEdge (c : Nat) (level : Bool) (t : Nat) (s : State) : State :=
  let x := s.chan c
  if x.kind = 2 ∧ s.field.up ∧ ¬ x.prot ∧ level ≠ x.level then
    let s := s.toTime (t + 1000)
    s.setChan c (if x.selects level then { x with level := level, edges := t :: x.edges, edgeSeq := (x.edgeSeq + 1) % 2 ^ 32 }
                 else { x with level := level })
  else s

def execFiEdge (c : Fin 64) (level : Bool) (t : Nat) (s : State) : Result := .next (fiEdge c level t s)

/-! ### Digital outputs (R291, R292) -/

/-- DO_SHORT_SWITCHOFF: a DO, TS or SO that is on switches off by its protection, with the last allowed attempt latching a DO. -/
def doShort (c : Nat) (thermal : Bool) (s : State) : State :=
  let x := s.chan c
  if (x.kind = 3 ∨ x.kind = 7 ∨ x.kind = 8) ∧ x.on then
    let out := decide (x.kind = 3) && x.tryAt.isSome && decide (x.p8 1 ≤ x.retry)
    let none_ := decide (x.kind = 3) && decide (x.p8 1 = 0)
    let latch := out || none_
    let s := (s.setChan c { x with short := true, shortAt := s.now, tryAt := none, latched := x.latched || latch, sawFalse := false }).fev
      136 (c + 256 * b2n thermal) 0
    let s := if latch then s.fev 139 c 0 else s
    (if x.kind = 7 then s.tsFail c else s).settle
  else s

def execDoShortSwitchoff (c : Fin 64) (thermal : Bool) (s : State) : Result := .next (doShort c thermal s)

/-- DO_RESTART_ATTEMPT: 1 s after a switch-off the switch tries again, while CMD is TRUE and L+ is there. -/
def doRestart (c : Nat) (s : State) : State :=
  let x := s.chan c
  if x.kind = 3 ∧ x.short ∧ ¬ x.latched ∧ x.doWant ∧ ¬ s.lpMissing c then
    let s := s.toTime (x.shortAt + 1000000000)
    (s.modChan c (fun x => { x with short := false, retry := x.retry + 1, tryAt := some s.now })).settle
  else if x.kind = 8 ∧ x.short then
    let s := s.toTime (x.shortAt + 1000000000)
    (s.modChan c (fun x => { x with short := false })).settle
  else s

def execDoRestartAttempt (c : Fin 64) (s : State) : Result := .next (doRestart c s)

/-- DO_OPEN_LOAD: a current below 2 mA for OPEN_MS with CMD TRUE. -/
def doOpenLoad (c : Nat) (s : State) : State :=
  let x := s.chan c
  if x.kind = 3 ∧ x.p8 0 = 1 ∧ ¬ x.openSet ∧ 10 * x.p16 2 ≤ x.openRun then (s.setChan c { x with openSet := true }).fev 137 c 0 else s

def execDoOpenLoad (c : Fin 64) (s : State) : Result := .next (doOpenLoad c s)

/-- DO_FOREIGN_VOLTAGE: ten judged rounds in a row set or clear CH_FOREIGN. -/
def doForeign (c : Nat) (s : State) : State :=
  let x := s.chan c
  if x.kind = 3 ∧ 10 ≤ x.forRun ∧ x.forLevel ≠ x.foreign then
    let s := s.setChan c { x with foreign := x.forLevel }
    if x.forLevel then s.fev 138 c 0 else s
  else s

def execDoForeignVoltage (c : Fin 64) (s : State) : Result := .next (doForeign c s)

/-! ### The protective state (R296) -/

/-- What restarts as at first use when a protective state ends. -/
def Chan.firstUse (x : Chan) : Chan :=
  { x with di := Chan.reset.di, edges := [], useAt := none, zone := none, nval := 0, roc := false, retry := 0, short := x.latched,
           tryAt := none, bad := 0, good := 0, limRun := 0, txsOff := none, openRun := 0, complRun := 0, aoRun := 0 }

/-- PROTECTIVE_STATE_ENTER: three checks in a row outside the range; a safety function of the channel latches CH_FAULT (R359). -/
def protEnter (c : Nat) (s : State) : State :=
  let x := s.chan c
  if ¬ x.prot ∧ 3 ≤ x.bad then
    let s := (s.setChan c { x with prot := true, good := 0 }).fev 135 c (unsint 32 x.vt)
    let fns := s.field.fns.filter (fun f => f.has c || (decide (f.ty = 3) && decide (f.fbCh = c)))
    (fns.foldl (fun s f => s.fnLatch f.num 5 c) s).settle
  else s

def execProtectiveStateEnter (c : Fin 64) (s : State) : Result := .next (protEnter c s)

/-- PROTECTIVE_STATE_EXIT: 1,000 checks in a row within the range. -/
def protExit (c : Nat) (s : State) : State :=
  let x := s.chan c
  if x.prot ∧ 1000 ≤ x.good then (s.setChan c { x.firstUse with prot := false }).settle else s

def execProtectiveStateExit (c : Fin 64) (s : State) : Result := .next (protExit c s)

end Sys2Proof.Machine
end

