-- ==== Sys2Proof/Machine/Hart.lean ====
section
/-! DEFINITION. HART (12, R328 to R336): requests, transactions, scans, and the records pushed to QRSP. -/

namespace Sys2Proof.Machine

/-- QREQ and QRSP of SYSTEM tag 0x0301 (R329). -/
def State.hartQueues (s : State) : Option (Nat × Nat) :=
  match s.img with
  | some i => (i.systemTag 0x0301).map (fun b => (u8 b 0, u8 b 1))
  | none => none

def Chan.setHart (x : Chan) (f : Hart → Hart) : Chan := { x with hart := f x.hart }

/-! ### Records (R330, R332) -/

/-- EV_HART_REFUSED. -/
def State.hartRefused (s : State) (c status tag : Nat) : State := s.fev 151 (c + 256 * status) tag

/-- Discard a record (R332): counted in LOST, reported with STATUS 10. -/
def State.hartLose (s : State) (c tag : Nat) : State :=
  (s.modChan c (fun x => x.setHart (fun h => { h with lost := min 15 (h.lost + 1) }))).hartRefused c 10 tag

/-- A record completes: it waits for its push, or is discarded when all 64 places are taken. -/
def State.hartRecord (s : State) (r : HartRec) : State :=
  if s.field.records.length < 64 then { s with field := { s.field with records := s.field.records ++ [r] } } else s.hartLose r.ch r.tag

/-- The bytes of a record. -/
def HartRec.bytes (r : HartRec) : List Byte :=
  leBytes 1 r.ch ++ leBytes 1 r.status ++ leBytes 2 r.frame.length ++ leBytes 4 r.tag ++ leBytes 4 (secOf r.time) ++ leBytes 4 (nsOf r.time) ++
    leBytes 1 r.attempts ++ leBytes 3 0 ++ r.frame

/-- End a request with a STATUS; a scan leaves no record (R334). -/
def State.hartEnd (s : State) (c : Nat) (q : HartReq) (status attempts : Nat) (frame : List Byte) (t : Nat) : State :=
  if q.scan then s else s.hartRecord ⟨c, status, q.tag, t, attempts, frame, s.mono⟩

/-- End every queued request of a channel with a STATUS. -/
def State.hartDrop (s : State) (c status : Nat) : List HartReq → State
  | [] => s
  | q :: qs => State.hartDrop (s.hartEnd c q status 0 [] s.now) c status qs

/-- End everything on a channel with CANCELLED: the running request, then the queue (R335, R336). -/
def State.hartCancel (s : State) (c : Nat) : State :=
  let h := (s.chan c).hart
  let s := s.modChan c (fun x => x.setHart (fun h => { h with run := none, fifo := [] }))
  let s := match h.run with | some (q, n, _) => s.hartEnd c q 3 n [] s.now | none => s
  s.hartDrop c 3 h.fifo

/-- Cancel on the channels of a mask. -/
def State.hartCancelMask (s : State) (mask : Nat) : State :=
  ((List.range 64).filter (fun c => bit mask c)).foldl (fun s c => s.hartCancel c) s

/-! ### Requests (R330, R331) -/

/-- Bytes from delimiter to last data byte that a frame's byte count calls for: delimiter, address, expansion bytes, command, count, data. -/
def hartHead (f : List Byte) : Nat := (if bit (u8 f 0) 7 then 6 else 2) + bits (u8 f 0) 5 2
def hartLen (f : List Byte) : Nat := hartHead f + 2 + u8 f (hartHead f + 1)

/-- Whether a channel cannot transmit: protective state, or L+ MISSING on an AO or a SOURCE AI (CH_FAULT). -/
def State.hartFault (s : State) (c : Nat) : Bool :=
  let x := s.chan c
  x.prot || (s.lpMissing c && (decide (x.kind = 5) || decide (x.p8 0 = 1)))

/-- A request is answered without transmission. -/
def State.hartAnswer (s : State) (c status tag : Nat) : State :=
  (s.hartRecord ⟨c, status, tag, s.now, 0, [], s.mono⟩).hartRefused c status tag

/-- A request record reaches the field side (HART_REQUEST). -/
def State.hartRequest (s : State) (b : List Byte) : State :=
  let c := u8 b 0
  let x := s.chan c
  let len := u16 b 2
  let tag := u32 b 4
  let frame := slice b 8 len
  if 64 ≤ c ∨ ¬ x.hartEn then s.hartAnswer c 4 tag
  else if len < 4 ∨ 266 < len ∨ hartLen frame ≠ len then s.hartAnswer c 6 tag
  else if 4 ≤ (x.hart.fifo.filter (fun r => !r.scan)).length then s.hartAnswer c 5 tag
  else if s.hartFault c then s.hartAnswer c 9 tag
  else if s.chPartner c then s.hartRecord ⟨c, 3, tag, s.now, 0, [], s.mono⟩
  else s.setChan c (x.setHart (fun h => { h with fifo := h.fifo ++ [⟨false, tag, if u8 b 1 = 0xFF then x.hartRetry else u8 b 1, frame⟩] }))

def RimFrame.isBulk : RimFrame → Bool | .bulk _ => true | _ => false

/-- RIM_BULK_FRAME (R298, R329): a payload of queue end 20 reaches the field side, as a request. -/
def rimBulkFrame (s : State) : State :=
  match s.toField.find? RimFrame.isBulk with
  | some (.bulk p) =>
    let s := { s with toField := s.toField.erase (.bulk p) }
    if s.field.up then s.hartRequest p else s
  | _ => s

def execRimBulkFrame (s : State) : Result := .next (rimBulkFrame s)

/-! ### Transactions (R329, R331) -/

/-- HART_TRANSMIT_START: the next request goes on air, once the modem is idle; a fault ends it and those behind it with CH_FAULT. -/
def hartTransmit (c : Nat) (s : State) : State :=
  let x := s.chan c
  if x.hart.run ≠ none then s
  else match x.hart.fifo with
    | [] => s
    | q :: qs =>
      if s.hartFault c then
        let s := s.setChan c (x.setHart (fun h => { h with fifo := [] }))
        (q :: qs).foldl (fun s r => if r.scan then s else s.hartAnswer c 9 r.tag) s
      else if s.chPartner c then s
      else (s.setChan c (x.setHart (fun h => { h with fifo := qs, run := some (q, 1, false) }))).send (.hart c q.frame)

def execHartTransmitStart (c : Fin 64) (s : State) : Result := .next (hartTransmit c s)

/-- The status bytes and values of a command 3 response (R334). -/
def scanFloat (d : List Byte) (o : Nat) : Option Nat := if o + 4 ≤ d.length then some (beNat (slice d o 4)) else none

/-- One scan element: its value if the device returned it, with its quality. -/
def scanVal (d : List Byte) (o : Nat) (fail warn : Bool) (old : Nat × Nat) : Nat × Nat :=
  match scanFloat d o with
  | some v => (v, if fail then qBad 0x19 else if warn then qUnc 0x1A else qGood)
  | none => if qState old.2 = 3 ∧ qDetail old.2 = 3 then old else (0, qBad 3)

/-- The six elements after a scan response with data `d`: response code, device status, current, then unit and value of each variable. -/
def scanVals (d : List Byte) (old : List (Nat × Nat)) : List (Nat × Nat) :=
  let ds := u8 d 1
  let v := fun (k o : Nat) (w : Bool) => scanVal d o (bit ds 7) w (old.getD k (0, qBad 3))
  let w1 := bit ds 1
  [v 0 7 (bit ds 0), v 1 12 w1, v 2 17 w1, v 3 22 w1, v 4 2 (bit ds 2 || bit ds 3), (ds + 256 * u8 d 0, qGood)]

/-- A scan response (R334). -/
def State.hartScanned (s : State) (c : Nat) (frame : List Byte) : State :=
  let x := s.chan c
  let d := slice frame (hartHead frame + 2) (u8 frame (hartHead frame + 1))
  let ds := u8 d 1
  let s := if x.hart.seen ∧ ds ≠ x.hart.ds then s.fev 150 (c + 256 * x.hart.ds + 65536 * ds) 0 else s
  if u8 d 0 = 0 then
    s.setChan c (x.setHart (fun h => { h with misses := 0, ds := ds, seen := true, vals := scanVals d h.vals }))
  else s.setChan c (x.setHart (fun h => { h with misses := 0, ds := ds, seen := true }))

/-- A scan without a valid response: the third in a row marks the device (R334). -/
def State.hartMissed (s : State) (c : Nat) : State :=
  let x := s.chan c
  let n := x.hart.misses + 1
  if n = 3 then
    let vals := (List.range 6).map (fun k => ((x.hart.vals.getD k (0, 0)).1, qBad 0x18))
    (s.setChan c (x.setHart (fun h => { h with misses := n, vals := vals }))).fev 149 c 0
  else s.setChan c (x.setHart (fun h => { h with misses := n }))

/-- The transaction of a channel ends. -/
def State.hartIdle (s : State) (c : Nat) : State := s.modChan c (fun x => x.setHart (fun h => { h with run := none }))

/-- An attempt has failed: another, or the end with NO_RESPONSE or FRAME_ERR. -/
def State.hartFail (s : State) (c : Nat) (q : HartReq) (n : Nat) (err : Bool) : State :=
  if n ≤ q.retry then
    (s.modChan c (fun x => x.setHart (fun h => { h with run := some (q, n + 1, err) }))).send (.hart c q.frame)
  else
    let s := s.hartIdle c
    if q.scan then s.hartMissed c
    else (s.modChan c (fun x => x.setHart (fun h => { h with fails := h.fails + 1 }))).hartEnd c q (if err then 2 else 1) n [] s.now

/-- HART_RESPONSE_END: a response whose delimiter began at `t`, good or with a parity, check or gap error. -/
def hartResponse (c : Nat) (good : Bool) (frame : List Byte) (t : Nat) (s : State) : State :=
  match (s.chan c).hart.run with
  | some (q, n, _) =>
    if good then
      let s := s.hartIdle c
      if q.scan then s.hartScanned c frame else s.hartEnd c q 0 n frame t
    else s.hartFail c q n true
  | none => s

def execHartResponseEnd (c : Fin 64) (good : Bool) (frame : List Byte) (t : Nat) (s : State) : Result := .next (hartResponse c good frame t s)

/-- HART_NO_RESPONSE: an attempt ends without a response. -/
def hartNoResponse (c : Nat) (s : State) : State :=
  match (s.chan c).hart.run with
  | some (q, n, err) => s.hartFail c q n err
  | none => s

def execHartNoResponse (c : Fin 64) (s : State) : Result := .next (hartNoResponse c s)

/-- HART_LISTEN_FRAME (R333): delivered where LISTEN is set. -/
def hartListen (c : Nat) (frame : List Byte) (t : Nat) (s : State) : State :=
  let x := s.chan c
  if x.hartEn ∧ bit x.hflags 2 ∧ ¬ x.prot then s.hartRecord ⟨c, 7, 0, t, 0, frame, s.mono⟩ else s

def execHartListenFrame (c : Fin 64) (frame : List Byte) (t : Nat) (s : State) : Result := .next (hartListen c frame t s)

/-- HART_BURST_FRAME (R330): received between transactions. -/
def hartBurst (c : Nat) (frame : List Byte) (t : Nat) (s : State) : State :=
  let x := s.chan c
  if x.hartEn ∧ x.hart.run = none ∧ ¬ x.prot then s.hartRecord ⟨c, 8, 0, t, 0, frame, s.mono⟩ else s

def execHartBurstFrame (c : Fin 64) (frame : List Byte) (t : Nat) (s : State) : Result := .next (hartBurst c frame t s)

/-! ### Pushes (R332) -/

/-- CANCEL_DONE goes once the last CANCELLED record is pushed (R335). -/
def State.cancelDone (s : State) : State :=
  match s.field.cancel with
  | some mask =>
    if s.field.records.any (fun r => decide (r.status = 3)) then s
    else ({ s with field := { s.field with cancel := none } }).fieldPost 21 ([0x90, 0, 0, 0] ++ leBytes 8 mask)
  | none => s

/-- The first record leaves the waiting list. -/
def State.hartPop (s : State) (rest : List HartRec) : State := ({ s with field := { s.field with records := rest } }).cancelDone

/-- The end code of the field side's port (R329). -/
def hartPort : Nat := 20

/-- Write a record to a buffer of the port and push its descriptor. -/
def State.hartPushTo (s : State) (q : Nat) (r : HartRec) : State :=
  let a := 0x600000 + 16 * (Config.hartBuffer s.freeCtr).val
  let desc := leBytes 4 a ++ leBytes 2 r.bytes.length ++ leBytes 2 0 ++ leBytes 4 (Config.descCtx hartPort).toNat ++
    leBytes 2 s.freeCtr ++ leBytes 2 0
  (s.draw.wrBytes a r.bytes).push q hartPort hardwareMaster desc true

/-- HART_RECORD_PUSH: a FULL queue refuses, and the record keeps its place; any other refusal discards it. -/
def hartPush (s : State) : State :=
  match s.field.records, s.hartQueues with
  | r :: rest, some (_, q) =>
    if s.flag (Reg.QUE_CFG_EN q) ∧ s.fld (Reg.QUE_CFG_PROD q) = hartPort then
      if 2 ^ s.fld (Reg.QUE_CFG_SIZE q) ≤ s.fld (Reg.QUE_STAT_LEVEL q) then s.pushRefuse hardwareMaster q 2
      else (s.hartPop rest).hartPushTo q r
    else ((s.pushRefuse hardwareMaster q 4).hartPop rest).hartLose r.ch r.tag
  | _, _ => s

def execHartRecordPush (s : State) : Result := .next (hartPush s)

/-- HART_RECORD_DISCARD: the first record has waited 100 ms. -/
def hartDiscard (s : State) : State :=
  match s.field.records with
  | r :: rest => ((s.toMono (r.since + 100000000)).hartPop rest).hartLose r.ch r.tag
  | [] => s

def execHartRecordDiscard (s : State) : Result := .next (hartDiscard s)

/-! ### Scans and control (R334, R335) -/

/-- Command 3 to the device: short or long frame (HART data link, PRESUMED). -/
def Chan.scanFrame (x : Chan) : List Byte :=
  if bit x.hflags 3 then [0x82] ++ x.laddr ++ [3, 0] else [0x02] ++ leBytes 1 (128 + x.poll) ++ [3, 0]

/-- HART_SCAN_DUE: every SCAN_S seconds. -/
def hartScanDue (c : Nat) (s : State) : State :=
  let x := s.chan c
  if x.hartEn ∧ 0 < x.scanS ∧ ¬ x.hart.suspended ∧ ¬ s.chPartner c then
    let s := s.toMono (x.hart.scanAt + 1000000000 * x.scanS)
    s.modChan c (fun x => x.setHart (fun h => { h with scanAt := s.mono, fifo := h.fifo ++ [⟨true, 0, x.hartRetry, x.scanFrame⟩] }))
  else s

def execHartScanDue (c : Fin 64) (s : State) : Result := .next (hartScanDue c s)

/-- HART_CANCEL: queued and running requests of the masked channels end. -/
def hartCancelMsg (s : State) : State :=
  match s.fieldMsg 17 0x10 with
  | some m =>
    let mask := leNat (slice m 4 8)
    let s := (s.hartCancelMask mask).fieldTake 17
    ({ s with field := { s.field with cancel := some mask } }).cancelDone
  | none => s

def execHartCancel (s : State) : Result := .next (hartCancelMsg s)

/-- HART_SCAN: scanning is suspended or resumed on the masked channels. -/
def hartScanMsg (s : State) : State :=
  match s.fieldMsg 17 0x11 with
  | some m =>
    let mask := leNat (slice m 4 8)
    let off := decide (u8 m 12 = 0)
    let s := ((List.range 64).filter (fun c => bit mask c)).foldl
      (fun s c => s.modChan c (fun x => x.setHart (fun h => { h with suspended := off }))) s
    s.fieldTake 17
  | none => s

def execHartScan (s : State) : Result := .next (hartScanMsg s)

end Sys2Proof.Machine
end

