-- ==== Sys2Proof/Machine/Rim.lean ====
section
/-! DEFINITION. The Rim (11): frames both ways, the safe-state watchdog and hold, field restarts, control messages and group modes. -/

namespace Sys2Proof.Machine

/-! ### Frames queued by the host half -/

/-- Whether the host half sends OUT and KEEP frames: not before its start, and not after a give-up (R468). -/
def State.rimSends (s : State) : Bool :=
  decide (s.cpm.phase ≠ .off) && decide (s.cpm.phase ≠ .ready) && !s.cpm.gaveUp

/-- Whether an entry may still apply: in a swap-load none of the old image's applies after t_s (R180). -/
def State.entryLive (s : State) (e : OutEntry) : Bool :=
  !(decide (s.fld Reg.WVE_SWAP_PHASE = 3) && s.rdl.swapAt.any (fun ts => decide (ts < e.apply)))

/-- Queue an OUT frame of entries (R298); none goes out during the carry of a swap-load (R180). -/
def State.sendOut (s : State) (es : List OutEntry) : State :=
  let es := es.filter (fun (e : OutEntry) => s.entryLive e)
  if s.rimSends ∧ es ≠ [] ∧ s.rdl.carryEnd.isNone then s.rimSend (.out es) else s

/-- KEEP_SEND: at the start of the next round. -/
def keepSend (s : State) : State :=
  if s.rimSends then
    let t := gridNext 100000 0 (max s.now (s.rim.keepAt + 1))
    let s := s.toTime t
    ({ s with rim := { s.rim with keepAt := t } }).rimSend .keep
  else s

def execKeepSend (s : State) : Result := .next (keepSend s)

/-! ### Frames arriving at the field side -/

/-- The first frame of a kind, taken off the Rim. -/
def State.rimTake (s : State) (p : RimFrame → Bool) : Option (RimFrame × State) :=
  match s.toField.find? p with
  | some f => some (f, { s with toField := s.toField.erase f })
  | none => none

def RimFrame.isOut : RimFrame → Bool | .out _ => true | _ => false
def RimFrame.isKeep : RimFrame → Bool | .keep => true | _ => false
def RimFrame.isCtrl : RimFrame → Bool | .ctrlPost _ _ _ => true | .ctrlTake _ => true | _ => false
def RimFrame.isCfg : RimFrame → Bool | .cfg _ _ _ _ _ => true | .trim _ _ _ => true | _ => false
def RimFrame.isSafe : RimFrame → Bool | .safe _ => true | _ => false
def RimFrame.isHo : RimFrame → Bool | .ho _ _ => true | _ => false

/-- A valid OUT or KEEP frame restarts the watchdog and ends its expiry (R303). -/
def State.kickWdog (s : State) : State := { s with field := { s.field with wdogAt := s.mono, wdog := false } }

/-- The field side reports a discarded frame or a gap of a TYPE (R299). -/
def State.rimError (s : State) (ty : Nat) : State := s.fev 130 (1 + 256 * ty) 0

/-- An entry is late or refused (R300). -/
def State.outLate (s : State) (e : OutEntry) : State := s.fev 140 (e.ch + 256 * e.sub) 0

/-- CMD of a DO applies (R291): FALSE then TRUE clears a latch, and the switch restarts at once. -/
def Chan.doApply (x : Chan) (v now : Nat) : Chan :=
  let x := { x with cmd := v, safe := false }
  if ¬ isTrue v then { x with sawFalse := x.latched }
  else if x.latched ∧ x.sawFalse then { x with latched := false, sawFalse := false, short := false, retry := 0, tryAt := some now }
  else x

/-- A SOUT entry applies (R355): demand, its complement and the function must agree. -/
def State.soutApply (s : State) (e : OutEntry) : State :=
  match s.fnOf 3 e.ch with
  | some f =>
    if e.value % 256 + e.value / 256 % 256 ≠ 255 ∨ e.value / 65536 % 256 ≠ f.num then s.fnLatch f.num 18 f.chA
    else
      let s := s.setFn { f with demand := decide (e.value % 256 = 1) }
      (s.modChan f.chA (fun x => { x with safe := false })).modChan f.chB (fun x => { x with safe := false })
  | none => s

/-- An entry takes effect, unless outputs are held in their safe states (R303, R304). -/
def State.entryApply (s : State) (e : OutEntry) : State :=
  if s.field.hold ∨ s.field.wdog then s
  else match (s.chan e.ch).kind with
    | 3 => (s.modChan e.ch (fun x => x.doApply e.value s.now)).settle
    | 5 => (s.modChan e.ch (fun x => { x with cmd := e.value, cmdQ := e.q, half := decide (e.sub = 0x38), safe := false })).settle
    | 8 => (s.soutApply e).settle
    | _ => s

/-- Insert an entry in the order of apply instants. -/
def insertEntry (e : OutEntry) : List OutEntry → List OutEntry
  | [] => [e]
  | a :: l => if e.apply < a.apply then e :: a :: l else if e.apply = a.apply then e :: l else a :: insertEntry e l

/-- The field side stores an entry (R300). -/
def State.entryStore (s : State) (e : OutEntry) : State :=
  let x := s.chan e.ch
  if e.apply < s.now then (s.outLate e).entryApply e
  else if x.pend.any (fun a => decide (a.apply = e.apply)) ∨ x.pend.length < 4 then s.setChan e.ch { x with pend := insertEntry e x.pend }
  else s.outLate e

/-- What a whole frame does where its SEQ may show a gap. -/
def State.rimWhole (s : State) (rx : RimRx) (ty : Nat) : State := if rx = .gap then s.rimError ty else s

/-- RIM_OUT_FRAME. -/
def rimOutFrame (rx : RimRx) (s : State) : State :=
  match s.rimTake RimFrame.isOut with
  | some (.out es, s) =>
    if ¬ s.field.up then s
    else if rx = .crcFail then s.rimError 0x01
    else es.foldl (fun s e => s.entryStore e) (s.rimWhole rx 0x01).kickWdog
  | _ => s

def execRimOutFrame (rx : RimRx) (s : State) : Result := .next (rimOutFrame rx s)

/-- RIM_KEEP_FRAME. -/
def rimKeepFrame (rx : RimRx) (s : State) : State :=
  match s.rimTake RimFrame.isKeep with
  | some (_, s) =>
    if ¬ s.field.up then s else if rx = .crcFail then s.rimError 0x02 else (s.rimWhole rx 0x02).kickWdog
  | none => s

def execRimKeepFrame (rx : RimRx) (s : State) : Result := .next (rimKeepFrame rx s)

/-- FIELD_ENTRY_APPLY: a channel's first pending entry applies at its instant. -/
def fieldEntryApply (c : Nat) (s : State) : State :=
  match (s.chan c).pend with
  | e :: es =>
    let s := s.toTime e.apply
    (s.modChan c (fun x => { x with pend := es })).entryApply e
  | [] => s

def execFieldEntryApply (c : Fin 64) (s : State) : Result := .next (fieldEntryApply c s)

/-- RIM_CTRL_FRAME: a message or a take reaches Pair F; while the field side restarts it waits (R144). -/
def rimCtrlFrame (s : State) : State :=
  if ¬ s.field.up then s
  else match s.rimTake RimFrame.isCtrl with
    | some (.ctrlPost b _ msg, s) =>
      { s with field := { s.field with mail := s.field.mail ++ [(b, msg.flatMap (fun w => leBytes 4 w.toNat))] } }
    | some (.ctrlTake b, s) => s.fieldFree b
    | _ => s

def execRimCtrlFrame (s : State) : Result := .next (rimCtrlFrame s)

/-! ### Configuration (R280, R306) -/

/-- A channel takes its record: an unchanged one runs on, any other starts at first use in its safe state. -/
def State.cfgChan (s : State) (chans : List (List Byte)) (c : Nat) : State :=
  let r := (chans.find? (fun b => decide (u8 b 0 = c))).getD []
  let x := s.chan c
  if x.cfg = r then s
  else s.setChan c { Chan.reset with cfg := r, m4 := x.m4, m20 := x.m20, trimmed := x.trimmed, hart := { Hart.reset with scanAt := s.mono } }

/-- A safety function at station start-up, or after a field restart, when a SOUT waits for a rising RST (R351, R359). -/
def newFn (safety : List Byte) (again : Bool) (r : SafeFn) : FieldFn :=
  let ts := decide (r.ty = 1) && (decide (tsrcOf safety (u8 r.param 0) ≠ 0xFF) || decide (tsrcOf safety (u8 r.param 1) ≠ 0xFF))
  { num := r.num, ty := r.ty, param := r.param, value := false, code := 0, detail := 0, latch := false, joint := true, probation := ts,
    seenA := false, seenB := false, discAt := none, firstCh := 0, demand := false, turnAt := 0, wait := again && decide (r.ty = 3),
    pulseA := false, pulseB := false, lowA := 0, lowB := 0, highA := 0, highB := 0 }

/-- Function records of a SAFETY section: SIN and SOUT run in the field half. -/
def fieldFnsOf (safety : List Byte) (again : Bool) : List FieldFn :=
  (((recordsAt safety (16 + 4 * u8 safety 1 + 4 * u8 safety 3) 32 (u8 safety 2)).map
    (fun r => (⟨u8 r 0, u8 r 1, u16 r 2, r.drop 4⟩ : SafeFn))).filter (fun f => decide (f.ty = 1) || decide (f.ty = 3))).map (newFn safety again)

/-- RIM_CFG_FRAME. -/
def rimCfgFrame (s : State) : State :=
  match s.rimTake RimFrame.isCfg with
  | some (.cfg chans safety chk wdog slot, s) =>
    if ¬ s.field.up then s
    else
      let recs := recordsAt chans 4 32 (u32 chans 0)
      let fns := if safety = s.field.safety ∧ s.field.fns ≠ [] then s.field.fns else fieldFnsOf safety (decide (s.field.cause ≠ 0))
      let s := { s with field := { s.field with safety := safety, fns := fns, chk := chk, wdogUs := wdog, slot := slot } }
      ((List.range 64).foldl (fun s c => s.cfgChan recs c) s).settle
  | some (.trim c m4 m20, s) =>
    if ¬ s.field.up then s else s.modChan c (fun x => { x with m4 := m4, m20 := m20, trimmed := true })
  | _ => s

def execRimCfgFrame (s : State) : Result := .next (rimCfgFrame s)

/-! ### Safe states (R303 to R305) -/

/-- Every output enters its safe state. -/
def State.allSafe (s : State) : State :=
  ({ s with field := { s.field with chans := s.field.chans.map (fun (x : Chan) => if isOutput x.kind then { x with safe := true } else x) } }).settle

/-- RIM_SAFE_FRAME: the hold is set, with the field half disarmed, or lifted. -/
def rimSafeFrame (s : State) : State :=
  match s.rimTake RimFrame.isSafe with
  | some (.safe set, s) =>
    if ¬ s.field.up then s
    else if set then ({ s with field := { s.field with hold := true, armed := false } }).allSafe
    else { s with field := { s.field with hold := false } }
  | _ => s

def execRimSafeFrame (s : State) : Result := .next (rimSafeFrame s)

/-- SAFE_STATE_WATCHDOG_EXPIRY. -/
def wdogExpiry (s : State) : State :=
  if s.field.up ∧ ¬ s.field.wdog then
    let s := s.toMono (s.field.wdogAt + 1000 * s.field.wdogUs)
    let s := { s with field := { s.field with wdog := true, chans := s.field.chans.map (fun (x : Chan) => { x with pend := [] }) } }
    s.allSafe.fev 132 0 0
  else s

def execSafeStateWatchdogExpiry (s : State) : Result := .next (wdogExpiry s)

/-- CHN_CTRL (R304): a safe-state request, or the lift of a hold that a request set. -/
def chnCtrl (m : Master) (w : Word) (s : State) : State :=
  if ¬ s.mayWriteRegs m then s.denyWrite m Reg.CHN_CTRL
  else if wordField w 8 8 ≠ 0x5A then s
  else if w.getLsbD 0 then
    let s := s.safeRequest
    if s.inHalt ∨ s.cpm.haltOnStop then s else { s with rim := { s.rim with reqHold := true } }
  else if w.getLsbD 1 ∧ s.rim.reqHold ∧ s.inControl ∧ s.cpm.phase = .run ∧ ¬ s.cpm.haltOnStop then
    ({ s with rim := { s.rim with reqHold := false } }).rimSend (.safe false)
  else s

def execSafeReq (m : Master) (w : Word) (s : State) : Result := .next (chnCtrl m w s)
def execSafeRel (m : Master) (w : Word) (s : State) : Result := .next (chnCtrl m w s)

/-! ### Partner mode and handover (R308, R309, R336, R468) -/

/-- Groups of a mask take a mode; HART ends with CANCELLED on entry into partner mode. -/
def State.setMode (s : State) (mask mode : Nat) : State :=
  let s := ([0, 1].filter (fun g => bit mask g)).foldl (fun s g =>
    let s := s.modGrp g (fun x => { x with partner := decide (mode = 1) })
    if mode = 1 then s.hartCancelMask (0xFFFFFFFF * 2 ^ (32 * g)) else s) s
  s.settle

/-- RIM_HO_FRAME: HO_TAKE_I asserted forces both groups into partner mode; the give-up flag drops every pending entry. -/
def rimHoFrame (s : State) : State :=
  match s.rimTake RimFrame.isHo with
  | some (.ho take give, s) =>
    if ¬ s.field.up then s
    else
      let was := s.field.take
      let s := { s with field := { s.field with take := take } }
      let s := if take ∧ ¬ was then (s.setMode 3 1).fev 142 (3 + 256) 0 else s.settle
      if give then { s with field := { s.field with chans := s.field.chans.map (fun (x : Chan) => { x with pend := [] }) } } else s
  | _ => s

def execRimHoFrame (s : State) : Result := .next (rimHoFrame s)

/-- An instant sent as 32 bits of seconds and nanoseconds. -/
def wireTime (now sec ns : Nat) : Nat := 1000000000 * (now / 1000000000 / 2 ^ 32 * 2 ^ 32 + sec) + ns

/-- MODE_DONE. -/
def State.modeDone (s : State) (mask mode status t : Nat) : State :=
  s.fieldPost 20 ([0x81] ++ leBytes 1 mask ++ leBytes 1 mode ++ leBytes 1 status ++ leBytes 4 (secOf t) ++ leBytes 4 (nsOf t))

/-- GROUP_MODE: accepted for its instant, or refused. -/
def groupMode (s : State) : State :=
  match s.fieldMsg 16 0x02 with
  | some m =>
    let mask := u8 m 1
    let mode := u8 m 2
    let t := wireTime s.now (u32 m 4) (u32 m 8)
    if s.field.slot ≠ 2 ∧ s.field.slot ≠ 3 then (s.fieldTake 16).modeDone mask mode 1 s.now
    else if mode = 0 ∧ s.field.take then (s.fieldTake 16).modeDone mask mode 2 s.now
    else { s with field := { s.field with modeReq := some (mask, mode, t) } }
  | none => s

def execGroupMode (s : State) : Result := .next (groupMode s)

/-- GROUP_MODE_APPLY: at its instant the groups change mode, and MODE_DONE answers. -/
def groupModeApply (s : State) : State :=
  match s.field.modeReq with
  | some (mask, mode, t) =>
    let s := s.toTime t
    let s := ({ s with field := { s.field with modeReq := none } }).fieldTake 16
    if mode = 0 ∧ s.field.take then s.modeDone mask mode 2 s.now else (s.setMode mask mode).modeDone mask mode 0 s.now
  | none => s

def execGroupModeApply (s : State) : Result := .next (groupModeApply s)

/-- RUN_GRANT: Pair F lifts the hold. -/
def runGrant (s : State) : State :=
  match s.fieldMsg 16 0x03 with
  | some _ => ({ s with field := { s.field with hold := false, granted := true } }).fieldTake 16
  | none => s

def execRunGrant (s : State) : Result := .next (runGrant s)

/-- CH_CLEAR: LATCHED and the retry count of the masked channels. -/
def chClear (s : State) : State :=
  match s.fieldMsg 16 0x01 with
  | some m =>
    let mask := leNat (slice m 4 8)
    let s := ((List.range 64).filter (fun c => bit mask c)).foldl
      (fun s c => s.modChan c (fun x => { x with latched := false, sawFalse := false, retry := 0 })) s
    s.settle.fieldTake 16
  | none => s

def execChClear (s : State) : Result := .next (chClear s)

/-! ### Field restarts (R306) -/

/-- Put the field side in safe hold with nothing configured, for cause `cause`. -/
def State.fieldDown (s : State) (cause : Nat) : State :=
  { s with field := { FieldSide.reset with
    cause := cause, downAt := s.mono, take := s.field.take, grps := List.replicate 2 { Group.reset with partner := s.field.take } } }

/-- FIELD_RESTART: every output is de-energised at once; GENF counts, and messages to Pair F are discarded. -/
def fieldRestart (cause : Nat) (s : State) : State := if s.field.up then (domainReset 3 s).fieldDown cause else s

def execFieldRestart (cause : Fin 5) (s : State) : Result := .next (fieldRestart cause.val s)

/-- FIELD_RESTART_COMPLETE: running again in safe hold, FIELD_STARTED goes to the host. -/
def fieldComplete (s : State) : State :=
  if s.field.up then s
  else
    let s := { s with field := { s.field with up := true, wdogAt := s.mono } }
    s.fieldPost 20 ([0x82] ++ leBytes 1 (s.fld Reg.MBX_GEN_GENF) ++ leBytes 1 s.field.cause ++ [0])

def execFieldRestartComplete (s : State) : Result := .next (if s.cpm.phase = .off then s else fieldComplete s)

end Sys2Proof.Machine
end

