-- ==== Sys2Proof/Machine/Analogue.lean ====
section
/-! DEFINITION. Analogue inputs and outputs beyond the round (R315, R320, R321), and output trim (R323 to R325). -/

namespace Sys2Proof.Machine

/-- TXS_LIMIT: a transmitter supply in limit for 100 ms is switched off. -/
def txsLimit (c : Nat) (s : State) : State :=
  let x := s.chan c
  if x.kind = 4 ∧ x.p8 0 = 1 ∧ x.txsOff = none ∧ 1000 ≤ x.limRun then
    (s.setChan c { x with txsOff := some s.mono, limRun := 0 }).fev 147 c 0
  else s

def execTxsLimit (c : Fin 64) (s : State) : Result := .next (txsLimit c s)

/-- TXS_RESTART: every 10 s a switched-off supply is tried again. -/
def txsRestart (c : Nat) (s : State) : State :=
  match (s.chan c).txsOff with
  | some t => (s.toMono (t + 10000000000)).modChan c (fun x => { x with txsOff := none, limRun := 0 })
  | none => s

def execTxsRestart (c : Fin 64) (s : State) : Result := .next (txsRestart c s)

/-- AO_COMPL_ALARM: 1,000 rounds more than 0.5 mA short, once in each deficit. -/
def aoComplAlarm (c : Nat) (s : State) : State :=
  let x := s.chan c
  if x.kind = 5 ∧ x.compl ∧ ¬ x.complTold ∧ 1000 ≤ x.complRun then
    (s.setChan c { x with complTold := true }).fev 145 c (x.amp / 10)
  else s

def execAoComplAlarm (c : Fin 64) (s : State) : Result := .next (aoComplAlarm c s)

/-- AO_OPEN: 100 ms below 0.1 mA at the compliance limit. -/
def aoOpen (c : Nat) (s : State) : State :=
  let x := s.chan c
  if x.kind = 5 ∧ ¬ x.aoOpen ∧ 1000 ≤ x.aoRun then (s.setChan c { x with aoOpen := true }).fev 146 c 0 else s

def execAoOpen (c : Fin 64) (s : State) : Result := .next (aoOpen c s)

/-! ### Trim (R323, R324) -/

/-- Trim records of channel `c`. -/
def trimAt (c : Nat) : Nat := 0x205E0000 + 64 * c

/-- Whether 100 · a REAL32 current in mA lies in [lo, hi]. -/
def inMa (v lo hi : Nat) : Bool :=
  fin32 v && le64 (int64 lo) (mul64 (widen32 v) (int64 100)) && le64 (mul64 (widen32 v) (int64 100)) (int64 hi)

/-- The ranges that COMMIT checks. -/
def trimRange (m4 m20 : Nat) : Bool := inMa m4 380 420 && inMa m20 1980 2020

/-- Whether a copy of a trim record is good. -/
def trimGood (b : List Byte) : Bool := copyGood b && trimRange (u32 b 4) (u32 b 8)

/-- The trim record in use: M4, M20; none for an untrimmed channel. -/
def State.trimRead (s : State) (c : Nat) : Option (Nat × Nat) :=
  (s.copyRead (trimAt c) trimGood).map (fun b => (u32 b 4, u32 b 8))

/-- Whether a channel's 64 bytes of trim records are all zero: never trimmed. -/
def State.trimBlank (s : State) (c : Nat) : Bool := (s.bytes (trimAt c) 64).all (fun b => decide (b = 0))

/-- Write a trim record, and send it to the field side. -/
def State.trimWrite (s : State) (c m4 m20 : Nat) : State :=
  (s.copyWrite (trimAt c) trimGood (leBytes 4 m4 ++ leBytes 4 m20 ++ leBytes 4 0 ++ leBytes 8 (secOf s.now))).rimSend (.trim c m4 m20)

/-- Kind of a channel in the running image. -/
def State.hostKind (s : State) (c : Nat) : Nat :=
  match s.img with
  | some i =>
    let b := i.sec tyChannels
    match (recordsAt b 4 32 (u32 b 0)).find? (fun r => decide (u8 r 0 = c)) with
    | some r => u8 r 1
    | none => 0
  | none => 0

/-- End the session: the channel returns to its safe state. -/
def State.trimEnd (s : State) : State :=
  match s.trim with
  | some t =>
    let s := ({ s with trim := none }).setFlag Reg.CHN_TRIM_STAT_ACTIVE false |>.setFld Reg.CHN_TRIM_STAT_DRIVEN 0
    (s.modChan t.ch (fun x => { x with drive := 0 })).settle
  | none => s

/-- The result of an operation in CHN_TRIM_STAT; a refusal, COMMIT and CLEAR raise EV_TRIM. -/
def State.trimResult (s : State) (c r : Nat) (event : Bool) : State :=
  let s := (s.setFld Reg.CHN_TRIM_STAT_CH c).setFld Reg.CHN_TRIM_STAT_RESULT r
  if event ∨ r ≠ 1 then s.raise 152 (s.reg Reg.CHN_TRIM_STAT).toNat 0 else s

/-- Whether an operation on channel `c` finds the module, the channel and the session as it needs them. -/
def State.trimState (s : State) (c : Nat) (session : Bool) : Bool :=
  s.inHalt && decide (s.hostKind c = 5) &&
    (match s.trim with | some t => decide (t.ch = c) | none => !session)

/-- DRIVE. -/
def State.trimDrive (s : State) (c point : Nat) : State :=
  if ¬ s.trimState c false then s.trimResult c 2 true
  else if point ≠ 1 ∧ point ≠ 2 then s.trimResult c 3 true
  else
    let driven := (match s.trim with | some t => t.driven | none => 0) ||| point
    let s := ({ s with trim := some ⟨c, driven, s.mono⟩ }).setFlag Reg.CHN_TRIM_STAT_ACTIVE true |>.setFld Reg.CHN_TRIM_STAT_DRIVEN driven
    ((s.modChan c (fun x => { x with drive := point })).settle).trimResult c 1 false

/-- COMMIT. -/
def State.trimCommit (s : State) (c : Nat) (mram : Bool) : State :=
  let m4 := (s.reg Reg.CHN_TRIM_M4).toNat
  let m20 := (s.reg Reg.CHN_TRIM_M20).toNat
  if ¬ s.trimState c true then s.trimResult c 2 true
  else if s.fld Reg.CHN_TRIM_STAT_DRIVEN ≠ 3 then s.trimResult c 4 true
  else if ¬ trimRange m4 m20 then s.trimResult c 3 true
  else if ¬ mram then s.trimResult c 5 true
  else (s.trimWrite c m4 m20).trimResult c 1 true

/-- CLEAR. -/
def State.trimClear (s : State) (c : Nat) (mram : Bool) : State :=
  if ¬ s.trimState c false then s.trimResult c 2 true
  else if ¬ mram then s.trimResult c 5 true
  else (s.trimWrite c 0x40800000 0x41A00000).trimResult c 1 true

/-- A write of CHN_TRIM_CTRL with its key; `mram` says whether MRAM takes the record. -/
def trimCtrl (m : Master) (w : Word) (mram : Bool) (s : State) : State :=
  if ¬ s.mayWriteRegs m then s.denyWrite m Reg.CHN_TRIM_CTRL
  else if wordField w 24 8 ≠ 0x5A then s
  else
    let c := wordField w 0 6
    let s := (s.setFld Reg.CHN_TRIM_CTRL_CH c).setFld Reg.CHN_TRIM_CTRL_POINT (wordField w 8 2)
    match wordField w 16 3 with
    | 1 => s.trimDrive c (wordField w 8 2)
    | 2 => s.trimCommit c mram
    | 3 => if s.trimState c true then s.trimEnd.trimResult c 1 false else s.trimResult c 2 true
    | 4 => s.trimClear c mram
    | _ => s

def execTrimDrive (m : Master) (w : Word) (mram : Bool) (s : State) : Result := .next (trimCtrl m w mram s)
def execTrimCommit (m : Master) (w : Word) (mram : Bool) (s : State) : Result := .next (trimCtrl m w mram s)
def execTrimEnd (m : Master) (w : Word) (mram : Bool) (s : State) : Result := .next (trimCtrl m w mram s)
def execTrimClear (m : Master) (w : Word) (mram : Bool) (s : State) : Result := .next (trimCtrl m w mram s)

/-- TRIM_TIMEOUT: 300 s after the last DRIVE. -/
def trimTimeout (s : State) : State :=
  match s.trim with
  | some t => (s.toMono (t.at_ + 300000000000)).trimEnd
  | none => s

def execTrimTimeout (s : State) : Result := .next (trimTimeout s)

end Sys2Proof.Machine
end

