-- ==== Sys2Proof/Machine/Operands.lean ====
section
/-! DEFINITION. Block code's call words, operand words and operand spaces (R212 to R219): every way a block reads or writes an element. -/

namespace Sys2Proof.Machine

/-- An operand word (R219). -/
structure Opnd where
  space : Nat
  neg : Bool
  ty : Nat
  off : Nat
  deriving DecidableEq, Repr

def opndOf (w : Nat) : Opnd := ⟨bits w 29 3, bit w 28, bits w 24 4, bits w 0 24⟩

/-- A call word with its operand words (R218). -/
structure Call where
  op : Nat
  nops : Nat
  ty : Nat
  inst : Nat
  ops : List Opnd
  deriving DecidableEq, Repr

/-- The call at word `pc` of a task's code. -/
def Image.callAt (i : Image) (c pc : Nat) : Call :=
  let w := i.codeWord c pc
  ⟨bits w 24 8, bits w 20 4, bits w 16 4, bits w 0 16, (List.range (bits w 20 4)).map (fun k => opndOf (i.codeWord c (pc + 1 + k)))⟩

/-- A byte written over another store: the last byte written at a key. -/
def ovGet (l : List Host.Cell) (k : Nat) : Option Byte := (l.find? (fun p => p.1 = k)).map (·.2)
def ovPut (l : List Host.Cell) (k : Nat) : List Byte → List Host.Cell
  | [] => l
  | b :: bs => ovPut (Sparse.put (Sparse.drop l k) k b) (k + 1) bs

/-- Make every byte written over a store permanent. -/
def ovApply (base : List Host.Cell) : List Host.Cell → List Host.Cell
  | [] => base
  | (k, b) :: l => ovApply (Sparse.set memDefault base k b) l

/-- A byte of an operand space (R214 to R216): G reads the release's own write if there is one. -/
def State.spaceByte (s : State) (c space a : Nat) : Byte :=
  let t := s.task c
  match space with
  | 0 => imgByte t.input a
  | 1 => imgByte t.work a
  | 2 => imgByte t.v a
  | 3 => match s.img with | some i => i.kByte c a | none => 0
  | 4 => (ovGet t.gPend a).getD (imgByte s.g a)
  | 5 => imgByte t.lLatch a
  | _ => 0

/-- `n` bytes of an operand space. -/
def State.spaceBytes (s : State) (c space a n : Nat) : List Byte := (List.range n).map (fun i => s.spaceByte c space (a + i))

/-- An IMM operand converted exactly to its type (R219). -/
def immVal (ty off : Nat) : Nat :=
  let i := sint 24 off
  if tyReal ty then ((tyFmt ty).round (Fl.ofInt i).raw).bits else if ty = 1 then boolVal (decide (i ≠ 0)) else tyOfInt ty i

/-- A SYS value (R217). -/
def Task.sysVal (t : Task) (index : Nat) : Nat :=
  match index with
  | 0 => t.tRel / 1000 % 2 ^ 64
  | 1 => t.sysP % 2 ^ 64
  | 2 => boolVal t.sysFirst
  | 3 => t.sysTrick
  | _ => boolVal t.sysTrace

/-- Read an operand: its value and quality; K, L, IMM and SYS read GOOD (R212, R217). -/
def State.readEl (s : State) (c : Nat) (o : Opnd) : El :=
  let v := match o.space with
    | 6 => immVal o.ty o.off
    | 7 => (s.task c).sysVal o.off
    | sp => leNat (s.spaceBytes c sp o.off (tySize o.ty))
  let v := if o.ty = 1 then boolVal (xor (isTrue v) o.neg) else v
  let q := if o.space ≤ 2 ∨ o.space = 4 then (s.spaceByte c o.space (o.off + tyQual o.ty)).toNat else qGood
  ⟨v, q⟩

/-- The bytes of an element: value, quality, padding zeros (R212). -/
def elBytes (ty : Nat) (e : El) : List Byte :=
  leBytes (tySize ty) e.v ++ leBytes 1 e.q ++ List.replicate (tySize ty - 1) 0

/-- Add a line tag in ascending order, once. -/
def addTag (k : Nat) : List Nat → List Nat
  | [] => [k]
  | a :: l => if k < a then k :: a :: l else if k = a then a :: l else a :: addTag k l

/-- Tag every 64-byte line of [off, off+n) in a space (R462). -/
def addTags (space off n : Nat) (l : List Nat) : List Nat :=
  (List.range ((off + n - 1) / 64 + 1 - off / 64)).foldl (fun l i => addTag (space * 2 ^ 28 + 64 * (off / 64 + i)) l) l

/-- Write bytes into V, or over G, and mark their lines. -/
def Task.writeV (t : Task) (off : Nat) (bs : List Byte) : Task :=
  { t with v := imgWrite t.v off bs, lines := addTags 2 off bs.length t.lines }
def Task.writeG (t : Task) (off : Nat) (bs : List Byte) : Task :=
  { t with gPend := ovPut t.gPend off bs, lines := addTags 4 off bs.length t.lines }

/-- Write an element to its space (R212, R215, R216): Q, V, G or L. -/
def State.writeEl (s : State) (c : Nat) (o : Opnd) (e : El) : State :=
  let t := s.task c
  match o.space with
  | 1 => s.setTask c { t with work := imgWrite t.work o.off (elBytes o.ty e) }
  | 2 => s.setTask c (t.writeV o.off (elBytes o.ty e))
  | 4 => s.setTask c (t.writeG o.off (elBytes o.ty e))
  | 5 => s.setTask c { t with lPend := t.lPend ++ [(o.off, leBytes (tySize o.ty) e.v)] }
  | _ => s

/-- The first `n` operands, read (R222: all inputs before any output). -/
def State.ins (s : State) (c : Nat) (k : Call) (n : Nat) : List El := (k.ops.take n).map (fun o => s.readEl c o)

/-- Write results to outputs, in operand order. -/
def State.writeAll (s : State) (c : Nat) : List Opnd → List El → State
  | o :: os, e :: es => State.writeAll (s.writeEl c o e) c os es
  | _, _ => s

/-- Write the outputs of a call whose first `n` operands are inputs. -/
def State.outs (s : State) (c : Nat) (k : Call) (n : Nat) (es : List El) : State := s.writeAll c (k.ops.drop n) es

/-- The pair that runs a task. -/
def State.taskPair (s : State) (c : Nat) : Nat := s.fld (Reg.IMG_TASK_PAIR c)

/-- A task's next call runs now: it executes, and no task of higher priority does on its pair (R188, R222). -/
def State.running (s : State) (c : Nat) : Bool :=
  (s.task c).executing && (List.range c).all (fun d => !((s.task d).executing && decide (s.taskPair d = s.taskPair c)))

/-- The next call of a task, when it names block `op`. -/
def State.nextCall (s : State) (c op : Nat) : Option Call :=
  if s.running c then
    match s.img with
    | some i => let k := i.callAt c (s.task c).pc; if k.op = op then some k else none
    | none => none
  else none

/-- Move a task to another call word. -/
def State.goTo (s : State) (c pc : Nat) : State := s.setTask c { s.task c with pc := pc, begun := true }

/-- Execute the next call of task `c` as block `op`: its effect, then the call word after it (R222). Where the task does not execute, or its
next call word is another block's, nothing happens. -/
def runBlock (c op : Nat) (f : Call → State → State) (s : State) : State :=
  match s.nextCall c op with
  | some k => (f k s).goTo c ((s.task c).pc + 1 + k.nops)
  | none => s

end Sys2Proof.Machine
end

