-- ==== Sys2Proof/Machine/Blocks.lean ====
section
/-! DEFINITION. The standard blocks without instance data: control flow, logic, arithmetic, comparison, selection, quality (R222 to R228). -/

namespace Sys2Proof.Machine

/-! ### Control flow (R218, R222, R226) -/

/-- The target of a jump: a signed offset in words from the call word. -/
def Call.target (k : Call) (pc : Nat) : Nat := ((pc : Int) + sint 16 k.inst).toNat

/-- A jump taken when `cond` holds of the call; otherwise the next call word. -/
def runJump (c op : Nat) (cond : State → Call → Bool) (s : State) : State :=
  match s.nextCall c op with
  | some k =>
    let pc := (s.task c).pc
    s.goTo c (if cond s k then k.target pc else pc + 1 + k.nops)
  | none => s

/-- The condition operand's value (R222: its quality is ignored). -/
def State.cond (s : State) (c : Nat) (k : Call) : Bool := (s.ins c k 1).any (fun e => isTrue e.v)

def execJmp (c : Fin 9) (s : State) : Result := .next (runJump c 0x02 (fun _ _ => true) s)
def execJmpc (c : Fin 9) (s : State) : Result := .next (runJump c 0x03 (fun s k => s.cond c k) s)
def execJmpcn (c : Fin 9) (s : State) : Result := .next (runJump c 0x04 (fun s k => !s.cond c k) s)

/-! ### Blocks of one output -/

/-- A block whose inputs are all operands but the last, with one output computed from them. -/
def runPure (c op : Nat) (f : Call → List El → El) (s : State) : State :=
  runBlock c op (fun k s => s.outs c k (k.nops - 1) [f k (s.ins c k (k.nops - 1))]) s

/-- The element at a place of an input list. -/
def inAt (l : List El) (i : Nat) : El := l.getD i ⟨0, qGood⟩

/-- The qualities of a list of inputs. -/
def quals (l : List El) : List Nat := l.map (·.q)

def execMove (c : Fin 9) (s : State) : Result := .next (runPure c 0x08 (fun _ l => inAt l 0) s)

/-- CONV (R227): WIDEN or SAT as R166 defines them; TYPE names the conversion, the operands their types. -/
def convBlock (k : Call) (l : List El) : El :=
  let t := (k.ops.getD 0 ⟨0, false, 0, 0⟩).ty
  let u := (k.ops.getD 1 ⟨0, false, 0, 0⟩).ty
  let r := satTo u (numOf t (inAt l 0).v)
  ⟨r.1, qLower 1 r.2 (inAt l 0).q⟩

def execConv (c : Fin 9) (s : State) : Result := .next (runPure c 0x09 convBlock s)

/-- A logic block over the truth values of its inputs. -/
def logicBlock (f : List Bool → Bool) (_ : Call) (l : List El) : El := ⟨boolVal (f (l.map (fun e => isTrue e.v))), qWorst (quals l)⟩

def execLogAnd (c : Fin 9) (s : State) : Result := .next (runPure c 0x10 (logicBlock (fun l => l.all id)) s)
def execLogOr (c : Fin 9) (s : State) : Result := .next (runPure c 0x11 (logicBlock (fun l => l.any id)) s)
def execLogXor (c : Fin 9) (s : State) : Result := .next (runPure c 0x12 (logicBlock (fun l => l.foldl xor false)) s)
def execLogNot (c : Fin 9) (s : State) : Result := .next (runPure c 0x13 (logicBlock (fun l => l.all (fun b => !b))) s)

/-! ### Arithmetic (R227) -/

/-- A REAL step: rounded, and whether its result overflowed and was replaced. -/
def realStep (t : Nat) (f : Fl → Fl → Raw) (a b : Nat) : Nat × Bool :=
  let r := (tyFmt t).round (f ((tyFmt t).decode a) ((tyFmt t).decode b))
  (r.bits, r.ovf)

/-- A chain of REAL steps from left to right. -/
def realChain (t : Nat) (f : Fl → Fl → Raw) : Nat × Bool → List Nat → Nat × Bool
  | acc, [] => acc
  | (a, sat), b :: l => let r := realStep t f a b; realChain t f (r.1, sat || r.2) l

/-- A chain over all inputs: exact and clamped once for integers and TIME, step by step for REAL. -/
def chainVal (t : Nat) (fi : Int → Int → Int) (fr : Fl → Fl → Raw) : List Nat → Nat × Bool
  | [] => (0, false)
  | a :: l => if tyReal t then realChain t fr (a, false) l else clampInt t ((l.map (tyInt t)).foldl fi (tyInt t a))

/-- An arithmetic block: the result with SATURATED where it was clamped or replaced. -/
def arithBlock (f : Nat → List Nat → Nat × Bool) (k : Call) (l : List El) : El :=
  let r := f k.ty (l.map (·.v))
  ⟨r.1, qLower 1 r.2 (qWorst (quals l))⟩

def execAddBlock (c : Fin 9) (s : State) : Result := .next (runPure c 0x18 (arithBlock (fun t => chainVal t (· + ·) Fl.add)) s)
def execSubBlock (c : Fin 9) (s : State) : Result := .next (runPure c 0x19 (arithBlock (fun t => chainVal t (· - ·) Fl.sub)) s)
def execMulBlock (c : Fin 9) (s : State) : Result := .next (runPure c 0x1A (arithBlock (fun t => chainVal t (· * ·) Fl.mul)) s)

/-- Integer division by zero: 0, or the end of the range on the side of IN1. -/
def divZero (t : Nat) (a : Int) : Nat :=
  if a = 0 then 0 else tyOfInt t (if 0 < a then 2 ^ (8 * tySize t - 1) - 1 else -(2 ^ (8 * tySize t - 1) : Int))

/-- Quotient of two patterns: value, clamped or replaced, division by zero. -/
def divVal (t a b : Nat) : Nat × Bool × Bool :=
  if tyReal t then
    let f := tyFmt t
    let x := f.decode a
    let y := f.decode b
    if y.m = 0 then
      if x.m = 0 then (0, false, true) else ((if xor x.neg y.neg then f.signBit else 0) + f.inf - 1, false, true)
    else
      let r := f.round (x.div y)
      (r.bits, r.ovf, false)
  else if tyInt t b = 0 then (divZero t (tyInt t a), false, true)
  else
    let r := clampInt t ((tyInt t a).tdiv (tyInt t b))
    (r.1, r.2, false)

/-- DIV (R227). -/
def divBlock (k : Call) (l : List El) : El :=
  let r := divVal k.ty (inAt l 0).v (inAt l 1).v
  ⟨r.1, qWorsen 4 r.2.2 (qLower 1 r.2.1 (qWorst (quals l)))⟩

def execDivide (c : Fin 9) (s : State) : Result := .next (runPure c 0x1B divBlock s)

/-- MOD (R227): the remainder with the sign of IN1. -/
def modBlock (k : Call) (l : List El) : El :=
  let a := tyInt k.ty (inAt l 0).v
  let b := tyInt k.ty (inAt l 1).v
  ⟨if b = 0 then 0 else tyOfInt k.ty (a.tmod b), qWorsen 4 (decide (b = 0)) (qWorst (quals l))⟩

def execModulo (c : Fin 9) (s : State) : Result := .next (runPure c 0x1C modBlock s)

/-- NEG and ABS of one pattern (R227). -/
def negVal (t a : Nat) : Nat × Bool :=
  if tyReal t then ((a + (tyFmt t).signBit) % 2 ^ (8 * tySize t), false) else clampInt t (-(tyInt t a))
def absVal (t a : Nat) : Nat × Bool :=
  if tyReal t then (a % (tyFmt t).signBit, false) else clampInt t (if tyInt t a < 0 then -(tyInt t a) else tyInt t a)

def execNegBlock (c : Fin 9) (s : State) : Result := .next (runPure c 0x1D (arithBlock (fun t l => negVal t (l.getD 0 0))) s)
def execAbsBlock (c : Fin 9) (s : State) : Result := .next (runPure c 0x1E (arithBlock (fun t l => absVal t (l.getD 0 0))) s)

/-! ### Comparison, selection and limiting (R228) -/

/-- Exact comparison of two patterns of a type: less, and equal; BOOL compares truth values. -/
def ltVal (t a b : Nat) : Bool :=
  if tyReal t then ((tyFmt t).decode a).lt ((tyFmt t).decode b) else decide (tyInt t a < tyInt t b)
def eqVal (t a b : Nat) : Bool :=
  if tyReal t then ((tyFmt t).decode a).eq ((tyFmt t).decode b) else if t = 1 then decide (isTrue a = isTrue b) else decide (tyInt t a = tyInt t b)

/-- A comparison block. -/
def cmpBlock (f : Nat → Nat → Nat → Bool) (k : Call) (l : List El) : El :=
  ⟨boolVal (f k.ty (inAt l 0).v (inAt l 1).v), qWorst (quals l)⟩

def execCmpEq (c : Fin 9) (s : State) : Result := .next (runPure c 0x20 (cmpBlock eqVal) s)
def execCmpNe (c : Fin 9) (s : State) : Result := .next (runPure c 0x21 (cmpBlock (fun t a b => !eqVal t a b)) s)
def execCmpLt (c : Fin 9) (s : State) : Result := .next (runPure c 0x22 (cmpBlock ltVal) s)
def execCmpLe (c : Fin 9) (s : State) : Result := .next (runPure c 0x23 (cmpBlock (fun t a b => !ltVal t b a)) s)
def execCmpGt (c : Fin 9) (s : State) : Result := .next (runPure c 0x24 (cmpBlock (fun t a b => ltVal t b a)) s)
def execCmpGe (c : Fin 9) (s : State) : Result := .next (runPure c 0x25 (cmpBlock (fun t a b => !ltVal t a b)) s)

/-- SEL: G and the selected input contribute. -/
def selBlock (_ : Call) (l : List El) : El :=
  let x := if isTrue (inAt l 0).v then inAt l 2 else inAt l 1
  ⟨x.v, qWorst [(inAt l 0).q, x.q]⟩

def execSel (c : Fin 9) (s : State) : Result := .next (runPure c 0x28 selBlock s)

/-- MUX: IN_K, with K clamped to the inputs and INDEX set; K and the selected input contribute. -/
def muxBlock (_ : Call) (l : List El) : El :=
  let n : Int := (l.length : Int) - 1
  let k := tyInt 2 (inAt l 0).v
  let j : Int := if k < 0 then 0 else if k > n - 1 then n - 1 else k
  let x := inAt l (1 + j.toNat)
  ⟨x.v, qLower 5 (decide (j ≠ k)) (qWorst [(inAt l 0).q, x.q])⟩

def execMux (c : Fin 9) (s : State) : Result := .next (runPure c 0x29 muxBlock s)

/-- The value of a list that `better` picks: the first one that no later one betters. -/
def pickVal (better : Nat → Nat → Bool) : List Nat → Nat
  | [] => 0
  | a :: l => l.foldl (fun m x => if better x m then x else m) a

def execMaximum (c : Fin 9) (s : State) : Result :=
  .next (runPure c 0x2A (fun k l => ⟨pickVal (fun x m => ltVal k.ty m x) (l.map (·.v)), qWorst (quals l)⟩) s)
def execMinimum (c : Fin 9) (s : State) : Result :=
  .next (runPure c 0x2B (fun k l => ⟨pickVal (fun x m => ltVal k.ty x m) (l.map (·.v)), qWorst (quals l)⟩) s)

/-- LIMIT: OUT and ACT. -/
def limitVals (t : Nat) (l : List El) : List El :=
  let mn := (inAt l 0).v
  let x := (inAt l 1).v
  let mx := (inAt l 2).v
  let bad := ltVal t mx mn
  let out := if bad then mx else if ltVal t x mn then mn else if ltVal t mx x then mx else x
  let q := qLower 6 bad (qWorst (quals l))
  [⟨out, q⟩, ⟨boolVal (bad || !eqVal t out x), q⟩]

def execLimitBlock (c : Fin 9) (s : State) : Result :=
  .next (runBlock c 0x2C (fun k s => s.outs c k 3 (limitVals k.ty (s.ins c k 3))) s)

/-! ### Quality (R228) -/

def execQget (c : Fin 9) (s : State) : Result := .next (runPure c 0x60 (fun _ l => ⟨(inAt l 0).q, qGood⟩) s)
def execQset (c : Fin 9) (s : State) : Result := .next (runPure c 0x61 (fun _ l => ⟨(inAt l 0).v, (inAt l 1).v % 256⟩) s)
def execQok (c : Fin 9) (s : State) : Result := .next (runPure c 0x62 (fun _ l => ⟨boolVal (qUsable (inAt l 0).q), qGood⟩) s)

/-! ### Safety blocks without instance data (R346, R347) -/

/-- A safety BOOL counts TRUE only when its value is TRUE and its STATE is GOOD (R346). -/
def safeTrue (e : El) : Bool := isTrue e.v && decide (qState e.q = 0)

def execSand (c : Fin 9) (s : State) : Result := .next (runPure c 0x80 (fun _ l => ⟨boolVal (l.all safeTrue), qGood⟩) s)
def execSor (c : Fin 9) (s : State) : Result := .next (runPure c 0x81 (fun _ l => ⟨boolVal (l.any safeTrue), qGood⟩) s)
def execSval (c : Fin 9) (s : State) : Result := .next (runPure c 0x82 (fun _ l => ⟨boolVal (l.all safeTrue), qGood⟩) s)

/-- SGE: both GOOD and IN1 ≥ IN2, compared exactly. -/
def sgeBlock (k : Call) (l : List El) : El :=
  ⟨boolVal (l.all (fun e => decide (qState e.q = 0)) && !ltVal k.ty (inAt l 0).v (inAt l 1).v), qGood⟩

def execSge (c : Fin 9) (s : State) : Result := .next (runPure c 0x83 sgeBlock s)

end Sys2Proof.Machine
end

