-- ==== Sys2Proof/Machine/BlocksTime.lean ====
section
/-! DEFINITION. The blocks with instance data: ramps, rates, timers, counters, edges, bistables, the restart interlock (R229 to R234, R347). -/

namespace Sys2Proof.Machine

/-- Offset of a call's instance area in V (R234). -/
def Call.area (k : Call) : Nat := 8 * k.inst

/-- The instance area's flags byte and 8-byte words. -/
def State.instFlags (s : State) (c a : Nat) : Nat := (s.spaceByte c 2 a).toNat
def State.instWord (s : State) (c a n : Nat) : Nat := leNat (s.spaceBytes c 2 a n)

/-- Write bytes of an instance area; its lines count as written. -/
def State.instWrite (s : State) (c a : Nat) (bs : List Byte) : State := s.setTask c ((s.task c).writeV a bs)

/-- τ of the release, in µs (R203). -/
def State.tau (s : State) (c : Nat) : Int := tyInt 6 ((s.task c).sysVal 0)

/-- A 24-byte instance: flags, t_last, and one 8-byte value. -/
def inst24 (flags : Nat) (tLast : Int) (v : Nat) : List Byte :=
  leBytes 4 flags ++ leBytes 4 0 ++ leBytes 8 (tyOfInt 6 tLast) ++ leBytes 8 v

/-! ### Ramp and rate of change (R229, R230) -/

/-- d = (τ − t_last) / 1,000,000 s in REAL64. -/
def secsSince (tau last : Int) : Nat := div64 (int64 (tau - last)) (int64 1000000)

/-- A value of REAL32 or REAL64 as REAL64, and back (clamped). -/
def toR64 (t v : Nat) : Nat := if t = 4 then widen32 v else v
def ofR64 (t v : Nat) : Nat × Bool := if t = 4 then (let r := narrow64 v; (r.bits, r.ovf)) else (v, false)

/-- RAMP's next Y, in REAL64 (R229). -/
def rampY (y x rup rdn tv d : Nat) (trk : Bool) : Nat :=
  if trk then tv
  else if lt64 y x then min64 x (add64 y (mul64 (max64 rup 0) d))
  else if lt64 x y then max64 x (sub64 y (mul64 (max64 rdn 0) d))
  else y

/-- RAMP (R229): operands X, RUP, RDN, TRK, TV; Y and BUSY. -/
def rampBlock (c : Nat) (k : Call) (s : State) : State :=
  let l := s.ins c k 5
  let a := k.area
  let used := bit (s.instFlags c a) 0
  let tau := s.tau c
  let tv := toR64 k.ty (inAt l 4).v
  let x := toR64 k.ty (inAt l 0).v
  let y0 := if used then s.instWord c (a + 16) 8 else tv
  let last := if used then tyInt 6 (s.instWord c (a + 8) 8) else tau
  let trk := isTrue (inAt l 3).v
  let y := rampY y0 x (toR64 k.ty (inAt l 1).v) (toR64 k.ty (inAt l 2).v) tv (secsSince tau last) trk
  let qy := if trk ∨ ¬ used then (inAt l 4).q else (inAt l 0).q
  let s := s.instWrite c a (inst24 1 tau y)
  s.outs c k 5 [⟨(ofR64 k.ty y).1, qy⟩, ⟨boolVal (!(le64 x y && le64 y x)), qWorst (quals l)⟩]

def execRamp (c : Fin 9) (s : State) : Result := .next (runBlock c 0x30 (rampBlock c) s)

/-- ROC's rate and whether its computation overflowed (R230): the difference of two values over the seconds between them. -/
def rocRate (t x x0 secs : Nat) : Nat × Bool :=
  let diff := fmt64.round ((r64 x).sub (r64 x0))
  let rate := fmt64.round ((r64 diff.bits).div (r64 secs))
  let r := ofR64 t rate.bits
  (r.1, diff.ovf || rate.ovf || r.2)

/-- ROC (R230): operands X, LIM; RATE and ALM. An evaluation without elapsed time changes nothing, and its outputs keep what the block wrote
before. -/
def rocBlock (c : Nat) (k : Call) (s : State) : State :=
  let l := s.ins c k 2
  let a := k.area
  let fl := s.instFlags c a
  let tau := s.tau c
  let x := toR64 k.ty (inAt l 0).v
  let q := qWorst (quals l)
  if ¬ bit fl 0 then (s.instWrite c a (inst24 1 tau x)).outs c k 2 [⟨0, q⟩, ⟨0, q⟩]
  else
    let last := tyInt 6 (s.instWord c (a + 8) 8)
    if tau ≤ last then s
    else
      let n := bits fl 4 4
      let r := rocRate k.ty x (s.instWord c (a + 16) 8) (secsSince tau last)
      let alm := decide (8 ≤ n) && lt64 (toR64 k.ty (inAt l 1).v) (abs64 (toR64 k.ty r.1))
      let s := s.instWrite c a (inst24 (1 + 16 * min 8 (n + 1)) tau x)
      s.outs c k 2 [⟨r.1, qLower 1 r.2 q⟩, ⟨boolVal alm, q⟩]

def execRoc (c : Fin 9) (s : State) : Result := .next (runBlock c 0x31 (rocBlock c) s)

/-! ### Timers (R231) -/

/-- A timer's instance: previous input, Q, running, elapsed. -/
structure Timer where
  prev : Bool
  q : Bool
  run : Bool
  elapsed : Int
  deriving DecidableEq, Repr

/-- Elapsed time saturates at 2^63 − 1 µs. -/
def satAdd (a d : Int) : Int := satInt 64 (a + d)

def tonStep (x : Bool) (pt delta : Int) (t : Timer) : Timer :=
  let el := if x ∧ t.prev then satAdd t.elapsed delta else 0
  { prev := x, q := x && decide (pt ≤ el), run := false, elapsed := el }

def tofStep (x : Bool) (pt delta : Int) (t : Timer) : Timer :=
  if x then { prev := x, q := true, run := false, elapsed := 0 }
  else
    let run := t.prev || t.run
    let el := if t.prev then 0 else if t.run then satAdd t.elapsed delta else t.elapsed
    if run ∧ pt ≤ el then { prev := x, q := false, run := false, elapsed := el } else { prev := x, q := t.q, run := run, elapsed := el }

def tpStep (x : Bool) (pt delta : Int) (t : Timer) : Timer :=
  let u : Timer :=
    if t.run then
      let el := satAdd t.elapsed delta
      if pt ≤ el then { t with elapsed := el, run := false, q := false } else { t with elapsed := el }
    else if x ∧ ¬ t.prev then { t with elapsed := 0, q := decide (0 < pt), run := decide (0 < pt) }
    else t
  { u with elapsed := if ¬ u.run ∧ ¬ x then 0 else u.elapsed, prev := x }

/-- A timer block: operands IN, PT; Q and ET. `first` is the previous input taken at first use. -/
def timerBlock (c : Nat) (first : Bool → Bool) (step : Bool → Int → Int → Timer → Timer) (k : Call) (s : State) : State :=
  let l := s.ins c k 2
  let a := k.area
  let fl := s.instFlags c a
  let x := isTrue (inAt l 0).v
  let tau := s.tau c
  let used := bit fl 0
  let t : Timer := if used then ⟨bit fl 1, bit fl 2, bit fl 3, tyInt 6 (s.instWord c (a + 16) 8)⟩ else ⟨first x, false, false, 0⟩
  let last := if used then tyInt 6 (s.instWord c (a + 8) 8) else tau
  let pt := max (tyInt 6 (inAt l 1).v) 0
  let u := step x pt (tau - last) t
  let q := qWorst (quals l)
  let s := s.instWrite c a (inst24 (1 + 2 * b2n u.prev + 4 * b2n u.q + 8 * b2n u.run) tau (tyOfInt 6 u.elapsed))
  s.outs c k 2 [⟨boolVal u.q, q⟩, ⟨tyOfInt 6 (min u.elapsed pt), q⟩]

def execTon (c : Fin 9) (s : State) : Result := .next (runBlock c 0x40 (timerBlock c (fun _ => false) tonStep) s)
def execTof (c : Fin 9) (s : State) : Result := .next (runBlock c 0x41 (timerBlock c (fun x => x) tofStep) s)
def execTpTimer (c : Fin 9) (s : State) : Result := .next (runBlock c 0x42 (timerBlock c (fun _ => false) tpStep) s)

/-! ### Counters (R232) -/

/-- A counter's value and overflow flag. -/
structure Counter where
  cv : Int
  ovf : Bool
  deriving DecidableEq, Repr

def countUp (t : Nat) (x : Counter) : Counter :=
  if x.cv = 2 ^ (8 * tySize t - 1) - 1 then { x with ovf := true } else { x with cv := x.cv + 1 }
def countDown (t : Nat) (x : Counter) : Counter :=
  if x.cv = -(2 ^ (8 * tySize t - 1) : Int) then { x with ovf := true } else { x with cv := x.cv - 1 }

/-- An 8-byte instance of a counter. -/
def State.counterAt (s : State) (c a : Nat) : Counter :=
  ⟨sint 32 (s.instWord c (a + 4) 4), bit (s.instFlags c a) 3⟩
def instCounter (prevU prevD : Bool) (x : Counter) : List Byte :=
  leBytes 4 (1 + 2 * b2n prevU + 4 * b2n prevD + 8 * b2n x.ovf) ++ leBytes 4 (unsint 32 x.cv)

/-- CTU: operands CU, R, PV; Q, CV, OVF. -/
def ctuBlock (c : Nat) (k : Call) (s : State) : State :=
  let l := s.ins c k 3
  let a := k.area
  let fl := s.instFlags c a
  let cu := isTrue (inAt l 0).v
  let prev := if bit fl 0 then bit fl 1 else cu
  let x := s.counterAt c a
  let y := if isTrue (inAt l 1).v then ⟨0, false⟩ else if cu ∧ ¬ prev then countUp k.ty x else x
  let q := qWorst (quals l)
  (s.instWrite c a (instCounter cu false y)).outs c k 3
    [⟨boolVal (decide (tyInt k.ty (inAt l 2).v ≤ y.cv)), q⟩, ⟨tyOfInt k.ty y.cv, q⟩, ⟨boolVal y.ovf, q⟩]

def execCtu (c : Fin 9) (s : State) : Result := .next (runBlock c 0x48 (ctuBlock c) s)

/-- CTD: operands CD, LD, PV; Q, CV, OVF. -/
def ctdBlock (c : Nat) (k : Call) (s : State) : State :=
  let l := s.ins c k 3
  let a := k.area
  let fl := s.instFlags c a
  let cd := isTrue (inAt l 0).v
  let prev := if bit fl 0 then bit fl 2 else cd
  let x := s.counterAt c a
  let y := if isTrue (inAt l 1).v then ⟨tyInt k.ty (inAt l 2).v, false⟩ else if cd ∧ ¬ prev then countDown k.ty x else x
  let q := qWorst (quals l)
  (s.instWrite c a (instCounter false cd y)).outs c k 3
    [⟨boolVal (decide (y.cv ≤ 0)), q⟩, ⟨tyOfInt k.ty y.cv, q⟩, ⟨boolVal y.ovf, q⟩]

def execCtd (c : Fin 9) (s : State) : Result := .next (runBlock c 0x49 (ctdBlock c) s)

/-- CTUD: operands CU, CD, R, LD, PV; QU, QD, CV, OVF. -/
def ctudBlock (c : Nat) (k : Call) (s : State) : State :=
  let l := s.ins c k 5
  let a := k.area
  let fl := s.instFlags c a
  let cu := isTrue (inAt l 0).v
  let cd := isTrue (inAt l 1).v
  let eu := cu && !(if bit fl 0 then bit fl 1 else cu)
  let ed := cd && !(if bit fl 0 then bit fl 2 else cd)
  let x := s.counterAt c a
  let pv := tyInt k.ty (inAt l 4).v
  let y := if isTrue (inAt l 2).v then ⟨0, false⟩ else if isTrue (inAt l 3).v then ⟨pv, false⟩
    else if eu ∧ ¬ ed then countUp k.ty x else if ed ∧ ¬ eu then countDown k.ty x else x
  let q := qWorst (quals l)
  (s.instWrite c a (instCounter cu cd y)).outs c k 5
    [⟨boolVal (decide (pv ≤ y.cv)), q⟩, ⟨boolVal (decide (y.cv ≤ 0)), q⟩, ⟨tyOfInt k.ty y.cv, q⟩, ⟨boolVal y.ovf, q⟩]

def execCtud (c : Fin 9) (s : State) : Result := .next (runBlock c 0x4A (ctudBlock c) s)

/-! ### Edge detectors, bistables, restart interlock (R233, R347) -/

/-- An 8-byte instance of flags alone. -/
def instFlagBytes (f : Nat) : List Byte := leBytes 8 f

/-- R_TRIG and F_TRIG: operand CLK; Q. -/
def trigBlock (c : Nat) (f : Bool → Bool → Bool) (k : Call) (s : State) : State :=
  let l := s.ins c k 1
  let a := k.area
  let fl := s.instFlags c a
  let x := isTrue (inAt l 0).v
  let prev := if bit fl 0 then bit fl 1 else x
  (s.instWrite c a (instFlagBytes (1 + 2 * b2n x))).outs c k 1 [⟨boolVal (f x prev), (inAt l 0).q⟩]

def execRTrig (c : Fin 9) (s : State) : Result := .next (runBlock c 0x50 (trigBlock c (fun x p => x && !p)) s)
def execFTrig (c : Fin 9) (s : State) : Result := .next (runBlock c 0x51 (trigBlock c (fun x p => p && !x)) s)

/-- SR and RS: two operands; Q1, FALSE before the first evaluation. -/
def bistable (c : Nat) (f : Bool → Bool → Bool → Bool) (k : Call) (s : State) : State :=
  let l := s.ins c k 2
  let a := k.area
  let fl := s.instFlags c a
  let q1 := f (isTrue (inAt l 0).v) (isTrue (inAt l 1).v) (bit fl 0 && bit fl 1)
  (s.instWrite c a (instFlagBytes (1 + 2 * b2n q1))).outs c k 2 [⟨boolVal q1, qWorst (quals l)⟩]

def execSr (c : Fin 9) (s : State) : Result := .next (runBlock c 0x58 (bistable c (fun set reset q => set || (q && !reset))) s)
def execRs (c : Fin 9) (s : State) : Result := .next (runBlock c 0x59 (bistable c (fun set reset q => !reset && (set || q))) s)

/-- RESTART (R347): operands PERMIT, RST; Q. PREV_RST keeps what RST counts as. -/
def restartInterlock (c : Nat) (k : Call) (s : State) : State :=
  let l := s.ins c k 2
  let a := k.area
  let fl := s.instFlags c a
  let permit := safeTrue (inAt l 0)
  let rst := safeTrue (inAt l 1)
  let prev := if bit fl 0 then bit fl 1 else rst
  let en := permit && ((bit fl 0 && bit fl 2) || (rst && !prev))
  (s.instWrite c a (instFlagBytes (1 + 2 * b2n rst + 4 * b2n en))).outs c k 2 [⟨boolVal en, qGood⟩]

def execRestartBlock (c : Fin 9) (s : State) : Result := .next (runBlock c 0x88 (restartInterlock c) s)

end Sys2Proof.Machine
end

