-- ==== Sys2Proof/Machine/RimHost.lean ====
section
/-! DEFINITION. The Rim's host half (11): IN frames, Rim loss, and what the host half does with Pair F's reports. -/

namespace Sys2Proof.Machine

/-! ### IN frames (R298 to R301, R310) -/

/-- Statistics that the field side reports count on the host side (R299, R300, R285, R357). -/
def State.fieldCount (s : State) (e : FieldEvent) : State :=
  if e.src = 130 then s.bump Reg.CHN_RIMERR_OUT_ERR Reg.CHN_RIMERR_OUT_SAT
  else if e.src = 140 then (s.bump Reg.CHN_LATE_COUNT Reg.CHN_LATE_SAT).setFld Reg.CHN_LATE_LAST (e.lo % 64)
  else if e.src = 141 then (s.bump Reg.CHN_SLOTOVR_COUNT Reg.CHN_SLOTOVR_SAT).setFld Reg.CHN_SLOTOVR_LAST (e.lo % 64)
  else if e.src = 162 then s.bump Reg.SAF_TRIPS_COUNT Reg.SAF_TRIPS_SAT
  else s

/-- Count `n` into a saturating field. -/
def State.bumpBy (s : State) (cnt sat : Field) : Nat → State
  | 0 => s
  | n + 1 => State.bumpBy (s.bump cnt sat) cnt sat n

/-- The gateway registers of one channel. -/
def State.showChan (s : State) (c : Nat) (x : ChIn) : State :=
  let s := (s.setReg (Reg.CHN_CH c) (BitVec.ofNat 32 x.chReg)).setReg (Reg.CHN_VT c) (BitVec.ofNat 32 x.vtReg)
  let s := s.setReg (Reg.CHN_IA c) (BitVec.ofNat 32 x.iaReg)
  let s := (s.setFld ⟨Reg.CHN_HART c, 0, 8⟩ x.haReg).setFld (Reg.CHN_HART_DS c) (x.haReg / 2 ^ 24)
  let s := s.bumpBy (Reg.CHN_HART_FAILS c) (Reg.CHN_HART_SAT c) x.fails
  s.setFld (Reg.CHN_HART_LOST c) (min 15 (s.fld (Reg.CHN_HART_LOST c) + x.lost))

def State.showChans (s : State) : Nat → List ChIn → State
  | _, [] => s
  | c, x :: xs => State.showChans (s.showChan c x) (c + 1) xs

/-- CHN_STAT, groups and functions as the frame gives them. -/
def State.showFrame (s : State) (f : RimIn) : State :=
  let s := s.setFld ⟨Reg.CHN_STAT, 1, 8⟩ (f.stat / 2)
  let s := (s.setReg (Reg.CHN_GRP 0) (BitVec.ofNat 32 (f.grps.getD 0 0))).setReg (Reg.CHN_GRP 1) (BitVec.ofNat 32 (f.grps.getD 1 0))
  let s := s.showChans 0 f.chans
  f.fns.foldl (fun s p => s.setReg (Reg.SAF_FN p.1) (BitVec.ofNat 32 p.2.1)) s

/-- A valid IN frame is delivered: registers, the Rim up, and the field events in their order. -/
def State.deliver (s : State) (f : RimIn) : State :=
  let s := { s with rim := { s.rim with old := s.rim.cur, cur := some (s.now, f), lastIn := s.mono, lossAt := none } }
  let was := s.flag Reg.CHN_STAT_RIM_UP
  let s := (s.showFrame f).setFlag Reg.CHN_STAT_RIM_UP true
  let s := if was then s else s.raise 129 0 0
  f.events.foldl (fun s e => (s.fieldCount e).raiseField e) s

/-- EV_RIM_CRC of the host half (R299). -/
def State.inError (s : State) : State := s.raise 130 (256 * 0x81) 0

def FieldFrame.isInp : FieldFrame → Bool | .inp _ => true | _ => false

/-- The first IN frame on the Rim. -/
def State.inTake (s : State) : Option (RimIn × State) :=
  match s.toHost.find? FieldFrame.isInp with
  | some (.inp f) => some (f, { s with toHost := s.toHost.erase (.inp f) })
  | _ => none

/-- RIM_IN_FRAME. -/
def rimInFrame (rx : RimRx) (s : State) : State :=
  match s.inTake with
  | some (f, s) =>
    match rx with
    | .crcFail => (s.bump Reg.CHN_RIMERR_IN_ERR Reg.CHN_RIMERR_IN_SAT).inError
    | .gap => s.inError.deliver f
    | .whole => s.deliver f
  | none => s

def execRimInFrame (rx : RimRx) (s : State) : Result := .next (rimInFrame rx s)

/-- The words of a message as bytes. -/
def wordBytes (ws : List Word) : List Byte := ws.flatMap (fun w => leBytes 4 w.toNat)

/-- RIM_CTRL_IN_FRAME (R140): a post of Pair F fills its mailbox; a take of Pair F clears FULL; either raises EV_MBXm. -/
def rimCtrlIn (s : State) : State :=
  match s.toHost.find? (fun f => !f.isInp) with
  | some (.ctrlPost b hdr msg) =>
    let s := { s with toHost := s.toHost.erase (.ctrlPost b hdr msg), rim := { s.rim with inbox := s.rim.inbox ++ [(b, wordBytes msg)] } }
    let s := (msg.zip (List.range 8)).foldl (fun s p => s.setReg (Reg.MBX_RX b p.2) p.1) s
    ((s.setReg (Reg.MBX_RXHDR b) hdr).setFlag (Reg.MBX_STAT_FULL b) true).raise (72 + b) hdr.toNat 0
  | some (.ctrlTake b) =>
    (({ s with toHost := s.toHost.erase (.ctrlTake b) }).mbxClear b).raise (72 + b) (s.reg (Reg.MBX_RXHDR b)).toNat 0
  | _ => s

def execRimCtrlInFrame (s : State) : Result := .next (rimCtrlIn s)

/-! ### Rim loss (R301, R306, R518) -/

/-- FARMED clears at a Rim loss or a field restart (R367). -/
def State.fieldDisarm (s : State) : State :=
  if s.flag Reg.SAF_STAT_FARMED then
    let s := s.setFlag Reg.SAF_STAT_FARMED false
    s.raise 168 (s.reg Reg.SAF_STAT).toNat 0
  else s

/-- The reaction to Rim loss by role: a unit in control without a STANDBY partner runs on. -/
def State.rimReact (s : State) : State :=
  if (s.cpm.phase ≠ .run ∧ s.cpm.phase ≠ .doze) ∨ s.cpm.haltOnStop then s
  else if s.inControl then
    if s.fld Reg.RDL_STAT_ROLE = 2 ∧ s.partnerStandby then s.giveUp 4 0 128 true else s
  else if s.fld Reg.RDL_STAT_ROLE = 3 ∨ s.fld Reg.RDL_STAT_ROLE = 4 then s.leavePair 0 128
  else s

/-- RIM_LOSS: no valid IN frame for 300 µs. -/
def rimLoss (s : State) : State :=
  if s.flag Reg.CHN_STAT_RIM_UP then
    let s := s.toMono (s.rim.lastIn + 300000)
    let s := { s with rim := { s.rim with lossAt := some s.mono } }
    (((s.setFlag Reg.CHN_STAT_RIM_UP false).raise 128 0 0).fieldDisarm).rimReact
  else s

def execRimLoss (s : State) : Result := .next (rimLoss s)

/-- RIM_RECOVERY_TIMEOUT: a unit that runs on stops when the field side has not returned 50 ms after EV_RIM_LOSS. -/
def rimRecovery (s : State) : State :=
  match s.rim.lossAt with
  | some t =>
    if s.inControl ∧ (s.cpm.phase = .run ∨ s.cpm.phase = .doze) ∧ ¬ s.cpm.haltOnStop then
      let s := s.toMono (t + 50000000)
      ({ s with rim := { s.rim with lossAt := none } }).stationStop 0 128
    else s
  | none => s

def execRimRecoveryTimeout (s : State) : Result := .next (rimRecovery s)

/-! ### Reports of Pair F (R307) -/

/-- The first report in mailbox `b` of a type, not yet acted on. -/
def State.report (s : State) (b ty : Nat) : Option (List Byte × State) :=
  match s.rim.inbox.find? (fun e => decide (e.1 = b) && decide (u8 e.2 0 = ty)) with
  | some e => some (e.2, { s with rim := { s.rim with inbox := s.rim.inbox.erase e } })
  | none => none

/-- MODE_DONE. -/
def modeDoneMsg (s : State) : State :=
  match s.report 20 0x81 with
  | some (m, s) => s.raise 142 (leNat (slice m 1 3)) 0
  | none => s

def execModeDone (s : State) : Result := .next (modeDoneMsg s)

/-- The CFG frame of the running image (R280, R298, R303). -/
def State.wdogTimeout (s : State) : Nat :=
  match s.img.bind (fun i => i.systemTag 0x0300) with
  | some b => u32 b 0
  | none => if s.onPairCarrier then max 1000 (100 * ceilDiv (s.pT0 / 1000 + 300) 100) else 1000

def State.safeChk (s : State) : Nat := match s.img with | some i => i.safeChk | none => 0

/-- Send the configuration, then the trim record of every AO channel that has one; a channel whose copies both fail is reported (R324). -/
def State.sendTrim (s : State) (c : Nat) : State :=
  if s.hostKind c = 5 then
    match s.trimRead c with
    | some (m4, m20) => s.rimSend (.trim c m4 m20)
    | none => if s.trimBlank c then s else (s.setFld Reg.CHN_TRIM_STAT_CH c).raise 152 (s.reg Reg.CHN_TRIM_STAT).toNat 0
  else s

def State.sendCfg (s : State) : State :=
  match s.img with
  | some i =>
    let w := s.wdogTimeout
    let s := s.setFld Reg.CHN_WDOG_TIMEOUT w
    let s := s.rimSend (.cfg (i.sec tyChannels) (i.sec tySafety) s.safeChk w (s.fld Reg.CPM_STAT_SLOT))
    (List.range 64).foldl (fun s c => s.sendTrim c) s
  | none => s.rimSend (.cfg [] [] 0 s.wdogTimeout (s.fld Reg.CPM_STAT_SLOT))

/-- Whether the station runs (R304, R306): in RUN or DOZE, with no stop under way. -/
def State.runsOn (s : State) : Bool := (decide (s.cpm.phase = .run) || decide (s.cpm.phase = .doze)) && !s.cpm.haltOnStop

/-- Whether the unit runs in control. -/
def State.runsInControl (s : State) : Bool := s.runsOn && s.inControl

/-- Post RUN_GRANT. -/
def State.postGrant (s : State) : State := s.hostPost 16 0 [0x03]

/-- Arm the safety halves (R367): only a confirmed unit in RUN. -/
def State.armRequest (s : State) : State :=
  if s.flag Reg.SAF_STAT_CONF ∧ (s.cpm.phase = .run ∨ s.cpm.phase = .doze) ∧ ¬ s.cpm.haltOnStop then
    let was := s.flag Reg.SAF_STAT_ARMED
    let s := (s.setFlag Reg.SAF_STAT_ARMED true).hostPost 18 0 ([0x20, 0, 0, 0] ++ leBytes 4 s.safeChk ++ [1])
    if was then s else s.raise 168 (s.reg Reg.SAF_STAT).toNat 0
  else s

/-- FIELD_STARTED (R306): the configuration is sent again; a unit that runs on grants again and arms again. -/
def fieldStarted (s : State) : State :=
  match s.report 20 0x82 with
  | some (m, s) =>
    let s := { s with rim := { s.rim with lossAt := none } }
    let s := (s.raise 131 (u8 m 1 + 256 * u8 m 2) 0).fieldDisarm.trimEnd.sendCfg
    if s.runsOn then s.postGrant.armRequest else s
  | none => s

def execFieldStarted (s : State) : Result := .next (fieldStarted s)

/-- ARM_DONE (R367): status 0 sets FARMED for an arming. -/
def armDone (s : State) : State :=
  match s.report 22 0xA0 with
  | some (m, s) =>
    let now := decide (u8 m 1 = 1)
    if u8 m 2 = 0 ∧ s.flag Reg.SAF_STAT_FARMED ≠ now then
      let s := s.setFlag Reg.SAF_STAT_FARMED now
      s.raise 168 (s.reg Reg.SAF_STAT).toNat 0
    else s
  | none => s

def execArmDone (s : State) : Result := .next (armDone s)

/-- RESET_DONE (R367): the acknowledged functions leave the mask of resets under way. -/
def resetDone (s : State) : State :=
  match s.report 22 0xA1 with
  | some (m, s) => { s with saf := { s.saf with resets := s.saf.resets - (s.saf.resets &&& leNat (slice m 4 16)) } }
  | none => s

def execResetDone (s : State) : Result := .next (resetDone s)

end Sys2Proof.Machine
end

