-- ==== Sys2Proof/Machine/Sources.lean ====
section
/-! DEFINITION. Where routed values come from (06, R163 to R167): the value and quality each kind of source shows to a reader at an instant. -/

namespace Sys2Proof.Machine

/-! ### Packed elements (R372) -/

/-- Bytes of a list of element types, packed; the offset of the n-th. -/
def wireLen (types : List Nat) : Nat := (types.map tySize).foldl (· + ·) 0
def wireOff (types : List Nat) (n : Nat) : Nat := wireLen (types.take n)

/-- Read the n-th element of a packed payload. -/
def wireGet (types : List Nat) (data : List Byte) (n : Nat) : Nat :=
  let t := types.getD n 0
  let v := beNat (slice data (wireOff types n) (tySize t))
  if t = 1 then boolVal (isTrue v) else v

/-- Pack values. -/
def wirePut : List Nat → List Nat → List Byte
  | t :: ts, v :: vs => beBytes (tySize t) v ++ wirePut ts vs
  | t :: ts, [] => beBytes (tySize t) 0 ++ wirePut ts []
  | [], _ => []

/-! ### Records of stations and connections (R370, R386) -/

/-- A station record. -/
structure StnRec where
  num : Nat
  ecx : Bool
  task : Nat
  group : Nat
  lead : Nat
  slotUs : Nat
  timeout : Nat
  addr : Nat
  port : Nat
  inObj : Nat
  outObj : Nat
  ins : List Nat
  outs : List Nat
  deriving DecidableEq, Repr

def stnRecOf (b : List Byte) : StnRec :=
  let ni := u16 b 24
  let no := u16 b 26
  { num := u8 b 0, ecx := decide (u8 b 1 = 1), task := u8 b 2, group := u8 b 3, lead := u32 b 4, slotUs := u32 b 8, timeout := u32 b 12,
    addr := beNat (slice b 16 4), port := u8 b 16, inObj := u16 b 20, outObj := u16 b 22,
    ins := (List.range ni).map (fun k => u8 b (28 + k)), outs := (List.range no).map (fun k => u8 b (28 + ni + k)) }

/-- The records of the NET section. -/
def Image.netRecs (i : Image) : List (Nat × List Byte) := tagRecords (i.sec tyNet) (i.sec tyNet).length 0
def Image.netTag (i : Image) (tag : Nat) : Option (List Byte) := (i.netRecs.find? (fun r => decide (r.1 = tag))).map (·.2)
def Image.stnRecs (i : Image) : List StnRec := (i.netRecs.filter (fun r => decide (r.1 = 0x0100))).map (fun r => stnRecOf r.2)
def State.stnRecs (s : State) : List StnRec := match s.img with | some i => i.stnRecs | none => []
def State.stnRec (s : State) (n : Nat) : Option StnRec := s.stnRecs.find? (fun r => decide (r.num = n))

/-- An ESC connection record. -/
structure EscRec where
  num : Nat
  produced : Bool
  can : Bool
  len : Nat
  id : Nat
  wdog : Nat
  carrier : Nat
  place : Nat
  types : List Nat
  deriving DecidableEq, Repr

def escRecOf (b : List Byte) : EscRec :=
  { num := u8 b 0, produced := decide (u8 b 1 = 1), can := decide (u8 b 2 = 2), len := u8 b 3, id := u32 b 4, wdog := u16 b 8,
    carrier := u8 b 12, place := u16 b 14, types := (List.range (u8 b 10)).map (fun k => u8 b (16 + k)) }

def Image.escRecs (i : Image) : List EscRec :=
  let b := i.sec tyEsc
  (recordsAt b 4 48 (min 256 (u32 b 0))).map escRecOf
def State.escRecs (s : State) : List EscRec := match s.img with | some i => i.escRecs | none => []
def State.escRec (s : State) (n : Nat) : Option EscRec := s.escRecs.find? (fun r => decide (r.num = n))

/-- The PDU regions in a station's payload, in or out (R390). -/
def State.escRegions (s : State) (stn : Nat) (out : Bool) : List EscRec :=
  s.escRecs.filter (fun r => !r.can && decide (r.carrier = stn) && decide (r.produced = out))

/-- Length of a station's payload: its elements and the PDU regions behind them. -/
def State.payloadLen (s : State) (r : StnRec) (out : Bool) : Nat :=
  ((s.escRegions r.num out).map (fun e => e.place + e.len + 10)).foldl max (wireLen (if out then r.outs else r.ins))

/-! ### Channels (R18, R301) -/

/-- The newest IN frame delivered strictly before an instant. -/
def State.rimAt (s : State) (t : Nat) : Option RimIn :=
  match s.rim.cur with
  | some (d, f) => if d < t then some f else s.rim.old.map (·.2)
  | none => none

/-- The mark of a late or lost Rim on a value's quality: BAD while the Rim is down, UNCERTAIN where the round ended more than 125 µs before. -/
def State.rimMark (s : State) (t : Nat) (f : RimIn) (q : Nat) : Nat :=
  if ¬ s.flag Reg.CHN_STAT_RIM_UP then qBad 0x0F
  else if f.round + 225000 < t then max 1 (qState q) + 4 * 0x0F
  else q

/-- An element of a list of (code, value, quality); nothing yet reads 0, BAD, NO_VALUE (R207). -/
def elOf (l : List (Nat × Nat × Nat)) (code : Nat) : El :=
  match l.find? (fun e => decide (e.1 = code)) with
  | some e => ⟨e.2.1, e.2.2⟩
  | none => ⟨0, qBad 3⟩

/-- A channel's source element. -/
def State.chanEl (s : State) (t c sub : Nat) : El :=
  match s.rimAt t with
  | some f =>
    let e := elOf ((f.chans.getD c ⟨[], 0, 0, 0, 0, 0, 0⟩).vals) sub
    ⟨e.v, s.rimMark t f e.q⟩
  | none => ⟨0, qBad 3⟩

/-! ### Loop slots (R240, R262, R267) -/

/-- Address of a slot. -/
def slotAddr (n : Nat) : Nat := 0x41000000 + 256 * n

/-- A slot's 256 bytes as a reader at `t` sees them: a deposit at `t` is not yet included (R25). -/
def State.slotAt (s : State) (t n : Nat) : List Byte :=
  if t ≤ s.loops.depAt then
    match s.loops.olds.find? (fun p => decide (p.1 = n)) with
    | some p => p.2
    | none => s.bytes (slotAddr n) 256
  else s.bytes (slotAddr n) 256

/-- Offset and type of a slot's source element. -/
def slotElAt : Nat → Nat × Nat
  | 0x10 => (0xB0, 4) | 0x11 => (0xB8, 4) | 0x12 => (0xC0, 1) | 0x13 => (0xC2, 1) | 0x14 => (0xC4, 1) | _ => (0xC6, 1)

/-- An element at an offset of a byte string. -/
def elAt (b : List Byte) (off ty : Nat) : El := ⟨leNat (slice b off (tySize ty)), u8 b (off + tyQual ty)⟩

def State.slotEl (s : State) (t n sub : Nat) : El := elAt (s.slotAt t n) (slotElAt sub).1 (slotElAt sub).2

/-! ### Task output images (R23, R26, R193) -/

/-- The Trick of a task that readers see at `t`; none before the task's first release. -/
def State.trickAt (s : State) (c t : Nat) : Option (List Host.Cell) :=
  let k := s.task c
  match k.applyAt with
  | some a => if a ≤ t then some k.committed else some k.applied
  | none => if k.fresh ∧ ¬ (k.nextRel.any (fun n => decide (n ≤ t))) then none else some k.applied

/-- An element of a task's output image, named by its byte offset. -/
def State.taskEl (s : State) (t c off ty : Nat) : El :=
  match s.trickAt c t with
  | some m => elAt (imgBytes m off (tyElem ty)) 0 ty
  | none => ⟨0, qBad 3⟩

/-! ### CAN objects (R406) -/

/-- A receive element of a CAN object. -/
def State.canEl (s : State) (t n o e : Nat) : El :=
  match s.canObj n o, s.canNewest n o t with
  | some c, some r =>
    let q := if s.fld (Reg.CAN_STAT_EST n) = 2 ∨ (s.canPort n).stopped then qBad 0x29
      else if c.rxTmo = 0 ∨ t < r.valid + 1000000 * c.rxTmo then qGood else qUnc 0x28
    ⟨wireGet c.types r.data e, q⟩
  | _, _ => ⟨0, qBad 3⟩

/-! ### Remote stations (R371, R380 to R382) -/

def State.station (s : State) (n : Nat) : Option Station := s.stns.find? (fun x => decide (x.num = n))
def State.setStation (s : State) (x : Station) : State := { s with stns := s.stns.map (fun (y : Station) => if y.num = x.num then x else y) }

/-- Age of a sample in periods of its reader (R382). -/
def sampleAge (t j period : Nat) : Nat := max 1 (min 63 ((t - j) / max 1 period))

/-- Quality of the inputs of a station. -/
def State.stnQ (s : State) (x : Station) (t period : Nat) : Nat :=
  match x.sample with
  | none => qBad 3
  | some (j, flags, _) =>
    let st := s.fld (Reg.IMG_STN_STAT_STATE x.num)
    let l := (if st = 2 then [(0x38, 1)] else []) ++ (if bit flags 2 then [(0x39, 3)] else []) ++ (if bit flags 1 then [(0x3A, 1)] else [])
    if st = 0 then qBad 3 else if st = 3 then qStale (sampleAge t j period) else qLead l

/-- A station's source element: an input, or its status (always GOOD). -/
def State.stnEl (s : State) (t period n index : Nat) : El :=
  if index = 0x0FFF then ⟨s.fld (Reg.IMG_STN_STAT_STATE n) + 256 * s.fld (Reg.IMG_STN_STAT_AGE n), qGood⟩
  else match s.station n, s.stnRec n with
    | some x, some r =>
      match x.sample with
      | some (_, _, b) => if s.fld (Reg.IMG_STN_STAT_STATE n) = 0 then ⟨0, qBad 3⟩ else ⟨wireGet r.ins b index, s.stnQ x t period⟩
      | none => ⟨0, qBad 3⟩
    | _, _ => ⟨0, qBad 3⟩

/-! ### ESC connections (R387, R393) -/

def State.esc (s : State) (n : Nat) : Option EscConn := s.escs.find? (fun x => decide (x.num = n))
def State.setEsc (s : State) (x : EscConn) : State := { s with escs := s.escs.map (fun (y : EscConn) => if y.num = x.num then x else y) }

/-- A connection's fault as a reader at `t` sees it: latched, or its watchdog has expired by then. -/
def State.escFault (s : State) (r : EscRec) (x : EscConn) (t : Nat) : Bool :=
  s.flag (Reg.SAF_ESC_STAT_LATCH x.num) || (!r.produced && !x.first && x.acc.any (fun a => decide (a + 1000000 * r.wdog ≤ t)))

/-- A connection's source element. -/
def State.escEl (s : State) (t n index : Nat) : El :=
  match s.escRec n, s.esc n with
  | some r, some x =>
    let bad := s.escFault r x t
    if index = 0xF0 then ⟨boolVal bad, qGood⟩
    else if index = 0xF2 then ⟨s.fld (Reg.SAF_ESC_STAT_CAUSE n), qGood⟩
    else
      let b := if r.can ∧ x.acc = some t then x.old else if x.acc.isSome then some x.data else none
      match b with
      | none => ⟨0, qBad 3⟩
      | some b => ⟨wireGet r.types b index, if bad ∨ x.first then qBad 0x3B else qGood⟩
  | _, _ => ⟨0, qBad 3⟩

/-! ### The safety supervisor (R344, R301) -/

def State.hostFn (s : State) (n : Nat) : Option HostFn := s.saf.fns.find? (fun f => decide (f.num = n))
def State.setHostFn (s : State) (x : HostFn) : State :=
  { s with saf := { s.saf with fns := s.saf.fns.map (fun (f : HostFn) => if f.num = x.num then x else f) } }

/-- The elements of an SS1 as a reader at `t` sees them: those of the safety task's Trick that has applied (R23, R361). -/
def State.ss1Els (s : State) (f : HostFn) (t : Nat) : List (Nat × Nat × Nat) :=
  match (s.task (s.fld Reg.SAF_STAT_TASK)).applyAt with
  | some a => if a ≤ t then f.formed else f.shown
  | none => f.shown

/-- An element of a safety function. -/
def State.safEl (s : State) (t n index : Nat) : El :=
  match s.hostFn n with
  | none => ⟨0, qBad 3⟩
  | some f =>
    if f.ty = 2 then elOf f.shown index
    else if f.ty = 4 then elOf (s.ss1Els f t) index
    else match s.rimAt t with
      | some r =>
        match r.fns.find? (fun p => decide (p.1 = n)) with
        | some p => let e := elOf p.2.2 index; ⟨e.v, s.rimMark t r e.q⟩
        | none => ⟨0, qBad 3⟩
      | none => ⟨0, qBad 3⟩

/-! ### Routes (R163 to R167) -/

/-- The value that a source endpoint shows at instant `t` to a reader of the given period. -/
def State.srcEl (s : State) (t period code ty : Nat) : El :=
  let sub := bits code 16 8
  let ix := bits code 0 16
  match code / 2 ^ 24 with
  | 1 => s.chanEl t ix sub
  | 2 => s.slotEl t ix sub
  | 4 => s.taskEl t sub ix ty
  | 5 => s.canEl t sub (ix / 256) (ix % 256)
  | 6 => s.stnEl t period sub ix
  | 7 => s.escEl t sub ix
  | 8 => s.safEl t sub ix
  | _ => ⟨0, qGood⟩

/-- The routes of the running image with their indices (R184). -/
def State.indexedRoutes (s : State) : List (Nat × Route) :=
  match s.img with
  | some i => (List.range i.routes.length).zip i.routes
  | none => []

/-- The routes into sinks of a kind, and those into one sink. -/
def State.routesInto (s : State) (kind : Nat) : List (Nat × Route) := s.indexedRoutes.filter (fun r => decide (r.2.dst / 2 ^ 24 = kind))
def State.routeInto (s : State) (code : Nat) : Option (Nat × Route) := s.indexedRoutes.find? (fun r => decide (r.2.dst = code))

/-- Put a value through a route: the sink's element, and what the Weave counts and keeps. -/
def State.convey (s : State) (i : Nat) (r : Route) (e : El) : El × State :=
  let last := (s.routeLast.find? (fun p => decide (p.1 = i))).map (·.2)
  let x := applyRoute r e last
  let s := match x.last with | some v => { s with routeLast := Sparse.put (Sparse.drop s.routeLast i) i v } | none => s
  let s := if x.sat then (s.bump Reg.WVE_ROUTESAT_COUNT Reg.WVE_ROUTESAT_SAT).raise 19 i 0 else s
  (x.el, if x.substituted then s.bump Reg.WVE_SUBST_COUNT Reg.WVE_SUBST_SAT else s)

/-- Take a route's value at `t`. -/
def State.takeRoute (s : State) (t period : Nat) (p : Nat × Route) : El × State := s.convey p.1 p.2 (s.srcEl t period p.2.src p.2.sty)

/-- Take a sink's value at `t`: by its route, or 0, BAD, UNCONNECTED (R165). -/
def State.takeSink (s : State) (t period code : Nat) : El × State :=
  match s.routeInto code with
  | some p => s.takeRoute t period p
  | none => (⟨0, qBad 2⟩, s)

/-- Take a list of sinks in order: their elements. -/
def State.takeSinks (s : State) (t period : Nat) : List Nat → List El × State
  | [] => ([], s)
  | c :: cs =>
    let p := s.takeSink t period c
    let q := State.takeSinks p.2 t period cs
    (p.1 :: q.1, q.2)

/-- The output entry for a channel from a routed element (R298, R475): in the overlap of a planned swap an AO's entry has code 0x38. -/
def State.outEntry (s : State) (dst : Nat) (e : El) (apply : Nat) : OutEntry :=
  let sub := bits dst 16 8
  let over_ := decide (s.fld Reg.RDL_SWAP_PHASE = 1 ∨ s.fld Reg.RDL_SWAP_PHASE = 2) &&
    s.rdl.swapAt.any (fun ts => decide (ts ≤ apply + 1000000) && decide (apply < ts))
  { ch := bits dst 0 16, sub := if sub = 0x30 ∧ over_ then 0x38 else sub, value := e.v, q := e.q, apply := apply }

/-- Take the routes of local outputs and form their entries. -/
def State.takeEntries (s : State) (t period apply : Nat) : List (Nat × Route) → List OutEntry × State
  | [] => ([], s)
  | p :: ps =>
    let x := s.takeRoute t period p
    let q := State.takeEntries x.2 t period apply ps
    (s.outEntry p.2.dst x.1 apply :: q.1, q.2)

end Sys2Proof.Machine
end

