-- ==== Sys2Proof/Machine/Remote.lean ====
section
/-! DEFINITION. Remote stations and the Evorix Safe Channel (14). -/

namespace Sys2Proof.Machine

/-! ### ESC connections (R388 to R393) -/

/-- Latch a fault of a connection. -/
def State.escLatch (s : State) (n cause : Nat) : State :=
  if s.flag (Reg.SAF_ESC_STAT_LATCH n) then s
  else
    let s := ((s.setFlag (Reg.SAF_ESC_STAT_LATCH n) true).setFld (Reg.SAF_ESC_STAT_CAUSE n) cause).setFld (Reg.SAF_ESC_STAT_STATE n) 3
    s.raise 110 (n + 256 * cause) 0

/-- The CRC of a PDU: over ID, then every byte before the CRC. -/
def escCrc (id : Nat) (body : List Byte) : Nat := crc32c (beBytes 4 id ++ body)

/-- Count `n` in an 8-bit counter of SAF_ESC_ERR. -/
def State.escCount (s : State) (n : Nat) (f : Field) : Nat → State
  | 0 => s
  | k + 1 => State.escCount (s.bump f (Reg.SAF_ESC_ERR_SAT n)) n f k

/-- A PDU accepted at `t`, `d` after the last (R392). -/
def State.escAccept (s : State) (x : EscConn) (data : List Byte) (seq t : Nat) : State :=
  let d := (seq + 65536 - x.seq) % 65536
  let s := if x.first then s else s.escCount x.num (Reg.SAF_ESC_ERR_LOST x.num) (min 255 (d - 1))
  let s := s.setEsc { x with seq := seq, acc := some t, first := false, data := data, old := if x.acc.isSome then some x.data else none }
  let s := s.setFld (Reg.SAF_ESC_STAT_SEQ x.num) seq
  if s.flag (Reg.SAF_ESC_STAT_LATCH x.num) then s else s.setFld (Reg.SAF_ESC_STAT_STATE x.num) 2

/-- Judge an arriving PDU (R392). -/
def State.escJudge (s : State) (r : EscRec) (pdu : List Byte) (t : Nat) : State :=
  match s.esc r.num with
  | none => s
  | some x =>
    let len := u8 pdu 2
    let seq := beNat (slice pdu 0 2)
    if pdu.length < len + 10 ∨ escCrc r.id (pdu.take (6 + len)) ≠ beNat (slice pdu (6 + len) 4) then
      s.bump (Reg.SAF_ESC_ERR_CRCERR r.num) (Reg.SAF_ESC_ERR_SAT r.num)
    else if len ≠ r.len ∨ beNat (slice pdu 4 2) ≠ r.wdog then s.escLatch r.num 2
    else if x.first ∨ newer 16 seq x.seq then s.escAccept x (slice pdu 6 len) seq t
    else s.bump (Reg.SAF_ESC_ERR_OLD r.num) (Reg.SAF_ESC_ERR_SAT r.num)

/-- The watchdog of a consumed connection has expired by `t` (R393). -/
def State.escDue (s : State) (r : EscRec) (t : Nat) : Bool :=
  !r.produced && (s.esc r.num).any (fun x => !x.first && x.acc.any (fun a => decide (a + 1000000 * r.wdog ≤ t)))

/-- Latch every connection whose watchdog has expired by `t`. -/
def State.escExpire (s : State) (t : Nat) : State :=
  (s.escRecs.filter (fun r => s.escDue r t)).foldl (fun s r => s.escLatch r.num 1) s

/-- ESC_WATCHDOG_EXPIRY: at t_acc + WDOG_MS. -/
def escWdog (n : Nat) (s : State) : State :=
  match s.escRec n, s.esc n with
  | some r, some x =>
    match x.acc with
    | some a => if r.produced ∨ x.first then s else (s.toTime (a + 1000000 * r.wdog)).escLatch n 1
    | none => s
  | _, _ => s

def execEscWatchdogExpiry (n : Fin 256) (s : State) : Result := .next (escWdog n s)

/-- Clear a connection's fault (R393): a PDU has been accepted within the last WDOG_MS. -/
def State.escClear (s : State) (r : EscRec) (x : EscConn) (t : Nat) : State :=
  if s.flag (Reg.SAF_ESC_STAT_LATCH x.num) ∧ x.acc.any (fun a => decide (t < a + 1000000 * r.wdog)) then
    let s := ((s.setFlag (Reg.SAF_ESC_STAT_LATCH x.num) false).setFld (Reg.SAF_ESC_STAT_CAUSE x.num) 0).setFld (Reg.SAF_ESC_STAT_STATE x.num) 1
    (s.setEsc { x with first := true }).raise 111 x.num 0
  else s

/-- RST of a connection at a latch of the safety task. -/
def State.escRst (s : State) (t period : Nat) (r : EscRec) : State :=
  match s.routeInto (0x07000000 + 65536 * r.num + 0xF1) with
  | none => s
  | some p =>
    let y := s.takeRoute t period p
    let b := isTrue y.1.v && decide (qState y.1.q = 0)
    match y.2.esc r.num with
    | none => y.2
    | some x =>
      let s := y.2.setEsc { x with rst := some b }
      if b ∧ x.rst = some false then s.escClear r { x with rst := some b } t else s

/-- Every connection's RST. -/
def State.escResets (s : State) (t period : Nat) : State := s.escRecs.foldl (fun s r => s.escRst t period r) s

/-- Whether a sink is routed from the output image of task `c`. -/
def State.ownSink (s : State) (c code : Nat) : Bool :=
  (s.routeInto code).any (fun p => decide (p.2.src / 2 ^ 24 = 4) && decide (bits p.2.src 16 8 = c))

/-! ### Values at a commit (R355, R374, R391) -/

/-- The value of a source at the commit of a release of task `c` that applies at `apply`: the task's own output image and the supervisor's
elements formed at this commit, and what any other source shows now. -/
def State.srcAtCommit (s : State) (c apply period code ty : Nat) : El :=
  let own := decide (code / 2 ^ 24 = 4) && decide (bits code 16 8 = c)
  let ss1 := decide (code / 2 ^ 24 = 8) && (s.hostFn (bits code 16 8)).any (fun f => decide (f.ty = 4))
  s.srcEl (if own || ss1 then apply else s.now) period code ty

/-- Take a sink at a commit; an unrouted one holds 0, BAD, UNCONNECTED. -/
def State.commitSink (s : State) (c apply period code : Nat) : El × State :=
  match s.routeInto code with
  | some (i, r) => s.convey i r (s.srcAtCommit c apply period r.src r.sty)
  | none => (⟨0, qBad 2⟩, s)

/-- Take a list of sinks at a commit. -/
def State.commitSinks (s : State) (c apply period : Nat) : List Nat → List El × State
  | [] => ([], s)
  | k :: ks =>
    let p := s.commitSink c apply period k
    let q := State.commitSinks p.2 c apply period ks
    (p.1 :: q.1, q.2)

/-- Form the PDU of a produced connection (R388, R391). -/
def State.escForm (s : State) (c apply period : Nat) (r : EscRec) : State :=
  match s.esc r.num with
  | none => s
  | some x =>
    let vs := s.commitSinks c apply period ((List.range r.types.length).map (fun k => 0x07000000 + 65536 * r.num + k))
    let seq := (x.seq + 1) % 65536
    let body := beBytes 2 seq ++ beBytes 1 r.len ++ [0] ++ beBytes 2 r.wdog ++ wirePut r.types (vs.1.map (·.v))
    (vs.2.setEsc { x with seq := seq, pdu := body ++ beBytes 4 (escCrc r.id body) }).setFld (Reg.SAF_ESC_STAT_SEQ r.num) seq

/-- Form every PDU at a commit of the safety task. -/
def State.escProduce (s : State) (c apply period : Nat) : State :=
  (s.escRecs.filter (fun r => r.produced)).foldl (fun s r => s.escForm c apply period r) s

/-! ### ECX frames (R375) -/

/-- The frame of a type with its payload. -/
def ecxFrame (ty stn flags seq t : Nat) (payload : List Byte) : List Byte :=
  let b := beBytes 2 0x4558 ++ beBytes 1 1 ++ beBytes 1 ty ++ beBytes 1 stn ++ beBytes 1 flags ++ beBytes 2 seq ++ beBytes 6 (secOf t) ++
    beBytes 4 (nsOf t) ++ beBytes 2 payload.length ++ payload
  b ++ beBytes 4 (crc32c b)

/-- Fields of an arriving frame. -/
def ecxStn (b : List Byte) : Nat := u8 b 4
def ecxSeq (b : List Byte) : Nat := beNat (slice b 6 2)
def ecxTime (b : List Byte) : Nat := 1000000000 * beNat (slice b 8 6) + beNat (slice b 14 4)
def ecxLen (b : List Byte) : Nat := beNat (slice b 18 2)

/-- Whether a frame of type `ty` is whole and comes from its station (R377). -/
def State.ecxFrom (s : State) (ty src : Nat) (b : List Byte) : Option StnRec :=
  let n := ecxLen b
  if decide (b.length = 24 + n) && decide (beNat (slice b (20 + n) 4) = crc32c (b.take (20 + n))) && decide (beNat (slice b 0 2) = 0x4558) &&
      decide (u8 b 2 = 1) && decide (u8 b 3 = ty) then
    match s.stnRec (ecxStn b) with
    | some r => if r.ecx ∧ r.addr = src then some r else none
    | none => none
  else none

/-- A discarded frame (R377). -/
def State.ecxDiscard (s : State) (b : List Byte) : State :=
  let s := (s.bump Reg.IMG_ECXERR_COUNT Reg.IMG_ECXERR_SAT).setFld Reg.IMG_ECXERR_STN (ecxStn b)
  s.raise 109 (ecxStn b + 256 * u8 b 3) 0

/-- Whether an IN frame of a known station is accepted (R377). -/
def State.ecxTakes (s : State) (r : StnRec) (x : Station) (b : List Byte) : Bool :=
  decide (ecxLen b = s.payloadLen r false) && (match x.seqIn with | some q => newer 16 (ecxSeq b) q | none => true) &&
    decide ((s.task r.task).nextRel = some (ecxTime b))

/-- ECX_IN_FRAME. -/
def ecxIn (src : Nat) (b : List Byte) (s : State) : State :=
  match s.ecxFrom 0x81 src b with
  | none => s.ecxDiscard b
  | some r =>
    match s.station r.num with
    | none => s.ecxDiscard b
    | some x =>
      if s.ecxTakes r x b then
        s.setStation { x with seqIn := some (ecxSeq b), due := some (ecxTime b, u8 b 5, slice b 20 (ecxLen b)) }
      else s.ecxDiscard b

def execEcxInFrame (src : BitVec 32) (frame : List Byte) (s : State) : Result := .next (ecxIn src.toNat frame s)

/-- ECX_CFG_ACK (R376): it echoes the last CFG and its T. -/
def ecxAck (src : Nat) (b : List Byte) (s : State) : State :=
  match s.ecxFrom 0x82 src b with
  | none => s
  | some r =>
    match s.station r.num with
    | none => s
    | some x => if x.cfgT = ecxTime b ∧ x.cfg = slice b 20 (ecxLen b) then s.setStation { x with acked := true } else s

def execEcxCfgAck (src : BitVec 32) (frame : List Byte) (s : State) : Result := .next (ecxAck src.toNat frame s)

/-- The addresses of the two units (R375). -/
def State.ecxAddrs (s : State) : Nat × Nat :=
  let own := match s.img.bind (fun i => i.netTag 0x0001) with | some b => beNat (slice b 0 4) | none => 0
  if s.onPairCarrier then
    ((Config.pairAddress false (BitVec.ofNat 32 own)).toNat, (Config.pairAddress true (BitVec.ofNat 32 own)).toNat)
  else (own, 0)

/-- The payload of CFG. -/
def State.cfgPayload (s : State) (r : StnRec) : List Byte :=
  let t := (s.taskRec r.task).getD ⟨0, 0, 0, 0, 0, 0, 0, 0, 0⟩
  beBytes 4 t.period ++ beBytes 4 t.phase ++ beBytes 4 r.lead ++ beBytes 4 r.slotUs ++ beBytes 4 r.timeout ++
    beBytes 2 (s.payloadLen r false) ++ beBytes 2 (s.payloadLen r true) ++ beBytes 4 s.ecxAddrs.1 ++ beBytes 4 s.ecxAddrs.2

/-- Whether this unit sends to remote stations now (R385, R468). -/
def State.sendsRemote (s : State) : Bool := s.runsInControl && !s.cpm.gaveUp

/-- Send CFG to a station: it applies from the next release of its task. -/
def State.ecxCfg (s : State) (r : StnRec) : State :=
  match s.station r.num with
  | none => s
  | some x =>
    if ¬ r.ecx ∨ ¬ s.sendsRemote then s
    else
      let t := ((s.task r.task).nextRel).getD s.now
      let seq := (x.seqOut + 1) % 65536
      let p := s.cfgPayload r
      (s.setStation { x with cfg := p, cfgT := t, cfgAt := s.mono, seqOut := seq }).send (.ecx r.num (ecxFrame 0x02 r.num 0 seq t p))

/-- Send CFG to every station: at RUN entry and after a takeover. -/
def State.ecxCfgAll (s : State) : State := s.stnRecs.foldl (fun s r => s.ecxCfg r) s

/-- ECX_CFG_RESEND: a second after the last CFG without a matching answer. -/
def ecxResend (n : Nat) (s : State) : State :=
  match s.stnRec n, s.station n with
  | some r, some x => if x.acked ∨ ¬ r.ecx ∨ ¬ s.sendsRemote then s else (s.toMono (x.cfgAt + 1000000000)).ecxCfg r
  | _, _ => s

def execEcxCfgResend (n : Fin 256) (s : State) : Result := .next (ecxResend n s)

/-! ### States of stations (R380 to R382, R384) -/

/-- The IN a station delivered for the release at `t`: (FLAGS, payload). -/
def State.stnIn (s : State) (r : StnRec) (x : Station) (t period : Nat) : Option (Nat × List Byte) :=
  if r.ecx then
    match x.due with
    | some (k, fl, b) => if k = t then some (fl, b) else none
    | none => none
  else
    match s.canNewest r.port r.inObj t with
    | some f => if t ≤ f.valid + period then some (0, f.data) else none
    | none => none

/-- Judge the PDUs that an IN payload carries, at the release it serves (R392). -/
def State.escOfIn (s : State) (n t : Nat) (b : List Byte) : State :=
  (s.escRegions n false).foldl (fun s r => s.escJudge r (slice b r.place (r.len + 10)) t) s

/-- The release of a station that delivered its sample. -/
def State.stnPresent (s : State) (r : StnRec) (x : Station) (t fl : Nat) (b : List Byte) : State :=
  let n := r.num
  let old := s.fld (Reg.IMG_STN_STAT_STATE n)
  let miss := s.fld (Reg.IMG_STN_STAT_MISS n)
  let s := s.setStation { x with sample := some (t, fl, b), upd := some t }
  let s := if r.ecx ∧ ¬ x.acked then s else s.setFld (Reg.IMG_STN_STAT_STATE n) 1
  let s := ((s.setFld (Reg.IMG_STN_STAT_MISS n) 0).setFld (Reg.IMG_STN_STAT_AGE n) 0).setFlag (Reg.IMG_STN_STAT_INBAD n) (bit fl 2)
  let s := (s.setFlag (Reg.IMG_STN_STAT_SAFE n) (bit fl 0)).escOfIn n t b
  if 2 ≤ old ∧ s.fld (Reg.IMG_STN_STAT_STATE n) = 1 then s.raise 107 (n + 256 * miss) 0 else s

/-- The release of a station that missed it. -/
def State.stnMiss (s : State) (r : StnRec) (x : Station) (t period : Nat) : State :=
  let n := r.num
  let old := s.fld (Reg.IMG_STN_STAT_STATE n)
  let s := s.setStation { x with upd := some t }
  if old = 0 then s
  else
    let miss := min 255 (s.fld (Reg.IMG_STN_STAT_MISS n) + 1)
    let s := (s.setFld (Reg.IMG_STN_STAT_MISS n) miss).bump (Reg.IMG_STN_CNT_LATE n) (Reg.IMG_STN_CNT_SAT n)
    if miss < 3 then
      let s := s.setFld (Reg.IMG_STN_STAT_STATE n) 2
      if old = 2 then s else s.raise 105 n 0
    else
      let j := match x.sample with | some (j, _, _) => j | none => t
      let s := (s.setFld (Reg.IMG_STN_STAT_STATE n) 3).setFld (Reg.IMG_STN_STAT_AGE n) (sampleAge t j period)
      if old = 3 then s else s.raise 106 n 0

/-- A station at a release of its timing task. -/
def State.stnRelease (s : State) (t period : Nat) (r : StnRec) : State :=
  match s.station r.num with
  | none => s
  | some x =>
    if x.upd = some t then s
    else match s.stnIn r x t period with
      | some (fl, b) => s.stnPresent r x t fl b
      | none => s.stnMiss r x t period

/-- The members of a group. -/
def State.members (s : State) (g : Nat) : List StnRec := s.stnRecs.filter (fun r => decide (r.group = g))

/-- A group's hold after its members' states are set (R384): it starts with a LATE or STALE member and ends when all are PRESENT. -/
def State.groupHold (s : State) (g : Nat) : State :=
  let m := s.members g
  let f : Field := ⟨Reg.IMG_GRPHOLD, g, 1⟩
  let bad := m.any (fun r => decide (2 ≤ s.fld (Reg.IMG_STN_STAT_STATE r.num)))
  let all := m.all (fun r => decide (s.fld (Reg.IMG_STN_STAT_STATE r.num) = 1))
  let was := s.flag f
  let hold := bad || (was && !all)
  let s := m.foldl (fun s r => s.setFlag (Reg.IMG_STN_STAT_HELD r.num) hold) (s.setFlag f hold)
  if hold ∧ ¬ was then s.raise 108 g 0 else s

/-- The values that a station's outputs from other sources show at t_rel (R374). -/
def State.stnOutputs (s : State) (t period : Nat) (r : StnRec) : State :=
  let own := fun (k : Nat) => s.ownSink r.task (0x06000100 + 65536 * r.num + k)
  let q := s.takeSinks t period ((List.range r.outs.length).map (fun k => if own k then 0 else 0x06000100 + 65536 * r.num + k))
  match q.2.station r.num with
  | some x => q.2.setStation { x with atRel := q.1.map (·.v) }
  | none => q.2

/-- Every station whose timing task is released at `t`: its state first, then the groups; done once for each release. -/
def State.stnsOf (s : State) (c t : Nat) : State :=
  match s.taskRec c with
  | none => s
  | some k =>
    let rs := s.stnRecs.filter (fun r => decide (r.task = c))
    if rs.all (fun r => (s.station r.num).any (fun x => decide (x.upd = some t))) then s
    else
      let s := rs.foldl (fun s r => s.stnRelease t (1000 * k.period) r) s
      ((List.range 32).filter (fun g => rs.any (fun r => decide (r.group = g)))).foldl (fun s g => s.groupHold g) s

/-- Every station whose timing task is due to be released by `t` (R373: its sample is visible at t_rel, to every reader), and the connections
whose watchdogs have expired by then. -/
def State.stnsAt (s : State) (t : Nat) : State :=
  (((List.range 8).filter (fun c => decide ((s.task c).nextRel = some t))).foldl (fun s c => s.stnsOf c t) s).escExpire t

/-! ### Output frames (R383 to R385, R390) -/

/-- Put bytes at an offset of a payload. -/
def overlay (b : List Byte) (off : Nat) (x : List Byte) : List Byte := b.take off ++ x ++ b.drop (off + x.length)

/-- A station's output values at a commit. -/
def State.stnValues (s : State) (apply period : Nat) (r : StnRec) (x : Station) : List Nat × State :=
  let own := fun (k : Nat) => s.ownSink r.task (0x06000100 + 65536 * r.num + k)
  let q := s.commitSinks r.task apply period ((List.range r.outs.length).map (fun k => if own k then 0x06000100 + 65536 * r.num + k else 0))
  (((List.range r.outs.length).map (fun k => if own k then (q.1.getD k ⟨0, 0⟩).v else x.atRel.getD k 0)), q.2)

/-- The payload with its PDU regions. -/
def State.stnPayload (s : State) (r : StnRec) (vals : List Nat) : List Byte :=
  let b := wirePut r.outs vals
  let b := b ++ List.replicate (s.payloadLen r true - b.length) 0
  (s.escRegions r.num true).foldl (fun b e => overlay b e.place ((s.esc e.num).map (·.pdu) |>.getD [])) b

/-- Make a frame of an object pending, in place of one that has not started (R412). -/
def State.canPend (s : State) (n : Nat) (t : CanTx) : State :=
  let p := s.canPort n
  let s := if p.pend.any (fun u => decide (u.obj = t.obj)) then s.bump (Reg.CAN_OBJ_OVW n t.obj) (Reg.CAN_OBJ_SAT n t.obj) else s
  let s := s.setCan n { p with pend := p.pend.filter (fun u => decide (u.obj ≠ t.obj)) ++ [t] }
  s.canShowPend n t.obj

/-- The frame of a transmit object with its data, zero up to the object's length. -/
def canObjFrame (c : CanObj) (data : List Byte) : CanFrame :=
  { ide := bit c.id 29, id := c.id % 2 ^ 29, fd := decide (1 ≤ c.fmt), brs := decide (c.fmt = 2),
    data := (data ++ List.replicate (c.len - data.length) 0).take c.len }

/-- The output of one station for a release: the same SEQ and T in both units, sent by the one in control. -/
def State.stnOut (s : State) (apply period : Nat) (r : StnRec) : State :=
  match s.station r.num with
  | none => s
  | some x =>
    let y := s.stnValues apply period r x
    let s := y.2
    let held := s.flag (Reg.IMG_STN_STAT_HELD r.num)
    let vals := if held then x.held else y.1
    let all := (if r.group < 32 then s.members r.group else [r]).all (fun q => decide (s.fld (Reg.IMG_STN_STAT_STATE q.num) = 1))
    let keep := if all ∧ ¬ held then y.1 else x.held
    if s.fld (Reg.IMG_STN_STAT_STATE r.num) = 0 then s.setStation { x with held := keep }
    else
      let p := s.stnPayload r vals
      if r.ecx then
        let seq := (x.seqOut + 1) % 65536
        let s := s.setStation { x with held := keep, seqOut := seq }
        let fl := b2n held + 2 * b2n (!s.flag Reg.PTP_STAT_TRACE)
        if s.sendsRemote then s.send (.ecx r.num (ecxFrame 0x01 r.num fl seq apply p)) else s
      else
        let s := s.setStation { x with held := keep }
        match s.canObj r.port r.outObj with
        | some c => s.canPend r.port ⟨r.outObj, canObjFrame c p, true⟩
        | none => s

/-- The outputs of every station of a task, at its commit. -/
def State.stnOuts (s : State) (c apply period : Nat) : State :=
  (s.stnRecs.filter (fun r => decide (r.task = c))).foldl (fun s r => s.stnOut apply period r) s

/-- The sinks of a transmit object. -/
def canSinks (o : CanObj) : List Nat := (List.range o.types.length).map (fun k => 0x05000000 + 65536 * o.port + 256 * o.obj + k)

/-- At t_rel of an object's task, the values of its elements from other sources (R374). -/
def State.canRelease (s : State) (t period : Nat) (o : CanObj) : State :=
  let q := s.takeSinks t period ((canSinks o).map (fun k => if s.ownSink o.task k then 0 else k))
  let p := q.2.canPort o.port
  q.2.setCan o.port { p with atRel := (o.obj, q.1.map (·.v)) :: p.atRel.filter (fun e => decide (e.1 ≠ o.obj)) }

/-- The transmit objects that a task times. -/
def State.canTimed (s : State) (c : Nat) : List CanObj :=
  s.canObjs.filter (fun o => o.tx && decide (o.types ≠ []) && decide (o.task = c) && decide (s.fld (Reg.CAN_STAT_MODE o.port) ≠ 0))

/-- The frame of a transmit object at a commit (R409): elements of the committed image, and those that stood at t_rel. -/
def State.canForm (s : State) (c apply period : Nat) (o : CanObj) : State :=
  let ks := canSinks o
  let q := s.commitSinks c apply period (ks.map (fun k => if s.ownSink c k then k else 0))
  let old := (((s.canPort o.port).atRel.find? (fun e => decide (e.1 = o.obj))).map (·.2)).getD []
  let vals := (List.range ks.length).map (fun k => if s.ownSink c (ks.getD k 0) then (q.1.getD k ⟨0, 0⟩).v else old.getD k 0)
  let shot := o.oneShot || decide (s.fld (Reg.CAN_STAT_MODE o.port) = 2)
  q.2.canPend o.port ⟨o.obj, canObjFrame o (wirePut o.types vals), shot⟩

/-- The objects that carry produced PDUs. -/
def State.canEsc (s : State) (r : EscRec) : State :=
  match s.canObj r.carrier r.place, s.esc r.num with
  | some c, some x => s.canPend r.carrier ⟨r.place, canObjFrame c x.pdu, c.oneShot || decide (s.fld (Reg.CAN_STAT_MODE r.carrier) = 2)⟩
  | _, _ => s

/-- All CAN objects formed at a commit. -/
def State.canForms (s : State) (c apply period : Nat) : State :=
  let s := (s.canTimed c).foldl (fun s o => s.canForm c apply period o) s
  if c = s.fld Reg.SAF_STAT_TASK then
    (s.escRecs.filter (fun r => r.produced && r.can)).foldl (fun s r => s.canEsc r) s
  else s

end Sys2Proof.Machine
end

