-- ==== Sys2Proof/Machine/CanRemote.lean ====
section
/-! DEFINITION. CAN frames received with the PDUs they carry, and the time master's reference and windows (14, 15). -/

namespace Sys2Proof.Machine

/-! ### Reception (R390, R392, R405) -/

/-- The consumed connections whose PDUs an object carries. -/
def State.escOnObject (s : State) (n o : Nat) : List EscRec :=
  s.escRecs.filter (fun r => !r.produced && r.can && decide (r.carrier = n) && decide (r.place = o))

/-- Judge the PDU in an object's newest frame at the frame's reception. -/
def State.escFromCan (s : State) (n o : Nat) (data : List Byte) : State :=
  (s.escOnObject n o).foldl (fun s r => s.escJudge r (data.take (u8 data 2 + 10)) s.now) s

/-- The object that a frame goes to at port `n`, where a filter sends it to one that it is long enough for. -/
def State.canTarget (s : State) (n : Nat) (x : CanFrame) (remote : Bool) : Option Nat :=
  match s.canMatch n x with
  | some (_, f) =>
    if f.target = 0 ∧ ¬ remote ∧ (s.canObj n f.obj).any (fun c => decide (c.len ≤ x.data.length)) then some f.obj else none
  | none => none

/-- CAN_FRAME_RECEIVED: a frame becomes valid. -/
def canFrame (n : Nat) (x : CanFrame) (esi remote : Bool) (sof : Nat) (s : State) : State :=
  let takes := s.canOn n && decide (s.fld (Reg.CAN_STAT_EST n) ≠ 2) && (!x.fd || s.flag (Reg.CAN_STAT_FD n))
  let s' := s.canReceive n x esi remote sof
  match s.canTarget n x remote with
  | some o => if takes then s'.escFromCan n o x.data else s'
  | none => s'

def execCanFrameReceived (n : Fin 4) (x : CanFrame) (esi remote : Bool) (sof : Nat) (s : State) : Result :=
  .next (canFrame n x esi remote sof s)

/-! ### The time master (R379, R415) -/

/-- Task and lead (ns) of the stations a port serves. -/
def State.ttStation (s : State) (n : Nat) : Option StnRec := s.stnRecs.find? (fun r => !r.ecx && decide (r.port = n))

/-- The first reference instant t_ref(k) of a port at or after `t`, with k. -/
def State.refAfter (s : State) (n t : Nat) : Option (Nat × Nat) :=
  (s.ttStation n).bind (fun r => (s.taskRec r.task).map (fun k =>
    let p := max 1 (1000 * k.period)
    let lead := 1000 * r.lead
    let i := ceilDiv (t + lead - 1000 * k.phase) p
    let i := if 1000 * k.phase + p * i < lead then i + ceilDiv (lead - (1000 * k.phase + p * i)) p else i
    (1000 * k.phase + p * i - lead, i)))

/-- The reference of cycle k (R415). -/
def refFrame (id k t : Nat) : CanFrame :=
  ⟨bit id 29, id % 2 ^ 29, false, false, leBytes 1 (k % 64) ++ [0] ++ leBytes 2 (t / 1000) ++ [0, 0, 0, 0]⟩

/-- TTCAN_REFERENCE: at t_ref(k); `late` when the bus lets it start more than two nominal bit times later. -/
def ttReference (n : Nat) (late : Bool) (s : State) : State :=
  match s.canPortRec n, s.refAfter n ((s.canPort n).nextRef.getD s.now) with
  | some r, some (t, k) =>
    if ¬ s.canMaySend n ∨ r.mode ≠ 2 then s
    else
      let s := (s.toTime t).setCan n { s.canPort n with nextRef := some (t + 1), cycleRef := t }
      let s := s.canStart n ⟨254, refFrame r.refId k t, true⟩
      if late then (s.bump (Reg.CAN_TT_LATE n) (Reg.CAN_TT_SAT n)).raise (canSrc n 7) 0 0 else s
  | _, _ => s

def execTtcanReference (n : Fin 4) (late : Bool) (s : State) : Result := .next (ttReference n.val late s)

/-- TTCAN_WINDOW: the window of object `o` opens; a frame that has not started by the end of its first bit time is not sent in this cycle. -/
def ttWindow (n o : Nat) (started : Bool) (s : State) : State :=
  match s.canObj n o, (s.canPort n).pend.find? (fun t => decide (t.obj = o)) with
  | some c, some t =>
    if ¬ s.canMaySend n ∨ s.fld (Reg.CAN_STAT_MODE n) ≠ 2 then s
    else
      let s := s.toTime ((s.canPort n).cycleRef + 1000 * c.winStart)
      if started then s.canStart n t
      else
        let p := s.canPort n
        (s.setCan n { p with pend := p.pend.filter (fun u => decide (u.obj ≠ o)) }).canFail n t 2 0
  | _, _ => s

def execTtcanWindow (n : Fin 4) (o : Fin 128) (started : Bool) (s : State) : Result := .next (ttWindow n o started s)

end Sys2Proof.Machine
end

