-- ==== Sys2Proof/Machine/Memory.lean ====
section
/-! DEFINITION. What reads of SRAM and MRAM find in the check bits (R101 to R104, R448), the scrubbers, and retentive snapshots (R105). -/

namespace Sys2Proof.Machine

/-- Whether an address lies in MRAM. -/
def inMram (a : Nat) : Bool := decide (0x20000000 ≤ a) && decide (a < 0x20800000)

/-- Whether an address lies in an SRAM: pair-local, shared, or loop slot memory. -/
def inSram (a : Nat) : Bool := decide (a < 0x1800000) || (decide (0x41000000 ≤ a) && decide (a < 0x41040000))

/-- The word address, master, UNC and syndrome of an SRAM error (R448). -/
def State.sramNote (s : State) (a master : Nat) (unc : Bool) (syn : BitVec 8) : State :=
  (s.setReg Reg.CMP_SADDR (BitVec.ofNat 32 (a / 8 * 8))).setReg Reg.CMP_SINFO
    (BitVec.ofNat 32 (master + 8 * b2n unc + 16 * syn.toNat))

/-- The same for MRAM. -/
def State.mramNote (s : State) (a master : Nat) (unc : Bool) (syn : BitVec 8) : State :=
  (s.setReg Reg.CMP_MADDR (BitVec.ofNat 32 (a / 8 * 8))).setReg Reg.CMP_MINFO
    (BitVec.ofNat 32 (master + 8 * b2n unc + 16 * syn.toNat))

/-- What an SRAM read finds (R101): a corrected error, or a memory fault of the unit. -/
def State.sramEcc (s : State) (a master : Nat) : Ecc → State
  | .clean => s
  | .corrected syn => ((s.sramNote a master false syn).bump Reg.CMP_SCORR_COUNT Reg.CMP_SCORR_SAT).raise 40 a master
  | .uncorrectable syn =>
    (((s.sramNote a master true syn).bump Reg.CMP_SUNC_COUNT Reg.CMP_SUNC_SAT).raise 41 a master).unitFault 2 0 41 true

/-- What an MRAM access finds (R104). -/
def State.mramEcc (s : State) (a master : Nat) : Ecc → State
  | .clean => s
  | .corrected syn => ((s.mramNote a master false syn).bump Reg.CMP_MCORR_COUNT Reg.CMP_MCORR_SAT).raise 43 a master
  | .uncorrectable syn => ((s.mramNote a master true syn).bump Reg.CMP_MUNC_COUNT Reg.CMP_MUNC_SAT).raise 44 a master

/-- What an access to an address finds, by its memory; register windows carry no check bits. -/
def State.memEcc (s : State) (a master : Nat) (e : Ecc) : State :=
  if inSram a then s.sramEcc a master e else if inMram a then s.mramEcc a master e else s

/-- Whether a finding is uncorrectable. -/
def eccBad : Ecc → Bool
  | .uncorrectable _ => true
  | _ => false

/-- An uncorrectable error met in MRAM at start-up, by Pair 0. -/
def State.startEcc (s : State) : Option (Nat × BitVec 8) → State
  | some (a, syn) => s.mramEcc a 0 (.uncorrectable syn)
  | none => s

/-- SCRUB_READ (R102): the next SRAM word is read and corrected; `last` is set at the last word of a pass. -/
def execScrubRead (addr : Nat) (ecc : Ecc) (last : Bool) (s : State) : Result :=
  .next (
    let s := if inSram addr then s.sramEcc addr 5 ecc else s
    if last then (s.bump Reg.CMP_SCRUB_SPASS Reg.CMP_SCRUB_SAT).raise 42 0 0 else s)

/-- MRAM_SCRUB_READ (R104): the next word, and the progress of the pass in percent. -/
def execMramScrubRead (addr : Nat) (ecc : Ecc) (pct : Nat) (s : State) : Result :=
  .next (
    let s := if inMram addr then s.mramEcc addr 5 ecc else s
    s.setFld Reg.CMP_SCRUB_MPCT (min 100 pct))

/-! ### Retentive data (R105) -/

/-- Address of bank `k`. -/
def bankAddr (k : Nat) : Nat := 0x205C0000 + 65536 * k

/-- A bank's CRC over header bytes 0 to 19, header bytes 24 to 1,023, then the data. -/
def State.bankCrc (s : State) (k : Nat) : Nat :=
  let a := bankAddr k
  let len := min 64512 (s.rdLE (a + 16) 4)
  crc32c (s.bytes a 20 ++ s.bytes (a + 24) 1000 ++ s.bytes (a + 1024) len)

/-- Whether a bank is valid. -/
def State.bankGood (s : State) (k : Nat) : Bool :=
  decide (s.rdLE (bankAddr k + 16) 4 ≤ 64512) && decide (s.rdLE (bankAddr k + 20) 4 = s.bankCrc k)

/-- The newest valid bank, of those whose reading met no uncorrectable error (R522). -/
def State.bankPick (s : State) (bad0 bad1 : Bool) : Option Nat :=
  let g0 := !bad0 && s.bankGood 0
  let g1 := !bad1 && s.bankGood 1
  match g0, g1 with
  | true, true => some (if newer 32 (s.rdLE (bankAddr 1) 4) (s.rdLE (bankAddr 0) 4) then 1 else 0)
  | true, false => some 0
  | false, true => some 1
  | false, false => none

/-- The bytes of committed G. -/
def State.gBytes (s : State) : List Byte :=
  match s.img with
  | some i => imgBytes s.g 0 (min 64512 i.gLen)
  | none => []

/-- Write a snapshot of committed G taken at PTP instant `t` into the older bank, header last (R105). -/
def State.snapshotG (s : State) (t : Nat) : State :=
  let k := (s.cpm.bankSeq + 1) % 2
  let seq := (s.cpm.bankSeq + 1) % 2 ^ 32
  let d := s.gBytes
  let head := leBytes 4 seq ++ leBytes 8 (secOf t) ++ leBytes 4 (nsOf t) ++ leBytes 4 d.length
  let zeros := List.replicate 1000 (0 : Byte)
  let s := s.wrBytes (bankAddr k + 1024) d
  let s := s.wrBytes (bankAddr k) (head ++ leBytes 4 (crc32c (head ++ zeros ++ d)) ++ zeros)
  { s with cpm := { s.cpm with bankSeq := seq } }

end Sys2Proof.Machine
end

