-- ==== Sys2Proof/Machine/Comparator.lean ====
section
/-! DEFINITION. Lockstep comparison (17): mismatches, parity errors, pair restarts. -/

namespace Sys2Proof.Machine

/-- The lanes of pair `p` in a set of lanes. -/
def lanesOf (lanes : BitVec 24) (p : Nat) : Nat := bits lanes.toNat (8 * p) 8

/-- Bit of CMP_STAT.FAILED of a pair. -/
def failedBit (p : Nat) : Field := ⟨Reg.CMP_STAT, p, 1⟩

/-- The lanes of the pairs that still run. -/
def State.liveLanes (s : State) (lanes : BitVec 24) : Nat :=
  ((List.range 3).map (fun p => if s.flag (failedBit p) then 0 else lanesOf lanes p * 2 ^ (8 * p))).foldl (· + ·) 0

/-- Stop every pair that has a differing lane. -/
def State.stopPairs (s : State) (l : Nat) : List Nat → State
  | [] => s
  | p :: ps => State.stopPairs (if bits l (8 * p) 8 = 0 then s else s.setFlag (failedBit p) true) l ps

/-- The lowest differing lane. -/
def lowestLane (l : Nat) : Nat := ((List.range 24).find? (fun i => bit l i)).getD 0

/-- LOCKSTEP_MISMATCH (R442, R444): the pairs are gated, the first lane and the syndrome latched, and the unit reacts once. -/
def lockstepMismatch (lanes : BitVec 24) (syn : BitVec 64) (s : State) : State :=
  let l := s.liveLanes lanes
  if l = 0 then s
  else
    let s := s.stopPairs l [0, 1, 2]
    let s := (s.setReg Reg.CMP_FIRST (BitVec.ofNat 32 (lowestLane l + 32))).setReg Reg.CMP_LANES (BitVec.ofNat 32 l)
    let s := (s.setReg Reg.CMP_SYN_LO (syn.extractLsb' 0 32)).setReg Reg.CMP_SYN_HI (syn.extractLsb' 32 32)
    (s.raise 32 (lowestLane l + 32) l).unitFault 1 0 32 true

def execLockstepMismatch (lanes : BitVec 24) (syn : BitVec 64) (s : State) : Result := .next (lockstepMismatch lanes syn s)

/-- CACHE_PARITY_ERROR (R440): counted, and the pair goes on. -/
def execCacheParityError (p : Fin 3) (s : State) : Result :=
  .next (if s.flag (failedBit p) then s else s.bump Reg.CMP_CPAR_COUNT Reg.CMP_CPAR_SAT)

/-- Restart a stopped pair (R445): its domain reset, then the injection test of its eight lanes; `lanes` are those that pass. -/
def State.pairRestart (s : State) (p : Nat) (lanes : BitVec 24) : State :=
  let pass := lanesOf lanes p
  let s := (domainReset p s).setFld ⟨Reg.CMP_SELFTEST, 8 * p, 8⟩ pass
  let s := (s.raise 33 (s.reg Reg.CMP_SELFTEST).toNat 0).setFlag (failedBit p) (decide (pass ≠ 255))
  s.raise 34 (p + 256 * b2n (decide (pass = 255))) 0

/-- CMP_PAIR_RESTART (R445, R448): from Pair 0, in HALT, with the key; Pairs 1 and 2 that are stopped. -/
def cmpPairRestart (m : Master) (w : Word) (lanes : BitVec 24) (s : State) : State :=
  if ¬ s.mayWriteRegs m then s.denyWrite m Reg.CMP_CTRL
  else if m ≠ .pair0 ∨ ¬ s.inHalt ∨ wordField w 8 8 ≠ 0x96 then s
  else
    let s := if w.getLsbD 1 ∧ s.flag (failedBit 1) then s.pairRestart 1 lanes else s
    if w.getLsbD 2 ∧ s.flag (failedBit 2) then s.pairRestart 2 lanes else s

def execCmpPairRestart (m : Master) (w : Word) (lanes : BitVec 24) (s : State) : Result := .next (cmpPairRestart m w lanes s)

/-- PAIR0_AUTO_RESTART (R445): once the first-out record is written, at most 3 times in a power cycle. -/
def execPair0AutoRestart (lanes : BitVec 24) (s : State) : Result :=
  .next (
    let n := s.fld Reg.CMP_STAT_RESTARTS
    if s.flag (failedBit 0) ∧ s.inHalt ∧ n < 3 then (s.setFld Reg.CMP_STAT_RESTARTS (n + 1)).pairRestart 0 lanes else s)

end Sys2Proof.Machine
end

