-- ==== Sys2Proof/Machine/Events.lean ====
section
/-! DEFINITION. The event router's commands (05, R122 to R125). -/

namespace Sys2Proof.Machine

/-- EVT_SWTRIG (R123): software source 248 + SEL, with INFO and the writing master. -/
def evtSwtrig (m : Master) (w : Word) (s : State) : State :=
  if ¬ s.mayWriteRegs m then s.denyWrite m Reg.EVT_SWTRIG
  else s.raise (248 + wordField w 0 3) (wordField w 16 16) m.num

def execEvtSwtrig (m : Master) (w : Word) (s : State) : Result := .next (evtSwtrig m w s)

/-- EVT_CLAIM (R125): a pair's read clears the pending bit of the source it returns. -/
def evtClaim (m : Master) (p : Nat) (s : State) : State :=
  let t := s.ret m.num (s.claimWord p)
  match s.claim p with
  | none => t
  | some src => if m.isPair then t.setPending src false else t

def execEvtClaim (m : Master) (p : Fin 3) (s : State) : Result := .next (evtClaim m p s)

end Sys2Proof.Machine
end

