-- ==== Sys2Proof/Machine/CodeWalk.lean ====
section
/-! DEFINITION. The block table (R226, R347) and the walk through a task's code (R218 to R220). -/

namespace Sys2Proof.Machine

/-- A block as the table gives it: allowed TYPE values (empty where the table shows none), operand types of inputs and outputs (15 for any
numeric type), and the bytes of its instance area. -/
structure Shape where
  tys : List Nat
  ins : List Nat
  outs : List Nat
  inst : Nat
  deriving DecidableEq, Repr

def tysNum : List Nat := [2, 3, 4, 5]
def tysNumTime : List Nat := [2, 3, 4, 5, 6]
def tysAny : List Nat := [1, 2, 3, 4, 5, 6]

/-- A block of n inputs and one output of one type; none where n is out of range. -/
def shapeN (tys : List Nat) (t n lo hi : Nat) : Option Shape :=
  if lo ≤ n ∧ n ≤ hi then some ⟨tys, List.replicate n t, [t], 0⟩ else none

/-- The table: flow, moves, logic and arithmetic. -/
def shapeLow (op t n : Nat) : Option Shape :=
  match op with
  | 0x01 => some ⟨[], [], [], 0⟩
  | 0x02 => some ⟨[], [], [], 0⟩
  | 0x03 => some ⟨[], [1], [], 0⟩
  | 0x04 => some ⟨[], [1], [], 0⟩
  | 0x08 => some ⟨tysAny, [t], [t], 0⟩
  | 0x09 => some ⟨[1, 2], [15], [15], 0⟩
  | 0x10 => shapeN [1] 1 n 2 8
  | 0x11 => shapeN [1] 1 n 2 8
  | 0x12 => shapeN [1] 1 n 2 8
  | 0x13 => some ⟨[1], [1], [1], 0⟩
  | 0x18 => shapeN tysNumTime t n 2 8
  | 0x19 => some ⟨tysNumTime, [t, t], [t], 0⟩
  | 0x1A => shapeN tysNum t n 2 8
  | 0x1B => some ⟨tysNum, [t, t], [t], 0⟩
  | 0x1C => some ⟨[2, 3], [t, t], [t], 0⟩
  | 0x1D => some ⟨tysNumTime, [t], [t], 0⟩
  | 0x1E => some ⟨tysNumTime, [t], [t], 0⟩
  | _ => none

/-- Comparison, selection, ramps, timers, counters. -/
def shapeMid (op t n : Nat) : Option Shape :=
  match op with
  | 0x20 => some ⟨tysAny, [t, t], [1], 0⟩
  | 0x21 => some ⟨tysAny, [t, t], [1], 0⟩
  | 0x22 => some ⟨tysNumTime, [t, t], [1], 0⟩
  | 0x23 => some ⟨tysNumTime, [t, t], [1], 0⟩
  | 0x24 => some ⟨tysNumTime, [t, t], [1], 0⟩
  | 0x25 => some ⟨tysNumTime, [t, t], [1], 0⟩
  | 0x28 => some ⟨tysAny, [1, t, t], [t], 0⟩
  | 0x29 => if 3 ≤ n ∧ n ≤ 14 then some ⟨tysAny, 2 :: List.replicate (n - 1) t, [t], 0⟩ else none
  | 0x2A => shapeN tysNumTime t n 2 8
  | 0x2B => shapeN tysNumTime t n 2 8
  | 0x2C => some ⟨tysNumTime, [t, t, t], [t, 1], 0⟩
  | 0x30 => some ⟨[4, 5], [t, t, t, 1, t], [t, 1], 24⟩
  | 0x31 => some ⟨[4, 5], [t, t], [t, 1], 24⟩
  | 0x40 => some ⟨[], [1, 6], [1, 6], 24⟩
  | 0x41 => some ⟨[], [1, 6], [1, 6], 24⟩
  | 0x42 => some ⟨[], [1, 6], [1, 6], 24⟩
  | 0x48 => some ⟨[2, 3], [1, 1, t], [1, t, 1], 8⟩
  | 0x49 => some ⟨[2, 3], [1, 1, t], [1, t, 1], 8⟩
  | 0x4A => some ⟨[2, 3], [1, 1, 1, 1, t], [1, 1, t, 1], 8⟩
  | _ => none

/-- Edges, bistables, quality, and the safety blocks. -/
def shapeHigh (op t n : Nat) : Option Shape :=
  match op with
  | 0x50 => some ⟨[], [1], [1], 8⟩
  | 0x51 => some ⟨[], [1], [1], 8⟩
  | 0x58 => some ⟨[], [1, 1], [1], 8⟩
  | 0x59 => some ⟨[], [1, 1], [1], 8⟩
  | 0x60 => some ⟨tysAny, [t], [2], 0⟩
  | 0x61 => some ⟨tysAny, [t, 2], [t], 0⟩
  | 0x62 => some ⟨tysAny, [t], [1], 0⟩
  | 0x80 => shapeN [] 1 n 2 8
  | 0x81 => shapeN [] 1 n 2 8
  | 0x82 => some ⟨[], [1], [1], 0⟩
  | 0x83 => some ⟨tysNum, [t, t], [1], 0⟩
  | 0x88 => some ⟨[], [1, 1], [1], 8⟩
  | _ => none

/-- The shape of block `op` with TYPE `t` and `nops` operand words. -/
def shapeOf (op t nops : Nat) : Option Shape :=
  if op < 0x20 then shapeLow op t (nops - 1) else if op < 0x50 then shapeMid op t (nops - 1) else shapeHigh op t (nops - 1)

/-- The shape of a call. -/
def Call.shape (k : Call) : Option Shape := shapeOf k.op k.ty k.nops

/-- First word of a task's code, and the word after its last (R220). -/
def Image.codeStart (i : Image) (c : Nat) : Nat := match i.taskRec c with | some r => r.entry / 4 | none => 0
def Image.codeEnd (i : Image) (c : Nat) : Nat :=
  let e := i.codeStart c
  let others := (i.taskRecs.filter (fun r => decide (e < r.entry / 4) && decide ((r.cls = i.safeTask) = (c = i.safeTask)))).map (fun r => r.entry / 4)
  others.foldl min ((i.codeOf c).length / 4)

/-- The calls from word `pc` up to word `stop`, each with its own word index. -/
def Image.callsFrom (i : Image) (c stop : Nat) : Nat → Nat → List (Nat × Call)
  | 0, _ => []
  | fuel + 1, pc =>
    if pc < stop then
      let k := i.callAt c pc
      (pc, k) :: Image.callsFrom i c stop fuel (pc + 1 + k.nops)
    else []

/-- The calls of a task. -/
def Image.calls (i : Image) (c : Nat) : List (Nat × Call) :=
  if (i.taskRec c).isSome then i.callsFrom c (i.codeEnd c) (i.codeEnd c - i.codeStart c) (i.codeStart c) else []

/-- A call's input and output operands, by its shape. -/
def Call.inOps (k : Call) : List Opnd := match k.shape with | some h => k.ops.take h.ins.length | none => []
def Call.outOps (k : Call) : List Opnd := match k.shape with | some h => k.ops.drop h.ins.length | none => []

/-- All operands of a task's code. -/
def Image.allIns (i : Image) (c : Nat) : List Opnd := (i.calls c).flatMap (fun p => p.2.inOps)
def Image.allOuts (i : Image) (c : Nat) : List Opnd := (i.calls c).flatMap (fun p => p.2.outOps)

/-- A list of operands without repeats. -/
def dedup [DecidableEq α] : List α → List α
  | [] => []
  | a :: l => if l.contains a then dedup l else a :: dedup l

end Sys2Proof.Machine
end

