-- ==== Sys2Proof/Machine/LoopLaw.lean ====
section
/-! DEFINITION. The loop engine's control law (09) and its gain regions (10, R269 to R273): one evaluation of one slot, from its 256 bytes. -/

namespace Sys2Proof.Machine

/-- h in seconds, REAL64. -/
def periodH (p : Nat) : Nat := div64 (int64 (periodNs p)) (int64 1000000000)

/-! ### A slot's fields -/

/-- MODE fields. -/
def slotReq (b : List Byte) : Nat := bits (u32 b 4) 0 2
def slotAct (b : List Byte) : Nat := bits (u32 b 4) 4 3

/-- A REAL32 field widened, and a REAL64 field. -/
def slotR (b : List Byte) (o : Nat) : Nat := widen32 (u32 b o)
def slotD (b : List Byte) (o : Nat) : Nat := u64 b o

/-- Fields marked W (R237). -/
def slotWritable (o : Nat) : Bool := decide (o % 4 = 0) && (decide (o = 4) || (decide (0x0C ≤ o) && decide (o ≤ 0x70)))

/-- Clamp, greater-than and equality in REAL64. -/
def clamp64 (x lo hi : Nat) : Nat := min64 (max64 x lo) hi
def gt64 (a b : Nat) : Bool := lt64 b a
def eq64 (a b : Nat) : Bool := (r64 a).eq (r64 b)

/-- A slot's W fields lie in their ranges (R237, R243), with `h` in seconds. -/
def slotOk (h : Nat) (b : List Byte) : Bool :=
  let r := slotR b
  let ge0 := fun (o : Nat) => le64 0 (r o)
  let within := fun (o lo hi : Nat) => le64 (int64 lo) (r o) && le64 (r o) (int64 hi)
  (List.range 26).all (fun k => fin32 (u32 b (0x0C + 4 * k))) &&
  lt64 (r 0x40) (r 0x3C) && le64 (r 0x40) (r 0x14) && le64 (r 0x14) (r 0x3C) && le64 (r 0x50) (r 0x4C) &&
  (eq64 (r 0x1C) 0 || le64 h (r 0x1C)) && within 0x20 0 100000 && within 0x28 2 1000 && within 0x2C 0 1 && within 0x30 0 1 &&
  ge0 0x44 && ge0 0x48 && gt64 (r 0x54) 0 && gt64 (r 0x58) 0 && gt64 (r 0x5C) 0 && ge0 0x68 && ge0 0x6C && ge0 0x70 &&
  decide (slotReq b ≠ 3)

/-- Put bytes at an offset of a slot. -/
def slotPut (b : List Byte) (o : Nat) (x : List Byte) : List Byte := b.take o ++ x ++ b.drop (o + x.length)

/-- Write one field of a batch: MODE takes REQ alone (R239). -/
def slotWrite (b : List Byte) (w : Nat × List Byte) : List Byte :=
  if w.1 = 4 then slotPut b 4 (leBytes 4 (u32 b 4 / 4 * 4 + u8 w.2 0 % 4)) else slotPut b w.1 w.2

/-- Set STAT.PARAM_REJ. -/
def slotRej (b : List Byte) (x : Bool) : List Byte :=
  let st := u32 b 8
  slotPut b 8 (leBytes 4 (st - bits st 9 1 * 512 + 512 * b2n x))

/-- Apply one batch whole, or refuse it (R243): the slot, and whether the batch was accepted. -/
def slotBatch (h : Nat) (b : List Byte) (ws : List (Nat × List Byte)) : List Byte × Bool :=
  let n := ws.foldl slotWrite b
  if slotOk h n then (slotRej n false, true) else (slotRej b true, false)

/-! ### Gain regions -/

/-- The cell of a variable among its used breakpoints: index and weight (R271). -/
def cellOf (xs : List Nat) (v : Nat) : Nat × Nat :=
  let x := clamp64 v (xs.getD 0 0) (xs.getD (xs.length - 1) 0)
  let i := ((List.range (xs.length - 1)).filter (fun k => le64 (xs.getD k 0) x)).foldl max 0
  (i, div64 (sub64 x (xs.getD i 0)) (sub64 (xs.getD (i + 1) 0) (xs.getD i 0)))

/-- Parameter `k` of a region table (0 K to 7 FF_BIAS), interpolated. -/
def regionVal (t : List Byte) (x y : Nat) (k : Nat) : Nat :=
  let nx := u8 t 4
  let v := fun (p : Nat) => widen32 (u32 t (104 + 32 * p + 4 * k))
  let cx := cellOf ((List.range nx).map (fun i => widen32 (u32 t (8 + 4 * i)))) x
  if u8 t 1 = 1 then
    add64 (v cx.1) (mul64 cx.2 (sub64 (v (cx.1 + 1)) (v cx.1)))
  else
    let cy := cellOf ((List.range (u8 t 5)).map (fun j => widen32 (u32 t (72 + 4 * j)))) y
    let ux := sub64 (int64 1) cx.2
    let uy := sub64 (int64 1) cy.2
    let at_ := fun (i j : Nat) => v (j * nx + i)
    add64 (add64 (add64 (mul64 (mul64 ux uy) (at_ cx.1 cy.1)) (mul64 (mul64 cx.2 uy) (at_ (cx.1 + 1) cy.1)))
      (mul64 (mul64 ux cy.2) (at_ cx.1 (cy.1 + 1)))) (mul64 (mul64 cx.2 cy.2) (at_ (cx.1 + 1) (cy.1 + 1)))

/-- Offsets of the eight scheduled parameters. -/
def regionOff : Nat → Nat
  | 0 => 0x18 | 1 => 0x1C | 2 => 0x20 | 3 => 0x28 | 4 => 0x2C | 5 => 0x30 | 6 => 0x34 | _ => 0x38

/-! ### One evaluation -/

/-- What a slot's sinks show: none where no route leads in. -/
structure LoopIn where
  pv : Option El
  sp : Option El
  ff : Option El
  trk : Option El
  ach : Option El
  en : Option El
  deriving DecidableEq, Repr

def inUsable (e : Option El) : Bool := e.any (fun e => qUsable e.q)
def inVal (e : Option El) : Nat := match e with | some e => widen32 e.v | none => 0
def inQ (e : Option El) : Nat := match e with | some e => e.q | none => qBad 2
def inBool (e : Option El) : Bool := inUsable e && e.any (fun e => isTrue e.v)

/-- The eight parameters of the law in force, REAL64. -/
structure LoopPar where
  k : Nat
  ti : Nat
  td : Nat
  n : Nat
  b : Nat
  c : Nat
  kff : Nat
  bias : Nat
  deriving DecidableEq, Repr

def slotPar (b : List Byte) : LoopPar :=
  { k := slotR b 0x18, ti := slotR b 0x1C, td := slotR b 0x20, n := slotR b 0x28, b := slotR b 0x2C, c := slotR b 0x30,
    kff := slotR b 0x34, bias := slotR b 0x38 }

/-- Values that a region table sets replace those of the slot (R271). -/
def regionPar (t : List Byte) (x y : Nat) (p : LoopPar) : LoopPar :=
  let m := u8 t 2
  let f := fun (k old : Nat) => if bit m k then regionVal t x y k else old
  { k := f 0 p.k, ti := f 1 p.ti, td := f 2 p.td, n := f 3 p.n, b := f 4 p.b, c := f 5 p.c, kff := f 6 p.kff, bias := f 7 p.bias }

/-- P, and the derivative's recursion (R252). -/
def loopP (p : LoopPar) (r yf : Nat) : Nat := mul64 p.k (sub64 (mul64 p.b r) yf)
def loopD (p : LoopPar) (h d ed edPrev : Nat) : Nat :=
  let q := add64 p.td (mul64 p.n h)
  add64 (mul64 (div64 p.td q) d) (mul64 (div64 (mul64 (mul64 p.k p.td) p.n) q) (sub64 ed edPrev))

/-- What a set of parameters gives before its integrator, for the comparison of R272. -/
def loopBase (p : LoopPar) (h r yf d edPrev ffl : Nat) : Nat × Nat × Nat :=
  (loopP p r yf, if eq64 p.td 0 then 0 else loopD p h d (sub64 (mul64 p.c r) yf) edPrev, add64 (mul64 p.kff ffl) p.bias)

/-- Whether any of K, TD, N, B, C, KFF, FF_BIAS differs. -/
def parDiffers (o n : LoopPar) : Bool :=
  !(eq64 o.k n.k && eq64 o.td n.td && eq64 o.n n.n && eq64 o.b n.b && eq64 o.c n.c && eq64 o.kff n.kff && eq64 o.bias n.bias)

/-- sqrt, correctly rounded, and the sign of a number as −1, 0 or 1. -/
def sqrt64 (a : Nat) : Nat := (fmt64.round (r64 a).sqrt).bits
def signOf (a : Nat) : Nat := if gt64 a 0 then int64 1 else if lt64 a 0 then int64 (-1) else 0

/-- scurve_step (R250): r and v. -/
def scurve (h a up dn target r v : Nat) : Nat × Nat :=
  let dist := sub64 target r
  let vmax := if gt64 dist 0 then up else dn
  let ah := mul64 a h
  let root := sqrt64 (add64 (mul64 (mul64 (mul64 a a) h) h) (mul64 (mul64 (int64 8) a) (abs64 dist)))
  let vdes := mul64 (signOf dist) (min64 vmax (div64 (sub64 root ah) (int64 2)))
  let v := add64 v (clamp64 (sub64 vdes v) (neg64 ah) ah)
  let rn := add64 r (mul64 v h)
  if le64 (mul64 (sub64 rn target) (sub64 r target)) 0 ∧ le64 (abs64 v) ah then (target, 0) else (rn, v)

/-- The actual mode (R246): 0 MAN, 1 AUTO, 2 CASC, 3 TRACK, 4 HOLD. -/
def loopMode (b : List Byte) (x : LoopIn) (yOk : Bool) : Nat :=
  if slotReq b = 0 then 0
  else if inBool x.en then (if inUsable x.trk then 3 else 4)
  else if ¬ yOk then 4
  else if slotReq b = 2 ∧ inUsable x.sp then 2 else 1

/-- The measurement after step 3, and NEVAL. -/
def loopMeas (h : Nat) (b : List Byte) (x : LoopIn) (yOk : Bool) (neval : Nat) : Nat :=
  let yf := slotD b 0xE0
  let tf := slotR b 0x60
  if ¬ yOk then yf
  else if neval = 0 then inVal x.pv
  else if gt64 tf 0 then add64 yf (mul64 (div64 h (add64 tf h)) (sub64 (inVal x.pv) yf))
  else inVal x.pv

/-- The set-point path (step 4): target, whether clamped, r, v. -/
def loopSp (h : Nat) (b : List Byte) (x : LoopIn) (yOk first : Bool) (mode yf : Nat) : Nat × Bool × Nat × Nat :=
  let raw := if slotReq b = 2 ∧ inUsable x.sp then inVal x.sp else slotR b 0x10
  let target := clamp64 raw (slotR b 0x50) (slotR b 0x4C)
  let r := if first then (if yOk then yf else target) else slotD b 0xE8
  let v := if first then 0 else slotD b 0xF0
  let up := slotR b 0x54
  let dn := slotR b 0x58
  let rv :=
    if (mode = 0 ∨ mode = 3 ∨ mode = 4) ∧ bit (u32 b 0) 6 then (if yOk then yf else r, 0)
    else match bits (u32 b 0) 4 2 with
      | 0 => (target, 0)
      | 1 => (add64 r (clamp64 (sub64 target r) (neg64 (mul64 dn h)) (mul64 up h)), 0)
      | _ => scurve h (slotR b 0x5C) up dn target r v
  (target, !(eq64 target raw), rv.1, rv.2)

/-- The output after its limits (step 6): u_cmd, and whether the rate limit acted. -/
def loopLimit (h : Nat) (b : List Byte) (first : Bool) (mode u uPrev : Nat) : Nat × Bool :=
  let c := clamp64 u (slotR b 0x40) (slotR b 0x3C)
  if first ∨ mode = 3 ∨ (mode = 4 ∧ bit (u32 b 0) 7) then (c, false)
  else
    let up := slotR b 0x44
    let dn := slotR b 0x48
    let a := if gt64 up 0 then min64 c (add64 uPrev (mul64 up h)) else c
    let a := if gt64 dn 0 then max64 a (sub64 uPrev (mul64 dn h)) else a
    (a, !(eq64 a c))

/-- The achieved value (step 7). -/
def loopSat (b : List Byte) (x : LoopIn) (uCmd uPrev : Nat) : Nat :=
  if bit (u32 b 0) 9 ∧ inUsable x.ach then
    let a := inVal x.ach
    let tol := slotR b 0x68
    if lt64 a (sub64 uPrev tol) then min64 uCmd a
    else if gt64 a (add64 uPrev tol) then max64 uCmd a
    else uCmd
  else uCmd

/-- The integrator (step 8): the new I and whether its clamp acted. -/
def loopInt (h : Nat) (b : List Byte) (p : LoopPar) (i ei uSat u : Nat) : Nat × Bool :=
  let hi := slotR b 0x3C
  let lo := slotR b 0x40
  let tt := slotR b 0x24
  let eff := if gt64 tt 0 then tt else if eq64 p.td 0 then p.ti else sqrt64 (mul64 p.ti p.td)
  let n := add64 (add64 i (mul64 (div64 (mul64 p.k h) p.ti) ei)) (mul64 (min64 (div64 h eff) (int64 1)) (sub64 uSat u))
  let c := clamp64 n (sub64 lo (sub64 hi lo)) (add64 hi (sub64 hi lo))
  (c, !(eq64 c n))

/-- How a routed FF contributes to quality (R259). -/
def ffQ (x : LoopIn) : List Nat :=
  match x.ff with
  | none => []
  | some e => [if qUsable e.q then e.q else qUnc 0x21]

/-- Quality of OUT (R259). -/
def outQ (x : LoopIn) (mode : Nat) : Nat :=
  match mode with
  | 0 => qGood
  | 1 => qWorst (inQ x.pv :: ffQ x)
  | 2 => qWorst (inQ x.pv :: inQ x.sp :: ffQ x)
  | 3 => inQ x.trk
  | _ => qUnc 0x20

/-- The bytes of a slot element. -/
def slotElem (ty v q : Nat) : List Byte := elBytes ty ⟨v, q⟩
def slotInElem (ty : Nat) (e : Option El) : List Byte :=
  match e with | some e => elBytes ty e | none => elBytes ty ⟨0, qBad 2⟩

/-- A number rounded to a REAL32 field. -/
def f32Bytes (v : Nat) : List Byte := leBytes 4 (narrow64 v).bits

/-- What one evaluation gives: the slot, and the events it raises (source, detail without the slot). -/
structure LoopOut where
  slot : List Byte
  events : List (Nat × Nat)
  deriving DecidableEq, Repr

/-- Steps 2 to 9 (R245), with the region table (R271) and the adjustment of R272. `old` is the slot before the writes of step 1, `b` after. -/
def loopEval (h : Nat) (tab : Option (List Byte)) (old b : List Byte) (x : LoopIn) : LoopOut :=
  let act := slotAct b
  let first := decide (act = 7)
  let stat := u32 b 8
  let neval0 := if first then 0 else bits stat 16 4
  let yOk := inUsable x.pv && !(bit (u32 b 0) 8 && decide (qState (inQ x.pv) = 1))
  let mode := loopMode b x yOk
  let hc := if mode = 4 then (if inBool x.en then 2 else 1) else 0
  let neval := if yOk then neval0 else 0
  let yf := loopMeas h b x yOk neval0
  let sp := loopSp h b x yOk first mode yf
  let r := sp.2.2.1
  let uPrev := if first then slotR b 0x14 else slotR b 0xB0
  let ffl := if inUsable x.ff then inVal x.ff else slotR b 0x74
  let var := fun (k : Nat) => match k with | 0 => yf | 1 => r | 2 => ffl | _ => uPrev
  let p := match tab with
    | some t => regionPar t (var (bits (u8 t 3) 0 2)) (var (bits (u8 t 3) 2 2)) (slotPar b)
    | none => slotPar b
  let auto := decide (mode = 1 ∨ mode = 2)
  let actAuto := decide (act = 1 ∨ act = 2)
  let d0 := slotD b 0xD0
  let ed0 := slotD b 0xD8
  let i0 := slotD b 0xC8
  let q := slotPar old
  let i1 := if parDiffers q p ∧ yOk ∧ actAuto ∧ auto ∧ 0 < neval0 then
      let o := loopBase q h r yf d0 ed0 ffl
      let n := loopBase p h r yf d0 ed0 ffl
      add64 (add64 (add64 i0 (sub64 o.1 n.1)) (sub64 o.2.1 n.2.1)) (sub64 o.2.2 n.2.2)
    else i0
  let ed := sub64 (mul64 p.c r) yf
  let d := if yOk then (if eq64 p.td 0 ∨ neval0 = 0 then 0 else loopD p h d0 ed ed0) else d0
  let uff := add64 (mul64 p.kff ffl) p.bias
  let pt := loopP p r yf
  let i2 := if auto ∧ (¬ actAuto ∨ neval0 = 0) then sub64 (sub64 (sub64 uPrev pt) d) uff else i1
  let u := if auto then add64 (add64 (add64 pt i2) d) uff
    else match mode with
      | 0 => slotR b 0x0C
      | 3 => inVal x.trk
      | _ => if bit (u32 b 0) 7 then slotR b 0x64 else uPrev
  let lim := loopLimit h b first mode u uPrev
  let uCmd := lim.1
  let uSat := loopSat b x uCmd uPrev
  let i3 := if auto ∧ gt64 p.ti 0 then loopInt h b p i2 (sub64 r yf) uSat u else (i2, false)
  let nv := if yOk then min 15 (neval + 1) else 0
  let roc := slotR b 0x70
  let dev := slotR b 0x6C
  let aRoc := yOk && gt64 roc 0 && decide (8 < nv) && gt64 (div64 (abs64 (sub64 yf (slotR b 0xFC))) h) roc
  let aDev := yOk && gt64 dev 0 && auto && gt64 (abs64 (sub64 r yf)) dev
  let ffHold := x.ff.isSome && !(inUsable x.ff)
  let limited := !(eq64 uCmd u) || !(eq64 uSat uCmd)
  let st := 1 + 2 * b2n (eq64 uCmd (slotR b 0x3C)) + 4 * b2n (eq64 uCmd (slotR b 0x40)) + 8 * b2n lim.2 + 16 * b2n (!(eq64 uSat uCmd)) +
    32 * b2n sp.2.1 + 64 * b2n (!(eq64 r sp.1)) + 128 * b2n aDev + 256 * b2n aRoc + 512 * bits stat 9 1 + 1024 * b2n ffHold +
    2048 * b2n i3.2 + 4096 * hc + 65536 * nv
  let tabPuts := match tab with
    | some t => ((List.range 8).filter (fun k => bit (u8 t 2) k)).map (fun k =>
        (regionOff k, f32Bytes (match k with | 0 => p.k | 1 => p.ti | 2 => p.td | 3 => p.n | 4 => p.b | 5 => p.c | 6 => p.kff | _ => p.bias)))
    | none => []
  let pq := inQ x.pv
  let puts : List (Nat × List Byte) := tabPuts ++
    [(4, leBytes 4 (slotReq b + 16 * mode)), (8, leBytes 4 st), (0x74, f32Bytes ffl),
     (0x80, slotInElem 4 x.pv), (0x88, slotInElem 4 x.sp), (0x90, slotInElem 4 x.ff), (0x98, slotInElem 4 x.trk), (0xA0, slotInElem 4 x.ach),
     (0xA8, slotInElem 1 x.en),
     (0xB0, slotElem 4 (narrow64 uCmd).bits (outQ x mode)), (0xB8, slotElem 4 (narrow64 r).bits (if mode = 2 then inQ x.sp else qGood)),
     (0xC0, slotElem 1 (boolVal (decide (mode = 2))) qGood), (0xC2, slotElem 1 (boolVal limited) qGood),
     (0xC4, slotElem 1 (boolVal aDev) pq), (0xC6, slotElem 1 (boolVal aRoc) pq),
     (0xC8, leBytes 8 i3.1), (0xD0, leBytes 8 d), (0xD8, leBytes 8 (if yOk then ed else ed0)), (0xE0, leBytes 8 yf), (0xE8, leBytes 8 r),
     (0xF0, leBytes 8 sp.2.2.2), (0xF8, f32Bytes u)] ++
    (if yOk then [(0xFC, f32Bytes yf)] else []) ++ (if mode = 0 then [] else [(0x0C, f32Bytes uCmd)]) ++
    (if mode = 2 then [(0x10, f32Bytes sp.1)] else [])
  { slot := puts.foldl (fun b w => slotPut b w.1 w.2) b,
    events := (if aDev ∧ ¬ bit stat 7 then [(100, 0)] else []) ++ (if aRoc ∧ ¬ bit stat 8 then [(101, 0)] else []) ++
      (if mode = 4 ∧ act ≠ 4 then [(102, 4096 * hc)] else []) }

/-! ### Cost and admission figures (R265, R266) -/

/-- Slots that task code writes. -/
def Image.lWritten (i : Image) : List Nat :=
  dedup (((List.range 8).flatMap (fun c => i.allOuts c) ++ i.allOuts 8).filter (fun o => decide (o.space = 5)) |>.map (fun o => o.off / 256))

/-- The CHANGEABLE entries (R172). -/
structure ChgEntry where
  task : Nat
  space : Nat
  ty : Nat
  off : Nat
  min : Nat
  max : Nat
  deriving DecidableEq, Repr

def chgEntryOf (b : List Byte) : ChgEntry := ⟨u8 b 2, u8 b 0, u8 b 1, u32 b 4, u64 b 8, u64 b 16⟩
def Image.changeables (i : Image) : List ChgEntry :=
  let b := i.sec tyChangeable
  (recordsAt b 0 24 (min 4096 (b.length / 24))).map chgEntryOf

/-- Slots that are writable by code or by an online change. -/
def Image.writableSlots (i : Image) : List Nat :=
  dedup (i.lWritten ++ ((i.changeables.filter (fun e => decide (e.space = 4))).map (fun e => e.off / 256)))

/-- Whether any parameter-port list is enabled (R274). -/
def Image.ppLocks (i : Image) : List Nat := match i.systemTag 0x0200 with | some b => (List.range 4).map (fun k => u8 b k) | none => [255, 255, 255, 255]
def Image.ppAny (i : Image) : Bool := i.ppLocks.any (fun l => decide (l ≠ 255))

/-- Cost of one evaluation in fabric cycles. -/
def Image.slotCost (i : Image) (writable : List Nat) (r : Nat × List Byte) : Nat :=
  let g := bits (u32 r.2 0) 16 8
  16 + (if g = 255 then 0 else match i.regionTab g with | some t => if u8 t 1 = 2 then 2 else 1 | none => 0) +
    (if i.ppAny ∨ writable.contains r.1 then 1 else 0)

end Sys2Proof.Machine
end

