-- ==== Sys2Proof/Machine/Power.lean ====
section
/-! DEFINITION. The CPM's commands (02, 03): supply, clocks watched, always-on counters, power states, and the restart of the station. -/

namespace Sys2Proof.Machine

/-- What survives a restart (R94, R103, R468, R483): MRAM, elapsed time and the supply; the recorder's pointers; the always-on counters. -/
def State.restart (s : State) (cause : RstCause) : State :=
  let keep := [Reg.CPM_OPSEC, Reg.CPM_PWRCYC, Reg.CPM_SUP, Reg.EVR_STAT, Reg.EVR_SEQ, Reg.EVR_ARMSEQ, Reg.EVR_CLRSEQ, Reg.EVR_RINGIDX,
    Reg.SAF_CONF, Reg.SAF_CONFOLD, Reg.PNL_FCRC]
  let z := { State.reset with
    regs := s.regs.filter (fun p => keep.contains p.1)
    mem := s.mem.filter (fun p => inMram p.1)
    mono := s.mono
    outbox := s.outbox
    pnl := { State.reset.pnl with front := s.pnl.front, back := s.pnl.back }
    freeCtr := s.freeCtr
    pending := s.pending
    cpm := { Cpm.reset with
      phase := .ready, startCause := cause, slotNow := s.cpm.slotNow, holdUp := s.cpm.holdUp, autoRst := s.cpm.autoRst,
      supplyAt := s.cpm.supplyAt, bankSeq := s.cpm.bankSeq, savedOp := s.cpm.savedOp, savedCyc := s.cpm.savedCyc,
      savedTrim := s.cpm.savedTrim, savedAt := s.cpm.savedAt } }
  ((z.setFld Reg.EVR_STAT_BUF 0).setFld Reg.CPM_STAT_SUPST (s.fld Reg.CPM_STAT_SUPST)).setFlag Reg.CPM_STAT_HOLD_RDY
    (s.flag Reg.CPM_STAT_HOLD_RDY) |>.setFld Reg.CPM_TRIM_TRIM (s.fld Reg.CPM_TRIM_TRIM)
    |>.setFld Reg.CMP_STAT_RESTARTS (s.fld Reg.CMP_STAT_RESTARTS)

/-! ### Supply (R46, R50) -/

/-- The supply voltage shown in 50 mV steps. -/
def State.vsup (s : State) (v : BitVec 10) : State := s.setFld Reg.CPM_SUP_VSUP v.toNat

/-- SUPPLY_LOW: 16.0 V to 16.8 V. -/
def execSupplyLow (vsup : BitVec 10) (s : State) : Result :=
  .next ((((s.vsup vsup).setFld Reg.CPM_STAT_SUPST 1).setFlag Reg.CPM_FAULT_SUP_LOW true).raise 0 0 0)

/-- SUPPLY_OVER: above 32 V; above 36 V no behaviour is specified (R46). -/
def execSupplyOver (vsup : BitVec 10) (s : State) : Result :=
  if 720 < vsup.toNat then .fault .beyondAbsoluteLimit
  else .next ((((s.vsup vsup).setFld Reg.CPM_STAT_SUPST 2).setFlag Reg.CPM_FAULT_SUP_OVER true).raise 1 0 0)

/-- SUPPLY_NORMAL: back in 16.8 V to 32 V. -/
def execSupplyNormal (vsup : BitVec 10) (s : State) : Result := .next ((s.vsup vsup).setFld Reg.CPM_STAT_SUPST 0)

/-- SUPPLY_RETURN (R50, R520): the store recharges; the run is not resumed, and the unit restarts through start-up. -/
def supplyReturn (v : BitVec 10) (pct : Nat) (s : State) : State :=
  if s.cpm.holdUp then
    let s := (s.vsup v).setFld Reg.CPM_STAT_SUPST (if v.toNat < 336 then 1 else 0)
    let s := (s.setFld Reg.CPM_SUP_HOLD_PCT (min 100 pct)).raise 3 0 0
    { s with cpm := { s.cpm with holdUp := false, phase := .ready, startCause := .supret, supplyAt := s.mono } }
  else s

def execSupplyReturn (vsup : BitVec 10) (pct : Nat) (s : State) : Result := .next (supplyReturn vsup pct s)

/-! ### Slot code (R44) -/

/-- SLOT_CODE_CHANGE: reported while the module runs, and no other effect until the next start-up. -/
def slotCodeChange (code : BitVec 4) (s : State) : State :=
  let s := { s with cpm := { s.cpm with slotNow := code.toNat } }
  if s.cpm.phase = .off ∨ s.cpm.phase = .ready then s
  else (s.setFlag Reg.CPM_STAT_SLOT_CHG (decide (code.toNat ≠ s.fld Reg.CPM_STAT_SLOT))).raise 9 0 0

def execSlotCodeChange (code : BitVec 4) (s : State) : Result := .next (slotCodeChange code s)

/-! ### Clocks watched (R76 to R78) -/

/-- Whether a source for trimming is in use: PTP while locked, TTCAN while the named port is a time slave (R76). -/
def State.trimSource (s : State) : Bool :=
  let ptp := decide (s.fld Reg.PTP_STAT_STATE = 2)
  let port := s.fld Reg.CPM_TRIM_CANPORT
  let tt := decide (s.fld (Reg.CAN_STAT_MODE port) = 3) && s.flag (Reg.CAN_STAT_SYNC port)
  match s.fld Reg.CPM_TRIM_SRC with
  | 0 => false
  | 1 => ptp
  | 2 => tt
  | _ => ptp || tt

/-- IOSC_TRIM (R76): the measured error in ppm moves the trim by at most one step when it exceeds 100 ppm. -/
def ioscTrim (ppm : Int) (s : State) : State :=
  if s.trimSource then
    let s := s.setFld Reg.CPM_TRIM_ERR_PPM (unsint 16 (satInt 16 ppm))
    if ppm.natAbs ≤ 100 then s.setFlag Reg.CPM_TRIM_TRIMMED true
    else
      let s := s.setFlag Reg.CPM_TRIM_TRIMMED false
      let t := s.fld Reg.CPM_TRIM_TRIM
      let u := if decide (0 < ppm) = Config.trimUpFaster then t - 1 else min 1023 (t + 1)
      let s := s.setFld Reg.CPM_TRIM_TRIM u
      if u = 0 ∨ u = 1023 then s.raise 7 0 0 else s
  else s

def execIoscTrim (ppm : Int) (s : State) : Result := .next (ioscTrim ppm s)

/-- XT32_CHECK (R77): a bad XT32 moves operating seconds to IOSC until the next start-up. -/
def xt32Check (good : Bool) (s : State) : State :=
  if good ∨ ¬ s.flag Reg.CPM_STAT_XT32_OK then s
  else
    (((s.setFlag Reg.CPM_STAT_XT32_OK false).setFlag Reg.CPM_STAT_OSEC_IOSC true).setFlag Reg.CPM_FAULT_XT32_FAIL true).raise 6 0 0

def execXt32Check (good : Bool) (s : State) : Result := .next (xt32Check good s)

/-- FM_START (R78): a write of CPM_FMCTRL; START begins a measurement. -/
def fmStart (m : Master) (w : Word) (s : State) : State :=
  if ¬ s.mayWriteRegs m then s.denyWrite m Reg.CPM_FMCTRL
  else
    let s := ((s.setFld Reg.CPM_FMCTRL_MEAS (wordField w 0 4)).setFld Reg.CPM_FMCTRL_REF (wordField w 4 4)).setFld
      Reg.CPM_FMCTRL_GATE (wordField w 8 16)
    if w.getLsbD 24 then
      let s := (s.setFlag Reg.CPM_FMCTRL_BUSY true).setFlag Reg.CPM_FMCTRL_OVF false
      { s with cpm := { s.cpm with fm := some ⟨wordField w 0 4, wordField w 4 4, wordField w 8 16⟩ } }
    else s

def execFmStart (m : Master) (w : Word) (s : State) : Result := .next (fmStart m w s)

/-- FM_DONE (R78): the count is placed and EV_FM_DONE raised. -/
def fmDone (count : Nat) (s : State) : State :=
  if s.flag Reg.CPM_FMCTRL_BUSY then
    let s := (s.setFld Reg.CPM_FMRES_COUNT (min 0xFFFFFFFF count)).setFlag Reg.CPM_FMCTRL_OVF (decide (0xFFFFFFFF < count))
    ({ s with cpm := { s.cpm with fm := none } }).setFlag Reg.CPM_FMCTRL_BUSY false |>.raise 8 0 0
  else s

def execFmDone (count : Nat) (s : State) : Result := .next (fmDone count s)

/-! ### Always-on domain (R94) -/

/-- Write the always-on counters and the trim to MRAM. -/
def State.saveAlwaysOn (s : State) : State :=
  { s with cpm := { s.cpm with savedOp := s.fld Reg.CPM_OPSEC_OPSEC, savedCyc := s.fld Reg.CPM_PWRCYC_PWRCYC,
                               savedTrim := s.fld Reg.CPM_TRIM_TRIM, savedAt := s.mono } }

/-- ALWAYS_ON_SAVE: one second later, the operating seconds count one and all three are written. -/
def execAlwaysOnSave (s : State) : Result :=
  .next ((s.toMono (s.cpm.savedAt + 1000000000)).bumpOnly Reg.CPM_OPSEC_OPSEC).saveAlwaysOn

/-! ### CPM_CTRL and CPM_CLKDIV (R92, R95) -/

/-- A HALT request (R92, R467): a unit in control gives up or stops; any other leaves the pair; nothing happens in HALT. -/
def State.haltRequest (s : State) : State := s.unitFault 8 4 0 true

/-- A write of CPM_CTRL with its key. -/
def cpmCtrl (m : Master) (w : Word) (s : State) : State :=
  if ¬ s.mayWriteRegs m then s.denyWrite m Reg.CPM_CTRL
  else if wordField w 8 8 ≠ 0xA5 then s
  else if w.getLsbD 0 then s.restart .swreq
  else if w.getLsbD 1 then s.haltRequest
  else s

def execCpmRestart (m : Master) (w : Word) (s : State) : Result := .next (cpmCtrl m w s)
def execHaltReq (m : Master) (w : Word) (s : State) : Result := .next (cpmCtrl m w s)

/-- CLKDIV_WRITE (R95): ignored at any time, and DIVWR sets; `w` has no effect. -/
def clkdivWrite (m : Master) (_w : Word) (s : State) : State :=
  let s := s.setFlag Reg.CPM_FAULT_DIVWR true
  if s.mayWriteRegs m then s else s.denyWrite m Reg.CPM_CLKDIV

def execClkdivWrite (m : Master) (w : Word) (s : State) : Result := .next (clkdivWrite m w s)

/-! ### IDLE and DOZE (R89 to R91) -/

/-- The tasks that run on a pair. -/
def State.pairBusy (s : State) (p : Nat) : Bool :=
  (List.range 9).any (fun c => s.flag (Reg.IMG_TASK_RUNNING c) && decide (s.fld (Reg.IMG_TASK_PAIR c) = p))

/-- Whether an event is pending and presented to a pair. -/
def State.pairEvent (s : State) (p : Nat) : Bool :=
  (List.range 256).any (fun src => s.isPending src && s.presented src && decide (s.fld (Reg.EVT_ROUTE_TARGET src) = p))

/-- PAIR_IDLE_ENTER (R89). -/
def execPairIdleEnter (p : Fin 3) (s : State) : Result :=
  .next (if s.pairBusy p ∨ s.pairEvent p then s else s.setFlag (idleBit p) true)

/-- DOZE_WAKE (R91): WAKE_LEAD before the next wake instant the main PLL starts. -/
def dozeWake (s : State) : State :=
  if s.cpm.phase = .doze then
    let s := match s.nextWake with
      | some t => s.toTime (t - 1000 * s.fld Reg.CPM_PSCFG_WAKE_LEAD)
      | none => s
    { s with cpm := { s.cpm with waking := true } }
  else s

def execDozeWake (s : State) : Result := .next (dozeWake s)

/-- DOZE_PLL_LOCK (R91): the started PLL locks and the station leaves DOZE. -/
def dozePllLock (s : State) : State :=
  if s.cpm.phase = .doze ∧ s.cpm.waking then
    let s := (s.setFld Reg.CPM_STAT_PSTATE 0).setFlag Reg.CPM_STAT_PLL_LOCK true
    { s with cpm := { s.cpm with phase := .run, waking := false } }
  else s

def execDozePllLock (s : State) : Result := .next (dozePllLock s)

/-- X6_LINK_ENERGY (R90). -/
def execX6LinkEnergy (s : State) : Result :=
  .next (if s.cpm.phase = .doze then { s with cpm := { s.cpm with waking := true } } else s)

/-! ### Automatic restart (R468, R524) -/

/-- The restarts that still count: within the last 86,400 operating seconds. -/
def State.recentRestarts (s : State) : List Nat :=
  s.cpm.autoRst.filter (fun t => decide (s.fld Reg.CPM_OPSEC_OPSEC < t + 86400))

/-- AUTO_RESTART: 10 s after the STOP record, with RDL_CFG.AUTORST, at most three times in 86,400 operating seconds, after a give-up or a
SOLO unit's stop, and never after an overrun (R524). -/
def autoRestart (s : State) : State :=
  match s.cpm.restartFrom with
  | some t =>
    if s.flag Reg.RDL_CFG_AUTORST ∧ ¬ s.cpm.overrunStop ∧ s.recentRestarts.length < 3 ∧ s.inHalt ∧
        (s.cpm.gaveUp ∨ s.fld Reg.CPM_STAT_SLOT = 1) then
      let s := s.toMono (t + 10000000000)
      let s := { s with cpm := { s.cpm with autoRst := s.fld Reg.CPM_OPSEC_OPSEC :: s.recentRestarts } }
      s.restart .auto
    else s
  | none => s

def execAutoRestart (s : State) : Result := .next (autoRestart s)

end Sys2Proof.Machine
end

