-- ==== Sys2Proof/Machine/Mirror.lean ====
section
/-! DEFINITION. What the two units of a pair tell each other of their releases (18, R461 to R466): which tasks are mirrored, digests and
their comparison, divergence, and the ways a unit leaves the pair without HALT. -/

namespace Sys2Proof.Machine

/-- The key of the loop engine in digests, repairs and cuts. -/
def loopKey : Nat := 10

/-- The unit executes in shadow: STANDBY or LAGGING, or joining after a cut (R461, R459). -/
def State.isShadow (s : State) : Bool :=
  decide (s.fld Reg.RDL_STAT_ROLE = 3) || decide (s.fld Reg.RDL_STAT_ROLE = 4) || decide (s.fld Reg.RDL_JOIN_PHASE = 3 ∧ s.fld Reg.RDL_STAT_ROLE = 0)

/-- A task is mirrored now: by an ACTIVE unit to its partner, or shadowed by this one. -/
def State.mirrors (s : State) (c : Nat) : Bool := s.flag Reg.RDL_LINK_UP && decide (s.fld Reg.RDL_STAT_ROLE = 2) && s.rdl.mirror.contains c
def State.shadows (s : State) (c : Nat) : Bool := s.isShadow && s.rdl.mirror.contains c && !(s.rdl.repair.contains c)

/-- The budget B in ns (R463). -/
def State.budget (s : State) : Nat := s.pT0 * s.fld Reg.RDL_SYNC_BUDGET_PCT / 100

/-- Change a join phase (R459): EV_RDL_JOIN. -/
def State.joinPhase (s : State) (p : Nat) : State :=
  if s.fld Reg.RDL_JOIN_PHASE = p then s
  else
    let s := s.setFld Reg.RDL_JOIN_PHASE p
    s.raise 53 (s.reg Reg.RDL_JOIN).toNat 0

/-- Forget what is pending between the units. -/
def State.dropMirror (s : State) : State :=
  { s with rdl := { s.rdl with mirror := [], cutLeft := [], dirty := [], own := [], other := [], repair := [], quiet := [], asked := [] } }

/-- A standby whose swap-load is abandoned restarts (R182); `was` says that one was under way. -/
def State.leftStandby (s : State) (was : Bool) : State := if was then s.restart .auto else s

/-- Full-value entries for every AO, due 50 µs from now (R476). -/
def State.aoFull (s : State) : State :=
  let q := s.takeEntries s.now s.pT0 (s.now + 50000) ((s.routesInto 1).filter (fun p => decide (bits p.2.dst 16 8 = 0x30)))
  q.2.sendOut q.1

/-- Post GROUP_MODE for both groups (R471, R475): mode 0 own, 1 partner. -/
def State.postMode (s : State) (mode t : Nat) : State :=
  s.hostPost 16 0 ([0x02, 3] ++ leBytes 1 mode ++ [0] ++ leBytes 4 (secOf t) ++ leBytes 4 (nsOf t))

/-- A condition of a planned swap fails (R476): the active tells its partner, keeps its groups in own mode, and in the overlap takes the
terminals back. -/
def State.swapFail (s : State) : State :=
  match s.rdl.swapAt with
  | none => s.swapEnd
  | some ts =>
    if ts ≤ s.now then s
    else
      let mine := s.rdl.swapFrom
      let posted := decide (ts ≤ s.now + 1200000)
      let over_ := decide (ts ≤ s.now + 1050000)
      let s := s.swapEnd
      if mine then
        let s := s.tell (.swapCancel (s.fld Reg.RDL_SWAP_PHASE))
        let s := if posted then s.postMode 0 ts else s
        if over_ then (s.setLines false true).aoFull else s
      else s

/-- A unit not in control goes to OFF and runs on there (R451, R454, R466). -/
def State.enterOff (s : State) (cause : Nat) : State :=
  let was := s.swapLoading
  let s := ((s.stopTasks true).setFlag Reg.LPE_STAT_RUN false).setFlag Reg.RDL_STAT_REPAIR false
  (((s.swapEnd.abandonSwap.dropMirror.joinPhase 0).setFld Reg.RDL_STAT_OFFCAUSE cause).setRole 0).leftStandby was

/-- Divergences that count: within 3,600 operating seconds (R466). -/
def State.recentDivs (s : State) : List Nat := s.rdl.divs.filter (fun t => decide (s.fld Reg.CPM_OPSEC_OPSEC ≤ t + 3600))

/-- Ask for a repair of a task (R464): its shadow is abandoned until it arrives. -/
def State.askRepair (s : State) (c : Nat) : State :=
  let s := { s with rdl := { s.rdl with repair := c :: s.rdl.repair.filter (fun d => decide (d ≠ c)) } }
  let s := (s.setFlag Reg.RDL_STAT_REPAIR true).tell (.repairReq c)
  if c < 8 then (s.setTask c { (s.task c).abandon with nextRel := (s.task c).nextRel }).clearTaskBits false [c] else s

/-- Whether a divergence of task `c` ends a swap: any before the overlap, and in it one whose outputs apply before t_s (R476). -/
def State.divEnds (s : State) (c : Nat) : Bool :=
  s.rdl.swapAt.any (fun ts => decide (s.now + 1050000 < ts) || decide (c = loopKey) || (s.task c).applyAt.any (fun a => decide (a < ts)))

/-- The unit whose state is repaired: the standby; at the last releases of an old image the unit that took control at t_s (R180). -/
def State.asksRepair (s : State) : Bool := if s.rdl.carryEnd.isSome then decide (s.fld Reg.RDL_STAT_ROLE = 2) else s.isShadow

/-- A divergence (R464, R466). -/
def State.diverge (s : State) (c trick : Nat) : State :=
  let s := (s.bump Reg.RDL_DIV_COUNT Reg.RDL_DIV_SAT).setFld Reg.RDL_DIV_LAST c
  let s := { s with rdl := { s.rdl with divs := s.fld Reg.CPM_OPSEC_OPSEC :: s.recentDivs } }
  let s := (s.setFld Reg.RDL_DIV_HOUR (min 3 s.rdl.divs.length)).raise 49 c trick
  let s := if s.divEnds c then s.swapFail else s
  if ¬ s.asksRepair then s
  else if s.isShadow ∧ 3 ≤ s.rdl.divs.length then s.enterOff 4
  else s.askRepair c

/-- An ACTIVE unit counts an on-time digest (R463): after 1,000 in a row a LAGGING partner is STANDBY again; a unit that shadows judges
itself by the same rule. -/
def State.digestOnTime (s : State) : State :=
  let n := min 1000 (s.fld Reg.RDL_LAG_ONTIME + 1)
  let s := s.setFld Reg.RDL_LAG_ONTIME n
  if n < 1000 then s
  else if s.fld Reg.RDL_STAT_ROLE = 2 ∧ s.fld Reg.RDL_STAT_PROLE = 4 then s.setFld Reg.RDL_STAT_PROLE 3
  else if s.fld Reg.RDL_STAT_ROLE = 4 then s.setRole 3
  else s

/-- A late digest (R463). -/
def State.digestMissed (s : State) : State :=
  let s := s.setFld Reg.RDL_LAG_ONTIME 0
  if s.fld Reg.RDL_STAT_ROLE = 2 then
    let s := s.bump Reg.RDL_LAG_LATE Reg.RDL_LAG_SAT
    if s.fld Reg.RDL_STAT_PROLE = 3 then ((s.setFld Reg.RDL_STAT_PROLE 4).raise 51 0 0).swapFail else s
  else if s.fld Reg.RDL_STAT_ROLE = 3 then (s.swapFail.abandonSwap.setRole 4).raise 51 0 0 |>.leftStandby s.swapLoading
  else s

/-- Compare the two digests of one release, once both are present (R463): `t` is the instant of the own digest. -/
def State.compareDigests (s : State) (c trick : Nat) : State :=
  match s.rdl.own.find? (fun e => decide (e.1 = c ∧ e.2.1 = trick)), s.rdl.other.find? (fun e => decide (e.1 = c ∧ e.2.1 = trick)) with
  | some (_, _, d, t), some (_, _, e) =>
    let s := { s with rdl := { s.rdl with own := s.rdl.own.filter (fun x => decide (x.1 ≠ c)), other := s.rdl.other.filter (fun x => decide (x.1 ≠ c)) } }
    let s := if s.now ≤ t + s.budget then s.digestOnTime else s.digestMissed
    if d = e ∨ s.cpm.phase = .ready then s else s.diverge c trick
  | _, _ => s

/-- Form, send and compare a digest at a commit (R462, R463). -/
def State.digest (s : State) (c trick : Nat) (b : List Byte) : State :=
  if ¬ s.mirrors c ∧ ¬ s.shadows c then s
  else
    let d := crc64 ([BitVec.ofNat 8 c, 0, 0, 0] ++ leBytes 4 trick ++ b)
    let s := { s with rdl := { s.rdl with own := (c, trick, d, s.now) :: s.rdl.own.filter (fun x => decide (x.1 ≠ c)) } }
    (s.tell (.digest c trick d)).compareDigests c trick

/-- DIGEST: the partner's digest arrives. -/
def digestArrives (c trick d : Nat) (s : State) : State :=
  let s := { s with rdl := { s.rdl with other := (c, trick, d) :: s.rdl.other.filter (fun x => decide (x.1 ≠ c)) } }
  let s := if c < 8 ∧ (s.fld (Reg.IMG_TRICK_COMMITTED c) + 1) % 2 ^ 24 = trick then s.setTask c { s.task c with partnerDone := true } else s
  s.compareDigests c trick

def execDigestMsg (task trick digest : Nat) (s : State) : Result := .next (digestArrives task trick digest s)

/-- DIGEST_LATE: B after an own digest whose partner is missing; a repair that the unit has been asked for is not judged. -/
def digestLate (s : State) : State :=
  match s.rdl.own.find? (fun e => decide (e.2.2.2 + s.budget ≤ s.now) && !(s.rdl.asked.contains e.1)) with
  | some e => ({ s with rdl := { s.rdl with own := s.rdl.own.erase e } }).digestMissed
  | none =>
    match (s.rdl.own.filter (fun e => !(s.rdl.asked.contains e.1))).getLast? with
    | some e => ({ s.toTime (e.2.2.2 + s.budget) with rdl := { s.rdl with own := s.rdl.own.erase e } }).digestMissed
    | none => s

def execDigestLate (s : State) : Result := .next (digestLate s)

end Sys2Proof.Machine
end

