-- ==== Sys2Proof/Machine/Loops.lean ====
section
/-! DEFINITION. The loop engine's windows, deposits and parameter port (10). -/

namespace Sys2Proof.Machine

/-! ### The slots due (R262) -/

/-- Insert a slot's record in order of slot number. -/
def insSlot (r : Nat × List Byte) : List (Nat × List Byte) → List (Nat × List Byte)
  | [] => [r]
  | a :: l => if r.1 < a.1 then r :: a :: l else a :: insSlot r l

/-- The slots due at `t`, in order of period and slot number (R262). -/
def State.loopDue (s : State) (t : Nat) : List (Nat × List Byte) :=
  (List.range 15).flatMap (fun p =>
    (s.loopRecs.filter (fun r => decide (slotPeriod r.2 = p) && decide (t % periodNs p = 0))).foldr insSlot [])

/-! ### Batches (R242, R243, R276) -/

/-- The order of batches that reach a slot at one instant: change, port, tasks F and T7 down to T0. -/
def Batch.key (b : Batch) : Nat := 1024 * b.due + 16 * b.origin + (if b.origin = 2 then 8 - b.task else 0)

/-- Queue a batch. -/
def insBatch (b : Batch) : List Batch → List Batch
  | [] => [b]
  | a :: l => if b.key < a.key then b :: a :: l else a :: insBatch b l

def State.addBatch (s : State) (b : Batch) : State := { s with loops := { s.loops with batches := insBatch b s.loops.batches } }

/-- A transaction of the port ends: DONE, and EV_LPE_PP_DONE. -/
def State.ppEnd (s : State) : State :=
  let s := { s with loops := { s.loops with pp := none } }
  let s := (s.setFlag Reg.LPE_PP_STAT_BUSY false).setFlag Reg.LPE_PP_STAT_DONE true
  s.raise 104 (s.reg Reg.LPE_PP_STAT).toNat 0

/-- One batch of the port has been applied or refused. -/
def State.ppStep (s : State) (refused : Bool) : State :=
  match s.loops.pp with
  | none => s
  | some r =>
    let r := { r with left := r.left - 1, refused := r.refused + b2n refused }
    let s := ({ s with loops := { s.loops with pp := some r } }).setFld Reg.LPE_PP_STAT_REFUSED r.refused
    if r.left = 0 then s.ppEnd else s

/-- A refused batch (R243). -/
def State.batchRefused (s : State) (b : Batch) : State :=
  let s := (s.bump Reg.LPE_REJ_COUNT Reg.LPE_REJ_SAT).setFld Reg.LPE_REJ_LAST b.slot
  s.raise 99 (b.slot + 4096 * b.origin + 65536 * b.task) 0

/-- Apply a slot's batches in order. -/
def State.applyBatches (s : State) (h : Nat) (b : List Byte) : List Batch → List Byte × State
  | [] => (b, s)
  | x :: xs =>
    let r := slotBatch h b x.writes
    let s := if r.2 then s else s.batchRefused x
    State.applyBatches (if x.origin = 1 then s.ppStep (!r.2) else s) h r.1 xs

/-! ### Inputs (R164, R461) -/

/-- Source kinds outside the unit's own shadow state. -/
def extKind (src : Nat) : Bool := decide (src / 2 ^ 24 = 1) || (decide (5 ≤ src / 2 ^ 24) && decide (src / 2 ^ 24 ≤ 8))

/-- A slot's sinks by SUB. -/
def slotSink (n sub : Nat) : Nat := 0x02000000 + 65536 * sub + n

/-- The value of one sink at `t`: none where no route leads in. -/
def State.loopSink (s : State) (t h code : Nat) : Option El × State :=
  match s.routeInto code with
  | none => (none, s)
  | some (i, r) =>
    let e := if s.isShadow && extKind r.src then
        match (s.loops.inputs.find? (fun p => decide (p.1 = t))).bind (fun p => p.2.find? (fun e => decide (e.1 = code))) with
        | some e => ⟨e.2.1, e.2.2⟩
        | none => ⟨0, qBad 3⟩
      else s.srcEl t h r.src r.sty
    let x := s.convey i r e
    (some x.1, x.2)

def State.loopInputs (s : State) (t h n : Nat) : LoopIn × State :=
  let pv := s.loopSink t h (slotSink n 0)
  let sp := pv.2.loopSink t h (slotSink n 1)
  let ff := sp.2.loopSink t h (slotSink n 2)
  let trk := ff.2.loopSink t h (slotSink n 3)
  let ach := trk.2.loopSink t h (slotSink n 4)
  let en := ach.2.loopSink t h (slotSink n 5)
  (⟨pv.1, sp.1, ff.1, trk.1, ach.1, en.1⟩, en.2)

/-- The external inputs of a window, for LOOPIN: each routed sink of a due slot with its source's value. -/
def State.loopExternals (s : State) (t : Nat) : List (Nat × Nat × Nat) :=
  (s.loopDue t).flatMap (fun r =>
    (List.range 6).filterMap (fun k =>
      match s.routeInto (slotSink r.1 k) with
      | some (_, x) =>
        if extKind x.src then let e := s.srcEl t (recPeriod r) x.src x.sty; some (slotSink r.1 k, e.v, e.q) else none
      | none => none))

/-! ### The window (R262, R264) -/

/-- Fabric cycles in 48 µs with the divider in force: 19,200 at 400 MHz. -/
def State.windowCycles (s : State) : Nat := 192000 / max 1 (s.fld Reg.CPM_CLKDIV_FAB_DIV)

/-- Evaluate one slot. -/
def State.evalSlot (s : State) (t cost : Nat) (w : LoopWin) (r : Nat × List Byte) : State × LoopWin :=
  let n := r.1
  let h := periodH (slotPeriod r.2)
  let old := s.bytes (slotAddr n) 256
  let mine := s.loops.batches.filter (fun b => decide (b.slot = n) && decide (b.due ≤ t))
  let s := { s with loops := { s.loops with batches := s.loops.batches.filter (fun b => !(decide (b.slot = n) && decide (b.due ≤ t))) } }
  let q := s.applyBatches h old mine
  let x := q.2.loopInputs t (recPeriod r) n
  let g := bits (u32 old 0) 16 8
  let tab := if g = 255 then none else x.2.img.bind (fun i => i.regionTab g)
  let o := loopEval h tab old q.1 x.1
  (x.2, { w with results := w.results ++ [(n, o.slot)], events := w.events ++ o.events.map (fun e => (e.1, n + e.2)), cycles := w.cycles + cost })

/-- Evaluate the due slots in order, as far as 48 µs reach. -/
def State.evalAll (s : State) (i : Image) (wr : List Nat) (t : Nat) (w : LoopWin) : List (Nat × List Byte) → State × LoopWin
  | [] => (s, w)
  | r :: rs =>
    let cost := i.slotCost wr r
    if w.skipped ≠ [] ∨ s.windowCycles < w.cycles + cost then State.evalAll s i wr t { w with skipped := w.skipped ++ [r.1] } rs
    else
      let q := s.evalSlot t cost w r
      State.evalAll q.1 i wr t q.2 rs

/-- Evaluate the window at `t`. -/
def State.evalWindow (s : State) (t : Nat) : State :=
  match s.img with
  | none => s
  | some i =>
    let s := (s.toTime t).stnsAt t
    let q := s.evalAll i i.writableSlots t ⟨t, [], [], [], 0⟩ (s.loopDue t)
    let s := { q.1 with loops := { q.1.loops with last := some t, win := some q.2, inputs := q.1.loops.inputs.filter (fun p => decide (t < p.1)) } }
    if s.fld Reg.LPE_BURST_PEAK < q.2.cycles then s.setFld Reg.LPE_BURST_PEAK (min 32767 q.2.cycles) else s

/-- LOOP_WINDOW: the next grid instant; an ACTIVE unit sends LOOPIN to its partner. -/
def loopWindow (s : State) : State :=
  if ¬ s.flag Reg.LPE_STAT_RUN ∨ s.isShadow ∨ s.loops.win.isSome then s
  else match s.windowNext with
    | none => s
    | some t =>
      let s := (s.toTime t).stnsAt t
      let s := if s.mirrors loopKey then s.tell (.loopin t (s.loopExternals t)) else s
      s.evalWindow t

def execLoopWindow (s : State) : Result := .next (loopWindow s)

/-- LOOPIN: the standby evaluates the window, unless a repair of the loop engine is pending. -/
def loopin (t : Nat) (vals : List (Nat × Nat × Nat)) (s : State) : State :=
  if s.shadows loopKey ∧ s.flag Reg.LPE_STAT_RUN ∧ s.loops.win.isNone ∧ s.loops.last.all (fun l => decide (l < t)) then
    ({ s with loops := { s.loops with inputs := (t, vals) :: s.loops.inputs } }).evalWindow t
  else s

def execLoopin (tg : Nat) (vals : List (Nat × Nat × Nat)) (s : State) : Result := .next (loopin tg vals s)

/-! ### Deposit (R262, R263, R462) -/

/-- Number of the T0 release whose period holds an instant, counted from the grid's origin. -/
def State.t0Index (s : State) (t : Nat) : Nat :=
  match s.taskRec 0 with | some r => (t - 1000 * r.phase) / max 1 (1000 * r.period) | none => 0

/-- Trick number of that release. -/
def State.t0Trick (s : State) (t : Nat) : Nat :=
  let k := s.task 0
  (k.sysTrick + s.t0Index t - s.t0Index k.tRel) % 2 ^ 24

/-- Raise a list of events. -/
def State.raiseAll (s : State) : List (Nat × Nat) → State
  | [] => s
  | e :: es => State.raiseAll (s.raise e.1 e.2 0) es

/-- Write the deposited slots. -/
def State.depositAll (s : State) : List (Nat × List Byte) → State
  | [] => s
  | r :: rs => State.depositAll (s.wrBytes (slotAddr r.1) r.2) rs

/-- The local outputs that the deposited slots feed (R263). -/
def State.loopEntries (s : State) (w : LoopWin) : List OutEntry × State :=
  (s.loopRecs.filter (fun r => (w.results.map (·.1)).contains r.1)).foldl
    (fun (acc : List OutEntry × State) r =>
      let rs := acc.2.indexedRoutes.filter (fun p => decide (p.2.src / 2 ^ 24 = 2) && decide (bits p.2.src 0 16 = r.1) && decide (p.2.dst / 2 ^ 24 = 1))
      let q := acc.2.takeEntries (acc.2.loops.depAt + 1) (recPeriod r) (w.t + max (recPeriod r) 100000) rs
      (acc.1 ++ q.1, q.2)) ([], s)

/-- The digest's string grows by the window's slots, and closes with the last window of the T0 period. -/
def State.loopDigest (s : State) (w : LoopWin) : State :=
  let d := s.loops.dig ++ w.results.flatMap (fun r => leBytes 2 r.1 ++ [0, 0] ++ r.2.drop 0x80)
  let last := match s.loopNext (w.t + 1) with | some n => decide (s.t0Index n ≠ s.t0Index w.t) | none => true
  let s := { s with loops := { s.loops with dig := if last then [] else d } }
  if last then s.digest loopKey (s.t0Trick w.t) d else s

/-- Report abandoned evaluations (R264). -/
def State.loopSkips (s : State) (w : LoopWin) : State :=
  match w.skipped with
  | [] => s
  | n :: _ =>
    let s := w.skipped.foldl (fun s k => (s.bump Reg.LPE_OVR_SKIPS Reg.LPE_OVR_SAT).setFld Reg.LPE_OVR_LAST k) s
    s.raise 103 w.skipped.length n

/-- LOOP_DEPOSIT: at t_g + 48 µs. -/
def loopDeposit (s : State) : State :=
  match s.loops.win with
  | none => s
  | some w =>
    if ¬ s.flag Reg.LPE_STAT_RUN then { s with loops := { s.loops with win := none } }
    else
      let t := w.t + 48000
      let s := s.toTime t
      let s := { s with loops := { s.loops with win := none, depAt := t, olds := w.results.map (fun (r : Nat × List Byte) => (r.1, s.bytes (slotAddr r.1) 256)) } }
      let s := ((s.depositAll w.results).raiseAll w.events).loopSkips w
      let q := s.loopEntries w
      (q.2.sendOut q.1).loopDigest w

def execLoopDeposit (s : State) : Result := .next (loopDeposit s)

/-! ### The parameter port (R274 to R276) -/

/-- End a refused transaction with its error. -/
def State.ppRefuse (s : State) (err : Nat) : State := (s.setFld Reg.LPE_PP_STAT_ERR err).ppEnd

/-- PP_GO: a write of LPE_PP_CTRL. -/
def ppGo (m : Master) (w : Word) (s : State) : State :=
  if ¬ s.mayWriteRegs m then s.denyWrite m Reg.LPE_PP_CTRL
  else
    let n := wordField w 0 7
    let l := wordField w 8 2
    let s := (s.setFld Reg.LPE_PP_CTRL_COUNT n).setFld Reg.LPE_PP_CTRL_LIST l
    if ¬ w.getLsbD 10 then s
    else if s.flag Reg.LPE_PP_STAT_BUSY then s.setFld Reg.LPE_PP_STAT_ERR 4
    else
      let s := (s.setFld Reg.LPE_PP_STAT_ERR 0).setFld Reg.LPE_PP_STAT_REFUSED 0
      if ¬ s.inControl then s.ppRefuse 1
      else if ¬ bit (s.fld Reg.LPE_PP_CFG_EN) l then s.ppRefuse 2
      else if n = 0 ∨ 64 < n then s.ppRefuse 3
      else ({ s with loops := { s.loops with pp := some ⟨l, n, false, 0, 0⟩ } }).setFlag Reg.LPE_PP_STAT_BUSY true

def execPpGo (m : Master) (w : Word) (s : State) : Result := .next (ppGo m w s)

/-- One record of a list: slot, field, value; valid under R275. -/
def State.ppRecord (s : State) (a : Nat) : Nat × Nat × List Byte × Bool :=
  let n := s.rdLE a 2
  let f := s.rdLE (a + 2) 1
  (n, f, s.bytes (a + 4) 4, decide (s.rdLE (a + 3) 1 = 0) && slotWritable f && (s.loopRecs.map (·.1)).contains n)

/-- The first release of T0 at or after an instant. -/
def State.t0After (s : State) (t : Nat) : Nat :=
  match s.taskRec 0 with | some r => 1000 * r.phase + 1000 * r.period * ceilDiv (t - 1000 * r.phase) (max 1 (1000 * r.period)) | none => t

/-- PP_LOCK_ACQUIRED: an attempt on the list's lock that succeeds; copy, release, check, and one batch per slot. -/
def ppLock (s : State) : State :=
  match s.loops.pp with
  | none => s
  | some r =>
    if r.copied then s
    else
      let n := s.fld ⟨Reg.LPE_PP_CFG, 5 * r.list, 5⟩
      let s := lockAttempt n [4] s
      if s.lockOwner n ≠ 5 then s
      else
        let a := (s.reg (Reg.LPE_PP_ADDR r.list)).toNat
        let recs := (List.range r.count).map (fun k => s.ppRecord (a + 8 * k))
        let s := s.lockFree n
        if recs.any (fun x => !x.2.2.2) then s.ppRefuse 3
        else
          let slots := dedup (recs.map (·.1)).reverse |>.reverse
          let due := s.t0After (s.now + 50000)
          let s := { s with loops := { s.loops with pp := some { r with copied := true, left := slots.length } } }
          slots.foldl (fun s k => s.addBatch ⟨k, 1, 0, due, (recs.filter (fun x => decide (x.1 = k))).map (fun x => (x.2.1, x.2.2.1))⟩) s

def execPpLockAcquired (s : State) : Result := .next (ppLock s)

/-- RGNDATA_READ (R277): a word of a region table; WORD advances but for the host data port. -/
def rgndataRead (m : Master) (s : State) : State :=
  let w := s.fld Reg.LPE_RGNSEL_WORD
  let s := s.ret m.num s.rgnWord
  if m.isPair then s.setFld Reg.LPE_RGNSEL_WORD (w + 1) else s

def execRgndataRead (m : Master) (s : State) : Result := .next (rgndataRead m s)

end Sys2Proof.Machine
end

