-- ==== Sys2Proof/Machine/SafeHost.lean ====
section
/-! DEFINITION. The host half of the safety supervisor (13): AIN and SS1, resets, the demands of SOUT, response bounds, confirmation. -/

namespace Sys2Proof.Machine

/-! ### Functions and their faults -/

/-- A function before its first evaluation. -/
def HostFn.start (f : SafeFn) : HostFn :=
  { num := f.num, ty := f.ty, rst := none, code := 0, detail := 0, latch := false, discAt := none, stopAt := none, v0 := 0, sto := false,
    speed := 0, rose := false, shown := [], formed := [] }

/-- Latch a fault of a host function (R352). -/
def State.hostLatch (s : State) (x : HostFn) (code detail : Nat) : State :=
  if x.latch then s.setHostFn x
  else (s.setHostFn { x with latch := true, code := code, detail := detail }).raise 160 x.num (code + 256 * detail)

/-- Clear a latched fault. -/
def State.hostClear (s : State) (x : HostFn) : State :=
  (s.setHostFn { x with latch := false, code := 0, detail := 0 }).raise 161 x.num 0

/-- Parameters of a function. -/
def State.fnParam (s : State) (n : Nat) : List Byte := match s.safeFn n with | some f => f.param | none => []

/-- A sink of a function. -/
def safSink (n index : Nat) : Nat := 0x08000000 + 65536 * n + index

/-! ### RST at a latch of the safety task (R352) -/

/-- Read a function's RST: whether it rises; the first reading is the reference. -/
def State.readRst (s : State) (t period : Nat) (x : HostFn) : State :=
  match s.routeInto (safSink x.num 1) with
  | none => s.setHostFn { x with rose := false }
  | some p =>
    let y := s.takeRoute t period p
    let b := isTrue y.1.v && decide (qState y.1.q = 0)
    let rose := b && decide (x.rst = some false)
    let s := y.2.setHostFn { x with rst := some b, rose := rose }
    if rose ∧ (x.ty = 1 ∨ x.ty = 3) then
      { s with saf := { s.saf with gather := s.saf.gather ||| 2 ^ x.num } }
    else s

/-! ### AIN (R354) -/

/-- The fault an AIN's channels show now: code and detail. -/
def chanFault (bad prot : Nat) (c : Nat) (e : El) : Option (Nat × Nat) :=
  if qState e.q = 0 then none else if e.q = qBad 0x08 then some (prot, c) else some (bad, c)

/-- The value under SEL. -/
def ainVal (sel a b : Nat) : Nat :=
  match sel with
  | 0 => min32 a b
  | 1 => max32 a b
  | _ => (narrow64 (div64 (add64 (widen32 a) (widen32 b)) (int64 2))).bits

/-- An AIN's elements and register word after its evaluation. -/
def State.ainShow (s : State) (x : HostFn) (v : Nat) (cause : Bool) : State :=
  let els := [(0, if x.latch then 0 else v, if x.latch then qBad 0x30 else qGood), (2, boolVal x.latch, qGood), (3, x.code + 256 * x.detail, qGood)]
  let st := if x.latch then (if cause then 3 else 4) else 2
  (s.setHostFn { x with shown := els }).setReg (Reg.SAF_FN x.num)
    (BitVec.ofNat 32 (2 + 16 * st + 256 * x.code + 65536 * x.detail + 2 ^ 24 * b2n x.latch))

/-- Evaluate an AIN at a latch at `t`. -/
def State.ainLatch (s : State) (t : Nat) (n : Nat) : State :=
  match s.hostFn n with
  | none => s
  | some x =>
    let p := s.fnParam n
    let a := s.chanEl t (u8 p 0) 0x20
    let b := s.chanEl t (u8 p 1) 0x20
    let bad := (chanFault 16 5 (u8 p 0) a).orElse (fun _ => chanFault 16 5 (u8 p 1) b)
    let far := bad.isNone && lt64 (widen32 (u32 p 8)) (abs64 (sub64 (widen32 a.v) (widen32 b.v)))
    let since := if far then some (x.discAt.getD t) else none
    let disc := since.any (fun u => decide (u + 1000000 * u16 p 4 ≤ t))
    let x := { x with discAt := since }
    let s := if x.rose ∧ x.latch ∧ bad.isNone ∧ ¬ far then s.hostClear x else s.setHostFn x
    let y := (s.hostFn n).getD x
    let s := match bad with
      | some (k, d) => s.hostLatch y k d
      | none => if disc then s.hostLatch y 15 0 else s
    s.ainShow ((s.hostFn n).getD y) (ainVal (u8 p 2) a.v b.v) (bad.isSome || far)

/-! ### SS1 (R361, R362) -/

/-- The fault that the speeds of an SS1 show at a latch, and the speed judged. -/
def speedJudge (esc : Bool) (a b : El) : Option (Nat × Nat) × Nat :=
  let f := fun (k : Nat) (e : El) =>
    if qState e.q = 0 then none else if e.q = qBad 0x08 then some (5, k) else some (12, k)
  let bad := (f 0 a).orElse (fun _ => if esc then none else f 1 b)
  (bad, if esc then abs32 a.v else max32 (abs32 a.v) (abs32 b.v))

/-- The speeds of an SS1 at a latch at `t`; a fault of theirs latches. -/
def State.ss1Latch (s : State) (t period : Nat) (n : Nat) : State :=
  match s.hostFn n with
  | none => s
  | some x =>
    let p := s.fnParam n
    let esc := decide (u8 p 0 = 1)
    let a := s.takeSink t period (safSink n 5)
    let b := if esc then (a.1, a.2) else a.2.takeSink t period (safSink n 6)
    let s := b.2
    let j := speedJudge esc a.1 b.1
    let far := j.1.isNone && !esc && lt64 (widen32 (u32 p 20)) (abs64 (sub64 (widen32 a.1.v) (widen32 b.1.v)))
    let since := if far then some (x.discAt.getD t) else none
    let disc := since.any (fun u => decide (u + 1000000 * u16 p 2 ≤ t))
    let x := { x with discAt := since, speed := j.2 }
    let s := if x.rose ∧ x.latch ∧ j.1.isNone ∧ ¬ far then s.hostClear x else s.setHostFn x
    let y := (s.hostFn n).getD x
    match j.1 with
    | some (k, d) => s.hostLatch y k d
    | none => if disc then s.hostLatch y 11 0 else s

/-- The speed limit at t ns after the stop request, REAL64. -/
def ss1Limit (p : List Byte) (v0 t : Nat) : Nat :=
  let tol := widen32 (u32 p 12)
  let dly := 1000000 * u16 p 4
  if t ≤ dly then add64 (widen32 v0) tol
  else add64 (sub64 (widen32 v0) (mul64 (widen32 (u32 p 8)) (div64 (int64 ((t - dly : Nat) : Int)) (int64 1000000000)))) tol

/-- Torque is removed. -/
def State.ss1Sto (s : State) (x : HostFn) (cause : Nat) : State :=
  (s.setHostFn { x with sto := true, stopAt := none }).raise 164 (x.num + 256 * cause) 0

/-- The checks of a stop under way, at an evaluation of the release at `t`. -/
def State.ss1Checks (s : State) (x : HostFn) (t from_ : Nat) : State :=
  let p := s.fnParam x.num
  if le32 x.speed (u32 p 16) then s.ss1Sto x 0
  else if lt64 (ss1Limit p x.v0 (t - from_)) (widen32 x.speed) then
    let s := s.hostLatch x 13 0
    s.ss1Sto ((s.hostFn x.num).getD x) 13
  else if from_ + 1000000 * u16 p 6 ≤ t then s.ss1Sto { x with code := 14 } 14
  else s.setHostFn x

/-- Evaluate an SS1 at the commit of the release at `t`, whose Trick applies at `apply`. -/
def State.ss1Commit (s : State) (c t apply period n : Nat) : State :=
  match s.hostFn n with
  | none => s
  | some x =>
    let r := s.commitSink c apply period (safSink n 0)
    let run := isTrue r.1.v && decide (qState r.1.q = 0)
    let s := r.2
    let s :=
      if x.latch then (if x.sto then s else s.ss1Sto x x.code)
      else if x.sto then (if x.rose ∧ run then s.setHostFn { x with sto := false, code := 0, detail := 0 } else s)
      else match x.stopAt with
        | some u => s.ss1Checks x t u
        | none =>
          if run then s
          else (s.raise 163 n x.speed).ss1Checks { x with stopAt := some t, v0 := x.speed } t t
    let y := (s.hostFn n).getD x
    let q := if y.latch then qBad 0x30 else if y.sto then qUnc 0x31 else qGood
    let els := [(2, boolVal y.latch, qGood), (3, y.code + 256 * y.detail, qGood), (4, boolVal (!y.latch && !y.sto), q),
      (7, boolVal y.stopAt.isSome, qGood), (8, y.speed, qGood)]
    let far := y.discAt.isSome
    let st := if y.latch then (if far then 3 else 4) else if y.sto then 7 else if y.stopAt.isSome then 6 else 2
    (s.setHostFn { y with formed := els, rose := false }).setReg (Reg.SAF_FN n)
      (BitVec.ofNat 32 (4 + 16 * st + 256 * y.code + 65536 * y.detail + 2 ^ 24 * b2n y.latch))

/-! ### The latch and the commit of the safety task -/

/-- The numbers of the functions of a type. -/
def State.fnsOf (s : State) (ty : Nat) : List Nat := (s.saf.fns.filter (fun f => decide (f.ty = ty))).map (fun f => f.num)

/-- At a latch of the safety task at `t`: RST of every function and connection, then AIN and the speeds of SS1. -/
def State.safLatch (s : State) (t period : Nat) : State :=
  let s := (s.saf.fns.map (fun (f : HostFn) => f.num)).foldl (fun s n => match s.hostFn n with | some x => s.readRst t period x | none => s) s
  let s := (s.fnsOf 2).foldl (fun s n => s.ainLatch t n) (s.escResets t period)
  (s.fnsOf 4).foldl (fun s n => s.ss1Latch t period n) s

/-- Whether every SS1 that names a SOUT permits torque. -/
def State.ss1Allows (s : State) (n : Nat) : Bool :=
  (s.fnsOf 4).all (fun k => if u8 (s.fnParam k) 1 = n then (s.hostFn k).all (fun x => !x.latch && !x.sto) else true)

/-- The entry of a SOUT (R355): SUB 0x40, the demand, its complement and the function. -/
def State.soutEntry (s : State) (c apply period n : Nat) : OutEntry × State :=
  let r := s.commitSink c apply period (safSink n 0)
  let d := if (isTrue r.1.v ∧ qState r.1.q = 0) ∧ r.2.ss1Allows n then 1 else 0
  (⟨u8 (s.fnParam n) 0, 0x40, d + 256 * (255 - d) + 65536 * n, qGood, apply⟩, r.2)

/-- Post the resets gathered at the latch of this release (R367). -/
def State.postResets (s : State) : State :=
  if s.saf.gather = 0 then s
  else
    let g := s.saf.gather
    ({ s with saf := { s.saf with gather := 0, resets := s.saf.resets ||| g } }).hostPost 18 0 ([0x21, 0, 0, 0] ++ leBytes 16 g)

/-- The commit of the safety task: SS1, SOUT, PDUs and resets; the SOUT entries. -/
def State.safCommit (s : State) (c t apply period : Nat) : List OutEntry × State :=
  let s := (s.fnsOf 4).foldl (fun s n => s.ss1Commit c t apply period n) s
  let q := (s.fnsOf 3).foldl (fun (a : List OutEntry × State) n =>
    let e := a.2.soutEntry c apply period n
    (a.1 ++ [e.1], e.2)) ([], s)
  (q.1, (q.2.escProduce c apply period).postResets)

/-- A Trick of the safety task applies: readers see what its commit formed (R23, R361). -/
def State.safApply (s : State) : State :=
  { s with saf := { s.saf with fns := s.saf.fns.map (fun (f : HostFn) => if f.ty = 4 then { f with shown := f.formed } else f) } }

/-! ### Response bounds (R363) -/

/-- Settling time of an AI filter in µs (R316). -/
def filtSettle : Nat → Nat
  | 0 => 1200 | 1 => 4800 | 2 => 24000 | 3 => 96000 | _ => 480000

/-- A channel record of the SAFETY section. -/
def Image.safeChan (i : Image) (c : Nat) : Option (Nat × Nat × Nat × Nat) := i.safeChans.find? (fun r => decide (r.1 = c))

/-- T_in of a source, in µs; 0 for a source that is none of those the bound counts. -/
def Image.tIn (i : Image) (src : Nat) : Nat :=
  let sub := bits src 16 8
  match src / 2 ^ 24 with
  | 1 => match i.safeChan (bits src 0 16) with | some (_, _, a, b) => 1000 * (a + 256 * b) + 225 | none => 0
  | 7 => match i.escRecs.find? (fun r => decide (r.num = sub)) with | some r => 1000 * r.wdog | none => 0
  | 8 => match i.safeFns.find? (fun f => decide (f.num = sub)) with
    | some f =>
      if f.ty = 1 then u32 f.param 8 + 225
      else if f.ty = 2 then
        let s := fun (c : Nat) => match i.safeChan c with | some (_, _, a, _) => filtSettle a | none => 0
        max (s (u8 f.param 0)) (s (u8 f.param 1)) + 225
      else 0
    | none => 0
  | _ => 0

/-- Whether a safety route feeds the safety task's input image with a safety source. -/
def Image.feedsSafe (i : Image) (r : Route) : Bool :=
  decide (r.dst / 2 ^ 24 = 3) && decide (bits r.dst 16 8 = i.safeTask) && !(i.nonSafety.contains (bits r.dst 0 16))

/-- The speed inputs of an SS1. -/
def Image.speedRoutes (i : Image) (n : Nat) : List Route := i.safeRoutes.filter (fun r => decide (r.dst = safSink n 5) || decide (r.dst = safSink n 6))

/-- The bound of a function, in µs. -/
def Image.safResp (i : Image) (f : SafeFn) : Nat :=
  if f.ty = 1 ∨ f.ty = 2 then 0
  else
    let ss1s := i.safeFns.filter (fun g => decide (g.ty = 4) && (decide (g.num = f.num) || (decide (f.ty = 3) && decide (u8 g.param 1 = f.num))))
    let rs := i.safeRoutes.filter (fun r => i.feedsSafe r) ++ ss1s.flatMap (fun g => i.speedRoutes g.num)
    (rs.map (fun r => i.tIn r.src)).foldl max 0 + 2 * u32 (i.sec tySafety) 8 + 50

/-! ### Confirmation (R365, R366) -/

/-- Address of the confirmation record. -/
def confAt : Nat := 0x205EFFC0

/-- CHK_NEW and CHK_OLD of the valid copy. -/
def State.confRead (s : State) : Nat × Nat :=
  match s.copyRead confAt copyGood with | some b => (u32 b 4, u32 b 8) | none => (0, 0)

/-- Whether a value is confirmed: named by a valid record. -/
def State.confirmed (s : State) (chk : Nat) : Bool :=
  match s.copyRead confAt copyGood with | some b => decide (chk = u32 b 4) || decide (chk = u32 b 8) | none => false

/-- Show the record's values, and CONF. -/
def State.showConf (s : State) : State :=
  let c := s.confRead
  let s := (s.setReg Reg.SAF_CONF (BitVec.ofNat 32 c.1)).setReg Reg.SAF_CONFOLD (BitVec.ofNat 32 c.2)
  s.setFlag Reg.SAF_STAT_CONF (s.img.isSome && s.confirmed s.safeChk)

/-- Seconds left in the window. -/
def State.showWindow (s : State) : State :=
  match s.saf.window with
  | some (_, e) => (s.setFlag Reg.SAF_STAT_WINDOW true).setReg Reg.SAF_CONFT (BitVec.ofNat 32 (min 30 (ceilDiv (e - s.mono) 1000000000)))
  | none => (s.setFlag Reg.SAF_STAT_WINDOW false).setReg Reg.SAF_CONFT 0

/-- Open a window for a value. -/
def State.openWindow (s : State) (v : Nat) : State :=
  (({ s with saf := { s.saf with window := some (v, s.mono + 30000000000) } }).showWindow).raise 165 v 0

/-- The Confirm key completes the confirmation: the other copy takes the values; a unit in RUN that is now confirmed arms (R367). -/
def State.confirmPress (s : State) (v : Nat) : State :=
  let old := s.confRead.1
  let s := s.copyWrite confAt copyGood (leBytes 4 v ++ leBytes 4 old ++ leBytes 4 0 ++ leBytes 8 (secOf s.now))
  let was := s.flag Reg.SAF_STAT_CONF
  let s := (({ s with saf := { s.saf with window := none } }).showWindow.showConf).raise 166 v 0
  let s := if s.fld Reg.WVE_SWAP_PHASE = 2 ∧ s.imgAlt.any (fun i => s.confirmed i.safeChk) then s.setFlag Reg.WVE_SWAP_NEEDCONF false else s
  if !was && s.flag Reg.SAF_STAT_CONF then s.armRequest else s

/-- CONFIRM_WINDOW_EXPIRY: 30 s pass without a press. -/
def confExpiry (s : State) : State :=
  match s.saf.window with
  | some (_, e) =>
    let s := s.toMono (e + 10)
    (({ s with saf := { s.saf with window := none } }).showWindow).raise 167 0 0
  | none => s

def execConfirmWindowExpiry (s : State) : Result := .next (confExpiry s)

end Sys2Proof.Machine
end

