-- ==== Sys2Proof/Machine/Changes.lean ====
section
/-! DEFINITION. Online changes (06, R171 to R177): the records of a set take effect at a release; the change journal. -/

namespace Sys2Proof.Machine

/-! ### The journal (R177) -/

def journalAt : Nat := 0x205B8D80
def journalSize : Nat := 29312

/-- The records of a set as sent: each big-endian. -/
def setBytes (recs : List (Nat × Nat)) : List Byte := recs.flatMap (fun r => beBytes 2 r.1 ++ [0, 0] ++ beBytes 8 r.2)

/-- One entry, padded. -/
def journalEntry (build task setId prev : Nat) (recs : List (Nat × Nat)) : List Byte :=
  let b := leBytes 2 (20 + 12 * recs.length) ++ leBytes 1 recs.length ++ leBytes 1 task ++ leBytes 4 setId ++ leBytes 4 build ++ leBytes 4 prev ++
    setBytes recs
  let b := b ++ leBytes 4 (crc32c b)
  b ++ List.replicate (8 * ceilDiv b.length 8 - b.length) 0

/-- What a walk through the journal finds: entries (task, set, records) in order, the bytes they use, the last CRC, and whether it stopped at a
bad entry. -/
structure Journal where
  sets : List (Nat × Nat × List (Nat × Nat))
  used : Nat
  crc : Nat
  bad : Bool
  deriving DecidableEq, Repr

/-- The records of an entry. -/
def setRecs (b : List Byte) (n : Nat) : List (Nat × Nat) :=
  (List.range n).map (fun k => (beNat (slice b (12 * k) 2), beNat (slice b (12 * k + 4) 8)))

/-- Walk from offset `o` with the chain value `crc`. -/
def journalWalk (j : List Byte) (build : Nat) : Nat → Nat → Nat → Journal
  | 0, o, crc => ⟨[], o, crc, false⟩
  | fuel + 1, o, crc =>
    let len := u16 j o
    let n := u8 j (o + 2)
    if j.length < o + 24 ∨ len = 0 then ⟨[], o, crc, false⟩
    else if len ≠ 20 + 12 * n ∨ j.length < o + len ∨ u32 j (o + len - 4) ≠ crc32c (slice j o (len - 4)) ∨ u32 j (o + 12) ≠ crc ∨
        u32 j (o + 8) ≠ build then ⟨[], o, crc, true⟩
    else
      let r := journalWalk j build fuel (o + 8 * ceilDiv len 8) (u32 j (o + len - 4))
      { r with sets := (u8 j (o + 3), u32 j (o + 4), setRecs (slice j (o + 16) (12 * n)) n) :: r.sets }

/-- The journal as it stands. -/
def State.journal (s : State) : Journal :=
  journalWalk (s.bytes journalAt (if s.fld Reg.WVE_CHGSTAT_JBYTES = 0 then 0 else journalSize)) (imgBuild s.img) 1000 0 0

/-- Whether a set fits (R174). -/
def State.journalFits (s : State) (n : Nat) : Bool := decide (s.fld Reg.WVE_CHGSTAT_JBYTES + 8 * ceilDiv (20 + 12 * n) 8 ≤ journalSize)

/-- Append a set. -/
def State.journalAppend (s : State) (task setId : Nat) (recs : List (Nat × Nat)) : State :=
  let j := s.journal
  let e := journalEntry (imgBuild s.img) task setId j.crc recs
  (s.wrBytes (journalAt + j.used) e).setFld Reg.WVE_CHGSTAT_JBYTES (j.used + e.length)

/-- Empty the journal (R177). -/
def State.journalEmpty (s : State) : State := (s.wrBytes journalAt (List.replicate journalSize 0)).setFld Reg.WVE_CHGSTAT_JBYTES 0

/-! ### Applying a set (R175, R176) -/

/-- The value bytes of a record. -/
def ChgEntry.bytes (e : ChgEntry) (v : Nat) : List Byte := leBytes (tySize e.ty) (if e.ty = 1 then boolVal (isTrue v) else v)

/-- Write one record; L records are gathered apart. -/
def State.setRecord (s : State) (c : Nat) (e : ChgEntry) (v : Nat) : State :=
  let b := e.bytes v ++ [BitVec.ofNat 8 qGood] ++ List.replicate (tySize e.ty - 1) 0
  match e.space with
  | 1 => match s.img with | some i => { s with img := some (i.kWrite e.off (e.bytes v)) } | none => s
  | 2 => s.setTask c ((s.task c).writeV e.off b)
  | 3 => s.setTask c ((s.task c).writeG e.off b)
  | _ => s

/-- The L records of a set as batches that reach their slots at `t`. -/
def setBatches (es : List (ChgEntry × Nat)) (c t : Nat) : List Batch :=
  let l := es.filter (fun p => decide (p.1.space = 4))
  (dedup (l.map (fun p => p.1.off / 256))).map (fun n =>
    ⟨n, 0, c, t, (l.filter (fun p => decide (p.1.off / 256 = n))).map (fun p => (p.1.off % 256, p.1.bytes p.2))⟩)

/-- A set takes effect at the release of task `c` at `t` that will commit `trick`. -/
def State.applySet (s : State) (c t trick setId : Nat) (recs : List (Nat × Nat)) : State :=
  let all := match s.img with | some i => i.changeables | none => []
  let es := recs.filterMap (fun r => (all[r.1]?).map (fun e => (e, r.2)))
  let s := es.foldl (fun s p => s.setRecord c p.1 p.2) s
  let s := (setBatches es c t).foldl (fun s b => s.addBatch b) s
  let s := ((s.setReg Reg.WVE_CHGLAST (BitVec.ofNat 32 setId)).setReg Reg.WVE_CHGTRICK (BitVec.ofNat 32 trick)).setFld Reg.WVE_CHGSTAT_LASTTASK c
  s.raise 16 setId trick

/-- The sets that a release of task `c` at `t` takes: those queued at least 50 µs before. -/
def State.setsDue (s : State) (c t : Nat) : List ChangeSet := s.changes.filter (fun x => decide (x.task = c) && decide (x.queuedAt + 50000 ≤ t))

/-- Take them, in the order of acceptance. -/
def State.takeSets (s : State) (c t trick : Nat) : State :=
  let due := s.setsDue c t
  let s := { s with changes := s.changes.filter (fun x => !(due.contains x)) }
  let s := s.setFld Reg.WVE_CHGSTAT_PENDING s.changes.length
  due.foldl (fun s x => s.applySet c t trick x.setId x.recs) s

end Sys2Proof.Machine
end

