-- ==== Sys2Proof/Machine/LoadCode.lean ====
section
/-! DEFINITION. Check 7 of the loader (R160) for tasks, code, constants and changeable elements: R172, R187, R211, R216, R220, R221, R235,
R341, R347. Each predicate is true of a breach. -/

namespace Sys2Proof.Machine

/-- Whether bytes [o, o+n) of a section lie in it and are all 0. -/
def zeros (b : List Byte) (o n : Nat) : Bool := (slice b o n).all (fun x => decide (x = 0))

/-- A counted record list of fixed size is not the section's whole length. -/
def shortOf (b : List Byte) (head size n : Nat) : Bool := decide (b.length ≠ head + size * n)

/-- Two spans of bytes overlap. -/
def spansMeet (a n b m : Nat) : Bool := decide (a < b + m) && decide (b < a + n) && decide (0 < n) && decide (0 < m)

/-- Whether two entries of a list, in either order, satisfy `p`. -/
def anyTwo (p : α → α → Bool) : List α → Bool
  | [] => false
  | a :: l => l.any (fun b => p a b) || anyTwo p l

/-! ### TASKS (R186, R187) -/

/-- A TASKS record breaks a rule of its own. -/
def Image.taskBad (i : Image) (r : TaskRec) (b : List Byte) : Bool :=
  let p0 := match i.taskRec 0 with | some t => t.period | none => 250
  decide (8 < r.cls) || decide (2 < r.pair) || !(zeros b 2 2) || !(zeros b 30 2) || decide (65536 < r.inSize) || decide (65536 < r.outSize) ||
  decide (r.entry % 4 ≠ 0) || decide ((i.codeOf r.cls).length ≤ r.entry) ||
  (if r.cls = 8 then
     decide (r.period ≠ 0) || decide (r.phase ≠ 0) || decide (r.lout < 50) || decide (1000000 < r.lout) || decide (r.fwdog < 10) || decide (60000 < r.fwdog)
   else
     decide (r.period % 250 ≠ 0) || decide (r.period < 250) || decide (10000000 < r.period) || decide (r.period % (max 1 p0) ≠ 0) ||
     decide (r.period ≤ r.phase) || decide (r.lout < 50) || decide (r.period < 2 * r.lout) || decide (r.fwdog ≠ 0) ||
     i.taskRecs.any (fun q => decide (q.cls < r.cls) && decide (r.period < q.period)))

def Image.tasksBad (i : Image) : Bool :=
  let b := i.sec tyTasks
  let n := u32 b 0
  decide (n = 0) || shortOf b 4 32 n || !(noDup (i.taskRecs.map (fun r => r.cls))) || (i.taskRec 0).isNone ||
  ((recordsAt b 4 32 (min 9 n)).any (fun r => i.taskBad (taskRecOf r) r))

/-! ### Operands (R214 to R220) -/

/-- Type of a slot field that code may name in L space: bits as INT32. -/
def lField (o : Nat) : Option Nat :=
  if o % 4 = 0 ∧ o ≤ 0x08 then some 3
  else if o % 4 = 0 ∧ o ≤ 0x74 then some 4
  else if [0x80, 0x88, 0x90, 0x98, 0xA0, 0xB0, 0xB8, 0xF8, 0xFC].contains o then some 4
  else if [0xA8, 0xC0, 0xC2, 0xC4, 0xC6].contains o then some 1
  else if 0xC8 ≤ o ∧ o ≤ 0xF0 ∧ o % 8 = 0 then some 5
  else none

/-- Types of the SYS indices. -/
def sysType : Nat → Option Nat
  | 0 => some 6 | 1 => some 6 | 2 => some 1 | 3 => some 3 | 4 => some 1 | _ => none

/-- Size of K for a task. -/
def Image.kSize (i : Image) (c : Nat) : Nat := if c = i.safeTask then (i.sec tySafeConst).length else (i.sec tyConst).length

/-- An operand names an element of its space. -/
def Image.opndOk (i : Image) (r : TaskRec) (o : Opnd) : Bool :=
  let el := fun (n : Nat) => decide (o.off + tyElem o.ty ≤ n) && decide (o.off % tyAlign o.ty = 0)
  tyValid o.ty && (match o.space with
  | 0 => el r.inSize
  | 1 => el r.outSize
  | 2 => el (i.vSize r.cls)
  | 3 => decide (o.off + tySize o.ty ≤ i.kSize r.cls) && decide (o.off % tySize o.ty = 0)
  | 4 => decide (o.off % tyAlign o.ty = 0) &&
      i.gRanges.any (fun g => decide (g.2.2 = r.cls) && decide (g.1 ≤ o.off) && decide (o.off + tyElem o.ty ≤ g.1 + g.2.1))
  | 5 => decide (lField (o.off % 256) = some o.ty) && (i.loopRecs.map (·.1)).contains (o.off / 256)
  | 6 => if o.ty = 1 then decide (o.off ≤ 1) else if o.ty = 2 then decide (-32768 ≤ sint 24 o.off) && decide (sint 24 o.off ≤ 32767) else true
  | _ => decide (sysType o.off = some o.ty))

/-- An operand that may be written. -/
def Opnd.writable (o : Opnd) : Bool :=
  match o.space with
  | 1 => true | 2 => true | 4 => true
  | 5 => slotWritable (o.off % 256)
  | _ => false

/-- Bytes an operand's element takes in its space. -/
def Opnd.span (o : Opnd) : Nat := if o.space = 5 ∨ o.space = 3 then tySize o.ty else tyElem o.ty

/-- An operand of the type a shape asks for. -/
def tyMatch (want ty : Nat) : Bool := if want = 15 then tyNum ty else decide (want = ty)

/-- The exact conversions of R166. -/
def widens (a b : Nat) : Bool :=
  (decide (a = 2) && (decide (b = 3) || decide (b = 4) || decide (b = 5))) || ((decide (a = 3) || decide (a = 4)) && decide (b = 5))

/-- A call breaks a rule by itself. -/
def Image.callBad (i : Image) (r : TaskRec) (k : Call) : Bool :=
  let safe := decide (r.cls = i.safeTask)
  match k.shape with
  | none => true
  | some h =>
    let n := h.ins.length
    let ins := k.ops.take n
    let outs := k.ops.drop n
    decide (k.nops ≠ n + h.outs.length) || (if h.tys = [] then decide (k.ty ≠ 0) else !(h.tys.contains k.ty)) ||
    (if safe then [0x30, 0x31, 0x61].contains k.op || k.ops.any (fun o => decide (o.space = 4) || decide (o.space = 5))
     else decide (0x80 ≤ k.op) && decide (k.op ≤ 0xBF)) ||
    !(((h.ins.zip ins).all (fun p => tyMatch p.1 p.2.ty)) && ((h.outs.zip outs).all (fun p => tyMatch p.1 p.2.ty))) ||
    (decide (k.op = 0x09 ∧ k.ty = 1) && !(match ins, outs with | [a], [b] => widens a.ty b.ty | _, _ => false)) ||
    k.ops.any (fun o => !(i.opndOk r o)) || outs.any (fun o => !o.writable || o.neg) || ins.any (fun o => o.neg && decide (o.ty ≠ 1)) ||
    anyTwo (fun (a b : Opnd) => decide (a.space = b.space) && spansMeet a.off a.span b.off b.span) outs ||
    (if h.inst = 0 then decide (k.inst ≠ 0 ∧ ¬ [0x02, 0x03, 0x04].contains k.op) else decide (i.vSize r.cls < 8 * k.inst + h.inst))

/-! ### Code of a task (R216, R220, R341, R347) -/

/-- Instance areas of a task's calls: (INST, bytes, OP, TYPE). -/
def Image.instAreas (i : Image) (c : Nat) : List (Nat × Nat × Nat × Nat) :=
  (i.calls c).filterMap (fun p => match p.2.shape with | some h => if h.inst = 0 then none else some (p.2.inst, h.inst, p.2.op, p.2.ty) | none => none)

/-- V elements that operands name. -/
def Image.vOpnds (i : Image) (c : Nat) : List Opnd := ((i.allIns c) ++ (i.allOuts c)).filter (fun o => decide (o.space = 2))

/-- An instance area overlaps another or a V operand, or shares its INST with another block. -/
def Image.instBad (i : Image) (c : Nat) : Bool :=
  let a := dedup (i.instAreas c)
  anyTwo (fun (x y : Nat × Nat × Nat × Nat) => spansMeet (8 * x.1) x.2.1 (8 * y.1) y.2.1) a ||
  a.any (fun x => (i.vOpnds c).any (fun o => spansMeet (8 * x.1) x.2.1 o.off o.span))

/-- A jump whose target is no call of the task, or in SAFE_CODE not forward. -/
def jumpBad (safe : Bool) (at_ : List Nat) (p : Nat × Call) : Bool :=
  if [0x02, 0x03, 0x04].contains p.2.op then
    let d := sint 16 p.2.inst
    let t := (p.1 : Int) + d
    decide (t < 0) || !(at_.contains t.toNat) || (safe && decide (d ≤ 0))
  else false

/-- A non-safety input element used other than as RST of RESTART (R347). -/
def Image.nsBad (i : Image) (c : Nat) : Bool :=
  decide (c = i.safeTask) && (i.calls c).any (fun p =>
    let n := p.2.inOps.length
    ((List.range n).zip p.2.inOps).any (fun q => decide (q.2.space = 0) && i.nonSafety.contains q.2.off && !(decide (p.2.op = 0x88) && decide (q.1 = 1))))

/-- The walk ends within a call, meets no END, or ends in another call than END or JMP. -/
def walkBad (stop : Nat) (ks : List (Nat × Call)) : Bool :=
  !(ks.any (fun (p : Nat × Call) => decide (p.2.op = 1))) ||
  (match ks.getLast? with
   | some p => decide (p.1 + 1 + p.2.nops ≠ stop) || !([1, 2].contains p.2.op)
   | none => true)

/-- More than 1,024 distinct L elements written. -/
def Image.lWritesBad (i : Image) (c : Nat) : Bool :=
  decide (1024 < (dedup (((i.allOuts c).filter (fun (o : Opnd) => decide (o.space = 5))).map (fun (o : Opnd) => o.off))).length)

/-- The code of a task breaks a rule. -/
def Image.codeBad (i : Image) (r : TaskRec) : Bool :=
  let ks := i.calls r.cls
  let at_ : List Nat := ks.map (fun (p : Nat × Call) => p.1)
  let safe := decide (r.cls = i.safeTask)
  walkBad (i.codeEnd r.cls) ks || ks.any (fun (p : Nat × Call) => i.callBad r p.2 || jumpBad safe at_ p) || i.instBad r.cls ||
  i.nsBad r.cls || i.lWritesBad r.cls

/-- CODE holds the code of the ordinary tasks, SAFE_CODE that of the safety task alone. -/
def Image.codeSecBad (i : Image) : Bool :=
  decide ((i.sec tyCode).length % 4 ≠ 0) || (i.taskRecs.filter (fun r => decide (r.cls ≠ i.safeTask))).any (fun r => i.codeBad r)
def Image.safeCodeBad (i : Image) : Bool :=
  decide ((i.sec tySafeCode).length % 4 ≠ 0) ||
  (match i.taskRec i.safeTask with | some r => i.codeBad r || decide (r.entry ≠ 0) | none => true)

/-! ### CONST, INSTANCE, RETAIN (R211, R221) -/

/-- Whether a pattern of `n` bytes at offset `o` of initial bytes (0 beyond them) is a finite REAL. -/
def realFine (b : List Byte) (o ty : Nat) : Bool := if tyReal ty then tyFinite ty (leNat (slice b o (tySize ty))) else true

/-- CHANGEABLE entries, byte for byte. -/
def Image.chgRecs (i : Image) : List (List Byte) :=
  let b := i.sec tyChangeable
  recordsAt b 0 24 (b.length / 24)

/-- CHANGEABLE entries as (space, type, task, offset). -/
def Image.chgKeys (i : Image) : List (Nat × Nat × Nat × Nat) := i.chgRecs.map (fun r => (u8 r 0, u8 r 1, u8 r 2, u32 r 4))

/-- Elements of a space that operands of a task or CHANGEABLE entries name: (type, offset). -/
def Image.named (i : Image) (space chg c : Nat) : List (Nat × Nat) :=
  (((i.allIns c) ++ (i.allOuts c)).filter (fun o => decide (o.space = space))).map (fun o => (o.ty, o.off)) ++
  (i.chgKeys.filter (fun k => decide (k.1 = chg) && decide (k.2.2.1 = c))).map (fun k => (k.2.1, k.2.2.2))

def Image.constBad (i : Image) : Bool :=
  i.taskRecs.any (fun r => decide (r.cls ≠ i.safeTask) && (i.named 3 1 r.cls).any (fun e => !(realFine (i.sec tyConst) e.2 e.1)))

/-- An INSTANCE record: REALs of V and Q, and the REAL64 fields of RAMP and ROC. -/
def Image.instRealBad (i : Image) (c : Nat) (v q : List Byte) : Bool :=
  (i.named 2 2 c).any (fun e => !(realFine v e.2 e.1)) || (i.named 1 99 c).any (fun e => !(realFine q e.2 e.1)) ||
  i.routes.any (fun r => decide (r.src / 2 ^ 16 = 0x0400 + c) && !(realFine q (r.src % 65536) r.sty)) ||
  (i.instAreas c).any (fun a => [0x30, 0x31].contains a.2.2.1 && !(realFine v (8 * a.1 + 16) 5))

def Image.instanceBad (i : Image) : Bool :=
  let b := i.sec tyInstance
  let rs := instRecords b (min 9 (u32 b 0)) 4
  let size := (rs.map (fun r => 16 + 8 * ceilDiv (r.2.2.1.length + r.2.2.2.length) 8)).foldl (· + ·) 4
  decide (9 < u32 b 0) || decide (b.length < size) || !(noDup (rs.map (·.1))) ||
  rs.any (fun r => (match i.taskRec r.1 with
      | some t => decide (r.2.2.2.length ≠ 0 ∧ r.2.2.2.length ≠ t.outSize)
      | none => true) || decide (524288 < r.2.1) || decide (r.2.1 < r.2.2.1.length) || i.instRealBad r.1 r.2.2.1 r.2.2.2)

def Image.retainBad (i : Image) : Bool :=
  let b := i.sec tyRetain
  let n := u32 b 0
  decide (b.length < 8 + 12 * n + u32 b 4) || decide (64512 < u32 b 4) ||
  i.gRanges.any (fun g => decide (64512 < g.1 + g.2.1) || (i.taskRec g.2.2).isNone) ||
  (recordsAt b 8 12 (min 65536 n)).any (fun r => !(zeros r 9 3)) ||
  anyTwo (fun (x y : Nat × Nat × Nat) => spansMeet x.1 x.2.1 y.1 y.2.1) i.gRanges ||
  i.taskRecs.any (fun r => (i.named 4 3 r.cls).any (fun e => !(realFine i.gInit e.2 e.1)))

/-! ### CHANGEABLE (R172, R235) -/

/-- A value in the 8-byte form of R172. -/
def chgForm (ty v : Nat) : Bool :=
  match ty with
  | 1 => decide (v ≤ 1)
  | 2 => decide (v = unsint 64 (sint 16 v))
  | 3 => decide (v = unsint 64 (sint 32 v))
  | 4 => decide (v < 2 ^ 32) && fin32 v
  | 5 => fmt64.finite v
  | 6 => true
  | _ => false

/-- Compare two values of a type. -/
def chgLe (ty a b : Nat) : Bool :=
  if ty = 4 then le64 (widen32 a) (widen32 b) else if ty = 5 then le64 a b else decide (sint 64 a ≤ sint 64 b)

/-- An entry breaks a rule. -/
def Image.chgBad (i : Image) (r : List Byte) : Bool :=
  let sp := u8 r 0
  let ty := u8 r 1
  let c := u8 r 2
  let off := u32 r 4
  let lo := u64 r 8
  let hi := u64 r 16
  let space := match sp with | 1 => 3 | 2 => 2 | 3 => 4 | _ => 5
  decide (sp = 0) || decide (4 < sp) || !(tyValid ty) || decide (u8 r 3 ≠ 0) || decide (c = i.safeTask) ||
  (match i.taskRec c with
   | none => true
   | some t => !(i.opndOk t ⟨space, false, ty, off⟩)) ||
  decide (sp = 4 ∧ ¬ slotWritable (off % 256)) || !(chgForm ty lo) || !(chgForm ty hi) || decide (ty = 1 ∧ (lo, hi) ≠ (0, 1)) ||
  (decide (sp = 2) && (i.instAreas c).any (fun a => spansMeet (8 * a.1) a.2.1 off (tyElem ty))) ||
  (decide (sp = 1) && i.taskRecs.any (fun q => decide (q.cls ≠ c) && decide (q.cls ≠ i.safeTask) &&
    (i.allIns q.cls).any (fun o => decide (o.space = 3) && spansMeet o.off (tySize o.ty) off (tySize ty))))

def Image.changeableBad (i : Image) : Bool :=
  let rs := i.chgRecs
  decide ((i.sec tyChangeable).length % 24 ≠ 0) || decide (4096 < rs.length) || rs.any (fun r => i.chgBad r) ||
  anyTwo (fun (a b : Nat × Nat × Nat × Nat) =>
    decide (a.1 = b.1) && (decide (a.1 ≠ 2) || decide (a.2.2.1 = b.2.2.1)) && decide (a.2.2.2 = b.2.2.2)) i.chgKeys

end Sys2Proof.Machine
end

