-- ==== Sys2Proof/Machine/LoadIo.lean ====
section
/-! DEFINITION. Check 7 of the loader (R160) for SYSTEM, EVENTS, QUEUES, CHANNELS, SAFETY, LOOPS, REGIONS and PANEL: R133, R156, R241, R270,
R280, R302, R312, R329, R342, R343, R364, R472, R487, R501, R526, R527. Each predicate is true of a breach. -/

namespace Sys2Proof.Machine

/-! ### Parameter records (R156) -/

/-- The records end where the section ends. -/
def tagEnd (b : List Byte) : Nat → Nat → Bool
  | 0, o => decide (o = b.length)
  | fuel + 1, o =>
    if o = b.length then true
    else if o + 4 ≤ b.length ∧ o + 4 + u16 b (o + 2) ≤ b.length then tagEnd b fuel (o + 4 + 4 * ceilDiv (u16 b (o + 2)) 4)
    else false

def inRange (lo hi v : Nat) : Bool := decide (lo ≤ v) && decide (v ≤ hi)

/-- An address that a snapshot list may name (R487). -/
def snapOk (a : Nat) : Bool :=
  decide (a = 0) || (decide (a % 4 = 0) && (inRange 0x600000 0x17FFFFC a || (inRange 0x40000000 0x400EFFFC a && decide (a / 65536 ≠ 0x400A)) ||
    inRange 0x41000000 0x4103FFFC a))

/-- A SYSTEM record's value is in range; `wdogMin` is the least safe-state watchdog timeout (R472). -/
def systemOk (wdogMin : Nat) (r : Nat × List Byte) : Bool :=
  let b := r.2
  let n := b.length
  match r.1 with
  | 0x0001 => decide (n = 4) && inRange 5 20 (u8 b 0) && inRange 10 40 (u8 b 1) && inRange 40 200 (u8 b 2) && decide (u8 b 3 = 0)
  | 0x0002 => decide (n = 2) && inRange 10 1000 (u16 b 0)
  | 0x0003 => decide (n = 4) && inRange 0 1 (u8 b 0) && inRange 0 15 (u8 b 1) && inRange 50 255 (u8 b 2) && decide (u8 b 3 = 0)
  | 0x0004 => decide (n = 4) && decide (u16 b 0 ≠ 0) && inRange 0 3 (u16 b 2)
  | 0x0005 => decide (n = 2) && decide (u16 b 0 ≠ 0)
  | 0x0006 => decide (n = 2)
  | 0x0200 => decide (n = 4) && b.all (fun x => decide (x.toNat < 32) || decide (x.toNat = 255))
  | 0x0300 => decide (n = 4) && inRange (max 200 wdogMin) 100000 (u32 b 0) && decide (u32 b 0 % 100 = 0)
  | 0x0301 => decide (n = 4) && inRange 2 63 (u8 b 0) && inRange 2 63 (u8 b 1) && decide (u16 b 2 = 0)
  | 0x0400 => decide (n = 4) && inRange 0 168 (u8 b 0) && inRange 5 90 (u8 b 1) && inRange 0 1 (u8 b 2) && inRange 0 3 (u8 b 3)
  | 0x0500 => decide (n = 512) && (List.range 256).all (fun k => decide (bits (u8 b (2 * k)) 1 3 = 0) && decide (bits (u8 b (2 * k)) 4 4 ≠ 15))
  | 0x0501 => decide (n = 1560) && (List.range 390).all (fun k => snapOk (u32 b (4 * k)))
  | _ => false

def Image.systemBad (i : Image) (pair : Bool) : Bool :=
  let b := i.sec tySystem
  let rs := tagRecords b b.length 0
  let p0 := match i.taskRec 0 with | some t => t.period | none => 0
  !(tagEnd b b.length 0) || !(noDup (rs.map (fun r => r.1))) || rs.any (fun r => !(systemOk (if pair then p0 + 300 else 0) r))

/-! ### EVENTS (R526) -/

def Image.eventRecs (i : Image) : List (List Byte) := recordsAt (i.sec tyEvents) 4 4 (min 256 (u32 (i.sec tyEvents) 0))
def Image.eventsBad (i : Image) : Bool :=
  let b := i.sec tyEvents
  shortOf b 4 4 (u32 b 0) || !(noDup (i.eventRecs.map (fun r => u8 r 0))) ||
  i.eventRecs.any (fun r => decide (3 < u8 r 1) || decide (15 < u8 r 2) || decide (1 < u8 r 3))

/-! ### QUEUES (R127, R133, R527) -/

def Image.queueRecs (i : Image) : List (List Byte) := recordsAt (i.sec tyQueues) 8 12 (min 62 (u32 (i.sec tyQueues) 0))
def Image.mbxRecs (i : Image) : List (List Byte) :=
  let b := i.sec tyQueues
  recordsAt b (8 + 12 * min 62 (u32 b 0)) 8 (min 24 (u32 b 4))

/-- The end codes of R127. -/
def endCodes : List Nat := [0, 1, 2, 8, 9, 10, 11, 16, 20, 24, 28, 32, 63]

/-- A queue record with a reserved end code, or class 7 without the safety supervisor at an end. -/
def queueCodeBad (r : List Byte) : Bool :=
  !(endCodes.contains (u8 r 4)) || !(endCodes.contains (u8 r 5)) || decide (u8 r 1 = 7 ∧ u8 r 4 ≠ 32 ∧ u8 r 5 ≠ 32)

/-- Base and bytes of a queue's ring. -/
def ringSpan (r : List Byte) : Nat × Nat := (u32 r 8, 16 * 2 ^ u8 r 2)

def mbxBad (r : List Byte) : Bool :=
  let m := u8 r 0
  decide (23 < m) || decide (1 < u8 r 3) || !(zeros r 6 2) ||
  (if m < 16 then decide (2 < u8 r 1) || decide (2 < u8 r 2) || decide (u8 r 1 = u8 r 2)
   else if m < 20 then decide (2 < u8 r 1) || decide (u8 r 2 ≠ 3) else decide (u8 r 1 ≠ 3) || decide (2 < u8 r 2))

def Image.queuesBad (i : Image) : Bool :=
  let b := i.sec tyQueues
  decide (62 < u32 b 0) || decide (24 < u32 b 4) || decide (b.length < 8 + 12 * u32 b 0 + 8 * u32 b 4) ||
  !(noDup (i.queueRecs.map (fun r => u8 r 0))) || !(noDup (i.mbxRecs.map (fun r => u8 r 0))) || i.mbxRecs.any mbxBad ||
  i.queueRecs.any (fun r => !(inRange 2 63 (u8 r 0)) || decide (7 < u8 r 1) || !(inRange 4 12 (u8 r 2)) || decide (1 < u8 r 3) || !(zeros r 6 2) ||
    decide (u32 r 8 % (16 * 2 ^ u8 r 2) ≠ 0) || !(inShared (u32 r 8) (16 * 2 ^ u8 r 2))) ||
  anyTwo (fun (x y : Nat × Nat) => spansMeet x.1 x.2 y.1 y.2) (i.queueRecs.map ringSpan)

/-! ### CHANNELS (R280, R302, R312, R329) -/

def Image.chanRecs (i : Image) : List (List Byte) := recordsAt (i.sec tyChannels) 4 32 (min 64 (u32 (i.sec tyChannels) 0))

/-- The HART parameters at their offsets in PARAM: PREAMB, RETRY, SCAN_S, POLL, LADDR. -/
def hartBad (r : List Byte) (fl pre ret scan poll laddr : Nat) : Bool :=
  if bit (u8 r (4 + fl)) 1 then
    !(inRange 5 20 (u8 r (4 + pre))) || decide (5 < u8 r (4 + ret)) || decide (3600 < u16 r (4 + scan)) || decide (63 < u8 r (4 + poll))
  else !(zeros r (4 + pre) 1) || !(zeros r (4 + ret) 1) || !(zeros r (4 + scan) 2) || !(zeros r (4 + poll) 1) || !(zeros r (4 + laddr) 5)

/-- A REAL32 field in [lo, hi] (small integers). -/
def realIn (r : List Byte) (o lo hi : Nat) : Bool :=
  let v := u32 r o
  fin32 v && le64 (int64 lo) (widen32 v) && le64 (widen32 v) (int64 hi)

/-- PARAM of a record breaks its kind's table; `pair` on a redundancy carrier. -/
def chanParamBad (pair : Bool) (r : List Byte) : Bool :=
  match u8 r 1 with
  | 0 => !(zeros r 4 28)
  | 1 => !([1, 3].contains (u8 r 4)) || decide (6 < u8 r 5) || !(zeros r 6 2) || decide (50000 < u32 r 8) || !(zeros r 12 20)
  | 2 => !([1, 3].contains (u8 r 4)) || !(inRange 1 3 (u8 r 5)) || !(inRange 1 1000 (u16 r 6)) || !(inRange (max 10 (u16 r 6)) 10000 (u16 r 8)) ||
      !(zeros r 10 22)
  | 3 => decide (1 < u8 r 4) || decide (15 < u8 r 5) || !(inRange 10 10000 (u16 r 6)) || !(zeros r 8 24)
  | 4 => decide (1 < u8 r 4) || decide (4 < u8 r 5) || decide (bit (u8 r 6) 1 = true ∧ u8 r 5 < 3) || decide (15 < u8 r 6) ||
      hartBad r 2 3 15 12 14 16 || !(fin32 (u32 r 8)) || lt64 (widen32 (u32 r 8)) 0 ||
      !((decide (u32 r 12 = 0) && !(pair && decide (u8 r 4 = 0))) || realIn r 12 20 250) || !(zeros r 25 7)
  | 5 => decide (2 < u8 r 4) || decide (15 < u8 r 5) || bit (u8 r 5) 0 || hartBad r 1 2 3 8 10 12 || !(realIn r 8 0 22) || !(zeros r 15 1) || !(zeros r 21 11)
  | _ => !(zeros r 4 28)

/-- The safe-state codes a kind may carry. -/
def safeCodeOk (kind code : Nat) : Bool :=
  decide (code = 0) || (decide (kind = 3) && (decide (code = 1) || decide (code = 2))) || (decide (kind = 5) && (decide (code = 1) || decide (code = 3)))

/-- Queues of a queue record with given ends. -/
def Image.queueShape (i : Image) (q : Nat) (p : List Byte → Bool) : Bool := i.queueRecs.any (fun r => decide (u8 r 0 = q) && p r)

/-- HART is enabled on a channel but tag 0x0301 does not name queues of the right shape (R329). -/
def Image.hartQueuesBad (i : Image) : Bool :=
  i.chanRecs.any (fun r => (decide (u8 r 1 = 4) && bit (u8 r 6) 1) || (decide (u8 r 1 = 5) && bit (u8 r 5) 1)) &&
  (match i.systemTag 0x0301 with
   | none => true
   | some b => !(i.queueShape (u8 b 0) (fun r => decide (u8 r 4 ≤ 2) && decide (u8 r 5 = 20))) ||
       !(i.queueShape (u8 b 1) (fun r => decide (u8 r 4 = 20) && decide (u8 r 5 ≤ 2))))

def Image.channelsBad (i : Image) (pair : Bool) : Bool :=
  let b := i.sec tyChannels
  !(inRange 1 64 (u32 b 0)) || shortOf b 4 32 (u32 b 0) || !(noDup (i.chanRecs.map (fun r => u8 r 0))) || i.hartQueuesBad ||
  i.chanRecs.any (fun r => decide (63 < u8 r 0) || decide (8 < u8 r 1) || decide (1 < u8 r 3) || !(safeCodeOk (u8 r 1) (u8 r 2)) || chanParamBad pair r)

/-- A channel's record. -/
def Image.chanRec (i : Image) (c : Nat) : Option (List Byte) := i.chanRecs.find? (fun r => decide (u8 r 0 = c))
def Image.chanKind (i : Image) (c : Nat) : Nat := match i.chanRec c with | some r => u8 r 1 | none => 0

/-! ### SAFETY (R342, R343, R364) -/

/-- A channel record disagrees with CHANNELS, or breaks its kind's fields. -/
def Image.safeChanBad (i : Image) (r : Nat × Nat × Nat × Nat) : Bool :=
  match i.chanRec r.1 with
  | none => true
  | some x =>
    let p := r.2.2.1 + 256 * r.2.2.2
    decide (u8 x 1 ≠ r.2.1) ||
    (match r.2.1 with
     | 2 => decide (p ≠ u16 x 6)
     | 4 => decide (r.2.2.1 ≠ u8 x 5 ∨ r.2.2.2 ≠ 0)
     | 6 => (decide (r.2.2.1 ≠ 255) && decide (i.chanKind r.2.2.1 ≠ 7)) || decide (r.2.2.2 ≠ 0) || !(zeros x 2 30)
     | 7 => decide (7 < r.2.2.1) || decide (r.2.2.2 ≠ 0) || !(zeros x 2 30)
     | 8 => decide (p ≠ 0) || !(zeros x 2 30)
     | _ => true)

/-- The channels a function uses: outputs and inputs it owns. -/
def fnChans (f : SafeFn) : List Nat :=
  match f.ty with
  | 1 => [u8 f.param 0, u8 f.param 1]
  | 2 => [u8 f.param 0, u8 f.param 1]
  | 3 => [u8 f.param 0, u8 f.param 1] ++ (if u8 f.param 2 = 255 then [] else [u8 f.param 2])
  | _ => []

/-- TSRC of an SI channel record. -/
def Image.tsrc (i : Image) (c : Nat) : Nat := match i.safeChan c with | some r => r.2.2.1 | none => 255

/-- PARAM of a function breaks its table. -/
def Image.safeFnBad (i : Image) (f : SafeFn) : Bool :=
  let p := f.param
  let kind := fun (c : Nat) => match i.safeChan c with | some r => r.2.1 | none => 0
  decide (127 < f.num) ||
  (match f.ty with
   | 1 => decide (kind (u8 p 0) ≠ 6) || decide (kind (u8 p 1) ≠ 6) || decide (1 < u8 p 2) || !(zeros p 3 1) || !(inRange 10 3000 (u16 p 4)) ||
       !(zeros p 6 2) || !(inRange 1000 50000 (u32 p 8)) || decide (u32 p 8 % 100 ≠ 0) || !(zeros p 12 16) ||
       decide (i.tsrc (u8 p 0) ≠ 255 ∧ i.tsrc (u8 p 0) = i.tsrc (u8 p 1))
   | 2 => decide (kind (u8 p 0) ≠ 4) || decide (kind (u8 p 1) ≠ 4) || decide (2 < u8 p 2) || !(zeros p 3 1) || !(inRange 10 3000 (u16 p 4)) ||
       !(zeros p 6 2) || !(fin32 (u32 p 8)) || !(lt64 0 (widen32 (u32 p 8))) || !(zeros p 12 16)
   | 3 => decide (kind (u8 p 0) ≠ 8) || decide (kind (u8 p 1) ≠ 8) || decide (u8 p 2 ≠ 255 ∧ kind (u8 p 2) ≠ 6) || !(zeros p 3 1) ||
       !(inRange 20 1000 (u16 p 4)) || !(inRange 150 300 (u16 p 6)) || !(zeros p 8 20)
   | 4 => decide (1 < u8 p 0) || !((i.safeFns.any (fun g => decide (g.num = u8 p 1) && decide (g.ty = 3)))) || decide (u16 p 6 ≤ u16 p 4) ||
       [8, 12, 16, 20].any (fun o => !(fin32 (u32 p o))) || !(lt64 0 (widen32 (u32 p 8))) || lt64 (widen32 (u32 p 12)) 0 ||
       !(lt64 0 (widen32 (u32 p 16))) || !(lt64 0 (widen32 (u32 p 20))) || !(zeros p 24 4)
   | _ => true) ||
  (decide (f.pst ≠ 0) && (decide (f.ty = 3) || decide (f.ty = 4)) && decide (1000 * f.pst < i.safResp f))

def Image.safetyBad (i : Image) : Bool :=
  let b := i.sec tySafety
  let o := i.safetyOffsets
  let fs := i.safeFns
  let per := match i.taskRec (u8 b 0) with | some t => t.period | none => 0
  decide (7 < u8 b 0) || decide (i.taskRec (u8 b 0) = none) || decide (u32 b 8 ≠ per) || !(zeros b 12 4) || !(inRange 1 128 (u8 b 2)) ||
  !(decide (u16 b 4 = 0) || inRange 100 10000 (u16 b 4)) || decide (b.length < o.2.2.2 + 24 * u16 b 6) ||
  i.safeChans.any (fun r => i.safeChanBad r) || !(noDup (i.safeChans.map (fun r => r.1))) || !(noDup (fs.map (fun f => f.num))) ||
  i.chanRecs.any (fun r => decide (6 ≤ u8 r 1) && (i.safeChan (u8 r 0)).isNone) || !(noDup (fs.flatMap fnChans)) || fs.any (fun f => i.safeFnBad f) ||
  !(noDup ((i.safeChans.filter (fun r => decide (r.2.1 = 7))).map (fun r => 8 * (r.1 / 32) + r.2.2.1))) ||
  (recordsAt b o.2.1 4 (u8 b 3)).any (fun r => !(zeros r 2 2) || (match i.taskRec (u8 b 0) with
    | some t => decide (t.inSize < u16 r 0 + 2) || decide (u16 r 0 % 2 ≠ 0)
    | none => true))

/-! ### LOOPS and REGIONS (R241, R266, R270) -/

def Image.loopBad (i : Image) (r : Nat × List Byte) : Bool :=
  let b := r.2
  let cfg := u32 b 0
  let reg := bits cfg 16 8
  decide (1023 < r.1) || decide (bits cfg 0 4 = 15) || decide (bits cfg 4 2 = 3) || decide (bits cfg 10 6 ≠ 0) || decide (bits cfg 24 8 ≠ 0) ||
  (decide (reg ≠ 255) && (decide (63 < reg) || (i.regionTab reg).isNone)) || decide (bits (u32 b 4) 2 30 ≠ 0) || decide (u32 b 8 ≠ 0) || !(zeros b 0x74 12) ||
  !(slotOk (periodH (slotPeriod b)) b)

def Image.loopsBad (i : Image) : Bool :=
  let b := i.sec tyLoops
  !(inRange 1 1024 (u32 b 0)) || shortOf b 4 132 (u32 b 0) || !(noDup (i.loopRecs.map (fun r => r.1))) || i.loopRecs.any (fun r => i.loopBad r) ||
  (recordsAt b 4 132 (min 1024 (u32 b 0))).any (fun r => !(zeros r 2 2))

/-- A value of parameter `k` (0 K to 7 FF_BIAS) outside its slot field's range, TI apart. -/
def regionValBad (k v : Nat) : Bool :=
  let w := widen32 v
  let within := fun (lo hi : Nat) => le64 (int64 lo) w && le64 w (int64 hi)
  !(fin32 v) || (match k with
  | 0 => eq64 w 0
  | 1 => lt64 w 0
  | 2 => !(within 0 100000)
  | 3 => !(within 2 1000)
  | 4 => !(within 0 1)
  | 5 => !(within 0 1)
  | _ => false)

/-- Strictly increasing REAL32 breakpoints. -/
def increasing (r : List Byte) (o n : Nat) : Bool := (List.range (n - 1)).all (fun k => lt64 (widen32 (u32 r (o + 4 * k))) (widen32 (u32 r (o + 4 * k + 4))))

/-- Points in use of a table, and its value of a parameter. -/
def regionPts (r : List Byte) : Nat := u8 r 4 * u8 r 5
def regionWord (r : List Byte) (p k : Nat) : Nat := u32 r (104 + 32 * p + 4 * k)

/-- Periods of the slots that use a table. -/
def Image.regionUsers (i : Image) (t : Nat) : List Nat :=
  (i.loopRecs.filter (fun r => decide (bits (u32 r.2 0) 16 8 = t))).map (fun r => slotPeriod r.2)

def Image.regionBad (i : Image) (r : List Byte) : Bool :=
  let n := regionPts r
  let ks := (List.range 8).filter (fun k => bit (u8 r 2) k)
  let col := fun (k : Nat) => (List.range n).map (fun p => regionWord r p k)
  decide (63 < u8 r 0) || decide (u8 r 2 = 0) || decide (15 < u8 r 3) || !(zeros r 6 2) ||
  (if u8 r 1 = 1 then !(inRange 2 16 (u8 r 4)) || decide (u8 r 5 ≠ 1)
   else decide (u8 r 1 ≠ 2) || !(inRange 2 8 (u8 r 4)) || !(inRange 2 8 (u8 r 5)) || decide (bits (u8 r 3) 0 2 = bits (u8 r 3) 2 2)) ||
  !(increasing r 8 (u8 r 4)) || (decide (u8 r 1 = 2) && !(increasing r 72 (u8 r 5))) ||
  (List.range (u8 r 4)).any (fun k => !(fin32 (u32 r (8 + 4 * k)))) || !(zeros r (8 + 4 * u8 r 4) (64 - 4 * u8 r 4)) ||
  !(zeros r (72 + 4 * (if u8 r 1 = 2 then u8 r 5 else 0)) (32 - 4 * (if u8 r 1 = 2 then u8 r 5 else 0))) ||
  ks.any (fun k => (col k).any (fun v => regionValBad k v)) ||
  (List.range 8).any (fun k => !(ks.contains k) && (col k).any (fun v => decide (v ≠ 0))) || !(zeros r (104 + 32 * n) (2048 - 32 * n)) ||
  (ks.contains 0 && (col 0).any (fun v => decide (v / 2 ^ 31 ≠ regionWord r 0 0 / 2 ^ 31))) ||
  (ks.contains 1 && !((col 1).all (fun v => eq64 (widen32 v) 0)) &&
    (col 1).any (fun v => (i.regionUsers (u8 r 0)).any (fun p => lt64 (widen32 v) (periodH p)) || eq64 (widen32 v) 0))

def Image.regionsBad (i : Image) : Bool :=
  let b := i.sec tyRegions
  let rs := recordsAt b 4 2152 (min 64 (u32 b 0))
  !(inRange 1 64 (u32 b 0)) || shortOf b 4 2152 (u32 b 0) || !(noDup (rs.map (fun r => u8 r 0))) || rs.any (fun r => i.regionBad r)

/-- The sum of the slots' evaluations in one second, and of their costs (R266). -/
def Image.loopRate (i : Image) : Nat := (i.loopRecs.map (fun r => 1000000000 / periodNs (slotPeriod r.2))).foldl (· + ·) 0
def Image.loopBurst (i : Image) : Nat := (i.loopRecs.map (fun r => i.slotCost i.writableSlots r)).foldl (· + ·) 0
/-- The rate test exactly: the sum of 1/h over a common denominator of 2^13 · 10^9 ns. -/
def Image.rateBad (i : Image) : Bool :=
  decide (20000000 * (2 ^ 13 * 1000000000) < (i.loopRecs.map (fun r => 2 ^ 13 * 1000000000 * 1000000000 / periodNs (slotPeriod r.2))).foldl (· + ·) 0)
def Image.admissionBad (i : Image) : Bool := i.rateBad || decide (19200 < i.loopBurst)

/-! ### PANEL (R501) -/

def Image.panelRecs (i : Image) : List (List Byte) := recordsAt (i.sec tyPanel) 4 36 (min 16 (u32 (i.sec tyPanel) 0))

def Image.panelRecBad (i : Image) (r : List Byte) : Bool :=
  let x := u16 r 0
  let y := u16 r 2
  decide (400 < x + u16 r 4) || decide (y < 160) || decide (240 < y + u16 r 6) || !(inRange 1 4 (u8 r 8)) || !(inRange 1 2 (u8 r 9)) ||
  decide (6 < u8 r 10) || decide (7 < u8 r 11) || !(tyValid (u8 r 16)) || !(zeros r 17 3) ||
  (match i.taskRec (u8 r 11) with
   | some t => !(i.opndOk t ⟨1, false, u8 r 16, u32 r 12⟩) ||
       (i.allOuts t.cls).any (fun o => decide (o.space = 1) && spansMeet o.off o.span (u32 r 12) (tyElem (u8 r 16)) &&
         decide (o.off ≠ u32 r 12 ∨ o.ty ≠ u8 r 16))
   | none => true)

def Image.panelBad (i : Image) : Bool :=
  let b := i.sec tyPanel
  decide (16 < u32 b 0) || shortOf b 4 36 (u32 b 0) || i.panelRecs.any (fun r => i.panelRecBad r) ||
  anyTwo (fun (a b : List Byte) => spansMeet (u16 a 0) (u16 a 4) (u16 b 0) (u16 b 4) && spansMeet (u16 a 2) (u16 a 6) (u16 b 2) (u16 b 6)) i.panelRecs

end Sys2Proof.Machine
end

