-- ==== Sys2Proof/Machine/LoadNet.lean ====
section
/-! DEFINITION. Check 7 of the loader (R160) for CAN, NET, ESC, CARRY and ROUTES: R165 to R169, R240, R281, R313, R344, R345, R370, R371,
R379, R386, R387, R399 to R402, R415, R435. Each predicate is true of a breach. -/

namespace Sys2Proof.Machine

/-! ### CAN ports (R399) -/

/-- CAN clock cycles of a nominal and of a data bit. -/
def canNbt (r : List Byte) : Nat := u8 r 4 * (1 + u16 r 6 + u8 r 8)
def canDbt (r : List Byte) : Nat := u8 r 9 * (1 + u8 r 10 + u8 r 11)

def Image.canPortBad (i : Image) (r : List Byte) : Bool :=
  let p := u8 r 0
  decide (3 < p) || !(inRange 1 3 (u8 r 1)) || decide (1 < u8 r 2) || decide (3 < u8 r 3) || !(inRange 1 32 (u8 r 4)) || !(inRange 1 (u8 r 8) (u8 r 5)) ||
  !(inRange 2 256 (u16 r 6)) || !(inRange 1 128 (u8 r 8)) || (if u8 r 2 = 1 then !(inRange 1 32 (u8 r 9)) else decide (u8 r 9 ≠ 0)) ||
  !(inRange 1 32 (u8 r 10)) || !(inRange 1 16 (u8 r 11)) || !(inRange 1 (u8 r 11) (u8 r 12)) || decide (127 < u8 r 13) ||
  decide (1024 < u16 r 20) || !(zeros r 22 2) || !(zeros r 28 4) || decide (2 ^ 30 ≤ u32 r 24) || decide (u8 r 1 = 1 ∧ u32 r 24 ≠ 0) ||
  (decide (0 < u16 r 20) && (decide (u32 r 16 % 16 ≠ 0) || !(inShared (u32 r 16) (80 * u16 r 20)))) ||
  decide (canNbt r < 80) || (decide (u8 r 2 = 1) && (decide (canDbt r < 10) || decide (canNbt r < canDbt r))) ||
  (decide (u8 r 14 ≠ 255) && (!(i.queueShape (u8 r 14) (fun q => decide (u8 q 4 = 8 + p))) || decide (u16 r 20 = 0))) ||
  (decide (u8 r 15 ≠ 255) && !(i.queueShape (u8 r 15) (fun q => decide (u8 q 5 = 8 + p)))) ||
  (decide (u8 r 1 = 2) && (decide (u8 r 15 ≠ 255) || !(i.stnRecs.any (fun (x : StnRec) => !x.ecx && decide (x.port = p)))))

/-! ### Windows (R379, R415) -/

/-- Stuff bits included, the bits of a classical frame (ISO 11898-1, PRESUMED). -/
def classicBits (ide : Bool) (n : Nat) : Nat := if ide then 64 + 8 * n + (53 + 8 * n) / 4 else 44 + 8 * n + (33 + 8 * n) / 4

/-- Bits of an FD frame in the arbitration phase, and in the data phase (ISO 11898-1, PRESUMED). -/
def fdArbBits (ide : Bool) : Nat := (if ide then 36 + 8 else 17 + 4) + 10
def fdDataBits (n : Nat) : Nat := 5 + 8 * n + (5 + 8 * n) / 4 + (if n ≤ 16 then 4 + 17 + 6 else 4 + 21 + 7)

/-- Longest duration of a frame in CAN clock cycles. -/
def canFrameCycles (nb db : Nat) (ide : Bool) (fmt n : Nat) : Nat :=
  match fmt with
  | 0 => nb * classicBits ide n
  | 1 => nb * (fdArbBits ide + fdDataBits n)
  | _ => nb * fdArbBits ide + db * fdDataBits n

/-- The record of a port, byte for byte. -/
def Image.canPortBytes (i : Image) (p : Nat) : List Byte := match i.canPorts.find? (fun r => decide (r.port = p)) with | some r => r.bytes | none => []

/-- Timing task's period and L_out and the stations' LEAD_US of a port in MODE 2. -/
def Image.canTiming (i : Image) (p : Nat) : Nat × Nat × Nat :=
  match i.stnRecs.find? (fun (x : StnRec) => !x.ecx && decide (x.port = p)) with
  | some x => match i.taskRec x.task with | some t => (t.period, t.lout, x.lead) | none => (0, 0, 0)
  | none => (0, 0, 0)

/-- The stations whose inputs, or outputs, an object carries. -/
def Image.carriesIn (i : Image) (o : CanObj) : Bool := i.stnRecs.any (fun (x : StnRec) => !x.ecx && decide (x.port = o.port ∧ x.inObj = o.obj))
def Image.carriesOut (i : Image) (o : CanObj) : Bool := i.stnRecs.any (fun (x : StnRec) => !x.ecx && decide (x.port = o.port ∧ x.outObj = o.obj))

/-- A window outside the span R379 or R415 gives it, or shorter than its frame. -/
def Image.windowBad (i : Image) (o : CanObj) : Bool :=
  let r := i.canPortBytes o.port
  let nb := canNbt r
  let t := i.canTiming o.port
  let ref := canFrameCycles nb 0 (bit (u32 r 24) 29) 0 8
  let e := o.winStart + o.winLen
  decide (80 * o.winStart < ref) || decide (t.1 < e) || decide (80 * o.winLen < canFrameCycles nb (canDbt r) (bit o.id 29) o.fmt o.len) ||
  (i.carriesIn o && decide (t.2.2 < e + 20)) || (i.carriesOut o && decide (o.winStart + t.2.1 < t.2.2 + t.1))

/-! ### Objects and filters (R400, R401) -/

def fdLen (n : Nat) : Bool := decide (n ≤ 8) || [12, 16, 20, 24, 32, 48, 64].contains n

/-- An object some station or connection record names. -/
def Image.carrier (i : Image) (o : CanObj) : Bool :=
  i.carriesIn o || i.carriesOut o || i.escRecs.any (fun (e : EscRec) => e.can && decide (e.carrier = o.port ∧ e.place = o.obj))

/-- A record at its place in the section. -/
def Image.canObjBad (i : Image) (o : CanObj) (b : List Byte) (at_ : Nat) : Bool :=
  let r := i.canPortBytes o.port
  let mode := u8 r 1
  let win := decide (o.winStart ≠ 0xFFFFFFFF)
  let nel := o.types.length
  decide (3 < o.port) || decide (127 < o.obj) || decide (1 < u8 b (at_ + 2)) || decide (2 < o.fmt) || decide (2 ^ 30 ≤ o.id) || decide (64 < nel) ||
  decide (1 < u8 b (at_ + 11)) || decide (60000 < o.rxTmo) || !(zeros b (at_ + 14) 2) || !(zeros b (at_ + 24 + nel) (4 * ceilDiv nel 4 - nel)) ||
  (if u8 r 2 = 1 ∧ (0 < o.fmt ∨ o.tx = false) then !(fdLen o.len) else decide (8 < o.len)) || decide (0 < o.fmt ∧ u8 r 2 ≠ 1) ||
  o.types.any (fun t => !(inRange 1 5 t)) || decide (o.len < wireLen o.types) || (decide (nel = 0) != i.carrier o) ||
  (if o.tx ∧ nel ≠ 0 then decide (7 < o.task) else decide (o.task ≠ 255)) || (if win then decide (o.winLen = 0) else decide (o.winLen ≠ 0)) ||
  (o.tx && (win != decide (mode = 2))) || (win && decide (mode = 2) && i.windowBad o)

/-- Objects with their offsets in the section. -/
def canOffsets (b : List Byte) : Nat → Nat → List Nat
  | 0, _ => []
  | n + 1, o => o :: canOffsets b n (o + 24 + 4 * ceilDiv (u8 b (o + 9)) 4)

def Image.canFilterBad (i : Image) (f : CanFilter) (r : List Byte) : Bool :=
  let p := i.canPortBytes f.port
  decide (3 < f.port) || decide (p = []) || decide (1 < u8 r 1) || decide (3 < f.target) || (decide (f.target = 1) && decide (u8 p 14 = 255)) ||
  (decide (f.target = 0) && (match i.canObjs.find? (fun o => decide (o.port = f.port ∧ o.obj = f.obj)) with
    | some o => o.tx || (bit o.id 29 != f.ide)
    | none => true))

def Image.canBad (i : Image) : Bool :=
  let b := i.sec tyCan
  let no := u32 b 4
  let nf := u32 b 8
  let os := i.canObjs
  let fs := i.canFilters
  let fo := canObjsEnd b (min 512 no) i.canObjOffset
  decide (512 < no) || decide (768 < nf) || decide (b.length < fo + 12 * nf) || !(noDup (i.canPorts.map (fun r => r.port))) ||
  (recordsAt b 12 32 (min 4 (u32 b 0))).any (fun r => i.canPortBad r) || !(noDup (os.map (fun o => 128 * o.port + o.obj))) ||
  (os.zip (canOffsets b (min 512 no) i.canObjOffset)).any (fun x => i.canObjBad x.1 b x.2) ||
  (List.range 4).any (fun p =>
    let ws := os.filter (fun o => decide (o.port = p ∧ o.winStart ≠ 0xFFFFFFFF) && decide (u8 (i.canPortBytes p) 1 = 2))
    decide (64 < ws.length) || anyTwo (fun (x y : CanObj) => spansMeet x.winStart x.winLen y.winStart y.winLen) ws ||
    decide (128 < (fs.filter (fun f => decide (f.port = p) && !f.ide)).length) || decide (64 < (fs.filter (fun f => decide (f.port = p) && f.ide)).length)) ||
  (fs.zip (recordsAt b fo 12 (min 768 nf))).any (fun x => i.canFilterBad x.1 x.2) ||
  os.any (fun o => !o.tx && !(fs.any (fun f => decide (f.port = o.port ∧ f.target = 0 ∧ f.obj = o.obj))))

/-! ### NET (R370, R435) -/

/-- A tag's value is in range; stations apart. -/
def netTagOk (r : Nat × List Byte) : Bool :=
  let b := r.2
  let n := b.length
  match r.1 with
  | 0x0001 => decide (n = 8) && inRange 8 30 (u8 b 4) && zeros b 5 3
  | 0x0002 => decide (n = 8) && inRange 8 30 (u8 b 4) && zeros b 5 3
  | 0x0003 => decide (n = 4) && decide (u32 b 0 < 64) && !(bit (u32 b 0) 2)
  | 0x0010 => decide (n = 20) && inRange 0 1 (u8 b 0) && inRange 1 100 (u8 b 1) && inRange 1 100 (u8 b 2) && zeros b 3 1
  | 0x0020 => decide (n = 12) && inRange 0 2 (u8 b 0) && inRange 0 1 (u8 b 1) && inRange 0 127 (u8 b 2) && decide (-4 ≤ sint 8 (u8 b 5)) &&
      decide (sint 8 (u8 b 5) ≤ 0) && inRange 0 3 (u8 b 6) && inRange 2 10 (u8 b 7) && decide (-4 ≤ sint 8 (u8 b 8)) && decide (sint 8 (u8 b 8) ≤ 2) &&
      inRange 0 120 (u8 b 9) && zeros b 10 2
  | 0x0021 => decide (n = 12)
  | 0x0022 => decide (n = 4)
  | 0x0100 => true
  | 0x0101 => decide (n = 4) && zeros b 2 2
  | _ => false

/-- The PDU regions in a station's payload, and the payload's length with them. -/
def Image.escIn (i : Image) (stn : Nat) (out : Bool) : List EscRec :=
  i.escRecs.filter (fun (r : EscRec) => !r.can && decide (r.carrier = stn) && decide (r.produced = out))
def Image.payload (i : Image) (r : StnRec) (out : Bool) : Nat :=
  ((i.escIn r.num out).map (fun e => e.place + e.len + 10)).foldl max (wireLen (if out then r.outs else r.ins))

/-- A TTCAN station's object is there, has its direction and holds the payload. -/
def Image.stnObjBad (i : Image) (r : StnRec) (out : Bool) : Bool :=
  let n := i.payload r out
  decide (0 < n) && !(i.canObjs.any (fun o => decide (o.port = r.port ∧ o.obj = (if out then r.outObj else r.inObj) ∧ n ≤ o.len) && (o.tx == out)))

/-- A station record. -/
def Image.stnBad (i : Image) (b : List Byte) : Bool :=
  let r := stnRecOf b
  let n := r.ins.length + r.outs.length
  let per := match i.taskRec r.task with | some t => t.period | none => 0
  decide (b.length ≠ 28 + 4 * ceilDiv n 4 ∧ b.length ≠ 28 + n) || !(inRange 1 2 (u8 b 1)) || decide (7 < r.task) || (i.taskRec r.task).isNone || decide (31 < r.group ∧ r.group ≠ 255) ||
  !(inRange 50 (per / 2) r.lead) || decide (r.timeout < 2 * per) || decide (256 < r.ins.length) || decide (256 < r.outs.length) ||
  (r.ins ++ r.outs).any (fun t => !(inRange 1 5 t)) ||
  (if r.ecx then decide (r.lead ≤ r.slotUs) || decide (r.inObj ≠ 0) || decide (r.outObj ≠ 0) || decide (1400 < i.payload r false) || decide (1400 < i.payload r true)
   else decide (r.slotUs ≠ 0) || decide (3 < r.port) || !(zeros b 17 3) || decide (64 < i.payload r false) || decide (64 < i.payload r true) ||
     i.stnObjBad r false || i.stnObjBad r true)

def Image.netBad (i : Image) : Bool :=
  let b := i.sec tyNet
  let rs := i.netRecs
  let ss := i.stnRecs
  let ptp := match i.netTag 0x0020 with | some x => decide (u8 x 0 ≠ 0) | none => false
  let ecx := match i.netTag 0x0003 with | some x => bit (u32 x 0) 4 || bit (u32 x 0) 5 | none => false
  !(tagEnd b b.length 0) || !(noDup ((rs.filter (fun r => decide (r.1 ≠ 0x0100))).map (fun r => r.1))) || rs.any (fun r => !(netTagOk r)) ||
  ((ptp || ecx) && (i.netTag 0x0001).isNone) || decide (256 < ss.length) || !(noDup (ss.map (fun (r : StnRec) => r.num))) ||
  (rs.filter (fun r => decide (r.1 = 0x0100))).any (fun r => i.stnBad r.2) ||
  anyTwo (fun (x y : StnRec) => decide (x.group = y.group ∧ x.group ≠ 255 ∧ x.task ≠ y.task) ||
    (!x.ecx && !y.ecx && decide (x.port = y.port ∧ (x.task ≠ y.task ∨ x.lead ≠ y.lead)))) ss

/-! ### ESC (R386) -/

def Image.escRecBad (i : Image) (b : List Byte) : Bool :=
  let e := escRecOf b
  decide (1 < u8 b 1) || !(inRange 1 2 (u8 b 2)) || !(inRange 1 32 e.len) || decide (e.id = 0) || !(inRange 10 10000 e.wdog) || !(inRange 1 32 (u8 b 10)) ||
  !(zeros b 11 1) || !(zeros b 13 1) || e.types.any (fun t => !(inRange 1 4 t)) || !(zeros b (16 + u8 b 10) (32 - u8 b 10)) || decide (wireLen e.types ≠ e.len) ||
  (if e.can then
     decide (3 < e.carrier) || !(i.canObjs.any (fun o => decide (o.port = e.carrier ∧ o.obj = e.place ∧ e.len + 10 ≤ o.len ∧ 8 < o.len) && (o.tx == e.produced)))
   else match i.stnRecs.find? (fun (r : StnRec) => decide (r.num = e.carrier)) with
     | some r => !r.ecx || decide (r.task ≠ i.safeTask) || decide (e.place < wireLen (if e.produced then r.outs else r.ins)) || decide (1400 < e.place + e.len + 10)
     | none => true)

def Image.escBad (i : Image) : Bool :=
  let b := i.sec tyEsc
  let es := i.escRecs
  decide (256 < u32 b 0) || shortOf b 4 48 (u32 b 0) || !(noDup (es.map (fun (e : EscRec) => e.num))) || !(noDup (es.map (fun (e : EscRec) => e.id))) ||
  (recordsAt b 4 48 (min 256 (u32 b 0))).any (fun r => i.escRecBad r) ||
  anyTwo (fun (x y : EscRec) => !x.can && !y.can && decide (x.carrier = y.carrier) && (x.produced == y.produced) &&
    spansMeet x.place (x.len + 10) y.place (y.len + 10)) es

/-! ### CARRY (R179) -/

def Image.carryRecs (i : Image) : List (List Byte) := recordsAt (i.sec tyCarry) 8 16 (min 524288 (u32 (i.sec tyCarry) 4))
def Image.carryBad (i : Image) : Bool := shortOf (i.sec tyCarry) 8 16 (u32 (i.sec tyCarry) 4)

/-! ### Endpoints (R163, R240, R281, R313, R344, R371, R387, R402) -/

/-- HART is enabled on a channel. -/
def hartOn (r : List Byte) : Bool := (decide (u8 r 1 = 4) && bit (u8 r 6) 1) || (decide (u8 r 1 = 5) && bit (u8 r 5) 1)

/-- Type of a channel's source element. -/
def chanSrcType (r : List Byte) (sub : Nat) : Option Nat :=
  let k := u8 r 1
  if sub = 0x08 then (if k ≠ 0 then some 2 else none)
  else if sub = 0x00 then (if k = 1 ∨ k = 2 then some 1 else none)
  else if sub = 0x01 then (if k = 2 then some 4 else none)
  else if sub = 0x02 then (if k = 2 then some 3 else none)
  else if sub = 0x03 then (if k = 1 ∨ k = 2 then some 6 else none)
  else if sub = 0x11 then (if k = 3 then some 1 else none)
  else if sub = 0x12 then (if k = 3 then some 4 else none)
  else if sub = 0x20 then (if k = 4 then some 4 else none)
  else if sub = 0x21 then (if k = 4 then some 1 else none)
  else if sub = 0x31 then (if k = 5 then some 4 else none)
  else if sub = 0x32 then (if k = 5 then some 1 else none)
  else if 0x28 ≤ sub ∧ sub ≤ 0x2C then (if hartOn r then some 4 else none)
  else if sub = 0x2D then (if hartOn r then some 2 else none)
  else none

/-- An element of a task image at a byte offset. -/
def imageType (size off ty : Nat) : Option Nat :=
  if tyValid ty ∧ off % tyAlign ty = 0 ∧ off + tyElem ty ≤ size then some ty else none

/-- Type of a source element, `ty` being the one that the route claims (constants and task images have any). -/
def Image.srcType (i : Image) (code ty : Nat) : Option Nat :=
  let sub := bits code 16 8
  let ix := bits code 0 16
  match code / 2 ^ 24 with
  | 1 => (i.chanRec ix).bind (fun r => chanSrcType r sub)
  | 2 => if (i.loopRecs.map (·.1)).contains ix then (if sub = 0x10 ∨ sub = 0x11 then some 4 else if 0x12 ≤ sub ∧ sub ≤ 0x15 then some 1 else none) else none
  | 4 => (i.taskRec sub).bind (fun r => imageType r.outSize ix ty)
  | 5 => (i.canObjs.find? (fun o => decide (o.port = sub ∧ o.obj = ix / 256))).bind (fun o => if o.tx then none else o.types[ix % 256]?)
  | 6 => (i.stnRecs.find? (fun (r : StnRec) => decide (r.num = sub))).bind (fun r => if ix = 0x0FFF then some 2 else if ix < 256 then r.ins[ix]? else none)
  | 7 => (i.escRecs.find? (fun (e : EscRec) => decide (e.num = sub))).bind (fun e =>
      if ix = 0xF0 then some 1 else if ix = 0xF2 then some 2 else if ix < 32 ∧ ¬ e.produced then e.types[ix]? else none)
  | 8 => (i.safeFns.find? (fun (f : SafeFn) => decide (f.num = sub))).bind (fun f =>
      match ix with
      | 0 => if f.ty = 1 then some 1 else if f.ty = 2 then some 4 else none
      | 2 => some 1
      | 3 => some 2
      | 4 => if f.ty = 3 ∨ f.ty = 4 then some 1 else none
      | 7 => if f.ty = 4 then some 1 else none
      | 8 => if f.ty = 4 then some 4 else none
      | _ => none)
  | 9 => if sub = 0 ∧ ix = 0 then some ty else none
  | _ => none

/-- Type of a sink element. -/
def Image.dstType (i : Image) (code ty : Nat) : Option Nat :=
  let sub := bits code 16 8
  let ix := bits code 0 16
  match code / 2 ^ 24 with
  | 1 => (i.chanRec ix).bind (fun r => if sub = 0x10 ∧ u8 r 1 = 3 then some 1 else if sub = 0x30 ∧ u8 r 1 = 5 then some 4 else none)
  | 2 => if (i.loopRecs.map (·.1)).contains ix then (if sub ≤ 4 then some 4 else if sub = 5 then some 1 else none) else none
  | 3 => (i.taskRec sub).bind (fun r => imageType r.inSize ix ty)
  | 5 => (i.canObjs.find? (fun o => decide (o.port = sub ∧ o.obj = ix / 256))).bind (fun o => if o.tx then o.types[ix % 256]? else none)
  | 6 => (i.stnRecs.find? (fun (r : StnRec) => decide (r.num = sub))).bind (fun r => if 256 ≤ ix ∧ ix < 512 then r.outs[ix - 256]? else none)
  | 7 => (i.escRecs.find? (fun (e : EscRec) => decide (e.num = sub))).bind (fun e =>
      if ix = 0xF1 then some 1 else if ix < 32 ∧ e.produced then e.types[ix]? else none)
  | 8 => (i.safeFns.find? (fun (f : SafeFn) => decide (f.num = sub))).bind (fun f =>
      match ix with
      | 0 => if f.ty = 3 ∨ f.ty = 4 then some 1 else none
      | 1 => some 1
      | 5 => if f.ty = 4 then some 4 else none
      | 6 => if f.ty = 4 then some 4 else none
      | _ => none)
  | _ => none

/-! ### Routes (R165 to R169, R345) -/

/-- A conversion permitted for the types (R166). -/
def convOk (a b : Nat) : Nat → Bool
  | 0 => decide (a = b)
  | 1 => widens a b
  | 2 => tyNum a && tyNum b
  | 3 => tyNum a && tyNum b
  | 4 => tyNum a && decide (b = 1)
  | 5 => decide (a = 1) && tyNum b
  | 6 => decide (a = 1) && decide (b = 1)
  | _ => false

/-- SUBST in the range of the sink's type (R165). -/
def substOk (ty v : Nat) : Bool :=
  match ty with
  | 1 => decide (v ≤ 1)
  | 2 => decide (-32768 ≤ sint 32 v) && decide (sint 32 v ≤ 32767)
  | 4 => fin32 v
  | 5 => fin32 v
  | _ => true

def Image.routeBad (i : Image) (r : Route) : Bool :=
  decide (i.srcType r.src r.sty ≠ some r.sty) || decide (i.dstType r.dst r.dty ≠ some r.dty) || !(tyValid r.sty) || !(convOk r.sty r.dty r.conv) || decide (2 < r.qrule) ||
  !(substOk r.dty r.subst) || (decide (r.src / 2 ^ 24 = 9) && (decide (r.sty ≠ r.dty) || decide (r.conv ≠ 0)))

/-- The safety sinks. -/
def Image.safeSink (i : Image) (code : Nat) : Bool :=
  let k := code / 2 ^ 24
  decide (k = 8) || (decide (k = 3) && decide (bits code 16 8 = i.safeTask)) || decide (k = 7)

def Image.safeRouteBad (i : Image) (r : Route) : Bool :=
  let k := r.dst / 2 ^ 24
  let ix := bits r.dst 0 16
  let sk := r.src / 2 ^ 24
  if (k = 8 ∧ ix = 1) ∨ (k = 7 ∧ ix = 0xF1) ∨ (k = 3 ∧ i.nonSafety.contains ix = true) then false
  else if k = 8 ∧ (ix = 5 ∨ ix = 6) then
    decide (r.conv ≠ 0) || decide (r.qrule ≠ 0) ||
    !(decide (sk = 7) || (decide (sk = 1) && decide (bits r.src 16 8 = 1) && (match i.safeChan (bits r.src 0 16) with | some c => decide (c.2.1 = 2) | none => false)))
  else
    !(decide (r.conv = 0) || (decide (r.conv = 6) && decide (r.dty = 1))) || decide (r.qrule ≠ 0) ||
    !(decide (sk = 8) || decide (sk = 7) || (decide (sk = 4) && decide (bits r.src 16 8 = i.safeTask)))

/-- Routes into task input images, with the L elements that code reads (R168, R216). -/
def Image.taskRoutes (i : Image) : Nat :=
  (i.routes.filter (fun r => decide (r.dst / 2 ^ 24 = 3))).length +
  ((i.taskRecs.map (fun t => (dedup (((i.allIns t.cls).filter (fun (o : Opnd) => decide (o.space = 5))).map (fun (o : Opnd) => o.off))).length)).foldl (· + ·) 0)

/-- A breach of R165 to R169 by the ordinary routes, by the safety routes, or by all together. -/
def Image.plainRoutesBad (i : Image) : Bool :=
  decide ((i.sec tyRoutes).length % 24 ≠ 0) || i.plainRoutes.any (fun r => i.routeBad r || i.safeSink r.dst) || !(noDup (i.plainRoutes.map (fun r => r.dst))) ||
  decide (8192 < i.taskRoutes)
def Image.safeRoutesBad (i : Image) : Bool :=
  i.safeRoutes.any (fun r => i.routeBad r || !(i.safeSink r.dst) || i.safeRouteBad r) || !(noDup (i.safeRoutes.map (fun r => r.dst)))

end Sys2Proof.Machine
end

