-- ==== Sys2Proof/Machine/Loader.lean ====
section
/-! DEFINITION. The loader's checks in their order (R157, R158, R160), and what a load does to the store and the Weave's registers (R159,
R161, R184). -/

namespace Sys2Proof.Machine

/-! ### Reading an image (R153, R154, R157) -/

/-- A directory entry. -/
structure DirEnt where
  ty : Nat
  flags : Nat
  off : Nat
  len : Nat
  crc : Nat
  deriving DecidableEq, Repr

def dirEntOf (b : List Byte) : DirEnt := ⟨u16 b 0, u16 b 2, u32 b 4, u32 b 8, u32 b 12⟩
def dirOf (b : List Byte) : List DirEnt := (recordsAt b 128 16 (min 32 (u16 b 12))).map dirEntOf

/-- The safety check value (R157). -/
def safetyCheck (b : List Byte) : Nat :=
  crc32c (((dirOf b).filter (fun d => bit d.flags 0)).flatMap (fun d => slice b d.off d.len))

/-- An image as the module uses it. -/
def imageOf (b : List Byte) : Image :=
  { build := u32 b 16, safeChk := safetyCheck b, nSections := u16 b 12, sections := (dirOf b).map (fun d => (d.ty, slice b d.off d.len)), kEdits := [] }

/-- Index of the first entry that satisfies `p`. -/
def firstIdx (p : α → Bool) : List α → Nat → Option Nat
  | [], _ => none
  | a :: l, k => if p a then some k else firstIdx p l (k + 1)

/-! ### Checks 1 to 6 (R158, R160): reason code and directory index -/

/-- Check 1, against the announced length and the blocks written. -/
def loadCheck1 (b : List Byte) (total : Nat) (blocks : List Nat) : Option (Nat × Nat) :=
  let t := u32 b 8
  if (List.range (ceilDiv total 1024)).any (fun k => !(blocks.contains (1024 * k))) then some (0x0006, 0xFF)
  else if 6000000 < t ∨ t < 256 ∨ t % 16 ≠ 0 ∨ t ≠ total ∨ t < 128 + 16 * u16 b 12 then some (0x0005, 0xFF)
  else none

/-- Check 2: the header. -/
def loadCheck2 (b : List Byte) : Option (Nat × Nat) :=
  if slice b 0 4 ≠ [0x45, 0x56, 0x58, 0x49] then some (0x0001, 0xFF)
  else if u16 b 6 ≠ 0x0064 then some (0x0002, 0xFF)
  else if u16 b 4 / 256 ≠ 1 ∨ u32 b 16 = 0 ∨ u16 b 14 ≠ 0 ∨ zeros b 68 60 = false then some (0x0003, 0xFF)
  else if 0x10000 + Config.fwRelease.toNat < u32 b 20 then some (0x0004, 0xFF)
  else none

/-- The types of R155, those with SAFETY among them. -/
def sectionTypes : List Nat := [0x01, 0x02, 0x03, 0x04, 0x05, 0x06, 0x07, 0x10, 0x11, 0x12, 0x13, 0x20, 0x21, 0x30, 0x31, 0x32, 0x40, 0x41, 0x42, 0x50, 0x60]
def safetyTypes : List Nat := [0x11, 0x12, 0x13, 0x42]

/-- A directory entry breaks R154 or R155, by itself or with another. -/
def dirEntBad (b : List Byte) (d : DirEnt) : Bool :=
  !(sectionTypes.contains d.ty) || decide (d.flags ≠ b2n (safetyTypes.contains d.ty)) || decide (d.off % 16 ≠ 0) || decide (d.off < 128 + 16 * u16 b 12) ||
  decide (u32 b 8 < d.off + d.len + 96) || decide (1 < ((dirOf b).filter (fun x => decide (x.ty = d.ty))).length) ||
  decide (1 < ((dirOf b).filter (fun x => decide (x = d) || spansMeet x.off x.len d.off d.len)).length)

/-- Check 3: the directory. At start-up, where check 1 does not run, a length it would refuse counts here (DEDUCED). -/
def loadCheck3 (b : List Byte) : Option (Nat × Nat) :=
  let t := u32 b 8
  if u16 b 12 < 3 ∨ 32 < u16 b 12 ∨ t < 256 ∨ 6000000 < t ∨ t % 16 ≠ 0 ∨ t < 128 + 16 * u16 b 12 + 96 then some (0x0007, 0xFF)
  else match firstIdx (dirEntBad b) (dirOf b) 0 with
    | some k => some (0x0007, k)
    | none => if [1, 2, 3].all (fun t => (dirOf b).any (fun d => decide (d.ty = t))) then none else some (0x0007, 0xFF)

/-- Check 4: section CRCs, then what the memory found (R104). -/
def loadCheck4 (b : List Byte) (storeEcc : Bool) : Option (Nat × Nat) :=
  match firstIdx (fun (d : DirEnt) => decide (crc32c (slice b d.off d.len) ≠ d.crc)) (dirOf b) 0 with
  | some k => some (0x0008, k)
  | none => if storeEcc then some (0x000D, 0xFF) else none

/-- State word and key bytes of an OTP slot: kind 0 owner, 1 access (R106). -/
def otpSlot (kind k : Nat) : Nat := 0x205F0100 + 0x100 * kind + 64 * k
def State.otpState (s : State) (kind k : Nat) : Nat := s.rdLE (otpSlot kind k + 32) 4
def State.otpActive (s : State) (kind k : Nat) : Bool := decide (s.otpState kind k = 0xA5)
def State.activeSlots (s : State) (kind : Nat) : List Nat := (List.range 4).filter (fun k => s.otpActive kind k)

/-- Check 5: an active owner's signature (R158). -/
def State.loadCheck5 (s : State) (b : List Byte) : Option (Nat × Nat) :=
  let t := u32 b 8
  let pk := slice b (t - 96) 32
  let own := s.activeSlots 0
  if own = [] then some (0x0009, 0xFF)
  else if own.any (fun k => decide (s.bytes (otpSlot 0 k) 32 = sha256 pk)) then
    (if edVerify pk (slice b 0 (t - 64)) (slice b (t - 64) 64) then none else some (0x000B, 0xFF))
  else some (0x000A, 0xFF)

/-- Check 6 (R157). -/
def loadCheck6 (b : List Byte) : Option (Nat × Nat) := if safetyCheck b = u32 b 64 then none else some (0x000C, 0xFF)

/-- The first failure of a list of checks. -/
def firstFail : List (Option (Nat × Nat)) → Option (Nat × Nat)
  | [] => none
  | some f :: _ => some f
  | none :: l => firstFail l

/-! ### Check 7 -/

/-- A limit of R29 exceeded by a section. -/
def Image.capacityBad (i : Image) (ty : Nat) : Bool :=
  let n := u32 (i.sec ty) 0
  match ty with
  | 0x02 => decide (9 < n)
  | 0x10 => decide (64 < n)
  | 0x11 => decide (i.plainRoutes.length ≤ 16384 ∧ 16384 < i.routes.length)
  | 0x20 => decide (1024 < n)
  | 0x30 => decide (16384 < i.plainRoutes.length)
  | 0x31 => decide (256 < n)
  | 0x32 => decide (62 < n) || decide (24 < u32 (i.sec ty) 4)
  | 0x40 => decide (4 < n)
  | _ => false

/-- Add two fractions. -/
def addFrac (a b : Nat × Nat) : Nat × Nat := (a.1 * b.2 + b.1 * a.2, a.2 * b.2)

/-- Routed inputs of a slot whose source is external (R457). -/
def Image.extInputs (i : Image) (n : Nat) : Nat :=
  (i.routes.filter (fun r => decide (r.dst / 2 ^ 24 = 2) && decide (bits r.dst 0 16 = n) && [1, 5, 6, 7, 8].contains (r.src / 2 ^ 24))).length

/-- The mirror load in bytes per second, as a fraction (R457). -/
def Image.mirrorLoad (i : Image) : Nat × Nat :=
  let t := (i.taskRecs.filter (fun r => decide (r.cls ≠ 8))).map (fun r => ((r.inSize + 256) * 1000000, max 1 r.period))
  let l := i.loopRecs.map (fun r => (8 * i.extInputs r.1 * 1000000000, periodNs (slotPeriod r.2)))
  (t ++ l).foldl addFrac (50000000, 1)

/-- The mirror load in MB/s. -/
def Image.mirrorMB (i : Image) : Nat := i.mirrorLoad.1 / (i.mirrorLoad.2 * 1000000)

/-- Bytes of shared SRAM that an image takes: four output buffers, the input image and V of each task, and G (R194; PRESUMED). -/
def Image.sramBytes (i : Image) : Nat :=
  64512 + (i.taskRecs.map (fun r => 4 * r.outSize + r.inSize + i.vSize r.cls)).foldl (· + ·) 0

/-- Bytes of the state set (R458). -/
def Image.stateBytes (i : Image) : Nat :=
  (i.gRanges.map (fun g => g.2.1)).foldl (· + ·) 0 + 262144 + 29312 + (i.taskRecs.map (fun r => i.vSize r.cls + 2 * r.outSize)).foldl (· + ·) 0 +
  (i.stnRecs.map (fun (r : StnRec) => i.payload r false + i.payload r true)).foldl (· + ·) 0 + 80 * i.canObjs.length

/-- A section breaks a rule of the chapter that defines it. -/
def Image.contentBad (i : Image) (pair : Bool) (ty : Nat) : Bool :=
  match ty with
  | 0x01 => i.systemBad pair
  | 0x02 => i.tasksBad
  | 0x03 => i.codeSecBad
  | 0x04 => i.constBad
  | 0x05 => i.instanceBad
  | 0x06 => i.retainBad
  | 0x07 => i.changeableBad
  | 0x10 => i.channelsBad pair
  | 0x11 => i.safetyBad
  | 0x12 => i.safeCodeBad
  | 0x20 => i.loopsBad
  | 0x21 => i.regionsBad
  | 0x31 => i.eventsBad
  | 0x32 => i.queuesBad
  | 0x40 => i.canBad
  | 0x41 => i.netBad
  | 0x42 => i.escBad
  | 0x50 => i.panelBad
  | 0x60 => i.carryBad
  | _ => false

/-- Directory index of the first section whose type satisfies `p`. -/
def Image.firstSec (i : Image) (p : Nat → Bool) : Option Nat := firstIdx (fun (x : Nat × List Byte) => p x.1) i.sections 0

/-- A failure with the index of the first section that breaches. -/
def failIn (code : Nat) (k : Option Nat) : Option (Nat × Nat) := k.map (fun n => (code, n))

/-- A failure of the image as a whole. -/
def failIf (code : Nat) (b : Bool) : Option (Nat × Nat) := if b then some (code, 0xFF) else none

/-- Check 7; `pair` on a redundancy carrier. -/
def Image.check7 (i : Image) (pair : Bool) : Option (Nat × Nat) :=
  let load := i.mirrorLoad
  firstFail [failIn 0x0010 (i.firstSec i.capacityBad), failIf 0x0010 (pair && decide (1200000000 * load.2 < load.1)),
    failIn 0x0011 (i.firstSec (fun t => decide (t = tyLoops) && i.admissionBad)),
    failIn 0x0012 (i.firstSec (fun t => (decide (t = tyRoutes) && i.plainRoutesBad) || (decide (t = tySafety) && i.safeRoutesBad))),
    failIn 0x0013 (i.firstSec (fun t => decide (t = tyQueues) && i.queueRecs.any queueCodeBad)),
    failIf 0x0014 (decide (0x1200000 < i.sramBytes)), failIf 0x0014 (decide (12000000 < i.stateBytes)),
    failIn 0x0015 (i.firstSec (i.contentBad pair))]

/-- Checks 2 to 6 (start-up's boot ROM), and 1 to 7 (IMAGE_END). -/
def State.bootChecks (s : State) (b : List Byte) (storeEcc : Bool) : Option (Nat × Nat) :=
  firstFail [loadCheck2 b, loadCheck3 b, loadCheck4 b storeEcc, s.loadCheck5 b, loadCheck6 b]
def State.allChecks (s : State) (b : List Byte) (total : Nat) (blocks : List Nat) (storeEcc : Bool) : Option (Nat × Nat) :=
  match firstFail [loadCheck1 b total blocks, s.bootChecks b storeEcc] with
  | some f => some f
  | none => (imageOf b).check7 s.onPairCarrier

/-! ### The store (R159) -/

/-- Base of the image store, and its bytes up to TOTAL_LEN. -/
def storeAt : Nat := 0x20000000
def State.storeImage (s : State) : List Byte := s.bytes storeAt (min 6000000 (s.rdLE (storeAt + 8) 4))

/-- A load as a session has begun it. -/
def State.loadBegin (s : State) (sid total : Nat) : State :=
  { s.wrBytes storeAt (List.replicate 8 0) with load := some ⟨sid, total, [], List.replicate 8 0⟩ }

/-- One block: bytes 0 to 7 are held back, and bytes beyond 6,000,000 are not stored. -/
def State.loadBlock (s : State) (l : ImageLoad) (off : Nat) (data : List Byte) : State :=
  let keep := data.take (6000000 - off)
  let s := if off = 0 then s.wrBytes (storeAt + 8) (keep.drop 8) else s.wrBytes (storeAt + off) keep
  let head := if off = 0 then data.take 8 ++ List.replicate (8 - data.length) 0 else l.head
  { s with load := some { l with blocks := off :: l.blocks.filter (fun o => decide (o ≠ off)), head := head } }

/-- The bytes a load has brought. -/
def State.loadBytes (s : State) (l : ImageLoad) : List Byte :=
  let n := min l.total 6000000
  l.head.take n ++ s.bytes (storeAt + 8) (n - 8)

/-- WVE_LOADRES, and EV_IMG_REJECT (R160, R184). -/
def State.loadReject (s : State) (f : Nat × Nat) : State :=
  (s.setReg Reg.WVE_LOADRES (BitVec.ofNat 32 (f.1 + 65536 * f.2))).raise 15 (f.1 + 65536 * f.2) 0

/-- Success (R159, R161): bytes 0 to 7 are written, the journal is emptied (R177), IMG is CHECKED. -/
def State.loadAccept (s : State) (l : ImageLoad) (i : Image) : State :=
  let s := (s.wrBytes storeAt l.head).journalEmpty
  ((s.setReg Reg.WVE_LOADRES 0x00FF0000).setFld Reg.WVE_STAT_IMG 1).raise 14 i.build 0

end Sys2Proof.Machine
end

