-- ==== Sys2Proof/Machine/Panel.lean ====
section
/-! DEFINITION. The front panel driver (20): frame memory, updates, the cut at supply fail, and recovery. -/

namespace Sys2Proof.Machine

/-- The whole panel. -/
def pnlWhole : PnlRect := ⟨0, 0, 399, 239⟩

/-- The rectangle that bounds two (R502). -/
def PnlRect.bound (a b : PnlRect) : PnlRect := ⟨min a.x0 b.x0, min a.y0 b.y0, max a.x1 b.x1, max a.y1 b.y1⟩

/-- Whether a pixel lies in a rectangle. -/
def PnlRect.has (r : PnlRect) (x y : Nat) : Bool :=
  decide (r.x0 ≤ x) && decide (x ≤ r.x1) && decide (r.y0 ≤ y) && decide (y ≤ r.y1)

/-- Byte `k` of a frame buffer after the pixels of a rectangle take new levels: even pixel in [3:0], odd in [7:4] (R498). -/
def pnlByte (r : PnlRect) (k : Nat) (old new : Byte) : Byte :=
  let x := 2 * (k % 200)
  let y := k / 200
  let lo := if r.has x y then new.toNat % 16 else old.toNat % 16
  let hi := if r.has (x + 1) y then new.toNat / 16 else old.toNat / 16
  BitVec.ofNat 8 (lo + 16 * hi)

/-- A frame buffer whose rectangle takes the levels of another. -/
def pnlMix (r : PnlRect) (old new : List Host.Cell) : List Host.Cell :=
  (old.map (·.1) ++ new.map (·.1)).foldl
    (fun f k => Sparse.set memDefault f k (pnlByte r k (imgByte old k) (imgByte new k))) old

/-- CRC-32C of FRONT (R498). -/
def State.frontCrc (s : State) : Nat := crc32c (imgBytes s.pnl.front 0 48000)
def State.frontGood (s : State) : Bool := decide (s.frontCrc = s.fld Reg.PNL_FCRC_CRC)

/-! ### The update record (R508) -/

def pnlRecAt : Nat := 0x205EFF80

/-- Bytes 4 to 23 of an update record. -/
def pnlRecBody (inprog indet whole : Bool) (count : Int) (band : Nat) (r : PnlRect) (frames : Nat) : List Byte :=
  leBytes 1 (b2n inprog + 2 * b2n indet + 4 * b2n whole) ++ leBytes 1 (unsint 8 (satInt 8 count)) ++ leBytes 1 band ++ leBytes 1 0 ++
    leBytes 2 r.x0 ++ leBytes 2 r.y0 ++ leBytes 2 r.x1 ++ leBytes 2 r.y1 ++ leBytes 2 frames ++ leBytes 6 0

/-- Show the valid record in PNL_REC; with no valid record it shows 0. -/
def State.pnlShowRec (s : State) : State :=
  match s.copyRead pnlRecAt copyGood with
  | some b => s.setReg Reg.PNL_REC (BitVec.ofNat 32 (u8 b 4 % 8 + 256 * u8 b 5 + 65536 * (u8 b 6 % 8)))
  | none => s.setReg Reg.PNL_REC 0

/-- Write the update record. -/
def State.pnlRecord (s : State) (body : List Byte) : State := (s.copyWrite pnlRecAt copyGood body).pnlShowRec

/-- The rectangle of the valid record: the full panel where WHOLE is set (R509). -/
def State.pnlRecRect (s : State) : PnlRect :=
  match s.copyRead pnlRecAt copyGood with
  | some b => if s.flag Reg.PNL_REC_WHOLE then pnlWhole else ⟨u16 b 8, u16 b 10, u16 b 12, u16 b 14⟩
  | none => pnlWhole

/-- Whether the record calls for recovery: INDET, or INPROG without it (R509, R510). -/
def State.pnlNeedsRecovery (s : State) : Bool := s.flag Reg.PNL_REC_INDET || s.flag Reg.PNL_REC_INPROG

/-- The driver reads its record at start-up (R509, R510). -/
def State.pnlStart (s : State) : State :=
  let s := s.pnlShowRec
  s.setFlag Reg.PNL_STAT_RECOV s.pnlNeedsRecovery

/-! ### Requests (R499, R502, R513) -/

/-- The region of PNL_RGN0 and PNL_RGN1. -/
def State.pnlRegion (s : State) : PnlRect :=
  ⟨s.fld Reg.PNL_RGN0_X, s.fld Reg.PNL_RGN0_Y, s.fld Reg.PNL_RGN1_X, s.fld Reg.PNL_RGN1_Y⟩

/-- Merge a request into the pending rectangle. -/
def State.pnlRequest (s : State) (r : PnlRect) : State :=
  { s with pnl := { s.pnl with pend := some (match s.pnl.pend with | some p => p.bound r | none => r) } }

/-- A write of PNL_CTRL. -/
def pnlCtrl (m : Master) (w : Word) (s : State) : State :=
  if ¬ s.mayWriteRegs m then s.denyWrite m Reg.PNL_CTRL
  else if wordField w 8 8 ≠ 0xB4 then s
  else
    let s := if w.getLsbD 0 then s.pnlRequest s.pnlRegion else s
    if w.getLsbD 1 then ({ s with pnl := { s.pnl with full := true } }).setFlag Reg.PNL_STAT_RECOV true else s

def execPnlUpdate (m : Master) (w : Word) (s : State) : Result := .next (pnlCtrl m w s)
def execPnlFull (m : Master) (w : Word) (s : State) : Result := .next (pnlCtrl m w s)

/-- A CRC mismatch of FRONT (R499, R511): the whole panel is indeterminate, with the COUNT of a recovery that already waits. -/
def State.pnlBadCrc (s : State) : State :=
  let count := if s.flag Reg.PNL_REC_INDET then sint 8 (s.fld Reg.PNL_REC_COUNT) else 0
  let s := (s.pnlRecord (pnlRecBody false true true count (s.fld Reg.PNL_STAT_BAND) pnlWhole 0)).setFlag Reg.PNL_STAT_RECOV true
  s.raise 243 0 0

/-- PNL_CRC_CHECK (R499): skipped while an update runs. -/
def pnlCrcCheck (s : State) : State :=
  if s.flag Reg.PNL_STAT_BUSY ∨ s.frontGood then s else s.pnlBadCrc

def execPnlCrcCheck (s : State) : Result := .next (pnlCrcCheck s)

/-! ### Temperature (R504, R505) -/

/-- Lower edge of a band in °C. -/
def bandEdge (n : Nat) : Int := 10 * (n : Int) - 15

/-- Frames of an update and of the clearing waveform, by band. -/
def bandFrames (clearing : Bool) (n : Nat) : Nat :=
  if clearing then (if n ≤ 2 then 60 else if n ≤ 4 then 48 else 40)
  else match n with | 0 => 60 | 1 => 48 | 2 => 40 | 3 => 32 | 4 => 28 | _ => 24

/-- The band at a temperature, from the present band: entered upwards at an edge, left downwards 2 °C below it. -/
def bandUp (t : Int) (n : Nat) : Nat :=
  ((List.range 8).filter (fun k => decide (n < k) && decide (bandEdge k ≤ t))).foldl max n
def bandDown (t : Int) : Nat → Nat
  | 0 => 0
  | n + 1 => if t ≤ bandEdge (n + 1) - 2 then bandDown t n else n + 1
def bandAt (t : Int) (n : Nat) : Nat := bandUp t (bandDown t n)

/-- PNL_TEMP_MEASURE: the temperature, the band, and deferral below −15 °C until −13 °C. -/
def pnlTemp (t : Int) (s : State) : State :=
  let s := (s.setFld Reg.PNL_STAT_TEMP (unsint 8 (satInt 8 t))).setFld Reg.PNL_STAT_BAND (bandAt t (s.fld Reg.PNL_STAT_BAND))
  let was := s.flag Reg.PNL_STAT_DEFER
  let now := if was then decide (t < -13) else decide (t < -15)
  if was = now then s else (s.setFlag Reg.PNL_STAT_DEFER now).raise 244 (b2n now) 0

def execPnlTempMeasure (temp : Int) (s : State) : Result := .next (pnlTemp temp s)

/-! ### Running an update (R502, R506, R509) -/

/-- Raise the rails and run: the record is written with INPROG, the levels and the band latched. -/
def State.pnlRun (s : State) (rect : PnlRect) (clearing recovery whole : Bool) (count : Int) : State :=
  let indet := recovery && s.flag Reg.PNL_REC_INDET
  let band := s.fld Reg.PNL_STAT_BAND
  let run : PnlRun := ⟨rect, band, s.pnl.back, clearing, count.natAbs, count, recovery, whole, s.mono⟩
  let s := { s with pnl := { s.pnl with run := some run, pend := if recovery then s.pnl.pend else none } }
  let s := ((s.setFlag Reg.PNL_STAT_BUSY true).setFlag Reg.PNL_STAT_RAILS true).setFld Reg.PNL_STAT_FRAME 0
  s.pnlRecord (pnlRecBody true indet whole count band rect 0)

/-- Begin the recovery that waits: from the record (R509, R510), or the refresh of the full panel asked for (R513). -/
def State.pnlRecover (s : State) : State :=
  let whole := s.pnl.full || s.flag Reg.PNL_REC_WHOLE
  let indet := s.flag Reg.PNL_REC_INDET
  let s := if ¬ indet ∧ s.flag Reg.PNL_REC_INPROG then s.raise 247 0 0 else s
  let count : Int := if indet then sint 8 (s.fld Reg.PNL_REC_COUNT) else 0
  s.pnlRun (if whole then pnlWhole else s.pnlRecRect) true true whole count

/-- Whether an update may start: none runs and updates are not deferred. -/
def State.pnlFree (s : State) : Bool := !(s.flag Reg.PNL_STAT_BUSY) && !(s.flag Reg.PNL_STAT_DEFER)

/-- PNL_UPDATE_START (R499, R502): FRONT is checked, and a recovery that waits goes before the pending rectangle. -/
def pnlUpdateStart (s : State) : State :=
  if s.pnlFree ∧ (s.pnl.pend ≠ none ∨ s.flag Reg.PNL_STAT_RECOV) then
    let s := if s.frontGood then s else s.pnlBadCrc
    if s.flag Reg.PNL_STAT_RECOV then s.pnlRecover
    else match s.pnl.pend with
      | some r => s.pnlRun r false false false 0
      | none => s
  else s

def execPnlUpdateStart (s : State) : Result := .next (pnlUpdateStart s)

/-- PNL_RECOVERY (R509, R511). -/
def execPnlRecovery (s : State) : Result := .next (if s.pnlFree ∧ s.flag Reg.PNL_STAT_RECOV then s.pnlRecover else s)

/-- PNL_RAIL_FAIL (R506): the update that raises its rails does not start; its request goes on waiting. -/
def pnlRailFail (s : State) : State :=
  match s.pnl.run with
  | some r =>
    if s.fld Reg.PNL_STAT_FRAME = 0 then
      let s := (s.setFlag Reg.PNL_STAT_BUSY false).setFlag Reg.PNL_STAT_RAILS false
      let s := s.pnlRecord (pnlRecBody false (r.recovery && s.flag Reg.PNL_REC_INDET) r.whole r.count r.band r.rect 0)
      let s := { s with pnl := { s.pnl with run := none } }
      (if r.recovery then s else s.pnlRequest r.rect).raise 246 0 0
    else s
  | none => s

def execPnlRailFail (s : State) : Result := .next (pnlRailFail s)

/-- Frames of a run: its balancing phase and its waveform. -/
def PnlRun.frames (r : PnlRun) : Nat := r.balance + bandFrames r.clearing r.band

/-- The instant at which frame boundary `k` of a run falls: 5 ms for the rails, 10 ms a frame. -/
def PnlRun.boundary (r : PnlRun) (k : Nat) : Nat := r.begun + 5000000 + 10000000 * k

/-- PNL_FRAME (R503): a frame ends. -/
def pnlFrame (s : State) : State :=
  match s.pnl.run with
  | some r =>
    let k := s.fld Reg.PNL_STAT_FRAME
    if k < r.frames then (s.toMono (r.boundary (k + 1))).setFld Reg.PNL_STAT_FRAME (k + 1) else s
  | none => s

def execPnlFrame (s : State) : Result := .next (pnlFrame s)

/-- What a commit reports: an ordinary update is counted, a recovery clears what it repaired (R509, R514). -/
def State.pnlReport (s : State) (r : PnlRun) (old : Word) : State :=
  if r.recovery then
    (({ s with pnl := { s.pnl with full := false } }).setFlag Reg.PNL_STAT_RECOV false).raise 242 old.toNat 0
  else (s.bump Reg.PNL_UPDCNT_COUNT Reg.PNL_UPDCNT_SAT).raise 240 (s.reg Reg.PNL_RGN0).toNat (s.reg Reg.PNL_RGN1).toNat

/-- PNL_UPDATE_COMMIT (R498, R502, R506, R509): after the last frame FRONT takes the latched levels of the rectangle. -/
def pnlCommit (s : State) : State :=
  match s.pnl.run with
  | some r =>
    if s.fld Reg.PNL_STAT_FRAME < r.frames then s
    else
      let old := s.reg Reg.PNL_REC
      let s := { s with pnl := { s.pnl with run := none, front := pnlMix r.rect s.pnl.front r.levels } }
      let s := s.setFld Reg.PNL_FCRC_CRC s.frontCrc
      let s := s.pnlRecord (pnlRecBody false false false 0 r.band r.rect 0)
      ((s.setFlag Reg.PNL_STAT_BUSY false).setFlag Reg.PNL_STAT_RAILS false).pnlReport r old
  | none => s

def execPnlUpdateCommit (s : State) : Result := .next (pnlCommit s)

/-- S(k) of a waveform: 0 at its ends, between −20 and 20 within (R503). -/
def waveSum (band : Nat) (clearing : Bool) (k : Nat) : Int :=
  if k = 0 ∨ bandFrames clearing band ≤ k then 0 else ((Config.waveSum band clearing k).val : Int) - 20

/-- The DC count of a run cut at boundary `k` (R507, R509). -/
def PnlRun.residue (r : PnlRun) (k : Nat) : Int :=
  if k < r.balance then (if r.count < 0 then r.count + k else r.count - k) else waveSum r.band r.clearing (k - r.balance)

/-- The panel cut at supply fail (R507): the record first, then the frame in progress, one neutral frame, and the rails discharged. -/
def State.panelCut (s : State) : State :=
  match s.pnl.run with
  | some r =>
    let k := min (s.fld Reg.PNL_STAT_FRAME + 1) r.frames
    let s := { s with pnl := { s.pnl with run := none } }
    let s := ((s.setFlag Reg.PNL_STAT_BUSY false).setFlag Reg.PNL_STAT_RAILS false).setFlag Reg.PNL_STAT_RECOV true
    let s := s.pnlRecord (pnlRecBody false true r.whole (r.residue k) r.band r.rect k)
    s.raise 241 (s.reg Reg.PNL_REC).toNat 0
  | none => s

/-- PNL_FBDATA_ACCESS (R108, R498, R513): a core pair's access moves OFFSET on; a write to FRONT is ignored; the host data port only reads,
except in HALT. -/
def pnlFbdata (m : Master) (write : Option Word) (s : State) : State :=
  let o := s.fld Reg.PNL_FBADDR_OFFSET
  let next := fun (s : State) => if m.isPair then s.setFld Reg.PNL_FBADDR_OFFSET (if o + 4 < 48000 then o + 4 else 0) else s
  match write with
  | none => next (s.ret m.num s.pnlWord)
  | some w =>
    if ¬ s.mayWriteRegs m then s.denyWrite m Reg.PNL_FBDATA
    else if s.flag Reg.PNL_FBADDR_BUF then next s
    else next { s with pnl := { s.pnl with back := imgWrite s.pnl.back o (leBytes 4 w.toNat) } }

def execPnlFbdataAccess (m : Master) (write : Option Word) (s : State) : Result := .next (pnlFbdata m write s)

end Sys2Proof.Machine
end

