-- ==== Sys2Proof/Machine/Net.lean ====
section
/-! DEFINITION. The Ethernet switch (16): MAC table, forwarding, the transparent clock, frames to and from the host, ARP and ICMP echo, MRP. -/

namespace Sys2Proof.Machine

/-! ### Configuration (R422 to R424, R435) -/

/-- The base MAC address of the identity record (R106). -/
def State.baseMac (s : State) : Nat := beNat (s.bytes (0x205F0000 + 32) 6)

/-- NET tag 0x0003 and the PTP tag. -/
def State.netFlags (s : State) : Nat := match s.img.bind (fun i => i.netTag 0x0003) with | some b => u32 b 0 | none => 0
def State.ptpTag (s : State) : Option (List Byte) := s.img.bind (fun i => i.netTag 0x0020)
def State.mrpTag (s : State) : Option (List Byte) := (s.img.bind (fun i => i.netTag 0x0010)).filter (fun b => decide (u8 b 0 = 1))

/-- The ring interface's address; 0 when it is off. -/
def State.ringIp (s : State) : Nat := if s.fld Reg.CPM_STAT_SLOT = 3 then s.ecxAddrs.2 else s.ecxAddrs.1

/-- The service interface's address (192.168.64.64 by default). -/
def State.serviceIp (s : State) : Nat := match s.img.bind (fun i => i.netTag 0x0002) with | some b => beNat (slice b 0 4) | none => 0xC0A84040

/-- Address and MAC of the host on a port. -/
def State.hostIp (s : State) (p : Nat) : Nat := if p = 2 then s.serviceIp else s.ringIp
def State.hostMac (s : State) (p : Nat) : Nat := if p = 2 then s.baseMac + 2 else s.baseMac

/-- Firmware runs on Pair 0 to serve frames. -/
def State.serves (s : State) : Bool :=
  decide (s.cpm.phase = .run) || decide (s.cpm.phase = .negotiating) || decide (s.cpm.phase = .ptpWait) ||
    (decide (s.cpm.phase = .halt) && (!s.cpm.faulted || s.cpm.service))

/-! ### Frames -/

/-- Offset of the Ethertype behind an 802.1Q tag, the Ethertype, and the payload's offset. -/
def ethTypeAt (b : List Byte) : Nat := if beNat (slice b 12 2) = 0x8100 then 16 else 12
def ethType (b : List Byte) : Nat := beNat (slice b (ethTypeAt b) 2)
def ethBody (b : List Byte) : Nat := ethTypeAt b + 2
def ethDst (b : List Byte) : Nat := beNat (slice b 0 6)
def ethSrc (b : List Byte) : Nat := beNat (slice b 6 6)
/-- A broadcast or multicast destination. -/
def ethGroup (b : List Byte) : Bool := decide (u8 b 0 % 2 = 1)

/-- An IPv4 frame that carries options or is a fragment (R424). -/
def ipBad (b : List Byte) : Bool :=
  decide (ethType b = 0x0800) && (decide (u8 b (ethBody b) % 16 ≠ 5) || decide (beNat (slice b (ethBody b + 6) 2) % 0x4000 ≠ 0))

/-- UDP destination port of an IPv4 frame. -/
def udpPort (b : List Byte) : Option Nat :=
  if ethType b = 0x0800 ∧ u8 b (ethBody b + 9) = 17 then some (beNat (slice b (ethBody b + 22) 2)) else none

/-- The datagram of a UDP frame, and its source address. -/
def udpData (b : List Byte) : List Byte := slice b (ethBody b + 28) (beNat (slice b (ethBody b + 24) 2) - 8)
def ipSrc (b : List Byte) : Nat := beNat (slice b (ethBody b + 12) 4)

/-- Offset of the PTP message of a frame (Ethertype 0x88F7, or UDP port 319). -/
def ptpAt (b : List Byte) : Option Nat :=
  if ethType b = 0x88F7 then some (ethBody b) else if udpPort b = some 319 then some (ethBody b + 28) else none

/-! ### Timestamps (R429) -/

/-- Ingress and egress MDI time from a boundary time, in 1/16 ns. -/
def State.ingressTime (s : State) (p boundary : Nat) : Int :=
  (boundary : Int) - (Config.phyIngress p).toNat - sint 16 (s.fld (Reg.PTP_ASYM_ING p))
def State.egressTime (s : State) (p boundary : Nat) : Int :=
  (boundary : Int) + (Config.phyEgress p).toNat + sint 16 (s.fld (Reg.PTP_ASYM_EGR p))

/-! ### The transparent clock (R428) -/

/-- Write bytes into a frame. -/
def putAt (b : List Byte) (o : Nat) (x : List Byte) : List Byte := b.take o ++ x ++ b.drop (o + x.length)

/-- Add a residence time in 1/16 ns to the correctionField of a Sync or Delay_Req of the configured domain; UDP checksum 0. -/
def State.correct (s : State) (b : List Byte) (residence : Int) : List Byte :=
  match ptpAt b, s.ptpTag with
  | some o, some t =>
    if u8 b o % 16 ≤ 1 ∧ u8 b (o + 4) = u8 t 2 then
      let c := sint 64 (beNat (slice b (o + 8) 8)) + 4096 * residence
      let b := putAt b (o + 8) (beBytes 8 (unsint 64 c))
      if ethType b = 0x0800 then putAt b (ethBody b + 26) [0, 0] else b
    else b
  | _, _ => b

/-- The frame as it leaves port `out` (3 the internal port), having entered port `inp`: corrected between ports 0 and 1 and to or from port 3. -/
def State.leave (s : State) (inp out ing egr : Nat) (b : List Byte) : List Byte :=
  if inp = 2 ∨ out = 2 then b
  else
    let t0 := if inp = 3 then (ing : Int) else s.ingressTime inp ing
    let t1 := if out = 3 then (egr : Int) else s.egressTime out egr
    s.correct b (t1 - t0)

/-! ### The MAC table and forwarding (R423) -/

/-- Entries of the MAC table that have not aged. -/
def State.macTable (s : State) : List (Nat × Nat × Nat) := s.net.macs.filter (fun e => decide (s.mono < e.2.2 + 300000000000))

/-- Learn a source address on a port. -/
def State.macLearn (s : State) (mac p : Nat) : State :=
  let t := s.macTable.filter (fun e => decide (e.1 ≠ mac))
  { s with net := { s.net with macs := if t.length < 1024 then (mac, p, s.mono) :: t else t } }

/-- Whether a port is up. -/
def State.portUp (s : State) (p : Nat) : Bool := s.flag (Reg.NET_PORT_EN p) && s.flag (Reg.NET_PORT_LINK p)

/-- Whether the switch passes frames from a port to another: X6 and the ring only when bridged; a blocked ring port passes none. -/
def State.passes (s : State) (inp out : Nat) : Bool :=
  decide (inp ≠ out) && s.portUp out && decide (s.fld (Reg.NET_PORT_MRPST out) ≤ 1) &&
    (decide (inp = 3) || decide ((inp = 2) = (out = 2)) || s.flag Reg.NET_STAT_BRIDGE)

/-- The connector ports a frame goes out of; MRP frames pass between ring ports whatever their MRP state (R426). -/
def State.egress (s : State) (inp : Nat) (b : List Byte) : List Nat :=
  if ethType b = 0x88E3 ∧ s.flag Reg.NET_MRP_EN then (List.range 2).filter (fun p => decide (p ≠ inp) && s.portUp p)
  else
    let all := (List.range 3).filter (fun p => s.passes inp p)
    if ethGroup b then all
    else match s.macTable.find? (fun e => decide (e.1 = ethDst b)) with
      | some e => all.filter (fun p => decide (p = e.2.1))
      | none => all

/-- Send a frame out of its ports. -/
def State.forward (s : State) (inp ing egr : Nat) (b : List Byte) : State :=
  (s.egress inp b).foldl (fun s p => s.send (.eth p (s.leave inp p ing egr b))) s

/-- A frame the host sends, from the interface of port `p`: out of X6 alone, or out of the ring. -/
def State.hostSend (s : State) (p : Nat) (b : List Byte) : State :=
  if p = 2 then (if s.portUp 2 then s.send (.eth 2 b) else s)
  else ((List.range 2).filter (fun q => s.passes 3 q)).foldl (fun s q => s.send (.eth q b)) s

/-! ### Frames for the host (R424, R425) -/

/-- Whether the internal port is a destination. -/
def State.forHost (s : State) (p : Nat) (b : List Byte) : Bool := (ethGroup b || decide (ethDst b = s.hostMac p)) && !(ipBad b)

/-- Count a broadcast or multicast frame against 10,000 in a second (of the elapsed clock): whether it passes. -/
def State.storm (s : State) (b : List Byte) : Bool × State :=
  if ¬ ethGroup b then (true, s)
  else
    let sec := s.mono / 1000000000
    let n := if s.net.stormAt = sec then s.net.stormN else 0
    let s := { s with net := { s.net with stormAt := sec, stormN := n + 1 } }
    if n < 10000 then (true, s) else (false, (s.bump Reg.NET_DROP_STORM Reg.NET_DROP_SAT).raise 211 0 0)

/-- The record of a frame on queue 0 (R425). -/
def ethRecord (ts port flags : Nat) (b : List Byte) : List Byte :=
  leBytes 4 (nsOf ts) ++ leBytes 4 (secOf ts) ++ leBytes 1 port ++ leBytes 1 flags ++ leBytes 2 b.length ++ leBytes 4 0 ++ b

/-- Push a frame to queue 0. -/
def State.toHostQueue (s : State) (p ing egr : Nat) (lost : Bool) (b : List Byte) : State :=
  let b := s.leave p 3 ing egr b
  let ts := (s.ingressTime p ing / 16).toNat
  let fl := if lost then 0 else 1
  let a := 0x600000 + 16 * (Config.netBuffer s.freeCtr).val
  let s := s.draw
  let s := s.wrBytes a (ethRecord (if lost then 0 else ts) p (fl + 2 * b2n (!s.flag Reg.PTP_STAT_TRACE)) b)
  let d := leBytes 4 a ++ leBytes 2 (16 + b.length) ++ leBytes 2 0 ++ leBytes 4 (Config.descCtx 16).toNat ++ leBytes 2 s.net.rxSeq ++ leBytes 2 0
  let s := { s with net := { s.net with rxSeq := (s.net.rxSeq + 1) % 65536 } }
  s.push 0 16 hardwareMaster d true

/-- The one's-complement checksum of a byte string. -/
def inetSum (b : List Byte) : Nat :=
  let t := ((List.range ((b.length + 1) / 2)).map (fun i => beNat (slice b (2 * i) 2))).foldl (· + ·) 0
  65535 - (if t = 0 then 0 else if t % 65535 = 0 then 65535 else t % 65535)

/-- The answer to an ARP request for the host's address. -/
def State.arpReply (s : State) (p : Nat) (b : List Byte) : Option (List Byte) :=
  let o := ethBody b
  if ethType b = 0x0806 ∧ beNat (slice b (o + 6) 2) = 1 ∧ beNat (slice b (o + 24) 4) = s.hostIp p then
    some (slice b 6 6 ++ beBytes 6 (s.hostMac p) ++ slice b 12 (o - 12) ++ slice b o 6 ++ beBytes 2 2 ++ beBytes 6 (s.hostMac p) ++
      beBytes 4 (s.hostIp p) ++ slice b (o + 8) 10 ++ List.replicate (60 - (o + 28)) 0)
  else none

/-- The answer to an ICMP echo request to the host's address. -/
def State.echoReply (s : State) (p : Nat) (b : List Byte) : Option (List Byte) :=
  let o := ethBody b
  if ethType b = 0x0800 ∧ u8 b (o + 9) = 1 ∧ beNat (slice b (o + 16) 4) = s.hostIp p ∧ u8 b (o + 20) = 8 then
    let n := beNat (slice b (o + 2) 2) - 20
    let icmp := [0, 0] ++ [0, 0] ++ slice b (o + 24) (n - 4)
    let icmp := putAt icmp 2 (beBytes 2 (inetSum icmp))
    some (slice b 6 6 ++ beBytes 6 (s.hostMac p) ++ slice b 12 (o - 12) ++ slice b o 12 ++ slice b (o + 16) 4 ++ slice b (o + 12) 4 ++ icmp ++
      List.replicate (60 - (o + 20 + icmp.length)) 0)
  else none

/-- What the firmware answers at once. -/
def State.answer (s : State) (p : Nat) (b : List Byte) : State :=
  if ¬ s.serves ∨ s.hostIp p = 0 then s
  else match s.arpReply p b, s.echoReply p b with
    | some r, _ => s.hostSend p r
    | none, some r => s.hostSend p r
    | none, none => s

/-- A Delay_Req of the configured domain for the module as MASTER is answered with its ingress time. -/
def State.delayReply (s : State) (p ing : Nat) (b : List Byte) : State :=
  match ptpAt b, s.ptpTag with
  | some o, some t =>
    if s.fld Reg.PTP_STAT_STATE = 4 ∧ p < 2 ∧ u8 b o % 16 = 1 ∧ u8 b (o + 4) = u8 t 2 then
      let ts := (s.ingressTime p ing / 16).toNat
      let m := [0x09, 0x12] ++ beBytes 2 54 ++ slice t 2 1 ++ [0] ++ beBytes 2 0 ++ slice b (o + 8) 8 ++ beBytes 4 0 ++ beBytes 6 s.baseMac ++
        beBytes 2 0 ++ beBytes 2 1 ++ slice b (o + 30) 2 ++ [3] ++ slice t 8 1 ++ beBytes 6 (secOf ts) ++ beBytes 4 (nsOf ts) ++ slice b (o + 20) 10
      s.hostSend 0 (slice b 0 6 ++ beBytes 6 s.baseMac ++ beBytes 2 0x88F7 ++ m)
    else s
  | _, _ => s

/-- Whether a frame is an ECX datagram on a port that takes them (R375, R435). -/
def State.isEcx (s : State) (p : Nat) (b : List Byte) : Bool :=
  decide (p < 2) && bit s.netFlags (4 + p) && decide (udpPort b = some (s.fld Reg.NET_ECX_PORT_PORT)) && !(ipBad b)

/-- A timestamp is lost (R430). -/
def State.tsLost (s : State) (p : Nat) (egress lost : Bool) : State := if lost then s.raise 215 (p + 256 * b2n egress) 0 else s

/-- A frame for the host: ECX to the process image unit, the rest to queue 0. -/
def State.hostTake (s : State) (p ing egr : Nat) (lost : Bool) (b : List Byte) : State :=
  if s.isEcx p b then (if u8 (udpData b) 3 = 0x82 then ecxAck (ipSrc b) (udpData b) s else ecxIn (ipSrc b) (udpData b) s)
  else
    let q := s.storm b
    if q.1 then (((q.2.tsLost p false lost).toHostQueue p ing egr lost b).answer p b).delayReply p ing b else q.2

/-- ETH_FRAME_RECEIVED: a frame enters a connector; `ing` and `egr` are the boundary times in 1/16 ns, `lost` says that the port's timestamp
FIFO is full. -/
def ethFrame (p : Nat) (b : List Byte) (ing egr : Nat) (lost : Bool) (s : State) : State :=
  if ¬ s.portUp p ∨ (2 ≤ s.fld (Reg.NET_PORT_MRPST p) ∧ ethType b ≠ 0x88E3) then s
  else
    let s := s.macLearn (ethSrc b) p
    let s' := if ¬ ethGroup b ∧ ethDst b = s.hostMac p then s else s.forward p ing egr b
    if s.forHost p b then s'.hostTake p ing egr lost b else s'

def execEthFrameReceived (p : Fin 3) (frame : List Byte) (ing egr : Nat) (lost : Bool) (s : State) : Result :=
  .next (ethFrame p frame ing egr lost s)

/-! ### Links and MRP (R422, R426) -/

/-- Change a ring port's MRP state. -/
def State.mrpSet (s : State) (p st : Nat) : State :=
  if s.fld (Reg.NET_PORT_MRPST p) = st then s
  else
    let s := s.setFld (Reg.NET_PORT_MRPST p) st
    s.raise 210 (s.reg (Reg.NET_PORT p)).toNat 0

/-- An MRP_LinkChange frame for a ring port (IEC 62439-2). -/
def State.linkChange (s : State) (p : Nat) (up : Bool) (tag : List Byte) : List Byte :=
  let t := (if up then u8 tag 2 else u8 tag 1) * 4
  beBytes 6 0x01154E000002 ++ beBytes 6 (s.baseMac + p) ++ beBytes 2 0x88E3 ++ beBytes 2 1 ++ [if up then 0x04 else 0x03, 0x0C] ++
    beBytes 6 (s.baseMac + p) ++ beBytes 2 p ++ beBytes 2 t ++ beBytes 2 1 ++ [0x01, 0x12] ++ beBytes 2 s.net.mrpSeq ++ slice tag 4 16 ++
    beBytes 2 0 ++ List.replicate 8 0

/-- A ring port's link changes under MRP: disabled without link; forwarding as the first port up, blocked as the second; LinkChange goes out of
the other port. -/
def State.mrpLink (s : State) (p : Nat) (up : Bool) : State :=
  match s.mrpTag with
  | none => s
  | some tag =>
    if 2 ≤ p then s
    else
      let s := s.mrpSet p (if ¬ up then 3 else if s.portUp (1 - p) then 2 else 1)
      let f := s.linkChange p up tag
      let s := { s with net := { s.net with mrpSeq := (s.net.mrpSeq + 1) % 65536 } }
      if s.portUp (1 - p) then s.send (.eth (1 - p) f) else s

/-- ETH_LINK_CHANGE; under PLL coasting no link comes up (R81). -/
def ethLink (p : Nat) (up : Bool) (s : State) : State :=
  if ¬ s.flag (Reg.NET_PORT_EN p) ∨ s.flag (Reg.NET_PORT_LINK p) = up ∨ s.flag Reg.CPM_STAT_PLL_COAST then s
  else
    let s := ((s.setFlag (Reg.NET_PORT_LINK p) up).bump (Reg.NET_PORT_LINKCHG p) (Reg.NET_PORT_SAT p)).raise 208 (p + 256 * b2n up) 0
    s.mrpLink p up

def execEthLinkChange (p : Fin 3) (up : Bool) (s : State) : Result := .next (ethLink p up s)

/-- MRP_TOPOLOGY_CHANGE: the MAC table is flushed, and a blocked ring port with link forwards. -/
def mrpTopology (s : State) : State :=
  if ¬ s.flag Reg.NET_MRP_EN then s
  else
    let s := ({ s with net := { s.net with macs := [] } }).bump Reg.NET_MRP_TOPO Reg.NET_MRP_SAT |>.raise 209 0 0
    (List.range 2).foldl (fun s p => if s.fld (Reg.NET_PORT_MRPST p) = 2 ∧ s.portUp p then s.mrpSet p 1 else s) s

def execMrpTopologyChange (s : State) : Result := .next (mrpTopology s)

end Sys2Proof.Machine
end

