-- ==== Sys2Proof/Machine/Ptp.lean ====
section
/-! DEFINITION. The PTP ordinary clock (16, R427, R431 to R434): the counter's rate and steps, the best master, the servo's lock states, and the
messages the clock sends. -/

namespace Sys2Proof.Machine

/-! ### The addend (R431) -/

/-- Clamp and store an addend. -/
def State.setAddend (s : State) (v : Nat) : State :=
  let c := max 0x9FF5C290 (min 0xA00A3D70 v)
  let s := s.setFld Reg.PTP_ADDEND_ADDEND c
  if c = v then s else (s.setFlag Reg.PTP_STAT_ADDCLAMP true).raise 216 0 0

/-- PTP_ADDEND_WRITE. -/
def ptpAddend (m : Master) (w : Word) (s : State) : State := if s.mayWriteRegs m then s.setAddend w.toNat else s.denyWrite m Reg.PTP_ADDEND

def execPtpAddendWrite (m : Master) (w : Word) (s : State) : Result := .next (ptpAddend m w s)

/-! ### Steps (R83, R432) -/

/-- Step the counter by a signed number of ns. -/
def State.stepTime (s : State) (d : Int) : State := { s with now := ((s.now : Int) + d).toNat }

/-- PTP_STEP: a write of PTP_CTRL; refused in RUN and DOZE. -/
def ptpStep (m : Master) (w : Word) (s : State) : State :=
  if ¬ s.mayWriteRegs m then s.denyWrite m Reg.PTP_CTRL
  else if wordField w 8 8 ≠ 0x3C ∨ ¬ w.getLsbD 0 then s
  else if s.cpm.phase = .run ∨ s.cpm.phase = .doze then (s.setFlag Reg.PTP_STAT_STEPREJ true).raise 214 0 0
  else s.stepTime (1000000000 * sint 32 (s.fld Reg.PTP_ADJ_S_SEC) + sint 32 (s.fld Reg.PTP_ADJ_NS_NS))

def execPtpStep (m : Master) (w : Word) (s : State) : Result := .next (ptpStep m w s)

/-! ### Configuration (R435) -/

/-- Mode, LOCK_NS, UNLOCK_NS, and intervals in ns from their logarithms. -/
def State.ptpMode (s : State) : Nat := match s.ptpTag with | some t => if s.ptp.ended then 0 else u8 t 0 | none => 0
def State.lockNs (s : State) : Nat := match s.img.bind (fun i => i.netTag 0x0022) with | some b => u16 b 0 | none => 100
def State.unlockNs (s : State) : Nat := match s.img.bind (fun i => i.netTag 0x0022) with | some b => u16 b 2 | none => 1000
def logNs (l : Int) : Nat := if 0 ≤ l then 1000000000 * 2 ^ l.toNat else 1000000000 / 2 ^ l.natAbs
def State.ptpByte (s : State) (o : Nat) : Nat := match s.ptpTag with | some t => u8 t o | none => 0

/-! ### States (R434) -/

/-- Whether the unit follows its partner's time (R455). -/
def State.follows (s : State) : Bool :=
  decide (s.fld Reg.RDL_STAT_ROLE = 3) || decide (s.fld Reg.RDL_STAT_ROLE = 4) ||
  (decide (s.fld Reg.RDL_STAT_ROLE = 0) && decide (2 ≤ s.fld Reg.RDL_JOIN_PHASE) && decide (s.fld Reg.RDL_JOIN_PHASE ≤ 3))

/-- TRACE as the unit's own lock state gives it. -/
def State.ownTrace (s : State) : State :=
  s.setFlag Reg.PTP_STAT_TRACE (decide (s.fld Reg.PTP_STAT_STATE = 2) || decide (s.fld Reg.PTP_STAT_STATE = 4))

/-- Change the lock state: EV_PTP_LOCK; traceable only in LOCKED and MASTER, and a follower's TRACE is its partner's. -/
def State.ptpState (s : State) (st : Nat) : State :=
  let old := s.fld Reg.PTP_STAT_STATE
  if old = st then s
  else
    let s := s.setFld Reg.PTP_STAT_STATE st
    let s := if s.follows then s else s.ownTrace
    let s := { s with ptp := { s.ptp with inRun := 0, outRun := 0 } }
    let s := s.raise 212 (old + 256 * st) 0
    if st = 5 then s.raise 214 0 0 else s

/-- Whether the servo acts: the unit is in control, or waits for a master before it takes control. -/
def State.servoActs (s : State) : Bool := s.inControl || decide (s.cpm.phase = .ptpWait)

/-- The correction at a Sync (R432): a step before RUN for an offset above 1 µs, else a new addend. -/
def State.servo (s : State) (ofs : Int) : State :=
  if ¬ s.servoActs then s
  else if s.cpm.phase = .ptpWait then (if 1000 < ofs.natAbs then s.stepTime (-ofs) else s)
  else if s.cpm.phase = .run ∧ s.fld Reg.PTP_STAT_STATE ≠ 5 then s.draw.setAddend (0x9FF5C290 + (Config.servoAddend s.freeCtr).val)
  else s

/-- The lock state after an offset (R434). -/
def State.lockStep (s : State) (ofs : Int) : State :=
  let a := ofs.natAbs
  let s := if s.fld Reg.PTP_STAT_STATE = 3 then s.ptpState 1 else s
  if s.fld Reg.PTP_STAT_STATE = 1 then
    if 100000000 < a ∧ s.cpm.phase = .run then s.ptpState 5
    else
      let n := if a ≤ s.lockNs then s.ptp.inRun + 1 else 0
      if 16 ≤ n then s.ptpState 2 else { s with ptp := { s.ptp with inRun := n } }
  else if s.fld Reg.PTP_STAT_STATE = 2 then
    let n := if s.unlockNs < a then s.ptp.outRun + 1 else 0
    if 4 ≤ n then s.ptpState 1 else { s with ptp := { s.ptp with outRun := n } }
  else s

/-- The servo's work at a Sync whose precise origin is known: `t1` with its corrections and `t2`, in 2^-16 ns. -/
def State.syncOffset (s : State) (t1 t2 : Int) : State :=
  let s := { s with ptp := { s.ptp with sync := some (t1, t2) } }
  let ofs := (t2 - t1) / 65536 - s.fld Reg.PTP_MPD_MPD
  let s := s.setFld Reg.PTP_OFFSET_OFS (unsint 32 (satInt 32 ofs))
  let n := if ofs.natAbs ≤ 1000 then s.ptp.startRun + 1 else 0
  let s := { s with ptp := { s.ptp with startRun := n } }
  (s.lockStep ofs).servo ofs

/-- PTP_SYNC: from the selected master; a two-step Sync waits for its Follow_Up. -/
def ptpSync (x : PtpSync) (s : State) : State :=
  if s.ptpMode = 0 ∨ s.ptp.sel ≠ some x.src ∨ s.fld Reg.PTP_STAT_STATE = 4 then s
  else
    let t2 := 4096 * s.ingressTime x.port.val x.boundary
    let s := { s with ptp := { s.ptp with syncAt := s.mono, syncInt := logNs x.logInt } }
    if x.twoStep then { s with ptp := { s.ptp with twoStep := some (x.seq, t2, x.corr) } }
    else ({ s with ptp := { s.ptp with twoStep := none } }).syncOffset (65536 * x.origin + x.corr) t2

def execPtpSync (x : PtpSync) (s : State) : Result := .next (ptpSync x s)

/-- PTP_FOLLOW_UP: the precise origin of the two-step Sync with the same SEQ. -/
def ptpFollowUp (src seq origin : Nat) (corr : Int) (s : State) : State :=
  match s.ptp.twoStep with
  | some (n, t2, c) =>
    if s.ptpMode = 0 ∨ s.ptp.sel ≠ some src ∨ n ≠ seq then s
    else ({ s with ptp := { s.ptp with twoStep := none } }).syncOffset (65536 * origin + c + corr) t2
  | none => s

def execPtpFollowUp (src seq origin : Nat) (corr : Int) (s : State) : Result := .next (ptpFollowUp src seq origin corr s)

/-- PTP_DELAY_RESP: the mean path delay from the last Sync and the Delay_Req it answers. -/
def ptpDelayResp (src seq receive : Nat) (corr : Int) (s : State) : State :=
  match s.ptp.sync, s.ptp.req with
  | some (t1, t2), some (n, t3) =>
    if s.ptpMode = 0 ∨ s.ptp.sel ≠ some src ∨ n ≠ seq then s
    else
      let d := ((t2 - t1) + (65536 * (receive : Int) - corr - t3)) / 2 / 65536
      ({ s with ptp := { s.ptp with req := none } }).setFld Reg.PTP_MPD_MPD (min 0xFFFFFFFF d.toNat)
  | _, _ => s

def execPtpDelayResp (src seq receive : Nat) (corr : Int) (s : State) : Result := .next (ptpDelayResp src seq receive corr s)

/-! ### The best master (R427, R434; IEEE 1588-2019) -/

/-- The order of data sets: a lower key is better; equal grandmasters by steps and sender. -/
def dataKey (p1 cls acc var p2 gm : Nat) : Nat := ((((p1 * 256 + cls) * 256 + acc) * 65536 + var) * 256 + p2) * 2 ^ 64 + gm
def annKey (a : PtpAnnounce) : Nat :=
  dataKey a.priority1 a.cls a.accuracy a.variance a.priority2 a.gm * 2 ^ 96 + a.steps * 2 ^ 80 + a.src

/-- The clock's own identity (EUI-64 from the base MAC), port identity and data set. -/
def State.clockId (s : State) : Nat := s.baseMac / 2 ^ 24 * 2 ^ 40 + 0xFFFE000000 + s.baseMac % 2 ^ 24
def State.portId (s : State) : Nat := s.clockId * 65536 + 1
def State.ownKey (s : State) : Nat := dataKey (s.ptpByte 3) 248 0xFE 0xFFFF (s.ptpByte 4) s.clockId * 2 ^ 96

/-- A foreign master is qualified: two Announces within four of its intervals, the last not timed out. -/
def State.qualified (s : State) (f : Foreign) : Bool :=
  f.prev.any (fun p => decide (f.last ≤ p + 4 * logNs f.ann.logInt)) && decide (s.mono < f.last + s.ptpByte 7 * logNs f.ann.logInt)

/-- The better of two, and the best of a list. -/
def bestForeign : List Foreign → Option Foreign
  | [] => none
  | f :: fs => match bestForeign fs with
    | none => some f
    | some g => if annKey g.ann < annKey f.ann then some g else some f

/-- A change of grandmaster is reported. -/
def State.setGm (s : State) (gm : Nat) : State :=
  if s.ptp.gm = gm then s else ({ s with ptp := { s.ptp with gm := gm } }).raise 213 (gm % 2 ^ 32) (gm / 2 ^ 32)

/-- Run the BMCA on the qualified foreign masters. -/
def State.bmca (s : State) : State :=
  match bestForeign (s.ptp.foreign.filter (fun f => s.qualified f)) with
  | none => s
  | some f =>
    if s.ptpMode = 2 ∧ s.ownKey < annKey f.ann then
      let s := ({ s with ptp := { s.ptp with sel := none } }).setGm s.clockId
      if s.fld Reg.PTP_STAT_STATE = 5 then s else s.ptpState 4
    else
      let s := ({ s with ptp := { s.ptp with sel := some f.ann.src, annAt := f.last } }).setGm f.ann.gm
      if s.fld Reg.PTP_STAT_STATE = 0 ∨ s.fld Reg.PTP_STAT_STATE = 4 then s.ptpState 1 else s

/-- PTP_ANNOUNCE: enters the BMCA. -/
def ptpAnnounce (a : PtpAnnounce) (s : State) : State :=
  if s.ptpMode = 0 ∨ a.steps ≥ 255 ∨ a.src / 65536 = s.clockId then s
  else
    let prev := (s.ptp.foreign.find? (fun f => decide (f.ann.src = a.src))).map (fun f => f.last)
    let rest := (s.ptp.foreign.filter (fun f => decide (f.ann.src ≠ a.src))).take 4
    ({ s with ptp := { s.ptp with foreign := ⟨a, s.mono, prev⟩ :: rest } }).bmca

def execPtpAnnounce (a : PtpAnnounce) (s : State) : Result := .next (ptpAnnounce a s)

/-- PTP_ANNOUNCE_TIMEOUT: no Announce of the selected master, or of any, within announceReceiptTimeout. -/
def ptpAnnounceTimeout (s : State) : State :=
  if s.ptpMode = 0 ∨ s.fld Reg.PTP_STAT_STATE = 4 then s
  else
    let l := match s.ptp.foreign.find? (fun f => s.ptp.sel = some f.ann.src) with | some f => f.ann.logInt | none => sint 8 (s.ptpByte 6)
    let s := s.toMono (s.ptp.annAt + s.ptpByte 7 * logNs l)
    let s := { s with ptp := { s.ptp with sel := none, annAt := s.mono, foreign := s.ptp.foreign.filter (fun f => s.qualified f) } }
    if s.fld Reg.PTP_STAT_STATE = 5 then s
    else
      let s := (s.ptpState 0).bmca
      if s.ptp.sel.isNone ∧ s.ptpMode = 2 then (s.setGm s.clockId).ptpState 4 else s

def execPtpAnnounceTimeout (s : State) : Result := .next (ptpAnnounceTimeout s)

/-- PTP_SYNC_TIMEOUT: no Sync for 4 sync intervals. -/
def ptpSyncTimeout (s : State) : State :=
  if s.fld Reg.PTP_STAT_STATE = 2 then (s.toMono (s.ptp.syncAt + 4 * s.ptp.syncInt)).ptpState 3 else s

def execPtpSyncTimeout (s : State) : Result := .next (ptpSyncTimeout s)

/-! ### Messages sent (R427, R428) -/

/-- A PTP header. -/
def State.ptpHeader (s : State) (ty len seq ctl : Nat) (log : Nat) : List Byte :=
  beBytes 1 ty ++ [0x12] ++ beBytes 2 len ++ beBytes 1 (s.ptpByte 2) ++ [0] ++ beBytes 2 0 ++ beBytes 8 0 ++ beBytes 4 0 ++ beBytes 10 s.portId ++
    beBytes 2 seq ++ beBytes 1 ctl ++ beBytes 1 log

/-- A PTP timestamp. -/
def ptpStamp (t : Nat) : List Byte := beBytes 6 (secOf t) ++ beBytes 4 (nsOf t)

/-- A PTP message in its frame: Ethernet, or UDP to 224.0.1.129. -/
def State.ptpFrame (s : State) (event : Bool) (m : List Byte) : List Byte :=
  if s.ptpByte 1 = 0 then beBytes 6 0x011B19000000 ++ beBytes 6 s.baseMac ++ beBytes 2 0x88F7 ++ m
  else
    let port := if event then 319 else 320
    let ip := [0x45, 0] ++ beBytes 2 (28 + m.length) ++ beBytes 4 0 ++ [1, 17] ++ beBytes 2 0 ++ beBytes 4 s.ringIp ++ beBytes 4 0xE0000181
    beBytes 6 0x01005E000181 ++ beBytes 6 s.baseMac ++ beBytes 2 0x0800 ++ putAt ip 10 (beBytes 2 (inetSum ip)) ++
      beBytes 2 port ++ beBytes 2 port ++ beBytes 2 (8 + m.length) ++ beBytes 2 0 ++ m

/-- PTP_DELAY_REQ_SEND: a slave's Delay_Req leaves at an egress boundary time. -/
def ptpDelayReq (boundary : Nat) (lost : Bool) (s : State) : State :=
  if s.ptpMode = 0 ∨ s.ptp.sel.isNone ∨ s.fld Reg.PTP_STAT_STATE = 4 then s
  else
    let n := s.ptp.seqDelay
    let t3 := 4096 * s.egressTime 0 boundary
    let s := s.hostSend 0 (s.ptpFrame true (s.ptpHeader 1 44 n 1 0x7F ++ ptpStamp 0))
    let s := { s with ptp := { s.ptp with seqDelay := (n + 1) % 65536, req := if lost then none else some (n, t3) } }
    s.tsLost 0 true lost

def execPtpDelayReqSend (boundary : Nat) (lost : Bool) (s : State) : Result := .next (ptpDelayReq boundary lost s)

/-- PTP_SYNC_SEND: as MASTER, a one-step Sync with originTimestamp written at egress. -/
def ptpSyncSend (boundary : Nat) (s : State) : State :=
  if s.ptpMode = 0 ∨ s.fld Reg.PTP_STAT_STATE ≠ 4 then s
  else
    let n := s.ptp.seqSync
    let t := (s.egressTime 0 boundary / 16).toNat
    let s := s.hostSend 0 (s.ptpFrame true (s.ptpHeader 0 44 n 0 (s.ptpByte 5) ++ ptpStamp t))
    { s with ptp := { s.ptp with seqSync := (n + 1) % 65536 } }

def execPtpSyncSend (boundary : Nat) (s : State) : Result := .next (ptpSyncSend boundary s)

/-- PTP_ANNOUNCE_SEND: as MASTER, with the values of R427. -/
def ptpAnnounceSend (s : State) : State :=
  if s.ptpMode = 0 ∨ s.fld Reg.PTP_STAT_STATE ≠ 4 then s
  else
    let n := s.ptp.seqAnn
    let body := ptpStamp s.now ++ beBytes 2 0 ++ [0] ++ beBytes 1 (s.ptpByte 3) ++ [248, 0xFE, 0xFF, 0xFF] ++ beBytes 1 (s.ptpByte 4) ++
      beBytes 8 s.clockId ++ beBytes 2 0 ++ [0xA0]
    let s := s.hostSend 0 (s.ptpFrame false (s.ptpHeader 11 64 n 5 (s.ptpByte 6) ++ body))
    { s with ptp := { s.ptp with seqAnn := (n + 1) % 65536 } }

def execPtpAnnounceSend (s : State) : Result := .next (ptpAnnounceSend s)

end Sys2Proof.Machine
end

