-- ==== Sys2Proof/Machine/Place.lean ====
section
/-! DEFINITION. What firmware lays down before an image (the Slath, R162), and how an image is placed in SRAM, the Weave and the registers of
every block at start-up step 8 (R515) or beside the running one (R178). -/

namespace Sys2Proof.Machine

/-! ### The Slath (R124, R162) -/

/-- A queue's configuration: class, producer and consumer, size, enable, ring. -/
def State.setQueue (s : State) (q cls size prod cons base : Nat) (en : Bool) : State :=
  let w := cls + 8 * b2n en + 16 * size + 256 * prod + 65536 * cons
  ((s.setReg (Reg.QUE_CFG q) (BitVec.ofNat 32 w)).setReg (Reg.QUE_BASE q) (BitVec.ofNat 32 base)).setFld (Reg.QUE_STAT_ECLASS q) cls

/-- Ring addresses of queues 0 and 1 (free values: R162 gives none). -/
def slathBase0 : Nat := 0x600000 + 1024 * Config.slathRing.val
def slathBase1 : Nat := 0x600000 + 1024 * ((Config.slathRing.val + 1 + Config.slathGap.val) % 18432)

/-- Lay down the Slath. -/
def State.slath (s : State) : State :=
  let s := (List.range 96).foldl (fun s n => s.setReg (Reg.EVT_ROUTE n) 0x1C0) s
  let s := (s.setQueue 0 5 6 16 0 slathBase0 true).setQueue 1 5 6 0 16 slathBase1 true
  s.setFlag (Reg.NET_PORT_EN 2) true

/-! ### SYSTEM (R156 and the chapters that assign tags) -/

/-- Snapshot lists 0 to 14. -/
def State.setLists (s : State) (b : List Byte) : State :=
  (List.range 15).foldl (fun s l => (List.range 26).foldl (fun s e => s.setReg (Reg.EVR_LIST l e) (BitVec.ofNat 32 (u32 b (104 * l + 4 * e)))) s) s

/-- EVR_TRIG of every source; EN of the recorder's own sources reads 0. -/
def State.setTrigs (s : State) (b : List Byte) : State :=
  (List.range 256).foldl (fun s n =>
    let s := ((s.setFld (Reg.EVR_TRIG_LIST n) (u8 b (2 * n) / 16)).setFld (Reg.EVR_TRIG_HOLD n) (u8 b (2 * n + 1))).setFlag (Reg.EVR_TRIG_EN n)
      (bit (u8 b (2 * n)) 0 && !(decide (232 ≤ n) && decide (n ≤ 239)))
    s) s

/-- The locks of the parameter port's lists; 0xFF disables one. -/
def State.setPpCfg (s : State) (b : List Byte) : State :=
  (List.range 4).foldl (fun s l =>
    if u8 b l = 255 then s else (s.setFld ⟨Reg.LPE_PP_CFG, 5 * l, 5⟩ (u8 b l)).setFlag ⟨Reg.LPE_PP_CFG, 20 + l, 1⟩ true) s

/-- One parameter record. -/
def State.systemTagSet (s : State) (r : Nat × List Byte) : State :=
  let b := r.2
  match r.1 with
  | 0x0002 => s.setFld Reg.IMG_RETAIN_MS_MS (u16 b 0)
  | 0x0003 => ((s.setFld Reg.CPM_PSCFG_DOZE_EN (u8 b 0)).setFld Reg.CPM_PSCFG_WAKE_LVL (u8 b 1)).setFld Reg.CPM_PSCFG_WAKE_LEAD (u8 b 2)
  | 0x0004 => s.setFld Reg.NET_KSAP_PORT_PORT (u16 b 0)
  | 0x0005 => s.setFld Reg.QUE_AGE_LIMIT_LIMIT (u16 b 0)
  | 0x0006 => s.setFld Reg.LCK_HOLD_LIMIT_LIMIT (u16 b 0)
  | 0x0200 => s.setPpCfg b
  | 0x0400 =>
    (((s.setFld Reg.RDL_CFG_SWAP_H (u8 b 0)).setFld Reg.RDL_SYNC_BUDGET_PCT (u8 b 1)).setFld Reg.RDL_CFG_AUTORST (u8 b 2)).setFld
      Reg.RDL_CFG_TEST (u8 b 3)
  | 0x0500 => s.setTrigs b
  | 0x0501 => s.setLists b
  | _ => s

def State.placeSystem (s : State) (i : Image) : State :=
  let b := i.sec tySystem
  let s := (tagRecords b b.length 0).foldl (fun s r => s.systemTagSet r) s
  s.setFld Reg.RDL_SYNC_BUDGET_US (min 65535 (s.budget / 1000))

/-! ### EVENTS, QUEUES (R526, R527) -/

def State.placeEvents (s : State) (i : Image) : State :=
  i.eventRecs.foldl (fun s r => s.setReg (Reg.EVT_ROUTE (u8 r 0)) (BitVec.ofNat 32 (u8 r 1 % 4 + 16 * (u8 r 2 % 16) + 256 * (u8 r 3 % 2)))) s

def State.placeQueues (s : State) (i : Image) : State :=
  let s := i.queueRecs.foldl (fun s r => s.setQueue (u8 r 0) (u8 r 1) (u8 r 2) (u8 r 4) (u8 r 5) (u32 r 8) (decide (u8 r 3 % 2 = 1))) s
  i.mbxRecs.foldl (fun s r => s.setReg (Reg.MBX_CFG (u8 r 0)) (BitVec.ofNat 32 (u8 r 1 + 4 * u8 r 2 + 16 * (u8 r 3 % 2) + 65536 * u16 r 4))) s

/-! ### NET, CAN (R399, R420, R435) -/

def State.placeNet (s : State) (i : Image) : State :=
  let fl := match i.netTag 0x0003 with | some b => u32 b 0 | none => 0
  let mrp := (i.netTag 0x0010).any (fun b => decide (u8 b 0 = 1))
  let s := (s.setFlag Reg.NET_STAT_RING_IF (i.netTag 0x0001).isSome).setFlag Reg.NET_STAT_BRIDGE (bit fl 3)
  let s := (s.setFlag (Reg.NET_PORT_EN 0) (bit fl 0)).setFlag (Reg.NET_PORT_EN 1) (bit fl 1)
  let s := s.setFlag Reg.NET_MRP_EN mrp
  let s := if mrp then (s.setFld (Reg.NET_PORT_MRPST 0) 3).setFld (Reg.NET_PORT_MRPST 1) 3 else s
  let s := match i.netTag 0x0101 with | some b => s.setFld Reg.NET_ECX_PORT_PORT (u16 b 0) | none => s
  let s := match i.netTag 0x0021 with
    | some b => (List.range 3).foldl (fun (s : State) (p : Nat) => s.setReg (Reg.PTP_ASYM p) (BitVec.ofNat 32 (u32 b (4 * p)))) s
    | none => s
  { s with ptp := { s.ptp with annAt := s.mono } }

/-- One CAN port's registers; bit-timing fields hold the record's values minus 1. -/
def State.placeCanPort (s : State) (r : CanPortRec) : State :=
  let b := r.bytes
  let n := r.port
  let s := (s.setFld (Reg.CAN_STAT_MODE n) r.mode).setFlag (Reg.CAN_STAT_FD n) r.fd
  let s := ((s.setFld (Reg.CAN_NBT_NBRP n) (u8 b 4 - 1)).setFld (Reg.CAN_NBT_NTSEG1 n) (u16 b 6 - 1)).setFld (Reg.CAN_NBT_NTSEG2 n) (u8 b 8 - 1)
  let s := (s.setFld (Reg.CAN_NBT_NSJW n) (u8 b 5 - 1)).setFld (Reg.CAN_DBT_DBRP n) (u8 b 9 - 1)
  let s := ((s.setFld (Reg.CAN_DBT_DTSEG1 n) (u8 b 10 - 1)).setFld (Reg.CAN_DBT_DTSEG2 n) (u8 b 11 - 1)).setFld (Reg.CAN_DBT_DSJW n) (u8 b 12 - 1)
  (s.setFld (Reg.CAN_TDC_TDCO n) r.tdco).setFlag (Reg.CAN_TDC_EN n) r.tdcEn

/-- The ports are on, in restricted operation until the unit is in control (R418). -/
def State.placeCan (s : State) (i : Image) : State :=
  let s := i.canPorts.foldl (fun s r => s.placeCanPort r) s
  let s := i.canObjs.foldl (fun s o => (s.setFlag (Reg.CAN_OBJ_EN o.port o.obj) true).setFlag (Reg.CAN_OBJ_DIR o.port o.obj) o.tx) s
  s.canRestrict true (List.range 4)

/-! ### Tasks (R186, R193, R207, R221) -/

/-- Offset and type of every element of a task's output image that code, the panel or a route names. -/
def Image.outElems (i : Image) (c : Nat) : List (Nat × Nat) :=
  (((i.allIns c) ++ (i.allOuts c)).filter (fun o => decide (o.space = 1))).map (fun o => (o.off, o.ty)) ++
  (i.routes.filter (fun r => decide (r.src / 2 ^ 24 = 4) && decide (bits r.src 16 8 = c))).map (fun r => (bits r.src 0 16, r.sty)) ++
  (i.panelRecs.filter (fun r => decide (u8 r 11 = c))).map (fun r => (u32 r 12, u8 r 16))

/-- Trick 0: the initial output image, every element UNCERTAIN, INITIAL. -/
def Image.trickZero (i : Image) (c : Nat) : List Host.Cell :=
  let b := match i.instRec c with | some r => r.2.2.2 | none => []
  (i.outElems c).foldl (fun m e => imgWrite m (e.1 + tyQual e.2) [BitVec.ofNat 8 (qUnc 7)]) (imgOf 0 b)

/-- A task before its first release under an image. -/
def Image.startTask (i : Image) (c : Nat) : Task :=
  { Task.reset with committed := i.trickZero c, applied := i.trickZero c, work := i.trickZero c,
                    v := imgOf 0 (match i.instRec c with | some r => r.2.2.1 | none => []) }

def State.placeTask (s : State) (i : Image) (r : TaskRec) : State :=
  ((s.setTask r.cls (i.startTask r.cls)).setFlag (Reg.IMG_TASK_EN r.cls) true).setFld (Reg.IMG_TASK_PAIR r.cls) r.pair

def State.placeTasks (s : State) (i : Image) : State := i.taskRecs.foldl (fun s r => s.placeTask i r) s

/-! ### Loops (R241) -/

/-- A slot as the loader lays it down: MODE.ACT 7, every output element 0, BAD, NO_VALUE. -/
def slotStart (b : List Byte) : List Byte :=
  let b := b ++ List.replicate 128 0
  let b := overlay b 4 (leBytes 4 (u32 b 4 + 16 * 7))
  [(0xB0, 4), (0xB8, 4), (0xC0, 1), (0xC2, 1), (0xC4, 1), (0xC6, 1)].foldl (fun b (e : Nat × Nat) => overlay b e.1 (elBytes e.2 ⟨0, qBad 3⟩)) b

/-- The exact rate of evaluations in one second, rounded up (R266). -/
def Image.ratePerSecond (i : Image) : Nat :=
  ceilDiv ((i.loopRecs.map (fun r => 2 ^ 13 * 1000000000 * 1000000000 / periodNs (slotPeriod r.2))).foldl (· + ·) 0) (2 ^ 13 * 1000000000)

def State.placeLoops (s : State) (i : Image) : State :=
  let s := i.loopRecs.foldl (fun s (r : Nat × List Byte) => s.wrBytes (slotAddr r.1) (slotStart (slice r.2 0 128))) s
  let s := (s.setFld Reg.LPE_STAT_SLOTS i.loopRecs.length).setFld Reg.LPE_RATE_RATE i.ratePerSecond
  ({ s with loops := Loops.reset }).setFld Reg.LPE_BURST_CYCLES (min 32767 i.loopBurst)

/-! ### Safety, stations, connections (R342, R365, R370, R386) -/

def State.placeSafety (s : State) (i : Image) : State :=
  let fs := i.safeFns
  let s := (s.setFld Reg.SAF_STAT_TASK i.safeTask).setFld Reg.SAF_STAT_FUNCS fs.length
  let s := { s with saf := { s.saf with fns := fs.map HostFn.start } }
  let s := fs.foldl (fun s (f : SafeFn) => (s.setFld (Reg.SAF_FN_TYPE f.num) f.ty).setReg (Reg.SAF_RESP f.num) (BitVec.ofNat 32 (i.safResp f))) s
  s.showConf

/-- A station before its first sample. -/
def stationStart (n : Nat) : Station :=
  { num := n, seqIn := none, due := none, sample := none, acked := false, cfg := [], cfgT := 0, cfgAt := 0, seqOut := 0, atRel := [], held := [],
    upd := none }

/-- A connection before its first PDU; a producer's SEQ starts from the hardware random generator (R391). -/
def escStart (n seq : Nat) : EscConn :=
  { num := n, seq := seq, acc := none, first := true, data := [], old := none, rst := none, pdu := [] }

def State.placeStations (s : State) (i : Image) : State :=
  let s := { s with stns := i.stnRecs.map (fun (r : StnRec) => stationStart r.num), escs := [] }
  let s := i.stnRecs.foldl (fun s (r : StnRec) => (s.setFlag (Reg.IMG_STN_STAT_EN r.num) true).setFld (Reg.IMG_STN_STAT_GROUP r.num) r.group) s
  i.escRecs.foldl (fun (s : State) (r : EscRec) =>
    let s := { s with escs := s.escs ++ [escStart r.num ((Config.randomWord s.freeCtr).toNat % 65536)] }
    s.draw.setFlag (Reg.SAF_ESC_STAT_DIR r.num) r.produced) s

/-! ### The whole image -/

/-- The Weave's registers (R184). -/
def State.placeWeave (s : State) (i : Image) : State :=
  let s := (s.setFld Reg.WVE_STAT_SECTIONS i.nSections).setReg Reg.WVE_BUILD (BitVec.ofNat 32 i.build)
  let s := (s.setReg Reg.WVE_SAFECHK (BitVec.ofNat 32 i.safeChk)).setFld Reg.WVE_ROUTES_COUNT i.routes.length
  let s := if s.onPairCarrier then s.setFld Reg.RDL_LOAD_ADMIT (min 65535 i.mirrorMB) else s
  { s with img := some i, routeLast := [] }

/-- The image runs: EV_IMG_LOADED at the change of WVE_STAT.IMG. -/
def State.imgRunning (s : State) (i : Image) : State := (s.setFld Reg.WVE_STAT_IMG 2).raise 14 i.build 0

/-- Place an image: step 8. -/
def State.placeImage (s : State) (i : Image) : State :=
  let s := (s.placeWeave i).placeSystem i
  let s := ((s.placeEvents i).placeQueues i).placeNet i
  let s := ((s.placeCan i).placeTasks i).placeLoops i
  ((s.placeSafety i).placeStations i).imgRunning i

end Sys2Proof.Machine
end

