-- ==== Sys2Proof/Machine/PairLink.lean ====
section
/-! DEFINITION. The Rolent link (18, R454 to R459): lanes and link, ROLE, TIME and STOP messages, and how a unit in OFF begins or fails a
join. -/

namespace Sys2Proof.Machine

/-- BUILD_ID of the running image, as the messages carry it. -/
def State.build (s : State) : Nat := (s.reg Reg.WVE_BUILD).toNat

/-- Whether the running image's safety check value is confirmed (R365). -/
def State.ownConf (s : State) : Bool := s.flag Reg.SAF_STAT_CONF

/-- Send NEGOTIATE (R453). -/
def State.sendNegotiate (s : State) : State := s.tell (.negotiate (s.fld Reg.RDL_STAT_POS) s.build s.safeChk s.ownConf)

/-! ### Joining, from OFF (R459) -/

/-- The unit is joining. -/
def State.joining (s : State) : Bool :=
  decide (s.fld Reg.RDL_STAT_ROLE = 0) && decide (1 ≤ s.fld Reg.RDL_JOIN_PHASE) && decide (s.fld Reg.RDL_JOIN_PHASE ≤ 3)

/-- A join fails: OFF, and again after 10 s. -/
def State.joinFails (s : State) : State :=
  let s := ({ s with load := none }).joinPhase 0
  { s.dropMirror with rdl := { s.dropMirror.rdl with joinFail := some s.mono } }

/-- Phase 1 begins: JOIN_REQ; without a link it fails at once. -/
def State.joinStart (s : State) : State :=
  if s.fld Reg.RDL_STAT_ROLE ≠ 0 ∨ s.cpm.phase ≠ .run ∨ s.cpm.haltOnStop ∨ s.joining then s
  else
    let s := s.setFld Reg.RDL_STAT_OFFCAUSE 1
    let s := { s with rdl := { s.rdl with joinFail := none } }
    if s.flag Reg.RDL_LINK_UP then
      let s := (s.dropMirror.setFld Reg.RDL_JOIN_PASS 0).setFld Reg.RDL_JOIN_PCT 0
      (s.joinPhase 1).tell (.joinReq s.build s.safeChk s.ownConf)
    else s.joinFails

/-- JOIN_RETRY: 10 s after the failure. -/
def joinRetry (s : State) : State :=
  match s.rdl.joinFail with
  | some t => if s.fld Reg.RDL_STAT_ROLE = 0 ∧ s.cpm.phase = .run then (s.toMono (t + 10000000000)).joinStart else s
  | none => s

def execJoinRetry (s : State) : Result := .next (joinRetry s)


/-! ### Lanes and link (R454) -/

/-- EV_RDL_LINK with the RDL_LINK word. -/
def State.linkEvent (s : State) : State := s.raise 52 (s.reg Reg.RDL_LINK).toNat 0

def laneBit (l : Nat) : Field := ⟨Reg.RDL_LINK, l, 1⟩

/-- ROLENT_LANE_UP: the link is up with its first lane; a unit that negotiates says so. Under PLL coasting lanes stay stopped (R81). -/
def laneUp (l : Nat) (s : State) : State :=
  if s.flag (laneBit l) ∨ ¬ s.onPairCarrier ∨ s.flag Reg.CPM_STAT_PLL_COAST then s
  else
    let was := s.flag Reg.RDL_LINK_UP
    let s := ((s.setFlag (laneBit l) true).setFlag Reg.RDL_LINK_UP true).linkEvent
    let s := if was then s else { s with rdl := { s.rdl with linkAt := s.mono } }
    if !was && decide (s.cpm.phase = .negotiating) then s.sendNegotiate else s

def execRolentLaneUp (lane : Fin 2) (s : State) : Result := .next (laneUp lane s)

/-- ROLENT_LANE_LOSS: the other lane carries all traffic. -/
def laneLoss (l : Nat) (s : State) : State :=
  if s.flag (laneBit l) then (s.setFlag (laneBit l) false).linkEvent else s

def execRolentLaneLoss (lane : Fin 2) (s : State) : Result := .next (laneLoss lane s)

/-- The partner is unknown: what was pending between the units is forgotten. -/
def State.partnerGone (s : State) : State :=
  let s := ((s.setFld Reg.RDL_STAT_PROLE 7).setFlag Reg.RDL_STAT_PCONF false).swapFail
  if s.fld Reg.RDL_STAT_ROLE = 3 ∨ s.fld Reg.RDL_STAT_ROLE = 4 then s.enterOff 3
  else if s.joining then s.joinFails
  else s.dropMirror.joinPhase 0

/-- ROLENT_LINK_LOSS: no valid frame on either lane for 100 µs. -/
def linkLoss (s : State) : State :=
  if s.flag Reg.RDL_LINK_UP then ((s.setFlag Reg.RDL_LINK_UP false).linkEvent).partnerGone else s

def execRolentLinkLoss (s : State) : Result := .next (linkLoss s)

/-- ROLENT_REJOIN: the link has been up for 1 s. -/
def linkRejoin (s : State) : State :=
  if s.fld Reg.RDL_STAT_ROLE = 0 ∧ s.fld Reg.RDL_STAT_OFFCAUSE = 3 ∧ s.flag Reg.RDL_LINK_UP then
    (s.toMono (s.rdl.linkAt + 1000000000)).joinStart
  else s

def execRolentRejoin (s : State) : Result := .next (linkRejoin s)

/-- ROLENT_CRC_FAIL: a frame of this unit is retransmitted, or a received frame failed. -/
def linkCrcFail (mine : Bool) (s : State) : State :=
  if mine then s.bump Reg.RDL_LINK_RETX Reg.RDL_LINK_SAT else s.bump Reg.RDL_LINK_CRCERR Reg.RDL_LINK_SAT

def execRolentCrcFail (mine : Bool) (s : State) : Result := .next (linkCrcFail mine s)

/-! ### ROLE and TIME (R455, R456) -/

/-- A follower's TRACE is its partner's. -/
def State.followTrace (s : State) (trace : Bool) : State := if s.follows then s.setFlag Reg.PTP_STAT_TRACE trace else s

/-- The active has declared its partner LAGGING and has not yet seen 1,000 digests on time (R463). -/
def State.declaredLate (s : State) : Bool :=
  decide (s.fld Reg.RDL_STAT_ROLE = 2) && decide (s.fld Reg.RDL_STAT_PROLE = 4) && decide (s.fld Reg.RDL_LAG_ONTIME < 1000)

/-- The partner's role as its ROLE message gives it. -/
def State.partnerRole (s : State) (role : Nat) : State :=
  let old := s.fld Reg.RDL_STAT_PROLE
  let s := if s.declaredLate ∧ role = 3 then s else s.setFld Reg.RDL_STAT_PROLE role
  if s.fld Reg.RDL_STAT_ROLE = 2 then
    let s := if role = 3 then s else s.swapFail
    if (old = 3 ∨ old = 4) ∧ role ≠ 3 ∧ role ≠ 4 then s.dropMirror.joinPhase 0 else s
  else if s.joining ∧ role ≠ 2 then s.joinFails
  else s

/-- ROLE arrives. -/
def roleMsg (role : Nat) (trace : Bool) (s : State) : State :=
  if 4 < role ∨ ¬ s.flag Reg.RDL_LINK_UP then s else (s.partnerRole role).followTrace trace

def execRoleMsg (role : Nat) (trace : Bool) (s : State) : Result := .next (roleMsg role trace s)

/-- ROLE_SEND: ROLE and TIME go out every 10 ms; `peak` is the largest link load of the past millisecond in MB/s. -/
def roleSend (peak : Nat) (s : State) : State :=
  if ¬ s.onPairCarrier then s
  else
    let s := s.setFld Reg.RDL_LOAD_PEAK (min 65535 (max peak (s.fld Reg.RDL_LOAD_PEAK)))
    let s := s.toMono (s.rdl.sentAt + 10000000)
    let s := { s with rdl := { s.rdl with sentAt := s.mono } }
    if s.flag Reg.RDL_LINK_UP then
      let s := (s.tell (.role (s.fld Reg.RDL_STAT_ROLE) (s.flag Reg.PTP_STAT_TRACE))).tell (.time s.now s.rdl.timeRx)
      { s with rdl := { s.rdl with timeTx := s.now } }
    else s

def execRoleSend (peak : Nat) (s : State) : Result := .next (roleSend peak s)

/-- TIME arrives: from it a follower writes a new addend (a free value: R455 fixes its effect and no law). -/
def timeMsg (s : State) : State :=
  if ¬ s.flag Reg.RDL_LINK_UP then s
  else
    let s := { s with rdl := { s.rdl with timeRx := s.now } }
    if s.follows then s.draw.setAddend (0x9FF5C290 + (Config.servoAddend s.freeCtr).val) else s

def execTimeMsg (_sent _lastRx : Nat) (s : State) : Result := .next (timeMsg s)

/-! ### STOP (R201, R467) -/

/-- STOP: the standby of a common overrun stops too, with the active's IMG_OVR word. -/
def stopMsg (ovr : Word) (s : State) : State :=
  if s.fld Reg.RDL_STAT_ROLE = 3 ∨ s.fld Reg.RDL_STAT_ROLE = 4 then
    ((s.setReg Reg.IMG_OVR ovr).raise 96 ovr.toNat 0).stationStop 1 96
  else s

def execStopNotice (ovr : Word) (s : State) : Result := .next (stopMsg ovr s)

end Sys2Proof.Machine
end

