-- ==== Sys2Proof/Machine/Tasks.lean ====
section
/-! DEFINITION. The task cycle (07): releases and latches, commits, applies, class F, deadlines, views, retentive snapshots. -/

namespace Sys2Proof.Machine

/-- The period of a task in ns. -/
def State.taskPeriod (s : State) (c : Nat) : Nat := match s.taskRec c with | some r => 1000 * r.period | none => 0

/-! ### Apply (R22, R23) -/

/-- A committed Trick of task `c` takes effect at its apply instant `a`. -/
def State.applyTrick (s : State) (c a : Nat) : State :=
  let k := s.task c
  let s := (s.setTask c { k with applied := k.committed, appliedTrick := some (s.fld (Reg.IMG_TRICK_COMMITTED c)), applyAt := none, appliedAt := a }).setFlag
    (Reg.IMG_TRICK_PENDING c) false
  if c = s.fld Reg.SAF_STAT_TASK then s.safApply else s

/-- Every Trick whose apply instant has come by `t`. -/
def State.applyDue (s : State) (t : Nat) : State :=
  (List.range 9).foldl (fun s c => match (s.task c).applyAt with | some a => if a ≤ t then s.applyTrick c a else s | none => s) s

/-- TRICK_APPLY. -/
def trickApply (c : Nat) (s : State) : State :=
  match (s.task c).applyAt with
  | some a => (s.toTime a).applyTrick c a
  | none => s

def execTrickApply (c : Fin 9) (s : State) : Result := .next (trickApply c s)

/-! ### The latch (R18, R164, R216, R217) -/

/-- Put a routed value into an input image. -/
def putEl (img : List Host.Cell) (off ty : Nat) (e : El) : List Host.Cell := imgWrite img off (elBytes ty e)

/-- The I operands of a task that no route feeds hold 0, BAD, UNCONNECTED (R213). -/
def State.unrouted (s : State) (c : Nat) (img : List Host.Cell) : List Host.Cell :=
  match s.img with
  | none => img
  | some i =>
    let routed := (s.routesInto 3).filterMap (fun p => if bits p.2.dst 16 8 = c then some (bits p.2.dst 0 16) else none)
    ((dedup (i.allIns c)).filter (fun o => decide (o.space = 0) && !(routed.contains o.off))).foldl (fun m o => putEl m o.off o.ty ⟨0, qBad 2⟩) img

/-- Latch the routed elements of task `c` at `t`. -/
def State.latchRoutes (s : State) (c t period : Nat) : List (Nat × Route) → List Host.Cell → List Host.Cell × State
  | [], img => (img, s)
  | p :: ps, img =>
    let e := s.takeRoute t period p
    State.latchRoutes e.2 c t period ps (putEl img (bits p.2.dst 0 16) p.2.dty e.1)

/-- The slot fields that a task's code reads, as they stand at `t`. -/
def State.latchSlots (s : State) (c t : Nat) : List Host.Cell :=
  match s.img with
  | none => []
  | some i =>
    ((dedup (i.allIns c)).filter (fun o => decide (o.space = 5))).foldl
      (fun m o => imgWrite m o.off (slice (s.slotAt t (o.off / 256)) (o.off % 256) (tySize o.ty))) []

/-- Latch the input set of task `c` at `t` (s_m for F). -/
def State.latchTask (s : State) (c t period : Nat) : State :=
  let rs := (s.routesInto 3).filter (fun p => decide (bits p.2.dst 16 8 = c))
  let q := s.latchRoutes c t period rs []
  let s := q.2
  let l := s.latchSlots c t
  s.setTask c { s.task c with input := s.unrouted c q.1, lLatch := l }

/-- The input image, SYS values and times of a release are set, and the latch runs (R217). -/
def State.beginLatch (s : State) (c t sysP deadline : Nat) : State :=
  let k := s.task c
  let s := s.setTask c { k with latching := true, executing := false, shadow := false, tRel := t, sysP := sysP, sysFirst := k.fresh,
                                sysTrick := (s.fld (Reg.IMG_TRICK_COMMITTED c) + 1) % 2 ^ 24, sysTrace := s.flag Reg.PTP_STAT_TRACE,
                                deadline := deadline, partnerDone := false, begun := false }
  (s.setFlag (Reg.IMG_TASK_RUNNING c) true).setFlag (idleBit (s.taskPair c)) false

/-- The values that sinks sent at this task's commit take at t_rel from other sources (R374, R409). -/
def State.latchOthers (s : State) (c t period : Nat) : State :=
  let s := (s.stnRecs.filter (fun r => decide (r.task = c))).foldl (fun s r => s.stnOutputs t period r) s
  (s.canTimed c).foldl (fun s o => s.canRelease t period o) s

/-- A repair of the loop engine that the partner has asked for goes out at a T0 release (R464). -/
def State.repairLoops (s : State) : State :=
  if s.rdl.asked.contains loopKey then
    let m := s.bytes 0x41000000 0x40000
    let s := { s with rdl := { s.rdl with asked := s.rdl.asked.filter (fun d => decide (d ≠ loopKey)) } }
    s.tell (.repair ⟨loopKey, [], [], ⟨[], none, [], s.t0Trick s.now, none, 0⟩, imgOf 0 m⟩)
  else s

/-- A planned swap or the carry of a swap-load keeps the release of `t` from this unit (R475, R180). -/
def State.heldBySwap (s : State) (t : Nat) : Bool :=
  (s.rdl.swapFrom && s.rdl.swapAt.any (fun ts => decide (ts ≤ t))) || s.rdl.carryEnd.any (fun e => decide (t < e))

/-- TASK_RELEASE (R18, R189). -/
def taskRelease (c : Nat) (s : State) : State :=
  match (s.task c).nextRel, s.taskRec c with
  | some t, some r =>
    if s.cpm.phase ≠ .run ∨ ¬ s.inControl ∨ (s.task c).latching ∨ (s.task c).executing ∨ s.heldBySwap t then s
    else
      let p := 1000 * r.period
      let s := (((s.toTime t).applyDue t).stnsAt t)
      let s := s.beginLatch c t r.period (t + p - 1000 * r.lout)
      let s := if c = s.fld Reg.SAF_STAT_TASK then s.safLatch t p else s
      let s := (s.latchTask c t p).latchOthers c t p
      let s := if c = 0 then s.repairLoops else s
      (s.setTask c { s.task c with nextRel := some (t + p) }).setFlag Reg.IMG_STAT_RELEASING true
  | _, _ => s

def execTaskRelease (c : Fin 8) (s : State) : Result := .next (taskRelease c s)

/-! ### Start of execution (R20, R188, R189) -/

/-- Mark the tasks of a pair that a task of higher priority interrupts, and those that run again. -/
def State.showPreempt (s : State) (pair : Nat) : State :=
  (List.range 9).foldl (fun s d =>
    if s.taskPair d = pair ∧ (s.task d).executing ∧ (s.task d).begun then s.setFlag (Reg.IMG_TASK_PREEMPTED d) (!s.running d) else s) s

/-- Task `c` begins to execute its release. -/
def State.beginRun (s : State) (c : Nat) : State :=
  let entry := match s.taskRec c with | some r => r.entry / 4 | none => 0
  let k := s.task c
  let s := s.setTask c { k with latching := false, executing := true, pc := entry, latchedAt := s.mono, work := k.committed, gPend := [], lPend := [],
                                lines := [], sets := [], begun := false }
  s.showPreempt (s.taskPair c)

/-- The sets and parameter-port batches attached to a release, for INPUT (R461, R276). -/
def State.attached (s : State) (c t : Nat) : List (Nat × List (Nat × Nat)) × List (Nat × List (Nat × Nat)) :=
  ((s.setsDue c t).map (fun x => (x.setId, x.recs)),
   if c = 0 then (s.loops.batches.filter (fun b => decide (b.origin = 1) && decide (b.due = t))).map
     (fun b => (b.slot, b.writes.map (fun w => (w.1, leNat w.2)))) else [])

/-- Local outputs fed by neither a task nor a slot, for the T0 release at `t` (R164). -/
def State.directEntries (s : State) (t period : Nat) : List OutEntry × State :=
  s.takeEntries t period (t + period)
    ((s.routesInto 1).filter (fun p => decide (p.2.src / 2 ^ 24 ≠ 4) && decide (p.2.src / 2 ^ 24 ≠ 2)))

/-- LATCH_COMPLETE. -/
def latchComplete (c : Nat) (s : State) : State :=
  let k := s.task c
  if ¬ k.latching then s
  else
    let att := s.attached c k.tRel
    let s := s.beginRun c
    let s := if s.mirrors c ∧ c < 8 then
        s.tell (.input ⟨c, k.sysTrick, k.tRel, k.sysP, k.sysFirst, k.sysTrace, k.input, k.lLatch, att.1, att.2⟩) else s
    let s := s.takeSets c k.tRel k.sysTrick
    let s := s.setTask c { s.task c with sets := att.1.map (·.1) }
    if c = 0 then
      let q := s.directEntries k.tRel (s.taskPeriod 0)
      q.2.sendOut q.1
    else s

def execLatchComplete (c : Fin 9) (s : State) : Result := .next (latchComplete c s)

/-! ### Commit (R189, R202) -/

/-- The apply instant of a release's Trick: t_rel + P, or for F the first T0 release at least L_out after the commit. -/
def State.applyInstant (s : State) (c : Nat) : Nat :=
  match s.taskRec c with
  | some r => if c = 8 then s.t0After (s.now + 1000 * r.lout) else (s.task c).tRel + 1000 * r.period
  | none => s.now

/-- Execution time and slack of a commit, in µs. -/
def State.commitStats (s : State) (c : Nat) : State :=
  let k := s.task c
  let exec := (if c = 8 then s.now - k.tRel else s.mono - k.latchedAt) / 1000
  let s := s.setFld (Reg.IMG_EXEC_LAST c) (min 0xFFFFFFFF exec)
  let s := if s.fld (Reg.IMG_EXMAX_MAX c) < exec then s.setFld (Reg.IMG_EXMAX_MAX c) (min 0xFFFFFFFF exec) else s
  let slack := (k.deadline - s.now) / 1000
  let s := if slack < s.fld (Reg.IMG_SLACK_MIN c) then s.setFld (Reg.IMG_SLACK_MIN c) slack else s
  let span := match s.taskRec c with | some r => if c = 8 then 1000000 * r.fwdog else 1000 * (r.period - r.lout) | none => 0
  let pct := s.fld Reg.IMG_SLACKWARN_PCT
  if pct ≠ 0 ∧ 100 * (k.deadline - s.now) < pct * span then s.raise 97 c slack else s

/-- The task's Trick is committed (R21, R215): number, images, G, and the apply instant. -/
def State.commitTrick (s : State) (c apply : Nat) : State :=
  let k := s.task c
  let s := { s with g := ovApply s.g k.gPend }
  let s := s.setTask c { k with executing := false, committed := k.work, applyAt := some apply, fresh := false, begun := false }
  let s := (s.setFld (Reg.IMG_TRICK_COMMITTED c) k.sysTrick).setFlag (Reg.IMG_TRICK_PENDING c) true
  ((s.setFlag (Reg.IMG_TASK_RUNNING c) false).setFlag (Reg.IMG_TASK_PREEMPTED c) false).showPreempt (s.taskPair c)

/-- The L writes of a release as batches, one for each slot (R242). -/
def State.commitLoops (s : State) (c apply : Nat) : State :=
  let l := (s.task c).lPend
  (dedup (l.map (fun w => w.1 / 256))).foldl (fun s n =>
    s.addBatch ⟨n, 2, c, apply, (l.filter (fun w => decide (w.1 / 256 = n))).map (fun w => (w.1 % 256, w.2))⟩) s

/-- Views that pin the task count its commit; the second expires them (R198). -/
def State.viewCommit (s : State) (c v : Nat) : State :=
  let w := s.views.getD v ⟨[], []⟩
  if s.fld (Reg.IMG_VIEW_STAT_STATE v) = 1 ∧ (w.pins.map (·.1)).contains c then
    if w.commits.any (fun p => decide (p.1 = c ∧ 1 ≤ p.2)) then
      ((s.setFld (Reg.IMG_VIEW_STAT_STATE v) 2).setFld (Reg.IMG_VIEW_STAT_EXPTASK v) c).raise 98 (v + 256 * c) 0
    else { s with views := s.views.set v { w with commits := (c, 1) :: w.commits } }
  else s

def State.viewCommits (s : State) (c : Nat) : State := (List.range 8).foldl (fun s v => s.viewCommit c v) s

/-- Local outputs that a task's output image feeds. -/
def State.taskEntries (s : State) (c apply period : Nat) : List OutEntry × State :=
  ((s.routesInto 1).filter (fun p => decide (p.2.src / 2 ^ 24 = 4) && decide (bits p.2.src 16 8 = c))).foldl
    (fun (a : List OutEntry × State) p =>
      let x := a.2.convey p.1 p.2 (a.2.srcAtCommit c apply period p.2.src p.2.sty)
      (a.1 ++ [x.2.outEntry p.2.dst x.1 apply], x.2)) ([], s)

/-- A 64-byte line by its tag: from V, or from committed G. -/
def State.line (s : State) (c tag : Nat) : List Byte :=
  if tag / 2 ^ 28 = 2 then imgBytes (s.task c).v (tag % 2 ^ 28) 64 else imgBytes s.g (tag % 2 ^ 28) 64

/-- The Trick buffers of a task. -/
def State.trickBufs (s : State) (c : Nat) : TrickBufs :=
  let k := s.task c
  ⟨k.applied, k.appliedTrick, k.committed, s.fld (Reg.IMG_TRICK_COMMITTED c), k.applyAt, k.prevStart⟩

/-- The bytes of a task's G ranges. -/
def State.gOfTask (s : State) (c : Nat) : List (Nat × Byte) :=
  match s.img with
  | some i => (i.gRanges.filter (fun r => decide (r.2.2 = c))).flatMap (fun r => (List.range r.2.1).map (fun k => (r.1 + k, imgByte s.g (r.1 + k))))
  | none => []

/-- A task's complete state (R464). -/
def State.repairOf (s : State) (c : Nat) : RepairMsg := ⟨c, (s.task c).v, s.gOfTask c, s.trickBufs c, []⟩

/-- The records of sets of a task, by identifier, as the journal holds them: the newest of each. -/
def State.setsOf (s : State) (c : Nat) (ids : List Nat) : List (Nat × List (Nat × Nat)) :=
  ids.filterMap (fun n => (s.journal.sets.reverse.find? (fun x => decide (x.1 = c ∧ x.2.1 = n))).map (fun x => (n, x.2.2)))

/-- What a commit tells the partner: the digest of a periodic release, or a repair that was asked for; F's written lines (R460, R462, R464). -/
def State.commitMirror (s : State) (c : Nat) : State :=
  let k := s.task c
  let s := if s.rdl.cutLeft.contains c then { s with rdl := { s.rdl with dirty := s.rdl.dirty ++ (k.lines.map (fun t => (c, t))) } } else s
  if c = 8 then
    if s.mirrors 8 then s.tell (.fstate k.sysTrick (s.setsOf 8 k.sets) (k.lines.map (fun t => .lines (t / 2 ^ 28) 8 (t % 2 ^ 28) (s.line 8 t)) ++ [.bufs 8 (s.trickBufs 8)])) else s
  else if (s.mirrors c ∨ s.rdl.carryEnd.isSome) ∧ s.rdl.asked.contains c then
    ({ s with rdl := { s.rdl with asked := s.rdl.asked.filter (fun d => decide (d ≠ c)) } }).tell (.repair (s.repairOf c))
  else
    let size := match s.taskRec c with | some r => r.outSize | none => 0
    s.digest c k.sysTrick (imgBytes k.committed 0 size ++ k.lines.flatMap (fun t => leBytes 4 t ++ s.line c t))

/-- END and commit: the release of task `c` is whole. -/
def State.commit (s : State) (c : Nat) : State :=
  let apply := s.applyInstant c
  let period := if c = 8 then s.taskPeriod 0 else s.taskPeriod c
  let t := (s.task c).tRel
  let s := (s.applyDue s.now).commitStats c
  let s := ((s.commitLoops c apply).commitTrick c apply).viewCommits c
  let q := if c = s.fld Reg.SAF_STAT_TASK then s.safCommit c t apply period else ([], s)
  let e := q.2.taskEntries c apply period
  let s := (e.2.sendOut (q.1 ++ e.1)).stnOuts c apply period
  let s := (s.canForms c apply period).commitMirror c
  if c = 8 then s.setTask 8 { s.task 8 with nextRel := some apply } else s

/-! ### Overrun (R200, R201) -/

/-- Record an overrun: IMG_OVR and EV_TASK_OVERRUN. -/
def State.overrunNote (s : State) (c cause : Nat) (common : Bool) : State :=
  let s := ((s.setFld Reg.IMG_OVR_TASK c).setFld Reg.IMG_OVR_CAUSE cause).setFlag Reg.IMG_OVR_COMMON common
  let s := s.setFld Reg.IMG_OVR_TRICK (s.task c).sysTrick
  s.raise 96 (s.reg Reg.IMG_OVR).toNat 0

/-- The partner runs in the pair. -/
def State.partnerRuns (s : State) : Bool := s.partnerStandby || decide (s.fld Reg.RDL_STAT_PROLE = 4)

/-- The reaction to an overrun of a periodic task. -/
def State.overrun (s : State) (c : Nat) : State :=
  if s.isShadow then (s.overrunNote c 1 false).setTask c { s.task c with deadline := 0 }
  else if s.fld Reg.RDL_STAT_ROLE = 2 ∧ s.partnerStandby then
    if (s.task c).partnerDone then (s.overrunNote c 1 false).giveUp 3 1 96 true
    else
      let s := s.overrunNote c 1 true
      (s.tell (.stop (s.reg Reg.IMG_OVR))).stationStop 1 96
  else (s.overrunNote c 1 false).stationStop 1 96

/-- F's watchdog: both units of a pair stop. -/
def State.fOverrun (s : State) : State :=
  let pair := decide (s.fld Reg.RDL_STAT_ROLE = 2) && s.partnerRuns
  let s := s.overrunNote 8 2 pair
  (if pair then s.tell (.stop (s.reg Reg.IMG_OVR)) else s).stationStop 1 96

/-- A release is under way and monitored. -/
def Task.open_ (t : Task) : Bool := (t.latching || t.executing) && decide (t.deadline ≠ 0)

/-- TASK_OVERRUN: at t_dl. -/
def taskOverrun (c : Nat) (s : State) : State :=
  if (s.task c).open_ then (s.toTime (s.task c).deadline).overrun c else s

def execTaskOverrun (c : Fin 8) (s : State) : Result := .next (taskOverrun c s)

/-- F_WATCHDOG_EXPIRY. -/
def fWatchdog (s : State) : State :=
  if (s.task 8).open_ then (s.toTime (s.task 8).deadline).fOverrun else s

def execFWatchdogExpiry (s : State) : Result := .next (fWatchdog s)

/-- END (R189, R222): the commit, or the overrun that came before it. -/
def endWord (c : Nat) (s : State) : State :=
  match s.nextCall c 0x01 with
  | none => s
  | some _ =>
    let k := s.task c
    if k.deadline ≠ 0 ∧ k.deadline ≤ s.now ∧ ¬ k.shadow then (if c = 8 then s.fOverrun else s.overrun c)
    else s.commit c

def execEndWord (c : Fin 9) (s : State) : Result := .next (endWord c s)

/-! ### The free-running class (R195) -/

/-- F_CYCLE_START: at s_m. -/
def fCycleStart (s : State) : State :=
  match (s.task 8).nextRel, s.taskRec 8 with
  | some t, some r =>
    if s.cpm.phase ≠ .run ∨ ¬ s.inControl ∨ (s.task 8).latching ∨ (s.task 8).executing ∨ s.heldBySwap t then s
    else
      let s := ((s.toTime t).applyDue t).stnsAt t
      let k := s.task 8
      let p := if k.fresh then 0 else (k.appliedAt - k.prevStart) / 1000
      let s := s.beginLatch 8 t p (t + 1000000 * r.fwdog)
      let s := s.latchTask 8 t (s.taskPeriod 0)
      s.setTask 8 { s.task 8 with nextRel := none, prevStart := t }
  | _, _ => s

def execFCycleStart (s : State) : Result := .next (fCycleStart s)

/-! ### The standby's shadow (R461) -/

/-- INPUT: shadow the release, or ask for a repair where one was missed. -/
def inputTrick (m : InputMsg) (s : State) : State :=
  let c := m.task
  if s.isShadow ∧ s.rdl.repair.contains c then s.setTask c { s.task c with nextRel := some (m.tRel + s.taskPeriod c) }
  else if ¬ s.shadows c ∨ 8 ≤ c then s
  else
    let k := s.task c
    let next := (s.fld (Reg.IMG_TRICK_COMMITTED c) + 1) % 2 ^ 24
    let s := s.setTask c { k with nextRel := some (m.tRel + s.taskPeriod c) }
    if m.trick ≠ next ∨ k.executing then
      if m.trick = s.fld (Reg.IMG_TRICK_COMMITTED c) then s
      else ({ s with rdl := { s.rdl with quiet := c :: s.rdl.quiet } }).askRepair c
    else
      let s := ((s.setTask c { s.task c with nextRel := some m.tRel }).applyDue m.tRel).stnsAt m.tRel
      let p := s.taskPeriod c
      let lout := match s.taskRec c with | some r => 1000 * r.lout | none => 0
      let s := s.beginLatch c m.tRel m.sysP (m.tRel + p - lout)
      let s := if c = s.fld Reg.SAF_STAT_TASK then s.safLatch m.tRel p else s
      let s := (s.setTask c { s.task c with shadow := true, input := m.image, lLatch := m.latch, sysFirst := m.first, sysTrace := m.trace,
                                            nextRel := some (m.tRel + p) }).latchOthers c m.tRel p
      let s := s.beginRun c
      let s := m.sets.foldl (fun s x => (s.journalAppend c x.1 x.2).applySet c m.tRel m.trick x.1 x.2) s
      let s := m.batches.foldl (fun s x => s.addBatch ⟨x.1, 1, 0, m.tRel, x.2.map (fun w => (w.1, leBytes 4 w.2))⟩) s
      if c = 0 then
        let q := s.directEntries m.tRel p
        q.2.sendOut q.1
      else s

def execInputTrick (m : InputMsg) (s : State) : Result := .next (inputTrick m s)

/-! ### Retentive snapshots (R105) -/

/-- RETAIN_SNAPSHOT: at the first apply instant of T0 that lies IMG_RETAIN_MS after the last snapshot. -/
def retainSnapshot (s : State) : State :=
  if (s.task 0).nextRel.isNone then s
  else
    let a := bankAddr (s.cpm.bankSeq % 2)
    let last := if s.cpm.bankSeq = 0 then 0 else 1000000000 * s.rdLE (a + 4) 8 + s.rdLE (a + 12) 4
    let t := s.t0After (max s.now (last + 1000000 * s.fld Reg.IMG_RETAIN_MS_MS))
    (s.toTime t).snapshotG t

def execRetainSnapshot (s : State) : Result := .next (retainSnapshot s)

/-! ### Views (R197, R198, R208) -/

/-- Show the pinned Trick number of the task that IMG_VIEW_ADDR names. -/
def State.viewShow (s : State) (v : Nat) : State :=
  let c := s.fld (Reg.IMG_VIEW_ADDR_TASK v)
  match (s.views.getD v ⟨[], []⟩).pins.find? (fun p => decide (p.1 = c)) with
  | some p => s.setFld (Reg.IMG_VIEW_STAT_TRICK v) p.2.1
  | none => s.setFld (Reg.IMG_VIEW_STAT_TRICK v) 0

/-- Open view `v` on the tasks of a mask: an apply that falls at this instant comes first. -/
def State.viewOpen (s : State) (v mask : Nat) : State :=
  let s := s.applyDue s.now
  let pins := ((List.range 9).filter (fun c => bit mask c && s.flag (Reg.IMG_TASK_EN c))).map (fun c =>
    (c, (s.task c).appliedTrick.getD 0, (s.task c).applied))
  let s := { s with views := s.views.set v ⟨pins, []⟩ }
  ((s.setFld (Reg.IMG_VIEW_STAT_STATE v) 1).setFld (Reg.IMG_VIEW_STAT_EXPTASK v) 0).viewShow v

def State.viewClose (s : State) (v : Nat) : State :=
  let s := { s with views := s.views.set v ⟨[], []⟩ }
  ((s.setFld (Reg.IMG_VIEW_STAT_STATE v) 0).setFld (Reg.IMG_VIEW_STAT_EXPTASK v) 0).viewShow v

/-- A write of IMG_VIEW_CTRL[v]. -/
def viewCtrl (m : Master) (v : Nat) (w : Word) (s : State) : State :=
  if ¬ s.mayWriteRegs m then s.denyWrite m (Reg.IMG_VIEW_CTRL v)
  else if wordField w 0 9 = 0 then s.viewClose v else s.viewOpen v (wordField w 0 9)

def execViewOpen (m : Master) (v : Fin 8) (w : Word) (s : State) : Result := .next (viewCtrl m v w s)
def execViewClose (m : Master) (v : Fin 8) (w : Word) (s : State) : Result := .next (viewCtrl m v w s)

/-- Four bytes at OFFSET of the pinned Trick; 0 beyond OUT_SIZE. -/
def State.viewData (s : State) (v : Nat) : Nat :=
  let size := match s.taskRec (s.fld (Reg.IMG_VIEW_ADDR_TASK v)) with | some r => r.outSize | none => 0
  if s.fld (Reg.IMG_VIEW_ADDR_OFFSET v) < size then s.viewWord v else 0

/-- VIEW_DATA_READ: OFFSET advances by 4, but for the host data port. -/
def viewDataRead (m : Master) (v : Nat) (s : State) : State :=
  let s' := s.ret m.num (s.viewData v)
  if m.isPair then s'.setFld (Reg.IMG_VIEW_ADDR_OFFSET v) (s.fld (Reg.IMG_VIEW_ADDR_OFFSET v) + 4) else s'

def execViewDataRead (m : Master) (v : Fin 8) (s : State) : Result := .next (viewDataRead m v s)

/-! ### AN_DISC and SPD_DISC (R354, R362) -/

/-- A disagreement that has lasted DISC_MS latches at the latch that ends it. -/
def discLatch (ty code off n : Nat) (s : State) : State :=
  match s.hostFn n with
  | some x =>
    match x.discAt with
    | some u =>
      if x.ty ≠ ty ∨ x.latch then s
      else
        let s := s.toTime (u + 1000000 * u16 (s.fnParam n) off)
        s.hostLatch x code 0
    | none => s
  | none => s

def execAnDisc (n : Fin 128) (s : State) : Result := .next (discLatch 2 15 4 n s)
def execSpdDisc (n : Fin 128) (s : State) : Result := .next (discLatch 4 11 2 n s)

end Sys2Proof.Machine
end

