-- ==== Sys2Proof/Machine/Join.lean ====
section
/-! DEFINITION. Joins and repairs (18, R458 to R460, R464): the state set, its copy and cut-over, the stream of F, repairs, and the copy of
the partner's image. -/

namespace Sys2Proof.Machine

/-! ### The state set (R458) -/

/-- The enabled tasks. -/
def State.enabledTasks (s : State) : List Nat := (List.range 9).filter (fun c => s.flag (Reg.IMG_TASK_EN c))

/-- V and G of a task. -/
def State.taskItems (s : State) (i : Image) (c : Nat) : List StateItem :=
  .lines 2 c 0 (imgBytes (s.task c).v 0 (i.vSize c)) ::
    (i.gRanges.filter (fun r => decide (r.2.2 = c))).map (fun r => .lines 4 c r.1 (imgBytes s.g r.1 r.2.1)) ++ [.bufs c (s.trickBufs c)]

/-- The slot memory. -/
def State.slotItems (s : State) : List StateItem := s.loopRecs.map (fun r => .slot r.1 (s.bytes (slotAddr r.1) 256))

/-- Stations and CAN objects that task `c` times; the connections go with the safety task. -/
def State.remoteItems (s : State) (c : Nat) : List StateItem :=
  let stns := (s.stnRecs.filter (fun r => decide (r.task = c))).filterMap (fun r => (s.station r.num).map StateItem.station)
  let escs := if c = s.fld Reg.SAF_STAT_TASK then s.escs.map StateItem.esc else []
  let ports := dedup ((s.canTimed c).map (fun o => o.port))
  stns ++ escs ++ ports.map (fun n => .can n (s.canPort n).pend)

/-- The whole set. -/
def State.stateItems (s : State) : List StateItem :=
  match s.img with
  | none => []
  | some i =>
    s.enabledTasks.flatMap (fun c => s.taskItems i c ++ s.remoteItems c) ++ s.slotItems ++
      [.journal (s.bytes journalAt (s.fld Reg.WVE_CHGSTAT_JBYTES))]

/-- A sparse list brought into its canonical form. -/
def imgClean (l : List Host.Cell) : List Host.Cell := l.foldl (fun (m : List Host.Cell) (c : Host.Cell) => imgWrite m c.1 [c.2]) []

/-- Trick buffers take the place of a task's own. -/
def State.putBufs (s : State) (c : Nat) (b : TrickBufs) : State :=
  let s := s.setTask c { s.task c with applied := imgClean b.applied, appliedTrick := b.appliedTrick, committed := imgClean b.committed,
                                       applyAt := b.applyAt, prevStart := b.began, fresh := false }
  (s.setFld (Reg.IMG_TRICK_COMMITTED c) b.trick).setFlag (Reg.IMG_TRICK_PENDING c) b.applyAt.isSome

/-- CONST as the journal's sets of this image leave it (R175, R177). -/
def State.journalConst (s : State) : State :=
  match s.img with
  | none => s
  | some i =>
    let es := s.journal.sets.flatMap (fun x => x.2.2.filterMap (fun r => ((i.changeables)[r.1]?).map (fun e => (e, r.2))))
    let k := (es.filter (fun p => decide (p.1.space = 1))).foldl (fun (i : Image) p => i.kWrite p.1.off (p.1.bytes p.2)) { i with kEdits := [] }
    { s with img := some k }

/-- Store one item. -/
def State.storeItem (s : State) : StateItem → State
  | .lines sp c off bs =>
    if sp = 2 then s.setTask c { s.task c with v := imgWrite (s.task c).v off bs } else { s with g := imgWrite s.g off bs }
  | .bufs c b => s.putBufs c b
  | .slot n bs => s.wrBytes (slotAddr n) (bs.take 256)
  | .station x => s.setStation x
  | .esc x => s.setEsc x
  | .can n pend => s.setCan n { s.canPort n with pend := pend }
  | .journal bs => ((s.journalEmpty.wrBytes journalAt (bs.take journalSize)).setFld Reg.WVE_CHGSTAT_JBYTES (min journalSize bs.length)).journalConst

def State.storeItems (s : State) (l : List StateItem) : State := l.foldl (fun s x => s.storeItem x) s

/-! ### JOIN_REQ at the active -/

/-- The store in blocks of 1,024 bytes, as IMAGE messages. -/
def State.sendImage (s : State) : State :=
  let b := s.storeImage
  (List.range (ceilDiv b.length 1024)).foldl (fun s k => s.tell (.image (1024 * k) (slice b (1024 * k) (min 1024 (b.length - 1024 * k))))) s

/-- JOIN_REQ: the ACTIVE unit answers, then copies its state set, or its image where the partner holds another. -/
def joinReq (build : Nat) (conf : Bool) (s : State) : State :=
  if s.fld Reg.RDL_STAT_ROLE ≠ 2 ∨ ¬ s.flag Reg.RDL_LINK_UP then s
  else
    let s := (s.dropMirror.setFld Reg.RDL_STAT_PROLE 0).setFlag Reg.RDL_STAT_PCONF conf
    let s := (s.joinPhase 1).tell (.joinAck s.build s.safeChk s.ownConf s.now)
    if build ≠ s.build then s.sendImage
    else
      let s := ((s.joinPhase 2).tell (.state s.stateItems)).setFld Reg.RDL_JOIN_PASS 1
      let s := { s with rdl := { s.rdl with cutLeft := s.enabledTasks ++ [loopKey], dirty := [] } }
      (s.setFld Reg.RDL_JOIN_PCT 100).joinPhase 3

def execJoinReq (build _safeChk : Nat) (confirmed : Bool) (s : State) : Result := .next (joinReq build confirmed s)

/-! ### Cut-over at the active -/

/-- The residual lines of a task (each once, as it stands now) with its buffers and the remote state it times; the slots for the loop engine. -/
def State.cutItems (s : State) (c : Nat) : List StateItem :=
  if c = loopKey then s.slotItems
  else
    let tags := dedup ((s.rdl.dirty.filter (fun d => decide (d.1 = c))).map (·.2))
    tags.map (fun t => .lines (t / 2 ^ 28) c (t % 2 ^ 28) (s.line c t)) ++ [.bufs c (s.trickBufs c)] ++ s.remoteItems c

/-- CUT of task `c` is sent; the last ends the join. -/
def State.sendCut (s : State) (c : Nat) : State :=
  let trick := if c = loopKey then s.t0Trick s.now else s.fld (Reg.IMG_TRICK_COMMITTED c)
  let s := s.tell (.cut c trick (s.cutItems c))
  let left := s.rdl.cutLeft.filter (fun d => decide (d ≠ c))
  let s := { s with rdl := { s.rdl with cutLeft := left, mirror := c :: s.rdl.mirror.filter (fun d => decide (d ≠ c)),
                                        dirty := s.rdl.dirty.filter (fun d => decide (d.1 ≠ c)) } }
  if left = [] then s.joinPhase 4 else s

/-- JOIN_CUT_OVER: a task that is not executing, or at a T0 release the loop engine. -/
def joinCutOver (c : Nat) (s : State) : State :=
  if s.fld Reg.RDL_STAT_ROLE ≠ 2 ∨ s.fld Reg.RDL_JOIN_PHASE ≠ 3 ∨ ¬ s.rdl.cutLeft.contains c then s
  else if c = loopKey then
    if s.loops.win.isSome then s else (s.toTime (s.t0After (match s.loops.last with | some l => max s.now (l + 1) | none => s.now))).sendCut c
  else if (s.task c).latching ∨ (s.task c).executing then s
  else s.sendCut c

def execJoinCutOver (c : Fin 11) (s : State) : Result := .next (joinCutOver c s)

/-! ### The joining unit -/

/-- JOIN_ACK: the counter steps to the partner's (R455); with the same image the copy follows, with another the image comes first. -/
def joinAck (build : Nat) (conf : Bool) (time : Nat) (s : State) : State :=
  if ¬ s.joining ∨ s.fld Reg.RDL_JOIN_PHASE ≠ 1 then s
  else
    let s := { s.setFlag Reg.RDL_STAT_PCONF conf with now := time, frac := 0 }
    if build = s.build then
      ({ s with rdl := { s.rdl with cutLeft := s.enabledTasks ++ [loopKey] } }).joinPhase 2
    else s

def execJoinAck (build _safeChk : Nat) (confirmed : Bool) (time : Nat) (s : State) : Result := .next (joinAck build confirmed time s)

/-- STATE: the copy is stored. -/
def stateMsg (items : List StateItem) (s : State) : State :=
  if s.joining ∧ s.fld Reg.RDL_JOIN_PHASE = 2 then
    (((s.storeItems items).setFld Reg.RDL_JOIN_PASS 1).setFld Reg.RDL_JOIN_PCT 100).joinPhase 3
  else s

def execStateLines (items : List StateItem) (s : State) : Result := .next (stateMsg items s)

/-- The shadow of a task begins with its next release; the loop engine's with the window of this instant. -/
def State.beginShadow (s : State) (c trick : Nat) : State :=
  if c = loopKey then
    ({ s with loops := { s.loops with start := s.now, last := none, win := none, dig := [] } }).setFlag Reg.LPE_STAT_RUN true
  else if c = 8 then s.setFld (Reg.IMG_TRICK_COMMITTED 8) trick
  else
    let next := match s.taskRec c with | some r => some (gridNext (1000 * r.period) (1000 * r.phase) (s.now + 1)) | none => none
    (s.setTask c { s.task c with nextRel := next }).setFld (Reg.IMG_TRICK_COMMITTED c) trick

/-- The join is complete: STANDBY. -/
def State.joined (s : State) : State :=
  let s := ((s.joinPhase 4).setFld Reg.RDL_STAT_OFFCAUSE 0).setRole 3
  { s with rdl := { s.rdl with swapOp := s.fld Reg.CPM_OPSEC_OPSEC } }

/-- CUT: the task's residual lines are stored, and it is shadowed from then on. -/
def cutMsg (c trick : Nat) (items : List StateItem) (s : State) : State :=
  if ¬ s.joining ∨ s.fld Reg.RDL_JOIN_PHASE ≠ 3 ∨ ¬ s.rdl.cutLeft.contains c then s
  else
    let s := (s.storeItems items).beginShadow c trick
    let left := s.rdl.cutLeft.filter (fun d => decide (d ≠ c))
    let s := { s with rdl := { s.rdl with cutLeft := left, mirror := c :: s.rdl.mirror.filter (fun d => decide (d ≠ c)) } }
    if left = [] then s.joined else s

def execCutOver (task trick : Nat) (items : List StateItem) (s : State) : Result := .next (cutMsg task trick items s)

/-- IMAGE: a block of the partner's image goes into the store; the whole image is checked (`storeEcc`: an uncorrectable error met in the
store), and the unit restarts with it (R182, R459). -/
def imageMsg (off : Nat) (bs : List Byte) (e : Option (Nat × BitVec 8)) (s : State) : State :=
  if ¬ s.joining ∨ s.fld Reg.RDL_JOIN_PHASE ≠ 1 ∨ bs.length > 1024 ∨ off % 1024 ≠ 0 then s
  else
    let s := if off = 0 then s.loadBegin 0 (u32 bs 8) else s
    match s.load with
    | none => s
    | some l =>
      let s := s.loadBlock l off bs
      match s.load with
      | none => s
      | some l =>
        if 1024 * l.blocks.length < l.total then s
        else
          let b := s.loadBytes l
          let s := ({ s with load := none }).startEcc e
          match s.allChecks b l.total l.blocks e.isSome with
          | some f => (s.loadReject f).joinFails
          | none => (s.loadAccept l (imageOf b)).restart .auto

def execImageBytes (offset : Nat) (bytes : List Byte) (storeEcc : Option (Nat × BitVec 8)) (s : State) : Result :=
  .next (imageMsg offset bytes storeEcc s)

/-! ### Class F (R460) -/

/-- FSTATE: the lines of the cycle become F's state; a change set for F travels with them. -/
def fstateMsg (cycle : Nat) (sets : List (Nat × List (Nat × Nat))) (items : List StateItem) (s : State) : State :=
  if s.shadows 8 then
    let s := sets.foldl (fun s x => (s.journalAppend 8 x.1 x.2).applySet 8 s.now cycle x.1 x.2) s
    let s := s.storeItems items
    (s.setTask 8 { s.task 8 with gPend := [], lines := [] }).setFld (Reg.IMG_TRICK_COMMITTED 8) cycle
  else s

def execFstate (cycle : Nat) (sets : List (Nat × List (Nat × Nat))) (items : List StateItem) (s : State) : Result :=
  .next (fstateMsg cycle sets items s)

/-! ### Repairs (R464) -/

/-- REPAIR_REQ: answered at the next commit of the task, or for the loop engine at the next T0 release; after the last release of an old
image (R180) at once. -/
def repairReq (c : Nat) (s : State) : State :=
  if s.rdl.carryEnd.isSome ∧ c < 8 ∧ ¬ (s.task c).executing then s.tell (.repair (s.repairOf c))
  else if (s.fld Reg.RDL_STAT_ROLE = 2 ∨ s.rdl.carryEnd.isSome) ∧ s.rdl.mirror.contains c then
    { s with rdl := { s.rdl with asked := c :: s.rdl.asked.filter (fun d => decide (d ≠ c)) } }
  else s

def execRepairReq (task : Nat) (s : State) : Result := .next (repairReq task s)

/-- The slot memory is replaced. -/
def State.putSlots (s : State) (l : List Host.Cell) : State :=
  let s := { s with mem := s.mem.filter (fun c => !(decide (0x41000000 ≤ c.1) && decide (c.1 < 0x41040000))) }
  l.foldl (fun (s : State) (c : Host.Cell) => if c.1 < 0x40000 then s.wrBytes (0x41000000 + c.1) [c.2] else s) s

/-- The state of a repair takes the place of the task's. -/
def State.putRepair (s : State) (m : RepairMsg) : State :=
  if m.task = loopKey then
    let s := s.putSlots m.slots
    { s with loops := { s.loops with win := none, dig := [] } }
  else
    let s := s.setTask m.task { s.task m.task with v := imgClean m.v, gPend := [], lPend := [], lines := [] }
    ({ s with g := m.g.foldl (fun (g : List Host.Cell) (c : Nat × Byte) => imgWrite g c.1 [c.2]) s.g }).putBufs m.task m.bufs

/-- REPAIR: the task's state is replaced, and its shadow goes on with the next release. -/
def repairMsg (m : RepairMsg) (s : State) : State :=
  if s.asksRepair ∧ s.rdl.repair.contains m.task then
    let s := s.putRepair m
    let left := s.rdl.repair.filter (fun d => decide (d ≠ m.task))
    let s := { s with rdl := { s.rdl with repair := left, quiet := s.rdl.quiet.filter (fun d => decide (d ≠ m.task)) } }
    (s.setFlag Reg.RDL_STAT_REPAIR (!left.isEmpty)).raise 50 m.task 0
  else s

def execRepairMsg (m : RepairMsg) (s : State) : Result := .next (repairMsg m s)

end Sys2Proof.Machine
end

