-- ==== Sys2Proof/Machine/Takeover.lean ====
section
/-! DEFINITION. Giving and taking control (18, R467 to R473, R477): the partner's notice, the takeover at t_d, the terminals at t_own, and
the pulse test of the handover drivers. -/

namespace Sys2Proof.Machine

/-! ### The partner gives up (R469) -/

/-- A unit whose partner has given up and that may not take control: LAGGING or OFF. -/
def State.partnerLeft (s : State) : State :=
  if s.cpm.phase ≠ .run ∨ s.cpm.haltOnStop ∨ s.inControl ∨ s.fld Reg.RDL_STAT_ROLE = 3 then s
  else if s.fld Reg.RDL_STAT_ROLE = 0 ∧ s.fld Reg.RDL_STAT_OFFCAUSE = 4 then s.enterHalt
  else
    let s := (s.setFld Reg.RDL_STAT_OFFCAUSE 6).setRole 0
    s.enterHalt.restart .auto

/-- GIVE_UP arrives: it makes the takeover that follows ALIGNED; `indet` when HO_GIVE_I is indeterminate at its arrival. -/
def giveUpMsg (indet : Bool) (s : State) : State :=
  if ¬ s.flag Reg.RDL_LINK_UP then s
  else
    let s := { s with rdl := { s.rdl with giveNotice := some s.mono }, cpm := { s.cpm with giveIndet := indet } }
    s.partnerLeft

def execGiveUp (_cause : Nat) (_tricks : List Nat) (indet : Bool) (s : State) : Result := .next (giveUpMsg indet s)

/-! ### The takeover (R469 to R471) -/

/-- Releases of task `c` from `t` (its next) to before `td` are lost. -/
def lostCount (period offset t td : Nat) : Nat := (gridNext period offset td - t) / max 1 period

/-- Count and report `n` lost releases of task `c`. -/
def State.lose (s : State) (c : Nat) : Nat → State
  | 0 => s
  | n + 1 => State.lose ((s.setFld Reg.RDL_TAKE_LOST (min 15 (s.fld Reg.RDL_TAKE_LOST + 1))).raise 55 c 0) c n

/-- A periodic task continues on its grid from `td` with this unit's own inputs. -/
def State.takeTask (s : State) (td c : Nat) : State :=
  match s.taskRec c with
  | none => s
  | some r =>
    let p := 1000 * r.period
    let o := 1000 * r.phase
    let lost := match (s.task c).nextRel with | some t => if t < td then lostCount p o t td else 0 | none => 0
    let next := match (s.task c).nextRel with | some t => max t (gridNext p o td) | none => gridNext p o td
    let s := s.setTask c { s.task c with nextRel := some next, shadow := false, fresh := false }
    s.lose c (min 15 lost)

def State.takeTasks (s : State) (td : Nat) : State :=
  ((List.range 8).filter (fun c => s.flag (Reg.IMG_TASK_EN c))).foldl (fun s c => s.takeTask td c) s

/-- F starts at the first T0 release at or after an instant. -/
def State.restartF (s : State) (t : Nat) : State :=
  if s.flag (Reg.IMG_TASK_EN 8) then
    (s.setTask 8 { (s.task 8).abandon with nextRel := some (s.t0After t), fresh := false }).clearTaskBits false [8]
  else s

/-- Repairs that were pending are reported, and the tasks go on from this unit's state (R465). -/
def State.takeRepairs (s : State) : State :=
  let s' := s.rdl.repair.foldl (fun s c => s.raise 57 c 0) s
  ({ s' with rdl := { s'.rdl with repair := [], quiet := [] } }).setFlag Reg.RDL_STAT_REPAIR false

/-- Time masters send their references from an instant on (R379). -/
def State.startRefs (s : State) (t : Nat) : State :=
  (List.range 4).foldl (fun s n => if s.fld (Reg.CAN_STAT_MODE n) = 2 then s.setCan n { s.canPort n with nextRef := some (t + 1) } else s) s

/-- What a unit that comes into control starts: CAN, remote stations, its own traceability (R385, R418, R455). -/
def State.startBuses (s : State) (t : Nat) : State := (((s.canRestrict false (List.range 4)).startRefs t).ecxCfgAll).ownTrace

/-- The window of this instant is the next at or after `td` (R261). -/
def State.takeLoops (s : State) (td : Nat) : State :=
  { s with loops := { s.loops with last := match s.loops.last with | some l => some (max l (td - 1)) | none => some (td - 1) } }

/-- RDL_TAKE and t_own. -/
def State.takeNote (s : State) (td own : Nat) (imm : Bool) : State :=
  let gap := (own - (s.task 0).appliedAt) / 1000
  let s := ((s.setFlag Reg.RDL_TAKE_VALID true).setFlag Reg.RDL_TAKE_PATH imm).setFld Reg.RDL_TAKE_GAP (min 65535 gap)
  let s := (s.setFld Reg.RDL_TAKE_LOST 0).setFld Reg.RDL_TAKE_CHGLOST ((Config.freeWord s.freeCtr).toNat % 16)
  { s.draw with rdl := { s.rdl with take := some ⟨td, own, imm⟩, giveNotice := none, carryEnd := none, swapOp := s.fld Reg.CPM_OPSEC_OPSEC } }

/-- Control is taken at t_d = now. -/
def State.takeover (s : State) : State :=
  let td := s.now
  let imm := s.rdl.giveNotice.isNone
  let own := if imm then td + 130000 else s.t0After (td + 130000)
  let s := (s.swapEnd.abandonSwap.applyDue td).takeNote td own imm
  let s := (((s.setRole 2).takeRepairs).dropMirror.joinPhase 0).takeTasks td
  let s := ((s.restartF td).takeLoops td).raise 48 (b2n imm) (nsOf own)
  (s.startBuses td).postMode 0 own

/-- TAKEOVER_ASSERT_TAKE: at t_own − 15 µs. -/
def takeLine (s : State) : State :=
  match s.rdl.take with
  | some t =>
    if s.fld Reg.RDL_STAT_ROLE = 2 then
      let s := (s.toTime (t.own - 15000)).setLines false true
      { s with rdl := { s.rdl with take := none } }
    else s
  | none => s

def execTakeoverAssertTake (s : State) : Result := .next (takeLine s)

/-- GIVE_UP_NOTICE_TD: 10 µs after a notice that came while HO_GIVE_I was indeterminate. -/
def noticeTd (s : State) : State :=
  match s.rdl.giveNotice with
  | some t =>
    if s.fld Reg.RDL_STAT_ROLE = 3 ∧ s.cpm.giveIndet ∧ s.cpm.phase = .run ∧ ¬ s.cpm.haltOnStop then (s.toMono (t + 10000)).takeover else s
  | none => s

def execGiveUpNoticeTd (s : State) : Result := .next (noticeTd s)

/-! ### The pulse test (R477) -/

/-- A failed check of one driver. -/
def State.pulseFail (s : State) (line : Nat) : State := (s.setFlag Reg.RDL_STAT_HOFAIL true).raise 56 line 0

/-- HO_PULSE_TEST: every 10 s in ACTIVE; `giveOk` and `takeOk` are what the readback shows. -/
def pulseTest (giveOk takeOk : Bool) (s : State) : State :=
  if s.fld Reg.RDL_STAT_ROLE = 2 then
    let s := s.toMono (s.rdl.pulseAt + 10000000000)
    let s := { s with rdl := { s.rdl with pulseAt := s.mono } }
    let s := if giveOk then s else s.pulseFail 0
    if takeOk then s else s.pulseFail 1
  else s

def execHoPulseTest (giveOk takeOk : Bool) (s : State) : Result := .next (pulseTest giveOk takeOk s)

end Sys2Proof.Machine
end

