-- ==== Sys2Proof/Machine/PlannedSwap.lean ====
section
/-! DEFINITION. Planned swaps (18, R474 to R476) and RDL_CTRL. A swap-load uses the same sequence up to its own t_s (R178). -/

namespace Sys2Proof.Machine

/-- The conditions of R474 that the active can see. -/
def State.swapReady (s : State) : Bool :=
  let conf := decide (s.fld Reg.SAF_STAT_FUNCS = 0) || s.flag Reg.RDL_STAT_PCONF
  let quiet := s.rdl.asked.isEmpty && s.rdl.repair.isEmpty && decide (s.fld Reg.WVE_SWAP_PHASE ≠ 2)
  decide (s.fld Reg.RDL_STAT_ROLE = 2) && s.flag Reg.RDL_LINK_UP && s.partnerStandby && conf && quiet

/-- A swap is on its way. -/
def State.swapUnderWay (s : State) : Bool :=
  s.rdl.swapAsked || s.rdl.swapAt.isSome || decide (s.fld Reg.RDL_SWAP_PHASE = 1) || decide (s.fld Reg.RDL_SWAP_PHASE = 2)

/-- Put it off: tested again 600 s later. -/
def State.swapDefer (s : State) : State :=
  let s := { s with rdl := { s.rdl with swapAsked := false, swapTest := some s.mono } }
  s.swapPhase 5

/-- The active proposes a swap where the conditions hold. -/
def State.swapRequest (s : State) : State :=
  if s.swapUnderWay then s
  else if s.swapReady then
    ({ s with rdl := { s.rdl with swapAsked := true, swapTest := none } }).tell (.swapProp (s.t0After (s.now + 100000000)) false)
  else s.swapDefer

/-- PLANNED_SWAP_DUE: after SWAP_H hours of operation, or 600 s after it was put off. -/
def swapDue (s : State) : State :=
  if s.fld Reg.RDL_STAT_ROLE ≠ 2 ∨ s.cpm.phase ≠ .run then s
  else match s.rdl.swapTest with
    | some t => (s.toMono (t + 600000000000)).swapRequest
    | none =>
      let h := s.fld Reg.RDL_CFG_SWAP_H
      if h ≠ 0 ∧ s.rdl.swapOp + 3600 * h ≤ s.fld Reg.CPM_OPSEC_OPSEC then s.swapRequest else s

def execPlannedSwapDue (s : State) : Result := .next (swapDue s)

/-- A write of RDL_CTRL with its key. -/
def rdlCtrl (m : Master) (w : Word) (s : State) : State :=
  if ¬ s.mayWriteRegs m then s.denyWrite m Reg.RDL_CTRL
  else if wordField w 8 8 ≠ 0x69 then s
  else
    let s := if w.getLsbD 0 ∧ s.fld Reg.RDL_STAT_ROLE = 2 ∧ s.cpm.phase = .run then s.swapRequest else s
    let s := if w.getLsbD 1 then s.joinStart else s
    if w.getLsbD 2 ∧ s.inControl then s.unitFault 8 0 0 true else s

def execSwapNow (m : Master) (w : Word) (s : State) : Result := .next (rdlCtrl m w s)
def execRejoin (m : Master) (w : Word) (s : State) : Result := .next (rdlCtrl m w s)
def execGiveControl (m : Master) (w : Word) (s : State) : Result := .next (rdlCtrl m w s)

/-! ### The messages (R456) -/

/-- t_s is fixed on this unit. -/
def State.swapFix (s : State) (ts : Nat) (mine : Bool) : State :=
  ({ s with rdl := { s.rdl with swapAt := some ts, swapFrom := mine, swapAsked := false, swapTest := none } }).swapPhase 1

/-- WVE_SWAPT shows the instant of a swap-load, and PHASE becomes SCHEDULED. -/
def State.swapLoadFix (s : State) (ts : Nat) : State :=
  let s := (s.setReg Reg.WVE_SWAPT_NS (BitVec.ofNat 32 (nsOf ts))).setReg Reg.WVE_SWAPT_SL (BitVec.ofNat 32 (secOf ts))
  (s.setReg Reg.WVE_SWAPT_SH (BitVec.ofNat 32 (secOf ts / 2 ^ 32))).wvePhase 3

/-- Whether the standby takes part in a planned swap. -/
def State.swapAccepts (s : State) : Bool :=
  let conf := decide (s.fld Reg.SAF_STAT_FUNCS = 0) || s.ownConf
  decide (s.fld Reg.RDL_STAT_ROLE = 3) && s.rdl.repair.isEmpty && decide (s.fld Reg.WVE_SWAP_PHASE ≠ 2) && conf

/-- SWAP_PROP at the partner: t_s, or the t_s that a CHANGE with OP 2 has fixed for a swap-load (`load`). -/
def swapProp (ts : Nat) (load : Bool) (s : State) : State :=
  if ¬ s.flag Reg.RDL_LINK_UP ∨ s.inControl then s
  else if load then
    if s.fld Reg.RDL_STAT_ROLE = 3 ∧ s.fld Reg.WVE_SWAP_PHASE = 2 ∧ ¬ s.flag Reg.WVE_SWAP_NEEDCONF then
      ((s.swapFix ts false).swapLoadFix ts).tell (.swapAck ts true)
    else s.tell (.swapAck ts false)
  else if s.fld Reg.RDL_SWAP_PHASE = 1 then { s with rdl := { s.rdl with swapAt := some ts } }
  else if s.swapAccepts then (s.swapFix ts false).tell (.swapAck ts true)
  else s.tell (.swapAck ts false)

def execSwapProp (ts : Nat) (load : Bool) (s : State) : Result := .next (swapProp ts load s)

/-- SWAP_ACK at the active: t_s is the first T0 release at least 100 ms later. A swap-load that the standby refuses is abandoned. -/
def swapAck (ts : Nat) (ok : Bool) (s : State) : State :=
  if s.rdl.swapAsked then
    if ok ∧ s.swapReady then
      let t := s.t0After (s.now + 100000000)
      let s := s.swapFix t true
      if t = ts then s else s.tell (.swapProp t false)
    else s.swapDefer
  else if ¬ ok ∧ s.swapLoading ∧ s.rdl.swapAt = some ts then s.swapEnd
  else s

def execSwapAck (ts : Nat) (accepted : Bool) (s : State) : Result := .next (swapAck ts accepted s)

/-- SWAP_CANCEL: a standby that was loading an image restarts (R182). -/
def swapCancelMsg (s : State) : State :=
  let was := s.swapLoading
  let s := s.swapEnd.abandonSwap
  if was ∧ (s.fld Reg.RDL_STAT_ROLE = 3 ∨ s.fld Reg.RDL_STAT_ROLE = 4) then s.restart .auto else s

def execSwapCancel (_reason : Nat) (s : State) : Result := .next (swapCancelMsg s)

/-! ### The sequence (R475) -/

/-- SWAP_GROUP_MODE_POST: at t_s − 1.2 ms. -/
def swapPost (s : State) : State :=
  match s.rdl.swapAt with
  | some ts =>
    if s.fld Reg.RDL_SWAP_PHASE ≠ 1 ∨ ts < s.now + 1050000 then s
    else
      let s := s.toTime (ts - 1200000)
      if s.rdl.swapFrom then s.postMode 1 ts else s.postMode 0 (ts - 1000000)
  | none => s

def execSwapGroupModePost (s : State) : Result := .next (swapPost s)

/-- SWAP_OVERLAP_START: at t_s − 1.05 ms. -/
def swapOverlap (s : State) : State :=
  match s.rdl.swapAt with
  | some ts =>
    if s.fld Reg.RDL_SWAP_PHASE ≠ 1 ∨ ts < s.now then s
    else
      let s := (s.toTime (ts - 1050000)).swapPhase 2
      if s.rdl.swapFrom then s.setLines false false else s
  | none => s

def execSwapOverlapStart (s : State) : Result := .next (swapOverlap s)

/-- The old active leaves control at t_s. -/
def State.swapLeave (s : State) : State :=
  let s := (s.setRole 3).setLines true false
  let s := (s.canRestrict true (List.range 4)).setFld Reg.RDL_STAT_PROLE 2
  (s.setTask 8 (s.task 8).abandon).clearTaskBits false [8]

/-- The new active takes full control at t_s: it latches every release from then on. -/
def State.swapEnter (s : State) (ts : Nat) : State :=
  let s := (s.setRole 2).setFld Reg.RDL_STAT_PROLE 3
  let s := ((s.takeTasks ts).restartF ts).takeLoops ts
  s.startBuses ts

/-- PLANNED_SWAP_INSTANT: at t_s. -/
def swapInstant (s : State) : State :=
  match s.rdl.swapAt with
  | some ts =>
    if s.fld Reg.RDL_SWAP_PHASE ≠ 2 ∨ s.fld Reg.WVE_SWAP_PHASE = 3 ∨ ts < s.now then s
    else
      let s := (s.toTime ts).applyDue ts
      if s.rdl.swapFrom then s.swapLeave else s.swapEnter ts
  | none => s

def execPlannedSwapInstant (s : State) : Result := .next (swapInstant s)

/-- SWAP_ASSERT_TAKE: at t_s + 20 µs the swap is done. -/
def swapDone (s : State) : State :=
  match s.rdl.swapAt with
  | some ts =>
    if s.fld Reg.RDL_SWAP_PHASE ≠ 2 ∨ s.now < ts then s
    else
      let s := s.toTime (ts + 20000)
      let s := if s.rdl.swapFrom then s else s.setLines false true
      let s := { s with rdl := { s.rdl with swapAt := none, swapFrom := false, swapOp := s.fld Reg.CPM_OPSEC_OPSEC } }
      s.swapPhase 3
  | none => s

def execSwapAssertTake (s : State) : Result := .next (swapDone s)

end Sys2Proof.Machine
end

