-- ==== Sys2Proof/Machine/Startup.lean ====
section
/-! DEFINITION. Start-up (21, R515 to R525): the ten steps, role negotiation (R453), the wait for a PTP master (R433), RUN entry, and the
accepted levels of the handover inputs (R38, R39). -/

namespace Sys2Proof.Machine

/-! ### RUN entry (R190, R195, R261, R304, R521, step 10) -/

/-- Releases, windows and cycles begin on their grids at least 1 ms after RUN entry. -/
def State.firstReleases (s : State) (run : Nat) : State :=
  let t := run + 1000000
  let s := ((List.range 8).filter (fun c => s.flag (Reg.IMG_TASK_EN c))).foldl (fun (s : State) (c : Nat) =>
    match s.taskRec c with
    | some r => s.setTask c { s.task c with nextRel := some (gridNext (1000 * r.period) (1000 * r.phase) t) }
    | none => s) s
  let s := if s.flag (Reg.IMG_TASK_EN 8) then s.setTask 8 { s.task 8 with nextRel := some (s.t0After t) } else s
  ({ s with loops := { s.loops with start := t, last := none } }).setFlag Reg.LPE_STAT_RUN true

/-- RUN begins: the power state, the grant, arming, and the run record. -/
def State.beginRunState (s : State) : State :=
  let s := { s with cpm := { s.cpm with phase := .run, runAt := s.now } }
  ((((s.setFld Reg.CPM_STAT_PSTATE 0).postGrant).armRequest).runRecord 1 0)

/-- A unit takes control and enters RUN: its lines, own mode in a pair, and everything that a unit in control sends. -/
def State.enterRun (s : State) : State :=
  let pair := s.onPairCarrier
  let s := (s.setFld Reg.RDL_STAT_OFFCAUSE 0).setRole (if pair then 2 else 1)
  let s := s.beginRunState.setLines false true
  let s := { s with rdl := { s.rdl with swapOp := s.fld Reg.CPM_OPSEC_OPSEC } }
  let s := if pair then s.postMode 0 s.now else s
  (s.firstReleases s.now).startBuses s.now

/-- A unit that does not take control runs on in OFF and requests a join. -/
def State.enterJoin (s : State) : State := s.beginRunState.joinStart

/-- The wait that precedes RUN where a PTP mode and START_WAIT ask for it. -/
def State.takeControl (s : State) : State :=
  if s.ptpMode ≠ 0 ∧ s.ptpByte 9 ≠ 0 then
    { s with cpm := { s.cpm with phase := .ptpWait, negAt := s.mono }, ptp := { s.ptp with startRun := 0, annAt := s.mono } }
  else s.enterRun

/-- START_WAIT_END: four Syncs within 1 µs, this module selected as MASTER, or START_WAIT passed. -/
def startWaitEnd (how : WaitEnd) (s : State) : State :=
  if s.cpm.phase ≠ .ptpWait then s
  else match how with
    | .locked => if 4 ≤ s.ptp.startRun then s.enterRun else s
    | .master => if s.fld Reg.PTP_STAT_STATE = 4 then s.enterRun else s
    | .expired => (s.toMono (s.cpm.negAt + 1000000000 * s.ptpByte 9)).enterRun

def execStartWaitEnd (how : WaitEnd) (s : State) : Result := .next (startWaitEnd how s)

/-! ### Negotiation (R453) -/

/-- The unit stays in HALT in role OFF with OFFCAUSE 5. -/
def State.negotiationEnds (s : State) : State := (s.setFld Reg.RDL_STAT_OFFCAUSE 5).enterHalt

/-- Whether this unit takes ACTIVE against a partner whose confirmation is `conf`. -/
def State.winsNegotiation (s : State) (conf : Bool) : Bool :=
  if s.ownConf = conf then decide (s.fld Reg.RDL_STAT_POS = 0) else s.ownConf

/-- The steps, once a level of HO_GIVE_I is accepted. -/
def State.negotiateStep (s : State) : State :=
  if s.cpm.phase ≠ .negotiating ∨ ¬ s.cpm.giveSeen ∨ s.cpm.giveIndet then s
  else match s.rdl.neg with
    | some (pos, _, _, conf) =>
      if pos = s.fld Reg.RDL_STAT_POS then (s.raise 58 1 0).negotiationEnds
      else if ¬ s.flag Reg.RDL_STAT_GIVE_I then s.enterJoin
      else if s.winsNegotiation conf then s.takeControl
      else s.enterJoin
    | none => if s.flag Reg.RDL_STAT_GIVE_I then s else s.enterJoin

/-- NEGOTIATE arrives. -/
def negotiateMsg (pos build chk : Nat) (conf : Bool) (s : State) : State :=
  if ¬ s.flag Reg.RDL_LINK_UP ∨ 1 < pos then s
  else
    let s := ({ s with rdl := { s.rdl with neg := some (pos, build, chk, conf) } }).setFlag Reg.RDL_STAT_PCONF conf
    s.negotiateStep

def execNegotiate (pos build safeChk : Nat) (confirmed : Bool) (s : State) : Result := .next (negotiateMsg pos build safeChk confirmed s)

/-- NEGOTIATE_TIMEOUT: 200 ms in position A, 300 ms in position B, without a NEGOTIATE. -/
def negotiateTimeout (s : State) : State :=
  if s.cpm.phase ≠ .negotiating ∨ ¬ s.cpm.giveSeen ∨ s.cpm.giveIndet ∨ s.rdl.neg.isSome then s
  else
    let s := s.toMono (s.cpm.negAt + (if s.fld Reg.RDL_STAT_POS = 0 then 200000000 else 300000000))
    if s.flag Reg.RDL_STAT_GIVE_I then s.takeControl else s.enterJoin

def execNegotiateTimeout (s : State) : Result := .next (negotiateTimeout s)

/-- NEGOTIATE_INDETERMINATE_TIMEOUT: no level accepted within 1 s. -/
def negotiateIndet (s : State) : State :=
  if s.cpm.phase = .negotiating ∧ (s.cpm.giveIndet ∨ ¬ s.cpm.giveSeen) then
    let s := s.toMono (s.cpm.negAt + 1000000000)
    ((s.setFlag Reg.RDL_STAT_HOFAIL true).raise 56 0 0).negotiationEnds
  else s

def execNegotiateIndeterminateTimeout (s : State) : Result := .next (negotiateIndet s)

/-! ### The handover inputs (R38, R39, R452, R469) -/

/-- What an asserted give line means now. -/
def State.giveAsserted (s : State) : State :=
  if s.cpm.phase = .run ∧ ¬ s.cpm.haltOnStop then
    if s.fld Reg.RDL_STAT_ROLE = 3 then s.takeover else s.partnerLeft
  else s

/-- HO_GIVE_I has a new accepted level. -/
def State.giveLevel (s : State) (a : Bool) : State :=
  let was := s.flag Reg.RDL_STAT_GIVE_I
  let seen := s.cpm.giveSeen
  let s := { s with cpm := { s.cpm with giveSeen := true, giveIndet := false } }
  let s := (s.setFlag Reg.RDL_STAT_GIVE_I a).negotiateStep
  if seen && !was && a then s.giveAsserted else s

/-- HO_TAKE_I has a new accepted level: it goes to the field side (R41), and a unit in control gives up (R452). -/
def State.takeLevel (s : State) (a : Bool) : State :=
  let s := { s with cpm := { s.cpm with takeSeen := true, takeIndet := false } }
  let s := (s.setFlag Reg.RDL_STAT_TAKE_I a).rimSend (.ho a false)
  if a && decide (s.fld Reg.RDL_STAT_ROLE = 2) && s.runsOn then (s.raise 58 0 0).giveUp 7 0 58 true else s

/-- HO_INPUT_ACCEPT: stable for 2 µs. -/
def hoAccept (line : HoLine) (a : Bool) (s : State) : State :=
  if s.cpm.phase = .off ∨ s.cpm.phase = .ready then s
  else match line with
    | .give => s.giveLevel a
    | .take => s.takeLevel a

def execHoInputAccept (line : HoLine) (asserted : Bool) (s : State) : Result := .next (hoAccept line asserted s)

/-- HO_INDETERMINATE: between 1.0 V and 3.0 V for 100 µs; the accepted state stays. -/
def hoIndet (line : HoLine) (s : State) : State :=
  if s.cpm.phase = .off ∨ s.cpm.phase = .ready then s
  else
    let s := s.setFlag Reg.RDL_STAT_HOFAIL true
    match line with
    | .give => ({ s with cpm := { s.cpm with giveIndet := true } }).raise 56 0 0
    | .take => ({ s with cpm := { s.cpm with takeIndet := true } }).raise 56 1 0

def execHoIndeterminate (line : HoLine) (s : State) : Result := .next (hoIndet line s)

/-! ### The steps (R515, R516) -/

/-- A failure is reported: EV_START_FAIL and a STOP record. -/
def State.startNote (s : State) (step hi : Nat) : State := (s.raise 21 step hi).stopRecord 21

/-- HALT, faulted: no further step; with the firmware service over the Slath, or without it. -/
def State.startFail (s : State) (step hi : Nat) (service : Bool) : State :=
  let s := s.startNote step hi
  let s := if service then s.slath else s
  { s with cpm := { s.cpm with phase := .halt, faulted := true, service := service } }

/-- Step 1: the slot code and the position are latched, and the cause is shown. -/
def State.step1 (s : State) (cause : RstCause) : State :=
  let s := (s.setFld Reg.CPM_STAT_SLOT s.cpm.slotNow).setFld Reg.RDL_STAT_POS (b2n (decide (s.cpm.slotNow = 3)))
  let bit := match cause with | .power => 1 | .swreq => 2 | .supret => 4 | .auto => 8
  (s.setReg Reg.CPM_RSTCAUSE bit).setFlag Reg.CPM_STAT_HOLD_RDY true

/-- The always-on domain is restored where it had no supply, and the start-up counted (R94). -/
def State.alwaysOn (s : State) (cold : Bool) : State :=
  let s := if cold then (s.setFld Reg.CPM_OPSEC_OPSEC s.cpm.savedOp).setFld Reg.CPM_TRIM_TRIM s.cpm.savedTrim else s
  let n := if cold then s.cpm.savedCyc else s.fld Reg.CPM_PWRCYC_PWRCYC
  s.setFld Reg.CPM_PWRCYC_PWRCYC (min 0xFFFFFFFF (n + 1))

/-- Module time starts at 0 with the time base's lock (R94). -/
def State.timeFromZero (s : State) : State := { s with now := 0, frac := 0 }

/-- The panel, the confirmed check value and the recorder's start record of step 2. -/
def State.step2Show (s : State) : State := s.pnlStart.showConf.recFirst 0 0 (s.reg Reg.CPM_RSTCAUSE).toNat 0

/-- Step 2: counters, clocks, START record. -/
def State.step2 (s : State) (cold locks : Bool) : State :=
  let s := (s.alwaysOn cold).setFlag Reg.CPM_STAT_XT32_OK true
  let s := (s.setFlag Reg.CPM_STAT_REF_OK locks).setFlag Reg.CPM_STAT_PLL_LOCK locks
  let s := (s.setFlag Reg.CPM_STAT_TB_LOCK locks).setFlag Reg.CPM_STAT_PLL_COAST (!locks)
  s.timeFromZero.step2Show

/-- The dividers of SYSTEM tag 0x0001; a value out of range leaves its field (R95). -/
def State.setDividers (s : State) (b : List Byte) : State :=
  let put := fun (s : State) (f : Field) (lo hi v : Nat) => if lo ≤ v ∧ v ≤ hi then s.setFld f v else s
  put (put (put s Reg.CPM_CLKDIV_CORE_DIV 5 20 (u8 b 0)) Reg.CPM_CLKDIV_FAB_DIV 10 40 (u8 b 1)) Reg.CPM_CLKDIV_CAN_DIV 40 200 (u8 b 2)

/-- Step 4: the comparator's self-test is shown. -/
def State.step4 (s : State) (lanes : BitVec 24) (clean : Bool) : State :=
  let s := (s.setFld Reg.CMP_SELFTEST_PASS lanes.toNat).setFlag Reg.CMP_SELFTEST_CLEAN clean
  let s := s.setFlag Reg.CMP_SELFTEST_DONE true
  s.raise 33 (s.reg Reg.CMP_SELFTEST).toNat 0

/-- Step 6: the field side runs, in safe hold; EV_FIELD_RESTART with cause power. -/
def State.step6 (s : State) : State :=
  let s := { s with field := { s.field with up := true, cause := 0, wdogAt := s.mono } }
  s.raise 131 (s.fld Reg.MBX_GEN_GENF) 0

/-- Step 7: IN frames valid, the configuration sent, the hold in force. -/
def State.step7 (s : State) : State :=
  let s := { s with rim := { s.rim with lastIn := s.mono, lossAt := none } }
  (s.setFlag Reg.CHN_STAT_RIM_UP true).sendCfg

/-- Replay one set: its records take effect at once, without a release (R177). -/
def State.replaySet (s : State) (x : Nat × Nat × List (Nat × Nat)) : State :=
  let all := match s.img with | some i => i.changeables | none => []
  let es := x.2.2.filterMap (fun r => (all[r.1]?).map (fun e => (e, r.2)))
  let s := es.foldl (fun (s : State) p =>
    if p.1.space = 4 then s.wrBytes (slotAddr (p.1.off / 256) + p.1.off % 256) (p.1.bytes p.2) else s.setRecord x.1 p.1 p.2) s
  let k := s.task x.1
  ({ s with g := ovApply s.g k.gPend }).setTask x.1 { k with gPend := [], lines := [] }

/-- The journal is replayed in order; what follows a bad entry is discarded. -/
def State.replay (s : State) : State :=
  let j := journalWalk (s.bytes journalAt journalSize) (imgBuild s.img) 1000 0 0
  let s := j.sets.foldl (fun (s : State) x => s.replaySet x) s
  let s := s.setFld Reg.WVE_CHGSTAT_JBYTES j.used
  if j.bad then
    ((s.wrBytes (journalAt + j.used) (List.replicate (journalSize - j.used) 0)).setFlag Reg.WVE_STAT_JBAD true).raise 20 j.used 0
  else s

/-- The valid run record: BUILD_ID, FLAGS, BANKSEQ. -/
def State.runRead (s : State) : Option (Nat × Nat × Nat) :=
  (s.copyRead runRecordAt copyGood).map (fun b => (u32 b 4, u8 b 8, u32 b 12))

/-- EV_RUN_INTERRUPTED where the record has RUNNING without STOPPED (R521). -/
def State.interrupted (s : State) : State :=
  match s.runRead with
  | some (_, fl, seq) => if fl % 4 = 1 then s.raise 23 seq 0 else s
  | none => s

/-- G from the newest valid bank of this image, or from RETAIN's initial bytes (R522). -/
def State.chooseG (s : State) (i : Image) (bad0 bad1 : Bool) : State :=
  let mine := s.runRead.any (fun r => decide (r.1 = i.build))
  match (if mine then s.bankPick bad0 bad1 else none) with
  | some k =>
    let a := bankAddr k
    let seq := s.rdLE a 4
    let n := min i.gLen (min 64512 (s.rdLE (a + 16) 4))
    ({ s with g := imgOf 0 (s.bytes (a + 1024) n), cpm := { s.cpm with bankSeq := seq } }).raise 22 0 seq
  | none => ({ s with g := imgOf 0 i.gInit }).raise 22 1 0

/-- Step 9: SOLO, negotiation, or HALT for a bench or reserved code (R44). -/
def State.step9 (s : State) : State :=
  match s.fld Reg.CPM_STAT_SLOT with
  | 1 => s.takeControl
  | 2 => (({ s with cpm := { s.cpm with phase := .negotiating, negAt := s.mono } }).sendNegotiate).negotiateStep
  | 3 => (({ s with cpm := { s.cpm with phase := .negotiating, negAt := s.mono } }).sendNegotiate).negotiateStep
  | 15 => s.enterHalt
  | _ => (s.raise 9 0 0).enterHalt

/-- The image fails at a step: no image is placed. -/
def State.imageFail (s : State) (step : Nat) (f : Nat × Nat) : State := (({ s with img := none }).loadReject f).startNote step f.1

/-- HALT on the Slath, once steps 4 to 7 have run. -/
def State.haltOnSlath (s : State) : State := s.slath.enterHalt

/-- Step 8 with the image that passed step 3. -/
def State.step8 (s : State) (f : StartFindings) (i : Image) : State :=
  match i.check7 s.onPairCarrier with
  | some e => (s.imageFail 8 e).haltOnSlath
  | none =>
    let s := (s.slath.placeImage i).interrupted
    let s := ((s.startEcc f.bank0Ecc).startEcc f.bank1Ecc).chooseG i f.bank0Ecc.isSome f.bank1Ecc.isSome
    s.replay.step9

/-- Steps 4 to 7, and then `rest`. -/
def State.steps4to7 (s : State) (f : StartFindings) (rest : State → State) : State :=
  let s := s.step4 f.lanesPass f.cleanRun
  if f.lanesPass ≠ BitVec.allOnes 24 ∨ ¬ f.cleanRun then
    s.startFail 4 (((List.range 24).find? (fun n => !(f.lanesPass.getLsbD n))).getD 0) false
  else if ¬ f.bist then s.startFail 5 0 f.bistService
  else if ¬ f.field1 ∧ ¬ f.field2 then s.startFail 6 0 true
  else
    let s := s.step6
    if ¬ f.rimUp then s.startFail 7 0 true
    else rest s.step7

/-- Steps 3 to 10. -/
def State.steps3on (s : State) (f : StartFindings) : State :=
  let b := s.storeImage
  let s := s.startEcc f.storeEcc
  match s.bootChecks b f.storeEcc.isSome with
  | some e => (s.imageFail 3 e).steps4to7 f (fun (s : State) => s.haltOnSlath)
  | none =>
    let i := imageOf b
    let tag := i.systemTag 0x0001
    let s := match tag with | some t => s.setDividers t | none => s
    if tag.isSome && !f.relocks then (s.setFlag Reg.CPM_STAT_PLL_LOCK false).startFail 3 0 false
    else ({ s with img := some i }).steps4to7 f (fun (s : State) => s.step8 f i)

/-- STARTUP: begins when R45 and R47 are met, with the module off or waiting for a new start-up. -/
def startup (f : StartFindings) (s : State) : State :=
  if s.cpm.phase ≠ .off ∧ s.cpm.phase ≠ .ready then s
  else
    let cause := s.cpm.startCause
    let cold := decide (s.cpm.phase = .off)
    let s := (((s.restart cause).step1 cause).step2 cold f.pllLocks)
    if ¬ f.pllLocks then s.startFail 2 0 false else s.steps3on f

def execStartup (f : StartFindings) (s : State) : Result := .next (startup f s)

end Sys2Proof.Machine
end

