-- ==== Sys2Proof/Machine/SwapLoad.lean ====
section
/-! DEFINITION. Swap-load (06, R178 to R182, R236): the swap checks, PREPARED, the carry of state at t_s, and the start of the new image. -/

namespace Sys2Proof.Machine

/-! ### CARRY (R179, R236) -/

/-- One entry: spaces, types, offsets, length. -/
structure Carry where
  oldSp : Nat
  newSp : Nat
  oldTy : Nat
  newTy : Nat
  oldOff : Nat
  newOff : Nat
  len : Nat
  deriving DecidableEq, Repr

def carryOf (b : List Byte) : Carry := ⟨u8 b 0, u8 b 1, u8 b 2, u8 b 3, u32 b 4, u32 b 8, u32 b 12⟩
def Image.carries (i : Image) : List Carry := i.carryRecs.map carryOf

/-- The task of a V offset. -/
def carryV (new : Bool) (off : Nat) : Nat := (Config.carryTask new (BitVec.ofNat 32 off)).val

/-- Bytes from one element to the next in a space: L fields carry no quality byte. -/
def carryStride (sp ty : Nat) : Nat := if sp = 4 then tySize ty else tyElem ty

/-- Elements of an entry, and the bytes it fills on the new side. -/
def Carry.count (c : Carry) : Nat := c.len / max 1 (carryStride c.oldSp c.oldTy)
def Carry.newLen (c : Carry) : Nat := if c.oldTy = 0 then c.len else c.count * carryStride c.newSp c.newTy

/-- A range lies within its space. -/
def Image.carryIn (i : Image) (new : Bool) (sp off n : Nat) : Bool :=
  match sp with
  | 2 => decide (off + n ≤ i.vSize (carryV new off))
  | 3 => decide (off + n ≤ 64512)
  | 4 => decide (off + n ≤ 262144)
  | _ => false

/-- The instance areas inside a range of V, from its start: offset in the range, bytes, OP, TYPE. -/
def Image.areasIn (i : Image) (c off n : Nat) : List (Nat × Nat × Nat × Nat) :=
  ((dedup (i.instAreas c)).filter (fun a => spansMeet (8 * a.1) a.2.1 off n)).map (fun a => (8 * a.1 - off, a.2.1, a.2.2.1, a.2.2.2))

/-- Whether every area of a range lies whole inside it. -/
def Image.areasWhole (i : Image) (c off n : Nat) : Bool :=
  (dedup (i.instAreas c)).all (fun a => !(spansMeet (8 * a.1) a.2.1 off n) || (decide (off ≤ 8 * a.1) && decide (8 * a.1 + a.2.1 ≤ off + n)))

/-- An entry of instance areas covers whole areas of blocks with the same OP and TYPE on both sides. -/
def carryAreasOk (old new : Image) (c : Carry) : Bool :=
  let co := carryV false c.oldOff
  let cn := carryV true c.newOff
  let a := old.areasIn co c.oldOff c.len
  let b := new.areasIn cn c.newOff c.len
  decide (c.oldSp = 2) && decide (c.newSp = 2) && old.areasWhole co c.oldOff c.len && new.areasWhole cn c.newOff c.len &&
    a.all (fun x => b.contains x) && b.all (fun x => a.contains x)

/-- An entry breaks a rule. -/
def carryEntryBad (old new : Image) (c : Carry) : Bool :=
  let types :=
    if c.oldTy = 0 then decide (c.newTy = 0) && carryAreasOk old new c
    else tyValid c.oldTy && (decide (c.oldTy = c.newTy) || widens c.oldTy c.newTy) && decide (c.len % max 1 (carryStride c.oldSp c.oldTy) = 0)
  !types || !(old.carryIn false c.oldSp c.oldOff c.len) || !(new.carryIn true c.newSp c.newOff c.newLen)

/-- The swap checks: SWAP_STATE, CARRY, SWAP_FOOTPRINT. -/
def State.swapChecks (s : State) (new : Image) : Option (Nat × Nat) :=
  match s.img with
  | none => some (0x0020, 0xFF)
  | some old =>
    let badCarry := decide (u32 (new.sec tyCarry) 0 ≠ old.build) || new.carries.any (fun c => carryEntryBad old new c)
    firstFail [failIf 0x0020 (decide (s.fld Reg.RDL_STAT_ROLE ≠ 3)), failIf 0x0021 badCarry,
      failIf 0x0022 (decide (0x1200000 < old.sramBytes + new.sramBytes))]

/-! ### PREPARED (R178) -/

/-- SWAP_PREPARED: the new image and the second route bank are in place. -/
def swapPrepared (s : State) : State :=
  match s.imgAlt with
  | some i =>
    if s.fld Reg.RDL_STAT_ROLE ≠ 3 ∨ s.fld Reg.WVE_SWAP_PHASE ≠ 1 then s
    else
      let conf := decide (i.safeChk ≠ s.safeChk) && !(s.confirmed i.safeChk)
      ((s.setFld Reg.WVE_ROUTES_COUNT_ALT i.routes.length).setFlag Reg.WVE_SWAP_NEEDCONF conf).wvePhase 2
  | none => s

def execSwapPrepared (s : State) : Result := .next (swapPrepared s)

/-! ### t_s (R180, R181) -/

/-- D_carry in ns. -/
def carryTime (i : Image) : Nat := 50000 + 1000 * ceilDiv ((i.carries.map (fun c => c.len)).foldl (· + ·) 0) 1024

/-- A channel whose output sink exists in the old image only goes to its safe value. -/
def State.dropSinks (s : State) (new : Image) : State :=
  let gone := (s.routesInto 1).filter (fun p => !(new.routes.any (fun r => decide (r.dst = p.2.dst))))
  (gone.foldl (fun (s : State) p => s.modChan (bits p.2.dst 0 16) (fun x => if isOutput x.kind then { x with safe := true } else x)) s).settle

/-- The standby takes control at t_s: the field side is configured for the new image, and the carry begins. -/
def State.swapLoadEnter (s : State) (ts : Nat) (new : Image) : State :=
  let s := (((s.setRole 2).setFld Reg.RDL_STAT_PROLE 3).setFlag Reg.LPE_STAT_RUN false).dropSinks new
  let old := s.img
  let s := { ({ s with img := some new }).sendCfg with img := old }
  { s with rdl := { s.rdl with carryEnd := some (ts + carryTime new) } }

/-- The old active completes its last releases and serves their repairs. -/
def State.swapLoadLeave (s : State) (ts : Nat) : State :=
  let s := (s.swapLeave).setFlag Reg.LPE_STAT_RUN false
  { s with rdl := { s.rdl with carryEnd := some (ts + 50000) } }

/-- SWAP_LOAD_INSTANT: at t_s. -/
def swapLoadInstant (s : State) : State :=
  match s.rdl.swapAt with
  | some ts =>
    if s.fld Reg.RDL_SWAP_PHASE ≠ 2 ∨ s.fld Reg.WVE_SWAP_PHASE ≠ 3 ∨ ts < s.now then s
    else
      let s := (s.toTime ts).applyDue ts
      if s.rdl.swapFrom then s.swapLoadLeave ts
      else match s.imgAlt with
        | some i => s.swapLoadEnter ts i
        | none => s
  | none => s

def execSwapLoadInstant (s : State) : Result := .next (swapLoadInstant s)

/-! ### The carry and the new image's start (R180, R236) -/

/-- The old bytes of a range. -/
def State.carryGet (s : State) (c : Carry) : List Byte :=
  match c.oldSp with
  | 2 => imgBytes (s.task (carryV false c.oldOff)).v c.oldOff c.len
  | 3 => imgBytes s.g c.oldOff c.len
  | _ => s.bytes (0x41000000 + c.oldOff) c.len

/-- One element widened, with its quality byte. -/
def carryWiden (c : Carry) (b : List Byte) (k : Nat) : List Byte :=
  let o := k * carryStride c.oldSp c.oldTy
  let v := (satTo c.newTy (numOf c.oldTy (leNat (slice b o (tySize c.oldTy))))).1
  let q := if c.oldSp = 4 then 0 else u8 b (o + tyQual c.oldTy)
  leBytes (tySize c.newTy) v ++ (if c.newSp = 4 then [] else leBytes 1 q ++ List.replicate (tySize c.newTy - 1) 0)

/-- The bytes of an entry as the new side holds them. -/
def Carry.bytes (c : Carry) (b : List Byte) : List Byte :=
  if c.oldTy = c.newTy ∧ (c.oldSp = 4 ↔ c.newSp = 4) then b else (List.range c.count).flatMap (fun k => carryWiden c b k)

/-- Put them. -/
def State.carryPut (s : State) (p : Carry × List Byte) : State :=
  let c := p.1
  match c.newSp with
  | 2 =>
    let t := carryV true c.newOff
    s.setTask t { s.task t with v := imgWrite (s.task t).v c.newOff p.2 }
  | 3 => { s with g := imgWrite s.g c.newOff p.2 }
  | _ => s.wrBytes (0x41000000 + c.newOff) p.2

/-- What the old image enabled is cleared. -/
def State.clearImage (s : State) : State :=
  let s := (List.range 9).foldl (fun (s : State) (c : Nat) => s.setFlag (Reg.IMG_TASK_EN c) false) s
  let s := s.canObjs.foldl (fun (s : State) (o : CanObj) => s.setFlag (Reg.CAN_OBJ_EN o.port o.obj) false) s
  let s := (List.range 4).foldl (fun (s : State) (n : Nat) => s.setFld (Reg.CAN_STAT_MODE n) 0) s
  let s := s.stnRecs.foldl (fun (s : State) (r : StnRec) => s.setReg (Reg.IMG_STN_STAT r.num) 0) s
  s.safeFns.foldl (fun (s : State) (f : SafeFn) => s.setFld (Reg.SAF_FN_TYPE f.num) 0) s

/-- Sections that differ are laid down; the Weave's banks change places. -/
def State.placeSwap (s : State) (old new : Image) : State :=
  let differ := fun (ty : Nat) => decide (old.sec ty ≠ new.sec ty)
  let s := s.clearImage
  let bank := s.flag Reg.WVE_ROUTES_BANK
  let s := ((s.placeWeave new).setFlag Reg.WVE_ROUTES_BANK (!bank)).setFld Reg.WVE_ROUTES_COUNT_ALT 0
  let s := if differ tySystem then s.placeSystem new else s
  let s := if differ tyEvents then s.placeEvents new else s
  let s := if differ tyQueues then s.placeQueues new else s
  let s := if differ tyNet then s.placeNet new else s
  let s := { s with g := imgOf 0 new.gInit }
  ((((s.placeCan new).placeTasks new).placeLoops new).placeSafety new).placeStations new

/-- The new active starts the new image. -/
def State.startNew (s : State) (old new : Image) : State :=
  let moved := new.carries.map (fun c => (c, c.bytes (s.carryGet c)))
  let s := moved.foldl (fun (s : State) p => s.carryPut p) (s.placeSwap old new)
  let s := { s with imgAlt := none, rdl := { s.rdl with carryEnd := none, mirror := [] } }
  let s := ((s.firstReleases (s.now - 1000000)).startBuses s.now).imgRunning new
  s.armRequest.wvePhase 4

/-- CARRY_COMPLETE: at t_s + D_carry, once no release of the old image runs and no repair of one is pending. -/
def carryComplete (s : State) : State :=
  match s.rdl.carryEnd with
  | some e =>
    if s.tasks.any (fun t => t.latching || t.executing) ∨ s.rdl.repair ≠ [] then s
    else
      let s := s.toTime e
      match s.imgAlt, s.img with
      | some new, some old => if s.fld Reg.RDL_STAT_ROLE = 2 then s.startNew old new else s
      | _, _ =>
        let s := { s with rdl := { s.rdl with carryEnd := none } }
        ((s.wvePhase 4).setRole 0).joinStart
  | none => s

def execCarryComplete (s : State) : Result := .next (carryComplete s)

end Sys2Proof.Machine
end

