-- ==== Sys2Proof/Machine/Late.lean ====
section
/-! DEFINITION. What touches many blocks at once: supply fail (02, 21), reference loss (03), DOZE (03), the transfer engine's rounds (05), and
the Confirm key (18, 20). -/

namespace Sys2Proof.Machine

/-! ### KSAP sessions end (R118, R120) -/

/-- A session closes: EV_KSAP_CLOSE, and a load it has begun is abandoned. A swap-load on a standby that is not yet PREPARED ends with the
write session, and the standby restarts (R182). -/
def State.endSession (s : State) (sid : Nat) : State :=
  match s.ksap.sessions.find? (fun x => decide (x.sid = sid)) with
  | none => s
  | some x =>
    let s := { s with ksap := { s.ksap with sessions := s.ksap.sessions.filter (fun y => decide (y.sid ≠ sid)) } }
    let s := s.raise 11 0 0
    if x.write ∧ s.fld Reg.RDL_STAT_ROLE ≠ 0 ∧ s.swapLoading ∧ s.fld Reg.WVE_SWAP_PHASE ≠ 2 ∧ s.fld Reg.WVE_SWAP_PHASE ≠ 3 ∧ ¬ s.inControl then
      s.abandonSwap.leftStandby true
    else if s.load.any (fun l => decide (l.sid = sid)) then { s with load := none }
    else s

/-- Every session ends, and nothing waits to become one. -/
def State.endSessions (s : State) : State :=
  let s := (s.ksap.sessions.map (fun x => x.sid)).foldl (fun (s : State) (n : Nat) => s.endSession n) s
  { s with ksap := { s.ksap with challenges := [] } }

/-! ### Supply fail (R40, R46, R519) -/

/-- Whether the CPM grants item `i` of R519's order. -/
def grantedItem (g : BitVec 7) (i : Nat) : Bool := g.getLsbD (i - 1)

/-- Items 2 to 5: STOP record, snapshot, run record, recorder drain. -/
def State.failRecords (s : State) (ran : Bool) (g : BitVec 7) : State :=
  let s := if grantedItem g 2 ∧ s.evr.buf.any (fun e => decide (e.cls = 2)) then s.recWriteOne else s
  let s := if grantedItem g 3 ∧ s.img.isSome then s.snapshotG s.now else s
  let s := if grantedItem g 4 ∧ ran then s.runRecord 3 5 else s
  if grantedItem g 5 then s.recDrain 64 else s

/-- SUPPLY_FAIL: the reaction of the role, then the hold-up energy's uses in order; an item that is not granted is skipped whole. -/
def supplyFail (v : BitVec 10) (g : BitVec 7) (s : State) : State :=
  if s.cpm.phase = .off ∨ s.cpm.holdUp then s
  else
    let ran := (decide (s.cpm.phase = .run) || decide (s.cpm.phase = .doze)) && !s.cpm.haltOnStop
    let s := ((s.vsup v).setFld Reg.CPM_STAT_SUPST 3).raise 2 0 0
    let s := { s with cpm := { s.cpm with holdUp := true, supplyAt := s.mono } }
    let frames := s.toField
    let give := s.flag Reg.RDL_STAT_GIVE_O
    let take := s.flag Reg.RDL_STAT_TAKE_O
    let record := s.bytes runRecordAt 64
    let s := ((s.unitFault 5 5 2 true).setLines true false).wrBytes runRecordAt record
    let s := s.failRecords ran g
    let s := if grantedItem g 1 then s else { s.setLines give take with toField := frames }
    let s := if grantedItem g 6 then s.saveAlwaysOn else s
    if grantedItem g 7 then s.panelCut else s

def execSupplyFail (vsup : BitVec 10) (granted : BitVec 7) (s : State) : Result := .next (supplyFail vsup granted s)

/-- The internal rails collapse: only MRAM and the always-on copies stay. -/
def State.railsOff (s : State) (phase : Phase) : State :=
  let s := s.restart .power
  { s with cpm := { s.cpm with phase := phase, holdUp := false } }

/-- STORE_SHUTDOWN_LEVEL (R50, R88): OFF. -/
def execStoreShutdownLevel (s : State) : Result := .next (if s.cpm.holdUp then s.railsOff .off else s)

/-! ### Reference loss (R79 to R81) -/

/-- Every Ethernet link drops. -/
def State.linksDrop (s : State) : State :=
  (List.range 3).foldl (fun (s : State) (p : Nat) =>
    if s.flag (Reg.NET_PORT_LINK p) then
      let s := ((s.setFlag (Reg.NET_PORT_LINK p) false).bump (Reg.NET_PORT_LINKCHG p) (Reg.NET_PORT_SAT p)).raise 208 p 0
      if p < 2 ∧ s.flag Reg.NET_MRP_EN then s.mrpSet p 3 else s
    else s) s

/-- PTP lock is lost for good, and every timestamp says so. -/
def State.ptpEnd (s : State) : State :=
  let s := { s with ptp := { s.ptp with ended := true } }
  (s.ptpState 0).setFlag Reg.PTP_STAT_TRACE false

/-- The Rolent lanes stop. -/
def State.lanesStop (s : State) : State :=
  let any := s.flag Reg.RDL_LINK_UP || s.flag (laneBit 0) || s.flag (laneBit 1)
  let s := ((s.setFlag (laneBit 0) false).setFlag (laneBit 1) false).setFlag Reg.RDL_LINK_UP false
  if any then s.linkEvent else s

/-- The role's reaction to coasting, with no notice; a unit that does not run writes its first-out record alone. -/
def State.coastReact (s : State) : State :=
  if s.cpm.phase = .run ∨ s.cpm.phase = .doze then s.unitFault 6 6 4 false else s.stopRecord 4

/-- REF_LOSS: the main PLL coasts, the time base holds over; CAN, Ethernet, PTP, KSAP and Rolent stop; the role reacts. -/
def refLoss (s : State) : State :=
  if s.cpm.phase = .off ∨ s.cpm.phase = .ready ∨ s.flag Reg.CPM_STAT_PLL_COAST then s
  else
    let s := ((s.setFlag Reg.CPM_STAT_REF_OK false).setFlag Reg.CPM_FAULT_REF_LOSS true).raise 4 0 0
    let s := ((s.setFlag Reg.CPM_STAT_PLL_COAST true).setFlag Reg.CPM_STAT_PLL_LOCK false).raise 5 0 0
    let s := ((s.canStop (List.range 4)).linksDrop.ptpEnd.endSessions).lanesStop
    s.coastReact.partnerGone

def execRefLoss (s : State) : Result := .next (refLoss s)

/-! ### DOZE (R89 to R91) -/

/-- DOZE_ENTER: the conditions of R90 hold and every pair is IDLE. -/
def dozeEnter (s : State) : State :=
  if s.cpm.phase = .run ∧ ¬ s.cpm.haltOnStop ∧ s.flag Reg.CPM_PSCFG_DOZE_EN ∧ s.dozeOk ∧ s.fld Reg.CPM_STAT_PAIR_IDLE = 7 then
    let s := (s.setFld Reg.CPM_STAT_PSTATE 1).setFlag Reg.CPM_STAT_PLL_LOCK false
    { s with cpm := { s.cpm with phase := .doze, waking := false } }
  else s

def execDozeEnter (s : State) : Result := .next (dozeEnter s)

/-! ### The transfer engine (R130 to R132) -/

/-- What a queued Ethernet frame leaves as on port `p`: originTimestamp written at egress for FLAGS bit 3, else corrected by R428. -/
def State.ethOut (s : State) (p egr flags : Nat) (b : List Byte) : List Byte :=
  match ptpAt b with
  | some o =>
    if bit flags 3 ∧ u8 b o % 16 = 0 then
      let t := (s.egressTime p egr / 16).toNat
      putAt b (o + 34) (beBytes 6 (secOf t) ++ beBytes 4 (nsOf t))
    else s.leave 3 p (16 * s.now) egr b
  | none => b

/-- Write the egress timestamp back into the record, where it is asked for (R425). -/
def State.ethStamp (s : State) (a p egr flags : Nat) : State :=
  if bit flags 2 then
    let t := (s.egressTime p egr / 16).toNat
    ((s.wrLE a 4 (nsOf t)).wrLE (a + 4) 4 (secOf t)).wrLE (a + 9) 1 (flags / 4 * 4 + 1 + 2 * b2n (!s.flag Reg.PTP_STAT_TRACE))
  else s

/-- A payload for the internal switch port: a record of R425. A LEN outside 60 to 1,518 is no frame and leaves nothing. -/
def State.ethPayload (s : State) (a egr : Nat) : State :=
  let n := s.rdLE (a + 10) 2
  let flags := s.rdLE (a + 9) 1
  let port := s.rdLE (a + 8) 1
  let b := s.bytes (a + 16) n
  let out := if port < 3 then (List.range 3).filter (fun p => decide (p = port) && s.portUp p) else s.egress 3 b
  if n < 60 ∨ 1518 < n then s
  else
    let s := out.foldl (fun (s : State) (p : Nat) => s.send (.eth p (s.ethOut p egr flags b))) s
    match out with
    | p :: _ => s.ethStamp a p egr flags
    | [] => s

/-- Whether a queued CAN record breaks R407, or asks for FD on a classical port. -/
def canRecordBad (b : List Byte) (len : Nat) (fd : Bool) : Bool :=
  let w := u32 b 0
  let n := u8 b 5
  decide (len ≠ 16 + n) || !(canLenOk (bit w 30) n) || decide (u8 b 7 ≠ 0) || (bit w 30 && !fd) || (!(bit w 29) && decide (2 ^ 11 ≤ w % 2 ^ 29))

/-- A payload for a CAN port: a frame record from its TXQ waits at the port; a bad one ends with FORMAT (R410). -/
def State.canPayload (s : State) (n q : Nat) (desc : List Byte) : State :=
  match s.canPortRec n with
  | some r =>
    if r.txq ≠ q then s.doneEv q desc
    else
      let s := { s with que := { s.que with atPort := (q, desc) :: s.que.atPort } }
      let b := s.bytes (u32 desc 0) (u16 desc 4)
      if canRecordBad b (u16 desc 4) r.fd then
        match s.canQueuedTx n with
        | some t => s.canFail n t 7 0
        | none => s
      else s
  | none => s.doneEv q desc

/-- The engine moves LEN bytes into a port; the descriptor completes when the port is done. -/
def State.portServe (s : State) (q code egr : Nat) (desc : List Byte) : State :=
  let a := u32 desc 0
  if 8 ≤ code ∧ code ≤ 11 then s.canPayload (code - 8) q desc
  else if code = 16 then (s.ethPayload a egr).doneEv q desc
  else if code = 20 then (s.rimSend (.bulk (s.bytes a (u16 desc 4)))).doneEv q desc
  else s.doneEv q desc

/-- QUE_ROUND: the losers age, and the winner's head descriptor is served; `egr` is the boundary time of a frame that leaves. -/
def queRound (egr : Nat) (s : State) : State :=
  match s.winner with
  | none => s
  | some q =>
    let losers := (List.range 64).filter (fun k => s.competes k && decide (k ≠ q))
    let at_ := s.ringAddr q (s.qHead q)
    let desc := s.bytes at_ 16
    let cons := s.fld (Reg.QUE_CFG_CONS q)
    let s := (losers.foldl (fun (s : State) (k : Nat) => s.loseRound k) s).winRound q
    if cons < 3 then (s.setReg (Reg.QUE_POP q) (BitVec.ofNat 32 at_)).queAttn cons q else s.portServe q cons egr desc

def execQueRound (egr : Nat) (s : State) : Result := .next (queRound egr s)

/-- A released buffer of a CAN port's receive pool is free again (R407). -/
def State.poolFree (s : State) (q addr : Nat) : State :=
  (List.range 4).foldl (fun (s : State) (n : Nat) =>
    match s.canPortRec n with
    | some r =>
      let p := s.canPort n
      if r.rxq = q ∧ r.pool ≤ addr then s.setCan n { p with poolUsed := p.poolUsed.filter (fun b => decide (r.pool + 80 * b ≠ addr)) } else s
    | none => s) s

/-- QUE_REL: the available descriptor is released. -/
def queRel (m : Master) (q : Nat) (s : State) : State :=
  let pop := (s.reg (Reg.QUE_POP q)).toNat
  let s' := queRelease m q s
  if s.mayWriteRegs m ∧ pop ≠ 0 then s'.poolFree q (s.rdLE pop 4) else s'

def execQueRel (m : Master) (q : Fin 64) (s : State) : Result := .next (queRel m q s)

/-! ### The Confirm key (R366, R478, R512) -/

/-- KEY_DOWN. -/
def keyDown (s : State) : State :=
  if s.flag Reg.PNL_KEY_DOWN then s else { s.setFlag Reg.PNL_KEY_DOWN true with pnl := { s.pnl with keyAt := s.mono } }

def execKeyDown (s : State) : Result := .next (keyDown s)

/-- Every bootstrap challenge that waits for the key has its press (R116). -/
def State.bootPress (s : State) : State :=
  { s with ksap := { s.ksap with challenges := s.ksap.challenges.map (fun c =>
      if c.boot ∧ s.mono ≤ c.at_ + 30000000000 then { c with pressed := true } else c) } }

/-- A test of R478 by the hold time in 10 ms units, on the ACTIVE unit and where the image permits it. -/
def State.keyTest (s : State) (held : Nat) : State :=
  let test := s.fld Reg.RDL_CFG_TEST
  if s.fld Reg.RDL_STAT_ROLE ≠ 2 ∨ held < 500 then s
  else if held < 1000 then (if bit test 0 then (s.raise 59 0 0).unitFault 9 0 59 false else s)
  else if bit test 1 then (s.raise 59 1 0).railsOff .ready else s

/-- KEY_RELEASE: a press belongs to an open window, else its hold time counts. -/
def keyRelease (held : Nat) (s : State) : State :=
  if ¬ s.flag Reg.PNL_KEY_DOWN then s
  else
    let window := s.keyWindow
    let h := if window then 0 else min 65535 held
    let s := ((s.setFlag Reg.PNL_KEY_DOWN false).setFld Reg.PNL_KEY_HELD h).setFlag Reg.PNL_KEY_WINDOW window
    let s := s.raise 245 (h + 65536 * b2n window) 0
    if window then (match s.saf.window with | some (v, _) => s.bootPress.confirmPress v | none => s.bootPress) else s.keyTest held

def execKeyRelease (held : Nat) (s : State) : Result := .next (keyRelease held s)

end Sys2Proof.Machine
end

