-- ==== Sys2Proof/Machine/RecorderOps.lean ====
section
/-! DEFINITION. The recorder's commands (19). -/

namespace Sys2Proof.Machine

/-- The record index that the next write will use. -/
def State.recNext (s : State) : Option Nat := s.evr.buf.head?.map (fun e => (s.recPlace e.cls).1)

/-- RECORD_WRITE (R484): the writer takes the next claimed entry, unless a clear is in progress (R492); an uncorrectable MRAM error of the
write is reported (R104, R497). -/
def recordWrite (ecc : Ecc) (s : State) : State :=
  if s.flag Reg.EVR_STAT_CLEARING then s
  else match s.recNext with
    | none => s
    | some i =>
      let s := s.recWriteOne.mramEcc (recAddr i) hardwareMaster ecc
      if eccBad ecc then s.raise 236 i 0 else s

def execRecordWrite (ecc : Ecc) (s : State) : Result := .next (recordWrite ecc s)

/-- Arm the first-out area (R491). -/
def State.arm (s : State) : State :=
  let s := s.setReg Reg.EVR_ARMSEQ (s.reg Reg.EVR_SEQ)
  let s := ((s.setFld Reg.EVR_STAT_FO_FILL 0).setFlag Reg.EVR_STAT_FO_STOP false).setFlag Reg.EVR_STAT_FO_FULL false
  s.raise 234 (s.reg Reg.EVR_ARMSEQ).toNat 0

/-- A write of EVR_CTRL (R491, R492): ARM, or CLEAR in HALT only. -/
def evrCtrl (m : Master) (w : Word) (s : State) : State :=
  if ¬ s.mayWriteRegs m then s.denyWrite m Reg.EVR_CTRL
  else if wordField w 8 8 ≠ 0xE7 then s
  else
    let s := if w.getLsbD 0 then s.arm else s
    if w.getLsbD 1 ∧ s.inHalt then (s.setReg Reg.EVR_CLRSEQ (s.reg Reg.EVR_SEQ)).setFlag Reg.EVR_STAT_CLEARING true else s

def execEvrArm (m : Master) (w : Word) (s : State) : Result := .next (evrCtrl m w s)
def execEvrClear (m : Master) (w : Word) (s : State) : Result := .next (evrCtrl m w s)

/-- Empty one record: SEQ_H 0 and SEQ_T 0xFFFF_FFFF (R492). -/
def State.emptyRecord (s : State) (i : Nat) : State := (s.wrLE (recAddr i) 4 0).wrLE (recAddr i + 248) 4 0xFFFFFFFF

/-- Empty records `n - 1` down to 0. -/
def State.emptyRecords (s : State) : Nat → State
  | 0 => s
  | n + 1 => State.emptyRecords (s.emptyRecord n) n

/-- EVR_CLEAR_END (R492): the erasure completes and the area is armed. -/
def evrClearEnd (s : State) : State :=
  if s.flag Reg.EVR_STAT_CLEARING then (((s.emptyRecords 8192).setFlag Reg.EVR_STAT_CLEARING false).arm).raise 233 0 0 else s

def execEvrClearEnd (s : State) : Result := .next (evrClearEnd s)

/-- EVR_SWREC (R482): a SOFT record with the list, INFO and the master of the write. -/
def evrSwrec (m : Master) (w : Word) (s : State) : State :=
  if ¬ s.mayWriteRegs m then s.denyWrite m Reg.EVR_SWREC
  else s.recClaim 3 0 (wordField w 16 16) m.num s.now 0 (some (wordField w 0 4))

def execEvrSwrec (m : Master) (w : Word) (s : State) : Result := .next (evrSwrec m w s)

/-- EVR_WIN_READ (R494): a window word, read live; a pair's read of EVR_WIN[63] with AUTO advances INDEX. -/
def evrWinRead (m : Master) (w : Nat) (s : State) : State :=
  let s' := s.ret m.num (s.liveReg (Reg.EVR_WIN w))
  if w = 63 ∧ m.isPair ∧ s.flag Reg.EVR_CUR_AUTO then s'.setFld Reg.EVR_CUR_INDEX (s.fld Reg.EVR_CUR_INDEX + 1) else s'

def execEvrWinRead (m : Master) (w : Fin 64) (s : State) : Result := .next (evrWinRead m w s)

end Sys2Proof.Machine
end

