-- ==== Sys2Proof/Machine/RegWrite.lean ====
section
/-! DEFINITION. Reading and writing a host register by address (R7, R8, R99, R108, R206): the behaviour of its own where its chapter gives one,
else its fields by their access codes. The host data port's own window acts in Hdp. -/

namespace Sys2Proof.Machine

/-- Whether an address is an aligned register address (R7, R97). -/
def isRegister (a : Nat) : Bool := decide (0x40000000 ≤ a) && decide (a < 0x400F0000) && decide (a % 4 = 0)

/-! ### Reads -/

/-- A register word after an RC read: its RC fields are back at their reset values (R8). -/
def RegSpec.cleared (r : RegSpec) (w : Word) : Word :=
  r.fields.foldl (fun (w : Word) f => if f.acc = .rc then wordWith w f.lo f.width f.reset else w) w

/-- A read of a register without behaviour of its own: its value, a latch, and for a core pair its RC fields cleared. -/
def State.plainRead (s : State) (m : Master) (a : Nat) : State :=
  let q := s.readQuiet m.num a
  let t := q.2.ret m.num q.1
  match regSpec a with
  | some r => if m.isPair then t.setReg a (r.cleared (t.reg a)) else t
  | none => t

/-- What a lock word returns to a reader that does not acquire (R147). -/
def State.lockSeen (s : State) (n m : Nat) : Nat := if s.lockOwner n = m + 1 then 0 else s.lockOwner n

/-- A register read by a master. -/
def State.regRead (s : State) (m : Master) (a : Nat) : State :=
  if ¬ isRegister a then s.busError m.num a
  else if 0x40011040 ≤ a ∧ a < 0x40011070 ∧ a % 16 = 0 then evtClaim m ((a - 0x40011040) / 16) s
  else if 0x40026000 ≤ a ∧ a < 0x40026080 then
    let n := (a - 0x40026000) / 4
    if m.isPair then lockAttempt n [m.num] s else s.ret m.num (s.lockSeen n m.num)
  else if 0x40030200 ≤ a ∧ a < 0x40030280 ∧ a % 16 = 12 then viewDataRead m ((a - 0x40030200) / 16) s
  else if a = Reg.LPE_RGNDATA then rgndataRead m s
  else if 0x400A0100 ≤ a ∧ a < 0x400A0200 then evrWinRead m ((a - 0x400A0100) / 4) s
  else if a = Reg.PNL_FBDATA then pnlFbdata m none s
  else s.plainRead m a

/-! ### Writes -/

/-- A register word after a write of `w` to its RW and W1C fields (R8). -/
def RegSpec.written (r : RegSpec) (old w : Word) : Word :=
  r.fields.foldl (fun (x : Word) f =>
    match f.acc with
    | .rw => wordWith x f.lo f.width (wordField w f.lo f.width)
    | .w1c => wordWith x f.lo f.width (wordField (x &&& ~~~w) f.lo f.width)
    | _ => x) old

/-- Bring the value of a bounded field to its nearest limit. -/
def clampField (w : Word) (lo width least most : Nat) : Word := wordWith w lo width (min most (max least (wordField w lo width)))

/-- The word a write counts as, where a chapter bounds a field: WAKE_LEAD, LIMIT, MS, PCT, list 15, view and frame offsets, mailbox ends. -/
def boundedWord (a : Nat) (w : Word) : Word :=
  if a = Reg.CPM_PSCFG then clampField w 8 8 50 255
  else if a = Reg.QUE_AGE_LIMIT then clampField w 0 16 1 65535
  else if a = Reg.IMG_RETAIN_MS then clampField w 0 11 10 1000
  else if a = Reg.IMG_SLACKWARN then clampField w 0 7 0 100
  else if 0x40030200 ≤ a ∧ a < 0x40030280 ∧ a % 16 = 8 then wordWith w 0 2 0
  else if a = Reg.PNL_FBADDR then clampField (wordWith w 0 2 0) 0 16 0 47996
  else if 0x400A0400 ≤ a ∧ a < 0x400A0800 then
    let src := (a - 0x400A0400) / 4
    let w := clampField w 4 4 0 14
    if 232 ≤ src ∧ src ≤ 239 then wordWith w 0 1 0 else w
  else if 0x40024800 ≤ a ∧ a < 0x40024A00 ∧ a % 128 = 0 then wordWith w 2 2 3
  else if 0x40024A00 ≤ a ∧ a < 0x40024C00 ∧ a % 128 = 0 then wordWith w 0 2 3
  else w

/-- A write that the recorder's lists ignore: list 15, or an address the loader would reject (R487, R496). -/
def listRefuses (a : Nat) (w : Word) : Bool :=
  decide (0x400A0800 ≤ a) && decide (a < 0x400A1000) && (decide (0x400A0F80 ≤ a) || !(snapOk w.toNat))

/-- A write of EVT_ROUTE that presents a pending source ends IDLE and, at its level, DOZE (R89, R90, R124). -/
def State.routeChanged (s : State) (src : Nat) : State :=
  if s.isPending src ∧ s.presented src then
    let s := s.setFlag (idleBit (s.fld (Reg.EVT_ROUTE_TARGET src))) false
    if s.cpm.phase = .doze ∧ s.fld Reg.CPM_PSCFG_WAKE_LVL ≤ s.fld (Reg.EVT_ROUTE_LEVEL src) then
      { s with cpm := { s.cpm with waking := true } }
    else s
  else s

/-- What follows a plain write: a route is presented, a view shows another task's number. -/
def State.afterWrite (s : State) (a : Nat) : State :=
  if 0x40010000 ≤ a ∧ a < 0x40010400 then s.routeChanged ((a - 0x40010000) / 4)
  else if 0x40030200 ≤ a ∧ a < 0x40030280 ∧ a % 16 = 8 then s.viewShow ((a - 0x40030200) / 16)
  else s

/-- A write of a register without behaviour of its own. -/
def State.plainWrite (s : State) (a : Nat) (w : Word) : State :=
  if 0x400E0800 ≤ a ∧ a < 0x400E1000 then s.setReg a w
  else match regSpec a with
    | some r => if listRefuses a w then s else (s.setReg a (r.written (s.reg a) (boundedWord a w))).afterWrite a
    | none => s

/-- A finding of the hardware that a plain register write does not carry: free. -/
def State.finding (s : State) : BitVec 24 := (Config.freeWord s.freeCtr).setWidth 24

/-- Writes in the queue, mailbox and lock window that have behaviour of their own. -/
def State.queWindowWrite (s : State) (m : Master) (a : Nat) (w : Word) : State :=
  if 0x40020100 ≤ a ∧ a < 0x40020900 then
    let q := (a - 0x40020100) / 32
    match (a - 0x40020100) % 32 with
    | 0 => queCfgWrite m q false w s
    | 4 => queCfgWrite m q true w s
    | 8 => quePush m q w.toNat s
    | 16 => queRel m q s
    | _ => s.plainWrite a w
  else if 0x40024000 ≤ a ∧ a < 0x40024C00 then
    let b := (a - 0x40024000) / 128
    let o := (a - 0x40024000) % 128
    if o = 8 then mbxPost m b w s
    else if o = 12 then mbxTake m b s
    else if 32 ≤ o ∧ o < 64 ∧ isEnd m (s.fld (Reg.MBX_CFG_SND b)) = false then s.denyWrite m a
    else s.plainWrite a w
  else if 0x40026000 ≤ a ∧ a < 0x40026080 then lockRelease m ((a - 0x40026000) / 4) w s
  else if a = Reg.LCK_HDPREQ then hdpReq m (wordField w 0 5) s
  else if a = Reg.LCK_HDPREL then hdpRel m (wordField w 0 5) s
  else s.plainWrite a w

/-- Writes of the single registers that have behaviour of their own. -/
def State.ownWrite (s : State) (m : Master) (a : Nat) (w : Word) : State :=
  if a = Reg.CPM_CTRL then cpmCtrl m w s
  else if a = Reg.CPM_CLKDIV then clkdivWrite m w s
  else if a = Reg.CPM_FMCTRL then fmStart m w s
  else if a = Reg.EVT_SWTRIG then evtSwtrig m w s
  else if a = Reg.LPE_PP_CTRL then ppGo m w s
  else if a = Reg.CHN_CTRL then chnCtrl m w s
  else if a = Reg.CHN_TRIM_CTRL then trimCtrl m w (s.finding.getLsbD 0) s.draw
  else if a = Reg.PTP_CTRL then ptpStep m w s
  else if a = Reg.PTP_ADDEND then ptpAddend m w s
  else if a = Reg.RDL_CTRL then rdlCtrl m w s
  else if a = Reg.EVR_CTRL then evrCtrl m w s
  else if a = Reg.EVR_SWREC then evrSwrec m w s
  else if a = Reg.CMP_CTRL then cmpPairRestart m w s.finding s.draw
  else if a = Reg.PNL_CTRL then pnlCtrl m w s
  else if a = Reg.PNL_FBDATA then pnlFbdata m (some w) s
  else if 0x40020000 ≤ a ∧ a < 0x40030000 then s.queWindowWrite m a w
  else if 0x40030200 ≤ a ∧ a < 0x40030280 ∧ a % 16 = 0 then viewCtrl m ((a - 0x40030200) / 16) w s
  else if 0x40070000 ≤ a ∧ a < 0x40074000 ∧ a % 0x1000 = 4 then canRecover m ((a - 0x40070000) / 0x1000) w s
  else if 0x40070000 ≤ a ∧ a < 0x40074000 ∧ a % 0x1000 = 0x54 then canHpPop m ((a - 0x40070000) / 0x1000) s
  else s.plainWrite a w

/-- A register write by a master: an unaligned or reserved address and a forbidden write end in a bus error. -/
def State.regWrite (s : State) (m : Master) (a : Nat) (w : Word) : State :=
  if ¬ isRegister a then s.busError m.num a
  else if a ≠ Reg.CPM_CLKDIV ∧ ¬ s.mayWriteRegs m then s.denyWrite m a
  else s.ownWrite m a w

end Sys2Proof.Machine
end

