-- ==== Sys2Proof/Machine/Hdp.lean ====
section
/-! DEFINITION. The host data port (04, R108 to R111): the rules of its accesses, single accesses and bursts. -/

namespace Sys2Proof.Machine

/-! ### The rules of an access (R97, R99, R107 to R110) -/

/-- Why the port does not perform an access. -/
inductive PortErr where
  | align | map | denied | ecc
  deriving DecidableEq, Repr

/-- The HDP_STAT bit of an error. -/
def PortErr.field : PortErr → Field
  | .align => Reg.HDP_STAT_ERR_ALIGN
  | .map => Reg.HDP_STAT_ERR_MAP
  | .denied => Reg.HDP_STAT_ERR_DENIED
  | .ecc => Reg.HDP_STAT_ERR_ECC

/-- The windows are one region; every other range of R97 and R103 is one of its own. -/
def regionKey (a : Nat) : Region := match region a with | .window _ => .window 0 | r => r

/-- Whether the region of an address is register windows. -/
def isWindow (a : Nat) : Bool := decide (regionKey a = .window 0)

/-- Whether the port may write a region now (R108); the image store only through the KSAP image commands. -/
def State.portMayWrite (s : State) (a : Nat) : Bool :=
  match region a with
  | .localSram _ | .sharedSram | .retain | .trim | .window _ | .slots => s.inHalt
  | .imageStore | .stateRec | .otp | .recorder | .reserved => false

/-- The check of a whole range of `n` bytes in words of `size`: alignment, map, rights. Registers are accessed in words of 4 alone (R7). -/
def State.portCheck (s : State) (a n size : Nat) (write : Bool) : Option PortErr :=
  if a % size ≠ 0 then some .align
  else if region a = .reserved ∨ 2 ^ 32 < a + n ∨ regionKey (a + (n - 1)) ≠ regionKey a then some .map
  else if isWindow a ∧ size ≠ 4 then some .align
  else if write ∧ ¬ s.portMayWrite a then some .denied
  else none

/-- A byte as the bus shows it: the key bytes of the access key slots read as 0 (R107). -/
def State.busByte (s : State) (a : Nat) : Byte :=
  if 0x205F0200 ≤ a ∧ a < 0x205F0300 ∧ (a - 0x205F0200) % 64 < 32 then 0 else s.byte a

/-- Set the error bit: EV_HDP_ERR; a forbidden access is a bus error of the port too (R99, R108). -/
def State.portFail (s : State) (e : PortErr) (a : Nat) : State :=
  let s := s.hdpErr e.field
  if e = .denied then s.busError 3 a else s

/-- One word read by the port; no other master sees it. -/
def State.portRead (s : State) (a size : Nat) : State × List Byte :=
  if isWindow a then
    let t := if 0x400E0000 ≤ a then s.plainRead .hdp a else s.regRead .hdp a
    (t, leBytes 4 (t.returned 3).toNat)
  else (s, (List.range size).map (fun i => s.busByte (a + i)))

/-- One word written by the port. -/
def State.portWrite (s : State) (a : Nat) (bs : List Byte) : State :=
  if isWindow a then
    let w := BitVec.ofNat 32 (leNat bs)
    if 0x400E0000 ≤ a then s.plainWrite a w else s.regWrite .hdp a w
  else s.wrBytes a bs

/-- Words read one after another. -/
def State.portReads (s : State) (a size : Nat) : Nat → State × List Byte
  | 0 => (s, [])
  | n + 1 =>
    let r := s.portRead a size
    let q := State.portReads r.1 (a + size) size n
    (q.1, r.2 ++ q.2)

/-- Words written one after another. -/
def State.portWrites (s : State) (a size : Nat) (bs : List Byte) : Nat → State
  | 0 => s
  | n + 1 => State.portWrites (s.portWrite a (bs.take size)) (a + size) size (bs.drop size) n

/-- Whether what the access finds stops it: an uncorrectable word on a read, or on the read of a narrower write (R100, R101, R104). -/
def portStops (a size : Nat) (write : Bool) (e : Ecc) : Bool :=
  eccBad e && (inSram a || inMram a) && (!write || decide (size < 8))

/-- What a write of whole 64-bit words finds is nothing: it reads no word. -/
def portFinds (size : Nat) (write : Bool) (e : Ecc) : Ecc := if write ∧ size = 8 then .clean else e

/-! ### Single accesses (R109) -/

def State.hdpSize (s : State) : Nat := 2 ^ s.fld Reg.HDP_CTRL_SIZE

/-- HDP_ADDR advances after a performed access with INC. -/
def State.hdpAdvance (s : State) : State :=
  if s.flag Reg.HDP_CTRL_INC then s.setFld Reg.HDP_ADDR_ADDR (s.fld Reg.HDP_ADDR_ADDR + s.hdpSize) else s

/-- An error of a single access: on a reserved address and on an unaligned register it is a bus error too (R99). -/
def State.hdpFail (s : State) (e : PortErr) (a : Nat) : State :=
  let s := s.portFail e a
  if e = .map ∨ (e = .align ∧ isWindow a) then s.busError 3 a else s

/-- An uncorrectable word: the port's access ends in a bus error that R99 does not raise. -/
def State.hdpEcc (s : State) (a : Nat) (e : Ecc) : State :=
  let s := (s.memEcc a 3 e).hdpErr Reg.HDP_STAT_ERR_ECC
  { s with busErr := 3 :: s.busErr.filter (fun x => decide (x ≠ 3)) }

/-- A read of HDP_DATA by a pair: the access, and its data; a read that is not performed returns no data (a free value). -/
def hdpDataRead (m : Master) (e : Ecc) (s : State) : State :=
  let a := s.fld Reg.HDP_ADDR_ADDR
  let size := s.hdpSize
  if ¬ m.isPair then s.plainRead m Reg.HDP_DATA
  else match s.portCheck a size size false with
    | some err => (s.hdpFail err a).draw.ret m.num (Config.freeWord s.freeCtr).toNat
    | none =>
      if portStops a size false e then (s.hdpEcc a e).draw.ret m.num (Config.freeWord s.freeCtr).toNat
      else
        let q := (s.memEcc a 3 e).portRead a size
        let v := leNat q.2
        let t := q.1.setReg Reg.HDP_DATA (BitVec.ofNat 32 v)
        let t := if size = 8 then t.setReg Reg.HDP_DATAH (BitVec.ofNat 32 (v / 2 ^ 32)) else t
        (t.hdpAdvance).ret m.num v

def execHdpDataRead (m : Master) (ecc : Ecc) (s : State) : Result := .next (hdpDataRead m ecc s)

/-- A write of HDP_DATA by a pair: the access; its high word is HDP_DATAH. -/
def hdpDataWrite (m : Master) (w : Word) (e : Ecc) (s : State) : State :=
  let a := s.fld Reg.HDP_ADDR_ADDR
  let size := s.hdpSize
  if ¬ s.mayWriteRegs m then s.denyWrite m Reg.HDP_DATA
  else
    let s := s.setReg Reg.HDP_DATA w
    if ¬ m.isPair then s
    else match s.portCheck a size size true with
      | some err => s.hdpFail err a
      | none =>
        if portStops a size true e then s.hdpEcc a e
        else
          let v := w.toNat + 2 ^ 32 * (s.reg Reg.HDP_DATAH).toNat
          ((s.memEcc a 3 (portFinds size true e)).portWrite a (leBytes size v)).hdpAdvance

def execHdpDataWrite (m : Master) (w : Word) (ecc : Ecc) (s : State) : Result := .next (hdpDataWrite m w ecc s)

/-! ### Bursts (R110) -/

/-- Set SIZE, INC, DIR and COUNT. -/
def State.hdpCtrlSet (s : State) (w : Word) : State :=
  let c := wordField w 8 9
  let s := (s.setFld Reg.HDP_CTRL_SIZE (wordField w 0 2)).setFld Reg.HDP_CTRL_INC (wordField w 2 1)
  (s.setFld Reg.HDP_CTRL_DIR (wordField w 3 1)).setFld Reg.HDP_CTRL_COUNT (if c = 0 ∨ 256 < c then 256 else c)

/-- GO: the whole range is checked, then the burst runs; a rejected one ends at once with nothing moved. -/
def State.hdpGo (s : State) : State :=
  let a := s.fld Reg.HDP_ADDR_ADDR
  let size := s.hdpSize
  let n := s.fld Reg.HDP_CTRL_COUNT
  let write := s.flag Reg.HDP_CTRL_DIR
  match s.portCheck a (n * size) size write with
  | some e => ((s.portFail e a).setFld Reg.HDP_STAT_XFER 0).setFlag Reg.HDP_STAT_DONE true
  | none => { s.setFlag Reg.HDP_STAT_BUSY true with hdp := some ⟨a, size, n, write⟩ }

/-- A write of HDP_CTRL. -/
def hdpCtrl (m : Master) (w : Word) (s : State) : State :=
  if ¬ s.mayWriteRegs m then s.denyWrite m Reg.HDP_CTRL
  else if w.getLsbD 4 ∧ s.flag Reg.HDP_STAT_BUSY then s
  else if w.getLsbD 4 then (s.hdpCtrlSet w).hdpGo
  else s.hdpCtrlSet w

def execHdpBurstGo (m : Master) (w : Word) (s : State) : Result := .next (hdpCtrl m w s)

/-- Address of HDP_BUF[i]. -/
def bufAddr (i : Nat) : Nat := 0x400E0800 + 8 * i

/-- A burst word into its buffer entry, zero-extended. -/
def State.bufPut (s : State) (i : Nat) (bs : List Byte) : State :=
  let v := leNat bs
  (s.setReg (bufAddr i) (BitVec.ofNat 32 v)).setReg (bufAddr i + 4) (BitVec.ofNat 32 (v / 2 ^ 32))

/-- The low `size` bytes of a buffer entry. -/
def State.bufGet (s : State) (i size : Nat) : List Byte :=
  leBytes size ((s.reg (bufAddr i)).toNat + 2 ^ 32 * (s.reg (bufAddr i + 4)).toNat)

/-- Move words `i` to `i + n − 1` of a burst. -/
def State.burstMove (s : State) (b : HdpBurst) (i : Nat) : Nat → State
  | 0 => s
  | n + 1 =>
    let a := b.addr + b.size * i
    let t := if b.write then s.portWrite a (s.bufGet i b.size)
      else
        let q := s.portRead a b.size
        q.1.bufPut i q.2
    State.burstMove t b (i + 1) n

/-- HDP_BURST_DONE: all words have moved, or those before the word (number `good`) that failed. -/
def hdpBurstDone (e : Ecc) (good : Nat) (s : State) : State :=
  match s.hdp with
  | none => s
  | some b =>
    let k := min good (b.count - 1)
    let at_ := b.addr + b.size * k
    let stops := portStops b.addr b.size b.write e
    let n := if stops then k else b.count
    let s := { s with hdp := none }
    let s := s.burstMove b 0 n
    let s := if stops then s.hdpEcc at_ e else s.memEcc at_ 3 (portFinds b.size b.write e)
    let s := (s.setFld Reg.HDP_ADDR_ADDR (b.addr + b.size * n)).setFld Reg.HDP_STAT_XFER n
    (s.setFlag Reg.HDP_STAT_BUSY false).setFlag Reg.HDP_STAT_DONE true

def execHdpBurstDone (ecc : Ecc) (good : Nat) (s : State) : Result := .next (hdpBurstDone ecc good s)

/-! ### Any register access by a master (R8, R206) -/

/-- A read of any register: HDP_DATA performs the port's access. -/
def State.anyRead (s : State) (m : Master) (a : Nat) : State := if a = Reg.HDP_DATA then hdpDataRead m .clean s else s.regRead m a

/-- RC_FIELD_READ: a read that returns RC fields and, for a core pair, resets them. -/
def execRcFieldRead (m : Master) (addr : Nat) (s : State) : Result := .next (s.anyRead m addr)

/-- LATCHED_LOW_WORD_READ: a read that latches the higher words for its master. -/
def execLatchedLowWordRead (m : Master) (addr : Nat) (s : State) : Result := .next (s.anyRead m addr)

/-- REGISTER_WRITE. -/
def anyWrite (m : Master) (a : Nat) (w : Word) (s : State) : State :=
  if a = Reg.HDP_DATA then hdpDataWrite m w .clean s else if a = Reg.HDP_CTRL then hdpCtrl m w s else s.regWrite m a w

def execRegisterWrite (m : Master) (addr : Nat) (w : Word) (s : State) : Result := .next (anyWrite m addr w s)

end Sys2Proof.Machine
end

