-- ==== Sys2Proof/Machine/Ksap.lean ====
section
/-! DEFINITION. The Kereth Station Access Protocol (04, R112 to R119), with the image load (06, R159 to R161, R178), change sets (06, R173 to
R177), the confirmation window (13, R366) and the OTP slots (04, R106, R107). -/

namespace Sys2Proof.Machine

/-! ### Frames (R113, R114) -/

/-- The types a tool may send. -/
def tHello : Nat := 0x01
def tAuth : Nat := 0x03
def tRead : Nat := 0x10
def tWrite : Nat := 0x12
def tStatus : Nat := 0x20
def tBegin : Nat := 0x30
def tData : Nat := 0x31
def tEnd : Nat := 0x32
def tChange : Nat := 0x40
def tConfirm : Nat := 0x50
def tOtp : Nat := 0x60
def tClose : Nat := 0x7E
def toolTypes : List Nat := [tHello, tAuth, tRead, tWrite, tStatus, tBegin, tData, tEnd, tChange, tConfirm, tOtp, tClose]

/-- The types that need write rights (R118). -/
def writeTypes : List Nat := [tWrite, tBegin, tData, tEnd, tChange, tConfirm, tOtp]

/-- Fields of a frame: TYPE, SID, SEQ, LEN, and everything between the header and the last 32 bytes. -/
def kType (f : List Byte) : Nat := u8 f 3
def kSid (f : List Byte) : Nat := beNat (slice f 4 4)
def kSeq (f : List Byte) : Nat := beNat (slice f 8 4)
def kLen (f : List Byte) : Nat := beNat (slice f 12 2)
def kBody (f : List Byte) : List Byte := slice f 16 (f.length - 48)

/-- A datagram that is a KSAP frame at all. -/
def kFrame (f : List Byte) : Bool := decide (48 ≤ f.length) && decide (f.length ≤ 1472) && decide (slice f 0 3 = [0x4B, 0x53, 0x01])

/-- Whether LEN matches the datagram. -/
def kLenOk (f : List Byte) : Bool := decide (kLen f + 48 = f.length)

/-- A frame of the module, up to its MAC. -/
def kReply (ty sid seq : Nat) (p : List Byte) : List Byte :=
  [0x4B, 0x53, 0x01, BitVec.ofNat 8 ty] ++ beBytes 4 sid ++ beBytes 4 seq ++ beBytes 2 p.length ++ [0, 1] ++ p

def kSigned (key f : List Byte) : List Byte := f ++ hmac key f
def kPlain (f : List Byte) : List Byte := f ++ List.replicate 32 0

/-- Payload of an ERROR. -/
def kError (code ty detail : Nat) : List Byte := beBytes 2 code ++ [BitVec.ofNat 8 ty, 0] ++ beBytes 4 detail

/-- Whether KSAP is served on a switch port now (R112, R90, R516). -/
def State.kServes (s : State) (port : Nat) : Bool :=
  let runs := decide (s.cpm.phase = .run) || (decide (s.cpm.phase = .halt) && (!s.cpm.faulted || s.cpm.service))
  let allowed := match s.img.bind (fun i => i.systemTag 0x0004) with | some b => bit (u16 b 2) port | none => false
  runs && !(s.flag Reg.CPM_STAT_PLL_COAST) && s.portUp port && (decide (port = 2) || allowed)

/-- Two fresh random words: 32 bytes. -/
def State.randomBytes (s : State) (n : Nat) : List Byte :=
  leBytes 16 (Config.randomWord (s.freeCtr + n)).toNat ++ leBytes 16 (Config.randomWord (s.freeCtr + n + 1)).toNat

/-- An ERROR that no session key covers: its MAC is a free value (R113 gives it no key). -/
def State.sendLoose (s : State) (ip : Nat) (f : List Byte) (code : Nat) : State :=
  let r := kReply 0x7F (kSid f) (kSeq f) (kError code (kType f) 0)
  (s.send (.ksap ip (r ++ s.randomBytes 0))).draw.draw

/-! ### Opening a session (R115, R116) -/

/-- An authentication fails: EV_KSAP_AUTHFAIL, ERROR AUTH_FAIL, and the addresses to ignore. -/
def State.authFail (s : State) (ip : Nat) (f : List Byte) : State :=
  let fails := s.mono :: s.ksap.fails.filter (fun t => decide (s.mono ≤ t + 60000000000))
  let quiet := if 8 ≤ fails.length then s.mono + 60000000000 else s.ksap.quietTo
  let ign := (ip, s.mono + 1000000000) :: s.ksap.ignored.filter (fun x => decide (x.1 ≠ ip))
  let s := { s with ksap := { s.ksap with fails := fails, quietTo := quiet, ignored := ign } }
  (s.raise 12 0 0).send (.ksap ip (kPlain (kReply 0x7F (kSid f) (kSeq f) (kError 0x000C (kType f) 0))))

/-- Whether HELLO from an address is ignored now. -/
def State.helloIgnored (s : State) (ip : Nat) : Bool :=
  decide (s.mono < s.ksap.quietTo) || s.ksap.ignored.any (fun x => decide (x.1 = ip) && decide (s.mono < x.2))

/-- K of a slot: 32 zero bytes for slot 0xFF. -/
def State.slotKey (s : State) (k : Nat) : List Byte := if k = 0xFF then List.replicate 32 0 else s.bytes (otpSlot 1 k) 32

/-- A random SID that is neither 0 nor in use. -/
def State.newSid (s : State) : Nat :=
  let r := (Config.randomWord (s.freeCtr + 1)).toNat % 2 ^ 32
  let used := 0 :: s.ksap.sessions.map (fun x => x.sid) ++ s.ksap.challenges.map (fun x => x.sid)
  ((((List.range (used.length + 1)).map (fun n => (r + n) % 2 ^ 32)).find? (fun x => !(used.contains x))).getD 1)

/-- CHALLENGE: a fresh nonce and a new SID. -/
def State.challenge (s : State) (ip : Nat) (f : List Byte) : State :=
  let p := kBody f
  let k := u8 p 16
  let nm := leBytes 16 (Config.randomWord s.freeCtr).toNat
  let sid := s.newSid
  let c : Challenge := ⟨sid, ip, s.slotKey k, nm, slice p 0 16, bit (u8 p 17) 0, decide (k = 0xFF), s.mono, false⟩
  let s := (s.send (.ksap ip (kPlain (kReply 0x02 sid (kSeq f) nm)))).draw.draw
  { s with ksap := { s.ksap with challenges := s.ksap.challenges ++ [c] } }

/-- HELLO. -/
def hello (port : Nat) (ip : Nat) (f : List Byte) (s : State) : State :=
  let k := u8 (kBody f) 16
  if ¬ s.kServes port ∨ ¬ kFrame f ∨ kType f ≠ tHello ∨ s.helloIgnored ip then s
  else if ¬ kLenOk f ∨ kLen f ≠ 18 ∨ (4 ≤ k ∧ k ≠ 0xFF) then s.sendLoose ip f 0x0001
  else if (k = 0xFF ∧ s.activeSlots 1 ≠ []) ∨ (k < 4 ∧ ¬ s.otpActive 1 k) then s.authFail ip f
  else s.challenge ip f

def execHello (port : Fin 3) (ip : Nat) (frame : List Byte) (s : State) : Result := .next (hello port.val ip frame s)

/-- "KSAP1-T", "KSAP1-M" and "KSAP1-S" by their last letter. -/
def kLabel (c : Byte) : List Byte := [0x4B, 0x53, 0x41, 0x50, 0x31, 0x2D, c]

/-- Whether an AUTH satisfies its challenge. -/
def State.authOk (s : State) (c : Challenge) (f : List Byte) : Bool :=
  let life := if c.boot then 30000000000 else 5000000000
  decide (s.mono ≤ c.at_ + life) && (!c.boot || c.pressed) &&
    decide (kBody f = hmac c.key (kLabel 0x54 ++ c.nm ++ c.nt ++ beBytes 4 c.sid))

/-- Whether any session has write rights. -/
def State.writeHeld (s : State) : Bool := s.ksap.sessions.any (fun x => x.write)

/-- AUTH_OK: the session opens. -/
def State.openSession (s : State) (ip : Nat) (c : Challenge) (f : List Byte) : State :=
  let key := hmac c.key (kLabel 0x53 ++ c.nm ++ c.nt ++ beBytes 4 c.sid)
  let w := c.write && !s.writeHeld
  let x : Session := ⟨c.sid, ip, key, w, c.boot, 0, [], 0, s.mono⟩
  let proof := hmac c.key (kLabel 0x4D ++ c.nt ++ c.nm ++ beBytes 4 c.sid)
  let s := s.send (.ksap ip (kPlain (kReply 0x04 c.sid (kSeq f) (proof ++ [BitVec.ofNat 8 (b2n w)]))))
  let left := s.ksap.challenges.filter (fun d => decide (d.sid ≠ c.sid))
  ({ s with ksap := { s.ksap with challenges := left, sessions := s.ksap.sessions ++ [x] } }).raise 10 0 0

/-- AUTH. -/
def auth (port : Nat) (ip : Nat) (f : List Byte) (s : State) : State :=
  if ¬ s.kServes port ∨ ¬ kFrame f ∨ kType f ≠ tAuth then s
  else match s.ksap.challenges.find? (fun c => decide (c.sid = kSid f)) with
    | none => s.sendLoose ip f 0x0003
    | some c =>
      if ¬ kLenOk f ∨ kLen f ≠ 32 then s.sendLoose ip f 0x0001
      else if ¬ s.authOk c f then s.authFail ip f
      else if 4 ≤ s.ksap.sessions.length then s
      else s.openSession ip c f

def execAuth (port : Fin 3) (ip : Nat) (frame : List Byte) (s : State) : Result := .next (auth port.val ip frame s)

/-! ### Requests in a session (R116 to R119) -/

/-- What is left to do once the answer has been sent. -/
inductive KAfter where
  | stay | close | leave
  deriving DecidableEq, Repr

/-- The answer to a request: the state after its effect, the type and payload of the reply (none for CLOSE), and what follows. -/
structure Answer where
  st : State
  ty : Nat
  payload : List Byte
  silent : Bool
  after_ : KAfter

/-- An acknowledgement, and an ERROR. -/
def ack (s : State) (ty : Nat) (p : List Byte) : Answer := ⟨s, ty, p, false, .stay⟩
def refuse (s : State) (ty code detail : Nat) : Answer := ⟨s, 0x7F, kError code ty detail, false, .stay⟩

/-- Replace a session. -/
def State.setSession (s : State) (x : Session) : State :=
  { s with ksap := { s.ksap with sessions := s.ksap.sessions.map (fun y => if y.sid = x.sid then x else y) } }

/-- Whether the identity record covers a READ (R106, R116). -/
def readsIdentity (p : List Byte) : Bool :=
  let a := beNat (slice p 0 4)
  decide (0x205F0000 ≤ a) && decide (a + beNat (slice p 5 2) * 2 ^ (u8 p 4) ≤ 0x205F0100)

/-- What a bootstrap session refuses (R116): the code. -/
def bootRefuses (ty : Nat) (p : List Byte) : Option Nat :=
  if ty = tStatus ∨ ty = tClose then none
  else if ty = tRead then (if readsIdentity p then none else some 0x0004)
  else if ty = tOtp then (if u8 p 0 = 1 then none else some 0x0004)
  else some 0x0002

/-- A request whose MAC and SEQ are good: what refuses it before its own work, or its work. -/
def State.kAnswer (s : State) (x : Session) (f : List Byte) (work : Session → List Byte → State → Answer) : Answer :=
  let ty := kType f
  let p := kBody f
  let a := if ty = tWrite ∨ ty = tRead then beNat (slice p 0 4) else 0
  if ¬ kLenOk f then refuse s ty 0x0001 0
  else if ¬ (toolTypes.drop 2).contains ty then refuse s ty 0x0002 0
  else if writeTypes.contains ty ∧ ¬ x.write ∧ s.writeHeld ∧ ¬ x.boot then refuse s ty 0x0009 0
  else match (if x.boot then bootRefuses ty p else none) with
    | some code => refuse s ty code (if code = 0x0004 then a else 0)
    | none => if writeTypes.contains ty ∧ ¬ x.write then refuse s ty (if s.writeHeld then 0x0009 else 0x0004) a else work x p s

/-- Send the answer, keep it as the reply to its SEQ, and do what follows. -/
def State.kFinish (s : State) (x : Session) (ip : Nat) (f : List Byte) (r : Answer) : State :=
  let out := kSigned x.key (kReply r.ty x.sid (kSeq f) r.payload)
  let t := r.st.setSession { x with seq := kSeq f, replies := ((kSeq f, out) :: x.replies).take 8, macFails := 0, validAt := s.mono }
  let t := if r.silent then t else t.send (.ksap ip out)
  match r.after_ with
  | .stay => t
  | .close => t.endSession x.sid
  | .leave => t.leftStandby true

/-- A request of a row: `ours` says which frames of type `ty` are the row's own, `work` what a request does. Frames that belong to another row
change nothing here. -/
def kRequest (port ty ip : Nat) (f : List Byte) (ours : List Byte → Bool) (work : Session → List Byte → State → Answer) (s : State) : State :=
  if ¬ s.kServes port ∨ ¬ kFrame f ∨ (toolTypes.contains (kType f) ∧ (kType f ≠ ty ∨ ¬ ours (kBody f))) then s
  else match s.ksap.sessions.find? (fun x => decide (x.sid = kSid f)) with
    | none => s.sendLoose ip f 0x0003
    | some x =>
      if f.drop (f.length - 32) ≠ hmac x.key (f.take (f.length - 32)) then
        if 16 ≤ x.macFails + 1 then s.endSession x.sid else s.setSession { x with macFails := x.macFails + 1 }
      else match x.replies.find? (fun r => decide (r.1 = kSeq f)) with
        | some r => (s.setSession { x with macFails := 0, validAt := s.mono }).send (.ksap ip r.2)
        | none =>
          if newer 32 (kSeq f) x.seq ∧ (kSeq f + 2 ^ 32 - x.seq) % 2 ^ 32 ≤ 8 then s.kFinish x ip f (s.kAnswer x f work)
          else s.setSession { x with macFails := 0, validAt := s.mono }

/-- Every frame of the type is the row's. -/
def anyFrame (_ : List Byte) : Bool := true

/-! ### STATUS, READ and WRITE -/

/-- Payload of the STATUS reply. -/
def State.statusReply (s : State) : List Byte :=
  beBytes 1 (s.fld Reg.RDL_STAT_ROLE) ++ beBytes 1 (s.fld Reg.CPM_STAT_PSTATE) ++ [0, 0] ++ beBytes 4 (s.fld Reg.CPM_OPSEC_OPSEC) ++
    beBytes 4 (s.reg Reg.CPM_PWRCYC).toNat ++ beBytes 6 (secOf s.now) ++ beBytes 4 (nsOf s.now) ++
    beBytes 1 (b2n (s.flag Reg.PTP_STAT_TRACE)) ++ [0]

def statusWork (_ : Session) (p : List Byte) (s : State) : Answer :=
  if p ≠ [] then refuse s tStatus 0x0001 0 else ack s tStatus s.statusReply

def execStatusReq (port : Fin 3) (ip : Nat) (frame : List Byte) (s : State) : Result :=
  .next (kRequest port.val tStatus ip frame anyFrame statusWork s)

/-- The range of READ and WRITE: address, size in bytes, words; none where its fields are out of range. -/
def kRange (p : List Byte) : Option (Nat × Nat × Nat) :=
  let size := 2 ^ u8 p 4
  let n := beNat (slice p 5 2)
  if u8 p 4 ≤ 3 ∧ 1 ≤ n ∧ n * size ≤ 1024 then some (beNat (slice p 0 4), size, n) else none

/-- The ERROR code of a port error. -/
def portCode : PortErr → Nat
  | .align => 0x0006
  | .map => 0x0007
  | .denied => 0x0004
  | .ecc => 0x0008

def readWork (e : Ecc) (good : Nat) (_ : Session) (p : List Byte) (s : State) : Answer :=
  match (if p.length = 8 then kRange p else none) with
  | none => refuse s tRead 0x0001 0
  | some (a, size, n) =>
    match s.portCheck a (n * size) size false with
    | some err => refuse (s.portFail err a) tRead (portCode err) a
    | none =>
      let k := min good (n - 1)
      if portStops a size false e then
        let t := (s.portReads a size k).1
        refuse (t.hdpEcc (a + size * k) e) tRead 0x0008 (a + size * k)
      else
        let q := s.portReads a size n
        ack (q.1.memEcc (a + size * k) 3 e) 0x11 (p ++ q.2)

def execReadMem (port : Fin 3) (ip : Nat) (frame : List Byte) (ecc : Ecc) (good : Nat) (s : State) : Result :=
  .next (kRequest port.val tRead ip frame anyFrame (readWork ecc good) s)

def writeWork (e : Ecc) (good : Nat) (_ : Session) (p : List Byte) (s : State) : Answer :=
  match kRange p with
  | none => refuse s tWrite 0x0001 0
  | some (a, size, n) =>
    if p.length ≠ 8 + n * size then refuse s tWrite 0x0001 0
    else match s.portCheck a (n * size) size true with
      | some err => refuse (s.portFail err a) tWrite (portCode err) a
      | none =>
        let k := min good (n - 1)
        let bs := p.drop 8
        if portStops a size true e then
          refuse ((s.portWrites a size bs k).hdpEcc (a + size * k) e) tWrite 0x0008 (a + size * k)
        else ack ((s.portWrites a size bs n).memEcc (a + size * k) 3 (portFinds size true e)) 0x13 (p.take 8)

def execWriteMem (port : Fin 3) (ip : Nat) (frame : List Byte) (ecc : Ecc) (good : Nat) (s : State) : Result :=
  .next (kRequest port.val tWrite ip frame anyFrame (writeWork ecc good) s)

/-! ### The image load (R159 to R161, R178) -/

/-- Whether this unit may load an image: HALT, or a STANDBY. -/
def State.mayLoad (s : State) : Bool := s.inHalt || decide (s.fld Reg.RDL_STAT_ROLE = 3)

def beginWork (x : Session) (p : List Byte) (s : State) : Answer :=
  if p.length ≠ 4 then refuse s tBegin 0x0001 0
  else if ¬ s.mayLoad then refuse s tBegin 0x0005 0
  else if s.load.isSome ∨ s.swapLoading then refuse s tBegin 0x0009 0
  else ack (s.loadBegin x.sid (beNat p)) tBegin []

def execImageBegin (port : Fin 3) (ip : Nat) (frame : List Byte) (s : State) : Result :=
  .next (kRequest port.val tBegin ip frame anyFrame beginWork s)

/-- Whether a block's offset and length are those of R159. -/
def blockOk (total off n : Nat) : Bool :=
  decide (off % 1024 = 0) && (decide (n = 1024 ∧ off + n ≤ total) || decide (1 ≤ n ∧ n ≤ 1024 ∧ off + n = total))

def dataWork (x : Session) (p : List Byte) (s : State) : Answer :=
  let off := beNat (slice p 0 4)
  let n := beNat (slice p 4 2)
  if p.length < 8 ∨ p.length ≠ 8 + n then refuse s tData 0x0001 0
  else match s.load.filter (fun l => decide (l.sid = x.sid)) with
    | none => refuse s tData 0x0005 0
    | some l => if ¬ blockOk l.total off n then refuse s tData 0x0001 0 else ack (s.loadBlock l off (p.drop 8)) tData []

def execImageData (port : Fin 3) (ip : Nat) (frame : List Byte) (s : State) : Result :=
  .next (kRequest port.val tData ip frame anyFrame dataWork s)

/-- The result of IMAGE_END's checks on a failure. -/
def State.loadFails (s : State) (standby : Bool) (v : Nat × Nat) : Answer :=
  let s := ({ s with load := none }).loadReject v
  let s := if standby then s.setFld Reg.WVE_SWAP_ABORT v.1 else s
  refuse s tEnd 0x000A (v.1 + 65536 * v.2)

/-- A swap-load's image is LOADED beside the running one. -/
def State.swapLoaded (s : State) (l : ImageLoad) (i : Image) : State :=
  let s := (s.wrBytes storeAt l.head).journalEmpty
  let s := ({ s with load := none, imgAlt := some i }).setReg Reg.WVE_LOADRES 0x00FF0000
  ((s.raise 14 i.build 0).setFld Reg.WVE_SWAP_ABORT 0).wvePhase 1

/-- `e`: an uncorrectable error met in the store (R104). -/
def endWork (e : Option (Nat × BitVec 8)) (x : Session) (p : List Byte) (s : State) : Answer :=
  if p ≠ [] then refuse s tEnd 0x0001 0
  else match s.load.filter (fun l => decide (l.sid = x.sid)) with
    | none => refuse s tEnd 0x0005 0
    | some l =>
      let b := s.loadBytes l
      let standby := !s.inHalt
      let s := s.startEcc e
      match s.allChecks b l.total l.blocks e.isSome with
      | some v => s.loadFails standby v
      | none =>
        let i := imageOf b
        if standby then
          match s.swapChecks i with
          | some v => s.loadFails true v
          | none => ack (s.swapLoaded l i) tEnd []
        else ack (({ s with load := none }).loadAccept l i) tEnd []

def execImageEnd (port : Fin 3) (ip : Nat) (frame : List Byte) (storeEcc : Option (Nat × BitVec 8)) (s : State) : Result :=
  .next (kRequest port.val tEnd ip frame anyFrame (endWork storeEcc) s)

/-! ### CHANGE (R173 to R178, R182) -/

/-- The layout of R173. -/
def changeOk (p : List Byte) : Bool :=
  let n := u8 p 2
  decide (p.length = 12 + 12 * n) && decide (u8 p 3 = 0) &&
    (if u8 p 0 = 1 then decide (1 ≤ n) && decide (n ≤ 64) && (List.range n).all (fun k => decide (beNat (slice p (14 + 12 * k) 2) = 0))
     else decide (u8 p 0 = 2 ∨ u8 p 0 = 3) && decide (n = 0) && decide (u8 p 1 = 0))

/-- The first reason against a set's records, in record order. -/
def recsRefused (all : List ChgEntry) (c : Nat) (seen : List Nat) : List (Nat × Nat) → Option Nat
  | [] => none
  | r :: rs =>
    match all[r.1]? with
    | none => some 0x0100
    | some e =>
      if e.task ≠ c then some 0x0102
      else if seen.contains r.1 then some 0x0103
      else if !(chgForm e.ty r.2 && chgLe e.ty e.min r.2 && chgLe e.ty r.2 e.max) then some 0x0101
      else recsRefused all c (r.1 :: seen) rs

/-- Whether this unit controls a running station. -/
def State.runsControl (s : State) : Bool := decide (s.cpm.phase = .run) && s.inControl

/-- Why a change set is refused (R174). -/
def State.setRefused (s : State) (build c : Nat) (recs : List (Nat × Nat)) : Option Nat :=
  if ¬ s.runsControl then some 0x0106
  else if build ≠ imgBuild s.img then some 0x0108
  else if s.fld Reg.WVE_SWAP_PHASE = 3 then some 0x0107
  else if 16 ≤ s.changes.length then some 0x0104
  else if ¬ s.journalFits recs.length then some 0x0105
  else recsRefused (match s.img with | some i => i.changeables | none => []) c [] recs

/-- The set is journalled, then queued. -/
def State.acceptSet (s : State) (c setId : Nat) (recs : List (Nat × Nat)) : State :=
  let s := s.journalAppend c setId recs
  let q := s.changes ++ [⟨c, setId, recs, s.now⟩]
  ({ s with changes := q }).setFld Reg.WVE_CHGSTAT_PENDING q.length

def setWork (_ : Session) (p : List Byte) (s : State) : Answer :=
  let setId := beNat (slice p 4 4)
  let recs := setRecs (p.drop 12) (u8 p 2)
  if ¬ changeOk p then refuse s tChange 0x0001 0
  else match s.setRefused (beNat (slice p 8 4)) (u8 p 1) recs with
    | some code => refuse (s.raise 17 code setId) tChange 0x000A code
    | none => ack (s.acceptSet (u8 p 1) setId recs) tChange []

/-- OP 1, and every OP that is none. -/
def execChangeSet (port : Fin 3) (ip : Nat) (frame : List Byte) (s : State) : Result :=
  .next (kRequest port.val tChange ip frame (fun p => decide (u8 p 0 ≠ 2 ∧ u8 p 0 ≠ 3)) setWork s)

/-- Why a swap request is refused (R178): role, build, then CHG_SWAP. -/
def State.swapReqRefused (s : State) (build phase : Nat) (needConf : Bool) : Option Nat :=
  if s.fld Reg.RDL_STAT_ROLE ≠ 2 ∨ s.cpm.phase ≠ .run then some 0x0106
  else if build ≠ imgBuild s.img then some 0x0108
  else if s.changes ≠ [] ∨ phase ≠ 2 ∨ needConf ∨ ¬ s.flag Reg.RDL_LINK_UP ∨ s.swapUnderWay then some 0x0107
  else none

/-- `phase` and `needConf` are what the standby reports of its own WVE_SWAP. -/
def swapReqWork (phase : Nat) (needConf : Bool) (_ : Session) (p : List Byte) (s : State) : Answer :=
  if ¬ changeOk p then refuse s tChange 0x0001 0
  else match s.swapReqRefused (beNat (slice p 8 4)) phase needConf with
    | some code => refuse s tChange 0x000A code
    | none =>
      let ts := s.t0After (s.now + 100000000)
      ack (((s.swapFix ts true).swapLoadFix ts).tell (.swapProp ts true)) tChange []

def execChangeSwapRequest (port : Fin 3) (ip : Nat) (frame : List Byte) (phase : Nat) (needConf : Bool) (s : State) : Result :=
  .next (kRequest port.val tChange ip frame (fun p => decide (u8 p 0 = 2)) (swapReqWork phase needConf) s)

/-- OP 3: on the active the swap ends and the standby is told; a standby abandons its load, acknowledges, and restarts. -/
def swapCancelWork (_ : Session) (p : List Byte) (s : State) : Answer :=
  if ¬ changeOk p then refuse s tChange 0x0001 0
  else if s.fld Reg.RDL_STAT_ROLE = 2 ∧ s.cpm.phase = .run then
    let t := if s.rdl.swapAt.isSome then s.swapFail else s.tell (.swapCancel 0)
    ack t.abandonSwap tChange []
  else if s.swapLoading ∧ s.fld Reg.RDL_STAT_ROLE = 3 then { ack s.swapEnd.abandonSwap tChange [] with after_ := .leave }
  else refuse s tChange 0x0005 0

def execChangeSwapCancel (port : Fin 3) (ip : Nat) (frame : List Byte) (s : State) : Result :=
  .next (kRequest port.val tChange ip frame (fun p => decide (u8 p 0 = 3)) swapCancelWork s)

/-! ### CONFIRM (R366) -/

/-- Whether a value is the running image's, or on a STANDBY in PREPARED the prepared one's. -/
def State.confMatches (s : State) (v : Nat) : Bool :=
  (s.img.isSome && decide (v = s.safeChk)) ||
    (decide (s.fld Reg.RDL_STAT_ROLE = 3) && decide (s.fld Reg.WVE_SWAP_PHASE = 2) && s.imgAlt.any (fun i => decide (v = i.safeChk)))

/-- Whether a bootstrap session is awaiting the key. -/
def State.bootWaits (s : State) : Bool :=
  s.ksap.challenges.any (fun c => c.boot && !c.pressed && decide (s.mono ≤ c.at_ + 30000000000))

def confirmWork (_ : Session) (p : List Byte) (s : State) : Answer :=
  let v := beNat p
  if p.length ≠ 4 then refuse s tConfirm 0x0001 0
  else if ¬ s.confMatches v then refuse s tConfirm 0x0005 1
  else if s.confirmed v then ack s tConfirm []
  else if s.saf.window.isSome then refuse s tConfirm 0x0005 2
  else if s.bootWaits then refuse s tConfirm 0x0005 3
  else ack (s.openWindow v) tConfirm []

def execConfirmReq (port : Fin 3) (ip : Nat) (frame : List Byte) (s : State) : Result :=
  .next (kRequest port.val tConfirm ip frame anyFrame confirmWork s)

/-! ### OTP (R106, R107) -/

/-- Bits of the OTP space change only from 0 to 1. -/
def State.otpOr (s : State) (a : Nat) (bs : List Byte) : State :=
  s.wrBytes a ((s.bytes a bs.length).zipWith (fun x y => x ||| y) bs)

/-- R107's three refusals. -/
def State.otpRefused (s : State) (kind k op : Nat) : Bool :=
  if op = 0 then decide (s.otpState kind k ≠ 0) else !(s.otpActive kind k) || decide (s.activeSlots kind = [k])

/-- Program or revoke a slot. -/
def State.otpDo (s : State) (kind k op : Nat) (v : List Byte) : State :=
  if op = 0 then (s.otpOr (otpSlot kind k) v).otpOr (otpSlot kind k + 32) (leBytes 4 0xA5)
  else s.otpOr (otpSlot kind k + 32) (leBytes 4 0xFFA5)

def otpWork (x : Session) (p : List Byte) (s : State) : Answer :=
  let kind := u8 p 0
  let k := u8 p 1
  let op := u8 p 2
  if p.length ≠ 36 ∨ 2 ≤ kind ∨ 4 ≤ k ∨ 2 ≤ op then refuse s tOtp 0x0001 0
  else if kind = 0 ∧ op = 0 ∧ ¬ s.inHalt then refuse s tOtp 0x0005 0
  else if s.otpRefused kind k op then refuse s tOtp 0x000B 0
  else { ack (s.otpDo kind k op (slice p 4 32)) tOtp [] with after_ := if x.boot then .close else .stay }

/-- Operation 0, and every operation that is none. -/
def execOtpProgram (port : Fin 3) (ip : Nat) (frame : List Byte) (s : State) : Result :=
  .next (kRequest port.val tOtp ip frame (fun p => decide (u8 p 2 ≠ 1)) otpWork s)

def execOtpRevoke (port : Fin 3) (ip : Nat) (frame : List Byte) (s : State) : Result :=
  .next (kRequest port.val tOtp ip frame (fun p => decide (u8 p 2 = 1)) otpWork s)

/-! ### Closing (R114, R118) -/

def closeWork (_ : Session) (p : List Byte) (s : State) : Answer :=
  if p ≠ [] then refuse s tClose 0x0001 0 else ⟨s, tClose, [], true, .close⟩

def execCloseSession (port : Fin 3) (ip : Nat) (frame : List Byte) (s : State) : Result :=
  .next (kRequest port.val tClose ip frame anyFrame closeWork s)

/-- KSAP_SESSION_TIMEOUT: 30 s pass without a valid frame. -/
def ksapTimeout (sid : Nat) (s : State) : State :=
  match s.ksap.sessions.find? (fun x => decide (x.sid = sid)) with
  | some x => (s.toMono (x.validAt + 30000000000)).endSession sid
  | none => s

def execKsapSessionTimeout (sid : Nat) (s : State) : Result := .next (ksapTimeout sid s)

end Sys2Proof.Machine
end

