-- ==== Sys2Proof/Machine/Dispatch.lean ====
section
/-! DEFINITION. The dispatch: one arm per command, one direct call of its meaning. -/

namespace Sys2Proof.Machine

/-- The effect of one command on everything but the queue of waiting commands. -/
def exec (i : Instr) (s : State) : Host.Outcome State Fault Refusal :=
  match i with
  | .startup f => Sys2Proof.Machine.execStartup f s
  | .startWaitEnd how => Sys2Proof.Machine.execStartWaitEnd how s
  | .negotiateTimeout => Sys2Proof.Machine.execNegotiateTimeout s
  | .negotiateIndeterminateTimeout => Sys2Proof.Machine.execNegotiateIndeterminateTimeout s
  | .supplyLow vsup => Sys2Proof.Machine.execSupplyLow vsup s
  | .supplyOver vsup => Sys2Proof.Machine.execSupplyOver vsup s
  | .supplyFail vsup granted => Sys2Proof.Machine.execSupplyFail vsup granted s
  | .supplyReturn vsup pct => Sys2Proof.Machine.execSupplyReturn vsup pct s
  | .slotCodeChange code => Sys2Proof.Machine.execSlotCodeChange code s
  | .hoInputAccept line asserted => Sys2Proof.Machine.execHoInputAccept line asserted s
  | .hoIndeterminate line => Sys2Proof.Machine.execHoIndeterminate line s
  | .takeoverAssertTake => Sys2Proof.Machine.execTakeoverAssertTake s
  | .ioscTrim ppm => Sys2Proof.Machine.execIoscTrim ppm s
  | .xt32Check good => Sys2Proof.Machine.execXt32Check good s
  | .fmStart m w => Sys2Proof.Machine.execFmStart m w s
  | .fmDone count => Sys2Proof.Machine.execFmDone count s
  | .refLoss => Sys2Proof.Machine.execRefLoss s
  | .alwaysOnSave => Sys2Proof.Machine.execAlwaysOnSave s
  | .cpmRestart m w => Sys2Proof.Machine.execCpmRestart m w s
  | .haltReq m w => Sys2Proof.Machine.execHaltReq m w s
  | .clkdivWrite m w => Sys2Proof.Machine.execClkdivWrite m w s
  | .pairIdleEnter p => Sys2Proof.Machine.execPairIdleEnter p s
  | .dozeEnter => Sys2Proof.Machine.execDozeEnter s
  | .dozeWake => Sys2Proof.Machine.execDozeWake s
  | .x6LinkEnergy => Sys2Proof.Machine.execX6LinkEnergy s
  | .taskRelease c => Sys2Proof.Machine.execTaskRelease c s
  | .latchComplete c => Sys2Proof.Machine.execLatchComplete c s
  | .trickApply c => Sys2Proof.Machine.execTrickApply c s
  | .taskOverrun c => Sys2Proof.Machine.execTaskOverrun c s
  | .fCycleStart => Sys2Proof.Machine.execFCycleStart s
  | .fWatchdogExpiry => Sys2Proof.Machine.execFWatchdogExpiry s
  | .retainSnapshot => Sys2Proof.Machine.execRetainSnapshot s
  | .viewOpen m v w => Sys2Proof.Machine.execViewOpen m v w s
  | .viewClose m v w => Sys2Proof.Machine.execViewClose m v w s
  | .viewDataRead m v => Sys2Proof.Machine.execViewDataRead m v s
  | .endWord c => Sys2Proof.Machine.execEndWord c s
  | .jmp c => Sys2Proof.Machine.execJmp c s
  | .jmpc c => Sys2Proof.Machine.execJmpc c s
  | .jmpcn c => Sys2Proof.Machine.execJmpcn c s
  | .move c => Sys2Proof.Machine.execMove c s
  | .conv c => Sys2Proof.Machine.execConv c s
  | .logAnd c => Sys2Proof.Machine.execLogAnd c s
  | .logOr c => Sys2Proof.Machine.execLogOr c s
  | .logXor c => Sys2Proof.Machine.execLogXor c s
  | .logNot c => Sys2Proof.Machine.execLogNot c s
  | .addBlock c => Sys2Proof.Machine.execAddBlock c s
  | .subBlock c => Sys2Proof.Machine.execSubBlock c s
  | .mulBlock c => Sys2Proof.Machine.execMulBlock c s
  | .divide c => Sys2Proof.Machine.execDivide c s
  | .modulo c => Sys2Proof.Machine.execModulo c s
  | .negBlock c => Sys2Proof.Machine.execNegBlock c s
  | .absBlock c => Sys2Proof.Machine.execAbsBlock c s
  | .cmpEq c => Sys2Proof.Machine.execCmpEq c s
  | .cmpNe c => Sys2Proof.Machine.execCmpNe c s
  | .cmpLt c => Sys2Proof.Machine.execCmpLt c s
  | .cmpLe c => Sys2Proof.Machine.execCmpLe c s
  | .cmpGt c => Sys2Proof.Machine.execCmpGt c s
  | .cmpGe c => Sys2Proof.Machine.execCmpGe c s
  | .sel c => Sys2Proof.Machine.execSel c s
  | .mux c => Sys2Proof.Machine.execMux c s
  | .maximum c => Sys2Proof.Machine.execMaximum c s
  | .minimum c => Sys2Proof.Machine.execMinimum c s
  | .limitBlock c => Sys2Proof.Machine.execLimitBlock c s
  | .ramp c => Sys2Proof.Machine.execRamp c s
  | .roc c => Sys2Proof.Machine.execRoc c s
  | .ton c => Sys2Proof.Machine.execTon c s
  | .tof c => Sys2Proof.Machine.execTof c s
  | .tpTimer c => Sys2Proof.Machine.execTpTimer c s
  | .ctu c => Sys2Proof.Machine.execCtu c s
  | .ctd c => Sys2Proof.Machine.execCtd c s
  | .ctud c => Sys2Proof.Machine.execCtud c s
  | .rTrig c => Sys2Proof.Machine.execRTrig c s
  | .fTrig c => Sys2Proof.Machine.execFTrig c s
  | .sr c => Sys2Proof.Machine.execSr c s
  | .rs c => Sys2Proof.Machine.execRs c s
  | .qget c => Sys2Proof.Machine.execQget c s
  | .qset c => Sys2Proof.Machine.execQset c s
  | .qok c => Sys2Proof.Machine.execQok c s
  | .sand c => Sys2Proof.Machine.execSand c s
  | .sor c => Sys2Proof.Machine.execSor c s
  | .sval c => Sys2Proof.Machine.execSval c s
  | .sge c => Sys2Proof.Machine.execSge c s
  | .restartBlock c => Sys2Proof.Machine.execRestartBlock c s
  | .loopWindow => Sys2Proof.Machine.execLoopWindow s
  | .loopDeposit => Sys2Proof.Machine.execLoopDeposit s
  | .ppGo m w => Sys2Proof.Machine.execPpGo m w s
  | .ppLockAcquired => Sys2Proof.Machine.execPpLockAcquired s
  | .rgndataRead m => Sys2Proof.Machine.execRgndataRead m s
  | .channelRound lpA lpB ambient ms => Sys2Proof.Machine.execChannelRound lpA lpB ambient ms s
  | .lplusStateChange g => Sys2Proof.Machine.execLplusStateChange g s
  | .diSampleWindow c level vt => Sys2Proof.Machine.execDiSampleWindow c level vt s
  | .fiEdge c level t => Sys2Proof.Machine.execFiEdge c level t s
  | .doShortSwitchoff c thermal => Sys2Proof.Machine.execDoShortSwitchoff c thermal s
  | .doRestartAttempt c => Sys2Proof.Machine.execDoRestartAttempt c s
  | .doOpenLoad c => Sys2Proof.Machine.execDoOpenLoad c s
  | .doForeignVoltage c => Sys2Proof.Machine.execDoForeignVoltage c s
  | .groupOverload g => Sys2Proof.Machine.execGroupOverload g s
  | .protectiveStateEnter c => Sys2Proof.Machine.execProtectiveStateEnter c s
  | .protectiveStateExit c => Sys2Proof.Machine.execProtectiveStateExit c s
  | .keepSend => Sys2Proof.Machine.execKeepSend s
  | .rimOutFrame rx => Sys2Proof.Machine.execRimOutFrame rx s
  | .rimKeepFrame rx => Sys2Proof.Machine.execRimKeepFrame rx s
  | .rimCtrlFrame => Sys2Proof.Machine.execRimCtrlFrame s
  | .rimBulkFrame => Sys2Proof.Machine.execRimBulkFrame s
  | .rimCfgFrame => Sys2Proof.Machine.execRimCfgFrame s
  | .rimSafeFrame => Sys2Proof.Machine.execRimSafeFrame s
  | .rimHoFrame => Sys2Proof.Machine.execRimHoFrame s
  | .rimInFrame rx => Sys2Proof.Machine.execRimInFrame rx s
  | .rimCtrlInFrame => Sys2Proof.Machine.execRimCtrlInFrame s
  | .rimLoss => Sys2Proof.Machine.execRimLoss s
  | .rimRecoveryTimeout => Sys2Proof.Machine.execRimRecoveryTimeout s
  | .fieldEntryApply c => Sys2Proof.Machine.execFieldEntryApply c s
  | .safeStateWatchdogExpiry => Sys2Proof.Machine.execSafeStateWatchdogExpiry s
  | .safeReq m w => Sys2Proof.Machine.execSafeReq m w s
  | .safeRel m w => Sys2Proof.Machine.execSafeRel m w s
  | .fieldRestart cause => Sys2Proof.Machine.execFieldRestart cause s
  | .chClear => Sys2Proof.Machine.execChClear s
  | .groupMode => Sys2Proof.Machine.execGroupMode s
  | .groupModeApply => Sys2Proof.Machine.execGroupModeApply s
  | .runGrant => Sys2Proof.Machine.execRunGrant s
  | .modeDone => Sys2Proof.Machine.execModeDone s
  | .fieldStarted => Sys2Proof.Machine.execFieldStarted s
  | .txsLimit c => Sys2Proof.Machine.execTxsLimit c s
  | .txsRestart c => Sys2Proof.Machine.execTxsRestart c s
  | .aoComplAlarm c => Sys2Proof.Machine.execAoComplAlarm c s
  | .aoOpen c => Sys2Proof.Machine.execAoOpen c s
  | .trimDrive m w mram => Sys2Proof.Machine.execTrimDrive m w mram s
  | .trimCommit m w mram => Sys2Proof.Machine.execTrimCommit m w mram s
  | .trimEnd m w mram => Sys2Proof.Machine.execTrimEnd m w mram s
  | .trimClear m w mram => Sys2Proof.Machine.execTrimClear m w mram s
  | .trimTimeout => Sys2Proof.Machine.execTrimTimeout s
  | .hartTransmitStart c => Sys2Proof.Machine.execHartTransmitStart c s
  | .hartResponseEnd c good frame t => Sys2Proof.Machine.execHartResponseEnd c good frame t s
  | .hartNoResponse c => Sys2Proof.Machine.execHartNoResponse c s
  | .hartListenFrame c frame t => Sys2Proof.Machine.execHartListenFrame c frame t s
  | .hartBurstFrame c frame t => Sys2Proof.Machine.execHartBurstFrame c frame t s
  | .hartRecordPush => Sys2Proof.Machine.execHartRecordPush s
  | .hartRecordDiscard => Sys2Proof.Machine.execHartRecordDiscard s
  | .hartScanDue c => Sys2Proof.Machine.execHartScanDue c s
  | .hartCancel => Sys2Proof.Machine.execHartCancel s
  | .hartScan => Sys2Proof.Machine.execHartScan s
  | .testPulseStart c => Sys2Proof.Machine.execTestPulseStart c s
  | .tsCheck c below => Sys2Proof.Machine.execTsCheck c below s
  | .tsRestart c => Sys2Proof.Machine.execTsRestart c s
  | .tpJudgement => Sys2Proof.Machine.execTpJudgement s
  | .sinDiscrepancy n => Sys2Proof.Machine.execSinDiscrepancy n s
  | .anDisc n => Sys2Proof.Machine.execAnDisc n s
  | .spdDisc n => Sys2Proof.Machine.execSpdDisc n s
  | .offPulse c => Sys2Proof.Machine.execOffPulse c s
  | .offPulseCheck c above => Sys2Proof.Machine.execOffPulseCheck c above s
  | .fbCheck n => Sys2Proof.Machine.execFbCheck n s
  | .safArm => Sys2Proof.Machine.execSafArm s
  | .armDone => Sys2Proof.Machine.execArmDone s
  | .safReset => Sys2Proof.Machine.execSafReset s
  | .resetDone => Sys2Proof.Machine.execResetDone s
  | .confirmWindowExpiry => Sys2Proof.Machine.execConfirmWindowExpiry s
  | .ecxInFrame src frame => Sys2Proof.Machine.execEcxInFrame src frame s
  | .ecxCfgAck src frame => Sys2Proof.Machine.execEcxCfgAck src frame s
  | .ecxCfgResend n => Sys2Proof.Machine.execEcxCfgResend n s
  | .escWatchdogExpiry n => Sys2Proof.Machine.execEscWatchdogExpiry n s
  | .canFrameReceived n x esi remote sof => Sys2Proof.Machine.execCanFrameReceived n x esi remote sof s
  | .canHpPop m n => Sys2Proof.Machine.execCanHpPop m n s
  | .canTxStart n => Sys2Proof.Machine.execCanTxStart n s
  | .canTxEnd n r => Sys2Proof.Machine.execCanTxEnd n r s
  | .canRecover m n w => Sys2Proof.Machine.execCanRecover m n w s
  | .canBusOn n => Sys2Proof.Machine.execCanBusOn n s
  | .ttcanReference n late => Sys2Proof.Machine.execTtcanReference n late s
  | .ttcanWindow n o started => Sys2Proof.Machine.execTtcanWindow n o started s
  | .ttcanSyncLoss n => Sys2Proof.Machine.execTtcanSyncLoss n s
  | .ethFrameReceived p frame ing egr lost => Sys2Proof.Machine.execEthFrameReceived p frame ing egr lost s
  | .ethLinkChange p up => Sys2Proof.Machine.execEthLinkChange p up s
  | .mrpTopologyChange => Sys2Proof.Machine.execMrpTopologyChange s
  | .ptpSync x => Sys2Proof.Machine.execPtpSync x s
  | .ptpAnnounce a => Sys2Proof.Machine.execPtpAnnounce a s
  | .ptpAnnounceTimeout => Sys2Proof.Machine.execPtpAnnounceTimeout s
  | .ptpSyncTimeout => Sys2Proof.Machine.execPtpSyncTimeout s
  | .ptpAddendWrite m w => Sys2Proof.Machine.execPtpAddendWrite m w s
  | .ptpStep m w => Sys2Proof.Machine.execPtpStep m w s
  | .lockstepMismatch lanes syn => Sys2Proof.Machine.execLockstepMismatch lanes syn s
  | .cacheParityError p => Sys2Proof.Machine.execCacheParityError p s
  | .cmpPairRestart m w lanes => Sys2Proof.Machine.execCmpPairRestart m w lanes s
  | .pair0AutoRestart lanes => Sys2Proof.Machine.execPair0AutoRestart lanes s
  | .domainReset d => Sys2Proof.Machine.execDomainReset d s
  | .scrubRead addr ecc last => Sys2Proof.Machine.execScrubRead addr ecc last s
  | .mramScrubRead addr ecc pct => Sys2Proof.Machine.execMramScrubRead addr ecc pct s
  | .hdpDataRead m ecc => Sys2Proof.Machine.execHdpDataRead m ecc s
  | .hdpDataWrite m w ecc => Sys2Proof.Machine.execHdpDataWrite m w ecc s
  | .hdpBurstGo m w => Sys2Proof.Machine.execHdpBurstGo m w s
  | .hdpBurstDone ecc good => Sys2Proof.Machine.execHdpBurstDone ecc good s
  | .hello port ip frame => Sys2Proof.Machine.execHello port ip frame s
  | .auth port ip frame => Sys2Proof.Machine.execAuth port ip frame s
  | .readMem port ip frame ecc good => Sys2Proof.Machine.execReadMem port ip frame ecc good s
  | .writeMem port ip frame ecc good => Sys2Proof.Machine.execWriteMem port ip frame ecc good s
  | .statusReq port ip frame => Sys2Proof.Machine.execStatusReq port ip frame s
  | .imageBegin port ip frame => Sys2Proof.Machine.execImageBegin port ip frame s
  | .imageData port ip frame => Sys2Proof.Machine.execImageData port ip frame s
  | .imageEnd port ip frame storeEcc => Sys2Proof.Machine.execImageEnd port ip frame storeEcc s
  | .changeSet port ip frame => Sys2Proof.Machine.execChangeSet port ip frame s
  | .changeSwapRequest port ip frame phase needConf => Sys2Proof.Machine.execChangeSwapRequest port ip frame phase needConf s
  | .changeSwapCancel port ip frame => Sys2Proof.Machine.execChangeSwapCancel port ip frame s
  | .confirmReq port ip frame => Sys2Proof.Machine.execConfirmReq port ip frame s
  | .otpProgram port ip frame => Sys2Proof.Machine.execOtpProgram port ip frame s
  | .otpRevoke port ip frame => Sys2Proof.Machine.execOtpRevoke port ip frame s
  | .closeSession port ip frame => Sys2Proof.Machine.execCloseSession port ip frame s
  | .ksapSessionTimeout sid => Sys2Proof.Machine.execKsapSessionTimeout sid s
  | .swapPrepared => Sys2Proof.Machine.execSwapPrepared s
  | .swapLoadInstant => Sys2Proof.Machine.execSwapLoadInstant s
  | .carryComplete => Sys2Proof.Machine.execCarryComplete s
  | .evtSwtrig m w => Sys2Proof.Machine.execEvtSwtrig m w s
  | .evtClaim m p => Sys2Proof.Machine.execEvtClaim m p s
  | .quePush m q addr => Sys2Proof.Machine.execQuePush m q addr s
  | .queRound egr => Sys2Proof.Machine.execQueRound egr s
  | .queRel m q => Sys2Proof.Machine.execQueRel m q s
  | .queCfgWrite m q base w => Sys2Proof.Machine.execQueCfgWrite m q base w s
  | .mbxPost m mbx w => Sys2Proof.Machine.execMbxPost m mbx w s
  | .mbxTake m mbx => Sys2Proof.Machine.execMbxTake m mbx s
  | .mbxTimeout mbx => Sys2Proof.Machine.execMbxTimeout mbx s
  | .lckAcquire n ms => Sys2Proof.Machine.execLckAcquire n ms s
  | .lckRelease m n w => Sys2Proof.Machine.execLckRelease m n w s
  | .lckHdpreq m n => Sys2Proof.Machine.execLckHdpreq m n s
  | .lckHdprel m n => Sys2Proof.Machine.execLckHdprel m n s
  | .lckHoldExpiry n => Sys2Proof.Machine.execLckHoldExpiry n s
  | .rcFieldRead m addr => Sys2Proof.Machine.execRcFieldRead m addr s
  | .latchedLowWordRead m addr => Sys2Proof.Machine.execLatchedLowWordRead m addr s
  | .registerWrite m addr w => Sys2Proof.Machine.execRegisterWrite m addr w s
  | .negotiate pos build safeChk confirmed => Sys2Proof.Machine.execNegotiate pos build safeChk confirmed s
  | .giveUp cause tricks indet => Sys2Proof.Machine.execGiveUp cause tricks indet s
  | .stopNotice ovr => Sys2Proof.Machine.execStopNotice ovr s
  | .roleMsg role trace => Sys2Proof.Machine.execRoleMsg role trace s
  | .roleSend peak => Sys2Proof.Machine.execRoleSend peak s
  | .timeMsg sent lastRx => Sys2Proof.Machine.execTimeMsg sent lastRx s
  | .swapProp ts load => Sys2Proof.Machine.execSwapProp ts load s
  | .swapAck ts accepted => Sys2Proof.Machine.execSwapAck ts accepted s
  | .swapCancel reason => Sys2Proof.Machine.execSwapCancel reason s
  | .inputTrick m => Sys2Proof.Machine.execInputTrick m s
  | .digestMsg task trick digest => Sys2Proof.Machine.execDigestMsg task trick digest s
  | .digestLate => Sys2Proof.Machine.execDigestLate s
  | .loopin tg vals => Sys2Proof.Machine.execLoopin tg vals s
  | .repairReq task => Sys2Proof.Machine.execRepairReq task s
  | .joinReq build safeChk confirmed => Sys2Proof.Machine.execJoinReq build safeChk confirmed s
  | .joinAck build safeChk confirmed time => Sys2Proof.Machine.execJoinAck build safeChk confirmed time s
  | .stateLines items => Sys2Proof.Machine.execStateLines items s
  | .cutOver task trick items => Sys2Proof.Machine.execCutOver task trick items s
  | .joinCutOver c => Sys2Proof.Machine.execJoinCutOver c s
  | .joinRetry => Sys2Proof.Machine.execJoinRetry s
  | .repairMsg m => Sys2Proof.Machine.execRepairMsg m s
  | .fstate cycle sets items => Sys2Proof.Machine.execFstate cycle sets items s
  | .imageBytes offset bytes storeEcc => Sys2Proof.Machine.execImageBytes offset bytes storeEcc s
  | .rolentLaneLoss lane => Sys2Proof.Machine.execRolentLaneLoss lane s
  | .rolentLinkLoss => Sys2Proof.Machine.execRolentLinkLoss s
  | .rolentRejoin => Sys2Proof.Machine.execRolentRejoin s
  | .rejoin m w => Sys2Proof.Machine.execRejoin m w s
  | .giveControl m w => Sys2Proof.Machine.execGiveControl m w s
  | .swapNow m w => Sys2Proof.Machine.execSwapNow m w s
  | .plannedSwapDue => Sys2Proof.Machine.execPlannedSwapDue s
  | .swapOverlapStart => Sys2Proof.Machine.execSwapOverlapStart s
  | .plannedSwapInstant => Sys2Proof.Machine.execPlannedSwapInstant s
  | .swapAssertTake => Sys2Proof.Machine.execSwapAssertTake s
  | .hoPulseTest giveOk takeOk => Sys2Proof.Machine.execHoPulseTest giveOk takeOk s
  | .autoRestart => Sys2Proof.Machine.execAutoRestart s
  | .recordWrite ecc => Sys2Proof.Machine.execRecordWrite ecc s
  | .evrArm m w => Sys2Proof.Machine.execEvrArm m w s
  | .evrClear m w => Sys2Proof.Machine.execEvrClear m w s
  | .evrClearEnd => Sys2Proof.Machine.execEvrClearEnd s
  | .evrSwrec m w => Sys2Proof.Machine.execEvrSwrec m w s
  | .evrWinRead m w => Sys2Proof.Machine.execEvrWinRead m w s
  | .pnlUpdate m w => Sys2Proof.Machine.execPnlUpdate m w s
  | .pnlFull m w => Sys2Proof.Machine.execPnlFull m w s
  | .pnlUpdateStart => Sys2Proof.Machine.execPnlUpdateStart s
  | .pnlRailFail => Sys2Proof.Machine.execPnlRailFail s
  | .pnlFrame => Sys2Proof.Machine.execPnlFrame s
  | .pnlUpdateCommit => Sys2Proof.Machine.execPnlUpdateCommit s
  | .pnlTempMeasure temp => Sys2Proof.Machine.execPnlTempMeasure temp s
  | .pnlCrcCheck => Sys2Proof.Machine.execPnlCrcCheck s
  | .pnlRecovery => Sys2Proof.Machine.execPnlRecovery s
  | .pnlFbdataAccess m write => Sys2Proof.Machine.execPnlFbdataAccess m write s
  | .keyDown => Sys2Proof.Machine.execKeyDown s
  | .keyRelease held => Sys2Proof.Machine.execKeyRelease held s
  | .storeShutdownLevel => Sys2Proof.Machine.execStoreShutdownLevel s
  | .supplyNormal vsup => Sys2Proof.Machine.execSupplyNormal vsup s
  | .dozePllLock => Sys2Proof.Machine.execDozePllLock s
  | .giveUpNoticeTd => Sys2Proof.Machine.execGiveUpNoticeTd s
  | .swapGroupModePost => Sys2Proof.Machine.execSwapGroupModePost s
  | .testPulseEnd c recovered => Sys2Proof.Machine.execTestPulseEnd c recovered s
  | .offPulseEnd c => Sys2Proof.Machine.execOffPulseEnd c s
  | .fieldRestartComplete => Sys2Proof.Machine.execFieldRestartComplete s
  | .rolentCrcFail mine => Sys2Proof.Machine.execRolentCrcFail mine s
  | .rolentLaneUp lane => Sys2Proof.Machine.execRolentLaneUp lane s
  | .canReceiveError n kind heavy => Sys2Proof.Machine.execCanReceiveError n kind heavy s
  | .ptpFollowUp src seq origin corr => Sys2Proof.Machine.execPtpFollowUp src seq origin corr s
  | .ptpDelayReqSend boundary lost => Sys2Proof.Machine.execPtpDelayReqSend boundary lost s
  | .ptpDelayResp src seq receive corr => Sys2Proof.Machine.execPtpDelayResp src seq receive corr s
  | .ptpSyncSend boundary => Sys2Proof.Machine.execPtpSyncSend boundary s
  | .ptpAnnounceSend => Sys2Proof.Machine.execPtpAnnounceSend s

end Sys2Proof.Machine
end

