-- ==== Sys2Proof/Safety.lean ====
section
/-! DEFINITION. What counts as a safe run, and the terms the statements use: what an occurrence has left, what a block has written. -/

namespace Sys2Proof

/-- A step that neither faults nor is refused. -/
def StepSafe (s : Machine.State) : Prop := ∃ t, Machine.step s = .next t

/-- `n` steps that each go on. -/
def RunSafe : Nat → Machine.State → Prop
  | 0, _ => True
  | n + 1, s => ∃ t, Machine.step s = .next t ∧ RunSafe n t

/-- The task whose block code a call word runs (chapter 08); `none` for a command that is no call word, and for END. -/
def Instr.callOf (i : Instr) : Option (Fin 9) :=
  match i with
  | .jmp c | .jmpc c | .jmpcn c | .move c | .conv c | .logAnd c | .logOr c | .logXor c | .logNot c | .addBlock c | .subBlock c | .mulBlock c
  | .divide c | .modulo c | .negBlock c | .absBlock c | .cmpEq c | .cmpNe c | .cmpLt c | .cmpLe c | .cmpGt c | .cmpGe c | .sel c | .mux c
  | .maximum c | .minimum c | .limitBlock c | .ramp c | .roc c | .ton c | .tof c | .tpTimer c | .ctu c | .ctd c | .ctud c | .rTrig c | .fTrig c
  | .sr c | .rs c | .qget c | .qset c | .qok c | .sand c | .sor c | .sval c | .sge c | .restartBlock c => some c
  | _ => none

/-- The commands that act on the field side alone (chapters 10 to 14): on its channels, HART machines and safety hardware, and on what it sends. -/
def Instr.onField (i : Instr) : Bool :=
  match i with
  | .channelRound _ _ _ _ | .lplusStateChange _ | .diSampleWindow _ _ _ | .fiEdge _ _ _ | .doShortSwitchoff _ _ | .doRestartAttempt _
  | .doOpenLoad _ | .doForeignVoltage _ | .groupOverload _ | .protectiveStateEnter _ | .protectiveStateExit _ | .rimOutFrame _ | .rimKeepFrame _
  | .rimCtrlFrame | .rimBulkFrame | .rimCfgFrame | .rimSafeFrame | .rimHoFrame | .fieldEntryApply _ | .safeStateWatchdogExpiry | .chClear
  | .groupMode | .groupModeApply | .runGrant | .txsLimit _ | .txsRestart _ | .aoComplAlarm _ | .aoOpen _ | .hartTransmitStart _
  | .hartResponseEnd _ _ _ _ | .hartNoResponse _ | .hartListenFrame _ _ _ | .hartBurstFrame _ _ _ | .hartRecordDiscard | .hartScanDue _
  | .hartCancel | .hartScan | .testPulseStart _ | .tsCheck _ _ | .tsRestart _ | .tpJudgement | .sinDiscrepancy _ | .offPulse _ | .offPulseCheck _ _
  | .fbCheck _ | .safArm | .safReset | .testPulseEnd _ _ | .offPulseEnd _ | .fieldRestartComplete => true
  | _ => false

/-- The commands that can change memory; no other command changes any byte of it. -/
def Instr.mayStore (i : Instr) : Bool :=
  match i with
  | .startup _ | .startWaitEnd _ | .negotiateTimeout | .negotiateIndeterminateTimeout | .supplyFail _ _ | .hoInputAccept _ _ | .refLoss
  | .cpmRestart _ _ | .haltReq _ _ | .taskOverrun _ | .fWatchdogExpiry | .retainSnapshot | .endWord _ | .loopDeposit | .rimLoss
  | .rimRecoveryTimeout | .trimDrive _ _ _ | .trimCommit _ _ _ | .trimEnd _ _ _ | .trimClear _ _ _ | .hartRecordPush | .canFrameReceived _ _ _ _ _
  | .canTxEnd _ _ | .ttcanWindow _ _ _ | .ethFrameReceived _ _ _ _ _ | .lockstepMismatch _ _ | .scrubRead _ _ _ | .hdpDataRead _ _
  | .hdpDataWrite _ _ _ | .hdpBurstDone _ _ | .readMem _ _ _ _ _ | .writeMem _ _ _ _ _ | .statusReq _ _ _ | .imageBegin _ _ _ | .imageData _ _ _
  | .imageEnd _ _ _ _ | .changeSet _ _ _ | .changeSwapRequest _ _ _ _ _ | .changeSwapCancel _ _ _ | .confirmReq _ _ _ | .otpProgram _ _ _
  | .otpRevoke _ _ _ | .closeSession _ _ _ | .ksapSessionTimeout _ | .swapLoadInstant | .carryComplete | .quePush _ _ _ | .queRound _
  | .rcFieldRead _ _ | .latchedLowWordRead _ _ | .registerWrite _ _ _ | .negotiate _ _ _ _ | .giveUp _ _ _ | .stopNotice _ | .swapCancel _
  | .inputTrick _ | .digestMsg _ _ _ | .digestLate | .stateLines _ | .cutOver _ _ _ | .repairMsg _ | .fstate _ _ _ | .imageBytes _ _ _
  | .rolentLinkLoss | .rejoin _ _ | .giveControl _ _ | .swapNow _ _ | .plannedSwapInstant | .autoRestart | .recordWrite _ | .evrClearEnd
  | .pnlUpdateStart | .pnlRailFail | .pnlUpdateCommit | .pnlCrcCheck | .pnlRecovery | .keyRelease _ | .storeShutdownLevel | .giveUpNoticeTd
  | .canReceiveError _ _ _ => true
  | _ => false

namespace Machine

/-- EVT_INFO of source `src` holds the detail of an occurrence (R122). -/
def State.told (s : State) (src lo hi : Nat) : Prop :=
  s.reg (Reg.EVT_INFO_LO src) = BitVec.ofNat 32 lo ∧ s.reg (Reg.EVT_INFO_HI src) = BitVec.ofNat 32 hi

/-- The time counter counts: the time base is locked and adds a nonzero addend (R73, R431). -/
def State.clockRuns (s : State) : Prop := s.flag Reg.CPM_STAT_TB_LOCK = true ∧ s.fld Reg.PTP_ADDEND_ADDEND ≠ 0

/-- Task `c`'s next call is `k`, block `op`, with these inputs and one output in Q (R218, R226). -/
def State.callsQ (s : State) (c op : Nat) (k : Call) (ins : List Opnd) (o : Opnd) : Prop :=
  s.nextCall c op = some k ∧ k.ops = ins ++ [o] ∧ k.nops = ins.length + 1 ∧ o.space = 1

/-- The state after a call wrote one element to Q and its task went on to the next call word; nothing else has changed (R212, R222). -/
def State.wroteQ (s : State) (c : Nat) (k : Call) (o : Opnd) (e : El) : State :=
  s.setTask c { s.task c with
    work := imgWrite (s.task c).work o.off (elBytes o.ty e), pc := (s.task c).pc + 1 + k.nops, begun := true }

/-- Task `c`'s next call is `k`, block `op`, with these inputs and outputs (R218, R226). -/
def State.callsInst (s : State) (c op : Nat) (k : Call) (ins outs : List Opnd) : Prop :=
  s.nextCall c op = some k ∧ k.ops = ins ++ outs ∧ k.nops = ins.length + outs.length

/-- The state after a block wrote its instance area, then its outputs in operand order, and its task went on (R222, R234). -/
def State.wroteAll (s : State) (c : Nat) (k : Call) (area : List Byte) (outs : List (Opnd × El)) : State :=
  (outs.foldl (fun t p => t.writeEl c p.1 p.2) (s.instWrite c (8 * k.inst) area)).goTo c ((s.task c).pc + 1 + k.nops)

/-- The integer an operand holds, in the type of its call. -/
def State.intOf (s : State) (c t : Nat) (o : Opnd) : Int := tyInt t (s.readEl c o).v

/-- The worst quality of a list of operands (R225). -/
def State.worst (s : State) (c : Nat) (ins : List Opnd) : Nat := qWorst (ins.map (fun o => (s.readEl c o).q))

/-- An exact integer clamped to the range of type `t`, with SATURATED where it was clamped (R225, R227). -/
def clamped (t : Nat) (v : Int) (q : Nat) : El :=
  ⟨tyOfInt t (satInt (8 * tySize t) v), qLower 1 (decide (satInt (8 * tySize t) v ≠ v)) q⟩

/-- Frame `f` is session `x`'s next request of type `ty`: served port, right length and MAC, a SEQ that is fresh and in the window (R113 to R118). -/
def State.asks (s : State) (port : Nat) (f : List Byte) (ty : Nat) (x : Session) : Prop :=
  s.kServes port = true ∧ kFrame f = true ∧ kType f = ty ∧ kLenOk f = true ∧
    s.ksap.sessions.find? (fun y => decide (y.sid = kSid f)) = some x ∧ f.drop (f.length - 32) = hmac x.key (f.take (f.length - 32)) ∧
    x.replies.find? (fun r => decide (r.1 = kSeq f)) = none ∧ newer 32 (kSeq f) x.seq = true ∧ (kSeq f + 2 ^ 32 - x.seq) % 2 ^ 32 ≤ 8 ∧
    x.boot = false

/-- The last thing sent is session `x`'s reply of type `ty` to frame `f`, with this payload (R113). -/
def State.replied (t : State) (ip : Nat) (x : Session) (f : List Byte) (ty : Nat) (p : List Byte) : Prop :=
  t.outbox.getLast? = some (.ksap ip (kSigned x.key (kReply ty x.sid (kSeq f) p)))

end Machine

end Sys2Proof
end

