-- ==== Sys2Proof/Certificates/Slice0/Obligations.lean ====
section
/-! DEFINITION. The statements for the provers. -/

open Sys2Proof Sys2Proof.Machine

/-! ### Block code (08) -/

/-- JMP goes to its signed offset from the call word; JMPC and JMPCN do so on a TRUE and a FALSE value, whatever its quality, and go on
to the next call word otherwise. Nothing but the task's place in its code changes. MOVE copies value and quality; CONV clamps the exact number to its output's type and marks a clamp SATURATED; QGET gives the quality
byte, QSET takes its low byte from QB, QOK tells GOOD or UNCERTAIN. AND, OR, XOR and NOT over the truth values of their inputs, with the worst quality of all of them. -/
def Obligations.JumpsMovesAndLogicBlocks : Prop :=
  (∀ (c : Fin 9) (s : State) (k : Call) (o : Opnd),
    (s.nextCall c 0x02 = some k → exec (.jmp c) s = .next (s.goTo c ((((s.task c).pc : Nat) : Int) + sint 16 k.inst).toNat)) ∧
    (s.nextCall c 0x03 = some k → k.ops = [o] → k.nops = 1 → exec (.jmpc c) s = .next (s.goTo c
      (if isTrue (s.readEl c o).v then ((((s.task c).pc : Nat) : Int) + sint 16 k.inst).toNat else (s.task c).pc + 2))) ∧
    (s.nextCall c 0x04 = some k → k.ops = [o] → k.nops = 1 → exec (.jmpcn c) s = .next (s.goTo c
      (if isTrue (s.readEl c o).v then (s.task c).pc + 2 else ((((s.task c).pc : Nat) : Int) + sint 16 k.inst).toNat)))) ∧
  (∀ (c : Fin 9) (s : State) (k : Call) (a b o : Opnd),
    (s.callsQ c 0x08 k [a] o → exec (.move c) s = .next (s.wroteQ c k o (s.readEl c a))) ∧
    (s.callsQ c 0x09 k [a] o → exec (.conv c) s = .next (s.wroteQ c k o ⟨(satTo o.ty (numOf a.ty (s.readEl c a).v)).1,
      qLower 1 (satTo o.ty (numOf a.ty (s.readEl c a).v)).2 (s.readEl c a).q⟩)) ∧
    (s.callsQ c 0x60 k [a] o → exec (.qget c) s = .next (s.wroteQ c k o ⟨(s.readEl c a).q, qGood⟩)) ∧
    (s.callsQ c 0x61 k [a, b] o → exec (.qset c) s = .next (s.wroteQ c k o ⟨(s.readEl c a).v, (s.readEl c b).v % 256⟩)) ∧
    (s.callsQ c 0x62 k [a] o → exec (.qok c) s = .next (s.wroteQ c k o ⟨boolVal (decide (qState (s.readEl c a).q ≤ 1)), qGood⟩))) ∧
  (∀ (c : Fin 9) (s : State) (k : Call) (a : Opnd) (ins : List Opnd) (o : Opnd),
    (s.callsQ c 0x10 k ins o → exec (.logAnd c) s = .next (s.wroteQ c k o
      ⟨boolVal (ins.all (fun x => isTrue (s.readEl c x).v)), s.worst c ins⟩)) ∧
    (s.callsQ c 0x11 k ins o → exec (.logOr c) s = .next (s.wroteQ c k o
      ⟨boolVal (ins.any (fun x => isTrue (s.readEl c x).v)), s.worst c ins⟩)) ∧
    (s.callsQ c 0x12 k ins o → exec (.logXor c) s = .next (s.wroteQ c k o
      ⟨boolVal (decide ((ins.filter (fun x => isTrue (s.readEl c x).v)).length % 2 = 1)), s.worst c ins⟩)) ∧
    (s.callsQ c 0x13 k [a] o → exec (.logNot c) s = .next (s.wroteQ c k o
      ⟨boolVal (!isTrue (s.readEl c a).v), s.worst c [a]⟩)))

/-- Integer ADD and MUL compute the exact result over all inputs and clamp it once; SUB, NEG and ABS clamp their exact result; a clamp
marks SATURATED. INT16, INT32 and TIME alike. -/
def Obligations.IntegerArithmeticClampsOnce : Prop :=
  ∀ (c : Fin 9) (s : State) (k : Call) (a b : Opnd) (ins : List Opnd) (o : Opnd), tyReal k.ty = false →
    (s.callsQ c 0x18 k (a :: ins) o → exec (.addBlock c) s = .next (s.wroteQ c k o
      (clamped k.ty ((a :: ins).map (s.intOf c k.ty)).sum (s.worst c (a :: ins))))) ∧
    (s.callsQ c 0x1A k (a :: ins) o → exec (.mulBlock c) s = .next (s.wroteQ c k o
      (clamped k.ty ((a :: ins).map (s.intOf c k.ty)).prod (s.worst c (a :: ins))))) ∧
    (s.callsQ c 0x19 k [a, b] o → exec (.subBlock c) s = .next (s.wroteQ c k o
      (clamped k.ty (s.intOf c k.ty a - s.intOf c k.ty b) (s.worst c [a, b])))) ∧
    (s.callsQ c 0x1D k [a] o → exec (.negBlock c) s = .next (s.wroteQ c k o
      (clamped k.ty (-(s.intOf c k.ty a)) (s.worst c [a])))) ∧
    (s.callsQ c 0x1E k [a] o → exec (.absBlock c) s = .next (s.wroteQ c k o
      (clamped k.ty ((s.intOf c k.ty a).natAbs : Int) (s.worst c [a]))))

/-- REAL ADD and MUL go from left to right over any number of inputs, each step rounded once, and mark SATURATED where any step was replaced;
SUB is one such step; NEG flips the sign bit and ABS clears it, and neither is ever marked. -/
def Obligations.RealArithmeticRoundsEachStep : Prop :=
  ∀ (c : Fin 9) (s : State) (k : Call) (a b o : Opnd) (ins : List Opnd), tyReal k.ty = true →
    let chain := fun (f : Fl → Fl → Raw) => ins.foldl (fun (r : Nat × Bool) x =>
      ((realStep k.ty f r.1 (s.readEl c x).v).1, r.2 || (realStep k.ty f r.1 (s.readEl c x).v).2)) ((s.readEl c a).v, false)
    (s.callsQ c 0x18 k (a :: ins) o → exec (.addBlock c) s = .next (s.wroteQ c k o
      ⟨(chain Fl.add).1, qLower 1 (chain Fl.add).2 (s.worst c (a :: ins))⟩)) ∧
    (s.callsQ c 0x1A k (a :: ins) o → exec (.mulBlock c) s = .next (s.wroteQ c k o
      ⟨(chain Fl.mul).1, qLower 1 (chain Fl.mul).2 (s.worst c (a :: ins))⟩)) ∧
    (s.callsQ c 0x19 k [a, b] o → exec (.subBlock c) s = .next (s.wroteQ c k o
      ⟨(realStep k.ty Fl.sub (s.readEl c a).v (s.readEl c b).v).1,
       qLower 1 (realStep k.ty Fl.sub (s.readEl c a).v (s.readEl c b).v).2 (s.worst c [a, b])⟩)) ∧
    (s.callsQ c 0x1D k [a] o → exec (.negBlock c) s = .next (s.wroteQ c k o
      ⟨((s.readEl c a).v + (tyFmt k.ty).signBit) % 2 ^ (8 * tySize k.ty), s.worst c [a]⟩)) ∧
    (s.callsQ c 0x1E k [a] o → exec (.absBlock c) s = .next (s.wroteQ c k o
      ⟨(s.readEl c a).v % (tyFmt k.ty).signBit, s.worst c [a]⟩))

/-- Integer DIV truncates towards zero and MOD takes the sign of IN1; a zero divisor gives 0 or the end of the range on IN1's side, and MOD
gives 0, both BAD with DIV_ZERO (reason 4) unless the inputs were BAD already. A REAL quotient is rounded once; by zero it is the largest
finite value with the quotient's sign, or 0 for zero by zero, with DIV_ZERO. -/
def Obligations.Division : Prop :=
  ∀ (c : Fin 9) (s : State) (k : Call) (a b o : Opnd),
    (tyReal k.ty = true → s.callsQ c 0x1B k [a, b] o → exec (.divide c) s = .next (s.wroteQ c k o
      (let f := tyFmt k.ty
       let x := f.decode (s.readEl c a).v
       let y := f.decode (s.readEl c b).v
       if y.m = 0 then
         ⟨if x.m = 0 then 0 else (if xor x.neg y.neg then f.signBit else 0) + f.inf - 1,
          if qState (s.worst c [a, b]) = 3 then s.worst c [a, b] else qBad 4⟩
       else ⟨(f.round (x.div y)).bits, qLower 1 (f.round (x.div y)).ovf (s.worst c [a, b])⟩))) ∧
    (tyReal k.ty = false → s.callsQ c 0x1B k [a, b] o → exec (.divide c) s = .next (s.wroteQ c k o
      (if s.intOf c k.ty b = 0 then
        ⟨if s.intOf c k.ty a = 0 then 0
          else tyOfInt k.ty (if 0 < s.intOf c k.ty a then 2 ^ (8 * tySize k.ty - 1) - 1 else -(2 ^ (8 * tySize k.ty - 1) : Int)),
         if qState (s.worst c [a, b]) = 3 then s.worst c [a, b] else qBad 4⟩
       else clamped k.ty ((s.intOf c k.ty a).tdiv (s.intOf c k.ty b)) (s.worst c [a, b])))) ∧
    (tyReal k.ty = false → s.callsQ c 0x1C k [a, b] o → exec (.modulo c) s = .next (s.wroteQ c k o
      (if s.intOf c k.ty b = 0 then ⟨0, if qState (s.worst c [a, b]) = 3 then s.worst c [a, b] else qBad 4⟩
       else ⟨tyOfInt k.ty ((s.intOf c k.ty a).tmod (s.intOf c k.ty b)), s.worst c [a, b]⟩)))

/-- The six comparisons, in the type of the call: LE is the negation of GT, GE of LT, NE of EQ; integers compare as integers, and all
inputs contribute to quality. SEL and MUX pick one input, and only the selector and that input contribute to quality; a K outside the inputs is clamped and marks
INDEX (reason 5). MAX and MIN of integers are the largest and smallest of any number of inputs. LIMIT writes OUT, then ACT, with LIMIT_ORDER
(reason 6) when MN exceeds MX. -/
def Obligations.ComparisonsAndSelection : Prop :=
  (∀ (c : Fin 9) (s : State) (k : Call) (a b o : Opnd),
    let x := (s.readEl c a).v
    let y := (s.readEl c b).v
    let out := fun (p : Bool) => Host.Outcome.next (φ := Fault) (ρ := Refusal) (s.wroteQ c k o ⟨boolVal p, s.worst c [a, b]⟩)
    (s.callsQ c 0x20 k [a, b] o → exec (.cmpEq c) s = out (eqVal k.ty x y)) ∧
    (s.callsQ c 0x21 k [a, b] o → exec (.cmpNe c) s = out (!eqVal k.ty x y)) ∧
    (s.callsQ c 0x22 k [a, b] o → exec (.cmpLt c) s = out (ltVal k.ty x y)) ∧
    (s.callsQ c 0x24 k [a, b] o → exec (.cmpGt c) s = out (ltVal k.ty y x)) ∧
    (s.callsQ c 0x23 k [a, b] o → exec (.cmpLe c) s = out (!ltVal k.ty y x)) ∧
    (s.callsQ c 0x25 k [a, b] o → exec (.cmpGe c) s = out (!ltVal k.ty x y)) ∧
    (tyReal k.ty = false → ltVal k.ty x y = decide (s.intOf c k.ty a < s.intOf c k.ty b)) ∧
    (tyReal k.ty = false → k.ty ≠ 1 → eqVal k.ty x y = decide (s.intOf c k.ty a = s.intOf c k.ty b)) ∧
    (k.ty = 1 → eqVal k.ty x y = decide (isTrue x = isTrue y))) ∧
  (∀ (c : Fin 9) (s : State) (k : Call) (g a b o p : Opnd) (ins : List Opnd),
    (s.callsQ c 0x28 k [g, a, b] o → exec (.sel c) s = .next (s.wroteQ c k o
      (let x := s.readEl c (if isTrue (s.readEl c g).v then b else a)
       ⟨x.v, qWorst [(s.readEl c g).q, x.q]⟩))) ∧
    (s.callsQ c 0x29 k (g :: a :: ins) o → exec (.mux c) s = .next (s.wroteQ c k o
      (let j := (min (max (s.intOf c 2 g) 0) (ins.length : Int)).toNat
       let x := s.readEl c ((a :: ins).getD j a)
       ⟨x.v, qLower 5 (decide ((j : Int) ≠ s.intOf c 2 g)) (qWorst [(s.readEl c g).q, x.q])⟩))) ∧
    (tyReal k.ty = false → s.callsQ c 0x2A k (a :: ins) o → ∃ x ∈ a :: ins,
      (∀ y ∈ a :: ins, s.intOf c k.ty y ≤ s.intOf c k.ty x) ∧
      exec (.maximum c) s = .next (s.wroteQ c k o ⟨(s.readEl c x).v, s.worst c (a :: ins)⟩)) ∧
    (tyReal k.ty = false → s.callsQ c 0x2B k (a :: ins) o → ∃ x ∈ a :: ins,
      (∀ y ∈ a :: ins, s.intOf c k.ty x ≤ s.intOf c k.ty y) ∧
      exec (.minimum c) s = .next (s.wroteQ c k o ⟨(s.readEl c x).v, s.worst c (a :: ins)⟩)) ∧
    (s.callsQ c 0x2A k [a, b] o → exec (.maximum c) s = .next (s.wroteQ c k o
      ⟨if ltVal k.ty (s.readEl c a).v (s.readEl c b).v then (s.readEl c b).v else (s.readEl c a).v, s.worst c [a, b]⟩)) ∧
    (s.callsQ c 0x2B k [a, b] o → exec (.minimum c) s = .next (s.wroteQ c k o
      ⟨if ltVal k.ty (s.readEl c b).v (s.readEl c a).v then (s.readEl c b).v else (s.readEl c a).v, s.worst c [a, b]⟩)) ∧
    (s.nextCall c 0x2C = some k → k.ops = [g, a, b, o, p] → k.nops = 5 →
      exec (.limitBlock c) s = .next ((
        let mn := (s.readEl c g).v
        let x := (s.readEl c a).v
        let mx := (s.readEl c b).v
        let q := qLower 6 (ltVal k.ty mx mn) (s.worst c [g, a, b])
        let out := if ltVal k.ty mx mn then mx else if ltVal k.ty x mn then mn else if ltVal k.ty mx x then mx else x
        ((s.writeEl c o ⟨out, q⟩).writeEl c p ⟨boolVal (ltVal k.ty mx mn || !eqVal k.ty out x), q⟩)).goTo c ((s.task c).pc + 6))))

/-- The safety blocks give GOOD; an input counts TRUE only when its value is TRUE and its STATE is GOOD (R346). -/
def Obligations.SafetyBlocks : Prop :=
  ∀ (c : Fin 9) (s : State) (k : Call) (a b o : Opnd) (ins : List Opnd),
    let counts := fun (x : Opnd) => isTrue (s.readEl c x).v && decide (qState (s.readEl c x).q = 0)
    (s.callsQ c 0x80 k ins o → exec (.sand c) s = .next (s.wroteQ c k o ⟨boolVal (ins.all counts), qGood⟩)) ∧
    (s.callsQ c 0x81 k ins o → exec (.sor c) s = .next (s.wroteQ c k o ⟨boolVal (ins.any counts), qGood⟩)) ∧
    (s.callsQ c 0x82 k [a] o → exec (.sval c) s = .next (s.wroteQ c k o ⟨boolVal (counts a), qGood⟩)) ∧
    (s.callsQ c 0x83 k [a, b] o → exec (.sge c) s = .next (s.wroteQ c k o
      ⟨boolVal (decide (qState (s.readEl c a).q = 0) && decide (qState (s.readEl c b).q = 0) &&
        !ltVal k.ty (s.readEl c a).v (s.readEl c b).v), qGood⟩))

/-! ### Blocks with instance data (08) -/

/-- TON, TOF and TP: what they keep in their instance area and what Q and ET become, from the input, the preset and the time since the last
evaluation. At first use no time has passed, and the previous input is FALSE, for TOF the input itself. -/
def Obligations.TimerBlocks : Prop :=
  ∀ (c : Fin 9) (s : State) (k : Call) (i p q e : Opnd),
    let fl := s.instFlags c (8 * k.inst)
    let x := isTrue (s.readEl c i).v
    let pt := max (tyInt 6 (s.readEl c p).v) 0
    let d := if bit fl 0 then s.tau c - tyInt 6 (s.instWord c (8 * k.inst + 8) 8) else 0
    let el0 := if bit fl 0 then tyInt 6 (s.instWord c (8 * k.inst + 16) 8) else 0
    let keep := fun (q r : Bool) (el : Int) => inst24 (1 + 2 * b2n x + 4 * b2n q + 8 * b2n r) (s.tau c) (tyOfInt 6 el)
    let shows := fun (b : Bool) (el : Int) => [(q, El.mk (boolVal b) (s.worst c [i, p])), (e, El.mk (tyOfInt 6 (min el pt)) (s.worst c [i, p]))]
    (s.callsInst c 0x40 k [i, p] [q, e] → exec (.ton c) s = .next (
      let el := if x && bit fl 0 && bit fl 1 then satInt 64 (el0 + d) else 0
      s.wroteAll c k (keep (x && decide (pt ≤ el)) false el) (shows (x && decide (pt ≤ el)) el))) ∧
    (s.callsInst c 0x41 k [i, p] [q, e] → exec (.tof c) s = .next (
      let prev := if bit fl 0 then bit fl 1 else x
      let run := !x && (prev || (bit fl 0 && bit fl 3))
      let el := if x || prev then 0 else if bit fl 0 && bit fl 3 then satInt 64 (el0 + d) else el0
      let on := if x then true else if run && decide (pt ≤ el) then false else bit fl 0 && bit fl 2
      s.wroteAll c k (keep on (run && !decide (pt ≤ el)) el) (shows on el))) ∧
    (s.callsInst c 0x42 k [i, p] [q, e] → exec (.tpTimer c) s = .next (
      let was := bit fl 0 && bit fl 3
      let start := !was && x && !(bit fl 0 && bit fl 1)
      let el := if was then satInt 64 (el0 + d) else if start then 0 else el0
      let run := if was then decide (el < pt) else start && decide (0 < pt)
      let on := if was then decide (el < pt) && (bit fl 0 && bit fl 2) else if start then decide (0 < pt) else bit fl 0 && bit fl 2
      let shown := if run || x then el else 0
      s.wroteAll c k (keep on run shown) (shows on shown)))

/-- CTU, CTD and CTUD: a reset or a load takes precedence over an edge, two edges at once cancel, and a count beyond the range stays and
sets OVF. -/
def Obligations.CounterBlocks : Prop :=
  ∀ (c : Fin 9) (s : State) (k : Call) (u d r l p q1 q2 v o : Opnd),
    let fl := s.instFlags c (8 * k.inst)
    let on := fun (x : Opnd) => isTrue (s.readEl c x).v
    let pv := s.intOf c k.ty p
    let x := s.counterAt c (8 * k.inst)
    (s.callsInst c 0x48 k [u, r, p] [q1, v, o] → exec (.ctu c) s = .next (
      let y := if on r then ⟨0, false⟩ else if on u && bit fl 0 && !bit fl 1 then countUp k.ty x else x
      let w := s.worst c [u, r, p]
      s.wroteAll c k (instCounter (on u) false y) [(q1, ⟨boolVal (decide (pv ≤ y.cv)), w⟩), (v, ⟨tyOfInt k.ty y.cv, w⟩), (o, ⟨boolVal y.ovf, w⟩)])) ∧
    (s.callsInst c 0x49 k [d, l, p] [q1, v, o] → exec (.ctd c) s = .next (
      let y := if on l then ⟨pv, false⟩ else if on d && bit fl 0 && !bit fl 2 then countDown k.ty x else x
      let w := s.worst c [d, l, p]
      s.wroteAll c k (instCounter false (on d) y) [(q1, ⟨boolVal (decide (y.cv ≤ 0)), w⟩), (v, ⟨tyOfInt k.ty y.cv, w⟩), (o, ⟨boolVal y.ovf, w⟩)])) ∧
    (s.callsInst c 0x4A k [u, d, r, l, p] [q1, q2, v, o] → exec (.ctud c) s = .next (
      let eu := on u && bit fl 0 && !bit fl 1
      let ed := on d && bit fl 0 && !bit fl 2
      let y := if on r then ⟨0, false⟩ else if on l then ⟨pv, false⟩ else if eu && !ed then countUp k.ty x else if ed && !eu then countDown k.ty x else x
      let w := s.worst c [u, d, r, l, p]
      s.wroteAll c k (instCounter (on u) (on d) y) [(q1, ⟨boolVal (decide (pv ≤ y.cv)), w⟩), (q2, ⟨boolVal (decide (y.cv ≤ 0)), w⟩),
        (v, ⟨tyOfInt k.ty y.cv, w⟩), (o, ⟨boolVal y.ovf, w⟩)]))

/-- R_TRIG and F_TRIG fire for one evaluation after an edge, SR is set dominant, RS reset dominant, and RESTART enables only on a rising RST
that counts TRUE while PERMIT counts TRUE, until PERMIT no longer does. -/
def Obligations.EdgeAndBistableBlocks : Prop :=
  ∀ (c : Fin 9) (s : State) (k : Call) (a b q : Opnd),
    let fl := s.instFlags c (8 * k.inst)
    let x := isTrue (s.readEl c a).v
    let y := isTrue (s.readEl c b).v
    let was := bit fl 0 && bit fl 1
    (s.callsInst c 0x50 k [a] [q] → exec (.rTrig c) s = .next (
      s.wroteAll c k (leBytes 8 (1 + 2 * b2n x)) [(q, ⟨boolVal (x && bit fl 0 && !bit fl 1), (s.readEl c a).q⟩)])) ∧
    (s.callsInst c 0x51 k [a] [q] → exec (.fTrig c) s = .next (
      s.wroteAll c k (leBytes 8 (1 + 2 * b2n x)) [(q, ⟨boolVal (!x && was), (s.readEl c a).q⟩)])) ∧
    (s.callsInst c 0x58 k [a, b] [q] → exec (.sr c) s = .next (
      s.wroteAll c k (leBytes 8 (1 + 2 * b2n (x || (was && !y)))) [(q, ⟨boolVal (x || (was && !y)), s.worst c [a, b]⟩)])) ∧
    (s.callsInst c 0x59 k [a, b] [q] → exec (.rs c) s = .next (
      s.wroteAll c k (leBytes 8 (1 + 2 * b2n (!y && (x || was)))) [(q, ⟨boolVal (!y && (x || was)), s.worst c [a, b]⟩)])) ∧
    (s.callsInst c 0x88 k [a, b] [q] → exec (.restartBlock c) s = .next (
      let permit := x && decide (qState (s.readEl c a).q = 0)
      let rst := y && decide (qState (s.readEl c b).q = 0)
      let en := permit && ((bit fl 0 && bit fl 2) || (rst && bit fl 0 && !bit fl 1))
      s.wroteAll c k (leBytes 8 (1 + 2 * b2n rst + 4 * b2n en)) [(q, ⟨boolVal en, qGood⟩)]))

/-- RAMP moves Y towards X by at most its rate times the time passed, starts at TV and follows TV while TRK is TRUE; a negative rate counts
as 0. ROC's first use gives 0 and keeps X, and an evaluation without elapsed time changes only the task's place. REAL64. -/
def Obligations.RampAndRateBlocks : Prop :=
  ∀ (c : Fin 9) (s : State) (k : Call) (x up dn tr tv y b : Opnd), k.ty = 5 →
    let a := 8 * k.inst
    let val := fun (o : Opnd) => (s.readEl c o).v
    let used := bit (s.instFlags c a) 0
    let d := secsSince (s.tau c) (tyInt 6 (s.instWord c (a + 8) 8))
    let y0 := s.instWord c (a + 16) 8
    (s.callsInst c 0x30 k [x, up, dn, tr, tv] [y, b] → exec (.ramp c) s = .next (
      let trk := isTrue (val tr)
      let r := if trk then val tv
        else if !used then rampY (val tv) (val x) (val up) (val dn) (val tv) (secsSince (s.tau c) (s.tau c)) false
        else if lt64 y0 (val x) then min64 (val x) (add64 y0 (mul64 (max64 (val up) 0) d))
        else if lt64 (val x) y0 then max64 (val x) (sub64 y0 (mul64 (max64 (val dn) 0) d))
        else y0
      s.wroteAll c k (inst24 1 (s.tau c) r) [(y, ⟨r, (s.readEl c (if trk || !used then tv else x)).q⟩),
        (b, ⟨boolVal (!(le64 (val x) r && le64 r (val x))), s.worst c [x, up, dn, tr, tv]⟩)])) ∧
    (s.callsInst c 0x31 k [x, up] [y, b] → used = false → exec (.roc c) s = .next (
      s.wroteAll c k (inst24 1 (s.tau c) (val x)) [(y, ⟨0, s.worst c [x, up]⟩), (b, ⟨0, s.worst c [x, up]⟩)])) ∧
    (s.callsInst c 0x31 k [x, up] [y, b] → used = true → s.tau c ≤ tyInt 6 (s.instWord c (a + 8) 8) →
      exec (.roc c) s = .next (s.goTo c ((s.task c).pc + 5))) ∧
    (s.callsInst c 0x31 k [x, up] [y, b] → used = true → tyInt 6 (s.instWord c (a + 8) 8) < s.tau c →
      exec (.roc c) s = .next (
        let n := bits (s.instFlags c a) 4 4
        let diff := fmt64.round ((r64 (val x)).sub (r64 y0))
        let rate := fmt64.round ((r64 diff.bits).div (r64 d))
        s.wroteAll c k (inst24 (1 + 16 * min 8 (n + 1)) (s.tau c) (val x))
          [(y, ⟨rate.bits, qLower 1 (diff.ovf || rate.ovf) (s.worst c [x, up])⟩),
           (b, ⟨boolVal (decide (8 ≤ n) && lt64 (val up) (abs64 rate.bits)), s.worst c [x, up]⟩)]))

/-! ### Power, clocks and power states (02, 03) -/

/-- The supply's bands (R46): every supply command shows the voltage and the band, and leaving the band raises its event; a supply that
returns ends the hold-up and the unit starts again, with cause supply return (R50). Above 36 V (720 steps of 50 mV) no behaviour is
specified, and the command faults. -/
def Obligations.SupplyBandsAreShown : Prop :=
  ∀ (v : BitVec 10) (pct : Nat) (s : State),
    (∃ t, exec (.supplyLow v) s = .next t ∧ t.fld Reg.CPM_SUP_VSUP = v.toNat ∧ t.fld Reg.CPM_STAT_SUPST = 1 ∧
      t.flag Reg.CPM_FAULT_SUP_LOW = true ∧ t.told 0 0 0) ∧
    (v.toNat ≤ 720 → ∃ t, exec (.supplyOver v) s = .next t ∧ t.fld Reg.CPM_SUP_VSUP = v.toNat ∧ t.fld Reg.CPM_STAT_SUPST = 2 ∧
      t.flag Reg.CPM_FAULT_SUP_OVER = true ∧ t.told 1 0 0) ∧
    (720 < v.toNat → exec (.supplyOver v) s = .fault .beyondAbsoluteLimit) ∧
    (∃ t, exec (.supplyNormal v) s = .next t ∧ t.fld Reg.CPM_SUP_VSUP = v.toNat ∧ t.fld Reg.CPM_STAT_SUPST = 0) ∧
    (s.cpm.holdUp = true → ∃ t, exec (.supplyReturn v pct) s = .next t ∧ t.fld Reg.CPM_SUP_VSUP = v.toNat ∧ t.cpm.holdUp = false ∧
      t.cpm.phase = .ready ∧ t.cpm.startCause = .supret ∧ t.told 3 0 0)

/-- The watches of the clocks (R76 to R78, R44, R94): the slot code, the trim of IOSC, a failed XT32, and a frequency measurement from its
start to its count. The always-on save counts one operating second and writes counters and trim to MRAM. A clock divider cannot be written at run time: CPM_FAULT.DIVWR sets and CPM_CLKDIV keeps its value (R95); a write by a master that may
not write reports a bus error as well. -/
def Obligations.ClockWatchesAndDividers : Prop :=
  (∀ (s : State) (code : BitVec 4) (ppm : Int) (m : Master) (w : Word) (n : Nat),
    (s.cpm.phase ≠ .off → s.cpm.phase ≠ .ready → ∃ t, exec (.slotCodeChange code) s = .next t ∧
      t.flag Reg.CPM_STAT_SLOT_CHG = decide (code.toNat ≠ s.fld Reg.CPM_STAT_SLOT) ∧ t.cpm.slotNow = code.toNat ∧ t.told 9 0 0) ∧
    (s.trimSource = true → ppm.natAbs ≤ 100 → ∃ t, exec (.ioscTrim ppm) s = .next t ∧ t.flag Reg.CPM_TRIM_TRIMMED = true ∧
      t.fld Reg.CPM_TRIM_TRIM = s.fld Reg.CPM_TRIM_TRIM) ∧
    (s.trimSource = true → 100 < ppm.natAbs → 1 < s.fld Reg.CPM_TRIM_TRIM → s.fld Reg.CPM_TRIM_TRIM < 1022 →
      ∃ t, exec (.ioscTrim ppm) s = .next t ∧ t.flag Reg.CPM_TRIM_TRIMMED = false ∧
        (t.fld Reg.CPM_TRIM_TRIM = s.fld Reg.CPM_TRIM_TRIM + 1 ∨ t.fld Reg.CPM_TRIM_TRIM + 1 = s.fld Reg.CPM_TRIM_TRIM)) ∧
    (s.flag Reg.CPM_STAT_XT32_OK = true → ∃ t, exec (.xt32Check false) s = .next t ∧ t.flag Reg.CPM_STAT_XT32_OK = false ∧
      t.flag Reg.CPM_STAT_OSEC_IOSC = true ∧ t.flag Reg.CPM_FAULT_XT32_FAIL = true ∧ t.told 6 0 0) ∧
    (m.isPair = true → w.getLsbD 24 = true → ∃ t, exec (.fmStart m w) s = .next t ∧ t.flag Reg.CPM_FMCTRL_BUSY = true ∧
      t.flag Reg.CPM_FMCTRL_OVF = false ∧ t.cpm.fm = some ⟨wordField w 0 4, wordField w 4 4, wordField w 8 16⟩) ∧
    (s.flag Reg.CPM_FMCTRL_BUSY = true → ∃ t, exec (.fmDone n) s = .next t ∧ t.flag Reg.CPM_FMCTRL_BUSY = false ∧
      t.fld Reg.CPM_FMRES_COUNT = min 0xFFFFFFFF n ∧ t.flag Reg.CPM_FMCTRL_OVF = decide (0xFFFFFFFF < n) ∧ t.told 8 0 0) ∧
    (∃ t, exec .alwaysOnSave s = .next t ∧ t.cpm.savedOp = min 0xFFFFFFFF (s.fld Reg.CPM_OPSEC_OPSEC + 1) ∧
      t.cpm.savedCyc = s.fld Reg.CPM_PWRCYC_PWRCYC ∧ t.cpm.savedTrim = s.fld Reg.CPM_TRIM_TRIM ∧ t.mem = s.mem)) ∧
  (∀ (s : State) (m : Master) (w : Word), ∃ t, exec (.clkdivWrite m w) s = .next t ∧ t.flag Reg.CPM_FAULT_DIVWR = true ∧
    t.reg Reg.CPM_CLKDIV = s.reg Reg.CPM_CLKDIV ∧ (s.mayWriteRegs m = false → t.told 45 Reg.CPM_CLKDIV m.num))

/-- CPM_CTRL acts only with its key 0xA5 (R92): RESTART starts the unit again with everything volatile at its reset value, keeping what
R94, R468 and R483 keep; without the key nothing happens. An automatic restart happens 10 s after the STOP record, if enabled, not after an
overrun, at most three times in 86,400 operating seconds (R468, R524). -/
def Obligations.Restarts : Prop :=
  (∀ (s : State) (m : Master) (w : Word), m.isPair = true →
    (wordField w 8 8 ≠ 0xA5 → exec (.cpmRestart m w) s = .next s ∧ exec (.haltReq m w) s = .next s) ∧
    (wordField w 8 8 = 0xA5 → w.getLsbD 0 = true → ∃ t, exec (.cpmRestart m w) s = .next t ∧ t.cpm.phase = .ready ∧
      t.cpm.startCause = .swreq ∧ t.mono = s.mono ∧ t.outbox = s.outbox ∧ t.pending = s.pending ∧ t.img = none ∧ t.locks = [] ∧
      t.tasks = State.reset.tasks ∧ t.field = State.reset.field ∧ t.fld Reg.CPM_OPSEC_OPSEC = s.fld Reg.CPM_OPSEC_OPSEC ∧
      (∀ a, t.byte a = if inMram a then s.byte a else 0))) ∧
  (∀ (s : State) (r : Nat), s.cpm.restartFrom = some r →
    (s.flag Reg.RDL_CFG_AUTORST = true → s.cpm.overrunStop = false → s.recentRestarts.length < 3 → s.inHalt = true →
      (s.cpm.gaveUp = true ∨ s.fld Reg.CPM_STAT_SLOT = 1) →
      ∃ t, exec .autoRestart s = .next t ∧ t.cpm.phase = .ready ∧ t.cpm.startCause = .auto ∧ r + 10000000000 ≤ t.mono ∧
        t.cpm.autoRst.length = s.recentRestarts.length + 1) ∧
    ((s.flag Reg.RDL_CFG_AUTORST = false ∨ s.cpm.overrunStop = true ∨ 3 ≤ s.recentRestarts.length ∨ s.inHalt = false) →
      exec .autoRestart s = .next s))

/-- IDLE and DOZE (R89 to R91): a pair with no running task and no event presented to it becomes idle; link energy, a wake instant or an
event starts the exit from DOZE, and the locked PLL completes it. DOZE is entered only when its conditions hold and every pair is idle (R90); otherwise nothing happens. -/
def Obligations.IdleAndDoze : Prop :=
  (∀ (s : State) (p : Fin 3),
    (s.pairBusy p = false → s.pairEvent p = false → ∃ t, exec (.pairIdleEnter p) s = .next t ∧ t.flag (idleBit p) = true ∧
      (∀ a, a ≠ Reg.CPM_STAT → t.reg a = s.reg a)) ∧
    (s.cpm.phase = .doze → ∃ t, exec .dozeWake s = .next t ∧ t.cpm.waking = true ∧ t.cpm.phase = .doze ∧ s.mono ≤ t.mono) ∧
    (s.cpm.phase = .doze → s.cpm.waking = true → ∃ t, exec .dozePllLock s = .next t ∧ t.cpm.phase = .run ∧ t.cpm.waking = false ∧
      t.fld Reg.CPM_STAT_PSTATE = 0 ∧ t.flag Reg.CPM_STAT_PLL_LOCK = true) ∧
    (s.cpm.phase = .doze → ∃ t, exec .x6LinkEnergy s = .next t ∧ t.cpm.waking = true ∧ t.regs = s.regs)) ∧
  (∀ (s : State),
    (s.cpm.phase = .run → s.cpm.haltOnStop = false → s.flag Reg.CPM_PSCFG_DOZE_EN = true → s.dozeOk = true →
      s.fld Reg.CPM_STAT_PAIR_IDLE = 7 → ∃ t, exec .dozeEnter s = .next t ∧ t.cpm.phase = .doze ∧ t.cpm.waking = false ∧
        t.fld Reg.CPM_STAT_PSTATE = 1 ∧ t.flag Reg.CPM_STAT_PLL_LOCK = false) ∧
    ((s.dozeOk = false ∨ s.flag Reg.CPM_PSCFG_DOZE_EN = false ∨ s.fld Reg.CPM_STAT_PAIR_IDLE ≠ 7) → exec .dozeEnter s = .next s))

/-! ### Faults, lockstep, memory errors, HALT (04, 17, 21) -/

/-- What a corrected or an uncorrectable memory error leaves behind (R101, R102, R104, R448): the counter, the address of its 8-byte word,
and the event with the reading master; an uncorrectable SRAM error in a unit that runs is a fault of the unit. A scrub pass that ends is
counted, and the MRAM scrubber shows its progress. -/
def Obligations.MemoryErrorsAreCounted : Prop :=
  ∀ (s : State) (a pct : Nat) (syn : BitVec 8),
    (inSram a = true → ∃ t, exec (.scrubRead a (.corrected syn) false) s = .next t ∧ t.told 40 a 5 ∧
      t.fld Reg.CMP_SCORR_COUNT = min 65535 (s.fld Reg.CMP_SCORR_COUNT + 1) ∧ t.reg Reg.CMP_SADDR = BitVec.ofNat 32 (a / 8 * 8) ∧
      t.mem = s.mem) ∧
    (inSram a = true → s.cpm.phase ≠ .run → s.cpm.phase ≠ .doze →
      ∃ t, exec (.scrubRead a (.uncorrectable syn) false) s = .next t ∧ t.told 41 a 5 ∧
        t.fld Reg.CMP_SUNC_COUNT = min 255 (s.fld Reg.CMP_SUNC_COUNT + 1)) ∧
    (inSram a = true → s.cpm.phase = .run → ∃ t, exec (.scrubRead a (.uncorrectable syn) false) s = .next t ∧ t.cpm.haltOnStop = true) ∧
    (∃ t, exec (.scrubRead a .clean true) s = .next t ∧ t.told 42 0 0 ∧
      t.fld Reg.CMP_SCRUB_SPASS = min 65535 (s.fld Reg.CMP_SCRUB_SPASS + 1)) ∧
    (inMram a = true → ∃ t, exec (.mramScrubRead a (.corrected syn) pct) s = .next t ∧ t.told 43 a 5 ∧
      t.fld Reg.CMP_MCORR_COUNT = min 65535 (s.fld Reg.CMP_MCORR_COUNT + 1) ∧ t.fld Reg.CMP_SCRUB_MPCT = min 100 pct) ∧
    (inMram a = true → ∃ t, exec (.mramScrubRead a (.uncorrectable syn) pct) s = .next t ∧ t.told 44 a 5 ∧ t.cpm.haltOnStop = s.cpm.haltOnStop)

/-- A lockstep mismatch (R442, R444) latches the lowest differing lane, all of them and the syndrome, and marks the pairs failed; a unit that
runs leaves RUN. A cache parity error is counted and the pair goes on (R440). A stopped pair restarts with its self-test (R445): Pair 0 by
itself, Pairs 1 and 2 by a keyed write of Pair 0 in HALT. -/
def Obligations.LockstepReactions : Prop :=
  ∀ (s : State) (lanes : BitVec 24) (syn : BitVec 64) (w : Word) (p : Fin 3),
    (s.liveLanes lanes ≠ 0 → s.cpm.phase ≠ .run → s.cpm.phase ≠ .doze → ∃ t, exec (.lockstepMismatch lanes syn) s = .next t ∧
      t.reg Reg.CMP_FIRST = BitVec.ofNat 32 (lowestLane (s.liveLanes lanes) + 32) ∧ t.reg Reg.CMP_LANES = BitVec.ofNat 32 (s.liveLanes lanes) ∧
      t.reg Reg.CMP_SYN_LO = syn.extractLsb' 0 32 ∧ t.reg Reg.CMP_SYN_HI = syn.extractLsb' 32 32 ∧
      (bits (s.liveLanes lanes) (8 * p.val) 8 ≠ 0 → t.flag (failedBit p) = true) ∧
      t.told 32 (lowestLane (s.liveLanes lanes) + 32) (s.liveLanes lanes)) ∧
    (s.liveLanes lanes ≠ 0 → s.cpm.phase = .run → ∃ t, exec (.lockstepMismatch lanes syn) s = .next t ∧ t.cpm.haltOnStop = true) ∧
    (s.flag (failedBit p) = false → ∃ t, exec (.cacheParityError p) s = .next t ∧
      t.fld Reg.CMP_CPAR_COUNT = min 65535 (s.fld Reg.CMP_CPAR_COUNT + 1) ∧ t.cpm = s.cpm ∧ t.mem = s.mem) ∧
    (s.inHalt = true → wordField w 8 8 = 0x96 → w.getLsbD 1 = true → w.getLsbD 2 = false → s.flag (failedBit 1) = true →
      lanesOf lanes 1 = 255 → ∃ t, exec (.cmpPairRestart .pair0 w lanes) s = .next t ∧ t.flag (failedBit 1) = false ∧ t.told 34 257 0) ∧
    (s.flag (failedBit 0) = true → s.inHalt = true → s.fld Reg.CMP_STAT_RESTARTS < 3 → lanesOf lanes 0 = 255 →
      ∃ t, exec (.pair0AutoRestart lanes) s = .next t ∧ t.flag (failedBit 0) = false ∧ t.told 34 256 0) ∧
    (3 ≤ s.fld Reg.CMP_STAT_RESTARTS → exec (.pair0AutoRestart lanes) s = .next s)

/-- A HALT request with its key (R92, R467): in HALT nothing happens; a SOLO unit stops the station, and its STOP record, once written, takes
it to HALT; RUN is left, the role is OFF and the safe-state request goes out. A supply that fails starts the hold-up and shows it (R46, R519); when the store reaches its shut-down level the rails collapse and the
unit is OFF (R50). The reference lost, the PLL coasts (R79): in a unit that has not started up there is no effect. -/
def Obligations.StationStops : Prop :=
  (∀ (s : State) (m : Master) (w : Word), m.isPair = true → wordField w 8 8 = 0xA5 → w.getLsbD 0 = false → w.getLsbD 1 = true →
    (s.cpm.phase = .halt → exec (.haltReq m w) s = .next s) ∧
    (s.cpm.phase = .run → s.cpm.haltOnStop = false → s.fld Reg.RDL_STAT_ROLE = 1 →
      ∃ t, exec (.haltReq m w) s = .next t ∧ t.cpm.haltOnStop = true ∧ t.fld Reg.RDL_STAT_ROLE = 0 ∧ t.fld Reg.RDL_STAT_OFFCAUSE = 5 ∧
        t.flag Reg.IMG_STAT_STOPPED = true ∧ RimFrame.safe true ∈ t.toField)) ∧
  (∀ (s : State) (v : BitVec 10) (g : BitVec 7),
    (s.cpm.phase = .halt → s.cpm.holdUp = false → g = 0 → ∃ t, exec (.supplyFail v g) s = .next t ∧ t.cpm.holdUp = true ∧
      t.fld Reg.CPM_STAT_SUPST = 3 ∧ t.fld Reg.CPM_SUP_VSUP = v.toNat ∧ t.told 2 0 0 ∧ t.cpm.phase = .halt) ∧
    (s.cpm.holdUp = true → exec (.supplyFail v g) s = .next s) ∧
    (s.cpm.holdUp = true → ∃ t, exec .storeShutdownLevel s = .next t ∧ t.cpm.phase = .off ∧ t.cpm.holdUp = false ∧ t.mono = s.mono ∧
      (∀ a, t.byte a = if inMram a then s.byte a else 0)) ∧
    (s.cpm.holdUp = false → exec .storeShutdownLevel s = .next s) ∧
    (s.cpm.phase = .run → s.flag Reg.CPM_STAT_PLL_COAST = false → s.cpm.haltOnStop = false → s.fld Reg.RDL_STAT_ROLE = 1 →
      ∃ t, exec .refLoss s = .next t ∧ t.cpm.haltOnStop = true ∧ t.ptp.ended = true ∧ t.ksap.challenges = []) ∧
    (s.flag Reg.CPM_STAT_PLL_COAST = true → exec .refLoss s = .next s))

/-! ### Events, queues, mailboxes, locks (05) -/

/-- A software trigger is an occurrence of source 248 + SEL with INFO and the writing master as its detail (R122, R123): it counts, its
detail is stored, and if it is presented to a pair it becomes pending; memory and every register outside the router, PAIR_IDLE and the
recorder's fill stay as they were. A claim returns the presented source with the highest level, clears its pending bit for a pair, and changes nothing else (R125). -/
def Obligations.TriggersAndClaims : Prop :=
  (∀ (s : State) (m : Master) (w : Word), m.isPair = true →
    ∃ t, exec (.evtSwtrig m w) s = .next t ∧ t.told (248 + wordField w 0 3) (wordField w 16 16) m.num ∧
      t.fld (Reg.EVT_CNT_COUNT (248 + wordField w 0 3)) = min 255 (s.fld (Reg.EVT_CNT_COUNT (248 + wordField w 0 3)) + 1) ∧
      (s.presented (248 + wordField w 0 3) = true → t.isPending (248 + wordField w 0 3) = true) ∧ t.mem = s.mem ∧
      (∀ a, (a < 0x40010000 ∨ 0x40012000 ≤ a) → a ≠ Reg.CPM_STAT → a ≠ Reg.EVR_STAT → a ≠ Reg.EVR_PEAK → a ≠ Reg.EVR_LOST → t.reg a = s.reg a)) ∧
  (∀ (s : State) (m : Master) (p : Fin 3) (src : Nat), m.isPair = true → s.claim p = some src →
    s.isPending src = true ∧ s.presented src = true ∧
    (∀ n, n < 256 → s.isPending n = true → s.presented n = true → s.fld (Reg.EVT_ROUTE_TARGET n) = p.val →
      s.fld (Reg.EVT_ROUTE_LEVEL n) ≤ s.fld (Reg.EVT_ROUTE_LEVEL src)) ∧
    ∃ t, exec (.evtClaim m p) s = .next t ∧ t.returned m.num = BitVec.ofNat 32 (src + 256 * s.fld (Reg.EVT_ROUTE_LEVEL src) + 2 ^ 31) ∧
      t.isPending src = false ∧ (∀ n, n < 256 → n ≠ src → t.isPending n = s.isPending n) ∧ t.mem = s.mem)

/-- A push of a good descriptor into a queue that is enabled, not full and the master's own goes into the ring behind the descriptors
there (R128, R129): its first 14 bytes as they stand, the level one higher; one that is denied, full or bad only counts as a drop. -/
def Obligations.PushGoesBehindTheQueue : Prop :=
  ∀ (s : State) (m : Master) (q : Fin 64) (a : Nat), m.isPair = true →
    (s.flag (Reg.QUE_CFG_EN q) = true → s.fld (Reg.QUE_CFG_PROD q) = m.num → s.fld (Reg.QUE_CFG_SIZE q) ≤ 12 →
      s.fld (Reg.QUE_STAT_LEVEL q) < 2 ^ s.fld (Reg.QUE_CFG_SIZE q) → a % 16 = 0 → inShared a 16 = true → badDesc (s.bytes a 16) = false →
      ∃ t, exec (.quePush m q a) s = .next t ∧ t.fld (Reg.QUE_STAT_LEVEL q) = s.fld (Reg.QUE_STAT_LEVEL q) + 1 ∧
        (let r := s.ringAddr q (s.qHead q + s.fld (Reg.QUE_STAT_LEVEL q))
         t.bytes r 14 = s.bytes a 14 ∧ (∀ x, (x < r ∨ r + 16 ≤ x) → t.byte x = s.byte x))) ∧
    (s.fld (Reg.QUE_CFG_PROD q) ≠ m.num →
      ∃ t, exec (.quePush m q a) s = .next t ∧ t.told 68 (q.val + 1024) m.num ∧ t.mem = s.mem ∧
        t.fld (Reg.QUE_STAT_LEVEL q) = s.fld (Reg.QUE_STAT_LEVEL q))

/-- A round with a winner (R130 to R132): its head descriptor leaves the ring, its class's pointer moves to it, and a consumer pair finds the
descriptor's address in QUE_POP; without a competitor nothing happens. A release frees the available descriptor. A queue whose
configuration is idle takes a new one, and one that is not keeps it (R137). -/
def Obligations.RoundServesTheWinner : Prop :=
  ∀ (s : State) (m : Master) (q : Fin 64) (egr : Nat) (w : Word),
    (s.winner = some q.val → s.fld (Reg.QUE_CFG_CONS q) < 3 → ∃ t, exec (.queRound egr) s = .next t ∧
      Sparse.get (fun _ => 0) t.que.head q = (s.qHead q + 1) % 2 ^ s.fld (Reg.QUE_CFG_SIZE q) ∧
      Sparse.get (fun _ => 63) t.que.ptr (s.eclass q) = q.val ∧
      t.reg (Reg.QUE_POP q) = BitVec.ofNat 32 (s.ringAddr q (s.qHead q)) ∧ t.mem = s.mem) ∧
    (s.winner = none → exec (.queRound egr) s = .next s) ∧
    (m.isPair = true → s.reg (Reg.QUE_POP q) ≠ 0 → ∃ t, exec (.queRel m q) s = .next t ∧ t.reg (Reg.QUE_POP q) = 0 ∧ t.mem = s.mem) ∧
    (m.isPair = true → s.queIdle q = true → ∃ t, exec (.queCfgWrite m q true w) s = .next t ∧ t.reg (Reg.QUE_BASE q) = w ∧ t.mem = s.mem) ∧
    (m.isPair = true → s.queIdle q = false → ∃ t, exec (.queCfgWrite m q true w) s = .next t ∧ t.reg (Reg.QUE_BASE q) = s.reg (Reg.QUE_BASE q) ∧
      t.told 68 (q.val + 1280) m.num)

/-- A post into an empty mailbox by its sender (R138, R139): FULL, the header with length, tag and the sender's generation, the eight staged
words, and the receiver's event; into a full one, a collision. A take by the receiver empties it; a message that waits too long sets TMO. Locks (R147 to R150): the one master that attempts a free lock gets it and reads 0; another reads the owner's number plus 1; only the
owner's write of 0 frees it, and any other write is a rejected release. Pair 0 attempts and releases for the host data port. A holding
beyond the limit is reported once. -/
def Obligations.MailboxesAndLocks : Prop :=
  (∀ (s : State) (m : Master) (b : Fin 24) (w : Word) (t0 : Nat), m.isPair = true → s.flag (Reg.MBX_CFG_EN b) = true →
    (s.fld (Reg.MBX_CFG_SND b) = m.num → s.fld (Reg.MBX_CFG_RCV b) ≠ 3 → wordField w 0 6 ≤ 32 → s.flag (Reg.MBX_STAT_FULL b) = false →
      ∃ t, exec (.mbxPost m b w) s = .next t ∧ t.flag (Reg.MBX_STAT_FULL b) = true ∧
        t.reg (Reg.MBX_RXHDR b) = mbxHeader (wordField w 0 6) (wordField w 8 8) (s.fld ⟨Reg.MBX_GEN, 8 * m.num, 8⟩) ∧
        (∀ i, i < 8 → t.reg (Reg.MBX_RX b i) = s.reg (Reg.MBX_TX b i)) ∧ t.mem = s.mem ∧ t.toField = s.toField) ∧
    (s.fld (Reg.MBX_CFG_SND b) = m.num → wordField w 0 6 ≤ 32 → s.flag (Reg.MBX_STAT_FULL b) = true →
      ∃ t, exec (.mbxPost m b w) s = .next t ∧ t.flag (Reg.MBX_STAT_COLL b) = true ∧ t.reg (Reg.MBX_RXHDR b) = s.reg (Reg.MBX_RXHDR b)) ∧
    (s.fld (Reg.MBX_CFG_RCV b) = m.num → s.flag (Reg.MBX_STAT_FULL b) = true →
      ∃ t, exec (.mbxTake m b) s = .next t ∧ t.flag (Reg.MBX_STAT_FULL b) = false ∧ (∀ e ∈ t.mbx.posted, e.1 ≠ b.val)) ∧
    (s.mbx.posted.find? (fun e => e.1 = b.val) = some (b.val, t0, false) → s.fld (Reg.MBX_CFG_TMO b) ≠ 0 → s.fld (Reg.MBX_CFG_SND b) < 3 →
      ∃ t, exec (.mbxTimeout b) s = .next t ∧ t.flag (Reg.MBX_STAT_TMO b) = true ∧ t0 + 10000 * s.fld (Reg.MBX_CFG_TMO b) < t.mono)) ∧
  (∀ (s : State) (m : Master) (n : Fin 32) (w : Word) (t0 : Nat),
    (s.lockOwner n = 0 → m ≠ .hdp → ∃ t, exec (.lckAcquire n [m]) s = .next t ∧ t.lockOwner n = m.num + 1 ∧ t.returned m.num = 0 ∧
      (∀ k : Fin 32, k ≠ n → t.lockOwner k = s.lockOwner k)) ∧
    (s.lockOwner n ≠ 0 → s.lockOwner n ≠ m.num + 1 → m ≠ .hdp → ∃ t, exec (.lckAcquire n [m]) s = .next t ∧
      t.lockOwner n = s.lockOwner n ∧ t.returned m.num = BitVec.ofNat 32 (s.lockOwner n)) ∧
    (m.isPair = true → s.lockOwner n = m.num + 1 → ∃ t, exec (.lckRelease m n 0) s = .next t ∧ t.lockOwner n = 0) ∧
    (m.isPair = true → (w ≠ 0 ∨ s.lockOwner n ≠ m.num + 1) → ∃ t, exec (.lckRelease m n w) s = .next t ∧ t.lockOwner n = s.lockOwner n ∧
      t.told 71 (n.val + 256 * m.num) 0) ∧
    (s.lockOwner n = 0 → ∃ t, exec (.lckHdpreq .pair0 n) s = .next t ∧ t.lockOwner n = 4 ∧ t.reg Reg.LCK_HDPRES = 3) ∧
    (s.lockOwner n = 4 → ∃ t, exec (.lckHdprel .pair0 n) s = .next t ∧ t.lockOwner n = 0) ∧
    (s.locks.find? (fun h => h.lock = n.val) = some ⟨n.val, t0, false⟩ → s.fld Reg.LCK_HOLD_LIMIT_LIMIT ≠ 0 →
      ∃ t, exec (.lckHoldExpiry n) s = .next t ∧ t.told 70 (n.val + 256 * (s.lockOwner n - 1)) 0 ∧
        t0 + 1000 * s.fld Reg.LCK_HOLD_LIMIT_LIMIT < t.mono))

/-- A host pair's domain is reset only in HALT (R143); Pair F's reset counts its generation and discards the messages in transit to it. -/
def Obligations.DomainResets : Prop :=
  ∀ (s : State) (d : Fin 4),
    (d.val < 3 → s.inHalt = false → exec (.domainReset d) s = .next s) ∧
    (d.val = 3 → ∃ t, exec (.domainReset d) s = .next t ∧ (∀ b h l, RimFrame.ctrlPost b h l ∉ t.toField)) ∧
    (d.val < 3 → s.inHalt = true → ∃ t, exec (.domainReset d) s = .next t ∧ t.mem = s.mem ∧ t.toField = s.toField ∧
      (∀ k : Fin 32, s.lockOwner k = d.val + 1 → t.lockOwner k = 0))

/-! ### The event recorder (19) -/

/-- The writer takes the first claimed entry: its record goes to the place the area's rules give, with the next sequence number at both
ends, and the sequence number counts on (R484, R490); nothing is written while a clear is in progress (R492). ARM with the key empties the first-out area and marks where it was armed (R491); CLEAR starts an erasure in HALT only (R492), and its
end empties every record and arms the area. A software record claims an entry of class SOFT with INFO and the master (R482), unless no entry is free, which counts as lost (R488). A
read of the window returns the word, and a pair's read of its last word with AUTO moves the index on (R494). -/
def Obligations.Recorder : Prop :=
  (∀ (s : State) (e : RecEntry) (rest : List RecEntry), s.evr.buf = e :: rest → s.flag Reg.EVR_STAT_CLEARING = false →
    (e.cls = 1 → s.fld Reg.EVR_STAT_FO_FILL < 511 → s.fld Reg.EVR_SEQ_NEXT < 0xFFFFFFFF → s.evr.lost = none → e.snap.length ≤ 26 →
      (s.flag Reg.EVR_STAT_FO_STOP = false ∨ s.fld Reg.EVR_STAT_FO_FILL ≠ 510) →
      ∃ t, exec (.recordWrite .clean) s = .next t ∧ t.evr.buf = rest ∧
        t.rdLE (recAddr (s.fld Reg.EVR_STAT_FO_FILL)) 4 = s.fld Reg.EVR_SEQ_NEXT ∧
        t.rdLE (recAddr (s.fld Reg.EVR_STAT_FO_FILL) + 248) 4 = s.fld Reg.EVR_SEQ_NEXT ∧
        t.fld Reg.EVR_SEQ_NEXT = s.fld Reg.EVR_SEQ_NEXT + 1 ∧ t.fld Reg.EVR_STAT_FO_FILL = s.fld Reg.EVR_STAT_FO_FILL + 1 ∧
        (∀ a, (a < recAddr (s.fld Reg.EVR_STAT_FO_FILL) ∨ recAddr (s.fld Reg.EVR_STAT_FO_FILL) + 256 ≤ a) → t.byte a = s.byte a)) ∧
    (∀ ecc, s.flag Reg.EVR_STAT_CLEARING = true → exec (.recordWrite ecc) s = .next s)) ∧
  (∀ (s : State) (m : Master) (w : Word) (i : Nat), m.isPair = true →
    (wordField w 8 8 = 0xE7 → w.getLsbD 0 = true → w.getLsbD 1 = false → ∃ t, exec (.evrArm m w) s = .next t ∧
      t.fld Reg.EVR_STAT_FO_FILL = 0 ∧ t.flag Reg.EVR_STAT_FO_STOP = false ∧ t.flag Reg.EVR_STAT_FO_FULL = false ∧
      t.reg Reg.EVR_ARMSEQ = s.reg Reg.EVR_SEQ ∧ t.told 234 (s.reg Reg.EVR_SEQ).toNat 0 ∧ t.mem = s.mem) ∧
    (wordField w 8 8 = 0xE7 → w.getLsbD 0 = false → w.getLsbD 1 = true → s.inHalt = true → ∃ t, exec (.evrClear m w) s = .next t ∧
      t.flag Reg.EVR_STAT_CLEARING = true ∧ t.reg Reg.EVR_CLRSEQ = s.reg Reg.EVR_SEQ ∧ t.mem = s.mem) ∧
    (wordField w 8 8 = 0xE7 → w.getLsbD 0 = false → s.inHalt = false → exec (.evrClear m w) s = .next s) ∧
    (wordField w 8 8 ≠ 0xE7 → exec (.evrArm m w) s = .next s ∧ exec (.evrClear m w) s = .next s) ∧
    (s.flag Reg.EVR_STAT_CLEARING = true → ∃ t, exec .evrClearEnd s = .next t ∧ t.flag Reg.EVR_STAT_CLEARING = false ∧
      t.fld Reg.EVR_STAT_FO_FILL = 0 ∧ t.told 233 0 0 ∧
      (i < 8192 → t.rdLE (recAddr i) 4 = 0 ∧ t.rdLE (recAddr i + 248) 4 = 0xFFFFFFFF))) ∧
  (∀ (s : State) (m : Master) (w : Word) (k : Fin 64), m.isPair = true →
    (s.recFree = true → ∃ t e, exec (.evrSwrec m w) s = .next t ∧ t.evr.buf = s.evr.buf ++ [e] ∧ e.cls = 3 ∧
      e.lo = BitVec.ofNat 32 (wordField w 16 16) ∧ e.hi = BitVec.ofNat 32 m.num ∧ e.time = s.now ∧ t.mem = s.mem) ∧
    (s.recFree = false → ∃ t, exec (.evrSwrec m w) s = .next t ∧ t.evr.buf = s.evr.buf ∧ t.evr.lost.isSome = true) ∧
    (∃ t, exec (.evrWinRead m k) s = .next t ∧ t.returned m.num = BitVec.ofNat 32 (s.liveReg (Reg.EVR_WIN k)) ∧
      t.fld Reg.EVR_CUR_INDEX = (if k.val = 63 ∧ s.flag Reg.EVR_CUR_AUTO = true then (s.fld Reg.EVR_CUR_INDEX + 1) % 8192
        else s.fld Reg.EVR_CUR_INDEX) ∧ t.mem = s.mem))

/-! ### Tasks, Tricks, views (07, 08) -/

/-- A release of a periodic task (R18, R189) begins its latch at t_rel and sets its deadline and the next release, one period on; the
latch completes into the task's execution from its entry (R20); F's cycle starts at its instant with its watchdog (R195, R196). On a standby
the INPUT message of a Trick starts the shadow with the active unit's input image (R461). -/
def Obligations.ReleaseAndLatch : Prop :=
  ∀ (s : State) (c : Fin 8) (d : Fin 9) (t : Nat) (r : TaskRec) (m : InputMsg),
    ((s.task c).nextRel = some t → s.taskRec c = some r → s.cpm.phase = .run → s.inControl = true → (s.task c).latching = false →
      (s.task c).executing = false → s.heldBySwap t = false →
      ∃ u, exec (.taskRelease c) s = .next u ∧ (u.task c).latching = true ∧ (u.task c).tRel = t ∧
        (u.task c).nextRel = some (t + 1000 * r.period) ∧ (u.task c).deadline = t + 1000 * r.period - 1000 * r.lout ∧
        (u.task c).sysP = r.period ∧ u.flag Reg.IMG_STAT_RELEASING = true ∧ u.mem = s.mem) ∧
    ((s.task d).latching = true → s.taskRec d = some r →
      ∃ u, exec (.latchComplete d) s = .next u ∧ (u.task d).latching = false ∧ (u.task d).executing = true ∧ (u.task d).pc = r.entry / 4 ∧
        (u.task d).latchedAt = s.mono) ∧
    ((s.task 8).nextRel = some t → s.taskRec 8 = some r → s.cpm.phase = .run → s.inControl = true → (s.task 8).latching = false →
      (s.task 8).executing = false → s.heldBySwap t = false →
      ∃ u, exec .fCycleStart s = .next u ∧ (u.task 8).latching = true ∧ (u.task 8).tRel = t ∧ (u.task 8).nextRel = none ∧
        (u.task 8).prevStart = t ∧ (u.task 8).deadline = t + 1000000 * r.fwdog) ∧
    (s.sized → s.shadows m.task = true → m.task < 8 → (s.task m.task).executing = false →
      m.trick = (s.fld (Reg.IMG_TRICK_COMMITTED m.task) + 1) % 2 ^ 24 →
      ∃ u, exec (.inputTrick m) s = .next u ∧ (u.task m.task).executing = true ∧ (u.task m.task).shadow = true ∧
        (u.task m.task).input = m.image ∧ (u.task m.task).tRel = m.tRel ∧ (u.task m.task).nextRel = some (m.tRel + s.taskPeriod m.task))

/-- The END word commits the release (R189, R215, R222): the written image becomes the committed Trick, which applies at the instant the task's record
gives, and the release's G writes are made. At that instant it becomes the applied Trick (R22). A task that is not at its END word commits
nothing. A release that is not finished at its deadline, and a cycle of F that its watchdog ends, stop the station of a unit without a partner
(R196, R200, R201). -/
def Obligations.CommitApplyOverrun : Prop :=
  ∀ (s : State) (c : Fin 9) (p : Fin 8) (k : Call) (a : Nat),
    (s.nextCall c 1 = some k → ((s.task c).deadline = 0 ∨ s.now < (s.task c).deadline) → s.rdl.mirror.contains c.val = false →
      ∃ t, exec (.endWord c) s = .next t ∧ (t.task c).executing = false ∧ (t.task c).committed = (s.task c).work ∧
        (t.task c).applyAt = some (s.applyInstant c) ∧ t.g = ovApply s.g (s.task c).gPend ∧ t.mem = s.mem) ∧
    (s.nextCall c 1 = none → exec (.endWord c) s = .next s) ∧
    ((s.task c).applyAt = some a → ∃ t, exec (.trickApply c) s = .next t ∧ (t.task c).applied = (s.task c).committed ∧
      (t.task c).appliedTrick = some (s.fld (Reg.IMG_TRICK_COMMITTED c)) ∧ (t.task c).applyAt = none ∧ (t.task c).appliedAt = a ∧
      t.flag (Reg.IMG_TRICK_PENDING c) = false ∧ t.mem = s.mem) ∧
    ((s.task p).open_ = true → s.fld Reg.RDL_STAT_ROLE = 1 → ∃ t, exec (.taskOverrun p) s = .next t ∧
      t.cpm.haltOnStop = true ∧ t.fld Reg.RDL_STAT_ROLE = 0 ∧ t.fld Reg.RDL_STAT_OFFCAUSE = 5) ∧
    ((s.task p).open_ = false → exec (.taskOverrun p) s = .next s) ∧
    ((s.task 8).open_ = true → ∃ t, exec .fWatchdogExpiry s = .next t ∧
      t.cpm.haltOnStop = true ∧ t.fld Reg.RDL_STAT_ROLE = 0 ∧ t.fld Reg.RDL_STAT_OFFCAUSE = 5)

/-- A view opened by a pair pins the applied Trick of every enabled task of its mask (R197), a mask of 0 closes it, and a read of its data
returns the four bytes at OFFSET and moves OFFSET on by 4 for a pair (R208). The retained variables are written with the next sequence
number into the bank that did not hold the last one (R105). -/
def Obligations.ViewsAndRetainedData : Prop :=
  ∀ (s : State) (m : Master) (v : Fin 8) (w : Word) (n : Nat), s.sized → m.isPair = true →
    (wordField w 0 9 ≠ 0 → ∃ t, exec (.viewOpen m v w) s = .next t ∧ t.fld (Reg.IMG_VIEW_STAT_STATE v) = 1 ∧
      (∀ c, c < 9 → bit (wordField w 0 9) c = true → s.flag (Reg.IMG_TASK_EN c) = true →
        (c, (t.task c).appliedTrick.getD 0, (t.task c).applied) ∈ (t.views.getD v ⟨[], []⟩).pins) ∧
      (∀ u, u ≠ v.val → t.views.getD u ⟨[], []⟩ = s.views.getD u ⟨[], []⟩) ∧ t.mem = s.mem) ∧
    (wordField w 0 9 = 0 → ∃ t, exec (.viewClose m v w) s = .next t ∧ t.fld (Reg.IMG_VIEW_STAT_STATE v) = 0 ∧
      (t.views.getD v ⟨[], []⟩).pins = [] ∧ t.tasks = s.tasks ∧ t.mem = s.mem) ∧
    (∃ t, exec (.viewDataRead m v) s = .next t ∧ t.returned m.num = BitVec.ofNat 32 (s.viewData v) ∧
      t.fld (Reg.IMG_VIEW_ADDR_OFFSET v) = (s.fld (Reg.IMG_VIEW_ADDR_OFFSET v) + 4) % 2 ^ (Reg.IMG_VIEW_ADDR_OFFSET v).width ∧
      t.views = s.views ∧ t.mem = s.mem) ∧
    ((s.task 0).nextRel = some n → ∃ t, exec .retainSnapshot s = .next t ∧ t.cpm.bankSeq = (s.cpm.bankSeq + 1) % 2 ^ 32 ∧
      (let b := bankAddr ((s.cpm.bankSeq + 1) % 2)
       t.rdLE b 4 = (s.cpm.bankSeq + 1) % 2 ^ 32 ∧ t.rdLE (b + 16) 4 = s.gBytes.length % 2 ^ 32 ∧ t.bytes (b + 1024) s.gBytes.length = s.gBytes ∧
       (∀ x, (x < b ∨ b + 1024 + s.gBytes.length ≤ x) → t.byte x = s.byte x)))

/-! ### Safety functions (15) -/

/-- Test pulses of a TS source and off-pulses of a SOUT channel (R348, R356): a pulse begins, a terminal that has not fallen in time is a
TS_FAULT, a readback that stays high latches OFFP_STUCK, and the pulse ends. Every SI with a source is judged once in a test period (R350).
None of these touches the host half. -/
def Obligations.TestPulsesAndOffPulses : Prop :=
  ∀ (s : State) (c : Fin 64) (f : FieldFn) (b : Bool) (code detail : Nat),
    ((s.chan c).kind = 7 → s.stageFree c = true → (s.chan c).pulse = false →
      ∃ t, exec (.testPulseStart c) s = .next t ∧ (t.chan c).pulse = true ∧ (t.chan c).fell = false ∧ (t.chan c).on = false ∧ t.regs = s.regs) ∧
    ((s.chan c).pulse = true → ∃ t, exec (.tsCheck c b) s = .next t ∧ (t.chan c).fell = b ∧
      (t.chan c).tsFault = ((s.chan c).tsFault || !b) ∧ t.regs = s.regs) ∧
    ((s.chan c).pulse = true → ∃ t, exec (.testPulseEnd c b) s = .next t ∧ (t.chan c).pulse = false ∧
      (t.chan c).tsFault = ((s.chan c).tsFault && !((s.chan c).fell && b && !(s.chan c).short)) ∧ t.regs = s.regs) ∧
    ((s.chan c).kind = 7 → (s.chan c).short = true → ∃ t, exec (.tsRestart c) s = .next t ∧ (t.chan c).short = false ∧ t.regs = s.regs) ∧
    ((s.chan c).kind = 6 → tsrcOf s.field.safety c ≠ 0xFF →
      (let u := s.toTime (gridNext s.tpPeriodNs 31000000 s.now)
       tpJudge (s.chan c).samples (u.now / s.tpPeriodNs * s.tpPeriodNs) (tsSource s.field.safety (tsrcOf s.field.safety c)) c (s.chan c).filtered =
         some (code, detail)) →
      ∃ t, exec .tpJudgement s = .next t ∧ (t.chan c).tpCode = code ∧ (t.chan c).tpDetail = detail ∧ t.regs = s.regs) ∧
    (s.fnOf 3 c = some f → s.offPulseFree f (gridNext 500000000 (offOffset f c) s.now) = true → f.pulsing c = false → (s.chan c).kind = 8 →
      ∃ t, exec (.offPulse c) s = .next t ∧ (t.chan c).on = false ∧ t.regs = s.regs) ∧
    (s.fnOf 3 c = some f → s.fieldFn f.num = some f → f.value = true → f.pulsing c = true → f.latch = false →
      ∃ t, exec (.offPulseCheck c b) s = .next t ∧ t.regs = s.regs ∧ (b = false → t.field = s.field) ∧
        (b = true → ∃ g, t.fieldFn f.num = some g ∧ g.latch = true ∧ g.code = 6 ∧ g.detail = c.val)) ∧
    (s.fnOf 3 c = some f → f.pulsing c = true → ∃ t, exec (.offPulseEnd c) s = .next t ∧ t.regs = s.regs ∧
      (∀ g ∈ t.field.fns, g.num = f.num → g.pulsing c = false))

/-- Faults of the functions latch with their DIAG code: a discrepancy of a SIN (R351), feedback contacts (R358), the discrepancy of an AIN (R354) and
of an SS1 (R362), each unless a fault is latched already. Arming and resets (R367): the field half arms when the check value is the one of its
configuration, and a reset clears a fault whose cause is gone. A confirmation window that ends without a press writes nothing (R366). -/
def Obligations.SafetyFunctionsLatchAndReset : Prop :=
  ∀ (s : State) (n : Fin 128) (f : FieldFn) (x : HostFn) (m : List Byte) (u v e : Nat),
    (s.fieldFn n = some f → f.ty = 1 → f.latch = false → f.discAt = some u → u + f.discNs < s.now →
      ∃ t g, exec (.sinDiscrepancy n) s = .next t ∧ t.fieldFn n = some g ∧ g.latch = true ∧ g.code = 3 ∧ g.detail = f.firstCh ∧ g.value = false) ∧
    (s.fieldFn n = some f → f.ty = 3 → f.fbCh ≠ 0xFF → f.latch = false → (s.chan f.fbCh).filtered = f.value →
      ∃ t g, exec (.fbCheck n) s = .next t ∧ t.fieldFn n = some g ∧ g.latch = true ∧ g.code = (if f.value then 10 else 9)) ∧
    (s.fieldFn n = some f → f.ty = 3 → (s.chan f.fbCh).filtered ≠ f.value →
      ∃ t, exec (.fbCheck n) s = .next t ∧ t.field = s.field ∧ t.regs = s.regs) ∧
    (s.hostFn n = some x → x.ty = 2 → x.latch = false → x.discAt = some u →
      ∃ t g, exec (.anDisc n) s = .next t ∧ t.hostFn n = some g ∧ g.latch = true ∧ g.code = 15 ∧ t.told 160 n.val 15) ∧
    (s.hostFn n = some x → x.ty = 4 → x.latch = false → x.discAt = some u →
      ∃ t g, exec (.spdDisc n) s = .next t ∧ t.hostFn n = some g ∧ g.latch = true ∧ g.code = 11 ∧ t.told 160 n.val 11) ∧
    (s.fieldMsg 18 0x20 = some m → u8 m 8 = 1 → s.mbx.fieldFull.contains 22 = false →
      ∃ t h, exec .safArm s = .next t ∧ t.regs = s.regs ∧
        (u32 m 4 = s.field.chk → t.field.armed = true ∧ .ctrlPost 22 h (msgWords [0xA0, 1, 0]) ∈ t.toHost) ∧
        (u32 m 4 ≠ s.field.chk → t.field.armed = s.field.armed ∧ .ctrlPost 22 h (msgWords [0xA0, 1, 1]) ∈ t.toHost)) ∧
    (s.fieldMsg 18 0x21 = some m → s.fieldFn n = some f → bit (leNat (slice m 4 16)) n = true → f.ty ≠ 3 → s.causeNow f = false →
      ∃ t g, exec .safReset s = .next t ∧ t.fieldFn n = some g ∧ g.latch = false ∧ t.regs = s.regs) ∧
    (s.saf.window = some (v, e) → ∃ t, exec .confirmWindowExpiry s = .next t ∧ t.saf.window = none ∧ t.flag Reg.SAF_STAT_WINDOW = false ∧
      t.reg Reg.SAF_CONFT = 0 ∧ e + 10 ≤ t.mono ∧ t.told 167 0 0 ∧ t.mem = s.mem)

/-! ### The loop engine (10) -/

/-- A window evaluates every slot due at its instant (R262) and deposits all results together 48 µs later, each in its slot's memory; on a
standby a window runs on the partner's LOOPIN values (R461). -/
def Obligations.WindowsEvaluateThenDeposit : Prop :=
  ∀ (s : State) (t : Nat) (i : Image) (w : LoopWin) (vals : List (Nat × Nat × Nat)),
    (s.flag Reg.LPE_STAT_RUN = true → s.isShadow = false → s.loops.win = none → s.windowNext = some t → s.img = some i →
      ∃ u, exec .loopWindow s = .next u ∧ u.loops.last = some t ∧ u.loops.win.isSome = true ∧ u.mem = s.mem ∧ u.tasks = s.tasks) ∧
    (s.loops.win = some w → s.flag Reg.LPE_STAT_RUN = true → s.rdl.mirror.contains loopKey = false →
      (w.results.map Prod.fst).Nodup → (∀ r ∈ w.results, r.2.length = 256) →
      ∃ u, exec .loopDeposit s = .next u ∧ u.loops.win = none ∧ u.loops.depAt = w.t + 48000 ∧
        (∀ r ∈ w.results, u.bytes (slotAddr r.1) 256 = r.2) ∧
        (∀ a, (∀ r ∈ w.results, a < slotAddr r.1 ∨ slotAddr r.1 + 256 ≤ a) → u.byte a = s.byte a)) ∧
    (s.loops.win = some w → s.flag Reg.LPE_STAT_RUN = false →
      ∃ u, exec .loopDeposit s = .next u ∧ u.loops.win = none ∧ u.mem = s.mem) ∧
    (s.shadows loopKey = true → s.flag Reg.LPE_STAT_RUN = true → s.loops.win = none → s.loops.last.all (fun l => decide (l < t)) = true →
      s.img = some i → ∃ u, exec (.loopin t vals) s = .next u ∧ u.loops.last = some t ∧ u.loops.win.isSome = true ∧ u.mem = s.mem)

/-- A GO on the parameter port starts a transaction of the enabled list in a unit in control (R275); while one runs, GO is ignored and ERR shows
BUSY. When the port gets the list's lock it copies the list and frees the lock; while another master holds it, nothing happens. A read of
LPE_RGNDATA returns the record's word and moves WORD on for a pair (R277). -/
def Obligations.ParameterPort : Prop :=
  ∀ (s : State) (m : Master) (w : Word) (r : PpRun), m.isPair = true →
    (w.getLsbD 10 = true → s.flag Reg.LPE_PP_STAT_BUSY = false → s.inControl = true →
      bit (s.fld Reg.LPE_PP_CFG_EN) (wordField w 8 2) = true → 1 ≤ wordField w 0 7 → wordField w 0 7 ≤ 64 →
      ∃ t, exec (.ppGo m w) s = .next t ∧ t.loops.pp = some ⟨wordField w 8 2, wordField w 0 7, false, 0, 0⟩ ∧
        t.flag Reg.LPE_PP_STAT_BUSY = true ∧ t.fld Reg.LPE_PP_STAT_ERR = 0 ∧ t.fld Reg.LPE_PP_STAT_REFUSED = 0 ∧ t.mem = s.mem) ∧
    (w.getLsbD 10 = true → s.flag Reg.LPE_PP_STAT_BUSY = true →
      ∃ t, exec (.ppGo m w) s = .next t ∧ t.loops = s.loops ∧ t.flag Reg.LPE_PP_STAT_BUSY = true ∧ t.fld Reg.LPE_PP_STAT_ERR = 4) ∧
    (s.loops.pp = some r → r.copied = false → s.lockOwner (s.fld ⟨Reg.LPE_PP_CFG, 5 * r.list, 5⟩) = 0 → r.list < 4 →
      (∀ k, k < r.count → (s.ppRecord ((s.reg (Reg.LPE_PP_ADDR r.list)).toNat + 8 * k)).2.2.2 = true) →
      ∃ t x, exec .ppLockAcquired s = .next t ∧ t.loops.pp = some x ∧ x.copied = true ∧ x.list = r.list ∧ x.count = r.count ∧
        t.lockOwner (s.fld ⟨Reg.LPE_PP_CFG, 5 * r.list, 5⟩) = 0 ∧ t.mem = s.mem) ∧
    (s.loops.pp = some r → r.copied = false → r.list < 4 → s.lockOwner (s.fld ⟨Reg.LPE_PP_CFG, 5 * r.list, 5⟩) ≠ 0 →
      s.lockOwner (s.fld ⟨Reg.LPE_PP_CFG, 5 * r.list, 5⟩) ≠ 5 →
      ∃ t, exec .ppLockAcquired s = .next t ∧ t.loops = s.loops ∧ t.locks = s.locks) ∧
    (∃ t, exec (.rgndataRead m) s = .next t ∧ t.returned m.num = BitVec.ofNat 32 s.rgnWord ∧
      t.fld Reg.LPE_RGNSEL_WORD = (s.fld Reg.LPE_RGNSEL_WORD + 1) % 1024 ∧ t.mem = s.mem)

/-! ### Channels (11, 12) -/

/-- Every round closes one input frame of its instant, in which the channels' events leave for the host side (R283, R301). A sample of a DI
passes its filter (R287), and a stable edge of an FI counts when it is selected (R288). The field half changes nothing of the host half. -/
def Obligations.RoundsAndSamples : Prop :=
  ∀ (s : State) (c : Fin 64) (lpA lpB : BitVec 10) (amb vt : Int) (ms : List Meas) (level : Bool) (n : Nat),
    (s.field.up = true → ∃ t f, exec (.channelRound lpA lpB amb ms) s = .next t ∧ t.field.round = some s.nextRound ∧
      t.toHost = s.toHost ++ [.inp f] ∧ f.round = s.nextRound ∧ f.chans.length = 64 ∧ t.field.events = [] ∧ t.regs = s.regs ∧ t.mem = s.mem) ∧
    (s.field.up = false → exec (.channelRound lpA lpB amb ms) s = .next s) ∧
    ((s.chan c).kind = 1 → s.field.up = true → (s.chan c).prot = false → ∃ t, exec (.diSampleWindow c level vt) s = .next t ∧
      (t.chan c).di = (s.chan c).di.sample level (gridNext (s.chan c).diPeriod 16000 (max s.now ((s.chan c).di.last + 1))) (1000 * (s.chan c).p32 4) ∧
      (∀ k, k ≠ c.val → t.chan k = s.chan k) ∧ t.regs = s.regs ∧ t.mem = s.mem) ∧
    ((s.chan c).kind = 2 → s.field.up = true → (s.chan c).prot = false → level ≠ (s.chan c).level →
      ∃ t, exec (.fiEdge c level n) s = .next t ∧ (t.chan c).level = level ∧
        (t.chan c).edges = (if (s.chan c).selects level then n :: (s.chan c).edges else (s.chan c).edges) ∧
        (t.chan c).edgeSeq = (if (s.chan c).selects level then ((s.chan c).edgeSeq + 1) % 2 ^ 32 else (s.chan c).edgeSeq) ∧
        (∀ k, k ≠ c.val → t.chan k = s.chan k) ∧ t.regs = s.regs ∧ t.mem = s.mem)

/-- The channels' protections and diagnoses: a DO that its limit switches off, and its restart (R291), open load and foreign voltage (R292),
field power and overload of a group (R57, R294), the protective state and its end (R296). Each raises its event on setting. -/
def Obligations.ChannelProtection : Prop :=
  ∀ (s : State) (c : Fin 64) (g : Fin 2) (b : Bool),
    (((s.chan c).kind = 3 ∨ (s.chan c).kind = 7 ∨ (s.chan c).kind = 8) → (s.chan c).on = true →
      ∃ t, exec (.doShortSwitchoff c b) s = .next t ∧ (t.chan c).short = true ∧ (t.chan c).shortAt = s.now ∧ (t.chan c).on = false ∧
        ⟨136, c.val + 256 * b2n b, 0, s.now⟩ ∈ t.field.events ∧ t.regs = s.regs) ∧
    ((s.chan c).kind = 3 → (s.chan c).short = true → (s.chan c).latched = false → (s.chan c).doWant = true → s.lpMissing c = false →
      ∃ t, exec (.doRestartAttempt c) s = .next t ∧ (t.chan c).short = false ∧ (t.chan c).retry = (s.chan c).retry + 1 ∧ t.regs = s.regs) ∧
    ((s.chan c).kind = 8 → (s.chan c).short = true → ∃ t, exec (.doRestartAttempt c) s = .next t ∧ (t.chan c).short = false) ∧
    ((s.chan c).kind = 3 → (s.chan c).latched = true → exec (.doRestartAttempt c) s = .next s) ∧
    ((s.chan c).kind = 3 → (s.chan c).p8 0 = 1 → (s.chan c).openSet = false → 10 * (s.chan c).p16 2 ≤ (s.chan c).openRun →
      ∃ t, exec (.doOpenLoad c) s = .next t ∧ (t.chan c).openSet = true ∧ ⟨137, c.val, 0, s.now⟩ ∈ t.field.events) ∧
    ((s.chan c).kind = 3 → 10 ≤ (s.chan c).forRun → (s.chan c).forLevel ≠ (s.chan c).foreign →
      ∃ t, exec (.doForeignVoltage c) s = .next t ∧ (t.chan c).foreign = (s.chan c).forLevel ∧
        ((s.chan c).forLevel = true → ⟨138, c.val, 0, s.now⟩ ∈ t.field.events)) ∧
    ((s.grp g).lpNext ≠ (s.grp g).lpst → ∃ t, exec (.lplusStateChange g) s = .next t ∧ (t.grp g).lpst = (s.grp g).lpNext ∧
      ⟨133 + g.val, (s.grp g).lpNext, (s.grp g).vlp, s.now⟩ ∈ t.field.events ∧ t.regs = s.regs) ∧
    ((s.grp g).overload = false → 1000 ≤ (s.grp g).ovrRun → ∃ t, exec (.groupOverload g) s = .next t ∧ (t.grp g).overload = true ∧
      ⟨143, g.val, (s.grp g).ido, s.now⟩ ∈ t.field.events ∧ t.field.chans = s.field.chans) ∧
    ((s.chan c).prot = false → 3 ≤ (s.chan c).bad → ∃ t, exec (.protectiveStateEnter c) s = .next t ∧ (t.chan c).prot = true ∧
      (t.chan c).on = false ∧ ⟨135, c.val, unsint 32 (s.chan c).vt, s.now⟩ ∈ t.field.events ∧ t.regs = s.regs) ∧
    ((s.chan c).prot = true → 1000 ≤ (s.chan c).good → ∃ t, exec (.protectiveStateExit c) s = .next t ∧ (t.chan c).prot = false ∧
      (t.chan c).retry = 0 ∧ (t.chan c).edges = [] ∧ t.regs = s.regs)

/-- Alarms of the analogue channels: a transmitter supply that limits is switched off and tried again 10 s later (R315), compliance (R320) and
open circuit (R321) of an AO. -/
def Obligations.AnalogueAlarms : Prop :=
  ∀ (s : State) (c : Fin 64) (u : Nat),
    ((s.chan c).kind = 4 → (s.chan c).p8 0 = 1 → (s.chan c).txsOff = none → 1000 ≤ (s.chan c).limRun →
      ∃ t, exec (.txsLimit c) s = .next t ∧ (t.chan c).txsOff = some s.mono ∧ ⟨147, c.val, 0, s.now⟩ ∈ t.field.events ∧ t.regs = s.regs) ∧
    ((s.chan c).txsOff = some u → ∃ t, exec (.txsRestart c) s = .next t ∧ (t.chan c).txsOff = none ∧ u + 10000000000 ≤ t.mono ∧ t.regs = s.regs) ∧
    ((s.chan c).txsOff = none → exec (.txsRestart c) s = .next s) ∧
    ((s.chan c).kind = 5 → (s.chan c).compl = true → (s.chan c).complTold = false → 1000 ≤ (s.chan c).complRun →
      ∃ t, exec (.aoComplAlarm c) s = .next t ∧ (t.chan c).complTold = true ∧ ⟨145, c.val, (s.chan c).amp / 10, s.now⟩ ∈ t.field.events) ∧
    ((s.chan c).kind = 5 → (s.chan c).aoOpen = false → 1000 ≤ (s.chan c).aoRun →
      ∃ t, exec (.aoOpen c) s = .next t ∧ (t.chan c).aoOpen = true ∧ ⟨146, c.val, 0, s.now⟩ ∈ t.field.events)

/-- A trim session (R323), in HALT and on an AO: DRIVE opens it and drives the point, COMMIT after both points sends the values on, END and
five minutes without a command close it, CLEAR takes back the factory values; without its key a command does nothing. -/
def Obligations.TrimSessionRules : Prop :=
  ∀ (s : State) (m : Master) (w : Word) (b : Bool) (x : TrimSession),
    m.isPair = true → (let c := wordField w 0 6
    (wordField w 24 8 ≠ 0x5A → exec (.trimDrive m w b) s = .next s ∧ exec (.trimCommit m w b) s = .next s ∧ exec (.trimEnd m w b) s = .next s ∧
      exec (.trimClear m w b) s = .next s) ∧
    (wordField w 24 8 = 0x5A → s.inHalt = true → s.hostKind c = 5 →
      (wordField w 16 3 = 1 → (wordField w 8 2 = 1 ∨ wordField w 8 2 = 2) → s.trim = none → ∃ t, exec (.trimDrive m w b) s = .next t ∧
        t.trim = some ⟨c, wordField w 8 2, s.mono⟩ ∧ t.flag Reg.CHN_TRIM_STAT_ACTIVE = true ∧
        t.fld Reg.CHN_TRIM_STAT_DRIVEN = wordField w 8 2 ∧ t.fld Reg.CHN_TRIM_STAT_RESULT = 1 ∧ t.mem = s.mem) ∧
      (wordField w 16 3 = 2 → s.trim = some x → x.ch = c → s.fld Reg.CHN_TRIM_STAT_DRIVEN = 3 →
        trimRange (s.reg Reg.CHN_TRIM_M4).toNat (s.reg Reg.CHN_TRIM_M20).toNat = true → b = true → ∃ t, exec (.trimCommit m w b) s = .next t ∧
        t.fld Reg.CHN_TRIM_STAT_RESULT = 1 ∧ .trim c (s.reg Reg.CHN_TRIM_M4).toNat (s.reg Reg.CHN_TRIM_M20).toNat ∈ t.toField ∧ t.trim = s.trim) ∧
      (wordField w 16 3 = 2 → (s.trim = none ∨ s.fld Reg.CHN_TRIM_STAT_DRIVEN ≠ 3) → ∃ t, exec (.trimCommit m w b) s = .next t ∧
        t.fld Reg.CHN_TRIM_STAT_RESULT ≠ 1 ∧ t.toField = s.toField ∧ t.mem = s.mem) ∧
      (wordField w 16 3 = 3 → s.trim = some x → x.ch = c → ∃ t, exec (.trimEnd m w b) s = .next t ∧ t.trim = none ∧
        t.flag Reg.CHN_TRIM_STAT_ACTIVE = false ∧ t.fld Reg.CHN_TRIM_STAT_RESULT = 1) ∧
      (wordField w 16 3 = 4 → s.trim = none → b = true → ∃ t, exec (.trimClear m w b) s = .next t ∧
        t.fld Reg.CHN_TRIM_STAT_RESULT = 1 ∧ .trim c 0x40800000 0x41A00000 ∈ t.toField))) ∧
    (s.trim = some x → ∃ t, exec .trimTimeout s = .next t ∧ t.trim = none ∧ t.flag Reg.CHN_TRIM_STAT_ACTIVE = false ∧
      x.at_ + 300000000000 ≤ t.mono)

/-! ### HART (14) -/

/-- Requests and transactions (R330, R331): a good request joins its channel's FIFO, one of a channel without HART or with a wrong length is
answered at once; the first goes on air; a good response ends it with a record, a bad one or none is tried again until the retries are used. -/
def Obligations.HartTransactions : Prop :=
  ∀ (s : State) (c : Fin 64) (p frame : List Byte) (q : HartReq) (qs : List HartReq) (n u : Nat) (err : Bool), s.sized →
    (s.toField.find? RimFrame.isBulk = some (.bulk p) → s.field.up = true → u8 p 0 = c.val → s.field.records.length < 64 →
      ∃ t, exec .rimBulkFrame s = .next t ∧ t.toField = s.toField.erase (.bulk p) ∧ t.regs = s.regs ∧
        ((s.chan c).hartEn = true → 4 ≤ u16 p 2 → u16 p 2 ≤ 266 → Machine.hartLen (slice p 8 (u16 p 2)) = u16 p 2 →
          ((s.chan c).hart.fifo.filter (fun r => !r.scan)).length < 4 → s.hartFault c = false → s.chPartner c = false →
          ∃ k, (t.chan c).hart.fifo = (s.chan c).hart.fifo ++ [⟨false, u32 p 4, k, slice p 8 (u16 p 2)⟩]) ∧
        ((s.chan c).hartEn = false → t.field.records = s.field.records ++ [⟨c, 4, u32 p 4, s.now, 0, [], s.mono⟩] ∧
          ⟨151, c.val + 1024, u32 p 4, s.now⟩ ∈ t.field.events)) ∧
    ((s.chan c).hart.run = none → (s.chan c).hart.fifo = q :: qs → s.hartFault c = false → s.chPartner c = false →
      ∃ t, exec (.hartTransmitStart c) s = .next t ∧ (t.chan c).hart.run = some (q, 1, false) ∧ (t.chan c).hart.fifo = qs ∧
        t.outbox = s.outbox ++ [.hart c q.frame] ∧ t.regs = s.regs) ∧
    ((s.chan c).hart.run = some (q, n, err) → q.scan = false → s.field.records.length < 64 →
      ∃ t, exec (.hartResponseEnd c true frame u) s = .next t ∧ (t.chan c).hart.run = none ∧
        t.field.records = s.field.records ++ [⟨c, 0, q.tag, u, n, frame, s.mono⟩] ∧ t.regs = s.regs) ∧
    ((s.chan c).hart.run = some (q, n, err) → n ≤ q.retry →
      (∃ t, exec (.hartResponseEnd c false frame u) s = .next t ∧ (t.chan c).hart.run = some (q, n + 1, true) ∧
        t.outbox = s.outbox ++ [.hart c q.frame]) ∧
      (∃ t, exec (.hartNoResponse c) s = .next t ∧ (t.chan c).hart.run = some (q, n + 1, err) ∧ t.outbox = s.outbox ++ [.hart c q.frame])) ∧
    ((s.chan c).hart.run = some (q, n, false) → q.retry < n → q.scan = false → s.field.records.length < 64 →
      ∃ t, exec (.hartNoResponse c) s = .next t ∧ (t.chan c).hart.run = none ∧ (t.chan c).hart.fails = (s.chan c).hart.fails + 1 ∧
        t.field.records = s.field.records ++ [⟨c, 1, q.tag, s.now, n, [], s.mono⟩])

/-- Overheard and burst frames make records (R330, R333); records leave for their queue in order, wait while it is full, and are discarded after
100 ms (R332); a scan falls due (R334), and scanning is suspended, resumed and cancelled by mailbox 17 (R335). -/
def Obligations.HartRecordsAndScans : Prop :=
  ∀ (s : State) (c : Fin 64) (frame m : List Byte) (r : HartRec) (rest : List HartRec) (a q n : Nat), s.sized →
    ((s.chan c).hartEn = true → bit (s.chan c).hflags 2 = true → (s.chan c).prot = false → s.field.records.length < 64 →
      ∃ t, exec (.hartListenFrame c frame n) s = .next t ∧ t.field.records = s.field.records ++ [⟨c, 7, 0, n, 0, frame, s.mono⟩]) ∧
    ((s.chan c).hartEn = true → (s.chan c).hart.run = none → (s.chan c).prot = false → s.field.records.length < 64 →
      ∃ t, exec (.hartBurstFrame c frame n) s = .next t ∧ t.field.records = s.field.records ++ [⟨c, 8, 0, n, 0, frame, s.mono⟩]) ∧
    (s.field.records = r :: rest → s.hartQueues = some (a, q) → s.flag (Reg.QUE_CFG_EN q) = true → s.fld (Reg.QUE_CFG_PROD q) = hartPort →
      (s.fld (Reg.QUE_STAT_LEVEL q) < 2 ^ s.fld (Reg.QUE_CFG_SIZE q) → ∃ t, exec .hartRecordPush s = .next t ∧ t.field.records = rest) ∧
      (2 ^ s.fld (Reg.QUE_CFG_SIZE q) ≤ s.fld (Reg.QUE_STAT_LEVEL q) → ∃ t, exec .hartRecordPush s = .next t ∧ t.field = s.field ∧
        t.told 68 (q + 512) hardwareMaster ∧ t.mem = s.mem)) ∧
    (s.field.records = r :: rest → ∃ t, exec .hartRecordDiscard s = .next t ∧ t.field.records = rest ∧ r.since + 100000000 ≤ t.mono ∧
      t.regs = s.regs) ∧
    ((s.chan c).hartEn = true → 0 < (s.chan c).scanS → (s.chan c).hart.suspended = false → s.chPartner c = false →
      ∃ t, exec (.hartScanDue c) s = .next t ∧ (t.chan c).hart.scanAt = t.mono ∧ t.regs = s.regs ∧
        (t.chan c).hart.fifo = (s.chan c).hart.fifo ++ [⟨true, 0, (s.chan c).hartRetry, (s.chan c).scanFrame⟩]) ∧
    (s.fieldMsg 17 0x11 = some m → bit (leNat (slice m 4 8)) c = true → ∃ t, exec .hartScan s = .next t ∧
      (t.chan c).hart.suspended = decide (u8 m 12 = 0) ∧ t.regs = s.regs) ∧
    (s.fieldMsg 17 0x10 = some m → bit (leNat (slice m 4 8)) c = true → ∃ t, exec .hartCancel s = .next t ∧
      (t.chan c).hart.run = none ∧ (t.chan c).hart.fifo = [] ∧ t.regs = s.regs)

/-! ### The Rim (11) -/

/-- Frames arriving at the field side (R298, R300, R303, R304): a valid OUT or KEEP frame restarts the watchdog and stores its entries, one that
fails its CRC is only reported; CTRL carries messages, CFG the configuration and trim values, SAFE sets and lifts the hold, HO carries the
partner's take line; a stored entry applies at its instant unless the outputs are held. -/
def Obligations.FieldReceivesFrames : Prop :=
  ∀ (s : State) (c : Fin 64) (e : OutEntry) (es : List OutEntry) (b chk wdog slot m4 m20 : Nat) (h : Word) (msg : List Word) (cs sf : List Byte)
    (x g : Bool), s.sized → s.field.up = true →
    (s.toField.find? RimFrame.isOut = some (.out es) →
      (∃ t, exec (.rimOutFrame .whole) s = .next t ∧ t.field.wdogAt = s.mono ∧ t.field.wdog = false ∧ t.toField = s.toField.erase (.out es) ∧
        t.regs = s.regs ∧ (es = [e] → s.now ≤ e.apply → e.ch < 64 → (s.chan e.ch).pend = [] → (t.chan e.ch).pend = [e])) ∧
      (∃ t, exec (.rimOutFrame .crcFail) s = .next t ∧ t.field.wdogAt = s.field.wdogAt ∧ t.field.chans = s.field.chans ∧
        ⟨130, 257, 0, s.now⟩ ∈ t.field.events)) ∧
    (s.toField.find? RimFrame.isKeep = some .keep →
      (∃ t, exec (.rimKeepFrame .whole) s = .next t ∧ t.field.wdogAt = s.mono ∧ t.field.wdog = false ∧ t.field.chans = s.field.chans) ∧
      (∃ t, exec (.rimKeepFrame .crcFail) s = .next t ∧ t.field.wdogAt = s.field.wdogAt ∧ t.field.wdog = s.field.wdog)) ∧
    (s.toField.find? RimFrame.isCtrl = some (.ctrlPost b h msg) → ∃ t, exec .rimCtrlFrame s = .next t ∧
      t.field.mail = s.field.mail ++ [(b, msg.flatMap (fun w => leBytes 4 w.toNat))] ∧ t.regs = s.regs) ∧
    (s.toField.find? RimFrame.isCtrl = some (.ctrlTake b) → s.field.out.find? (fun o => o.1 = b) = none → ∃ t, exec .rimCtrlFrame s = .next t ∧
      b ∉ t.mbx.fieldFull ∧ t.field = s.field) ∧
    (s.toField.find? RimFrame.isCfg = some (.cfg cs sf chk wdog slot) → ∃ t, exec .rimCfgFrame s = .next t ∧ t.field.chk = chk ∧
      t.field.wdogUs = wdog ∧ t.field.slot = slot ∧ t.field.safety = sf ∧ t.regs = s.regs ∧
      (t.chan c).cfg = ((recordsAt cs 4 32 (u32 cs 0)).find? (fun r => decide (u8 r 0 = c.val))).getD []) ∧
    (s.toField.find? RimFrame.isCfg = some (.trim c m4 m20) → ∃ t, exec .rimCfgFrame s = .next t ∧ (t.chan c).m4 = m4 ∧
      (t.chan c).m20 = m20 ∧ (t.chan c).trimmed = true ∧ (∀ k, k ≠ c.val → t.chan k = s.chan k)) ∧
    (s.toField.find? RimFrame.isSafe = some (.safe true) → ∃ t, exec .rimSafeFrame s = .next t ∧ t.field.hold = true ∧ t.field.armed = false ∧
      (isOutput (s.chan c).kind = true → (t.chan c).safe = true) ∧ t.regs = s.regs) ∧
    (s.toField.find? RimFrame.isSafe = some (.safe false) → ∃ t, exec .rimSafeFrame s = .next t ∧ t.field.hold = false ∧ t.field.chans = s.field.chans) ∧
    (s.toField.find? RimFrame.isHo = some (.ho x g) → ∃ t, exec .rimHoFrame s = .next t ∧ t.field.take = x ∧
      (x = true → s.field.take = false → (t.grp 0).partner = true ∧ (t.grp 1).partner = true ∧ ⟨142, 259, 0, s.now⟩ ∈ t.field.events) ∧
      (g = true → (t.chan c).pend = [])) ∧
    ((s.chan c).pend = e :: es → e.ch = c.val →
      (s.field.hold = false → s.field.wdog = false → ((s.chan c).kind = 3 ∨ (s.chan c).kind = 5) → ∃ t, exec (.fieldEntryApply c) s = .next t ∧
        (t.chan c).cmd = e.value ∧ (t.chan c).safe = false ∧ (t.chan c).pend = es ∧ t.regs = s.regs) ∧
      (s.field.hold = true → ∃ t, exec (.fieldEntryApply c) s = .next t ∧ (t.chan c).cmd = (s.chan c).cmd ∧ (t.chan c).pend = es))

/-- The field side's watchdog, restart and control messages (R303, R306, R307, R309), and the gateway's KEEP frames, safe-state request and its
release (R298, R304). -/
def Obligations.FieldSafeStatesAndControl : Prop :=
  ∀ (s : State) (m : Master) (w : Word) (c : Fin 64) (g : Fin 2) (k : Fin 5) (b : List Byte) (mask mode u : Nat), m.isPair = true → s.sized →
    (s.field.up = true → s.field.wdog = false → ∃ t, exec .safeStateWatchdogExpiry s = .next t ∧ t.field.wdog = true ∧
      (t.chan c).pend = [] ∧ (isOutput (s.chan c).kind = true → (t.chan c).safe = true) ∧ ⟨132, 0, 0, t.now⟩ ∈ t.field.events ∧
      s.field.wdogAt + 1000 * s.field.wdogUs ≤ t.mono ∧ t.regs = s.regs) ∧
    (wordField w 8 8 = 0x5A → w.getLsbD 0 = true → ∃ t, exec (.safeReq m w) s = .next t ∧ t.flag Reg.SAF_STAT_ARMED = false ∧
      t.flag Reg.SAF_STAT_FARMED = false ∧ t.toField = s.toField ++ [.safe true] ∧
      (s.inHalt = false → s.cpm.haltOnStop = false → t.rim.reqHold = true) ∧ t.mem = s.mem) ∧
    (wordField w 8 8 ≠ 0x5A → exec (.safeReq m w) s = .next s ∧ exec (.safeRel m w) s = .next s) ∧
    (wordField w 8 8 = 0x5A → w.getLsbD 0 = false → w.getLsbD 1 = true →
      (s.rim.reqHold = true → s.inControl = true → s.cpm.phase = .run → s.cpm.haltOnStop = false →
        ∃ t, exec (.safeRel m w) s = .next t ∧ t.rim.reqHold = false ∧ t.toField = s.toField ++ [.safe false] ∧ t.regs = s.regs) ∧
      ((s.rim.reqHold = false ∨ s.inControl = false ∨ s.cpm.phase ≠ .run) → exec (.safeRel m w) s = .next s)) ∧
    (s.field.up = true → ∃ t, exec (.fieldRestart k) s = .next t ∧ t.field.up = false ∧ t.field.cause = k.val ∧ t.field.downAt = s.mono ∧
      t.chan c = Chan.reset ∧ t.field.hold = true ∧ t.mem = s.mem) ∧
    (s.field.up = false → exec (.fieldRestart k) s = .next s) ∧
    (s.field.up = false → s.cpm.phase ≠ .off → s.mbx.fieldFull.contains 20 = false → ∃ t h, exec .fieldRestartComplete s = .next t ∧
      t.field.up = true ∧ t.field.wdogAt = s.mono ∧
      t.toHost = s.toHost ++ [.ctrlPost 20 h (msgWords ([0x82] ++ leBytes 1 (s.fld Reg.MBX_GEN_GENF) ++ leBytes 1 s.field.cause ++ [0]))]) ∧
    (s.fieldMsg 16 0x01 = some b → bit (leNat (slice b 4 8)) c = true → ∃ t, exec .chClear s = .next t ∧ (t.chan c).latched = false ∧
      (t.chan c).retry = 0 ∧ t.regs = s.regs) ∧
    (s.fieldMsg 16 0x02 = some b → (s.field.slot = 2 ∨ s.field.slot = 3) → (u8 b 2 ≠ 0 ∨ s.field.take = false) → ∃ t, exec .groupMode s = .next t ∧
      t.field.modeReq = some (u8 b 1, u8 b 2, wireTime s.now (u32 b 4) (u32 b 8)) ∧ t.field.grps = s.field.grps) ∧
    (s.fieldMsg 16 0x02 = some b → s.field.slot ≠ 2 → s.field.slot ≠ 3 → s.mbx.fieldFull.contains 20 = false → ∃ t h, exec .groupMode s = .next t ∧
      t.field.modeReq = s.field.modeReq ∧ t.field.grps = s.field.grps ∧ .ctrlPost 20 h (msgWords ([0x81] ++ leBytes 1 (u8 b 1) ++
        leBytes 1 (u8 b 2) ++ leBytes 1 1 ++ leBytes 4 (secOf s.now) ++ leBytes 4 (nsOf s.now))) ∈ t.toHost) ∧
    (s.field.modeReq = some (mask, mode, u) → (mode ≠ 0 ∨ s.field.take = false) → ∃ t, exec .groupModeApply s = .next t ∧
      t.field.modeReq = none ∧ (bit mask g = true → (t.grp g).partner = decide (mode = 1)) ∧ t.regs = s.regs) ∧
    (s.fieldMsg 16 0x03 = some b → ∃ t, exec .runGrant s = .next t ∧ t.field.hold = false ∧ t.field.granted = true ∧
      t.field.chans = s.field.chans ∧ t.regs = s.regs) ∧
    (s.rimSends = true → ∃ t, exec .keepSend s = .next t ∧ t.toField = s.toField ++ [.keep] ∧ t.regs = s.regs ∧ t.mem = s.mem)

/-- The host half of the Rim (R301, R306, R307, R367): a valid IN frame is delivered and sets RIM_UP, one that fails its CRC is only counted;
300 µs without one clear RIM_UP; 50 ms without the field side stop a station alone; the field side's reports show in their registers. -/
def Obligations.HostReceivesFrames : Prop :=
  ∀ (s u : State) (f : RimIn) (b n : Nat) (h : Word) (msg : List Word) (m : List Byte),
    (s.toHost.find? FieldFrame.isInp = some (.inp f) →
      ((∀ e ∈ f.events, e.src < 256) → ∃ t, exec (.rimInFrame .whole) s = .next t ∧ t.rim.cur = some (s.now, f) ∧ t.rim.old = s.rim.cur ∧
        t.rim.lastIn = s.mono ∧ t.rim.lossAt = none ∧ t.flag Reg.CHN_STAT_RIM_UP = true ∧ t.toHost = s.toHost.erase (.inp f) ∧ t.mem = s.mem) ∧
      (∃ t, exec (.rimInFrame .crcFail) s = .next t ∧ t.rim = s.rim ∧ t.told 130 0x8100 0 ∧ t.toHost = s.toHost.erase (.inp f))) ∧
    (b < 24 → s.toHost.find? (fun x => !x.isInp) = some (.ctrlPost b h msg) → ∃ t, exec .rimCtrlInFrame s = .next t ∧
      t.reg (Reg.MBX_RXHDR b) = h ∧ t.flag (Reg.MBX_STAT_FULL b) = true ∧ t.rim.inbox = s.rim.inbox ++ [(b, wordBytes msg)] ∧
      t.told (72 + b) h.toNat 0) ∧
    (b < 24 → s.toHost.find? (fun x => !x.isInp) = some (.ctrlTake b) → ∃ t, exec .rimCtrlInFrame s = .next t ∧
      t.flag (Reg.MBX_STAT_FULL b) = false ∧ t.told (72 + b) (s.reg (Reg.MBX_RXHDR b)).toNat 0) ∧
    (s.flag Reg.CHN_STAT_RIM_UP = true → s.fld Reg.RDL_STAT_ROLE = 1 → ∃ t, exec .rimLoss s = .next t ∧
      t.flag Reg.CHN_STAT_RIM_UP = false ∧ t.rim.lossAt = some t.mono ∧ t.flag Reg.SAF_STAT_FARMED = false ∧ t.told 128 0 0 ∧
      s.rim.lastIn + 300000 ≤ t.mono) ∧
    (s.flag Reg.CHN_STAT_RIM_UP = false → exec .rimLoss s = .next s) ∧
    (s.rim.lossAt = some n → s.fld Reg.RDL_STAT_ROLE = 1 → s.cpm.phase = .run → s.cpm.haltOnStop = false →
      ∃ t, exec .rimRecoveryTimeout s = .next t ∧ t.cpm.haltOnStop = true ∧ t.fld Reg.RDL_STAT_ROLE = 0 ∧ t.rim.lossAt = none) ∧
    (s.report 20 0x81 = some (m, u) → ∃ t, exec .modeDone s = .next t ∧ t.told 142 (leNat (slice m 1 3)) 0 ∧ t.rim.inbox = u.rim.inbox) ∧
    (s.report 20 0x82 = some (m, u) → ∃ t cs sf chk wdog slot, exec .fieldStarted s = .next t ∧ t.rim.lossAt = none ∧ t.trim = none ∧
      .cfg cs sf chk wdog slot ∈ t.toField) ∧
    (s.report 22 0xA0 = some (m, u) → (u8 m 2 = 0 → ∃ t, exec .armDone s = .next t ∧ t.flag Reg.SAF_STAT_FARMED = decide (u8 m 1 = 1)) ∧
      (u8 m 2 ≠ 0 → ∃ t, exec .armDone s = .next t ∧ t.regs = s.regs)) ∧
    (s.report 22 0xA1 = some (m, u) → ∃ t, exec .resetDone s = .next t ∧ t.regs = s.regs ∧
      (∀ k, t.saf.resets.testBit k = (s.saf.resets.testBit k && !(leNat (slice m 4 16)).testBit k)))

/-! ### Remote stations, CAN, the switch (16, 17) -/

/-- ECX stations: an IN frame that meets R377 is kept as the station's next sample and any other is counted and reported, a matching CFG_ACK ends
the wait (R376), and CFG goes out again a second after the last. An ESC connection without a PDU for its WDOG latches the fault (R393). -/
def Obligations.RemoteStations : Prop :=
  ∀ (s : State) (a : BitVec 32) (b : List Byte) (n : Fin 256) (r : StnRec) (x : Station) (k : EscRec) (y : EscConn) (u : Nat),
    (s.ecxFrom 0x81 a.toNat b = some r → s.station r.num = some x → s.ecxTakes r x b = true →
      ∃ t z, exec (.ecxInFrame a b) s = .next t ∧ t.station r.num = some z ∧ z.seqIn = some (ecxSeq b) ∧
        z.due = some (ecxTime b, u8 b 5, slice b 20 (ecxLen b)) ∧ z.acked = x.acked ∧ t.regs = s.regs) ∧
    (s.ecxFrom 0x81 a.toNat b = none → ∃ t, exec (.ecxInFrame a b) s = .next t ∧ t.stns = s.stns ∧
      t.told 109 (ecxStn b + 256 * u8 b 3) 0 ∧ t.mem = s.mem) ∧
    (s.ecxFrom 0x82 a.toNat b = some r → s.station r.num = some x →
      (x.cfgT = ecxTime b → x.cfg = slice b 20 (ecxLen b) → ∃ t z, exec (.ecxCfgAck a b) s = .next t ∧ t.station r.num = some z ∧
        z.acked = true ∧ z.seqIn = x.seqIn ∧ t.regs = s.regs) ∧
      (x.cfgT ≠ ecxTime b → exec (.ecxCfgAck a b) s = .next s)) ∧
    (s.stnRec n = some r → s.station n = some x → x.acked = false → r.ecx = true → s.sendsRemote = true →
      ∃ t z f, exec (.ecxCfgResend n) s = .next t ∧ t.station n = some z ∧ z.seqOut = (x.seqOut + 1) % 65536 ∧
        t.outbox = s.outbox ++ [.ecx n f] ∧ x.cfgAt + 1000000000 ≤ t.mono) ∧
    (s.escRec n = some k → s.esc n = some y → y.acc = some u → k.produced = false → y.first = false → s.flag (Reg.SAF_ESC_STAT_LATCH n) = false →
      ∃ t, exec (.escWatchdogExpiry n) s = .next t ∧ t.flag (Reg.SAF_ESC_STAT_LATCH n) = true ∧ t.fld (Reg.SAF_ESC_STAT_CAUSE n) = 1 ∧
        t.told 110 (n.val + 256) 0 ∧ t.mem = s.mem)

/-- Receiving on CAN: a frame for an object becomes its newest, one for the high-priority buffer joins it behind at most three others and raises
its event (R405, R408), a pop removes the head, and an error counts in REC (R414). -/
def Obligations.CanReceives : Prop :=
  ∀ (s : State) (n : Fin 4) (m : Master) (x : CanFrame) (esi : Bool) (sof i : Nat) (f : CanFilter) (r : CanPortRec) (o : CanObj) (kind : CanErr)
    (heavy : Bool), s.sized →
    (s.canOn n = true → s.fld (Reg.CAN_STAT_EST n) ≠ 2 → s.canPortRec n = some r → x.fd = false → s.canMatch n x = some (i, f) →
      (f.target = 0 → s.canObj n f.obj = some o → o.len ≤ x.data.length → ∃ t, exec (.canFrameReceived n x esi false sof) s = .next t ∧
        (t.canPort n).rx.head? = some ⟨f.obj, sof, s.now, x.data.take o.len⟩ ∧ t.mem = s.mem) ∧
      (f.target = 2 → (s.canPort n).hp.length < 4 → ∃ t, exec (.canFrameReceived n x esi false sof) s = .next t ∧
        (t.canPort n).hp = (s.canPort n).hp ++ [⟨x, esi, i, sof⟩] ∧
        t.told (canSrc n 0) (canIdWord x) (x.data.length + 128 * b2n esi + 256 * i) ∧ t.mem = s.mem)) ∧
    (s.canOn n = false → exec (.canFrameReceived n x esi false sof) s = .next s) ∧
    (m.isPair = true → ∃ t, exec (.canHpPop m n) s = .next t ∧ (t.canPort n).hp = (s.canPort n).hp.drop 1 ∧
      (∀ k, k ≠ n.val → t.canPort k = s.canPort k) ∧ t.mem = s.mem) ∧
    (s.canOn n = true → s.fld (Reg.CAN_STAT_EST n) ≠ 2 → ∃ t, exec (.canReceiveError n kind heavy) s = .next t ∧
      t.fld (Reg.CAN_ERR_REC n) = min 255 (s.fld (Reg.CAN_ERR_REC n) + (if heavy then 8 else 1)) ∧
      t.fld (Reg.CAN_ERR_TEC n) = s.fld (Reg.CAN_ERR_TEC n) ∧ t.can = s.can) ∧
    (s.canOn n = false → exec (.canReceiveError n kind heavy) s = .next s)

/-- Transmitting on CAN: the first of the offered frames starts (R409), it ends sent, or it counts an error and is retried unless it is one-shot
(R410, R411, R414); recovery from bus-off (R414); the time master's reference and windows (R415), and the loss of the reference (R417). -/
def Obligations.CanTransmits : Prop :=
  ∀ (s : State) (n : Fin 4) (m : Master) (w : Word) (x : CanTx) (r : CanPortRec) (o : Fin 128) (oc : CanObj) (u k : Nat) (kind : CanErr) (late : Bool),
    s.sized →
    (s.canMaySend n = true → firstOffer (s.canOffers n) = some x → ∃ t, exec (.canTxStart n) s = .next t ∧ (t.canPort n).onBus = some x ∧
      (t.canPort n).onBusAt = s.now ∧ t.regs = s.regs ∧ t.mem = s.mem) ∧
    (s.canMaySend n = false → exec (.canTxStart n) s = .next s) ∧
    ((s.canPort n).onBus = some x →
      (∃ t, exec (.canTxEnd n (.sent none)) s = .next t ∧ (t.canPort n).onBus = none ∧
        t.outbox = s.outbox ++ [.can n x.frame.ide x.frame.id x.frame.fd x.frame.brs x.frame.data] ∧
        t.fld (Reg.CAN_ERR_TEC n) = s.fld (Reg.CAN_ERR_TEC n) - 1) ∧
      (x.oneShot = false → x.obj < 255 → ∃ t, exec (.canTxEnd n .arbLost) s = .next t ∧ (t.canPort n).onBus = none ∧
        (∃ y ∈ (t.canPort n).pend, y.obj = x.obj) ∧ t.fld (Reg.CAN_ERR_TEC n) = s.fld (Reg.CAN_ERR_TEC n)) ∧
      (s.fld (Reg.CAN_ERR_TEC n) < 248 → ∃ t, exec (.canTxEnd n (.error kind false)) s = .next t ∧ (t.canPort n).onBus = none ∧
        t.fld (Reg.CAN_ERR_TEC n) = s.fld (Reg.CAN_ERR_TEC n) + 8)) ∧
    (m.isPair = true → wordField w 8 8 = 0xC5 → wordField w 0 1 = 1 →
      (s.fld (Reg.CAN_STAT_EST n) = 2 → ∃ t, exec (.canRecover m n w) s = .next t ∧ (t.canPort n).recovering = true ∧ t.regs = s.regs) ∧
      (s.fld (Reg.CAN_STAT_EST n) ≠ 2 → exec (.canRecover m n w) s = .next s)) ∧
    ((s.canPort n).recovering = true → s.canOn n = true → ∃ t, exec (.canBusOn n) s = .next t ∧ (t.canPort n).recovering = false ∧
      t.reg (Reg.CAN_ERR n) = 0 ∧ t.fld (Reg.CAN_STAT_EST n) = 0 ∧ t.told (canSrc n 5) 0 0) ∧
    (s.canPortRec n = some r → r.mode = 2 → s.canMaySend n = true → s.refAfter n ((s.canPort n).nextRef.getD s.now) = some (u, k) →
      ∃ t, exec (.ttcanReference n late) s = .next t ∧ (t.canPort n).onBus = some ⟨254, refFrame r.refId k u, true⟩ ∧
        (t.canPort n).cycleRef = u ∧ (t.canPort n).nextRef = some (u + 1) ∧ (late = true → t.told (canSrc n 7) 0 0)) ∧
    (s.canObj n o = some oc → (s.canPort n).pend.find? (fun y => decide (y.obj = o.val)) = some x → s.canMaySend n = true →
      s.fld (Reg.CAN_STAT_MODE n) = 2 → (∃ t, exec (.ttcanWindow n o true) s = .next t ∧ (t.canPort n).onBus = some x) ∧
      (∃ t, exec (.ttcanWindow n o false) s = .next t ∧ (t.canPort n).onBus = none ∧ (∀ y ∈ (t.canPort n).pend, y.obj ≠ o.val) ∧
        (x.oneShot = true → t.told (canSrc n 2) (o.val + 512) (canIdWord x.frame)))) ∧
    (s.fld (Reg.CAN_STAT_MODE n) = 3 → s.flag (Reg.CAN_STAT_SYNC n) = true → ∃ t, exec (.ttcanSyncLoss n) s = .next t ∧
      t.flag (Reg.CAN_STAT_SYNC n) = false ∧ t.told (canSrc n 7) 2 0 ∧ (s.canPort n).lastRef + 1000000000 ≤ t.mono)

/-- The switch learns the source of a frame and forwards it to the ports of its destination (R423), a port that is down takes none; a link change
counts and is reported, and a topology change empties the address table and opens the blocked ring ports (R426). -/
def Obligations.SwitchAndRing : Prop :=
  ∀ (s : State) (p : Fin 3) (b : List Byte) (ing egr : Nat) (lost up : Bool),
    (s.portUp p = true → s.fld (Reg.NET_PORT_MRPST p) < 2 → ethGroup b = false → ethDst b ≠ s.hostMac p →
      ∃ t, exec (.ethFrameReceived p b ing egr lost) s = .next t ∧ t.net = (s.macLearn (ethSrc b) p).net ∧ t.regs = s.regs ∧ t.mem = s.mem ∧
        (∀ q ∈ (s.macLearn (ethSrc b) p).egress p b, .eth q ((s.macLearn (ethSrc b) p).leave p q ing egr b) ∈ t.outbox)) ∧
    (s.portUp p = false → exec (.ethFrameReceived p b ing egr lost) s = .next s) ∧
    (s.flag (Reg.NET_PORT_EN p) = true → s.flag (Reg.NET_PORT_LINK p) ≠ up → s.flag Reg.CPM_STAT_PLL_COAST = false →
      ∃ t, exec (.ethLinkChange p up) s = .next t ∧ t.flag (Reg.NET_PORT_LINK p) = up ∧ t.told 208 (p.val + 256 * b2n up) 0 ∧ t.mem = s.mem) ∧
    (s.flag (Reg.NET_PORT_LINK p) = up → exec (.ethLinkChange p up) s = .next s) ∧
    (s.flag Reg.NET_MRP_EN = true → ∃ t, exec .mrpTopologyChange s = .next t ∧ t.net.macs = [] ∧ t.told 209 0 0 ∧
      (p.val < 2 → s.fld (Reg.NET_PORT_MRPST p) = 2 → s.portUp p = true → t.fld (Reg.NET_PORT_MRPST p) = 1))

/-! ### Precision time (18) -/

/-- PTP as a follower: a one-step Sync of the selected master gives the offset its two stamps and the mean path delay make, a two-step one waits for
its Follow_Up, and sixteen offsets within the limit in a row lock the clock (R432, R433); an Announce is kept; without Announce the clock is UNLOCKED or takes MASTER, without
Sync LOCKED becomes HOLDOVER (R434). A Delay_Resp gives the mean path delay. The sign of the offset, slave minus master, is the model's reading of
the reference (assumption 104). The time base under software and as master: PTP_ADDEND is clamped to ±250 ppm (R431), a step needs its key and is refused in RUN and DOZE
(R432), and a MASTER numbers its Sync and Announce messages and sends them on every port of the ring that passes them (R427). -/
def Obligations.PreciseTime : Prop :=
  (∀ (s : State) (x : PtpSync) (a : PtpAnnounce) (src n orig : Nat) (corr c t1 t2 t3 : Int) (lost : Bool) (bd : Nat), s.ptpMode ≠ 0 →
    (s.ptp.sel = some x.src → s.fld Reg.PTP_STAT_STATE ≠ 4 →
      let u2 := 4096 * s.ingressTime x.port.val x.boundary
      let ofs := (u2 - (65536 * (x.origin : Int) + x.corr)) / 65536 - s.fld Reg.PTP_MPD_MPD
      (x.twoStep = true → ∃ t, exec (.ptpSync x) s = .next t ∧ t.ptp.twoStep = some (x.seq, u2, x.corr) ∧ t.ptp.syncAt = s.mono ∧ t.regs = s.regs) ∧
      (x.twoStep = false → ∃ t, exec (.ptpSync x) s = .next t ∧ t.ptp.sync = some (65536 * (x.origin : Int) + x.corr, u2) ∧
        t.fld Reg.PTP_OFFSET_OFS = unsint 32 (satInt 32 ofs) ∧ t.mem = s.mem ∧
        (s.fld Reg.PTP_STAT_STATE = 1 → s.ptp.inRun = 15 → ofs.natAbs ≤ s.lockNs → ofs.natAbs ≤ 100000000 →
          t.fld Reg.PTP_STAT_STATE = 2 ∧ t.told 212 513 0))) ∧
    (s.ptp.sel ≠ some x.src → exec (.ptpSync x) s = .next s) ∧
    (s.ptp.sel = some src → s.ptp.twoStep = some (n, t2, c) → ∃ t, exec (.ptpFollowUp src n orig corr) s = .next t ∧ t.ptp.twoStep = none ∧
      t.ptp.sync = some (65536 * (orig : Int) + c + corr, t2) ∧ t.mem = s.mem) ∧
    (a.steps < 255 → a.src / 65536 ≠ s.clockId → ∃ t, exec (.ptpAnnounce a) s = .next t ∧
      (∃ f ∈ t.ptp.foreign, f.ann = a ∧ f.last = s.mono) ∧ t.mem = s.mem) ∧
    (a.src / 65536 = s.clockId → exec (.ptpAnnounce a) s = .next s) ∧
    (s.fld Reg.PTP_STAT_STATE ≠ 4 → s.fld Reg.PTP_STAT_STATE ≠ 5 → s.ptp.foreign = [] → ∃ t, exec .ptpAnnounceTimeout s = .next t ∧
      t.ptp.sel = none ∧ t.fld Reg.PTP_STAT_STATE = (if s.ptpMode = 2 then 4 else 0) ∧ t.mem = s.mem) ∧
    (s.fld Reg.PTP_STAT_STATE = 2 → ∃ t, exec .ptpSyncTimeout s = .next t ∧ t.fld Reg.PTP_STAT_STATE = 3 ∧ t.told 212 770 0 ∧
      s.ptp.syncAt + 4 * s.ptp.syncInt ≤ t.mono ∧ t.mem = s.mem) ∧
    (s.ptp.sync = some (t1, t2) → s.ptp.req = some (n, t3) → s.ptp.sel = some src →
      ∃ t, exec (.ptpDelayResp src n orig corr) s = .next t ∧ t.ptp.req = none ∧ t.mem = s.mem ∧
        t.fld Reg.PTP_MPD_MPD = min 0xFFFFFFFF (((t2 - t1) + (65536 * (orig : Int) - corr - t3)) / 2 / 65536).toNat) ∧
    (s.ptp.sel.isSome = true → s.fld Reg.PTP_STAT_STATE ≠ 4 → ∃ t, exec (.ptpDelayReqSend bd lost) s = .next t ∧
      t.ptp.seqDelay = (s.ptp.seqDelay + 1) % 65536 ∧
      t.ptp.req = (if lost then none else some (s.ptp.seqDelay, 4096 * s.egressTime 0 bd)) ∧ (lost = true → t.told 215 256 0) ∧ t.mem = s.mem)) ∧
  (∀ (s : State) (m : Master) (w : Word) (bd q : Nat), m.isPair = true →
    (∃ t, exec (.ptpAddendWrite m w) s = .next t ∧ t.fld Reg.PTP_ADDEND_ADDEND = max 0x9FF5C290 (min 0xA00A3D70 w.toNat) ∧ t.mem = s.mem ∧
      (w.toNat < 0x9FF5C290 ∨ 0xA00A3D70 < w.toNat → t.flag Reg.PTP_STAT_ADDCLAMP = true ∧ t.told 216 0 0) ∧
      (0x9FF5C290 ≤ w.toNat → w.toNat ≤ 0xA00A3D70 → t.flag Reg.PTP_STAT_ADDCLAMP = s.flag Reg.PTP_STAT_ADDCLAMP)) ∧
    (wordField w 8 8 = 0x3C → w.getLsbD 0 = true → (s.cpm.phase = .run ∨ s.cpm.phase = .doze) → ∃ t, exec (.ptpStep m w) s = .next t ∧
      t.flag Reg.PTP_STAT_STEPREJ = true ∧ t.told 214 0 0 ∧ t.now = s.now) ∧
    (wordField w 8 8 = 0x3C → w.getLsbD 0 = true → s.cpm.phase ≠ .run → s.cpm.phase ≠ .doze → ∃ t, exec (.ptpStep m w) s = .next t ∧
      t.now = ((s.now : Int) + (1000000000 * sint 32 (s.fld Reg.PTP_ADJ_S_SEC) + sint 32 (s.fld Reg.PTP_ADJ_NS_NS))).toNat ∧
      t.mono = s.mono ∧ t.regs = s.regs) ∧
    (wordField w 8 8 ≠ 0x3C → exec (.ptpStep m w) s = .next s) ∧
    (s.ptpMode ≠ 0 → s.fld Reg.PTP_STAT_STATE = 4 →
      (∃ t f, exec (.ptpSyncSend bd) s = .next t ∧ t.ptp.seqSync = (s.ptp.seqSync + 1) % 65536 ∧ t.ptp.seqAnn = s.ptp.seqAnn ∧ t.regs = s.regs ∧
        (q < 2 → s.passes 3 q = true → .eth q f ∈ t.outbox)) ∧
      (∃ t f, exec .ptpAnnounceSend s = .next t ∧ t.ptp.seqAnn = (s.ptp.seqAnn + 1) % 65536 ∧ t.ptp.seqSync = s.ptp.seqSync ∧ t.regs = s.regs ∧
        (q < 2 → s.passes 3 q = true → .eth q f ∈ t.outbox))) ∧
    (s.fld Reg.PTP_STAT_STATE ≠ 4 → exec (.ptpSyncSend bd) s = .next s ∧ exec .ptpAnnounceSend s = .next s))

/-! ### Register accesses and the host data port (01, 04) -/

/-- Register accesses by their access codes (R8): a pair's read of an RC field gives it and resets it, a reader that is no core pair leaves it; the low word of
the time latches the two high words for its reader (R82); a write sets RW fields and clears the W1C bits written 1. The host data port may not write outside HALT (R111),
and an access of no register is a bus error (R7). -/
def Obligations.RegisterAccesses : Prop :=
  ∀ (s : State) (m : Master) (n : Fin 256) (w : Word) (a : Nat),
    (∃ t, exec (.rcFieldRead m (Reg.EVT_CNT n)) s = .next t ∧ t.returned m.num = s.reg (Reg.EVT_CNT n) ∧ t.mem = s.mem ∧
      (m.isPair = true → t.fld (Reg.EVT_CNT_COUNT n) = 0 ∧ t.flag (Reg.EVT_CNT_SAT n) = false) ∧
      (m.isPair = false → t.reg (Reg.EVT_CNT n) = s.reg (Reg.EVT_CNT n)) ∧ (∀ x, x ≠ Reg.EVT_CNT n → t.reg x = s.reg x)) ∧
    (∃ t, exec (.latchedLowWordRead m Reg.PTP_NS) s = .next t ∧ (t.returned m.num).toNat = s.now % 1000000000 ∧
      (∀ u : State, u.latches = t.latches → (u.readQuiet m.num Reg.PTP_SL).1 = s.now / 1000000000 % 2 ^ 32) ∧
      (∀ x, t.reg x = s.reg x) ∧ t.mem = s.mem) ∧
    (m.isPair = true → ∃ t, exec (.registerWrite m (Reg.EVT_ROUTE n) w) s = .next t ∧ t.mem = s.mem ∧
      t.fld (Reg.EVT_ROUTE_TARGET n) = wordField w 0 2 ∧ t.fld (Reg.EVT_ROUTE_LEVEL n) = wordField w 4 4 ∧
      t.flag (Reg.EVT_ROUTE_EN n) = w.getLsbD 8 ∧ (∀ k, k < 256 → k ≠ n.val → t.reg (Reg.EVT_ROUTE k) = s.reg (Reg.EVT_ROUTE k))) ∧
    (m.isPair = true → ∃ t, exec (.registerWrite m Reg.CPM_FAULT w) s = .next t ∧ t.mem = s.mem ∧
      t.flag Reg.CPM_FAULT_REF_LOSS = (s.flag Reg.CPM_FAULT_REF_LOSS && !w.getLsbD 0) ∧
      t.flag Reg.CPM_FAULT_SUP_OVER = (s.flag Reg.CPM_FAULT_SUP_OVER && !w.getLsbD 4) ∧
      (∀ x, x ≠ Reg.CPM_FAULT → t.reg x = s.reg x)) ∧
    (s.inHalt = false → isRegister a = true → a ≠ Reg.CPM_CLKDIV → ∃ t, exec (.registerWrite .hdp a w) s = .next t ∧
      t.flag Reg.HDP_STAT_ERR_DENIED = true ∧ t.told 45 a 3 ∧ t.mem = s.mem) ∧
    (isRegister a = false → ∃ t, exec (.registerWrite m a w) s = .next t ∧ t.told 45 a m.num ∧ t.mem = s.mem)

/-- The host data port (R109, R110): a single access goes to HDP_ADDR, which moves on with INC; a range that fails its check sets its flag and
raises EV_HDP_ERR and moves nothing; GO starts a burst of 1 to 256 words, whose end clears BUSY, sets DONE and counts the words, and a writing burst leaves the
buffer's words in memory. The ranges of registers are in the other statement. -/
def Obligations.HostDataPort : Prop :=
  ∀ (s : State) (m : Master) (w : Word) (e : PortErr) (b : HdpBurst) (g : Nat), m.isPair = true →
    let a := s.fld Reg.HDP_ADDR_ADDR
    let z := s.hdpSize
    let on := (if s.flag Reg.HDP_CTRL_INC then (a + z) % 2 ^ 32 else a)
    let sz := 2 ^ wordField w 0 2
    let cnt := if wordField w 8 9 = 0 ∨ 256 < wordField w 8 9 then 256 else wordField w 8 9
    (s.portCheck a z z false = none → isWindow a = false → ∃ t, exec (.hdpDataRead m .clean) s = .next t ∧
      t.returned m.num = BitVec.ofNat 32 (leNat ((List.range z).map (fun i => s.busByte (a + i)))) ∧ t.fld Reg.HDP_ADDR_ADDR = on ∧ t.mem = s.mem) ∧
    (s.portCheck a z z false = some e → ∃ t, exec (.hdpDataRead m .clean) s = .next t ∧ t.flag e.field = true ∧ t.told 13 0 0 ∧
      t.fld Reg.HDP_ADDR_ADDR = a ∧ t.mem = s.mem) ∧
    (s.portCheck a z z true = none → isWindow a = false → ∃ t, exec (.hdpDataWrite m w .clean) s = .next t ∧
      t.bytes a z = leBytes z (w.toNat + 2 ^ 32 * (s.reg Reg.HDP_DATAH).toNat) ∧ t.fld Reg.HDP_ADDR_ADDR = on ∧
      (∀ x, (x < a ∨ a + z ≤ x) → t.byte x = s.byte x)) ∧
    (s.portCheck a z z true = some e → ∃ t, exec (.hdpDataWrite m w .clean) s = .next t ∧ t.flag e.field = true ∧ t.told 13 0 0 ∧
      t.fld Reg.HDP_ADDR_ADDR = a ∧ t.mem = s.mem) ∧
    (w.getLsbD 4 = true → s.flag Reg.HDP_STAT_BUSY = false → s.portCheck a (cnt * sz) sz (w.getLsbD 3) = none →
      ∃ t, exec (.hdpBurstGo m w) s = .next t ∧ t.hdp = some ⟨a, sz, cnt, w.getLsbD 3⟩ ∧ t.flag Reg.HDP_STAT_BUSY = true ∧ t.mem = s.mem) ∧
    (w.getLsbD 4 = true → s.flag Reg.HDP_STAT_BUSY = false → s.portCheck a (cnt * sz) sz (w.getLsbD 3) = some e →
      ∃ t, exec (.hdpBurstGo m w) s = .next t ∧ t.hdp = s.hdp ∧ t.flag e.field = true ∧ t.flag Reg.HDP_STAT_DONE = true ∧ t.mem = s.mem) ∧
    (w.getLsbD 4 = true → s.flag Reg.HDP_STAT_BUSY = true → exec (.hdpBurstGo m w) s = .next s) ∧
    (s.hdp = some b → b.write = true → b.count ≤ 256 → (∀ i, i < b.count → isWindow (b.addr + b.size * i) = false) →
      ∃ t, exec (.hdpBurstDone .clean g) s = .next t ∧ t.hdp = none ∧ t.flag Reg.HDP_STAT_BUSY = false ∧ t.flag Reg.HDP_STAT_DONE = true ∧
        t.fld Reg.HDP_STAT_XFER = b.count ∧ t.fld Reg.HDP_ADDR_ADDR = (b.addr + b.size * b.count) % 2 ^ 32 ∧
        (∀ i, i < b.count → t.bytes (b.addr + b.size * i) b.size = s.bufGet i b.size) ∧
        (∀ x, (x < b.addr ∨ b.addr + b.size * b.count ≤ x) → t.byte x = s.byte x)) ∧
    (s.hdp = none → exec (.hdpBurstDone .clean g) s = .next s)

/-! ### The display and the key (20) -/

/-- Display updates (R499, R502 to R509): a request joins the pending rectangle; an update starts when the driver is free, latches BACK and the band and
raises the rails, counts its frames, and at its end FRONT takes the latched levels in the rectangle and PNL_FCRC matches it; a rail that fails puts the
request back; a FRONT that fails its check asks for recovery. The frame-buffer access (R513) reads or writes four bytes and moves on, and writes only BACK. The key (R512): down once; at release the time held is
shown, or, with a confirmation window open, the press confirms its value (R366) and counts no time. -/
def Obligations.DisplayAndKey : Prop :=
  (∀ (s : State) (m : Master) (w : Word) (r : PnlRect) (q : PnlRun) (temp : Int), m.isPair = true →
    (wordField w 8 8 = 0xB4 → w.getLsbD 0 = true → w.getLsbD 1 = false → ∃ t, exec (.pnlUpdate m w) s = .next t ∧ t.regs = s.regs ∧ t.mem = s.mem ∧
      (s.pnl.pend = none → t.pnl.pend = some s.pnlRegion) ∧
      (s.pnl.pend = some r → t.pnl.pend = some ⟨min r.x0 s.pnlRegion.x0, min r.y0 s.pnlRegion.y0, max r.x1 s.pnlRegion.x1, max r.y1 s.pnlRegion.y1⟩)) ∧
    (wordField w 8 8 = 0xB4 → w.getLsbD 0 = false → w.getLsbD 1 = true → ∃ t, exec (.pnlFull m w) s = .next t ∧ t.pnl.full = true ∧
      t.pnl.pend = s.pnl.pend ∧ t.flag Reg.PNL_STAT_RECOV = true) ∧
    (wordField w 8 8 ≠ 0xB4 → exec (.pnlUpdate m w) s = .next s ∧ exec (.pnlFull m w) s = .next s) ∧
    (s.pnlFree = true → s.frontGood = true → s.flag Reg.PNL_STAT_RECOV = false → s.pnl.pend = some r →
      ∃ t q, exec .pnlUpdateStart s = .next t ∧ t.pnl.run = some q ∧ q.rect = r ∧ q.levels = s.pnl.back ∧ q.band = s.fld Reg.PNL_STAT_BAND ∧
        q.recovery = false ∧ t.pnl.pend = none ∧ t.flag Reg.PNL_STAT_BUSY = true ∧ t.flag Reg.PNL_STAT_RAILS = true ∧ t.fld Reg.PNL_STAT_FRAME = 0) ∧
    (s.pnlFree = false → exec .pnlUpdateStart s = .next s ∧ exec .pnlRecovery s = .next s) ∧
    (s.pnl.run = some q → s.fld Reg.PNL_STAT_FRAME < q.frames → ∃ t, exec .pnlFrame s = .next t ∧
      t.fld Reg.PNL_STAT_FRAME = (s.fld Reg.PNL_STAT_FRAME + 1) % 256 ∧ t.pnl = s.pnl ∧ t.mem = s.mem) ∧
    (s.pnl.run = some q → s.fld Reg.PNL_STAT_FRAME = 0 → q.recovery = false → ∃ t, exec .pnlRailFail s = .next t ∧ t.pnl.run = none ∧
      t.pnl.pend.isSome = true ∧ t.pnl.front = s.pnl.front ∧ t.flag Reg.PNL_STAT_BUSY = false ∧ t.flag Reg.PNL_STAT_RAILS = false ∧ t.told 246 0 0) ∧
    (s.pnl.run = some q → q.frames ≤ s.fld Reg.PNL_STAT_FRAME → q.recovery = false → ∃ t, exec .pnlUpdateCommit s = .next t ∧ t.pnl.run = none ∧
      t.pnl.front = pnlMix q.rect s.pnl.front q.levels ∧ t.frontGood = true ∧ t.flag Reg.PNL_STAT_BUSY = false ∧
      t.flag Reg.PNL_STAT_RAILS = false ∧ t.told 240 (s.reg Reg.PNL_RGN0).toNat (s.reg Reg.PNL_RGN1).toNat) ∧
    (s.pnlFree = true → s.flag Reg.PNL_STAT_RECOV = true → ∃ t q, exec .pnlRecovery s = .next t ∧ t.pnl.run = some q ∧ q.recovery = true ∧
      t.flag Reg.PNL_STAT_BUSY = true ∧ t.pnl.pend = s.pnl.pend) ∧
    (∃ t, exec (.pnlTempMeasure temp) s = .next t ∧ t.fld Reg.PNL_STAT_TEMP = unsint 8 (satInt 8 temp) ∧ t.mem = s.mem ∧
      (temp < -15 → t.flag Reg.PNL_STAT_DEFER = true) ∧ (-13 ≤ temp → t.flag Reg.PNL_STAT_DEFER = false) ∧
      (temp < -15 → s.flag Reg.PNL_STAT_DEFER = false → t.told 244 1 0)) ∧
    (s.flag Reg.PNL_STAT_BUSY = false → s.frontGood = false → ∃ t, exec .pnlCrcCheck s = .next t ∧ t.flag Reg.PNL_STAT_RECOV = true ∧
      t.told 243 0 0) ∧
    ((s.flag Reg.PNL_STAT_BUSY = true ∨ s.frontGood = true) → exec .pnlCrcCheck s = .next s)) ∧
  (∀ (s : State) (m : Master) (w : Word) (held v c : Nat), m.isPair = true →
    let o := s.fld Reg.PNL_FBADDR_OFFSET
    (∃ t, exec (.pnlFbdataAccess m none) s = .next t ∧ t.returned m.num = BitVec.ofNat 32 (leNat (imgBytes
      (if s.flag Reg.PNL_FBADDR_BUF then s.pnl.front else s.pnl.back) o 4)) ∧ t.pnl = s.pnl ∧ t.mem = s.mem ∧
      (o + 4 < 48000 → t.fld Reg.PNL_FBADDR_OFFSET = o + 4)) ∧
    (s.flag Reg.PNL_FBADDR_BUF = false → ∃ t, exec (.pnlFbdataAccess m (some w)) s = .next t ∧ imgBytes t.pnl.back o 4 = leBytes 4 w.toNat ∧
      (∀ k, (k < o ∨ o + 4 ≤ k) → imgByte t.pnl.back k = imgByte s.pnl.back k) ∧ t.pnl.front = s.pnl.front ∧ t.mem = s.mem ∧
      (o + 4 < 48000 → t.fld Reg.PNL_FBADDR_OFFSET = o + 4)) ∧
    (s.flag Reg.PNL_FBADDR_BUF = true → ∃ t, exec (.pnlFbdataAccess m (some w)) s = .next t ∧ t.pnl = s.pnl ∧ t.mem = s.mem) ∧
    (s.flag Reg.PNL_KEY_DOWN = false → ∃ t, exec .keyDown s = .next t ∧ t.flag Reg.PNL_KEY_DOWN = true ∧ t.pnl.keyAt = s.mono ∧ t.mem = s.mem) ∧
    (s.flag Reg.PNL_KEY_DOWN = true → exec .keyDown s = .next s) ∧
    (s.flag Reg.PNL_KEY_DOWN = true → s.keyWindow = false → held < 500 → ∃ t, exec (.keyRelease held) s = .next t ∧
      t.flag Reg.PNL_KEY_DOWN = false ∧ t.fld Reg.PNL_KEY_HELD = held ∧ t.flag Reg.PNL_KEY_WINDOW = false ∧ t.told 245 held 0 ∧ t.mem = s.mem) ∧
    (s.flag Reg.PNL_KEY_DOWN = true → s.saf.window = some (v, c) → ∃ t, exec (.keyRelease held) s = .next t ∧
      t.flag Reg.PNL_KEY_DOWN = false ∧ t.fld Reg.PNL_KEY_HELD = 0 ∧ t.saf.window = none ∧ t.told 166 v 0) ∧
    (s.flag Reg.PNL_KEY_DOWN = false → exec (.keyRelease held) s = .next s))

/-! ### Start-up and negotiation (21, 23) -/

/-- Start-up (R515, R516) begins only from OFF or after a restart, latches the slot code, and ends in RUN, a wait, or HALT; a step that fails leaves HALT, faulted, and an image store
that fails check 2 leaves HALT on the Slath. The PTP wait of R433 ends on its own conditions, and the unit enters RUN in control: lines of control, role SOLO or ACTIVE. -/
def Obligations.StartUp : Prop :=
  ∀ (s : State) (f : StartFindings) (how : WaitEnd) (e : Nat × Nat),
    (s.cpm.phase ≠ .off → s.cpm.phase ≠ .ready → exec (.startup f) s = .next s) ∧
    ((s.cpm.phase = .off ∨ s.cpm.phase = .ready) →
      (∃ t, exec (.startup f) s = .next t ∧ t.fld Reg.CPM_STAT_SLOT = s.cpm.slotNow % 16 ∧
        (t.cpm.phase = .run ∨ t.cpm.phase = .ptpWait ∨ t.cpm.phase = .negotiating ∨ t.cpm.phase = .halt)) ∧
      ((f.pllLocks = false ∨ f.lanesPass ≠ BitVec.allOnes 24 ∨ f.cleanRun = false ∨ f.bist = false ∨ (f.field1 = false ∧ f.field2 = false) ∨
          f.rimUp = false) →
        ∃ t, exec (.startup f) s = .next t ∧ t.cpm.phase = .halt ∧ t.cpm.faulted = true ∧ t.fld Reg.CPM_STAT_PSTATE = 2 ∧
          (f.pllLocks = false → t.cpm.service = false ∧ t.flag Reg.CPM_STAT_PLL_COAST = true ∧ t.told 21 2 0 ∧ t.now = 0)) ∧
      (f.pllLocks = true → f.lanesPass = BitVec.allOnes 24 → f.cleanRun = true → f.bist = true → f.field1 = true → f.rimUp = true →
        loadCheck2 s.storeImage = some e → ∃ t, exec (.startup f) s = .next t ∧ t.cpm.phase = .halt ∧ t.cpm.faulted = false ∧ t.img = none ∧
          t.fld Reg.CPM_STAT_PSTATE = 2 ∧ t.fld Reg.RDL_STAT_ROLE = 0 ∧ t.told 21 3 e.1)) ∧
    (s.cpm.phase ≠ .ptpWait → exec (.startWaitEnd how) s = .next s) ∧
    (s.cpm.phase = .ptpWait → s.ptp.startRun < 4 → exec (.startWaitEnd .locked) s = .next s) ∧
    (s.cpm.phase = .ptpWait → (how = .locked → 4 ≤ s.ptp.startRun) → (how = .master → s.fld Reg.PTP_STAT_STATE = 4) →
      ∃ t, exec (.startWaitEnd how) s = .next t ∧ t.cpm.phase = .run ∧ t.fld Reg.CPM_STAT_PSTATE = 0 ∧
        t.fld Reg.RDL_STAT_ROLE = (if s.onPairCarrier then 2 else 1) ∧ t.fld Reg.RDL_STAT_OFFCAUSE = 0 ∧
        t.flag Reg.RDL_STAT_GIVE_O = false ∧ t.flag Reg.RDL_STAT_TAKE_O = true ∧
        (how = .expired → s.cpm.negAt + 1000000000 * s.ptpByte 9 ≤ t.mono))

/-- Negotiation at step 9 (R453): the partner's NEGOTIATE or the time-out decides; two units of one position stop in HALT with cause CONFLICT, as does a give line
that stays indeterminate. The handover inputs (R38, R39): an accepted level is shown, TAKE goes to the field, a unit in control that sees TAKE gives up, and an
indeterminate level is reported. -/
def Obligations.NegotiationAndHandoverInputs : Prop :=
  ∀ (s : State) (pos build chk : Nat) (conf a : Bool) (line : HoLine),
    (s.cpm.phase = .negotiating → s.cpm.giveSeen = true → s.cpm.giveIndet = false →
      (s.flag Reg.RDL_LINK_UP = true → pos ≤ 1 → pos = s.fld Reg.RDL_STAT_POS → ∃ t, exec (.negotiate pos build chk conf) s = .next t ∧
        t.cpm.phase = .halt ∧ t.fld Reg.RDL_STAT_ROLE = 0 ∧ t.fld Reg.RDL_STAT_OFFCAUSE = 5 ∧ t.told 58 1 0) ∧
      (s.flag Reg.RDL_LINK_UP = true → pos ≤ 1 → pos ≠ s.fld Reg.RDL_STAT_POS → s.flag Reg.RDL_STAT_GIVE_I = true → s.ptpMode = 0 →
        (if s.ownConf = conf then s.fld Reg.RDL_STAT_POS = 0 else s.ownConf = true) → ∃ t, exec (.negotiate pos build chk conf) s = .next t ∧
          t.cpm.phase = .run ∧ t.fld Reg.RDL_STAT_ROLE = (if s.onPairCarrier then 2 else 1) ∧ t.flag Reg.RDL_STAT_TAKE_O = true) ∧
      (s.flag Reg.RDL_LINK_UP = true → pos ≤ 1 → pos ≠ s.fld Reg.RDL_STAT_POS → s.flag Reg.RDL_STAT_GIVE_I = false → s.fld Reg.RDL_STAT_ROLE = 0 →
        s.cpm.haltOnStop = false → s.fld Reg.RDL_JOIN_PHASE = 0 → ∃ t, exec (.negotiate pos build chk conf) s = .next t ∧ t.cpm.phase = .run ∧
          t.fld Reg.RDL_STAT_ROLE = 0 ∧ t.fld Reg.RDL_STAT_OFFCAUSE = 1 ∧ t.fld Reg.RDL_JOIN_PHASE = 1) ∧
      (s.rdl.neg = none → s.flag Reg.RDL_STAT_GIVE_I = true → s.ptpMode = 0 → ∃ t, exec .negotiateTimeout s = .next t ∧ t.cpm.phase = .run ∧
        t.fld Reg.RDL_STAT_ROLE = (if s.onPairCarrier then 2 else 1) ∧
        s.cpm.negAt + (if s.fld Reg.RDL_STAT_POS = 0 then 200000000 else 300000000) ≤ t.mono)) ∧
    (s.flag Reg.RDL_LINK_UP = false → exec (.negotiate pos build chk conf) s = .next s) ∧
    ((s.cpm.phase ≠ .negotiating ∨ s.cpm.giveIndet = true ∨ s.rdl.neg.isSome = true) → exec .negotiateTimeout s = .next s) ∧
    (s.cpm.phase = .negotiating → s.cpm.giveIndet = true → ∃ t, exec .negotiateIndeterminateTimeout s = .next t ∧ t.cpm.phase = .halt ∧
      t.fld Reg.RDL_STAT_ROLE = 0 ∧ t.fld Reg.RDL_STAT_OFFCAUSE = 5 ∧ t.flag Reg.RDL_STAT_HOFAIL = true ∧ t.told 56 0 0 ∧
      s.cpm.negAt + 1000000000 ≤ t.mono) ∧
    (s.cpm.phase ≠ .off → s.cpm.phase ≠ .ready →
      (s.cpm.phase ≠ .negotiating → (s.cpm.giveSeen = false ∨ a = false) → ∃ t, exec (.hoInputAccept .give a) s = .next t ∧
        t.flag Reg.RDL_STAT_GIVE_I = a ∧ t.cpm.giveSeen = true ∧ t.cpm.giveIndet = false ∧ t.mem = s.mem ∧
        t.fld Reg.RDL_STAT_ROLE = s.fld Reg.RDL_STAT_ROLE) ∧
      (s.fld Reg.RDL_STAT_ROLE ≠ 2 → ∃ t, exec (.hoInputAccept .take a) s = .next t ∧ t.flag Reg.RDL_STAT_TAKE_I = a ∧
        t.toField = s.toField ++ [.ho a false] ∧ t.cpm.takeSeen = true ∧ t.mem = s.mem) ∧
      (s.fld Reg.RDL_STAT_ROLE = 2 → s.runsOn = true → ∃ t, exec (.hoInputAccept .take true) s = .next t ∧ t.told 58 0 0 ∧
        t.fld Reg.RDL_STAT_ROLE = 0 ∧ t.fld Reg.RDL_STAT_OFFCAUSE = 2 ∧ t.flag Reg.RDL_STAT_GIVE_O = true ∧ t.flag Reg.RDL_STAT_TAKE_O = false) ∧
      (∃ t, exec (.hoIndeterminate line) s = .next t ∧ t.flag Reg.RDL_STAT_HOFAIL = true ∧ t.told 56 (if line = .give then 0 else 1) 0 ∧
        t.fld Reg.RDL_STAT_ROLE = s.fld Reg.RDL_STAT_ROLE ∧ t.mem = s.mem)) ∧
    (s.cpm.phase = .off → exec (.hoInputAccept line a) s = .next s ∧ exec (.hoIndeterminate line) s = .next s)

/-! ### The redundant pair (23): link, digests, joins -/

/-- The Rolent link and its periodic messages (R454 to R456): a lane comes up or is lost, a failed frame counts, the loss of the link leaves a unit in control in
its role and takes a standby to OFF with cause LINK; ROLE is sent every 10 ms with TIME and shows the partner's role. Digests (R463, R464): equal
ones count as on time, unequal ones are a divergence, a late one makes the partner LAGGING; a repair is asked for, and ends with the task's state replaced. -/
def Obligations.LinkAndDigests : Prop :=
  ∀ (s : State) (l : Fin 2) (role dig d t0 tr peak x y : Nat) (trace mine : Bool) (c : Fin 11) (m : RepairMsg),
    (s.flag (laneBit l) = false → s.onPairCarrier = true → s.flag Reg.CPM_STAT_PLL_COAST = false → ∃ t, exec (.rolentLaneUp l) s = .next t ∧
      t.flag (laneBit l) = true ∧ t.flag Reg.RDL_LINK_UP = true ∧ t.told 52 (t.reg Reg.RDL_LINK).toNat 0 ∧ t.mem = s.mem ∧
      (s.flag Reg.RDL_LINK_UP = false → t.rdl.linkAt = s.mono)) ∧
    (s.flag (laneBit l) = true → exec (.rolentLaneUp l) s = .next s ∧ ∃ t, exec (.rolentLaneLoss l) s = .next t ∧ t.flag (laneBit l) = false ∧
      t.flag Reg.RDL_LINK_UP = s.flag Reg.RDL_LINK_UP ∧ t.told 52 (t.reg Reg.RDL_LINK).toNat 0) ∧
    (∃ t, exec (.rolentCrcFail mine) s = .next t ∧ t.mem = s.mem ∧ (∀ a, a ≠ Reg.RDL_LINK → t.reg a = s.reg a) ∧
      (mine = true → t.fld Reg.RDL_LINK_CRCERR = s.fld Reg.RDL_LINK_CRCERR ∧
        t.fld Reg.RDL_LINK_RETX = min Reg.RDL_LINK_RETX.max (s.fld Reg.RDL_LINK_RETX + 1)) ∧
      (mine = false → t.fld Reg.RDL_LINK_CRCERR = min Reg.RDL_LINK_CRCERR.max (s.fld Reg.RDL_LINK_CRCERR + 1) ∧
        t.fld Reg.RDL_LINK_RETX = s.fld Reg.RDL_LINK_RETX)) ∧
    (s.flag Reg.RDL_LINK_UP = true → s.swapLoading = false → ∃ t, exec .rolentLinkLoss s = .next t ∧ t.flag Reg.RDL_LINK_UP = false ∧
      t.fld Reg.RDL_STAT_PROLE = 7 ∧ t.told 52 (t.reg Reg.RDL_LINK).toNat 0 ∧
      (s.inControl = true → t.fld Reg.RDL_STAT_ROLE = s.fld Reg.RDL_STAT_ROLE) ∧
      (s.fld Reg.RDL_STAT_ROLE = 3 ∨ s.fld Reg.RDL_STAT_ROLE = 4 → t.fld Reg.RDL_STAT_ROLE = 0 ∧ t.fld Reg.RDL_STAT_OFFCAUSE = 3)) ∧
    (s.flag Reg.RDL_LINK_UP = false → exec .rolentLinkLoss s = .next s ∧ exec (.roleMsg role trace) s = .next s ∧ exec (.timeMsg x y) s = .next s) ∧
    (s.flag Reg.RDL_LINK_UP = true → role ≤ 4 → s.fld Reg.RDL_STAT_ROLE = 3 → ∃ t, exec (.roleMsg role trace) s = .next t ∧
      t.fld Reg.RDL_STAT_PROLE = role ∧ t.flag Reg.PTP_STAT_TRACE = trace ∧ t.mem = s.mem) ∧
    (s.flag Reg.RDL_LINK_UP = true → ∃ t, exec (.timeMsg x y) s = .next t ∧ t.rdl.timeRx = s.now ∧ t.mem = s.mem ∧
      (s.follows = true → 0x9FF5C290 ≤ t.fld Reg.PTP_ADDEND_ADDEND ∧ t.fld Reg.PTP_ADDEND_ADDEND ≤ 0xA00A3D70) ∧
      (s.follows = false → t.regs = s.regs)) ∧
    (s.onPairCarrier = true → s.flag Reg.RDL_LINK_UP = true → ∃ t n, exec (.roleSend peak) s = .next t ∧ s.rdl.sentAt + 10000000 ≤ t.mono ∧
      t.outbox = s.outbox ++ [.rolent (.role (s.fld Reg.RDL_STAT_ROLE) (s.flag Reg.PTP_STAT_TRACE)), .rolent (.time n s.rdl.timeRx)] ∧
      t.rdl.sentAt = t.mono ∧ (∀ a, a ≠ Reg.RDL_LOAD → t.reg a = s.reg a)) ∧
    (s.rdl.own.find? (fun e => decide (e.1 = c.val ∧ e.2.1 = tr)) = some (c.val, tr, d, t0) → s.fld Reg.RDL_STAT_ROLE = 2 →
      s.rdl.carryEnd = none → s.cpm.phase = .run → s.rdl.swapAt = none →
      (d = dig → s.now ≤ t0 + s.budget → ∃ t, exec (.digestMsg c tr dig) s = .next t ∧ t.reg Reg.RDL_DIV = s.reg Reg.RDL_DIV ∧
        t.fld Reg.RDL_LAG_ONTIME = min 1000 (s.fld Reg.RDL_LAG_ONTIME + 1) ∧ t.mem = s.mem) ∧
      (d ≠ dig → ∃ t, exec (.digestMsg c tr dig) s = .next t ∧ t.told 49 c tr ∧ t.fld Reg.RDL_DIV_LAST = c)) ∧
    (s.rdl.own.find? (fun e => decide (e.1 = c.val ∧ e.2.1 = tr)) = none → ∃ t, exec (.digestMsg c tr dig) s = .next t ∧ t.regs = s.regs ∧
      t.rdl.other.head? = some (c.val, tr, dig)) ∧
    (s.rdl.own = [(c.val, tr, d, t0)] → s.rdl.asked = [] → s.fld Reg.RDL_STAT_ROLE = 2 → s.fld Reg.RDL_STAT_PROLE = 3 →
      ∃ t, exec .digestLate s = .next t ∧ t.fld Reg.RDL_STAT_PROLE = 4 ∧ t.fld Reg.RDL_LAG_ONTIME = 0 ∧ t.rdl.own = [] ∧ t.told 51 0 0) ∧
    (s.rdl.own = [] → exec .digestLate s = .next s) ∧
    (s.fld Reg.RDL_STAT_ROLE = 2 → s.rdl.carryEnd = none → c.val ∈ s.rdl.mirror → ∃ t, exec (.repairReq c) s = .next t ∧ c.val ∈ t.rdl.asked ∧
      t.regs = s.regs ∧ t.mem = s.mem) ∧
    (c.val ∉ s.rdl.mirror → s.rdl.carryEnd = none → exec (.repairReq c) s = .next s) ∧
    (s.sized → s.asksRepair = true → m.task ∈ s.rdl.repair → m.task < 9 → ∃ t, exec (.repairMsg m) s = .next t ∧ m.task ∉ t.rdl.repair ∧
      (t.task m.task).v = imgClean m.v ∧ (t.task m.task).lines = [] ∧ t.told 50 m.task 0 ∧ t.mem = s.mem) ∧
    (m.task ∉ s.rdl.repair → exec (.repairMsg m) s = .next s)

/-- Joins (R458 to R460): OFF asks, after RDL_CTRL.REJOIN, 10 s after a failure, or 1 s after the link came back; the ACTIVE unit answers and copies its state;
the joining unit takes its partner's time, stores the copy, and shadows each task from its cut-over; the last cut-over makes it STANDBY. A block of the
partner's image goes into the store, and FSTATE carries F's cycle. -/
def Obligations.Joins : Prop :=
  ∀ (s : State) (m : Master) (w : Word) (build chk time t0 tr off n : Nat) (conf : Bool) (c : Fin 11) (k : Fin 9) (items : List StateItem)
    (bs : List Byte),
    (s.fld Reg.RDL_STAT_ROLE = 0 → s.cpm.phase = .run → s.cpm.haltOnStop = false → s.fld Reg.RDL_JOIN_PHASE = 0 → s.flag Reg.RDL_LINK_UP = true →
      (m.isPair = true → wordField w 8 8 = 0x69 → w.getLsbD 0 = false → w.getLsbD 1 = true → w.getLsbD 2 = false →
        ∃ t, exec (.rejoin m w) s = .next t ∧ t.fld Reg.RDL_JOIN_PHASE = 1 ∧ t.fld Reg.RDL_STAT_OFFCAUSE = 1 ∧
          t.outbox = s.outbox ++ [.rolent (.joinReq s.build s.safeChk s.ownConf)] ∧ t.mem = s.mem) ∧
      (s.rdl.joinFail = some t0 → ∃ t, exec .joinRetry s = .next t ∧ t.fld Reg.RDL_JOIN_PHASE = 1 ∧ t0 + 10000000000 ≤ t.mono ∧
        t.outbox = s.outbox ++ [.rolent (.joinReq s.build s.safeChk s.ownConf)] ∧ t.mem = s.mem) ∧
      (s.fld Reg.RDL_STAT_OFFCAUSE = 3 → ∃ t, exec .rolentRejoin s = .next t ∧ t.fld Reg.RDL_JOIN_PHASE = 1 ∧
        s.rdl.linkAt + 1000000000 ≤ t.mono ∧ t.outbox = s.outbox ++ [.rolent (.joinReq s.build s.safeChk s.ownConf)] ∧ t.mem = s.mem)) ∧
    (s.fld Reg.RDL_STAT_ROLE = 2 → s.flag Reg.RDL_LINK_UP = true →
      (build = s.build → ∃ t, exec (.joinReq build chk conf) s = .next t ∧ t.fld Reg.RDL_JOIN_PHASE = 3 ∧ t.rdl.mirror = [] ∧
        t.rdl.cutLeft = s.enabledTasks ++ [10] ∧ t.flag Reg.RDL_STAT_PCONF = conf ∧ t.fld Reg.RDL_STAT_ROLE = 2 ∧ t.mem = s.mem) ∧
      (build ≠ s.build → ∃ t, exec (.joinReq build chk conf) s = .next t ∧ t.fld Reg.RDL_JOIN_PHASE = 1 ∧ t.rdl.mirror = [] ∧ t.mem = s.mem)) ∧
    (s.fld Reg.RDL_STAT_ROLE ≠ 2 → exec (.joinReq build chk conf) s = .next s) ∧
    (s.fld Reg.RDL_STAT_ROLE = 0 → s.fld Reg.RDL_JOIN_PHASE = 1 → ∃ t, exec (.joinAck build chk conf time) s = .next t ∧ t.now = time ∧
      t.mono = s.mono ∧ t.fld Reg.RDL_JOIN_PHASE = (if build = s.build then 2 else 1) ∧
      (build = s.build → t.rdl.cutLeft = s.enabledTasks ++ [10]) ∧ t.mem = s.mem) ∧
    (s.fld Reg.RDL_JOIN_PHASE ≠ 1 → exec (.joinAck build chk conf time) s = .next s) ∧
    (s.fld Reg.RDL_STAT_ROLE = 0 → s.fld Reg.RDL_JOIN_PHASE = 2 →
      (∃ t, exec (.stateLines items) s = .next t ∧ t.fld Reg.RDL_JOIN_PHASE = 3 ∧ t.fld Reg.RDL_JOIN_PCT = 100) ∧
      (s.sized → ∃ t, exec (.stateLines [.lines 2 k off bs, .lines 4 k n bs]) s = .next t ∧ (t.task k).v = imgWrite (s.task k).v off bs ∧
        t.g = imgWrite s.g n bs ∧ (∀ d, d < 9 → d ≠ k.val → t.task d = s.task d) ∧ t.mem = s.mem)) ∧
    (s.fld Reg.RDL_STAT_ROLE = 0 → s.fld Reg.RDL_JOIN_PHASE = 3 → c.val ∈ s.rdl.cutLeft →
      ∃ t, exec (.cutOver c tr items) s = .next t ∧ c.val ∈ t.rdl.mirror ∧ c.val ∉ t.rdl.cutLeft ∧
        ((∀ d ∈ s.rdl.cutLeft, d = c.val) → t.fld Reg.RDL_STAT_ROLE = 3 ∧ t.fld Reg.RDL_STAT_OFFCAUSE = 0 ∧ t.fld Reg.RDL_JOIN_PHASE = 4) ∧
        ((∃ d ∈ s.rdl.cutLeft, d ≠ c.val) → (∀ d b, .bufs d b ∈ items → d < 9) → t.fld Reg.RDL_STAT_ROLE = 0 ∧ t.fld Reg.RDL_JOIN_PHASE = 3)) ∧
    (s.fld Reg.RDL_STAT_ROLE = 2 → s.fld Reg.RDL_JOIN_PHASE = 3 → c.val ∈ s.rdl.cutLeft → c.val < 9 → (s.task c).latching = false →
      (s.task c).executing = false → ∃ t, exec (.joinCutOver c) s = .next t ∧ c.val ∈ t.rdl.mirror ∧ c.val ∉ t.rdl.cutLeft ∧
        ((∀ d ∈ s.rdl.cutLeft, d = c.val) → t.fld Reg.RDL_JOIN_PHASE = 4) ∧ t.tasks = s.tasks ∧ t.mem = s.mem) ∧
    (c.val ∉ s.rdl.cutLeft → exec (.joinCutOver c) s = .next s ∧ exec (.cutOver c tr items) s = .next s) ∧
    (s.fld Reg.RDL_STAT_ROLE = 0 → s.fld Reg.RDL_JOIN_PHASE = 1 → bs.length = 1024 → 1024 < u32 bs 8 →
      ∃ t l, exec (.imageBytes 0 bs none) s = .next t ∧ t.load = some l ∧ l.total = u32 bs 8 ∧ l.blocks = [0] ∧
        t.bytes (0x20000000 + 8) 1016 = bs.drop 8 ∧ t.regs = s.regs ∧ (∀ x, (x < 0x20000000 ∨ 0x20000400 ≤ x) → t.byte x = s.byte x)) ∧
    (s.joining = false → exec (.imageBytes off bs none) s = .next s) ∧
    (s.sized → s.shadows 8 = true → ∃ t, exec (.fstate n [] items) s = .next t ∧ t.fld (Reg.IMG_TRICK_COMMITTED 8) = n % 2 ^ 24 ∧
      (t.task 8).gPend = [] ∧ (t.task 8).lines = []) ∧
    (s.shadows 8 = false → exec (.fstate n [] items) s = .next s)

/-! ### Giving and taking control, swaps (23) -/

/-- Giving control (R467, R201): RDL_CTRL.GIVE and the partner's STOP end with role OFF and the lines given. Taking it (R469 to R471): the partner's notice makes the takeover
ALIGNED; HO_GIVE_I asserted makes a STANDBY unit ACTIVE at once and fixes t_own, as does a notice with an indeterminate line 10 µs later; at t_own − 15 µs
the unit asserts HO_TAKE_O. A LAGGING unit whose partner gives up restarts. The pulse test reports a driver that fails (R477). -/
def Obligations.GivingAndTakingControl : Prop :=
  ∀ (s : State) (m : Master) (w ovr : Word) (cause : Nat) (tricks : List Nat) (indet g k : Bool) (n : Nat) (x : Takeover),
    (m.isPair = true → wordField w 8 8 = 0x69 → w.getLsbD 0 = false → w.getLsbD 1 = false → w.getLsbD 2 = true →
      (s.inControl = true → s.cpm.phase = .run → s.cpm.haltOnStop = false → ∃ t, exec (.giveControl m w) s = .next t ∧ t.cpm.haltOnStop = true ∧
        t.fld Reg.RDL_STAT_ROLE = 0 ∧ t.flag Reg.RDL_STAT_GIVE_O = true ∧ t.flag Reg.RDL_STAT_TAKE_O = false ∧
        t.fld Reg.RDL_STAT_OFFCAUSE = (if s.fld Reg.RDL_STAT_ROLE = 2 ∧ s.fld Reg.RDL_STAT_PROLE = 3 then 2 else 5)) ∧
      (s.inControl = false → exec (.giveControl m w) s = .next s)) ∧
    (m.isPair = true → wordField w 8 8 ≠ 0x69 → exec (.giveControl m w) s = .next s ∧ exec (.swapNow m w) s = .next s ∧ exec (.rejoin m w) s = .next s) ∧
    (s.fld Reg.RDL_STAT_ROLE = 3 ∨ s.fld Reg.RDL_STAT_ROLE = 4 → ∃ t, exec (.stopNotice ovr) s = .next t ∧ t.cpm.haltOnStop = true ∧
      t.fld Reg.RDL_STAT_ROLE = 0 ∧ t.fld Reg.RDL_STAT_OFFCAUSE = 5 ∧ t.told 96 ovr.toNat 0) ∧
    (s.inControl = true → exec (.stopNotice ovr) s = .next s) ∧
    (s.flag Reg.RDL_LINK_UP = true → s.fld Reg.RDL_STAT_ROLE = 3 → ∃ t, exec (.giveUp cause tricks indet) s = .next t ∧
      t.rdl.giveNotice = some s.mono ∧ t.cpm.giveIndet = indet ∧ t.regs = s.regs ∧ t.mem = s.mem) ∧
    (s.flag Reg.RDL_LINK_UP = true → s.fld Reg.RDL_STAT_ROLE = 4 → s.cpm.phase = .run → s.cpm.haltOnStop = false →
      ∃ t, exec (.giveUp cause tricks indet) s = .next t ∧ t.cpm.phase = .ready ∧ t.cpm.startCause = .auto) ∧
    (s.flag Reg.RDL_LINK_UP = false → exec (.giveUp cause tricks indet) s = .next s) ∧
    (s.fld Reg.RDL_STAT_ROLE = 3 → s.cpm.phase = .run → s.cpm.haltOnStop = false →
      (s.cpm.giveSeen = true → s.flag Reg.RDL_STAT_GIVE_I = false → ∃ t y, exec (.hoInputAccept .give true) s = .next t ∧
        t.fld Reg.RDL_STAT_ROLE = 2 ∧ t.rdl.take = some y ∧ y.td = s.now ∧ y.immediate = s.rdl.giveNotice.isNone ∧
        (s.rdl.giveNotice = none → y.own = s.now + 130000) ∧ t.told 48 (b2n y.immediate) (y.own % 1000000000) ∧
        t.fld Reg.RDL_JOIN_PHASE = 0 ∧ t.rdl.giveNotice = none) ∧
      (s.rdl.giveNotice = some n → s.cpm.giveIndet = true → ∃ t y, exec .giveUpNoticeTd s = .next t ∧ t.fld Reg.RDL_STAT_ROLE = 2 ∧
        t.rdl.take = some y ∧ y.immediate = false ∧ n + 10000 ≤ t.mono)) ∧
    (s.rdl.giveNotice = none → exec .giveUpNoticeTd s = .next s) ∧
    (s.rdl.take = some x → s.fld Reg.RDL_STAT_ROLE = 2 → ∃ t, exec .takeoverAssertTake s = .next t ∧ t.flag Reg.RDL_STAT_GIVE_O = false ∧
      t.flag Reg.RDL_STAT_TAKE_O = true ∧ t.rdl.take = none ∧ (s.clockRuns → x.own ≤ t.now + 15000) ∧ t.mem = s.mem ∧ (∀ a, a ≠ Reg.RDL_STAT → t.reg a = s.reg a)) ∧
    (s.rdl.take = none → exec .takeoverAssertTake s = .next s) ∧
    (s.fld Reg.RDL_STAT_ROLE = 2 → ∃ t, exec (.hoPulseTest g k) s = .next t ∧ t.rdl.pulseAt = t.mono ∧ s.rdl.pulseAt + 10000000000 ≤ t.mono ∧
      t.fld Reg.RDL_STAT_ROLE = 2 ∧ t.flag Reg.RDL_STAT_HOFAIL = (s.flag Reg.RDL_STAT_HOFAIL || !g || !k) ∧
      (g = false → k = true → t.told 56 0 0) ∧ (k = false → t.told 56 1 0)) ∧
    (s.fld Reg.RDL_STAT_ROLE ≠ 2 → exec (.hoPulseTest g k) s = .next s)

/-- A planned swap (R474 to R476) is proposed where its conditions hold and else put off; the two units fix t_s; the modes are posted at t_s − 1.2 ms,
the old active releases HO_TAKE_O at t_s − 1.05 ms, the roles change at t_s, and the new active asserts HO_TAKE_O at t_s + 20 µs. -/
def Obligations.PlannedSwaps : Prop :=
  ∀ (s : State) (m : Master) (w : Word) (ts r n : Nat),
    (s.fld Reg.RDL_STAT_ROLE = 2 → s.cpm.phase = .run → s.swapUnderWay = false →
      (m.isPair = true → wordField w 8 8 = 0x69 → w.getLsbD 0 = true → w.getLsbD 1 = false → w.getLsbD 2 = false →
        (s.swapReady = true → ∃ t, exec (.swapNow m w) s = .next t ∧ t.rdl.swapAsked = true ∧ t.regs = s.regs ∧
          t.outbox = s.outbox ++ [.rolent (.swapProp (s.t0After (s.now + 100000000)) false)]) ∧
        (s.swapReady = false → ∃ t, exec (.swapNow m w) s = .next t ∧ t.rdl.swapAsked = false ∧ t.rdl.swapTest = some s.mono ∧
          t.fld Reg.RDL_SWAP_PHASE = 5 ∧ t.outbox = s.outbox)) ∧
      (s.swapReady = true → s.rdl.swapTest = some n → ∃ t, exec .plannedSwapDue s = .next t ∧ t.rdl.swapAsked = true ∧ n + 600000000000 ≤ t.mono) ∧
      (s.swapReady = true → s.rdl.swapTest = none → s.fld Reg.RDL_CFG_SWAP_H ≠ 0 →
        s.rdl.swapOp + 3600 * s.fld Reg.RDL_CFG_SWAP_H ≤ s.fld Reg.CPM_OPSEC_OPSEC → ∃ t, exec .plannedSwapDue s = .next t ∧
          t.rdl.swapAsked = true ∧ t.regs = s.regs)) ∧
    (s.rdl.swapTest = none → s.fld Reg.RDL_CFG_SWAP_H = 0 → exec .plannedSwapDue s = .next s) ∧
    (s.flag Reg.RDL_LINK_UP = true → s.inControl = false → s.fld Reg.RDL_SWAP_PHASE ≠ 1 →
      (s.swapAccepts = true → ∃ t, exec (.swapProp ts false) s = .next t ∧ t.rdl.swapAt = some ts ∧ t.rdl.swapFrom = false ∧
        t.fld Reg.RDL_SWAP_PHASE = 1 ∧ t.outbox = s.outbox ++ [.rolent (.swapAck ts true)]) ∧
      (s.swapAccepts = false → ∃ t, exec (.swapProp ts false) s = .next t ∧ t.regs = s.regs ∧ t.outbox = s.outbox ++ [.rolent (.swapAck ts false)])) ∧
    (s.inControl = true → exec (.swapProp ts false) s = .next s) ∧
    (s.rdl.swapAsked = true → s.swapReady = true → ∃ t, exec (.swapAck ts true) s = .next t ∧
      t.rdl.swapAt = some (s.t0After (s.now + 100000000)) ∧ t.rdl.swapFrom = true ∧ t.fld Reg.RDL_SWAP_PHASE = 1) ∧
    (s.rdl.swapAsked = true → ∃ t, exec (.swapAck ts false) s = .next t ∧ t.rdl.swapAsked = false ∧ t.fld Reg.RDL_SWAP_PHASE = 5) ∧
    (s.rdl.swapAt = some ts → s.swapLoading = false → s.now + 1050000 < ts → ∃ t, exec (.swapCancel r) s = .next t ∧ t.rdl.swapAt = none ∧
      t.fld Reg.RDL_SWAP_PHASE = 0 ∧ t.fld Reg.RDL_STAT_ROLE = s.fld Reg.RDL_STAT_ROLE) ∧
    (s.rdl.swapAt = some ts → s.fld Reg.RDL_SWAP_PHASE = 1 → s.now + 1050000 ≤ ts →
      exec .swapGroupModePost s = .next ((s.toTime (ts - 1200000)).postMode (if s.rdl.swapFrom then 1 else 0) (if s.rdl.swapFrom then ts else ts - 1000000))) ∧
    (s.rdl.swapAt = some ts → s.fld Reg.RDL_SWAP_PHASE = 1 → s.now ≤ ts → ∃ t, exec .swapOverlapStart s = .next t ∧ t.fld Reg.RDL_SWAP_PHASE = 2 ∧
      (s.clockRuns → ts ≤ t.now + 1050000) ∧ t.fld Reg.RDL_STAT_ROLE = s.fld Reg.RDL_STAT_ROLE ∧
      (s.rdl.swapFrom = true → t.flag Reg.RDL_STAT_TAKE_O = false ∧ t.flag Reg.RDL_STAT_GIVE_O = false) ∧
      (s.rdl.swapFrom = false → t.flag Reg.RDL_STAT_TAKE_O = s.flag Reg.RDL_STAT_TAKE_O)) ∧
    (s.rdl.swapAt = some ts → s.fld Reg.RDL_SWAP_PHASE = 2 → s.fld Reg.WVE_SWAP_PHASE ≠ 3 → s.now ≤ ts → ∃ t, exec .plannedSwapInstant s = .next t ∧
      (s.clockRuns → ts ≤ t.now) ∧ (s.rdl.swapFrom = true → t.fld Reg.RDL_STAT_ROLE = 3 ∧ t.flag Reg.RDL_STAT_GIVE_O = true ∧
        t.flag Reg.RDL_STAT_TAKE_O = false ∧ t.fld Reg.RDL_STAT_PROLE = 2) ∧
      (s.rdl.swapFrom = false → t.fld Reg.RDL_STAT_ROLE = 2 ∧ t.fld Reg.RDL_STAT_PROLE = 3)) ∧
    (s.rdl.swapAt = some ts → s.fld Reg.RDL_SWAP_PHASE = 2 → ts ≤ s.now → ∃ t, exec .swapAssertTake s = .next t ∧ t.rdl.swapAt = none ∧
      t.fld Reg.RDL_SWAP_PHASE = 3 ∧ t.rdl.swapOp = s.fld Reg.CPM_OPSEC_OPSEC ∧ (s.clockRuns → ts + 20000 ≤ t.now) ∧
      (s.rdl.swapFrom = false → t.flag Reg.RDL_STAT_TAKE_O = true ∧ t.flag Reg.RDL_STAT_GIVE_O = false)) ∧
    (s.rdl.swapAt = none → exec .swapGroupModePost s = .next s ∧ exec .swapOverlapStart s = .next s ∧ exec .plannedSwapInstant s = .next s ∧
      exec .swapAssertTake s = .next s ∧ exec .swapLoadInstant s = .next s)

/-- A swap-load (R178 to R180): the standby is PREPARED with the new image beside the running one; at t_s control passes and the carry begins, ending with the
new image released; the unit that gave control becomes OFF and joins. -/
def Obligations.SwapLoads : Prop :=
  ∀ (s : State) (i old : Image) (ts e : Nat),
    (s.imgAlt = some i → s.fld Reg.RDL_STAT_ROLE = 3 → s.fld Reg.WVE_SWAP_PHASE = 1 → ∃ t, exec .swapPrepared s = .next t ∧
      t.fld Reg.WVE_SWAP_PHASE = 2 ∧ t.fld Reg.WVE_ROUTES_COUNT_ALT = i.routes.length % 2 ^ Reg.WVE_ROUTES_COUNT_ALT.width ∧
      t.flag Reg.WVE_SWAP_NEEDCONF = (decide (i.safeChk ≠ s.safeChk) && !s.confirmed i.safeChk) ∧ t.told 18 (t.reg Reg.WVE_SWAP).toNat 0 ∧
      t.img = s.img ∧ t.mem = s.mem) ∧
    ((s.imgAlt = none ∨ s.fld Reg.RDL_STAT_ROLE ≠ 3 ∨ s.fld Reg.WVE_SWAP_PHASE ≠ 1) → exec .swapPrepared s = .next s) ∧
    (s.flag Reg.RDL_LINK_UP = true → s.fld Reg.RDL_STAT_ROLE = 3 → s.fld Reg.WVE_SWAP_PHASE = 2 → s.flag Reg.WVE_SWAP_NEEDCONF = false →
      ∃ t, exec (.swapProp ts true) s = .next t ∧ t.rdl.swapAt = some ts ∧ t.fld Reg.WVE_SWAP_PHASE = 3 ∧
        t.reg Reg.WVE_SWAPT_NS = BitVec.ofNat 32 (ts % 1000000000) ∧ t.outbox = s.outbox ++ [.rolent (.swapAck ts true)]) ∧
    (s.rdl.swapAt = some ts → s.fld Reg.RDL_SWAP_PHASE = 2 → s.fld Reg.WVE_SWAP_PHASE = 3 → s.now ≤ ts →
      (s.rdl.swapFrom = true → ∃ t, exec .swapLoadInstant s = .next t ∧ t.fld Reg.RDL_STAT_ROLE = 3 ∧ t.fld Reg.RDL_STAT_PROLE = 2 ∧
        t.rdl.carryEnd = some (ts + 50000) ∧ t.flag Reg.LPE_STAT_RUN = false ∧ (s.clockRuns → ts ≤ t.now)) ∧
      (s.rdl.swapFrom = false → s.imgAlt = some i → ∃ t, exec .swapLoadInstant s = .next t ∧ t.fld Reg.RDL_STAT_ROLE = 2 ∧
        t.fld Reg.RDL_STAT_PROLE = 3 ∧ t.rdl.carryEnd = some (ts + carryTime i) ∧ t.flag Reg.LPE_STAT_RUN = false ∧ t.img = s.img ∧ (s.clockRuns → ts ≤ t.now))) ∧
    (s.rdl.carryEnd = some e → s.rdl.repair = [] → (∀ k ∈ s.tasks, k.latching = false ∧ k.executing = false) →
      (s.imgAlt = some i → s.img = some old → s.fld Reg.RDL_STAT_ROLE = 2 → ∃ t, exec .carryComplete s = .next t ∧ t.fld Reg.WVE_SWAP_PHASE = 4 ∧
        t.imgAlt = none ∧ t.rdl.carryEnd = none ∧ (s.clockRuns → e ≤ t.now)) ∧
      (s.imgAlt = none → ∃ t, exec .carryComplete s = .next t ∧ t.rdl.carryEnd = none ∧ t.fld Reg.RDL_STAT_ROLE = 0 ∧
        t.fld Reg.WVE_SWAP_PHASE = 4 ∧ (s.clockRuns → e ≤ t.now))) ∧
    (s.rdl.carryEnd = none → exec .carryComplete s = .next s) ∧
    ((∃ k ∈ s.tasks, k.latching = true ∨ k.executing = true) → exec .carryComplete s = .next s)

/-! ### The station access protocol (04), image loads, change sets (06) -/

/-- Sessions (R115 to R119): HELLO is challenged, a right proof opens one of four sessions and a wrong one is answered AUTH_FAIL; STATUS, READ and WRITE answer their
request; CONFIRM opens the window of 30 s (R366); a blank key slot can be programmed and an active one that is not the last revoked (R107); CLOSE
or 30 s without a valid frame end the session. A frame with a wrong MAC only counts. -/
def Obligations.AccessSessions : Prop :=
  ∀ (s : State) (port : Fin 3) (ip sid : Nat) (f : List Byte) (c : Challenge) (x : Session) (a size n : Nat),
    let p := kBody f
    (s.kServes port = true → kFrame f = true → kType f = 0x01 → kLenOk f = true → kLen f = 18 → s.helloIgnored ip = false → u8 p 16 < 4 →
      (s.otpActive 1 (u8 p 16) = true → ∃ t d out, exec (.hello port ip f) s = .next t ∧ t.ksap.challenges = s.ksap.challenges ++ [d] ∧
        d.ip = ip ∧ d.key = s.bytes (otpSlot 1 (u8 p 16)) 32 ∧ d.boot = false ∧ d.at_ = s.mono ∧ t.outbox = s.outbox ++ [.ksap ip out] ∧ t.regs = s.regs) ∧
      (s.otpActive 1 (u8 p 16) = false → ∃ t, exec (.hello port ip f) s = .next t ∧ t.ksap.challenges = s.ksap.challenges ∧ t.told 12 0 0)) ∧
    (s.kServes port = false → exec (.hello port ip f) s = .next s ∧ exec (.auth port ip f) s = .next s) ∧
    (s.kServes port = true → kFrame f = true → kType f = 0x03 → s.ksap.challenges.find? (fun d => decide (d.sid = kSid f)) = some c →
      kLenOk f = true → kLen f = 32 →
      (s.authOk c f = true → s.ksap.sessions.length < 4 → ∃ t y, exec (.auth port ip f) s = .next t ∧ t.ksap.sessions = s.ksap.sessions ++ [y] ∧
        y.sid = c.sid ∧ y.write = (c.write && !s.writeHeld) ∧ y.replies = [] ∧ t.told 10 0 0) ∧
      (s.authOk c f = false → ∃ t, exec (.auth port ip f) s = .next t ∧ t.ksap.sessions = s.ksap.sessions ∧ t.told 12 0 0)) ∧
    (s.asks port f 0x20 x → p = [] → ∃ t, exec (.statusReq port ip f) s = .next t ∧ t.replied ip x f 0x20 s.statusReply ∧ t.regs = s.regs ∧
      t.mem = s.mem) ∧
    (s.asks port f 0x10 x → p.length = 8 → kRange p = some (a, size, n) → s.portCheck a (n * size) size false = none →
      (∀ i, i < n → isWindow (a + i * size) = false) → ∃ t, exec (.readMem port ip f .clean 0) s = .next t ∧ t.regs = s.regs ∧ t.mem = s.mem ∧
        t.replied ip x f 0x11 (p ++ (List.range (n * size)).map (fun i => s.busByte (a + i)))) ∧
    (s.asks port f 0x12 x → x.write = true → kRange p = some (a, size, n) → p.length = 8 + n * size →
      s.portCheck a (n * size) size true = none → (∀ i, i < n → isWindow (a + i * size) = false) →
      ∃ t, exec (.writeMem port ip f .clean 0) s = .next t ∧ t.replied ip x f 0x13 (p.take 8) ∧ t.regs = s.regs ∧
        t.bytes a (n * size) = p.drop 8 ∧ (∀ y, (y < a ∨ a + n * size ≤ y) → t.byte y = s.byte y)) ∧
    (s.asks port f 0x50 x → x.write = true → p.length = 4 → s.confMatches (beNat p) = true → s.confirmed (beNat p) = false →
      s.saf.window = none → s.bootWaits = false → ∃ t, exec (.confirmReq port ip f) s = .next t ∧
        t.saf.window = some (beNat p, s.mono + 30000000000) ∧ t.told 165 (beNat p) 0 ∧ t.mem = s.mem) ∧
    (s.asks port f 0x60 x → x.write = true → p.length = 36 → u8 p 0 < 2 → u8 p 1 < 4 →
      (u8 p 2 = 0 → (u8 p 0 = 0 → s.inHalt = true) → s.otpState (u8 p 0) (u8 p 1) = 0 → ∃ t, exec (.otpProgram port ip f) s = .next t ∧
        t.otpActive (u8 p 0) (u8 p 1) = true ∧ t.replied ip x f 0x60 []) ∧
      (u8 p 2 = 1 → s.otpActive (u8 p 0) (u8 p 1) = true → s.activeSlots (u8 p 0) ≠ [u8 p 1] → ∃ t, exec (.otpRevoke port ip f) s = .next t ∧
        t.otpActive (u8 p 0) (u8 p 1) = false ∧ t.replied ip x f 0x60 []) ∧
      (u8 p 2 = 1 → s.activeSlots (u8 p 0) = [u8 p 1] → ∃ t, exec (.otpRevoke port ip f) s = .next t ∧ t.mem = s.mem ∧
        t.replied ip x f 0x7F (kError 0x000B 0x60 0))) ∧
    (s.asks port f 0x7E x → p = [] → s.swapLoading = false → ∃ t, exec (.closeSession port ip f) s = .next t ∧
      (∀ y ∈ t.ksap.sessions, y.sid ≠ x.sid) ∧ t.outbox = s.outbox ∧ t.told 11 0 0) ∧
    (s.ksap.sessions.find? (fun y => decide (y.sid = sid)) = some x → s.swapLoading = false → ∃ t, exec (.ksapSessionTimeout sid) s = .next t ∧
      (∀ y ∈ t.ksap.sessions, y.sid ≠ sid) ∧ x.validAt + 30000000000 ≤ t.mono ∧ t.told 11 0 0) ∧
    (s.ksap.sessions.find? (fun y => decide (y.sid = sid)) = none → exec (.ksapSessionTimeout sid) s = .next s) ∧
    (s.kServes port = true → kFrame f = true → kType f = 0x20 → s.ksap.sessions.find? (fun y => decide (y.sid = kSid f)) = some x →
      f.drop (f.length - 32) ≠ hmac x.key (f.take (f.length - 32)) → x.macFails + 1 < 16 → ∃ t, exec (.statusReq port ip f) s = .next t ∧
        t.outbox = s.outbox ∧ t.regs = s.regs ∧ t.mem = s.mem)

/-- Image loads (R159 to R161), change sets (R173 to R177) and the swap commands (R178, R182) over a session with write rights: IMAGE_BEGIN marks the store invalid, IMAGE_DATA writes its
block, IMAGE_END checks the whole and either rejects it or makes it CHECKED; a change set is journalled and queued or refused with its reason; CHANGE OP 2 fixes t_s, OP 3 ends a
swap-load. -/
def Obligations.LoadsAndChanges : Prop :=
  ∀ (s : State) (port : Fin 3) (ip : Nat) (f : List Byte) (x : Session) (l : ImageLoad) (v : Nat × Nat) (code phase : Nat),
    let p := kBody f
    let off := beNat (slice p 0 4)
    let ts := s.t0After (s.now + 100000000)
    x.write = true →
    (s.asks port f 0x30 x → p.length = 4 → s.load = none → s.swapLoading = false →
      (s.mayLoad = true → ∃ t m, exec (.imageBegin port ip f) s = .next t ∧ t.load = some m ∧ m.total = beNat p ∧ m.sid = x.sid ∧ m.blocks = [] ∧
        t.bytes 0x20000000 8 = List.replicate 8 0 ∧ t.replied ip x f 0x30 [] ∧ t.regs = s.regs) ∧
      (s.mayLoad = false → ∃ t, exec (.imageBegin port ip f) s = .next t ∧ t.load = none ∧ t.mem = s.mem ∧
        t.replied ip x f 0x7F (kError 0x0005 0x30 0))) ∧
    (s.asks port f 0x31 x → s.load = some l → l.sid = x.sid → 8 ≤ p.length → p.length = 8 + beNat (slice p 4 2) →
      blockOk l.total off (beNat (slice p 4 2)) = true → 0 < off → off + beNat (slice p 4 2) ≤ 6000000 →
      ∃ t m, exec (.imageData port ip f) s = .next t ∧ t.load = some m ∧ off ∈ m.blocks ∧ m.total = l.total ∧
        t.bytes (0x20000000 + off) (beNat (slice p 4 2)) = p.drop 8 ∧ t.replied ip x f 0x31 [] ∧ t.regs = s.regs) ∧
    (s.asks port f 0x32 x → p = [] → s.load = some l → l.sid = x.sid → s.inHalt = true →
      (s.allChecks (s.loadBytes l) l.total l.blocks false = some v → ∃ t, exec (.imageEnd port ip f none) s = .next t ∧ t.load = none ∧
        t.told 15 (v.1 + 65536 * v.2) 0 ∧ t.mem = s.mem ∧ t.replied ip x f 0x7F (kError 0x000A 0x32 (v.1 + 65536 * v.2))) ∧
      (s.allChecks (s.loadBytes l) l.total l.blocks false = none → l.head.length = 8 → ∃ t, exec (.imageEnd port ip f none) s = .next t ∧
        t.load = none ∧ t.fld Reg.WVE_STAT_IMG = 1 ∧ t.bytes 0x20000000 8 = l.head ∧ t.told 14 (imageOf (s.loadBytes l)).build 0 ∧
        t.replied ip x f 0x32 [])) ∧
    (s.asks port f 0x40 x → changeOk p = true → u8 p 0 = 1 →
      (s.setRefused (beNat (slice p 8 4)) (u8 p 1) (setRecs (p.drop 12) (u8 p 2)) = none → ∃ t, exec (.changeSet port ip f) s = .next t ∧
        t.changes = s.changes ++ [⟨u8 p 1, beNat (slice p 4 4), setRecs (p.drop 12) (u8 p 2), s.now⟩] ∧ t.tasks = s.tasks ∧ t.g = s.g ∧
        t.replied ip x f 0x40 []) ∧
      (s.setRefused (beNat (slice p 8 4)) (u8 p 1) (setRecs (p.drop 12) (u8 p 2)) = some code → ∃ t, exec (.changeSet port ip f) s = .next t ∧
        t.changes = s.changes ∧ t.told 17 code (beNat (slice p 4 4)) ∧ t.replied ip x f 0x7F (kError 0x000A 0x40 code) ∧ t.mem = s.mem)) ∧
    (s.asks port f 0x40 x → changeOk p = true → u8 p 0 = 2 → s.swapReqRefused (beNat (slice p 8 4)) phase false = none →
      ∃ t, exec (.changeSwapRequest port ip f phase false) s = .next t ∧ t.rdl.swapAt = some ts ∧ t.rdl.swapFrom = true ∧
        t.fld Reg.WVE_SWAP_PHASE = 3 ∧ t.fld Reg.RDL_SWAP_PHASE = 1 ∧ .rolent (.swapProp ts true) ∈ t.outbox ∧ t.replied ip x f 0x40 []) ∧
    (s.asks port f 0x40 x → changeOk p = true → u8 p 0 = 3 → s.fld Reg.RDL_STAT_ROLE = 2 → s.cpm.phase = .run → s.rdl.swapAt = none →
      s.flag Reg.RDL_LINK_UP = true → ∃ t, exec (.changeSwapCancel port ip f) s = .next t ∧ .rolent (.swapCancel 0) ∈ t.outbox ∧
        t.rdl.swapAt = none ∧ t.replied ip x f 0x40 []) ∧
    (s.asks port f 0x40 x → changeOk p = true → u8 p 0 = 3 → s.fld Reg.RDL_STAT_ROLE ≠ 2 → s.fld Reg.RDL_STAT_ROLE ≠ 3 →
      ∃ t, exec (.changeSwapCancel port ip f) s = .next t ∧ t.regs = s.regs ∧ t.mem = s.mem ∧ t.replied ip x f 0x7F (kError 0x0005 0x40 0))

/-! ### The block as a whole -/

/-- A step runs the command at the front of the queue with the queue's rest; on an empty queue one cycle of the time base passes (the model's choice, assumption 1): 10 ns of
elapsed time, and the addend on the time counter while the time base is locked. No word spells a command, since the table gives no row bits. -/
def Obligations.FrontCommand : Prop :=
  ∀ (s : State) (c : Instr) (rest : List Instr) (n w : Nat),
    (s.pending = c :: rest → step s = exec c { s with pending := rest }) ∧
    (s.pending = [] → ∃ t, step s = .next t ∧ t.mono = s.mono + 10 ∧ t.pending = [] ∧ t.regs = s.regs ∧ t.mem = s.mem ∧
      (s.flag Reg.CPM_STAT_TB_LOCK = true → 2 ^ 28 * t.now + t.frac = 2 ^ 28 * s.now + s.frac + s.fld Reg.PTP_ADDEND_ADDEND)) ∧
    decodeTableWord n w = none ∧ s.withFetchWord n w = s

/-- What reset leaves: nothing queued or sent, OFF with the unit in HALT and role OFF, the dividers of R95, every route of R126 to no pair and disabled, the nominal addend of
R431; memory and registers in canonical form with nothing listed. -/
def Obligations.ResetState : Prop :=
  (∀ n : Fin 256, State.reset.fld (Reg.EVT_ROUTE_TARGET n) = 3 ∧ State.reset.flag (Reg.EVT_ROUTE_EN n) = false ∧ State.reset.fld (Reg.EVT_CNT_COUNT n) = 0) ∧
  State.reset.fld Reg.CPM_STAT_PSTATE = 2 ∧ State.reset.fld Reg.CPM_CLKDIV_CORE_DIV = 5 ∧ State.reset.fld Reg.CPM_CLKDIV_FAB_DIV = 10 ∧
  State.reset.fld Reg.CPM_CLKDIV_CAN_DIV = 50 ∧ State.reset.fld Reg.CPM_CLKDIV_ETH_DIV = 32 ∧ State.reset.fld Reg.CPM_PSCFG_WAKE_LEAD = 60 ∧
  State.reset.fld Reg.QUE_AGE_LIMIT_LIMIT = 256 ∧ State.reset.fld Reg.PTP_ADDEND_ADDEND = 0xA0000000 ∧ State.reset.fld Reg.RDL_STAT_ROLE = 0 ∧
  State.reset.cpm.phase = .off ∧ State.reset.pending = [] ∧ State.reset.outbox = [] ∧ State.reset.img = none ∧
  Sparse.wf memDefault State.reset.mem = true ∧ Sparse.wf regReset State.reset.regs = true ∧ State.reset.sized

/-- Every step that goes on keeps the canonical form of memory and registers and the machine's fixed numbers of tasks, views, CAN ports, channels and groups; elapsed time never
goes back, nothing sent is taken back, and the queue loses its front command and nothing else. -/
def Obligations.StepKeepsTheMachine : Prop :=
  ∀ s t : State, step s = .next t →
    Sparse.wf memDefault s.mem = true → Sparse.wf regReset s.regs = true → s.sized →
    Sparse.wf memDefault t.mem = true ∧ Sparse.wf regReset t.regs = true ∧ t.sized ∧ s.mono ≤ t.mono ∧ s.outbox <+: t.outbox ∧
      t.pending = s.pending.tail

/-- Frames: a call word of block code changes nothing but its own task (R222); a command of the field side leaves the registers, memory, tasks and every other part of the
host side as they are (R298); and only the commands listed in `mayStore` change memory at all. -/
def Obligations.WhatCommandsLeaveAlone : Prop :=
  ∀ (i : Instr) (s t : State) (c : Fin 9), exec i s = .next t →
    (i.callOf = some c → t = { s with tasks := t.tasks } ∧ t.tasks.length = s.tasks.length ∧ ∀ d, d ≠ c.val → t.task d = s.task d) ∧
    (i.onField = true → t.regs = s.regs ∧ t.mem = s.mem ∧ t.tasks = s.tasks ∧ t.pending = s.pending ∧
      t = { s with field := t.field, toField := t.toField, toHost := t.toHost, outbox := t.outbox, mbx := t.mbx, now := t.now, frac := t.frac, mono := t.mono }) ∧
    (i.mayStore = false → ∀ a, t.byte a = s.byte a)
end

