-- ==== Sys2Proof/Laws/Sparse.lean ====
section
/-! SUPPORT. The laws of sparse stores: a read after a write, and that every operation keeps the canonical form. -/

/- One thread: elaborating these many small proofs side by side can exceed the memory that check.sh allows. -/
set_option Elab.async false

namespace Sys2Proof.Laws
open Sys2Proof.Machine

variable {α : Type}

/-- Lists in canonical form above `lo` list only keys above `lo`. -/
theorem Sparse.wfFrom_mono [DecidableEq α] {d : Nat → α} {l : List (Nat × α)} : ∀ {lo lo' : Option Nat},
    (∀ b, lo' = some b → ∃ a, lo = some a ∧ b ≤ a) → Sparse.wfFrom d lo l = true → Sparse.wfFrom d lo' l = true := by
  cases l with
  | nil => intros; rfl
  | cons p l =>
    intro lo lo' h hw
    simp only [Sparse.wfFrom, Bool.and_eq_true] at hw ⊢
    refine ⟨⟨?_, hw.1.2⟩, hw.2⟩
    cases lo' with
    | none => rfl
    | some b =>
      obtain ⟨a, rfl, hba⟩ := h b rfl
      have := hw.1.1
      simp only [decide_eq_true_eq] at this ⊢
      omega

theorem Sparse.wfFrom_none [DecidableEq α] {d : Nat → α} {l : List (Nat × α)} {lo : Option Nat} (h : Sparse.wfFrom d lo l = true) :
    Sparse.wfFrom d none l = true := Sparse.wfFrom_mono (fun _ h => by cases h) h

/-- Filtering keeps the canonical form. -/
theorem Sparse.wfFrom_filter [DecidableEq α] {d : Nat → α} {p : Nat × α → Bool} : ∀ {l : List (Nat × α)} {lo : Option Nat},
    Sparse.wfFrom d lo l = true → Sparse.wfFrom d lo (l.filter p) = true
  | [], _, h => h
  | q :: l, lo, h => by
    simp only [Sparse.wfFrom, Bool.and_eq_true] at h
    rw [List.filter_cons]
    split
    · simp only [Sparse.wfFrom, Bool.and_eq_true]
      exact ⟨h.1, Sparse.wfFrom_filter h.2⟩
    · refine Sparse.wfFrom_mono ?_ (Sparse.wfFrom_filter h.2)
      intro b hb
      subst hb
      have := h.1.1
      simp only [decide_eq_true_eq] at this
      exact ⟨q.1, rfl, by omega⟩

theorem Sparse.drop_eq_filter : ∀ (l : List (Nat × α)) (k : Nat), Sparse.drop l k = l.filter (fun p => decide (p.1 ≠ k))
  | [], _ => rfl
  | (a, v) :: l, k => by
    simp only [Sparse.drop, List.filter_cons, Sparse.drop_eq_filter l k]
    by_cases h : a = k <;> simp [h]

/-- Putting a new non-default entry keeps the canonical form. -/
theorem Sparse.wfFrom_put [DecidableEq α] {d : Nat → α} {k : Nat} {v : α} (hv : v ≠ d k) : ∀ {l : List (Nat × α)} {lo : Option Nat},
    Sparse.wfFrom d lo l = true → (∀ p ∈ l, p.1 ≠ k) → (∀ b, lo = some b → b < k) → Sparse.wfFrom d lo (Sparse.put l k v) = true
  | [], lo, _, _, hl => by
    cases lo with
    | none => simp [Sparse.put, Sparse.wfFrom, hv]
    | some b => simp [Sparse.put, Sparse.wfFrom, hv, hl b rfl]
  | (a, x) :: l, lo, h, hn, hl => by
    simp only [Sparse.wfFrom, Bool.and_eq_true] at h
    have hne : a ≠ k := hn (a, x) (List.mem_cons_self ..)
    unfold Sparse.put
    split
    · rename_i hka
      simp only [Sparse.wfFrom, Bool.and_eq_true]
      refine ⟨⟨?_, decide_eq_true hv⟩, ⟨decide_eq_true hka, h.1.2⟩, h.2⟩
      cases lo with
      | none => rfl
      | some b => exact decide_eq_true (hl b rfl)
    · rename_i hka
      simp only [Sparse.wfFrom, Bool.and_eq_true]
      refine ⟨h.1, Sparse.wfFrom_put hv h.2 (fun p hp => hn p (List.mem_cons_of_mem _ hp)) ?_⟩
      intro b hb
      cases hb
      omega

/-- A write keeps the canonical form. -/
theorem Sparse.wf_set [DecidableEq α] (d : Nat → α) (l : List (Nat × α)) (k : Nat) (v : α) (h : Sparse.wf d l = true) : Sparse.wf d (Sparse.set d l k v) = true := by
  unfold Sparse.wf at h ⊢
  unfold Sparse.set
  rw [Sparse.drop_eq_filter]
  split
  · exact Sparse.wfFrom_filter h
  · refine Sparse.wfFrom_put ‹_› (Sparse.wfFrom_filter h) ?_ (fun b hb => by cases hb)
    intro p hp
    simpa using (List.mem_filter.mp hp).2

theorem Sparse.wf_setMany [DecidableEq α] (d : Nat → α) : ∀ (l : List (Nat × α)) (k : Nat) (vs : List α), Sparse.wf d l = true →
    Sparse.wf d (Sparse.setMany d l k vs) = true
  | _, _, [], h => h
  | l, k, v :: vs, h => Sparse.wf_setMany d _ (k + 1) vs (Sparse.wf_set d l k v h)

theorem Sparse.wf_filter [DecidableEq α] (d : Nat → α) (l : List (Nat × α)) (p : Nat × α → Bool) (h : Sparse.wf d l = true) : Sparse.wf d (l.filter p) = true :=
  Sparse.wfFrom_filter h

/-! ### Reads -/

theorem Sparse.get_drop_same (d : Nat → α) : ∀ (l : List (Nat × α)) (k : Nat), Sparse.get d (Sparse.drop l k) k = d k
  | [], _ => rfl
  | (a, v) :: l, k => by
    unfold Sparse.drop
    split
    · exact Sparse.get_drop_same d l k
    · rename_i h
      simp only [Sparse.get, h, if_false]
      exact Sparse.get_drop_same d l k

theorem Sparse.get_drop_ne (d : Nat → α) {j k : Nat} (hj : j ≠ k) : ∀ (l : List (Nat × α)), Sparse.get d (Sparse.drop l k) j = Sparse.get d l j
  | [] => rfl
  | (a, v) :: l => by
    unfold Sparse.drop
    split
    · rename_i h
      have : a ≠ j := by omega
      simp only [Sparse.get, this, if_false]
      exact Sparse.get_drop_ne d hj l
    · simp only [Sparse.get, Sparse.get_drop_ne d hj l]

theorem Sparse.get_put_same (d : Nat → α) (k : Nat) (v : α) : ∀ (l : List (Nat × α)), (∀ p ∈ l, p.1 ≠ k) → Sparse.get d (Sparse.put l k v) k = v
  | [], _ => by simp [Sparse.put, Sparse.get]
  | (a, x) :: l, hn => by
    have hne : a ≠ k := hn (a, x) (List.mem_cons_self ..)
    unfold Sparse.put
    split
    · simp [Sparse.get]
    · simp only [Sparse.get, hne, if_false]
      exact Sparse.get_put_same d k v l (fun p hp => hn p (List.mem_cons_of_mem _ hp))

theorem Sparse.get_put_ne (d : Nat → α) {j k : Nat} (hj : j ≠ k) (v : α) : ∀ (l : List (Nat × α)),
    Sparse.get d (Sparse.put l k v) j = Sparse.get d l j
  | [] => by simp [Sparse.put, Sparse.get, Ne.symm hj]
  | (a, x) :: l => by
    unfold Sparse.put
    split
    · simp only [Sparse.get, Ne.symm hj, if_false]
    · simp only [Sparse.get, Sparse.get_put_ne d hj v l]

/-- A read after a write to the same key. -/
@[simp] theorem Sparse.get_set_same [DecidableEq α] (d : Nat → α) (l : List (Nat × α)) (k : Nat) (v : α) : Sparse.get d (Sparse.set d l k v) k = v := by
  unfold Sparse.set
  split
  · rename_i h
    rw [Sparse.get_drop_same, h]
  · refine Sparse.get_put_same d k v _ ?_
    rw [Sparse.drop_eq_filter]
    intro p hp
    simpa using (List.mem_filter.mp hp).2

/-- A read after a write to another key. -/
theorem Sparse.get_set_ne [DecidableEq α] (d : Nat → α) (l : List (Nat × α)) {j k : Nat} (v : α) (hj : j ≠ k) :
    Sparse.get d (Sparse.set d l k v) j = Sparse.get d l j := by
  unfold Sparse.set
  split
  · exact Sparse.get_drop_ne d hj l
  · rw [Sparse.get_put_ne d hj, Sparse.get_drop_ne d hj]

/-- A read outside a run of written keys. -/
theorem Sparse.get_setMany_out [DecidableEq α] (d : Nat → α) : ∀ (vs : List α) (l : List (Nat × α)) {j k : Nat}, j < k ∨ k + vs.length ≤ j →
    Sparse.get d (Sparse.setMany d l k vs) j = Sparse.get d l j
  | [], _, _, _, _ => rfl
  | v :: vs, l, j, k, h => by
    simp only [List.length_cons] at h
    unfold Sparse.setMany
    rw [Sparse.get_setMany_out d vs _ (by omega), Sparse.get_set_ne d l v (by omega)]

/-- A read inside a run of written keys. -/
theorem Sparse.get_setMany_in [DecidableEq α] (d : Nat → α) : ∀ (vs : List α) (l : List (Nat × α)) (k i : Nat) (h : i < vs.length),
    Sparse.get d (Sparse.setMany d l k vs) (k + i) = vs[i]
  | v :: vs, l, k, 0, _ => by
    unfold Sparse.setMany
    show Sparse.get d (Sparse.setMany d _ (k + 1) vs) k = v
    rw [Sparse.get_setMany_out d vs _ (by omega), Sparse.get_set_same]
  | v :: vs, l, k, i + 1, h => by
    unfold Sparse.setMany
    have := Sparse.get_setMany_in d vs (Sparse.set d l k v) (k + 1) i (by simpa using h)
    rw [show k + (i + 1) = k + 1 + i by omega, this]
    rfl

end Sys2Proof.Laws
end

