-- ==== Sys2Proof/Laws/Within.lean ====
section
/-! SUPPORT. What an operation can do to the state, said once: `Within k s t` says that `t` differs from `s` only in the parts that the mask `k`
names, that both sparse stores keep their canonical form, and that elapsed time, what has been sent and the free values drawn only grow. -/

/- One thread: elaborating these many small proofs side by side can exceed the memory that check.sh allows. -/
set_option Elab.async false

namespace Sys2Proof.Laws
open Sys2Proof.Machine

/-- The state with the parts of a mask (bit `i` names the `i`-th part) put back to their reset values; the queue of waiting commands is never named. -/
def blank (k : Nat) (s : State) : State :=
  { regs := if k.testBit 0 then State.reset.regs else s.regs,
    mem := if k.testBit 1 then State.reset.mem else s.mem,
    latches := if k.testBit 2 then State.reset.latches else s.latches,
    now := if k.testBit 3 then State.reset.now else s.now,
    frac := if k.testBit 4 then State.reset.frac else s.frac,
    mono := if k.testBit 5 then State.reset.mono else s.mono,
    rdata := if k.testBit 6 then State.reset.rdata else s.rdata,
    busErr := if k.testBit 7 then State.reset.busErr else s.busErr,
    cpm := if k.testBit 8 then State.reset.cpm else s.cpm,
    pnl := if k.testBit 9 then State.reset.pnl else s.pnl,
    evr := if k.testBit 10 then State.reset.evr else s.evr,
    que := if k.testBit 11 then State.reset.que else s.que,
    mbx := if k.testBit 12 then State.reset.mbx else s.mbx,
    locks := if k.testBit 13 then State.reset.locks else s.locks,
    img := if k.testBit 14 then State.reset.img else s.img,
    imgAlt := if k.testBit 15 then State.reset.imgAlt else s.imgAlt,
    load := if k.testBit 16 then State.reset.load else s.load,
    g := if k.testBit 17 then State.reset.g else s.g,
    changes := if k.testBit 18 then State.reset.changes else s.changes,
    routeLast := if k.testBit 19 then State.reset.routeLast else s.routeLast,
    tasks := if k.testBit 20 then State.reset.tasks else s.tasks,
    views := if k.testBit 21 then State.reset.views else s.views,
    can := if k.testBit 22 then State.reset.can else s.can,
    rim := if k.testBit 23 then State.reset.rim else s.rim,
    field := if k.testBit 24 then State.reset.field else s.field,
    trim := if k.testBit 25 then State.reset.trim else s.trim,
    saf := if k.testBit 26 then State.reset.saf else s.saf,
    stns := if k.testBit 27 then State.reset.stns else s.stns,
    escs := if k.testBit 28 then State.reset.escs else s.escs,
    loops := if k.testBit 29 then State.reset.loops else s.loops,
    rdl := if k.testBit 30 then State.reset.rdl else s.rdl,
    net := if k.testBit 31 then State.reset.net else s.net,
    ptp := if k.testBit 32 then State.reset.ptp else s.ptp,
    hdp := if k.testBit 33 then State.reset.hdp else s.hdp,
    ksap := if k.testBit 34 then State.reset.ksap else s.ksap,
    toField := if k.testBit 35 then State.reset.toField else s.toField,
    toHost := if k.testBit 36 then State.reset.toHost else s.toHost,
    outbox := if k.testBit 37 then State.reset.outbox else s.outbox,
    freeCtr := if k.testBit 38 then State.reset.freeCtr else s.freeCtr,
    pending := s.pending }

/-- What a command or an operation may have done between `s` and `t`. -/
structure Within (k : Nat) (s t : State) : Prop where
  same : blank k s = blank k t
  mem : Sparse.wf memDefault s.mem = true → Sparse.wf memDefault t.mem = true
  regs : Sparse.wf regReset s.regs = true → Sparse.wf regReset t.regs = true
  mono : s.mono ≤ t.mono
  outbox : s.outbox <+: t.outbox
  freeCtr : s.freeCtr ≤ t.freeCtr
  sized : s.sized → t.sized

theorem Within.refl {k : Nat} {s : State} : Within k s s := ⟨rfl, id, id, Nat.le_refl _, List.prefix_refl _, Nat.le_refl _, id⟩

theorem Within.trans {k : Nat} {s t u : State} (h : Within k s t) (g : Within k t u) : Within k s u :=
  ⟨h.same.trans g.same, fun x => g.mem (h.mem x), fun x => g.regs (h.regs x), Nat.le_trans h.mono g.mono, h.outbox.trans g.outbox,
   Nat.le_trans h.freeCtr g.freeCtr, fun x => g.sized (h.sized x)⟩

theorem sub_trans {a b k : Nat} (h : a &&& b = a) (g : b &&& k = b) : a &&& k = a := by
  rw [← h, Nat.land_assoc, g]

theorem sub_bit {a k i : Nat} (h : a &&& k = a) (g : a.testBit i = true) : k.testBit i = true := by
  have := congrArg (fun n => n.testBit i) h
  simp only [Nat.testBit_land, g, Bool.true_and] at this
  exact this

/-- Blanking is coarser for a larger mask. -/
theorem blank_blank {a k : Nat} (h : a &&& k = a) (s : State) : blank k (blank a s) = blank k s := by
  have key : ∀ {α : Type} (i : Nat) (x y : α),
      (if k.testBit i = true then x else if a.testBit i = true then x else y) = if k.testBit i = true then x else y := by
    intro α i x y
    by_cases hk : k.testBit i = true
    · rw [if_pos hk, if_pos hk]
    · have : ¬ a.testBit i = true := fun g => hk (sub_bit h g)
      rw [if_neg hk, if_neg this, if_neg hk]
  unfold blank
  simp only [key]

theorem Within.mono_mask {a k : Nat} {s t : State} (hk : a &&& k = a) (h : Within a s t) : Within k s t :=
  ⟨by rw [← blank_blank hk s, ← blank_blank hk t, h.same], h.mem, h.regs, h.mono, h.outbox, h.freeCtr, h.sized⟩

theorem Within.prim {a k : Nat} {s t u : State} (hk : a &&& k = a) (h : Within k s t) (w : Within a t u) : Within k s u :=
  h.trans (w.mono_mask hk)

/-- A record update of parts that carry no obligation of their own. -/
theorem Within.plain {a k : Nat} {s t u : State} (hk : a &&& k = a) (h : Within k s t) (hb : blank a t = blank a u) (hm : t.mem = u.mem)
    (hr : t.regs = u.regs) (ht : t.mono = u.mono) (ho : t.outbox = u.outbox) (hf : t.freeCtr = u.freeCtr)
    (hz : t.sized = u.sized := by first | rfl | (unfold State.sized; simp +zetaDelta)) : Within k s u :=
  h.prim hk (Within.mk hb (fun x => hm ▸ x) (fun x => hr ▸ x) (Nat.le_of_eq ht) (ho ▸ List.prefix_refl _) (Nat.le_of_eq hf) (fun x => hz ▸ x))

theorem Within.ite {k : Nat} {s t u : State} {c : Prop} [Decidable c] (h : c → Within k s t) (g : ¬c → Within k s u) :
    Within k s (if c then t else u) := by
  split
  · exact h ‹_›
  · exact g ‹_›

theorem Within.foldl {k : Nat} {s : State} {α : Type} {f : State → α → State} (hf : ∀ t a, Within k s t → Within k s (f t a)) :
    ∀ (l : List α) {t : State}, Within k s t → Within k s (l.foldl f t)
  | [], _, h => h
  | a :: l, _, h => Within.foldl hf l (hf _ a h)

theorem Within.foldlSnd {k : Nat} {s : State} {α β : Type} {f : β × State → α → β × State}
    (hf : ∀ t a, Within k s t.2 → Within k s (f t a).2) : ∀ (l : List α) {t : β × State}, Within k s t.2 → Within k s (l.foldl f t).2
  | [], _, h => h
  | a :: l, _, h => Within.foldlSnd hf l (hf _ a h)

theorem Within.foldlFst {k : Nat} {s : State} {α β : Type} {f : State × β → α → State × β}
    (hf : ∀ t a, Within k s t.1 → Within k s (f t a).1) : ∀ (l : List α) {t : State × β}, Within k s t.1 → Within k s (l.foldl f t).1
  | [], _, h => h
  | a :: l, _, h => Within.foldlFst hf l (hf _ a h)

theorem State_setReg_within {k : Nat} {s t : State} {a : Nat} {w : Word} (hk : 1 &&& k = 1) (h : Within k s t) : Within k s (t.setReg a w) :=
  h.prim hk (Within.mk rfl id (Sparse.wf_set _ _ _ _) (Nat.le_refl _) (List.prefix_refl _) (Nat.le_refl _) id)

theorem State_wrBytes_within {k : Nat} {s t : State} {a : Nat} {bs : List Byte} (hk : 2 &&& k = 2) (h : Within k s t) : Within k s (t.wrBytes a bs) :=
  h.prim hk (Within.mk rfl (Sparse.wf_setMany _ _ _ _) id (Nat.le_refl _) (List.prefix_refl _) (Nat.le_refl _) id)

theorem Within.memFilter {k : Nat} {s t : State} {p : Host.Cell → Bool} (hk : 2 &&& k = 2) (h : Within k s t) :
    Within k s { t with mem := t.mem.filter p } :=
  h.prim hk (Within.mk rfl (Sparse.wf_filter _ _ _) id (Nat.le_refl _) (List.prefix_refl _) (Nat.le_refl _) id)

theorem State_cycles_within {k : Nat} {s t : State} {n : Nat} (hk : 56 &&& k = 56) (h : Within k s t) : Within k s (t.cycles n) := by
  unfold State.cycles
  split
  · exact h.prim hk (Within.mk rfl id id (Nat.le_add_right _ _) (List.prefix_refl _) (Nat.le_refl _) id)
  · exact h.prim hk (Within.mk rfl id id (Nat.le_add_right _ _) (List.prefix_refl _) (Nat.le_refl _) id)

theorem State_draw_within {k : Nat} {s t : State} (hk : 274877906944 &&& k = 274877906944) (h : Within k s t) : Within k s t.draw :=
  h.prim hk (Within.mk rfl id id (Nat.le_refl _) (List.prefix_refl _) (Nat.le_succ _) id)

theorem State_send_within {k : Nat} {s t : State} {o : OutMsg} (hk : 137438953472 &&& k = 137438953472) (h : Within k s t) : Within k s (t.send o) :=
  h.prim hk (Within.mk rfl id id (Nat.le_refl _) (List.prefix_append _ _) (Nat.le_refl _) id)

/-! ### Updates of one part -/

theorem Within.set_latches {k : Nat} {s t : State} {v : _} (hk : 4 &&& k = 4) (h : Within k s t) : Within k s { t with latches := v } :=
  h.prim hk (Within.mk rfl id id (Nat.le_refl _) (List.prefix_refl _) (Nat.le_refl _) id)

theorem Within.set_now {k : Nat} {s t : State} {v : _} (hk : 8 &&& k = 8) (h : Within k s t) : Within k s { t with now := v } :=
  h.prim hk (Within.mk rfl id id (Nat.le_refl _) (List.prefix_refl _) (Nat.le_refl _) id)

theorem Within.set_frac {k : Nat} {s t : State} {v : _} (hk : 16 &&& k = 16) (h : Within k s t) : Within k s { t with frac := v } :=
  h.prim hk (Within.mk rfl id id (Nat.le_refl _) (List.prefix_refl _) (Nat.le_refl _) id)

theorem Within.set_rdata {k : Nat} {s t : State} {v : _} (hk : 64 &&& k = 64) (h : Within k s t) : Within k s { t with rdata := v } :=
  h.prim hk (Within.mk rfl id id (Nat.le_refl _) (List.prefix_refl _) (Nat.le_refl _) id)

theorem Within.set_busErr {k : Nat} {s t : State} {v : _} (hk : 128 &&& k = 128) (h : Within k s t) : Within k s { t with busErr := v } :=
  h.prim hk (Within.mk rfl id id (Nat.le_refl _) (List.prefix_refl _) (Nat.le_refl _) id)

theorem Within.set_cpm {k : Nat} {s t : State} {v : _} (hk : 256 &&& k = 256) (h : Within k s t) : Within k s { t with cpm := v } :=
  h.prim hk (Within.mk rfl id id (Nat.le_refl _) (List.prefix_refl _) (Nat.le_refl _) id)

theorem Within.set_pnl {k : Nat} {s t : State} {v : _} (hk : 512 &&& k = 512) (h : Within k s t) : Within k s { t with pnl := v } :=
  h.prim hk (Within.mk rfl id id (Nat.le_refl _) (List.prefix_refl _) (Nat.le_refl _) id)

theorem Within.set_evr {k : Nat} {s t : State} {v : _} (hk : 1024 &&& k = 1024) (h : Within k s t) : Within k s { t with evr := v } :=
  h.prim hk (Within.mk rfl id id (Nat.le_refl _) (List.prefix_refl _) (Nat.le_refl _) id)

theorem Within.set_que {k : Nat} {s t : State} {v : _} (hk : 2048 &&& k = 2048) (h : Within k s t) : Within k s { t with que := v } :=
  h.prim hk (Within.mk rfl id id (Nat.le_refl _) (List.prefix_refl _) (Nat.le_refl _) id)

theorem Within.set_mbx {k : Nat} {s t : State} {v : _} (hk : 4096 &&& k = 4096) (h : Within k s t) : Within k s { t with mbx := v } :=
  h.prim hk (Within.mk rfl id id (Nat.le_refl _) (List.prefix_refl _) (Nat.le_refl _) id)

theorem Within.set_locks {k : Nat} {s t : State} {v : _} (hk : 8192 &&& k = 8192) (h : Within k s t) : Within k s { t with locks := v } :=
  h.prim hk (Within.mk rfl id id (Nat.le_refl _) (List.prefix_refl _) (Nat.le_refl _) id)

theorem Within.set_img {k : Nat} {s t : State} {v : _} (hk : 16384 &&& k = 16384) (h : Within k s t) : Within k s { t with img := v } :=
  h.prim hk (Within.mk rfl id id (Nat.le_refl _) (List.prefix_refl _) (Nat.le_refl _) id)

theorem Within.set_imgAlt {k : Nat} {s t : State} {v : _} (hk : 32768 &&& k = 32768) (h : Within k s t) : Within k s { t with imgAlt := v } :=
  h.prim hk (Within.mk rfl id id (Nat.le_refl _) (List.prefix_refl _) (Nat.le_refl _) id)

theorem Within.set_load {k : Nat} {s t : State} {v : _} (hk : 65536 &&& k = 65536) (h : Within k s t) : Within k s { t with load := v } :=
  h.prim hk (Within.mk rfl id id (Nat.le_refl _) (List.prefix_refl _) (Nat.le_refl _) id)

theorem Within.set_g {k : Nat} {s t : State} {v : _} (hk : 131072 &&& k = 131072) (h : Within k s t) : Within k s { t with g := v } :=
  h.prim hk (Within.mk rfl id id (Nat.le_refl _) (List.prefix_refl _) (Nat.le_refl _) id)

theorem Within.set_changes {k : Nat} {s t : State} {v : _} (hk : 262144 &&& k = 262144) (h : Within k s t) : Within k s { t with changes := v } :=
  h.prim hk (Within.mk rfl id id (Nat.le_refl _) (List.prefix_refl _) (Nat.le_refl _) id)

theorem Within.set_routeLast {k : Nat} {s t : State} {v : _} (hk : 524288 &&& k = 524288) (h : Within k s t) : Within k s { t with routeLast := v } :=
  h.prim hk (Within.mk rfl id id (Nat.le_refl _) (List.prefix_refl _) (Nat.le_refl _) id)

theorem Within.set_tasks {k : Nat} {s t : State} {v : _} (hk : 1048576 &&& k = 1048576) (h : Within k s t)
    (hv : v.length = t.tasks.length := by simp) : Within k s { t with tasks := v } :=
  h.prim hk (Within.mk rfl id id (Nat.le_refl _) (List.prefix_refl _) (Nat.le_refl _) (fun x => ⟨hv.trans x.1, x.2⟩))

theorem Within.set_views {k : Nat} {s t : State} {v : _} (hk : 2097152 &&& k = 2097152) (h : Within k s t)
    (hv : v.length = t.views.length := by simp) : Within k s { t with views := v } :=
  h.prim hk (Within.mk rfl id id (Nat.le_refl _) (List.prefix_refl _) (Nat.le_refl _) (fun x => ⟨x.1, hv.trans x.2.1, x.2.2⟩))

theorem Within.set_can {k : Nat} {s t : State} {v : _} (hk : 4194304 &&& k = 4194304) (h : Within k s t)
    (hv : v.length = t.can.length := by simp) : Within k s { t with can := v } :=
  h.prim hk (Within.mk rfl id id (Nat.le_refl _) (List.prefix_refl _) (Nat.le_refl _) (fun x => ⟨x.1, x.2.1, hv.trans x.2.2.1, x.2.2.2⟩))

theorem Within.set_rim {k : Nat} {s t : State} {v : _} (hk : 8388608 &&& k = 8388608) (h : Within k s t) : Within k s { t with rim := v } :=
  h.prim hk (Within.mk rfl id id (Nat.le_refl _) (List.prefix_refl _) (Nat.le_refl _) id)

theorem Within.set_field {k : Nat} {s t : State} {v : FieldSide} (hk : 16777216 &&& k = 16777216) (h : Within k s t)
    (hv : (t.field.chans.length = 64 ∧ t.field.grps.length = 2) → v.chans.length = 64 ∧ v.grps.length = 2 := by
      first | exact id | (intro h; exact ⟨by simpa using h.1, by simpa using h.2⟩) | (intro _; exact ⟨rfl, rfl⟩)) : Within k s { t with field := v } :=
  h.prim hk (Within.mk rfl id id (Nat.le_refl _) (List.prefix_refl _) (Nat.le_refl _) (fun x => ⟨x.1, x.2.1, x.2.2.1, hv x.2.2.2⟩))

theorem Within.set_trim {k : Nat} {s t : State} {v : _} (hk : 33554432 &&& k = 33554432) (h : Within k s t) : Within k s { t with trim := v } :=
  h.prim hk (Within.mk rfl id id (Nat.le_refl _) (List.prefix_refl _) (Nat.le_refl _) id)

theorem Within.set_saf {k : Nat} {s t : State} {v : _} (hk : 67108864 &&& k = 67108864) (h : Within k s t) : Within k s { t with saf := v } :=
  h.prim hk (Within.mk rfl id id (Nat.le_refl _) (List.prefix_refl _) (Nat.le_refl _) id)

theorem Within.set_stns {k : Nat} {s t : State} {v : _} (hk : 134217728 &&& k = 134217728) (h : Within k s t) : Within k s { t with stns := v } :=
  h.prim hk (Within.mk rfl id id (Nat.le_refl _) (List.prefix_refl _) (Nat.le_refl _) id)

theorem Within.set_escs {k : Nat} {s t : State} {v : _} (hk : 268435456 &&& k = 268435456) (h : Within k s t) : Within k s { t with escs := v } :=
  h.prim hk (Within.mk rfl id id (Nat.le_refl _) (List.prefix_refl _) (Nat.le_refl _) id)

theorem Within.set_loops {k : Nat} {s t : State} {v : _} (hk : 536870912 &&& k = 536870912) (h : Within k s t) : Within k s { t with loops := v } :=
  h.prim hk (Within.mk rfl id id (Nat.le_refl _) (List.prefix_refl _) (Nat.le_refl _) id)

theorem Within.set_rdl {k : Nat} {s t : State} {v : _} (hk : 1073741824 &&& k = 1073741824) (h : Within k s t) : Within k s { t with rdl := v } :=
  h.prim hk (Within.mk rfl id id (Nat.le_refl _) (List.prefix_refl _) (Nat.le_refl _) id)

theorem Within.set_net {k : Nat} {s t : State} {v : _} (hk : 2147483648 &&& k = 2147483648) (h : Within k s t) : Within k s { t with net := v } :=
  h.prim hk (Within.mk rfl id id (Nat.le_refl _) (List.prefix_refl _) (Nat.le_refl _) id)

theorem Within.set_ptp {k : Nat} {s t : State} {v : _} (hk : 4294967296 &&& k = 4294967296) (h : Within k s t) : Within k s { t with ptp := v } :=
  h.prim hk (Within.mk rfl id id (Nat.le_refl _) (List.prefix_refl _) (Nat.le_refl _) id)

theorem Within.set_hdp {k : Nat} {s t : State} {v : _} (hk : 8589934592 &&& k = 8589934592) (h : Within k s t) : Within k s { t with hdp := v } :=
  h.prim hk (Within.mk rfl id id (Nat.le_refl _) (List.prefix_refl _) (Nat.le_refl _) id)

theorem Within.set_ksap {k : Nat} {s t : State} {v : _} (hk : 17179869184 &&& k = 17179869184) (h : Within k s t) : Within k s { t with ksap := v } :=
  h.prim hk (Within.mk rfl id id (Nat.le_refl _) (List.prefix_refl _) (Nat.le_refl _) id)

theorem Within.set_toField {k : Nat} {s t : State} {v : _} (hk : 34359738368 &&& k = 34359738368) (h : Within k s t) : Within k s { t with toField := v } :=
  h.prim hk (Within.mk rfl id id (Nat.le_refl _) (List.prefix_refl _) (Nat.le_refl _) id)

theorem Within.set_toHost {k : Nat} {s t : State} {v : _} (hk : 68719476736 &&& k = 68719476736) (h : Within k s t) : Within k s { t with toHost := v } :=
  h.prim hk (Within.mk rfl id id (Nat.le_refl _) (List.prefix_refl _) (Nat.le_refl _) id)

end Sys2Proof.Laws
end

