-- ==== Sys2Proof/Laws/State.lean ====
section
/-! SUPPORT. The parts of the state after each basic update, registers and their fields after a write, and bytes of memory after a write. -/

/- One thread: elaborating these many small proofs side by side can exceed the memory that check.sh allows. -/
set_option Elab.async false

namespace Sys2Proof.Laws
open Sys2Proof Sys2Proof.Machine

/-! ### Parts that a basic update leaves alone -/

@[simp] theorem setReg_mem (s : State) (a : Nat) (w : Word) : (s.setReg a w).mem = s.mem := rfl
@[simp] theorem setReg_latches (s : State) (a : Nat) (w : Word) : (s.setReg a w).latches = s.latches := rfl
@[simp] theorem setReg_now (s : State) (a : Nat) (w : Word) : (s.setReg a w).now = s.now := rfl
@[simp] theorem setReg_frac (s : State) (a : Nat) (w : Word) : (s.setReg a w).frac = s.frac := rfl
@[simp] theorem setReg_mono (s : State) (a : Nat) (w : Word) : (s.setReg a w).mono = s.mono := rfl
@[simp] theorem setReg_rdata (s : State) (a : Nat) (w : Word) : (s.setReg a w).rdata = s.rdata := rfl
@[simp] theorem setReg_busErr (s : State) (a : Nat) (w : Word) : (s.setReg a w).busErr = s.busErr := rfl
@[simp] theorem setReg_cpm (s : State) (a : Nat) (w : Word) : (s.setReg a w).cpm = s.cpm := rfl
@[simp] theorem setReg_pnl (s : State) (a : Nat) (w : Word) : (s.setReg a w).pnl = s.pnl := rfl
@[simp] theorem setReg_evr (s : State) (a : Nat) (w : Word) : (s.setReg a w).evr = s.evr := rfl
@[simp] theorem setReg_que (s : State) (a : Nat) (w : Word) : (s.setReg a w).que = s.que := rfl
@[simp] theorem setReg_mbx (s : State) (a : Nat) (w : Word) : (s.setReg a w).mbx = s.mbx := rfl
@[simp] theorem setReg_locks (s : State) (a : Nat) (w : Word) : (s.setReg a w).locks = s.locks := rfl
@[simp] theorem setReg_img (s : State) (a : Nat) (w : Word) : (s.setReg a w).img = s.img := rfl
@[simp] theorem setReg_imgAlt (s : State) (a : Nat) (w : Word) : (s.setReg a w).imgAlt = s.imgAlt := rfl
@[simp] theorem setReg_load (s : State) (a : Nat) (w : Word) : (s.setReg a w).load = s.load := rfl
@[simp] theorem setReg_g (s : State) (a : Nat) (w : Word) : (s.setReg a w).g = s.g := rfl
@[simp] theorem setReg_changes (s : State) (a : Nat) (w : Word) : (s.setReg a w).changes = s.changes := rfl
@[simp] theorem setReg_routeLast (s : State) (a : Nat) (w : Word) : (s.setReg a w).routeLast = s.routeLast := rfl
@[simp] theorem setReg_tasks (s : State) (a : Nat) (w : Word) : (s.setReg a w).tasks = s.tasks := rfl
@[simp] theorem setReg_views (s : State) (a : Nat) (w : Word) : (s.setReg a w).views = s.views := rfl
@[simp] theorem setReg_can (s : State) (a : Nat) (w : Word) : (s.setReg a w).can = s.can := rfl
@[simp] theorem setReg_rim (s : State) (a : Nat) (w : Word) : (s.setReg a w).rim = s.rim := rfl
@[simp] theorem setReg_field (s : State) (a : Nat) (w : Word) : (s.setReg a w).field = s.field := rfl
@[simp] theorem setReg_trim (s : State) (a : Nat) (w : Word) : (s.setReg a w).trim = s.trim := rfl
@[simp] theorem setReg_saf (s : State) (a : Nat) (w : Word) : (s.setReg a w).saf = s.saf := rfl
@[simp] theorem setReg_stns (s : State) (a : Nat) (w : Word) : (s.setReg a w).stns = s.stns := rfl
@[simp] theorem setReg_escs (s : State) (a : Nat) (w : Word) : (s.setReg a w).escs = s.escs := rfl
@[simp] theorem setReg_loops (s : State) (a : Nat) (w : Word) : (s.setReg a w).loops = s.loops := rfl
@[simp] theorem setReg_rdl (s : State) (a : Nat) (w : Word) : (s.setReg a w).rdl = s.rdl := rfl
@[simp] theorem setReg_net (s : State) (a : Nat) (w : Word) : (s.setReg a w).net = s.net := rfl
@[simp] theorem setReg_ptp (s : State) (a : Nat) (w : Word) : (s.setReg a w).ptp = s.ptp := rfl
@[simp] theorem setReg_hdp (s : State) (a : Nat) (w : Word) : (s.setReg a w).hdp = s.hdp := rfl
@[simp] theorem setReg_ksap (s : State) (a : Nat) (w : Word) : (s.setReg a w).ksap = s.ksap := rfl
@[simp] theorem setReg_toField (s : State) (a : Nat) (w : Word) : (s.setReg a w).toField = s.toField := rfl
@[simp] theorem setReg_toHost (s : State) (a : Nat) (w : Word) : (s.setReg a w).toHost = s.toHost := rfl
@[simp] theorem setReg_outbox (s : State) (a : Nat) (w : Word) : (s.setReg a w).outbox = s.outbox := rfl
@[simp] theorem setReg_freeCtr (s : State) (a : Nat) (w : Word) : (s.setReg a w).freeCtr = s.freeCtr := rfl
@[simp] theorem setReg_pending (s : State) (a : Nat) (w : Word) : (s.setReg a w).pending = s.pending := rfl

@[simp] theorem setFld_mem (s : State) (f : Field) (v : Nat) : (s.setFld f v).mem = s.mem := rfl
@[simp] theorem setFld_latches (s : State) (f : Field) (v : Nat) : (s.setFld f v).latches = s.latches := rfl
@[simp] theorem setFld_now (s : State) (f : Field) (v : Nat) : (s.setFld f v).now = s.now := rfl
@[simp] theorem setFld_frac (s : State) (f : Field) (v : Nat) : (s.setFld f v).frac = s.frac := rfl
@[simp] theorem setFld_mono (s : State) (f : Field) (v : Nat) : (s.setFld f v).mono = s.mono := rfl
@[simp] theorem setFld_rdata (s : State) (f : Field) (v : Nat) : (s.setFld f v).rdata = s.rdata := rfl
@[simp] theorem setFld_busErr (s : State) (f : Field) (v : Nat) : (s.setFld f v).busErr = s.busErr := rfl
@[simp] theorem setFld_cpm (s : State) (f : Field) (v : Nat) : (s.setFld f v).cpm = s.cpm := rfl
@[simp] theorem setFld_pnl (s : State) (f : Field) (v : Nat) : (s.setFld f v).pnl = s.pnl := rfl
@[simp] theorem setFld_evr (s : State) (f : Field) (v : Nat) : (s.setFld f v).evr = s.evr := rfl
@[simp] theorem setFld_que (s : State) (f : Field) (v : Nat) : (s.setFld f v).que = s.que := rfl
@[simp] theorem setFld_mbx (s : State) (f : Field) (v : Nat) : (s.setFld f v).mbx = s.mbx := rfl
@[simp] theorem setFld_locks (s : State) (f : Field) (v : Nat) : (s.setFld f v).locks = s.locks := rfl
@[simp] theorem setFld_img (s : State) (f : Field) (v : Nat) : (s.setFld f v).img = s.img := rfl
@[simp] theorem setFld_imgAlt (s : State) (f : Field) (v : Nat) : (s.setFld f v).imgAlt = s.imgAlt := rfl
@[simp] theorem setFld_load (s : State) (f : Field) (v : Nat) : (s.setFld f v).load = s.load := rfl
@[simp] theorem setFld_g (s : State) (f : Field) (v : Nat) : (s.setFld f v).g = s.g := rfl
@[simp] theorem setFld_changes (s : State) (f : Field) (v : Nat) : (s.setFld f v).changes = s.changes := rfl
@[simp] theorem setFld_routeLast (s : State) (f : Field) (v : Nat) : (s.setFld f v).routeLast = s.routeLast := rfl
@[simp] theorem setFld_tasks (s : State) (f : Field) (v : Nat) : (s.setFld f v).tasks = s.tasks := rfl
@[simp] theorem setFld_views (s : State) (f : Field) (v : Nat) : (s.setFld f v).views = s.views := rfl
@[simp] theorem setFld_can (s : State) (f : Field) (v : Nat) : (s.setFld f v).can = s.can := rfl
@[simp] theorem setFld_rim (s : State) (f : Field) (v : Nat) : (s.setFld f v).rim = s.rim := rfl
@[simp] theorem setFld_field (s : State) (f : Field) (v : Nat) : (s.setFld f v).field = s.field := rfl
@[simp] theorem setFld_trim (s : State) (f : Field) (v : Nat) : (s.setFld f v).trim = s.trim := rfl
@[simp] theorem setFld_saf (s : State) (f : Field) (v : Nat) : (s.setFld f v).saf = s.saf := rfl
@[simp] theorem setFld_stns (s : State) (f : Field) (v : Nat) : (s.setFld f v).stns = s.stns := rfl
@[simp] theorem setFld_escs (s : State) (f : Field) (v : Nat) : (s.setFld f v).escs = s.escs := rfl
@[simp] theorem setFld_loops (s : State) (f : Field) (v : Nat) : (s.setFld f v).loops = s.loops := rfl
@[simp] theorem setFld_rdl (s : State) (f : Field) (v : Nat) : (s.setFld f v).rdl = s.rdl := rfl
@[simp] theorem setFld_net (s : State) (f : Field) (v : Nat) : (s.setFld f v).net = s.net := rfl
@[simp] theorem setFld_ptp (s : State) (f : Field) (v : Nat) : (s.setFld f v).ptp = s.ptp := rfl
@[simp] theorem setFld_hdp (s : State) (f : Field) (v : Nat) : (s.setFld f v).hdp = s.hdp := rfl
@[simp] theorem setFld_ksap (s : State) (f : Field) (v : Nat) : (s.setFld f v).ksap = s.ksap := rfl
@[simp] theorem setFld_toField (s : State) (f : Field) (v : Nat) : (s.setFld f v).toField = s.toField := rfl
@[simp] theorem setFld_toHost (s : State) (f : Field) (v : Nat) : (s.setFld f v).toHost = s.toHost := rfl
@[simp] theorem setFld_outbox (s : State) (f : Field) (v : Nat) : (s.setFld f v).outbox = s.outbox := rfl
@[simp] theorem setFld_freeCtr (s : State) (f : Field) (v : Nat) : (s.setFld f v).freeCtr = s.freeCtr := rfl
@[simp] theorem setFld_pending (s : State) (f : Field) (v : Nat) : (s.setFld f v).pending = s.pending := rfl

@[simp] theorem setFlag_mem (s : State) (f : Field) (b : Bool) : (s.setFlag f b).mem = s.mem := rfl
@[simp] theorem setFlag_latches (s : State) (f : Field) (b : Bool) : (s.setFlag f b).latches = s.latches := rfl
@[simp] theorem setFlag_now (s : State) (f : Field) (b : Bool) : (s.setFlag f b).now = s.now := rfl
@[simp] theorem setFlag_frac (s : State) (f : Field) (b : Bool) : (s.setFlag f b).frac = s.frac := rfl
@[simp] theorem setFlag_mono (s : State) (f : Field) (b : Bool) : (s.setFlag f b).mono = s.mono := rfl
@[simp] theorem setFlag_rdata (s : State) (f : Field) (b : Bool) : (s.setFlag f b).rdata = s.rdata := rfl
@[simp] theorem setFlag_busErr (s : State) (f : Field) (b : Bool) : (s.setFlag f b).busErr = s.busErr := rfl
@[simp] theorem setFlag_cpm (s : State) (f : Field) (b : Bool) : (s.setFlag f b).cpm = s.cpm := rfl
@[simp] theorem setFlag_pnl (s : State) (f : Field) (b : Bool) : (s.setFlag f b).pnl = s.pnl := rfl
@[simp] theorem setFlag_evr (s : State) (f : Field) (b : Bool) : (s.setFlag f b).evr = s.evr := rfl
@[simp] theorem setFlag_que (s : State) (f : Field) (b : Bool) : (s.setFlag f b).que = s.que := rfl
@[simp] theorem setFlag_mbx (s : State) (f : Field) (b : Bool) : (s.setFlag f b).mbx = s.mbx := rfl
@[simp] theorem setFlag_locks (s : State) (f : Field) (b : Bool) : (s.setFlag f b).locks = s.locks := rfl
@[simp] theorem setFlag_img (s : State) (f : Field) (b : Bool) : (s.setFlag f b).img = s.img := rfl
@[simp] theorem setFlag_imgAlt (s : State) (f : Field) (b : Bool) : (s.setFlag f b).imgAlt = s.imgAlt := rfl
@[simp] theorem setFlag_load (s : State) (f : Field) (b : Bool) : (s.setFlag f b).load = s.load := rfl
@[simp] theorem setFlag_g (s : State) (f : Field) (b : Bool) : (s.setFlag f b).g = s.g := rfl
@[simp] theorem setFlag_changes (s : State) (f : Field) (b : Bool) : (s.setFlag f b).changes = s.changes := rfl
@[simp] theorem setFlag_routeLast (s : State) (f : Field) (b : Bool) : (s.setFlag f b).routeLast = s.routeLast := rfl
@[simp] theorem setFlag_tasks (s : State) (f : Field) (b : Bool) : (s.setFlag f b).tasks = s.tasks := rfl
@[simp] theorem setFlag_views (s : State) (f : Field) (b : Bool) : (s.setFlag f b).views = s.views := rfl
@[simp] theorem setFlag_can (s : State) (f : Field) (b : Bool) : (s.setFlag f b).can = s.can := rfl
@[simp] theorem setFlag_rim (s : State) (f : Field) (b : Bool) : (s.setFlag f b).rim = s.rim := rfl
@[simp] theorem setFlag_field (s : State) (f : Field) (b : Bool) : (s.setFlag f b).field = s.field := rfl
@[simp] theorem setFlag_trim (s : State) (f : Field) (b : Bool) : (s.setFlag f b).trim = s.trim := rfl
@[simp] theorem setFlag_saf (s : State) (f : Field) (b : Bool) : (s.setFlag f b).saf = s.saf := rfl
@[simp] theorem setFlag_stns (s : State) (f : Field) (b : Bool) : (s.setFlag f b).stns = s.stns := rfl
@[simp] theorem setFlag_escs (s : State) (f : Field) (b : Bool) : (s.setFlag f b).escs = s.escs := rfl
@[simp] theorem setFlag_loops (s : State) (f : Field) (b : Bool) : (s.setFlag f b).loops = s.loops := rfl
@[simp] theorem setFlag_rdl (s : State) (f : Field) (b : Bool) : (s.setFlag f b).rdl = s.rdl := rfl
@[simp] theorem setFlag_net (s : State) (f : Field) (b : Bool) : (s.setFlag f b).net = s.net := rfl
@[simp] theorem setFlag_ptp (s : State) (f : Field) (b : Bool) : (s.setFlag f b).ptp = s.ptp := rfl
@[simp] theorem setFlag_hdp (s : State) (f : Field) (b : Bool) : (s.setFlag f b).hdp = s.hdp := rfl
@[simp] theorem setFlag_ksap (s : State) (f : Field) (b : Bool) : (s.setFlag f b).ksap = s.ksap := rfl
@[simp] theorem setFlag_toField (s : State) (f : Field) (b : Bool) : (s.setFlag f b).toField = s.toField := rfl
@[simp] theorem setFlag_toHost (s : State) (f : Field) (b : Bool) : (s.setFlag f b).toHost = s.toHost := rfl
@[simp] theorem setFlag_outbox (s : State) (f : Field) (b : Bool) : (s.setFlag f b).outbox = s.outbox := rfl
@[simp] theorem setFlag_freeCtr (s : State) (f : Field) (b : Bool) : (s.setFlag f b).freeCtr = s.freeCtr := rfl
@[simp] theorem setFlag_pending (s : State) (f : Field) (b : Bool) : (s.setFlag f b).pending = s.pending := rfl

@[simp] theorem wrBytes_regs (s : State) (a : Nat) (bs : List Byte) : (s.wrBytes a bs).regs = s.regs := rfl
@[simp] theorem wrBytes_latches (s : State) (a : Nat) (bs : List Byte) : (s.wrBytes a bs).latches = s.latches := rfl
@[simp] theorem wrBytes_now (s : State) (a : Nat) (bs : List Byte) : (s.wrBytes a bs).now = s.now := rfl
@[simp] theorem wrBytes_frac (s : State) (a : Nat) (bs : List Byte) : (s.wrBytes a bs).frac = s.frac := rfl
@[simp] theorem wrBytes_mono (s : State) (a : Nat) (bs : List Byte) : (s.wrBytes a bs).mono = s.mono := rfl
@[simp] theorem wrBytes_rdata (s : State) (a : Nat) (bs : List Byte) : (s.wrBytes a bs).rdata = s.rdata := rfl
@[simp] theorem wrBytes_busErr (s : State) (a : Nat) (bs : List Byte) : (s.wrBytes a bs).busErr = s.busErr := rfl
@[simp] theorem wrBytes_cpm (s : State) (a : Nat) (bs : List Byte) : (s.wrBytes a bs).cpm = s.cpm := rfl
@[simp] theorem wrBytes_pnl (s : State) (a : Nat) (bs : List Byte) : (s.wrBytes a bs).pnl = s.pnl := rfl
@[simp] theorem wrBytes_evr (s : State) (a : Nat) (bs : List Byte) : (s.wrBytes a bs).evr = s.evr := rfl
@[simp] theorem wrBytes_que (s : State) (a : Nat) (bs : List Byte) : (s.wrBytes a bs).que = s.que := rfl
@[simp] theorem wrBytes_mbx (s : State) (a : Nat) (bs : List Byte) : (s.wrBytes a bs).mbx = s.mbx := rfl
@[simp] theorem wrBytes_locks (s : State) (a : Nat) (bs : List Byte) : (s.wrBytes a bs).locks = s.locks := rfl
@[simp] theorem wrBytes_img (s : State) (a : Nat) (bs : List Byte) : (s.wrBytes a bs).img = s.img := rfl
@[simp] theorem wrBytes_imgAlt (s : State) (a : Nat) (bs : List Byte) : (s.wrBytes a bs).imgAlt = s.imgAlt := rfl
@[simp] theorem wrBytes_load (s : State) (a : Nat) (bs : List Byte) : (s.wrBytes a bs).load = s.load := rfl
@[simp] theorem wrBytes_g (s : State) (a : Nat) (bs : List Byte) : (s.wrBytes a bs).g = s.g := rfl
@[simp] theorem wrBytes_changes (s : State) (a : Nat) (bs : List Byte) : (s.wrBytes a bs).changes = s.changes := rfl
@[simp] theorem wrBytes_routeLast (s : State) (a : Nat) (bs : List Byte) : (s.wrBytes a bs).routeLast = s.routeLast := rfl
@[simp] theorem wrBytes_tasks (s : State) (a : Nat) (bs : List Byte) : (s.wrBytes a bs).tasks = s.tasks := rfl
@[simp] theorem wrBytes_views (s : State) (a : Nat) (bs : List Byte) : (s.wrBytes a bs).views = s.views := rfl
@[simp] theorem wrBytes_can (s : State) (a : Nat) (bs : List Byte) : (s.wrBytes a bs).can = s.can := rfl
@[simp] theorem wrBytes_rim (s : State) (a : Nat) (bs : List Byte) : (s.wrBytes a bs).rim = s.rim := rfl
@[simp] theorem wrBytes_field (s : State) (a : Nat) (bs : List Byte) : (s.wrBytes a bs).field = s.field := rfl
@[simp] theorem wrBytes_trim (s : State) (a : Nat) (bs : List Byte) : (s.wrBytes a bs).trim = s.trim := rfl
@[simp] theorem wrBytes_saf (s : State) (a : Nat) (bs : List Byte) : (s.wrBytes a bs).saf = s.saf := rfl
@[simp] theorem wrBytes_stns (s : State) (a : Nat) (bs : List Byte) : (s.wrBytes a bs).stns = s.stns := rfl
@[simp] theorem wrBytes_escs (s : State) (a : Nat) (bs : List Byte) : (s.wrBytes a bs).escs = s.escs := rfl
@[simp] theorem wrBytes_loops (s : State) (a : Nat) (bs : List Byte) : (s.wrBytes a bs).loops = s.loops := rfl
@[simp] theorem wrBytes_rdl (s : State) (a : Nat) (bs : List Byte) : (s.wrBytes a bs).rdl = s.rdl := rfl
@[simp] theorem wrBytes_net (s : State) (a : Nat) (bs : List Byte) : (s.wrBytes a bs).net = s.net := rfl
@[simp] theorem wrBytes_ptp (s : State) (a : Nat) (bs : List Byte) : (s.wrBytes a bs).ptp = s.ptp := rfl
@[simp] theorem wrBytes_hdp (s : State) (a : Nat) (bs : List Byte) : (s.wrBytes a bs).hdp = s.hdp := rfl
@[simp] theorem wrBytes_ksap (s : State) (a : Nat) (bs : List Byte) : (s.wrBytes a bs).ksap = s.ksap := rfl
@[simp] theorem wrBytes_toField (s : State) (a : Nat) (bs : List Byte) : (s.wrBytes a bs).toField = s.toField := rfl
@[simp] theorem wrBytes_toHost (s : State) (a : Nat) (bs : List Byte) : (s.wrBytes a bs).toHost = s.toHost := rfl
@[simp] theorem wrBytes_outbox (s : State) (a : Nat) (bs : List Byte) : (s.wrBytes a bs).outbox = s.outbox := rfl
@[simp] theorem wrBytes_freeCtr (s : State) (a : Nat) (bs : List Byte) : (s.wrBytes a bs).freeCtr = s.freeCtr := rfl
@[simp] theorem wrBytes_pending (s : State) (a : Nat) (bs : List Byte) : (s.wrBytes a bs).pending = s.pending := rfl

@[simp] theorem send_regs (s : State) (o : OutMsg) : (s.send o).regs = s.regs := rfl
@[simp] theorem send_mem (s : State) (o : OutMsg) : (s.send o).mem = s.mem := rfl
@[simp] theorem send_latches (s : State) (o : OutMsg) : (s.send o).latches = s.latches := rfl
@[simp] theorem send_now (s : State) (o : OutMsg) : (s.send o).now = s.now := rfl
@[simp] theorem send_frac (s : State) (o : OutMsg) : (s.send o).frac = s.frac := rfl
@[simp] theorem send_mono (s : State) (o : OutMsg) : (s.send o).mono = s.mono := rfl
@[simp] theorem send_rdata (s : State) (o : OutMsg) : (s.send o).rdata = s.rdata := rfl
@[simp] theorem send_busErr (s : State) (o : OutMsg) : (s.send o).busErr = s.busErr := rfl
@[simp] theorem send_cpm (s : State) (o : OutMsg) : (s.send o).cpm = s.cpm := rfl
@[simp] theorem send_pnl (s : State) (o : OutMsg) : (s.send o).pnl = s.pnl := rfl
@[simp] theorem send_evr (s : State) (o : OutMsg) : (s.send o).evr = s.evr := rfl
@[simp] theorem send_que (s : State) (o : OutMsg) : (s.send o).que = s.que := rfl
@[simp] theorem send_mbx (s : State) (o : OutMsg) : (s.send o).mbx = s.mbx := rfl
@[simp] theorem send_locks (s : State) (o : OutMsg) : (s.send o).locks = s.locks := rfl
@[simp] theorem send_img (s : State) (o : OutMsg) : (s.send o).img = s.img := rfl
@[simp] theorem send_imgAlt (s : State) (o : OutMsg) : (s.send o).imgAlt = s.imgAlt := rfl
@[simp] theorem send_load (s : State) (o : OutMsg) : (s.send o).load = s.load := rfl
@[simp] theorem send_g (s : State) (o : OutMsg) : (s.send o).g = s.g := rfl
@[simp] theorem send_changes (s : State) (o : OutMsg) : (s.send o).changes = s.changes := rfl
@[simp] theorem send_routeLast (s : State) (o : OutMsg) : (s.send o).routeLast = s.routeLast := rfl
@[simp] theorem send_tasks (s : State) (o : OutMsg) : (s.send o).tasks = s.tasks := rfl
@[simp] theorem send_views (s : State) (o : OutMsg) : (s.send o).views = s.views := rfl
@[simp] theorem send_can (s : State) (o : OutMsg) : (s.send o).can = s.can := rfl
@[simp] theorem send_rim (s : State) (o : OutMsg) : (s.send o).rim = s.rim := rfl
@[simp] theorem send_field (s : State) (o : OutMsg) : (s.send o).field = s.field := rfl
@[simp] theorem send_trim (s : State) (o : OutMsg) : (s.send o).trim = s.trim := rfl
@[simp] theorem send_saf (s : State) (o : OutMsg) : (s.send o).saf = s.saf := rfl
@[simp] theorem send_stns (s : State) (o : OutMsg) : (s.send o).stns = s.stns := rfl
@[simp] theorem send_escs (s : State) (o : OutMsg) : (s.send o).escs = s.escs := rfl
@[simp] theorem send_loops (s : State) (o : OutMsg) : (s.send o).loops = s.loops := rfl
@[simp] theorem send_rdl (s : State) (o : OutMsg) : (s.send o).rdl = s.rdl := rfl
@[simp] theorem send_net (s : State) (o : OutMsg) : (s.send o).net = s.net := rfl
@[simp] theorem send_ptp (s : State) (o : OutMsg) : (s.send o).ptp = s.ptp := rfl
@[simp] theorem send_hdp (s : State) (o : OutMsg) : (s.send o).hdp = s.hdp := rfl
@[simp] theorem send_ksap (s : State) (o : OutMsg) : (s.send o).ksap = s.ksap := rfl
@[simp] theorem send_toField (s : State) (o : OutMsg) : (s.send o).toField = s.toField := rfl
@[simp] theorem send_toHost (s : State) (o : OutMsg) : (s.send o).toHost = s.toHost := rfl
@[simp] theorem send_freeCtr (s : State) (o : OutMsg) : (s.send o).freeCtr = s.freeCtr := rfl
@[simp] theorem send_pending (s : State) (o : OutMsg) : (s.send o).pending = s.pending := rfl

@[simp] theorem rimSend_regs (s : State) (f : RimFrame) : (s.rimSend f).regs = s.regs := rfl
@[simp] theorem rimSend_mem (s : State) (f : RimFrame) : (s.rimSend f).mem = s.mem := rfl
@[simp] theorem rimSend_latches (s : State) (f : RimFrame) : (s.rimSend f).latches = s.latches := rfl
@[simp] theorem rimSend_now (s : State) (f : RimFrame) : (s.rimSend f).now = s.now := rfl
@[simp] theorem rimSend_frac (s : State) (f : RimFrame) : (s.rimSend f).frac = s.frac := rfl
@[simp] theorem rimSend_mono (s : State) (f : RimFrame) : (s.rimSend f).mono = s.mono := rfl
@[simp] theorem rimSend_rdata (s : State) (f : RimFrame) : (s.rimSend f).rdata = s.rdata := rfl
@[simp] theorem rimSend_busErr (s : State) (f : RimFrame) : (s.rimSend f).busErr = s.busErr := rfl
@[simp] theorem rimSend_cpm (s : State) (f : RimFrame) : (s.rimSend f).cpm = s.cpm := rfl
@[simp] theorem rimSend_pnl (s : State) (f : RimFrame) : (s.rimSend f).pnl = s.pnl := rfl
@[simp] theorem rimSend_evr (s : State) (f : RimFrame) : (s.rimSend f).evr = s.evr := rfl
@[simp] theorem rimSend_que (s : State) (f : RimFrame) : (s.rimSend f).que = s.que := rfl
@[simp] theorem rimSend_mbx (s : State) (f : RimFrame) : (s.rimSend f).mbx = s.mbx := rfl
@[simp] theorem rimSend_locks (s : State) (f : RimFrame) : (s.rimSend f).locks = s.locks := rfl
@[simp] theorem rimSend_img (s : State) (f : RimFrame) : (s.rimSend f).img = s.img := rfl
@[simp] theorem rimSend_imgAlt (s : State) (f : RimFrame) : (s.rimSend f).imgAlt = s.imgAlt := rfl
@[simp] theorem rimSend_load (s : State) (f : RimFrame) : (s.rimSend f).load = s.load := rfl
@[simp] theorem rimSend_g (s : State) (f : RimFrame) : (s.rimSend f).g = s.g := rfl
@[simp] theorem rimSend_changes (s : State) (f : RimFrame) : (s.rimSend f).changes = s.changes := rfl
@[simp] theorem rimSend_routeLast (s : State) (f : RimFrame) : (s.rimSend f).routeLast = s.routeLast := rfl
@[simp] theorem rimSend_tasks (s : State) (f : RimFrame) : (s.rimSend f).tasks = s.tasks := rfl
@[simp] theorem rimSend_views (s : State) (f : RimFrame) : (s.rimSend f).views = s.views := rfl
@[simp] theorem rimSend_can (s : State) (f : RimFrame) : (s.rimSend f).can = s.can := rfl
@[simp] theorem rimSend_rim (s : State) (f : RimFrame) : (s.rimSend f).rim = s.rim := rfl
@[simp] theorem rimSend_field (s : State) (f : RimFrame) : (s.rimSend f).field = s.field := rfl
@[simp] theorem rimSend_trim (s : State) (f : RimFrame) : (s.rimSend f).trim = s.trim := rfl
@[simp] theorem rimSend_saf (s : State) (f : RimFrame) : (s.rimSend f).saf = s.saf := rfl
@[simp] theorem rimSend_stns (s : State) (f : RimFrame) : (s.rimSend f).stns = s.stns := rfl
@[simp] theorem rimSend_escs (s : State) (f : RimFrame) : (s.rimSend f).escs = s.escs := rfl
@[simp] theorem rimSend_loops (s : State) (f : RimFrame) : (s.rimSend f).loops = s.loops := rfl
@[simp] theorem rimSend_rdl (s : State) (f : RimFrame) : (s.rimSend f).rdl = s.rdl := rfl
@[simp] theorem rimSend_net (s : State) (f : RimFrame) : (s.rimSend f).net = s.net := rfl
@[simp] theorem rimSend_ptp (s : State) (f : RimFrame) : (s.rimSend f).ptp = s.ptp := rfl
@[simp] theorem rimSend_hdp (s : State) (f : RimFrame) : (s.rimSend f).hdp = s.hdp := rfl
@[simp] theorem rimSend_ksap (s : State) (f : RimFrame) : (s.rimSend f).ksap = s.ksap := rfl
@[simp] theorem rimSend_toHost (s : State) (f : RimFrame) : (s.rimSend f).toHost = s.toHost := rfl
@[simp] theorem rimSend_outbox (s : State) (f : RimFrame) : (s.rimSend f).outbox = s.outbox := rfl
@[simp] theorem rimSend_freeCtr (s : State) (f : RimFrame) : (s.rimSend f).freeCtr = s.freeCtr := rfl
@[simp] theorem rimSend_pending (s : State) (f : RimFrame) : (s.rimSend f).pending = s.pending := rfl

/-! ### Parts outside a mask are unchanged -/

theorem Within.regs_eq {k : Nat} {s t : State} (h : Within k s t) (hk : k.testBit 0 = false) : t.regs = s.regs := by
  have := congrArg State.regs h.same
  simp only [blank, hk] at this
  exact this.symm

theorem Within.mem_eq {k : Nat} {s t : State} (h : Within k s t) (hk : k.testBit 1 = false) : t.mem = s.mem := by
  have := congrArg State.mem h.same
  simp only [blank, hk] at this
  exact this.symm

theorem Within.latches_eq {k : Nat} {s t : State} (h : Within k s t) (hk : k.testBit 2 = false) : t.latches = s.latches := by
  have := congrArg State.latches h.same
  simp only [blank, hk] at this
  exact this.symm

theorem Within.now_eq {k : Nat} {s t : State} (h : Within k s t) (hk : k.testBit 3 = false) : t.now = s.now := by
  have := congrArg State.now h.same
  simp only [blank, hk] at this
  exact this.symm

theorem Within.frac_eq {k : Nat} {s t : State} (h : Within k s t) (hk : k.testBit 4 = false) : t.frac = s.frac := by
  have := congrArg State.frac h.same
  simp only [blank, hk] at this
  exact this.symm

theorem Within.mono_eq {k : Nat} {s t : State} (h : Within k s t) (hk : k.testBit 5 = false) : t.mono = s.mono := by
  have := congrArg State.mono h.same
  simp only [blank, hk] at this
  exact this.symm

theorem Within.rdata_eq {k : Nat} {s t : State} (h : Within k s t) (hk : k.testBit 6 = false) : t.rdata = s.rdata := by
  have := congrArg State.rdata h.same
  simp only [blank, hk] at this
  exact this.symm

theorem Within.busErr_eq {k : Nat} {s t : State} (h : Within k s t) (hk : k.testBit 7 = false) : t.busErr = s.busErr := by
  have := congrArg State.busErr h.same
  simp only [blank, hk] at this
  exact this.symm

theorem Within.cpm_eq {k : Nat} {s t : State} (h : Within k s t) (hk : k.testBit 8 = false) : t.cpm = s.cpm := by
  have := congrArg State.cpm h.same
  simp only [blank, hk] at this
  exact this.symm

theorem Within.pnl_eq {k : Nat} {s t : State} (h : Within k s t) (hk : k.testBit 9 = false) : t.pnl = s.pnl := by
  have := congrArg State.pnl h.same
  simp only [blank, hk] at this
  exact this.symm

theorem Within.evr_eq {k : Nat} {s t : State} (h : Within k s t) (hk : k.testBit 10 = false) : t.evr = s.evr := by
  have := congrArg State.evr h.same
  simp only [blank, hk] at this
  exact this.symm

theorem Within.que_eq {k : Nat} {s t : State} (h : Within k s t) (hk : k.testBit 11 = false) : t.que = s.que := by
  have := congrArg State.que h.same
  simp only [blank, hk] at this
  exact this.symm

theorem Within.mbx_eq {k : Nat} {s t : State} (h : Within k s t) (hk : k.testBit 12 = false) : t.mbx = s.mbx := by
  have := congrArg State.mbx h.same
  simp only [blank, hk] at this
  exact this.symm

theorem Within.locks_eq {k : Nat} {s t : State} (h : Within k s t) (hk : k.testBit 13 = false) : t.locks = s.locks := by
  have := congrArg State.locks h.same
  simp only [blank, hk] at this
  exact this.symm

theorem Within.img_eq {k : Nat} {s t : State} (h : Within k s t) (hk : k.testBit 14 = false) : t.img = s.img := by
  have := congrArg State.img h.same
  simp only [blank, hk] at this
  exact this.symm

theorem Within.imgAlt_eq {k : Nat} {s t : State} (h : Within k s t) (hk : k.testBit 15 = false) : t.imgAlt = s.imgAlt := by
  have := congrArg State.imgAlt h.same
  simp only [blank, hk] at this
  exact this.symm

theorem Within.load_eq {k : Nat} {s t : State} (h : Within k s t) (hk : k.testBit 16 = false) : t.load = s.load := by
  have := congrArg State.load h.same
  simp only [blank, hk] at this
  exact this.symm

theorem Within.g_eq {k : Nat} {s t : State} (h : Within k s t) (hk : k.testBit 17 = false) : t.g = s.g := by
  have := congrArg State.g h.same
  simp only [blank, hk] at this
  exact this.symm

theorem Within.changes_eq {k : Nat} {s t : State} (h : Within k s t) (hk : k.testBit 18 = false) : t.changes = s.changes := by
  have := congrArg State.changes h.same
  simp only [blank, hk] at this
  exact this.symm

theorem Within.routeLast_eq {k : Nat} {s t : State} (h : Within k s t) (hk : k.testBit 19 = false) : t.routeLast = s.routeLast := by
  have := congrArg State.routeLast h.same
  simp only [blank, hk] at this
  exact this.symm

theorem Within.tasks_eq {k : Nat} {s t : State} (h : Within k s t) (hk : k.testBit 20 = false) : t.tasks = s.tasks := by
  have := congrArg State.tasks h.same
  simp only [blank, hk] at this
  exact this.symm

theorem Within.views_eq {k : Nat} {s t : State} (h : Within k s t) (hk : k.testBit 21 = false) : t.views = s.views := by
  have := congrArg State.views h.same
  simp only [blank, hk] at this
  exact this.symm

theorem Within.can_eq {k : Nat} {s t : State} (h : Within k s t) (hk : k.testBit 22 = false) : t.can = s.can := by
  have := congrArg State.can h.same
  simp only [blank, hk] at this
  exact this.symm

theorem Within.rim_eq {k : Nat} {s t : State} (h : Within k s t) (hk : k.testBit 23 = false) : t.rim = s.rim := by
  have := congrArg State.rim h.same
  simp only [blank, hk] at this
  exact this.symm

theorem Within.field_eq {k : Nat} {s t : State} (h : Within k s t) (hk : k.testBit 24 = false) : t.field = s.field := by
  have := congrArg State.field h.same
  simp only [blank, hk] at this
  exact this.symm

theorem Within.trim_eq {k : Nat} {s t : State} (h : Within k s t) (hk : k.testBit 25 = false) : t.trim = s.trim := by
  have := congrArg State.trim h.same
  simp only [blank, hk] at this
  exact this.symm

theorem Within.saf_eq {k : Nat} {s t : State} (h : Within k s t) (hk : k.testBit 26 = false) : t.saf = s.saf := by
  have := congrArg State.saf h.same
  simp only [blank, hk] at this
  exact this.symm

theorem Within.stns_eq {k : Nat} {s t : State} (h : Within k s t) (hk : k.testBit 27 = false) : t.stns = s.stns := by
  have := congrArg State.stns h.same
  simp only [blank, hk] at this
  exact this.symm

theorem Within.escs_eq {k : Nat} {s t : State} (h : Within k s t) (hk : k.testBit 28 = false) : t.escs = s.escs := by
  have := congrArg State.escs h.same
  simp only [blank, hk] at this
  exact this.symm

theorem Within.loops_eq {k : Nat} {s t : State} (h : Within k s t) (hk : k.testBit 29 = false) : t.loops = s.loops := by
  have := congrArg State.loops h.same
  simp only [blank, hk] at this
  exact this.symm

theorem Within.rdl_eq {k : Nat} {s t : State} (h : Within k s t) (hk : k.testBit 30 = false) : t.rdl = s.rdl := by
  have := congrArg State.rdl h.same
  simp only [blank, hk] at this
  exact this.symm

theorem Within.net_eq {k : Nat} {s t : State} (h : Within k s t) (hk : k.testBit 31 = false) : t.net = s.net := by
  have := congrArg State.net h.same
  simp only [blank, hk] at this
  exact this.symm

theorem Within.ptp_eq {k : Nat} {s t : State} (h : Within k s t) (hk : k.testBit 32 = false) : t.ptp = s.ptp := by
  have := congrArg State.ptp h.same
  simp only [blank, hk] at this
  exact this.symm

theorem Within.hdp_eq {k : Nat} {s t : State} (h : Within k s t) (hk : k.testBit 33 = false) : t.hdp = s.hdp := by
  have := congrArg State.hdp h.same
  simp only [blank, hk] at this
  exact this.symm

theorem Within.ksap_eq {k : Nat} {s t : State} (h : Within k s t) (hk : k.testBit 34 = false) : t.ksap = s.ksap := by
  have := congrArg State.ksap h.same
  simp only [blank, hk] at this
  exact this.symm

theorem Within.toField_eq {k : Nat} {s t : State} (h : Within k s t) (hk : k.testBit 35 = false) : t.toField = s.toField := by
  have := congrArg State.toField h.same
  simp only [blank, hk] at this
  exact this.symm

theorem Within.toHost_eq {k : Nat} {s t : State} (h : Within k s t) (hk : k.testBit 36 = false) : t.toHost = s.toHost := by
  have := congrArg State.toHost h.same
  simp only [blank, hk] at this
  exact this.symm

theorem Within.outbox_eq {k : Nat} {s t : State} (h : Within k s t) (hk : k.testBit 37 = false) : t.outbox = s.outbox := by
  have := congrArg State.outbox h.same
  simp only [blank, hk] at this
  exact this.symm

theorem Within.freeCtr_eq {k : Nat} {s t : State} (h : Within k s t) (hk : k.testBit 38 = false) : t.freeCtr = s.freeCtr := by
  have := congrArg State.freeCtr h.same
  simp only [blank, hk] at this
  exact this.symm

/-- The queue of waiting commands is never changed by a command. -/
theorem Within.pending_eq {k : Nat} {s t : State} (h : Within k s t) : t.pending = s.pending := (congrArg State.pending h.same).symm

/-! ### Registers and fields -/

@[simp] theorem reg_setReg_same (s : State) (a : Nat) (w : Word) : (s.setReg a w).reg a = w := Sparse.get_set_same _ _ _ _

theorem reg_setReg_ne (s : State) {a b : Nat} (w : Word) (h : a ≠ b) : (s.setReg b w).reg a = s.reg a := Sparse.get_set_ne _ _ _ h

theorem reg_setFld_ne (s : State) {a : Nat} {f : Field} (v : Nat) (h : a ≠ f.addr) : (s.setFld f v).reg a = s.reg a := reg_setReg_ne s _ h

theorem reg_setFlag_ne (s : State) {a : Nat} {f : Field} (b : Bool) (h : a ≠ f.addr) : (s.setFlag f b).reg a = s.reg a := reg_setReg_ne s _ h

theorem mask_bit (lo n i : Nat) : ((2 ^ n - 1) * 2 ^ lo).testBit i = (decide (lo ≤ i) && decide (i < lo + n)) := by
  rw [Nat.testBit_mul_two_pow, Nat.testBit_two_pow_sub_one]
  by_cases h : lo ≤ i <;> simp [h]; omega

theorem part_bit (v lo n i : Nat) : ((v % 2 ^ n) * 2 ^ lo).testBit i = (decide (lo ≤ i) && decide (i < lo + n) && v.testBit (i - lo)) := by
  rw [Nat.testBit_mul_two_pow, Nat.testBit_mod_two_pow]
  by_cases h : lo ≤ i
  · have : (i - lo < n) = (i < lo + n) := by simp only [eq_iff_iff]; omega
    simp [h, this]
  · simp [h]

theorem wordWith_bit (w : Word) (lo n v i : Nat) (hi : i < 32) :
    (wordWith w lo n v).getLsbD i = if lo ≤ i ∧ i < lo + n then v.testBit (i - lo) else w.getLsbD i := by
  unfold wordWith
  rw [BitVec.getLsbD_or, BitVec.getLsbD_and, BitVec.getLsbD_not, BitVec.getLsbD_ofNat, BitVec.getLsbD_ofNat, mask_bit, part_bit]
  by_cases h1 : lo ≤ i <;> by_cases h2 : i < lo + n <;> simp [h1, h2, hi]

/-- A field read back after a write of the same field. -/
theorem wordField_with_same (w : Word) (lo n v : Nat) (h : lo + n ≤ 32) : wordField (wordWith w lo n v) lo n = v % 2 ^ n := by
  apply Nat.eq_of_testBit_eq
  intro i
  unfold wordField
  rw [BitVec.testBit_toNat, BitVec.getLsbD_extractLsb', Nat.testBit_mod_two_pow]
  by_cases hi : i < n
  · rw [wordWith_bit _ _ _ _ _ (by omega), if_pos (by omega)]
    simp [hi]
  · simp [hi]

/-- A field read back after a write of another field of the same word. -/
theorem wordField_with_other (w : Word) {lo n lo' n' : Nat} (v : Nat) (h : lo' + n' ≤ 32) (d : lo + n ≤ lo' ∨ lo' + n' ≤ lo) :
    wordField (wordWith w lo n v) lo' n' = wordField w lo' n' := by
  apply Nat.eq_of_testBit_eq
  intro i
  unfold wordField
  rw [BitVec.testBit_toNat, BitVec.testBit_toNat, BitVec.getLsbD_extractLsb', BitVec.getLsbD_extractLsb']
  by_cases hi : i < n'
  · rw [wordWith_bit _ _ _ _ _ (by omega), if_neg (by omega)]
  · simp [hi]

theorem wordField_lt (w : Word) (lo n : Nat) : wordField w lo n < 2 ^ n := BitVec.isLt _

theorem fld_setFld_same (s : State) (f : Field) (v : Nat) (h : f.lo + f.width ≤ 32) : (s.setFld f v).fld f = v % 2 ^ f.width := by
  unfold State.fld State.setFld
  rw [reg_setReg_same, wordField_with_same _ _ _ _ h]

theorem fld_setFld_addr (s : State) {f g : Field} (v : Nat) (h : f.addr ≠ g.addr) : (s.setFld g v).fld f = s.fld f := by
  unfold State.fld State.setFld
  rw [reg_setReg_ne _ _ h]

theorem fld_setFld_other (s : State) {f g : Field} (v : Nat) (h : f.lo + f.width ≤ 32) (d : g.lo + g.width ≤ f.lo ∨ f.lo + f.width ≤ g.lo) :
    (s.setFld g v).fld f = s.fld f := by
  by_cases ha : f.addr = g.addr
  · unfold State.fld State.setFld
    rw [ha, reg_setReg_same, wordField_with_other _ _ h d]
  · exact fld_setFld_addr s v ha

theorem fld_setReg_ne (s : State) {f : Field} {a : Nat} (w : Word) (h : f.addr ≠ a) : (s.setReg a w).fld f = s.fld f := by
  unfold State.fld
  rw [reg_setReg_ne _ _ h]

theorem fld_setReg_same (s : State) (f : Field) (w : Word) : (s.setReg f.addr w).fld f = wordField w f.lo f.width := by
  unfold State.fld
  rw [reg_setReg_same]

theorem b2n_lt (b : Bool) : b2n b < 2 := by cases b <;> decide

theorem flag_setFlag_same (s : State) (f : Field) (b : Bool) (hw : f.width = 1) (h : f.lo < 32) : (s.setFlag f b).flag f = b := by
  unfold State.flag State.setFlag
  rw [fld_setFld_same _ _ _ (by omega), hw]
  cases b <;> decide

theorem flag_setFld_addr (s : State) {f g : Field} (v : Nat) (h : f.addr ≠ g.addr) : (s.setFld g v).flag f = s.flag f := by
  unfold State.flag
  rw [fld_setFld_addr _ _ h]

theorem fld_of_reg {s t : State} {f : Field} (h : t.reg f.addr = s.reg f.addr) : t.fld f = s.fld f := by
  unfold State.fld
  rw [h]

theorem flag_of_fld {s t : State} {f : Field} (h : t.fld f = s.fld f) : t.flag f = s.flag f := by
  unfold State.flag
  rw [h]

theorem fld_lt (s : State) (f : Field) : s.fld f < 2 ^ f.width := wordField_lt _ _ _

/-! ### Memory -/

theorem byte_wrBytes_out (s : State) {a j : Nat} (bs : List Byte) (h : j < a ∨ a + bs.length ≤ j) : (s.wrBytes a bs).byte j = s.byte j :=
  Sparse.get_setMany_out _ bs _ h

theorem byte_wrBytes_in (s : State) (a i : Nat) (bs : List Byte) (h : i < bs.length) : (s.wrBytes a bs).byte (a + i) = bs[i] :=
  Sparse.get_setMany_in _ bs _ a i h

theorem bytes_wrBytes_same (s : State) (a : Nat) (bs : List Byte) : (s.wrBytes a bs).bytes a bs.length = bs := by
  apply List.ext_getElem
  · simp [State.bytes]
  · intro i h1 h2
    simp only [State.bytes, List.getElem_map, List.getElem_range]
    exact byte_wrBytes_in s a i bs h2

theorem leBytes_length : ∀ (n v : Nat), (leBytes n v).length = n
  | 0, _ => rfl
  | n + 1, v => by simp [leBytes, leBytes_length n]

theorem leNat_leBytes : ∀ (n v : Nat), leNat (leBytes n v) = v % 256 ^ n
  | 0, v => by simp [leBytes, leNat, Nat.mod_one]
  | n + 1, v => by
    simp only [leBytes, leNat, leNat_leBytes n, BitVec.toNat_ofNat]
    have h : 256 ^ (n + 1) = 256 * 256 ^ n := by ring
    rw [h, Nat.mod_mul]

/-- A little-endian number read back after it was written. -/
theorem rdLE_wrLE (s : State) (a n v : Nat) : (s.wrLE a n v).rdLE a n = v % 256 ^ n := by
  unfold State.rdLE State.wrLE
  have := bytes_wrBytes_same s a (leBytes n v)
  rw [leBytes_length] at this
  rw [this, leNat_leBytes]

end Sys2Proof.Laws
end

