-- ==== Sys2Proof/Laws/Calls.lean ====
section
/-! SUPPORT. What the next call of a task does: one lemma for every block of one output, and the walk's own laws. -/

/- One thread: elaborating these many small proofs side by side can exceed the memory that check.sh allows. -/
set_option Elab.async false

namespace Sys2Proof.Laws
open Sys2Proof Sys2Proof.Machine

/-- A task whose next call names a block has a record. -/
theorem nextCall_lt {s : State} {c op : Nat} {k : Call} (h : s.nextCall c op = some k) : c < s.tasks.length := by
  unfold State.nextCall at h
  split at h
  · rename_i hr
    unfold State.running at hr
    simp only [Bool.and_eq_true] at hr
    by_contra hc
    have : s.task c = Task.reset := by
      unfold State.task
      rw [List.getD_eq_default _ _ (by omega)]
    rw [this] at hr
    exact absurd hr.1 (by decide)
  · cases h

theorem task_setTask_same (s : State) {c : Nat} (t : Task) (h : c < s.tasks.length) : (s.setTask c t).task c = t := by
  unfold State.setTask State.task
  simp [h]

theorem task_setTask_ne (s : State) {c d : Nat} (t : Task) (h : d ≠ c) : (s.setTask c t).task d = s.task d := by
  unfold State.setTask State.task
  simp [List.getD_eq_getElem?_getD, List.getElem?_set_ne (Ne.symm h)]

theorem setTask_setTask (s : State) (c : Nat) (t u : Task) : (s.setTask c t).setTask c u = s.setTask c u := by
  unfold State.setTask
  simp

theorem goTo_setTask (s : State) {c : Nat} (t : Task) (pc : Nat) (h : c < s.tasks.length) :
    (s.setTask c t).goTo c pc = s.setTask c { t with pc := pc, begun := true } := by
  unfold State.goTo
  rw [task_setTask_same _ _ h, setTask_setTask]

theorem runBlock_eq {s : State} {c op : Nat} {k : Call} {f : Call → State → State} (h : s.nextCall c op = some k) :
    runBlock c op f s = (f k s).goTo c ((s.task c).pc + 1 + k.nops) := by
  unfold runBlock
  rw [h]

/-- A block of one output in Q writes the element it computes and goes on to the next call word. -/
theorem runPure_wroteQ {s : State} {c op : Nat} {k : Call} {f : Call → List El → El} {ins : List Opnd} {o : Opnd}
    (h : s.callsQ c op k ins o) : runPure c op f s = s.wroteQ c k o (f k (ins.map (fun a => s.readEl c a))) := by
  obtain ⟨hk, ho, hn, hq⟩ := h
  unfold runPure
  rw [runBlock_eq hk]
  have hlen : k.nops - 1 = ins.length := by omega
  have hins : s.ins c k (k.nops - 1) = ins.map (fun a => s.readEl c a) := by
    unfold State.ins
    rw [hlen, ho, List.take_left]
  have houts : ∀ e, s.outs c k (k.nops - 1) [e] = s.setTask c { s.task c with work := imgWrite (s.task c).work o.off (elBytes o.ty e) } := by
    intro e
    unfold State.outs
    rw [hlen, ho, List.drop_left]
    show s.writeEl c o e = _
    unfold State.writeEl
    simp only [hq]
  rw [hins, houts, goTo_setTask _ _ _ (nextCall_lt hk)]
  rfl

theorem runJump_eq {s : State} {c op : Nat} {k : Call} {cond : State → Call → Bool} (h : s.nextCall c op = some k) :
    runJump c op cond s = s.goTo c (if cond s k then k.target (s.task c).pc else (s.task c).pc + 1 + k.nops) := by
  unfold runJump
  rw [h]

/-- A block with an instance area that writes it once and then its outputs. -/
theorem runBlock_wroteAll {s : State} {c op : Nat} {k : Call} {f : Call → State → State} {ins outs : List Opnd} {bs : List Byte} {es : List El}
    (h : s.callsInst c op k ins outs) (hf : f k s = (s.instWrite c (8 * k.inst) bs).outs c k ins.length es) (hl : es.length = outs.length) :
    runBlock c op f s = s.wroteAll c k bs (outs.zip es) := by
  obtain ⟨hk, ho, hn⟩ := h
  rw [runBlock_eq hk, hf]
  unfold State.outs State.wroteAll
  rw [ho, List.drop_left]
  have : ∀ (os : List Opnd) (es : List El) (t : State), es.length = os.length →
      t.writeAll c os es = (os.zip es).foldl (fun t p => t.writeEl c p.1 p.2) t := by
    intro os
    induction os with
    | nil => intro es t h; cases es <;> rfl
    | cons o os ih =>
      intro es t h
      cases es with
      | nil => cases h
      | cons e es => exact ih es _ (by simpa using h)
  rw [this _ _ _ hl]

/-- The inputs of such a block. -/
theorem ins_callsInst {s : State} {c op : Nat} {k : Call} {ins outs : List Opnd} (h : s.callsInst c op k ins outs) :
    s.ins c k ins.length = ins.map (fun o => s.readEl c o) := by
  unfold State.ins
  rw [h.2.1, List.take_left]

theorem ofR64_five (v : Nat) : ofR64 5 v = (v, false) := by
  unfold ofR64
  rw [if_neg (by decide)]

/-- ROC's rate in REAL64. -/
theorem rocRate_five (a b d : Nat) : rocRate 5 a b d =
    ((fmt64.round ((r64 (fmt64.round ((r64 a).sub (r64 b))).bits).div (r64 d))).bits, (fmt64.round ((r64 a).sub (r64 b))).ovf ||
      (fmt64.round ((r64 (fmt64.round ((r64 a).sub (r64 b))).bits).div (r64 d))).ovf) := by
  unfold rocRate
  dsimp only
  rw [ofR64_five]
  dsimp only
  rw [Bool.or_false]

/-- The sum of a chain. -/
theorem foldl_add_sum : ∀ (l : List Int) (a : Int), l.foldl (· + ·) a = a + l.sum
  | [], a => by simp
  | b :: l, a => by simp [foldl_add_sum l, add_assoc]

theorem foldl_mul_prod : ∀ (l : List Int) (a : Int), l.foldl (· * ·) a = a * l.prod
  | [], a => by simp
  | b :: l, a => by simp [foldl_mul_prod l, mul_assoc]

end Sys2Proof.Laws
end

