-- ==== Sys2Proof/Laws/WithinOps.lean ====
section
/-! SUPPORT. What each operation of Machine/Ops.lean can do to the state (see Laws/Within.lean). -/

/- One thread: elaborating these many small proofs side by side can exceed the memory that check.sh allows. -/
set_option Elab.async false

namespace Sys2Proof.Laws
open Sys2Proof Sys2Proof.Machine

theorem State_setFld_within {k : Nat} {s0 : State} {a0 : State} {a1 : _} {a2 : _} (hk : 1 &&& k = 1) (h : Within k s0 a0) : Within k s0 (State.setFld a0 a1 a2) := by
  unfold Sys2Proof.Machine.State.setFld
  exact State_setReg_within (sub_trans rfl hk) h

theorem State_setFlag_within {k : Nat} {s0 : State} {a0 : State} {a1 : _} {a2 : _} (hk : 1 &&& k = 1) (h : Within k s0 a0) : Within k s0 (State.setFlag a0 a1 a2) := by
  unfold Sys2Proof.Machine.State.setFlag
  exact State_setFld_within (sub_trans rfl hk) h

theorem State_bump_within {k : Nat} {s0 : State} {a0 : State} {a1 : _} {a2 : _} (hk : 1 &&& k = 1) (h : Within k s0 a0) : Within k s0 (State.bump a0 a1 a2) := by
  unfold Sys2Proof.Machine.State.bump
  refine Within.ite (fun _ => ?_) (fun _ => ?_)
  · exact State_setFld_within (sub_trans rfl hk) h
  · exact State_setFlag_within (sub_trans rfl hk) (State_setFld_within (sub_trans rfl hk) h)

theorem State_bumpOnly_within {k : Nat} {s0 : State} {a0 : State} {a1 : _} (hk : 1 &&& k = 1) (h : Within k s0 a0) : Within k s0 (State.bumpOnly a0 a1) := by
  unfold Sys2Proof.Machine.State.bumpOnly
  exact State_setFld_within (sub_trans rfl hk) h

theorem State_wrLE_within {k : Nat} {s0 : State} {a0 : State} {a1 : _} {a2 : _} {a3 : _} (hk : 2 &&& k = 2) (h : Within k s0 a0) : Within k s0 (State.wrLE a0 a1 a2 a3) := by
  unfold Sys2Proof.Machine.State.wrLE
  exact State_wrBytes_within (sub_trans rfl hk) h

theorem State_toTime_within {k : Nat} {s0 : State} {a0 : State} {a1 : _} (hk : 56 &&& k = 56) (h : Within k s0 a0) : Within k s0 (State.toTime a0 a1) := by
  unfold Sys2Proof.Machine.State.toTime
  refine Within.ite (fun _ => ?_) (fun _ => ?_)
  · exact h
  · extract_lets -underBinder +onlyGivenNames x1
    try clear_value x1
    refine Within.ite (fun _ => ?_) (fun _ => ?_)
    · exact h
    · exact State_cycles_within (sub_trans rfl hk) h

theorem State_toMono_within {k : Nat} {s0 : State} {a0 : State} {a1 : _} (hk : 56 &&& k = 56) (h : Within k s0 a0) : Within k s0 (State.toMono a0 a1) := by
  unfold Sys2Proof.Machine.State.toMono
  refine Within.ite (fun _ => ?_) (fun _ => ?_)
  · exact h
  · exact State_cycles_within (sub_trans rfl hk) h

theorem State_rimSend_within {k : Nat} {s0 : State} {a0 : State} {a1 : _} (hk : 34359738368 &&& k = 34359738368) (h : Within k s0 a0) : Within k s0 (State.rimSend a0 a1) := by
  unfold Sys2Proof.Machine.State.rimSend
  exact Within.set_toField (sub_trans rfl hk) h

theorem State_latchAll_within {k : Nat} {s0 : State} {a0 : State} {a1 : _} {a2 : _} (hk : 4 &&& k = 4) (h : Within k s0 a0) : Within k s0 (State.latchAll a0 a1 a2) := by
  induction a2 generalizing a0 a1 with
  | nil =>
    unfold Sys2Proof.Machine.State.latchAll
    exact h
  | cons _ _ ih =>
    unfold Sys2Proof.Machine.State.latchAll
    apply ih
    exact Within.set_latches (sub_trans rfl hk) h

theorem State_readQuiet_within2 {k : Nat} {s0 : State} {a0 : State} {a1 : _} {a2 : _} (hk : 4 &&& k = 4) (h : Within k s0 a0) : Within k s0 (State.readQuiet a0 a1 a2).2 := by
  unfold Sys2Proof.Machine.State.readQuiet
  split
  · exact h
  · exact State_latchAll_within (sub_trans rfl hk) h

theorem State_snapRead_within2 {k : Nat} {s0 : State} {a0 : State} {a1 : _} (hk : 4 &&& k = 4) (h : Within k s0 a0) : Within k s0 (State.snapRead a0 a1).2 := by
  unfold Sys2Proof.Machine.State.snapRead
  split
  · exact State_readQuiet_within2 (sub_trans rfl hk) h
  · exact h
  · exact h

theorem State_snapAll_within1 {k : Nat} {s0 : State} {a0 : State} {a1 : _} (hk : 4 &&& k = 4) (h : Within k s0 a0) : Within k s0 (State.snapAll a0 a1).1 := by
  induction a1 generalizing a0 with
  | nil =>
    unfold Sys2Proof.Machine.State.snapAll
    show Within k s0 _
    exact h
  | cons _ _ ih =>
    unfold Sys2Proof.Machine.State.snapAll
    extract_lets -underBinder +onlyGivenNames x1
    have hx1 : Within k s0 x1.2 := by
      exact State_snapRead_within2 (sub_trans rfl hk) h
    try clear_value x1
    extract_lets -underBinder +onlyGivenNames x2
    have hx2 : Within k s0 x2.1 := by
      apply ih
      exact hx1
    try clear_value x2
    show Within k s0 _
    exact hx2

theorem State_setPending_within {k : Nat} {s0 : State} {a0 : State} {a1 : _} {a2 : _} (hk : 1 &&& k = 1) (h : Within k s0 a0) : Within k s0 (State.setPending a0 a1 a2) := by
  unfold Sys2Proof.Machine.State.setPending
  exact State_setFld_within (sub_trans rfl hk) h

theorem State_occur_within {k : Nat} {s0 : State} {a0 : State} {a1 : _} {a2 : _} {a3 : _} (hk : 257 &&& k = 257) (h : Within k s0 a0) : Within k s0 (State.occur a0 a1 a2 a3) := by
  unfold Sys2Proof.Machine.State.occur
  extract_lets -underBinder +onlyGivenNames x1
  have hx1 : Within k s0 x1 := by
    exact State_bump_within (sub_trans rfl hk) h
  try clear_value x1
  extract_lets -underBinder +onlyGivenNames x2
  have hx2 : Within k s0 x2 := by
    exact State_setReg_within (sub_trans rfl hk) (State_setReg_within (sub_trans rfl hk) hx1)
  try clear_value x2
  refine Within.ite (fun _ => ?_) (fun _ => ?_)
  · extract_lets -underBinder +onlyGivenNames x3
    have hx3 : Within k s0 x3 := by
      exact State_setFlag_within (sub_trans rfl hk) (State_setPending_within (sub_trans rfl hk) hx2)
    try clear_value x3
    refine Within.ite (fun _ => ?_) (fun _ => ?_)
    · exact Within.set_cpm (sub_trans rfl hk) hx3
    · exact hx3
  · exact hx2

theorem State_recEntry_within1 {k : Nat} {s0 : State} {a0 : State} {a1 : _} {a2 : _} {a3 : _} {a4 : _} {a5 : _} {a6 : _} {a7 : _} (hk : 4 &&& k = 4) (h : Within k s0 a0) : Within k s0 (State.recEntry a0 a1 a2 a3 a4 a5 a6 a7).1 := by
  unfold Sys2Proof.Machine.State.recEntry
  extract_lets -underBinder +onlyGivenNames x1
  have hx1 : Within k s0 x1.1 := by
    unfold x1
    split
    · exact State_snapAll_within1 (sub_trans rfl hk) h
    · show Within k s0 _
      exact h
  try clear_value x1
  show Within k s0 _
  exact hx1

theorem State_showBuf_within {k : Nat} {s0 : State} {a0 : State} (hk : 1 &&& k = 1) (h : Within k s0 a0) : Within k s0 (State.showBuf a0) := by
  unfold Sys2Proof.Machine.State.showBuf
  extract_lets -underBinder +onlyGivenNames x1
  try clear_value x1
  extract_lets -underBinder +onlyGivenNames x2
  have hx2 : Within k s0 x2 := by
    exact State_setFld_within (sub_trans rfl hk) h
  try clear_value x2
  exact State_setFld_within (sub_trans rfl hk) hx2

theorem State_recClaim_within {k : Nat} {s0 : State} {a0 : State} {a1 : _} {a2 : _} {a3 : _} {a4 : _} {a5 : _} {a6 : _} {a7 : _} (hk : 1285 &&& k = 1285) (h : Within k s0 a0) : Within k s0 (State.recClaim a0 a1 a2 a3 a4 a5 a6 a7) := by
  unfold Sys2Proof.Machine.State.recClaim
  refine Within.ite (fun _ => ?_) (fun _ => ?_)
  · extract_lets -underBinder +onlyGivenNames x1
    have hx1 : Within k s0 x1.1 := by
      exact State_recEntry_within1 (sub_trans rfl hk) h
    try clear_value x1
    refine State_showBuf_within (sub_trans rfl hk) ?_
    extract_lets -underBinder +onlyGivenNames x2
    have hx2 : Within k s0 x2 := by
      exact hx1
    try clear_value x2
    exact Within.set_evr (sub_trans rfl hk) hx2
  · extract_lets -underBinder +onlyGivenNames x3
    have hx3 : Within k s0 x3 := by
      exact State_bump_within (sub_trans rfl hk) h
    try clear_value x3
    split
    · exact State_occur_within (sub_trans rfl hk) (Within.set_evr (sub_trans rfl hk) hx3)
    · exact Within.set_evr (sub_trans rfl hk) hx3

theorem State_recFirst_within {k : Nat} {s0 : State} {a0 : State} {a1 : _} {a2 : _} {a3 : _} {a4 : _} (hk : 1029 &&& k = 1029) (h : Within k s0 a0) : Within k s0 (State.recFirst a0 a1 a2 a3 a4) := by
  unfold Sys2Proof.Machine.State.recFirst
  extract_lets -underBinder +onlyGivenNames x1
  have hx1 : Within k s0 x1.1 := by
    exact State_recEntry_within1 (sub_trans rfl hk) h
  try clear_value x1
  extract_lets -underBinder +onlyGivenNames x2
  try clear_value x2
  refine State_showBuf_within (sub_trans rfl hk) ?_
  extract_lets -underBinder +onlyGivenNames x3
  have hx3 : Within k s0 x3 := by
    exact hx1
  try clear_value x3
  exact Within.set_evr (sub_trans rfl hk) hx3

theorem State_recEvent_within {k : Nat} {s0 : State} {a0 : State} {a1 : _} {a2 : _} {a3 : _} {a4 : _} {a5 : _} (hk : 1285 &&& k = 1285) (h : Within k s0 a0) : Within k s0 (State.recEvent a0 a1 a2 a3 a4 a5) := by
  unfold Sys2Proof.Machine.State.recEvent
  refine Within.ite (fun _ => ?_) (fun _ => ?_)
  · extract_lets -underBinder +onlyGivenNames x1
    try clear_value x1
    extract_lets -underBinder +onlyGivenNames x2
    have hx2 : Within k s0 x2 := by
      exact State_recClaim_within (sub_trans rfl hk) h
    try clear_value x2
    refine Within.ite (fun _ => ?_) (fun _ => ?_)
    · exact Within.set_evr (sub_trans rfl hk) hx2
    · exact hx2
  · exact h

theorem State_raise_within {k : Nat} {s0 : State} {a0 : State} {a1 : _} {a2 : _} {a3 : _} (hk : 1285 &&& k = 1285) (h : Within k s0 a0) : Within k s0 (State.raise a0 a1 a2 a3) := by
  unfold Sys2Proof.Machine.State.raise
  exact State_recEvent_within (sub_trans rfl hk) (State_occur_within (sub_trans rfl hk) h)

theorem State_raiseField_within {k : Nat} {s0 : State} {a0 : State} {a1 : _} (hk : 1285 &&& k = 1285) (h : Within k s0 a0) : Within k s0 (State.raiseField a0 a1) := by
  unfold Sys2Proof.Machine.State.raiseField
  exact State_recEvent_within (sub_trans rfl hk) (State_occur_within (sub_trans rfl hk) h)

theorem State_stopRecord_within {k : Nat} {s0 : State} {a0 : State} {a1 : _} (hk : 1029 &&& k = 1029) (h : Within k s0 a0) : Within k s0 (State.stopRecord a0 a1) := by
  unfold Sys2Proof.Machine.State.stopRecord
  exact State_recFirst_within (sub_trans rfl hk) h

theorem State_busError_within {k : Nat} {s0 : State} {a0 : State} {a1 : _} {a2 : _} (hk : 1413 &&& k = 1413) (h : Within k s0 a0) : Within k s0 (State.busError a0 a1 a2) := by
  unfold Sys2Proof.Machine.State.busError
  exact State_raise_within (sub_trans rfl hk) (Within.set_busErr (sub_trans rfl hk) h)

theorem State_ret_within {k : Nat} {s0 : State} {a0 : State} {a1 : _} {a2 : _} (hk : 192 &&& k = 192) (h : Within k s0 a0) : Within k s0 (State.ret a0 a1 a2) := by
  unfold Sys2Proof.Machine.State.ret
  exact Within.plain (a := 192) (t := a0) (sub_trans rfl hk) h rfl rfl rfl rfl rfl rfl

theorem State_hdpErr_within {k : Nat} {s0 : State} {a0 : State} {a1 : _} (hk : 1285 &&& k = 1285) (h : Within k s0 a0) : Within k s0 (State.hdpErr a0 a1) := by
  unfold Sys2Proof.Machine.State.hdpErr
  exact State_raise_within (sub_trans rfl hk) (State_setFlag_within (sub_trans rfl hk) h)

theorem State_denyWrite_within {k : Nat} {s0 : State} {a0 : State} {a1 : _} {a2 : _} (hk : 1413 &&& k = 1413) (h : Within k s0 a0) : Within k s0 (State.denyWrite a0 a1 a2) := by
  unfold Sys2Proof.Machine.State.denyWrite
  refine Within.ite (fun _ => ?_) (fun _ => ?_)
  · exact State_busError_within (sub_trans rfl hk) (State_hdpErr_within (sub_trans rfl hk) h)
  · exact State_busError_within (sub_trans rfl hk) h

theorem State_setTask_within {k : Nat} {s0 : State} {a0 : State} {a1 : _} {a2 : _} (hk : 1048576 &&& k = 1048576) (h : Within k s0 a0) : Within k s0 (State.setTask a0 a1 a2) := by
  unfold Sys2Proof.Machine.State.setTask
  exact Within.set_tasks (sub_trans rfl hk) h

end Sys2Proof.Laws
end

