-- ==== Sys2Proof/Laws/WithinQueues.lean ====
section
/-! SUPPORT. What each operation of Machine/Queues.lean can do to the state (see Laws/Within.lean). -/

/- One thread: elaborating these many small proofs side by side can exceed the memory that check.sh allows. -/
set_option Elab.async false

namespace Sys2Proof.Laws
open Sys2Proof Sys2Proof.Machine

theorem State_queAttn_within {k : Nat} {s0 : State} {a0 : State} {a1 : _} {a2 : _} (hk : 1285 &&& k = 1285) (h : Within k s0 a0) : Within k s0 (State.queAttn a0 a1 a2) := by
  unfold Sys2Proof.Machine.State.queAttn
  extract_lets -underBinder +onlyGivenNames x1
  try clear_value x1
  refine Within.ite (fun _ => ?_) (fun _ => ?_)
  · exact h
  · exact State_raise_within (sub_trans rfl hk) (State_setFlag_within (sub_trans rfl hk) h)

theorem State_pushResult_within {k : Nat} {s0 : State} {a0 : State} {a1 : _} {a2 : _} {a3 : _} (hk : 4 &&& k = 4) (h : Within k s0 a0) : Within k s0 (State.pushResult a0 a1 a2 a3) := by
  unfold Sys2Proof.Machine.State.pushResult
  exact Within.set_latches (sub_trans rfl hk) h

theorem State_pushRefuse_within {k : Nat} {s0 : State} {a0 : State} {a1 : _} {a2 : _} {a3 : _} (hk : 1285 &&& k = 1285) (h : Within k s0 a0) : Within k s0 (State.pushRefuse a0 a1 a2 a3) := by
  unfold Sys2Proof.Machine.State.pushRefuse
  exact State_raise_within (sub_trans rfl hk) (State_bump_within (sub_trans rfl hk) (State_pushResult_within (sub_trans rfl hk) h))

theorem State_push_within {k : Nat} {s0 : State} {a0 : State} {a1 : _} {a2 : _} {a3 : _} {a4 : _} {a5 : _} (hk : 1287 &&& k = 1287) (h : Within k s0 a0) : Within k s0 (State.push a0 a1 a2 a3 a4 a5) := by
  unfold Sys2Proof.Machine.State.push
  refine Within.ite (fun _ => ?_) (fun _ => ?_)
  · exact State_pushRefuse_within (sub_trans rfl hk) h
  · refine Within.ite (fun _ => ?_) (fun _ => ?_)
    · exact State_pushRefuse_within (sub_trans rfl hk) h
    · refine Within.ite (fun _ => ?_) (fun _ => ?_)
      · exact State_pushRefuse_within (sub_trans rfl hk) h
      · extract_lets -underBinder +onlyGivenNames x1
        try clear_value x1
        extract_lets -underBinder +onlyGivenNames x2
        try clear_value x2
        exact State_pushResult_within (sub_trans rfl hk) (State_setFld_within (sub_trans rfl hk) (State_wrBytes_within (sub_trans rfl hk) h))

theorem quePush_within {k : Nat} {s0 : State} {a0 : _} {a1 : _} {a2 : _} {a3 : State} (hk : 1415 &&& k = 1415) (h : Within k s0 a3) : Within k s0 (quePush a0 a1 a2 a3) := by
  unfold Sys2Proof.Machine.quePush
  refine Within.ite (fun _ => ?_) (fun _ => ?_)
  · exact State_push_within (sub_trans rfl hk) h
  · exact State_denyWrite_within (sub_trans rfl hk) h

theorem execQuePush_within {k : Nat} {s0 t : State} {a0 : _} {a1 : _} {a2 : _} {a3 : State} (hk : 1415 &&& k = 1415) (h : Within k s0 a3) (e : execQuePush a0 a1 a2 a3 = .next t) : Within k s0 t := by
  unfold Sys2Proof.Machine.execQuePush at e
  cases e
  exact quePush_within (sub_trans rfl hk) h

theorem State_doneEv_within {k : Nat} {s0 : State} {a0 : State} {a1 : _} {a2 : _} (hk : 1285 &&& k = 1285) (h : Within k s0 a0) : Within k s0 (State.doneEv a0 a1 a2) := by
  unfold Sys2Proof.Machine.State.doneEv
  refine Within.ite (fun _ => ?_) (fun _ => ?_)
  · exact State_queAttn_within (sub_trans rfl hk) h
  · exact h

theorem queRelease_within {k : Nat} {s0 : State} {a0 : _} {a1 : _} {a2 : State} (hk : 1413 &&& k = 1413) (h : Within k s0 a2) : Within k s0 (queRelease a0 a1 a2) := by
  unfold Sys2Proof.Machine.queRelease
  refine Within.ite (fun _ => ?_) (fun _ => ?_)
  · exact State_denyWrite_within (sub_trans rfl hk) h
  · refine Within.ite (fun _ => ?_) (fun _ => ?_)
    · exact h
    · exact State_doneEv_within (sub_trans rfl hk) (State_setReg_within (sub_trans rfl hk) h)

theorem State_queSetEn_within {k : Nat} {s0 : State} {a0 : State} {a1 : _} {a2 : _} (hk : 1 &&& k = 1) (h : Within k s0 a0) : Within k s0 (State.queSetEn a0 a1 a2) := by
  unfold Sys2Proof.Machine.State.queSetEn
  extract_lets -underBinder +onlyGivenNames x1
  have hx1 : Within k s0 x1 := by
    exact State_setFlag_within (sub_trans rfl hk) h
  try clear_value x1
  refine Within.ite (fun _ => ?_) (fun _ => ?_)
  · exact hx1
  · exact State_setFld_within (sub_trans rfl hk) (State_setFld_within (sub_trans rfl hk) hx1)

theorem queCfgWrite_within {k : Nat} {s0 : State} {a0 : _} {a1 : _} {a2 : _} {a3 : _} {a4 : State} (hk : 1413 &&& k = 1413) (h : Within k s0 a4) : Within k s0 (queCfgWrite a0 a1 a2 a3 a4) := by
  unfold Sys2Proof.Machine.queCfgWrite
  extract_lets -underBinder +onlyGivenNames x1
  have hx1 : ∀ tx1, Within k s0 tx1 → Within k s0 (x1 tx1) := by
    intro tx1 htx1
    exact State_raise_within (sub_trans rfl hk) htx1
  try clear_value x1
  refine Within.ite (fun _ => ?_) (fun _ => ?_)
  · exact State_denyWrite_within (sub_trans rfl hk) h
  · refine Within.ite (fun _ => ?_) (fun _ => ?_)
    · refine Within.ite (fun _ => ?_) (fun _ => ?_)
      · exact State_setReg_within (sub_trans rfl hk) h
      · refine hx1 _ ?_
        exact h
    · refine Within.ite (fun _ => ?_) (fun _ => ?_)
      · exact h
      · extract_lets -underBinder +onlyGivenNames x2
        try clear_value x2
        extract_lets -underBinder +onlyGivenNames x3
        try clear_value x3
        refine Within.ite (fun _ => ?_) (fun _ => ?_)
        · exact State_queSetEn_within (sub_trans rfl hk) h
        · refine Within.ite (fun _ => ?_) (fun _ => ?_)
          · extract_lets -underBinder +onlyGivenNames x4
            have hx4 : Within k s0 x4 := by
              exact State_setReg_within (sub_trans rfl hk) h
            try clear_value x4
            exact State_setFld_within (sub_trans rfl hk) (State_queSetEn_within (sub_trans rfl hk) hx4)
          · refine Within.ite (fun _ => ?_) (fun _ => ?_)
            · refine hx1 _ ?_
              exact State_queSetEn_within (sub_trans rfl hk) h
            · refine hx1 _ ?_
              exact h

theorem execQueCfgWrite_within {k : Nat} {s0 t : State} {a0 : _} {a1 : _} {a2 : _} {a3 : _} {a4 : State} (hk : 1413 &&& k = 1413) (h : Within k s0 a4) (e : execQueCfgWrite a0 a1 a2 a3 a4 = .next t) : Within k s0 t := by
  unfold Sys2Proof.Machine.execQueCfgWrite at e
  cases e
  exact queCfgWrite_within (sub_trans rfl hk) h

theorem State_loseRound_within {k : Nat} {s0 : State} {a0 : State} {a1 : _} (hk : 1285 &&& k = 1285) (h : Within k s0 a0) : Within k s0 (State.loseRound a0 a1) := by
  unfold Sys2Proof.Machine.State.loseRound
  extract_lets -underBinder +onlyGivenNames x1
  try clear_value x1
  extract_lets -underBinder +onlyGivenNames x2
  have hx2 : Within k s0 x2 := by
    exact State_bumpOnly_within (sub_trans rfl hk) h
  try clear_value x2
  extract_lets -underBinder +onlyGivenNames x3
  try clear_value x3
  extract_lets -underBinder +onlyGivenNames x4
  have hx4 : Within k s0 x4 := by
    exact State_setFld_within (sub_trans rfl hk) hx2
  try clear_value x4
  refine Within.ite (fun _ => ?_) (fun _ => ?_)
  · exact State_raise_within (sub_trans rfl hk) (State_bump_within (sub_trans rfl hk) hx4)
  · exact hx4

theorem State_winRound_within {k : Nat} {s0 : State} {a0 : State} {a1 : _} (hk : 2049 &&& k = 2049) (h : Within k s0 a0) : Within k s0 (State.winRound a0 a1) := by
  unfold Sys2Proof.Machine.State.winRound
  extract_lets -underBinder +onlyGivenNames x1
  try clear_value x1
  extract_lets -underBinder +onlyGivenNames x2
  try clear_value x2
  extract_lets -underBinder +onlyGivenNames x3
  have hx3 : Within k s0 x3 := by
    exact State_setFld_within (sub_trans rfl hk) (State_setFld_within (sub_trans rfl hk) (State_setFld_within (sub_trans rfl hk) h))
  try clear_value x3
  exact Within.set_que (sub_trans rfl hk) hx3

theorem State_queReturn_within {k : Nat} {s0 : State} {a0 : State} {a1 : _} {a2 : _} (hk : 2049 &&& k = 2049) (h : Within k s0 a0) : Within k s0 (State.queReturn a0 a1 a2) := by
  induction a2 generalizing a0 a1 with
  | nil =>
    unfold Sys2Proof.Machine.State.queReturn
    exact h
  | cons _ _ ih =>
    unfold Sys2Proof.Machine.State.queReturn
    refine Within.ite (fun _ => ?_) (fun _ => ?_)
    · extract_lets -underBinder +onlyGivenNames x1
      try clear_value x1
      extract_lets -underBinder +onlyGivenNames x2
      have hx2 : Within k s0 x2 := by
        exact State_setFld_within (sub_trans rfl hk) (State_setReg_within (sub_trans rfl hk) h)
      try clear_value x2
      apply ih
      exact Within.set_que (sub_trans rfl hk) hx2
    · apply ih
      exact h

end Sys2Proof.Laws
end

