-- ==== Sys2Proof/Laws/WithinCan.lean ====
section
/-! SUPPORT. What each operation of Machine/Can.lean can do to the state (see Laws/Within.lean). -/

/- One thread: elaborating these many small proofs side by side can exceed the memory that check.sh allows. -/
set_option Elab.async false

namespace Sys2Proof.Laws
open Sys2Proof Sys2Proof.Machine

theorem State_setCan_within {k : Nat} {s0 : State} {a0 : State} {a1 : _} {a2 : _} (hk : 4194304 &&& k = 4194304) (h : Within k s0 a0) : Within k s0 (State.setCan a0 a1 a2) := by
  unfold Sys2Proof.Machine.State.setCan
  exact Within.set_can (sub_trans rfl hk) h

theorem State_canCount_within {k : Nat} {s0 : State} {a0 : State} {a1 : _} {a2 : _} (hk : 1 &&& k = 1) (h : Within k s0 a0) : Within k s0 (State.canCount a0 a1 a2) := by
  unfold Sys2Proof.Machine.State.canCount
  split
  · exact State_bump_within (sub_trans rfl hk) h
  · exact State_bump_within (sub_trans rfl hk) h
  · exact State_bump_within (sub_trans rfl hk) h
  · exact State_bump_within (sub_trans rfl hk) h
  · exact State_bump_within (sub_trans rfl hk) h

theorem State_canQueueDone_within {k : Nat} {s0 : State} {a0 : State} {a1 : _} {a2 : _} {a3 : _} (hk : 274877910279 &&& k = 274877910279) (h : Within k s0 a0) : Within k s0 (State.canQueueDone a0 a1 a2 a3) := by
  unfold Sys2Proof.Machine.State.canQueueDone
  split
  · exact h
  · extract_lets -underBinder +onlyGivenNames x1
    try clear_value x1
    extract_lets -underBinder +onlyGivenNames x2
    try clear_value x2
    extract_lets -underBinder +onlyGivenNames x3
    try clear_value x3
    extract_lets -underBinder +onlyGivenNames x4
    have hx4 : Within k s0 x4 := by
      unfold x4
      refine Within.ite (fun _ => ?_) (fun _ => ?_)
      · exact State_draw_within (sub_trans rfl hk) h
      · exact h
    try clear_value x4
    extract_lets -underBinder +onlyGivenNames x5
    have hx5 : Within k s0 x5 := by
      exact State_wrLE_within (sub_trans rfl hk) (State_wrLE_within (sub_trans rfl hk) hx4)
    try clear_value x5
    exact State_doneEv_within (sub_trans rfl hk) (Within.set_que (sub_trans rfl hk) hx5)

theorem State_canTxFail_within {k : Nat} {s0 : State} {a0 : State} {a1 : _} {a2 : _} {a3 : _} (hk : 1285 &&& k = 1285) (h : Within k s0 a0) : Within k s0 (State.canTxFail a0 a1 a2 a3) := by
  unfold Sys2Proof.Machine.State.canTxFail
  refine Within.ite (fun _ => ?_) (fun _ => ?_)
  · exact h
  · extract_lets -underBinder +onlyGivenNames x1
    have hx1 : Within k s0 x1 := by
      exact State_bump_within (sub_trans rfl hk) (State_setFld_within (sub_trans rfl hk) (State_setFld_within (sub_trans rfl hk) h))
    try clear_value x1
    exact State_raise_within (sub_trans rfl hk) hx1

theorem State_canShowPend_within {k : Nat} {s0 : State} {a0 : State} {a1 : _} {a2 : _} (hk : 1 &&& k = 1) (h : Within k s0 a0) : Within k s0 (State.canShowPend a0 a1 a2) := by
  unfold Sys2Proof.Machine.State.canShowPend
  refine Within.ite (fun _ => ?_) (fun _ => ?_)
  · extract_lets -underBinder +onlyGivenNames x1
    try clear_value x1
    extract_lets -underBinder +onlyGivenNames x2
    try clear_value x2
    exact State_setFlag_within (sub_trans rfl hk) h
  · exact h

theorem State_canFail_within {k : Nat} {s0 : State} {a0 : State} {a1 : _} {a2 : _} {a3 : _} {a4 : _} (hk : 274877910279 &&& k = 274877910279) (h : Within k s0 a0) : Within k s0 (State.canFail a0 a1 a2 a3 a4) := by
  unfold Sys2Proof.Machine.State.canFail
  extract_lets -underBinder +onlyGivenNames x1
  have hx1 : Within k s0 x1 := by
    unfold x1
    refine Within.ite (fun _ => ?_) (fun _ => ?_)
    · exact State_canTxFail_within (sub_trans rfl hk) h
    · exact h
  try clear_value x1
  extract_lets -underBinder +onlyGivenNames x2
  have hx2 : Within k s0 x2 := by
    unfold x2
    refine Within.ite (fun _ => ?_) (fun _ => ?_)
    · exact State_canQueueDone_within (sub_trans rfl hk) hx1
    · exact hx1
  try clear_value x2
  exact State_canShowPend_within (sub_trans rfl hk) hx2

theorem State_canEndAll_within {k : Nat} {s0 : State} {a0 : State} {a1 : _} {a2 : _} {a3 : _} (hk : 274877910279 &&& k = 274877910279) (h : Within k s0 a0) : Within k s0 (State.canEndAll a0 a1 a2 a3) := by
  induction a3 generalizing a0 a1 a2 with
  | nil =>
    unfold Sys2Proof.Machine.State.canEndAll
    exact h
  | cons _ _ ih =>
    unfold Sys2Proof.Machine.State.canEndAll
    apply ih
    exact State_canFail_within (sub_trans rfl hk) h

theorem State_canBusOff_within {k : Nat} {s0 : State} {a0 : State} {a1 : _} (hk : 274882104583 &&& k = 274882104583) (h : Within k s0 a0) : Within k s0 (State.canBusOff a0 a1) := by
  unfold Sys2Proof.Machine.State.canBusOff
  extract_lets -underBinder +onlyGivenNames x1
  have hx1 : Within k s0 x1 := by
    exact State_setFld_within (sub_trans rfl hk) (State_setFlag_within (sub_trans rfl hk) (State_setFld_within (sub_trans rfl hk) h))
  try clear_value x1
  extract_lets -underBinder +onlyGivenNames x2
  have hx2 : Within k s0 x2 := by
    exact State_raise_within (sub_trans rfl hk) (State_bump_within (sub_trans rfl hk) hx1)
  try clear_value x2
  extract_lets -underBinder +onlyGivenNames x3
  try clear_value x3
  extract_lets -underBinder +onlyGivenNames x4
  try clear_value x4
  extract_lets -underBinder +onlyGivenNames x5
  try clear_value x5
  extract_lets -underBinder +onlyGivenNames x6
  have hx6 : Within k s0 x6 := by
    exact State_setCan_within (sub_trans rfl hk) hx2
  try clear_value x6
  extract_lets -underBinder +onlyGivenNames x7
  have hx7 : Within k s0 x7 := by
    exact State_canEndAll_within (sub_trans rfl hk) hx6
  try clear_value x7
  split
  · exact State_canFail_within (sub_trans rfl hk) hx7
  · exact hx7

theorem State_canSetErr_within {k : Nat} {s0 : State} {a0 : State} {a1 : _} {a2 : _} {a3 : _} (hk : 274882104583 &&& k = 274882104583) (h : Within k s0 a0) : Within k s0 (State.canSetErr a0 a1 a2 a3) := by
  unfold Sys2Proof.Machine.State.canSetErr
  extract_lets -underBinder +onlyGivenNames x1
  try clear_value x1
  extract_lets -underBinder +onlyGivenNames x2
  have hx2 : Within k s0 x2 := by
    exact State_setFld_within (sub_trans rfl hk) (State_setFld_within (sub_trans rfl hk) h)
  try clear_value x2
  extract_lets -underBinder +onlyGivenNames x3
  try clear_value x3
  extract_lets -underBinder +onlyGivenNames x4
  have hx4 : Within k s0 x4 := by
    exact State_setFlag_within (sub_trans rfl hk) hx2
  try clear_value x4
  refine Within.ite (fun _ => ?_) (fun _ => ?_)
  · exact State_canBusOff_within (sub_trans rfl hk) hx4
  · extract_lets -underBinder +onlyGivenNames x5
    have hx5 : Within k s0 x5 := by
      exact State_setFld_within (sub_trans rfl hk) hx4
    try clear_value x5
    refine Within.ite (fun _ => ?_) (fun _ => ?_)
    · exact State_raise_within (sub_trans rfl hk) hx5
    · exact hx5

theorem State_canTxErr_within {k : Nat} {s0 : State} {a0 : State} {a1 : _} {a2 : _} (hk : 274882104583 &&& k = 274882104583) (h : Within k s0 a0) : Within k s0 (State.canTxErr a0 a1 a2) := by
  unfold Sys2Proof.Machine.State.canTxErr
  refine Within.ite (fun _ => ?_) (fun _ => ?_)
  · exact h
  · exact State_canSetErr_within (sub_trans rfl hk) h

theorem State_canRxErr_within {k : Nat} {s0 : State} {a0 : State} {a1 : _} {a2 : _} {a3 : _} (hk : 274882104583 &&& k = 274882104583) (h : Within k s0 a0) : Within k s0 (State.canRxErr a0 a1 a2 a3) := by
  unfold Sys2Proof.Machine.State.canRxErr
  exact State_canSetErr_within (sub_trans rfl hk) (State_canCount_within (sub_trans rfl hk) h)

theorem State_canHpShow_within {k : Nat} {s0 s : State} {n : Nat} (hk : 1 &&& k = 1) (h : Within k s0 s) : Within k s0 (s.canHpShow n) := by
  unfold State.canHpShow
  extract_lets +onlyGivenNames p
  clear_value p
  extract_lets +onlyGivenNames x
  have hx : Within k s0 x := State_setFld_within (sub_trans rfl hk) h
  clear_value x
  extract_lets +onlyGivenNames put
  have hput : ∀ t a l, Within k s0 t → Within k s0 (put t a l) := by
    intro t a l ht
    refine Within.foldl (fun _ _ hu => State_setReg_within (sub_trans rfl hk) hu) _ ?_
    exact State_setReg_within (sub_trans rfl hk) (State_setReg_within (sub_trans rfl hk) (State_setReg_within (sub_trans rfl hk)
      (State_setReg_within (sub_trans rfl hk) ht)))
  clear_value put
  split
  · exact hput _ _ _ hx
  · exact hput _ _ _ hx

theorem State_canHiPri_within {k : Nat} {s0 : State} {a0 : State} {a1 : _} {a2 : _} (hk : 4195589 &&& k = 4195589) (h : Within k s0 a0) : Within k s0 (State.canHiPri a0 a1 a2) := by
  unfold Sys2Proof.Machine.State.canHiPri
  extract_lets -underBinder +onlyGivenNames x1
  try clear_value x1
  refine Within.ite (fun _ => ?_) (fun _ => ?_)
  · exact State_bump_within (sub_trans rfl hk) h
  · extract_lets -underBinder +onlyGivenNames x2
    have hx2 : Within k s0 x2 := by
      exact State_canHpShow_within (sub_trans rfl hk) (State_setCan_within (sub_trans rfl hk) h)
    try clear_value x2
    exact State_raise_within (sub_trans rfl hk) hx2

theorem State_canRxDrop_within {k : Nat} {s0 : State} {a0 : State} {a1 : _} {a2 : _} (hk : 1285 &&& k = 1285) (h : Within k s0 a0) : Within k s0 (State.canRxDrop a0 a1 a2) := by
  unfold Sys2Proof.Machine.State.canRxDrop
  exact State_raise_within (sub_trans rfl hk) (State_bump_within (sub_trans rfl hk) h)

theorem State_canFifo_within {k : Nat} {s0 : State} {a0 : State} {a1 : _} {a2 : _} {a3 : _} {a4 : _} {a5 : _} {a6 : _} (hk : 4195591 &&& k = 4195591) (h : Within k s0 a0) : Within k s0 (State.canFifo a0 a1 a2 a3 a4 a5 a6) := by
  unfold Sys2Proof.Machine.State.canFifo
  extract_lets -underBinder +onlyGivenNames x1
  try clear_value x1
  split
  · exact State_canRxDrop_within (sub_trans rfl hk) h
  · extract_lets -underBinder +onlyGivenNames x2
    try clear_value x2
    extract_lets -underBinder +onlyGivenNames x3
    try clear_value x3
    extract_lets -underBinder +onlyGivenNames x4
    have hx4 : Within k s0 x4 := by
      exact State_wrBytes_within (sub_trans rfl hk) h
    try clear_value x4
    refine Within.ite (fun _ => ?_) (fun _ => ?_)
    · extract_lets -underBinder +onlyGivenNames x5
      have hx5 : Within k s0 x5 := by
        exact State_setCan_within (sub_trans rfl hk) hx4
      try clear_value x5
      exact State_push_within (sub_trans rfl hk) hx5
    · exact State_canRxDrop_within (sub_trans rfl hk) (State_push_within (sub_trans rfl hk) hx4)

theorem State_canObject_within {k : Nat} {s0 : State} {a0 : State} {a1 : _} {a2 : _} {a3 : _} {a4 : _} (hk : 4194305 &&& k = 4194305) (h : Within k s0 a0) : Within k s0 (State.canObject a0 a1 a2 a3 a4) := by
  unfold Sys2Proof.Machine.State.canObject
  split
  · exact h
  · refine Within.ite (fun _ => ?_) (fun _ => ?_)
    · exact State_bump_within (sub_trans rfl hk) h
    · extract_lets -underBinder +onlyGivenNames x1
      try clear_value x1
      extract_lets -underBinder +onlyGivenNames x2
      try clear_value x2
      exact State_setCan_within (sub_trans rfl hk) h

theorem State_canRxGood_within {k : Nat} {s0 : State} {a0 : State} {a1 : _} (hk : 274882104583 &&& k = 274882104583) (h : Within k s0 a0) : Within k s0 (State.canRxGood a0 a1) := by
  unfold Sys2Proof.Machine.State.canRxGood
  extract_lets -underBinder +onlyGivenNames x1
  try clear_value x1
  refine Within.ite (fun _ => ?_) (fun _ => ?_)
  · exact h
  · refine Within.ite (fun _ => ?_) (fun _ => ?_)
    · exact State_canSetErr_within (sub_trans rfl hk) h
    · exact State_canSetErr_within (sub_trans rfl hk) (State_draw_within (sub_trans rfl hk) h)

theorem State_canReference_within {k : Nat} {s0 : State} {a0 : State} {a1 : _} {a2 : _} {a3 : _} (hk : 4195589 &&& k = 4195589) (h : Within k s0 a0) : Within k s0 (State.canReference a0 a1 a2 a3) := by
  unfold Sys2Proof.Machine.State.canReference
  refine Within.ite (fun _ => ?_) (fun _ => ?_)
  · exact h
  · refine Within.ite (fun _ => ?_) (fun _ => ?_)
    · exact State_raise_within (sub_trans rfl hk) h
    · refine Within.ite (fun _ => ?_) (fun _ => ?_)
      · extract_lets -underBinder +onlyGivenNames x1
        try clear_value x1
        extract_lets -underBinder +onlyGivenNames x2
        have hx2 : Within k s0 x2 := by
          exact State_setFld_within (sub_trans rfl hk) (State_setFlag_within (sub_trans rfl hk) h)
        try clear_value x2
        extract_lets -underBinder +onlyGivenNames x3
        have hx3 : Within k s0 x3 := by
          exact State_setCan_within (sub_trans rfl hk) hx2
        try clear_value x3
        refine Within.ite (fun _ => ?_) (fun _ => ?_)
        · exact State_raise_within (sub_trans rfl hk) hx3
        · exact hx3
      · exact h

theorem State_canReceive_within {k : Nat} {s0 : State} {a0 : State} {a1 : _} {a2 : _} {a3 : _} {a4 : _} {a5 : _} (hk : 274882104583 &&& k = 274882104583) (h : Within k s0 a0) : Within k s0 (State.canReceive a0 a1 a2 a3 a4 a5) := by
  unfold Sys2Proof.Machine.State.canReceive
  split
  · exact h
  · refine Within.ite (fun _ => ?_) (fun _ => ?_)
    · exact h
    · refine Within.ite (fun _ => ?_) (fun _ => ?_)
      · exact State_canRxErr_within (sub_trans rfl hk) h
      · extract_lets -underBinder +onlyGivenNames x1
        have hx1 : Within k s0 x1 := by
          exact State_canReference_within (sub_trans rfl hk) (State_canRxGood_within (sub_trans rfl hk) h)
        try clear_value x1
        split
        · exact hx1
        · refine Within.ite (fun _ => ?_) (fun _ => ?_)
          · exact hx1
          · split
            · exact State_canObject_within (sub_trans rfl hk) hx1
            · exact State_canFifo_within (sub_trans rfl hk) hx1
            · exact State_canHiPri_within (sub_trans rfl hk) hx1
            · exact hx1

theorem canHpPop_within {k : Nat} {s0 : State} {a0 : _} {a1 : _} {a2 : State} (hk : 4195717 &&& k = 4195717) (h : Within k s0 a2) : Within k s0 (canHpPop a0 a1 a2) := by
  unfold Sys2Proof.Machine.canHpPop
  refine Within.ite (fun _ => ?_) (fun _ => ?_)
  · exact State_denyWrite_within (sub_trans rfl hk) h
  · extract_lets -underBinder +onlyGivenNames x1
    try clear_value x1
    exact State_canHpShow_within (sub_trans rfl hk) (State_setCan_within (sub_trans rfl hk) h)

theorem execCanHpPop_within {k : Nat} {s0 t : State} {a0 : _} {a1 : _} {a2 : State} (hk : 4195717 &&& k = 4195717) (h : Within k s0 a2) (e : execCanHpPop a0 a1 a2 = .next t) : Within k s0 t := by
  unfold Sys2Proof.Machine.execCanHpPop at e
  cases e
  exact canHpPop_within (sub_trans rfl hk) h

theorem State_canStart_within {k : Nat} {s0 : State} {a0 : State} {a1 : _} {a2 : _} (hk : 4194304 &&& k = 4194304) (h : Within k s0 a0) : Within k s0 (State.canStart a0 a1 a2) := by
  unfold Sys2Proof.Machine.State.canStart
  extract_lets -underBinder +onlyGivenNames x1
  try clear_value x1
  exact State_setCan_within (sub_trans rfl hk) h

theorem canTxStart_within {k : Nat} {s0 : State} {a0 : _} {a1 : State} (hk : 4194304 &&& k = 4194304) (h : Within k s0 a1) : Within k s0 (canTxStart a0 a1) := by
  unfold Sys2Proof.Machine.canTxStart
  refine Within.ite (fun _ => ?_) (fun _ => ?_)
  · split
    · exact State_canStart_within (sub_trans rfl hk) h
    · exact h
  · exact h

theorem execCanTxStart_within {k : Nat} {s0 t : State} {a0 : _} {a1 : State} (hk : 4194304 &&& k = 4194304) (h : Within k s0 a1) (e : execCanTxStart a0 a1 = .next t) : Within k s0 t := by
  unfold Sys2Proof.Machine.execCanTxStart at e
  cases e
  exact canTxStart_within (sub_trans rfl hk) h

theorem State_canTdc_within {k : Nat} {s0 : State} {a0 : State} {a1 : _} {a2 : _} (hk : 1 &&& k = 1) (h : Within k s0 a0) : Within k s0 (State.canTdc a0 a1 a2) := by
  unfold Sys2Proof.Machine.State.canTdc
  refine Within.ite (fun _ => ?_) (fun _ => ?_)
  · extract_lets -underBinder +onlyGivenNames x1
    try clear_value x1
    extract_lets -underBinder +onlyGivenNames x2
    have hx2 : Within k s0 x2 := by
      exact State_setFld_within (sub_trans rfl hk) (State_setFld_within (sub_trans rfl hk) h)
    try clear_value x2
    refine Within.ite (fun _ => ?_) (fun _ => ?_)
    · exact State_setFlag_within (sub_trans rfl hk) hx2
    · exact hx2
  · exact h

theorem State_canRetry_within {k : Nat} {s0 : State} {a0 : State} {a1 : _} {a2 : _} (hk : 4194304 &&& k = 4194304) (h : Within k s0 a0) : Within k s0 (State.canRetry a0 a1 a2) := by
  unfold Sys2Proof.Machine.State.canRetry
  extract_lets -underBinder +onlyGivenNames x1
  try clear_value x1
  refine Within.ite (fun _ => ?_) (fun _ => ?_)
  · exact State_setCan_within (sub_trans rfl hk) h
  · exact h

theorem State_canTxFailed_within {k : Nat} {s0 : State} {a0 : State} {a1 : _} {a2 : _} {a3 : _} {a4 : _} (hk : 274882104583 &&& k = 274882104583) (h : Within k s0 a0) : Within k s0 (State.canTxFailed a0 a1 a2 a3 a4) := by
  unfold Sys2Proof.Machine.State.canTxFailed
  refine Within.ite (fun _ => ?_) (fun _ => ?_)
  · exact State_canFail_within (sub_trans rfl hk) h
  · exact State_canShowPend_within (sub_trans rfl hk) (State_canRetry_within (sub_trans rfl hk) h)

theorem State_canDup_within {k : Nat} {s0 : State} {a0 : State} {a1 : _} {a2 : _} (hk : 1285 &&& k = 1285) (h : Within k s0 a0) : Within k s0 (State.canDup a0 a1 a2) := by
  unfold Sys2Proof.Machine.State.canDup
  extract_lets -underBinder +onlyGivenNames x1
  have hx1 : Within k s0 x1 := by
    exact State_bump_within (sub_trans rfl hk) (State_canCount_within (sub_trans rfl hk) h)
  try clear_value x1
  extract_lets -underBinder +onlyGivenNames x2
  have hx2 : Within k s0 x2 := by
    exact State_setReg_within (sub_trans rfl hk) hx1
  try clear_value x2
  exact State_raise_within (sub_trans rfl hk) hx2

theorem canTxEnd_within {k : Nat} {s0 : State} {a0 : _} {a1 : _} {a2 : State} (hk : 412321058055 &&& k = 412321058055) (h : Within k s0 a2) : Within k s0 (canTxEnd a0 a1 a2) := by
  unfold Sys2Proof.Machine.canTxEnd
  extract_lets -underBinder +onlyGivenNames x1
  try clear_value x1
  split
  · exact h
  · extract_lets -underBinder +onlyGivenNames x2
    try clear_value x2
    extract_lets -underBinder +onlyGivenNames x3
    have hx3 : Within k s0 x3 := by
      exact State_setCan_within (sub_trans rfl hk) h
    try clear_value x3
    split
    · extract_lets -underBinder +onlyGivenNames x4
      have hx4 : Within k s0 x4 := by
        unfold x4
        refine Within.ite (fun _ => ?_) (fun _ => ?_)
        · split
          · exact State_canTdc_within (sub_trans rfl hk) hx3
          · exact hx3
        · exact hx3
      try clear_value x4
      extract_lets -underBinder +onlyGivenNames x5
      have hx5 : Within k s0 x5 := by
        exact State_send_within (sub_trans rfl hk) hx4
      try clear_value x5
      extract_lets -underBinder +onlyGivenNames x6
      have hx6 : Within k s0 x6 := by
        exact State_canSetErr_within (sub_trans rfl hk) hx5
      try clear_value x6
      extract_lets -underBinder +onlyGivenNames x7
      have hx7 : Within k s0 x7 := by
        unfold x7
        refine Within.ite (fun _ => ?_) (fun _ => ?_)
        · exact State_canQueueDone_within (sub_trans rfl hk) hx6
        · exact hx6
      try clear_value x7
      extract_lets -underBinder +onlyGivenNames x8
      have hx8 : Within k s0 x8 := by
        unfold x8
        refine Within.ite (fun _ => ?_) (fun _ => ?_)
        · exact State_setFld_within (sub_trans rfl hk) hx7
        · exact hx7
      try clear_value x8
      exact State_canShowPend_within (sub_trans rfl hk) hx8
    · exact State_canTxFailed_within (sub_trans rfl hk) hx3
    · exact State_canTxErr_within (sub_trans rfl hk) (State_canTxFailed_within (sub_trans rfl hk) (State_canCount_within (sub_trans rfl hk) hx3))
    · exact State_canTxErr_within (sub_trans rfl hk) (State_canTxFailed_within (sub_trans rfl hk) (State_canDup_within (sub_trans rfl hk) hx3))

theorem execCanTxEnd_within {k : Nat} {s0 t : State} {a0 : _} {a1 : _} {a2 : State} (hk : 412321058055 &&& k = 412321058055) (h : Within k s0 a2) (e : execCanTxEnd a0 a1 a2 = .next t) : Within k s0 t := by
  unfold Sys2Proof.Machine.execCanTxEnd at e
  cases e
  exact canTxEnd_within (sub_trans rfl hk) h

theorem execCanReceiveError_within {k : Nat} {s0 t : State} {a0 : _} {a1 : _} {a2 : _} {a3 : State} (hk : 274882104583 &&& k = 274882104583) (h : Within k s0 a3) (e : execCanReceiveError a0 a1 a2 a3 = .next t) : Within k s0 t := by
  unfold Sys2Proof.Machine.execCanReceiveError at e
  cases e
  refine Within.ite (fun _ => ?_) (fun _ => ?_)
  · exact State_canRxErr_within (sub_trans rfl hk) h
  · exact h

theorem canRecover_within {k : Nat} {s0 : State} {a0 : _} {a1 : _} {a2 : _} {a3 : State} (hk : 4195717 &&& k = 4195717) (h : Within k s0 a3) : Within k s0 (canRecover a0 a1 a2 a3) := by
  unfold Sys2Proof.Machine.canRecover
  refine Within.ite (fun _ => ?_) (fun _ => ?_)
  · exact State_denyWrite_within (sub_trans rfl hk) h
  · refine Within.ite (fun _ => ?_) (fun _ => ?_)
    · exact State_setCan_within (sub_trans rfl hk) h
    · exact h

theorem execCanRecover_within {k : Nat} {s0 t : State} {a0 : _} {a1 : _} {a2 : _} {a3 : State} (hk : 4195717 &&& k = 4195717) (h : Within k s0 a3) (e : execCanRecover a0 a1 a2 a3 = .next t) : Within k s0 t := by
  unfold Sys2Proof.Machine.execCanRecover at e
  cases e
  exact canRecover_within (sub_trans rfl hk) h

theorem canBusOn_within {k : Nat} {s0 : State} {a0 : _} {a1 : State} (hk : 4195589 &&& k = 4195589) (h : Within k s0 a1) : Within k s0 (canBusOn a0 a1) := by
  unfold Sys2Proof.Machine.canBusOn
  refine Within.ite (fun _ => ?_) (fun _ => ?_)
  · extract_lets -underBinder +onlyGivenNames x1
    try clear_value x1
    extract_lets -underBinder +onlyGivenNames x2
    have hx2 : Within k s0 x2 := by
      exact State_setCan_within (sub_trans rfl hk) h
    try clear_value x2
    extract_lets -underBinder +onlyGivenNames x3
    have hx3 : Within k s0 x3 := by
      exact State_setFld_within (sub_trans rfl hk) (State_setReg_within (sub_trans rfl hk) hx2)
    try clear_value x3
    exact State_raise_within (sub_trans rfl hk) hx3
  · exact h

theorem execCanBusOn_within {k : Nat} {s0 t : State} {a0 : _} {a1 : State} (hk : 4195589 &&& k = 4195589) (h : Within k s0 a1) (e : execCanBusOn a0 a1 = .next t) : Within k s0 t := by
  unfold Sys2Proof.Machine.execCanBusOn at e
  cases e
  exact canBusOn_within (sub_trans rfl hk) h

theorem ttcanSyncLoss_within {k : Nat} {s0 : State} {a0 : _} {a1 : State} (hk : 4195645 &&& k = 4195645) (h : Within k s0 a1) : Within k s0 (ttcanSyncLoss a0 a1) := by
  unfold Sys2Proof.Machine.ttcanSyncLoss
  refine Within.ite (fun _ => ?_) (fun _ => ?_)
  · extract_lets -underBinder +onlyGivenNames x1
    try clear_value x1
    extract_lets -underBinder +onlyGivenNames x2
    have hx2 : Within k s0 x2 := by
      exact State_toMono_within (sub_trans rfl hk) h
    try clear_value x2
    extract_lets -underBinder +onlyGivenNames x3
    have hx3 : Within k s0 x3 := by
      exact State_setCan_within (sub_trans rfl hk) (State_setFlag_within (sub_trans rfl hk) hx2)
    try clear_value x3
    exact State_raise_within (sub_trans rfl hk) hx3
  · exact h

theorem execTtcanSyncLoss_within {k : Nat} {s0 t : State} {a0 : _} {a1 : State} (hk : 4195645 &&& k = 4195645) (h : Within k s0 a1) (e : execTtcanSyncLoss a0 a1 = .next t) : Within k s0 t := by
  unfold Sys2Proof.Machine.execTtcanSyncLoss at e
  cases e
  exact ttcanSyncLoss_within (sub_trans rfl hk) h

theorem State_canAbortBus_within {k : Nat} {s0 : State} {a0 : State} {a1 : _} (hk : 274882104583 &&& k = 274882104583) (h : Within k s0 a0) : Within k s0 (State.canAbortBus a0 a1) := by
  unfold Sys2Proof.Machine.State.canAbortBus
  extract_lets -underBinder +onlyGivenNames x1
  try clear_value x1
  split
  · exact h
  · exact State_canFail_within (sub_trans rfl hk) (State_setCan_within (sub_trans rfl hk) h)

theorem State_canRestrict_within {k : Nat} {s0 : State} {a0 : State} {a1 : _} {a2 : _} (hk : 274882104583 &&& k = 274882104583) (h : Within k s0 a0) : Within k s0 (State.canRestrict a0 a1 a2) := by
  induction a2 generalizing a0 a1 with
  | nil =>
    unfold Sys2Proof.Machine.State.canRestrict
    exact h
  | cons _ _ ih =>
    unfold Sys2Proof.Machine.State.canRestrict
    refine Within.ite (fun _ => ?_) (fun _ => ?_)
    · apply ih
      exact h
    · extract_lets -underBinder +onlyGivenNames x1
      have hx1 : Within k s0 x1 := by
        unfold x1
        refine Within.ite (fun _ => ?_) (fun _ => ?_)
        · exact State_canAbortBus_within (sub_trans rfl hk) h
        · exact h
      try clear_value x1
      extract_lets -underBinder +onlyGivenNames x2
      try clear_value x2
      extract_lets -underBinder +onlyGivenNames x3
      have hx3 : Within k s0 x3 := by
        exact State_setCan_within (sub_trans rfl hk) hx1
      try clear_value x3
      apply ih
      exact State_setFlag_within (sub_trans rfl hk) hx3

theorem State_canStop_within {k : Nat} {s0 : State} {a0 : State} {a1 : _} (hk : 274882104583 &&& k = 274882104583) (h : Within k s0 a0) : Within k s0 (State.canStop a0 a1) := by
  induction a1 generalizing a0 with
  | nil =>
    unfold Sys2Proof.Machine.State.canStop
    exact h
  | cons _ _ ih =>
    unfold Sys2Proof.Machine.State.canStop
    extract_lets -underBinder +onlyGivenNames x1
    have hx1 : Within k s0 x1 := by
      exact State_canAbortBus_within (sub_trans rfl hk) h
    try clear_value x1
    extract_lets -underBinder +onlyGivenNames x2
    try clear_value x2
    extract_lets -underBinder +onlyGivenNames x3
    have hx3 : Within k s0 x3 := by
      exact State_setCan_within (sub_trans rfl hk) hx1
    try clear_value x3
    extract_lets -underBinder +onlyGivenNames x4
    have hx4 : Within k s0 x4 := by
      exact State_canEndAll_within (sub_trans rfl hk) hx3
    try clear_value x4
    extract_lets -underBinder +onlyGivenNames x5
    have hx5 : Within k s0 x5 := by
      unfold x5
      split
      · exact State_canFail_within (sub_trans rfl hk) hx4
      · exact hx4
    try clear_value x5
    apply ih
    exact hx5

end Sys2Proof.Laws
end

