-- ==== Sys2Proof/Laws/WithinMailboxes.lean ====
section
/-! SUPPORT. What each operation of Machine/Mailboxes.lean can do to the state (see Laws/Within.lean). -/

/- One thread: elaborating these many small proofs side by side can exceed the memory that check.sh allows. -/
set_option Elab.async false

namespace Sys2Proof.Laws
open Sys2Proof Sys2Proof.Machine

theorem State_mbxAttn_within {k : Nat} {s0 : State} {a0 : State} {a1 : _} (hk : 1285 &&& k = 1285) (h : Within k s0 a0) : Within k s0 (State.mbxAttn a0 a1) := by
  unfold Sys2Proof.Machine.State.mbxAttn
  extract_lets -underBinder +onlyGivenNames x1
  try clear_value x1
  extract_lets -underBinder +onlyGivenNames x2
  try clear_value x2
  refine Within.ite (fun _ => ?_) (fun _ => ?_)
  · exact h
  · exact State_raise_within (sub_trans rfl hk) (State_setFlag_within (sub_trans rfl hk) h)

theorem State_stageToRx_within {k : Nat} {s0 : State} {a0 : State} {a1 : _} {a2 : _} (hk : 1 &&& k = 1) (h : Within k s0 a0) : Within k s0 (State.stageToRx a0 a1 a2) := by
  induction a2 generalizing a0 a1 with
  | nil =>
    unfold Sys2Proof.Machine.State.stageToRx
    exact h
  | cons _ _ ih =>
    unfold Sys2Proof.Machine.State.stageToRx
    apply ih
    exact State_setReg_within (sub_trans rfl hk) h

theorem State_mbxAccept_within {k : Nat} {s0 : State} {a0 : State} {a1 : _} {a2 : _} {a3 : _} (hk : 34359743749 &&& k = 34359743749) (h : Within k s0 a0) : Within k s0 (State.mbxAccept a0 a1 a2 a3) := by
  unfold Sys2Proof.Machine.State.mbxAccept
  extract_lets -underBinder +onlyGivenNames x1
  try clear_value x1
  extract_lets -underBinder +onlyGivenNames x2
  have hx2 : Within k s0 x2 := by
    exact State_stageToRx_within (sub_trans rfl hk) h
  try clear_value x2
  extract_lets -underBinder +onlyGivenNames x3
  have hx3 : Within k s0 x3 := by
    exact State_setReg_within (sub_trans rfl hk) hx2
  try clear_value x3
  extract_lets -underBinder +onlyGivenNames x4
  have hx4 : Within k s0 x4 := by
    exact State_setFlag_within (sub_trans rfl hk) hx3
  try clear_value x4
  extract_lets -underBinder +onlyGivenNames x5
  try clear_value x5
  extract_lets -underBinder +onlyGivenNames x6
  have hx6 : Within k s0 x6 := by
    exact Within.set_mbx (sub_trans rfl hk) hx4
  try clear_value x6
  refine Within.ite (fun _ => ?_) (fun _ => ?_)
  · exact State_rimSend_within (sub_trans rfl hk) hx6
  · exact State_raise_within (sub_trans rfl hk) hx6

theorem mbxPost_within {k : Nat} {s0 : State} {a0 : _} {a1 : _} {a2 : _} {a3 : State} (hk : 34359743877 &&& k = 34359743877) (h : Within k s0 a3) : Within k s0 (mbxPost a0 a1 a2 a3) := by
  unfold Sys2Proof.Machine.mbxPost
  extract_lets -underBinder +onlyGivenNames x1
  try clear_value x1
  refine Within.ite (fun _ => ?_) (fun _ => ?_)
  · exact State_denyWrite_within (sub_trans rfl hk) h
  · refine Within.ite (fun _ => ?_) (fun _ => ?_)
    · exact State_mbxAttn_within (sub_trans rfl hk) (State_setFlag_within (sub_trans rfl hk) h)
    · exact State_mbxAccept_within (sub_trans rfl hk) h

theorem execMbxPost_within {k : Nat} {s0 t : State} {a0 : _} {a1 : _} {a2 : _} {a3 : State} (hk : 34359743877 &&& k = 34359743877) (h : Within k s0 a3) (e : execMbxPost a0 a1 a2 a3 = .next t) : Within k s0 t := by
  unfold Sys2Proof.Machine.execMbxPost at e
  cases e
  exact mbxPost_within (sub_trans rfl hk) h

theorem State_stage_within {k : Nat} {s0 : State} {a0 : State} {a1 : _} {a2 : _} {a3 : _} (hk : 1 &&& k = 1) (h : Within k s0 a0) : Within k s0 (State.stage a0 a1 a2 a3) := by
  induction a3 generalizing a0 a1 a2 with
  | nil =>
    unfold Sys2Proof.Machine.State.stage
    exact h
  | cons _ _ ih =>
    unfold Sys2Proof.Machine.State.stage
    apply ih
    exact State_setReg_within (sub_trans rfl hk) h

theorem State_hostPost_within {k : Nat} {s0 : State} {a0 : State} {a1 : _} {a2 : _} {a3 : _} (hk : 34359743749 &&& k = 34359743749) (h : Within k s0 a0) : Within k s0 (State.hostPost a0 a1 a2 a3) := by
  unfold Sys2Proof.Machine.State.hostPost
  extract_lets -underBinder +onlyGivenNames x1
  try clear_value x1
  refine Within.ite (fun _ => ?_) (fun _ => ?_)
  · exact State_mbxAttn_within (sub_trans rfl hk) (State_setFlag_within (sub_trans rfl hk) h)
  · exact State_mbxAccept_within (sub_trans rfl hk) (State_stage_within (sub_trans rfl hk) h)

theorem State_mbxClear_within {k : Nat} {s0 : State} {a0 : State} {a1 : _} (hk : 4097 &&& k = 4097) (h : Within k s0 a0) : Within k s0 (State.mbxClear a0 a1) := by
  unfold Sys2Proof.Machine.State.mbxClear
  extract_lets -underBinder +onlyGivenNames x1
  have hx1 : Within k s0 x1 := by
    exact State_setFlag_within (sub_trans rfl hk) h
  try clear_value x1
  exact Within.set_mbx (sub_trans rfl hk) hx1

theorem mbxTake_within {k : Nat} {s0 : State} {a0 : _} {a1 : _} {a2 : State} (hk : 34359743877 &&& k = 34359743877) (h : Within k s0 a2) : Within k s0 (mbxTake a0 a1 a2) := by
  unfold Sys2Proof.Machine.mbxTake
  refine Within.ite (fun _ => ?_) (fun _ => ?_)
  · exact State_denyWrite_within (sub_trans rfl hk) h
  · refine Within.ite (fun _ => ?_) (fun _ => ?_)
    · extract_lets -underBinder +onlyGivenNames x1
      have hx1 : Within k s0 x1 := by
        exact State_mbxClear_within (sub_trans rfl hk) h
      try clear_value x1
      refine Within.ite (fun _ => ?_) (fun _ => ?_)
      · exact State_rimSend_within (sub_trans rfl hk) hx1
      · exact hx1
    · exact h

theorem execMbxTake_within {k : Nat} {s0 t : State} {a0 : _} {a1 : _} {a2 : State} (hk : 34359743877 &&& k = 34359743877) (h : Within k s0 a2) (e : execMbxTake a0 a1 a2 = .next t) : Within k s0 t := by
  unfold Sys2Proof.Machine.execMbxTake at e
  cases e
  exact mbxTake_within (sub_trans rfl hk) h

theorem mbxTimeout_within {k : Nat} {s0 : State} {a0 : _} {a1 : State} (hk : 5437 &&& k = 5437) (h : Within k s0 a1) : Within k s0 (mbxTimeout a0 a1) := by
  unfold Sys2Proof.Machine.mbxTimeout
  split
  · extract_lets -underBinder +onlyGivenNames x1
    try clear_value x1
    refine Within.ite (fun _ => ?_) (fun _ => ?_)
    · exact h
    · extract_lets -underBinder +onlyGivenNames x2
      have hx2 : Within k s0 x2 := by
        exact State_toMono_within (sub_trans rfl hk) h
      try clear_value x2
      extract_lets -underBinder +onlyGivenNames x3
      try clear_value x3
      extract_lets -underBinder +onlyGivenNames x4
      have hx4 : Within k s0 x4 := by
        exact Within.set_mbx (sub_trans rfl hk) hx2
      try clear_value x4
      exact State_mbxAttn_within (sub_trans rfl hk) (State_setFlag_within (sub_trans rfl hk) hx4)
  · exact h

theorem execMbxTimeout_within {k : Nat} {s0 t : State} {a0 : _} {a1 : State} (hk : 5437 &&& k = 5437) (h : Within k s0 a1) (e : execMbxTimeout a0 a1 = .next t) : Within k s0 t := by
  unfold Sys2Proof.Machine.execMbxTimeout at e
  cases e
  exact mbxTimeout_within (sub_trans rfl hk) h

theorem State_lockGrant_within {k : Nat} {s0 : State} {a0 : State} {a1 : _} {a2 : _} (hk : 8193 &&& k = 8193) (h : Within k s0 a0) : Within k s0 (State.lockGrant a0 a1 a2) := by
  unfold Sys2Proof.Machine.State.lockGrant
  extract_lets -underBinder +onlyGivenNames x1
  have hx1 : Within k s0 x1 := by
    exact State_setFld_within (sub_trans rfl hk) h
  try clear_value x1
  exact Within.set_locks (sub_trans rfl hk) hx1

theorem State_lockFree_within {k : Nat} {s0 : State} {a0 : State} {a1 : _} (hk : 8193 &&& k = 8193) (h : Within k s0 a0) : Within k s0 (State.lockFree a0 a1) := by
  unfold Sys2Proof.Machine.State.lockFree
  extract_lets -underBinder +onlyGivenNames x1
  have hx1 : Within k s0 x1 := by
    exact State_setFld_within (sub_trans rfl hk) h
  try clear_value x1
  exact Within.set_locks (sub_trans rfl hk) hx1

theorem State_lockAnswer_within {k : Nat} {s0 : State} {a0 : State} {a1 : _} {a2 : _} (hk : 193 &&& k = 193) (h : Within k s0 a0) : Within k s0 (State.lockAnswer a0 a1 a2) := by
  induction a2 generalizing a0 a1 with
  | nil =>
    unfold Sys2Proof.Machine.State.lockAnswer
    exact h
  | cons _ _ ih =>
    unfold Sys2Proof.Machine.State.lockAnswer
    extract_lets -underBinder +onlyGivenNames x1
    try clear_value x1
    extract_lets -underBinder +onlyGivenNames x2
    try clear_value x2
    extract_lets -underBinder +onlyGivenNames x3
    have hx3 : Within k s0 x3 := by
      unfold x3
      refine Within.ite (fun _ => ?_) (fun _ => ?_)
      · exact State_setReg_within (sub_trans rfl hk) h
      · exact State_ret_within (sub_trans rfl hk) h
    try clear_value x3
    apply ih
    exact hx3

theorem lockAttempt_within {k : Nat} {s0 : State} {a0 : _} {a1 : _} {a2 : State} (hk : 8385 &&& k = 8385) (h : Within k s0 a2) : Within k s0 (lockAttempt a0 a1 a2) := by
  unfold Sys2Proof.Machine.lockAttempt
  extract_lets -underBinder +onlyGivenNames x1
  have hx1 : Within k s0 x1 := by
    unfold x1
    refine Within.ite (fun _ => ?_) (fun _ => ?_)
    · split
      · exact h
      · extract_lets -underBinder +onlyGivenNames x2
        have hx2 : Within k s0 x2 := by
          exact State_lockGrant_within (sub_trans rfl hk) h
        try clear_value x2
        refine Within.ite (fun _ => ?_) (fun _ => ?_)
        · exact State_setFld_within (sub_trans rfl hk) hx2
        · exact hx2
    · exact h
  try clear_value x1
  exact State_lockAnswer_within (sub_trans rfl hk) hx1

theorem execLckAcquire_within {k : Nat} {s0 t : State} {a0 : _} {a1 : _} {a2 : State} (hk : 8385 &&& k = 8385) (h : Within k s0 a2) (e : execLckAcquire a0 a1 a2 = .next t) : Within k s0 t := by
  unfold Sys2Proof.Machine.execLckAcquire at e
  cases e
  exact lockAttempt_within (sub_trans rfl hk) h

theorem State_badRelease_within {k : Nat} {s0 : State} {a0 : State} {a1 : _} {a2 : _} (hk : 1285 &&& k = 1285) (h : Within k s0 a0) : Within k s0 (State.badRelease a0 a1 a2) := by
  unfold Sys2Proof.Machine.State.badRelease
  exact State_raise_within (sub_trans rfl hk) (State_setFlag_within (sub_trans rfl hk) h)

theorem lockRelease_within {k : Nat} {s0 : State} {a0 : _} {a1 : _} {a2 : _} {a3 : State} (hk : 9605 &&& k = 9605) (h : Within k s0 a3) : Within k s0 (lockRelease a0 a1 a2 a3) := by
  unfold Sys2Proof.Machine.lockRelease
  refine Within.ite (fun _ => ?_) (fun _ => ?_)
  · exact State_denyWrite_within (sub_trans rfl hk) h
  · refine Within.ite (fun _ => ?_) (fun _ => ?_)
    · exact State_lockFree_within (sub_trans rfl hk) h
    · exact State_badRelease_within (sub_trans rfl hk) h

theorem execLckRelease_within {k : Nat} {s0 t : State} {a0 : _} {a1 : _} {a2 : _} {a3 : State} (hk : 9605 &&& k = 9605) (h : Within k s0 a3) (e : execLckRelease a0 a1 a2 a3 = .next t) : Within k s0 t := by
  unfold Sys2Proof.Machine.execLckRelease at e
  cases e
  exact lockRelease_within (sub_trans rfl hk) h

theorem hdpReq_within {k : Nat} {s0 : State} {a0 : _} {a1 : _} {a2 : State} (hk : 9669 &&& k = 9669) (h : Within k s0 a2) : Within k s0 (hdpReq a0 a1 a2) := by
  unfold Sys2Proof.Machine.hdpReq
  refine Within.ite (fun _ => ?_) (fun _ => ?_)
  · exact lockAttempt_within (sub_trans rfl hk) h
  · exact State_denyWrite_within (sub_trans rfl hk) h

theorem execLckHdpreq_within {k : Nat} {s0 t : State} {a0 : _} {a1 : _} {a2 : State} (hk : 9669 &&& k = 9669) (h : Within k s0 a2) (e : execLckHdpreq a0 a1 a2 = .next t) : Within k s0 t := by
  unfold Sys2Proof.Machine.execLckHdpreq at e
  cases e
  exact hdpReq_within (sub_trans rfl hk) h

theorem hdpRel_within {k : Nat} {s0 : State} {a0 : _} {a1 : _} {a2 : State} (hk : 9605 &&& k = 9605) (h : Within k s0 a2) : Within k s0 (hdpRel a0 a1 a2) := by
  unfold Sys2Proof.Machine.hdpRel
  refine Within.ite (fun _ => ?_) (fun _ => ?_)
  · exact State_denyWrite_within (sub_trans rfl hk) h
  · refine Within.ite (fun _ => ?_) (fun _ => ?_)
    · exact State_lockFree_within (sub_trans rfl hk) h
    · exact State_badRelease_within (sub_trans rfl hk) h

theorem execLckHdprel_within {k : Nat} {s0 t : State} {a0 : _} {a1 : _} {a2 : State} (hk : 9605 &&& k = 9605) (h : Within k s0 a2) (e : execLckHdprel a0 a1 a2 = .next t) : Within k s0 t := by
  unfold Sys2Proof.Machine.execLckHdprel at e
  cases e
  exact hdpRel_within (sub_trans rfl hk) h

theorem lockHoldExpiry_within {k : Nat} {s0 : State} {a0 : _} {a1 : State} (hk : 9533 &&& k = 9533) (h : Within k s0 a1) : Within k s0 (lockHoldExpiry a0 a1) := by
  unfold Sys2Proof.Machine.lockHoldExpiry
  split
  · extract_lets -underBinder +onlyGivenNames x1
    try clear_value x1
    refine Within.ite (fun _ => ?_) (fun _ => ?_)
    · exact h
    · extract_lets -underBinder +onlyGivenNames x2
      have hx2 : Within k s0 x2 := by
        exact State_toMono_within (sub_trans rfl hk) h
      try clear_value x2
      extract_lets -underBinder +onlyGivenNames x3
      have hx3 : Within k s0 x3 := by
        exact Within.set_locks (sub_trans rfl hk) hx2
      try clear_value x3
      exact State_raise_within (sub_trans rfl hk) hx3
  · exact h

theorem execLckHoldExpiry_within {k : Nat} {s0 t : State} {a0 : _} {a1 : State} (hk : 9533 &&& k = 9533) (h : Within k s0 a1) (e : execLckHoldExpiry a0 a1 = .next t) : Within k s0 t := by
  unfold Sys2Proof.Machine.execLckHoldExpiry at e
  cases e
  exact lockHoldExpiry_within (sub_trans rfl hk) h

theorem State_orphanLocks_within {k : Nat} {s0 : State} {a0 : State} {a1 : _} {a2 : _} (hk : 9477 &&& k = 9477) (h : Within k s0 a0) : Within k s0 (State.orphanLocks a0 a1 a2) := by
  induction a2 generalizing a0 a1 with
  | nil =>
    unfold Sys2Proof.Machine.State.orphanLocks
    exact h
  | cons _ _ ih =>
    unfold Sys2Proof.Machine.State.orphanLocks
    extract_lets -underBinder +onlyGivenNames x1
    try clear_value x1
    extract_lets -underBinder +onlyGivenNames x2
    have hx2 : Within k s0 x2 := by
      unfold x2
      refine Within.ite (fun _ => ?_) (fun _ => ?_)
      · exact State_raise_within (sub_trans rfl hk) (State_lockFree_within (sub_trans rfl hk) h)
      · exact h
    try clear_value x2
    apply ih
    exact hx2

theorem State_clearStage_within {k : Nat} {s0 : State} {a0 : State} {a1 : _} (hk : 1 &&& k = 1) (h : Within k s0 a0) : Within k s0 (State.clearStage a0 a1) := by
  unfold Sys2Proof.Machine.State.clearStage
  exact State_stage_within (sub_trans rfl hk) h

theorem State_mbxReset_within {k : Nat} {s0 : State} {a0 : State} {a1 : _} {a2 : _} (hk : 5381 &&& k = 5381) (h : Within k s0 a0) : Within k s0 (State.mbxReset a0 a1 a2) := by
  induction a2 generalizing a0 a1 with
  | nil =>
    unfold Sys2Proof.Machine.State.mbxReset
    exact h
  | cons _ _ ih =>
    unfold Sys2Proof.Machine.State.mbxReset
    extract_lets -underBinder +onlyGivenNames x1
    have hx1 : Within k s0 x1 := by
      exact State_mbxClear_within (sub_trans rfl hk) h
    try clear_value x1
    extract_lets -underBinder +onlyGivenNames x2
    have hx2 : Within k s0 x2 := by
      unfold x2
      refine Within.ite (fun _ => ?_) (fun _ => ?_)
      · refine Within.ite (fun _ => ?_) (fun _ => ?_)
        · exact hx1
        · exact State_mbxAttn_within (sub_trans rfl hk) (State_setFlag_within (sub_trans rfl hk) hx1)
      · exact h
    try clear_value x2
    extract_lets -underBinder +onlyGivenNames x3
    have hx3 : Within k s0 x3 := by
      unfold x3
      refine Within.ite (fun _ => ?_) (fun _ => ?_)
      · exact State_clearStage_within (sub_trans rfl hk) hx2
      · exact hx2
    try clear_value x3
    apply ih
    exact hx3

theorem domainReset_within {k : Nat} {s0 : State} {a0 : _} {a1 : State} (hk : 34359753989 &&& k = 34359753989) (h : Within k s0 a1) : Within k s0 (domainReset a0 a1) := by
  unfold Sys2Proof.Machine.domainReset
  extract_lets -underBinder +onlyGivenNames x1
  try clear_value x1
  extract_lets -underBinder +onlyGivenNames x2
  have hx2 : Within k s0 x2 := by
    exact State_setFld_within (sub_trans rfl hk) h
  try clear_value x2
  extract_lets -underBinder +onlyGivenNames x3
  have hx3 : Within k s0 x3 := by
    unfold x3
    refine Within.ite (fun _ => ?_) (fun _ => ?_)
    · exact Within.set_toField (sub_trans rfl hk) hx2
    · exact hx2
  try clear_value x3
  extract_lets -underBinder +onlyGivenNames x4
  have hx4 : Within k s0 x4 := by
    exact State_mbxReset_within (sub_trans rfl hk) hx3
  try clear_value x4
  refine Within.ite (fun _ => ?_) (fun _ => ?_)
  · exact State_queReturn_within (sub_trans rfl hk) (State_orphanLocks_within (sub_trans rfl hk) hx4)
  · exact hx4

theorem execDomainReset_within {k : Nat} {s0 t : State} {a0 : _} {a1 : State} (hk : 34359753989 &&& k = 34359753989) (h : Within k s0 a1) (e : execDomainReset a0 a1 = .next t) : Within k s0 t := by
  unfold Sys2Proof.Machine.execDomainReset at e
  cases e
  refine Within.ite (fun _ => ?_) (fun _ => ?_)
  · exact h
  · exact domainReset_within (sub_trans rfl hk) h

end Sys2Proof.Laws
end

