-- ==== Sys2Proof/Laws/WithinReactions.lean ====
section
/-! SUPPORT. What each operation of Machine/Reactions.lean can do to the state (see Laws/Within.lean). -/

/- One thread: elaborating these many small proofs side by side can exceed the memory that check.sh allows. -/
set_option Elab.async false

namespace Sys2Proof.Laws
open Sys2Proof Sys2Proof.Machine

theorem State_copyWrite_within {k : Nat} {s0 : State} {a0 : State} {a1 : _} {a2 : _} {a3 : _} (hk : 2 &&& k = 2) (h : Within k s0 a0) : Within k s0 (State.copyWrite a0 a1 a2 a3) := by
  unfold Sys2Proof.Machine.State.copyWrite
  extract_lets -underBinder +onlyGivenNames x1
  try clear_value x1
  extract_lets -underBinder +onlyGivenNames x2
  try clear_value x2
  extract_lets -underBinder +onlyGivenNames x3
  try clear_value x3
  exact State_wrBytes_within (sub_trans rfl hk) h

theorem State_runRecord_within {k : Nat} {s0 : State} {a0 : State} {a1 : _} {a2 : _} (hk : 2 &&& k = 2) (h : Within k s0 a0) : Within k s0 (State.runRecord a0 a1 a2) := by
  unfold Sys2Proof.Machine.State.runRecord
  exact State_copyWrite_within (sub_trans rfl hk) h

theorem State_tell_within {k : Nat} {s0 : State} {a0 : State} {a1 : _} (hk : 137438953472 &&& k = 137438953472) (h : Within k s0 a0) : Within k s0 (State.tell a0 a1) := by
  unfold Sys2Proof.Machine.State.tell
  refine Within.ite (fun _ => ?_) (fun _ => ?_)
  · exact State_send_within (sub_trans rfl hk) h
  · exact h

theorem State_setRole_within {k : Nat} {s0 : State} {a0 : State} {a1 : _} (hk : 138512696581 &&& k = 138512696581) (h : Within k s0 a0) : Within k s0 (State.setRole a0 a1) := by
  unfold Sys2Proof.Machine.State.setRole
  extract_lets -underBinder +onlyGivenNames x1
  try clear_value x1
  refine Within.ite (fun _ => ?_) (fun _ => ?_)
  · exact h
  · exact State_raise_within (sub_trans rfl hk) (State_tell_within (sub_trans rfl hk) (State_setFld_within (sub_trans rfl hk) (Within.set_rdl (sub_trans rfl hk) h)))

theorem State_setLines_within {k : Nat} {s0 : State} {a0 : State} {a1 : _} {a2 : _} (hk : 1 &&& k = 1) (h : Within k s0 a0) : Within k s0 (State.setLines a0 a1 a2) := by
  unfold Sys2Proof.Machine.State.setLines
  exact State_setFlag_within (sub_trans rfl hk) (State_setFlag_within (sub_trans rfl hk) h)

theorem State_clearTaskBits_within {k : Nat} {s0 : State} {a0 : State} {a1 : _} {a2 : _} (hk : 1 &&& k = 1) (h : Within k s0 a0) : Within k s0 (State.clearTaskBits a0 a1 a2) := by
  induction a2 generalizing a0 a1 with
  | nil =>
    unfold Sys2Proof.Machine.State.clearTaskBits
    exact h
  | cons _ _ ih =>
    unfold Sys2Proof.Machine.State.clearTaskBits
    extract_lets -underBinder +onlyGivenNames x1
    have hx1 : Within k s0 x1 := by
      exact State_setFlag_within (sub_trans rfl hk) (State_setFlag_within (sub_trans rfl hk) h)
    try clear_value x1
    apply ih
    refine Within.ite (fun _ => ?_) (fun _ => ?_)
    · exact State_setFlag_within (sub_trans rfl hk) hx1
    · exact hx1

theorem State_stopTasks_within {k : Nat} {s0 : State} {a0 : State} {a1 : _} (hk : 1048577 &&& k = 1048577) (h : Within k s0 a0) : Within k s0 (State.stopTasks a0 a1) := by
  unfold Sys2Proof.Machine.State.stopTasks
  extract_lets -underBinder +onlyGivenNames x1
  have hx1 : Within k s0 x1 := by
    exact State_clearTaskBits_within (sub_trans rfl hk) (State_setFlag_within (sub_trans rfl hk) h)
  try clear_value x1
  exact Within.set_tasks (sub_trans rfl hk) hx1

theorem State_safeRequest_within {k : Nat} {s0 : State} {a0 : State} (hk : 34359739653 &&& k = 34359739653) (h : Within k s0 a0) : Within k s0 (State.safeRequest a0) := by
  unfold Sys2Proof.Machine.State.safeRequest
  extract_lets -underBinder +onlyGivenNames x1
  try clear_value x1
  extract_lets -underBinder +onlyGivenNames x2
  have hx2 : Within k s0 x2 := by
    exact State_setFlag_within (sub_trans rfl hk) (State_setFlag_within (sub_trans rfl hk) (State_rimSend_within (sub_trans rfl hk) h))
  try clear_value x2
  refine Within.ite (fun _ => ?_) (fun _ => ?_)
  · exact State_raise_within (sub_trans rfl hk) hx2
  · exact hx2

theorem State_wvePhase_within {k : Nat} {s0 : State} {a0 : State} {a1 : _} (hk : 1285 &&& k = 1285) (h : Within k s0 a0) : Within k s0 (State.wvePhase a0 a1) := by
  unfold Sys2Proof.Machine.State.wvePhase
  refine Within.ite (fun _ => ?_) (fun _ => ?_)
  · exact h
  · extract_lets -underBinder +onlyGivenNames x1
    have hx1 : Within k s0 x1 := by
      exact State_setFld_within (sub_trans rfl hk) h
    try clear_value x1
    exact State_raise_within (sub_trans rfl hk) hx1

theorem State_abandonSwap_within {k : Nat} {s0 : State} {a0 : State} (hk : 99589 &&& k = 99589) (h : Within k s0 a0) : Within k s0 (State.abandonSwap a0) := by
  unfold Sys2Proof.Machine.State.abandonSwap
  refine Within.ite (fun _ => ?_) (fun _ => ?_)
  · extract_lets -underBinder +onlyGivenNames x1
    have hx1 : Within k s0 x1 := by
      exact Within.plain (a := 98304) (t := a0) (sub_trans rfl hk) h rfl rfl rfl rfl rfl rfl
    try clear_value x1
    exact State_wvePhase_within (sub_trans rfl hk) (State_setFld_within (sub_trans rfl hk) (State_setFlag_within (sub_trans rfl hk) (State_setFld_within (sub_trans rfl hk) hx1)))
  · exact h

theorem State_swapPhase_within {k : Nat} {s0 : State} {a0 : State} {a1 : _} (hk : 1285 &&& k = 1285) (h : Within k s0 a0) : Within k s0 (State.swapPhase a0 a1) := by
  unfold Sys2Proof.Machine.State.swapPhase
  refine Within.ite (fun _ => ?_) (fun _ => ?_)
  · exact h
  · extract_lets -underBinder +onlyGivenNames x1
    have hx1 : Within k s0 x1 := by
      exact State_setFld_within (sub_trans rfl hk) h
    try clear_value x1
    exact State_raise_within (sub_trans rfl hk) hx1

theorem State_swapEnd_within {k : Nat} {s0 : State} {a0 : State} (hk : 1073841413 &&& k = 1073841413) (h : Within k s0 a0) : Within k s0 (State.swapEnd a0) := by
  unfold Sys2Proof.Machine.State.swapEnd
  split
  · exact Within.set_rdl (sub_trans rfl hk) h
  · refine Within.ite (fun _ => ?_) (fun _ => ?_)
    · exact h
    · extract_lets -underBinder +onlyGivenNames x1
      try clear_value x1
      exact State_swapPhase_within (sub_trans rfl hk) (State_abandonSwap_within (sub_trans rfl hk) (Within.set_rdl (sub_trans rfl hk) h))

theorem State_enterHalt_within {k : Nat} {s0 : State} {a0 : State} (hk : 447755586823 &&& k = 447755586823) (h : Within k s0 a0) : Within k s0 (State.enterHalt a0) := by
  unfold Sys2Proof.Machine.State.enterHalt
  extract_lets -underBinder +onlyGivenNames x1
  have hx1 : Within k s0 x1 := by
    exact State_setFld_within (sub_trans rfl hk) (State_stopTasks_within (sub_trans rfl hk) h)
  try clear_value x1
  extract_lets -underBinder +onlyGivenNames x2
  have hx2 : Within k s0 x2 := by
    exact State_setLines_within (sub_trans rfl hk) (State_setFlag_within (sub_trans rfl hk) hx1)
  try clear_value x2
  extract_lets -underBinder +onlyGivenNames x3
  try clear_value x3
  extract_lets -underBinder +onlyGivenNames x4
  have hx4 : Within k s0 x4 := by
    exact Within.set_cpm (sub_trans rfl hk) hx2
  try clear_value x4
  extract_lets -underBinder +onlyGivenNames x5
  have hx5 : Within k s0 x5 := by
    exact State_setRole_within (sub_trans rfl hk) hx4
  try clear_value x5
  extract_lets -underBinder +onlyGivenNames x6
  have hx6 : Within k s0 x6 := by
    exact State_canRestrict_within (sub_trans rfl hk) hx5
  try clear_value x6
  refine Within.ite (fun _ => ?_) (fun _ => ?_)
  · exact hx6
  · exact State_safeRequest_within (sub_trans rfl hk) hx6

theorem State_stationStop_within {k : Nat} {s0 : State} {a0 : State} {a1 : _} {a2 : _} (hk : 447755685127 &&& k = 447755685127) (h : Within k s0 a0) : Within k s0 (State.stationStop a0 a1 a2) := by
  unfold Sys2Proof.Machine.State.stationStop
  extract_lets -underBinder +onlyGivenNames x1
  have hx1 : Within k s0 x1 := by
    exact State_setFlag_within (sub_trans rfl hk) (State_stopTasks_within (sub_trans rfl hk) (State_abandonSwap_within (sub_trans rfl hk) (State_swapEnd_within (sub_trans rfl hk) h)))
  try clear_value x1
  extract_lets -underBinder +onlyGivenNames x2
  have hx2 : Within k s0 x2 := by
    exact State_setFlag_within (sub_trans rfl hk) (State_setLines_within (sub_trans rfl hk) (State_safeRequest_within (sub_trans rfl hk) hx1))
  try clear_value x2
  extract_lets -underBinder +onlyGivenNames x3
  have hx3 : Within k s0 x3 := by
    exact State_setRole_within (sub_trans rfl hk) (State_setFld_within (sub_trans rfl hk) hx2)
  try clear_value x3
  extract_lets -underBinder +onlyGivenNames x4
  try clear_value x4
  extract_lets -underBinder +onlyGivenNames x5
  have hx5 : Within k s0 x5 := by
    exact Within.set_cpm (sub_trans rfl hk) hx3
  try clear_value x5
  exact State_stopRecord_within (sub_trans rfl hk) (State_runRecord_within (sub_trans rfl hk) (State_canRestrict_within (sub_trans rfl hk) hx5))

theorem State_giveUp_within {k : Nat} {s0 : State} {a0 : State} {a1 : _} {a2 : _} {a3 : _} {a4 : _} (hk : 447755685127 &&& k = 447755685127) (h : Within k s0 a0) : Within k s0 (State.giveUp a0 a1 a2 a3 a4) := by
  unfold Sys2Proof.Machine.State.giveUp
  extract_lets -underBinder +onlyGivenNames x1
  have hx1 : Within k s0 x1 := by
    exact State_setLines_within (sub_trans rfl hk) (State_abandonSwap_within (sub_trans rfl hk) (State_swapEnd_within (sub_trans rfl hk) h))
  try clear_value x1
  extract_lets -underBinder +onlyGivenNames x2
  try clear_value x2
  extract_lets -underBinder +onlyGivenNames x3
  have hx3 : Within k s0 x3 := by
    unfold x3
    refine Within.ite (fun _ => ?_) (fun _ => ?_)
    · exact State_tell_within (sub_trans rfl hk) hx1
    · exact hx1
  try clear_value x3
  extract_lets -underBinder +onlyGivenNames x4
  have hx4 : Within k s0 x4 := by
    exact State_stopTasks_within (sub_trans rfl hk) (State_rimSend_within (sub_trans rfl hk) hx3)
  try clear_value x4
  extract_lets -underBinder +onlyGivenNames x5
  have hx5 : Within k s0 x5 := by
    exact State_canRestrict_within (sub_trans rfl hk) (State_setFlag_within (sub_trans rfl hk) hx4)
  try clear_value x5
  extract_lets -underBinder +onlyGivenNames x6
  have hx6 : Within k s0 x6 := by
    exact State_setRole_within (sub_trans rfl hk) (State_setFld_within (sub_trans rfl hk) hx5)
  try clear_value x6
  extract_lets -underBinder +onlyGivenNames x7
  try clear_value x7
  extract_lets -underBinder +onlyGivenNames x8
  have hx8 : Within k s0 x8 := by
    exact Within.set_cpm (sub_trans rfl hk) hx6
  try clear_value x8
  exact State_raise_within (sub_trans rfl hk) (State_stopRecord_within (sub_trans rfl hk) (State_runRecord_within (sub_trans rfl hk) hx8))

theorem State_loseControl_within {k : Nat} {s0 : State} {a0 : State} {a1 : _} {a2 : _} {a3 : _} {a4 : _} (hk : 447755685127 &&& k = 447755685127) (h : Within k s0 a0) : Within k s0 (State.loseControl a0 a1 a2 a3 a4) := by
  unfold Sys2Proof.Machine.State.loseControl
  refine Within.ite (fun _ => ?_) (fun _ => ?_)
  · exact State_giveUp_within (sub_trans rfl hk) h
  · exact State_stationStop_within (sub_trans rfl hk) h

theorem State_leavePair_within {k : Nat} {s0 : State} {a0 : State} {a1 : _} {a2 : _} (hk : 138513843463 &&& k = 138513843463) (h : Within k s0 a0) : Within k s0 (State.leavePair a0 a1 a2) := by
  unfold Sys2Proof.Machine.State.leavePair
  extract_lets -underBinder +onlyGivenNames x1
  have hx1 : Within k s0 x1 := by
    exact State_setLines_within (sub_trans rfl hk) (State_stopTasks_within (sub_trans rfl hk) (State_abandonSwap_within (sub_trans rfl hk) (State_swapEnd_within (sub_trans rfl hk) h)))
  try clear_value x1
  extract_lets -underBinder +onlyGivenNames x2
  have hx2 : Within k s0 x2 := by
    exact State_setRole_within (sub_trans rfl hk) (State_setFld_within (sub_trans rfl hk) hx1)
  try clear_value x2
  extract_lets -underBinder +onlyGivenNames x3
  try clear_value x3
  extract_lets -underBinder +onlyGivenNames x4
  have hx4 : Within k s0 x4 := by
    exact Within.set_cpm (sub_trans rfl hk) hx2
  try clear_value x4
  exact State_stopRecord_within (sub_trans rfl hk) (State_runRecord_within (sub_trans rfl hk) hx4)

theorem State_unitFault_within {k : Nat} {s0 : State} {a0 : State} {a1 : _} {a2 : _} {a3 : _} {a4 : _} (hk : 447755685127 &&& k = 447755685127) (h : Within k s0 a0) : Within k s0 (State.unitFault a0 a1 a2 a3 a4) := by
  unfold Sys2Proof.Machine.State.unitFault
  refine Within.ite (fun _ => ?_) (fun _ => ?_)
  · exact h
  · refine Within.ite (fun _ => ?_) (fun _ => ?_)
    · exact State_stopRecord_within (sub_trans rfl hk) h
    · refine Within.ite (fun _ => ?_) (fun _ => ?_)
      · exact State_loseControl_within (sub_trans rfl hk) h
      · exact State_leavePair_within (sub_trans rfl hk) h

theorem State_recPlace_within2 {k : Nat} {s0 : State} {a0 : State} {a1 : _} (hk : 1 &&& k = 1) (h : Within k s0 a0) : Within k s0 (State.recPlace a0 a1).2 := by
  unfold Sys2Proof.Machine.State.recPlace
  split
  · exact State_setFlag_within (sub_trans rfl hk) h
  · extract_lets -underBinder +onlyGivenNames x1
    try clear_value x1
    split
    · exact State_setFld_within (sub_trans rfl hk) h
    · extract_lets -underBinder +onlyGivenNames x2
      try clear_value x2
      exact State_setFld_within (sub_trans rfl hk) h

theorem State_recFreeze_within {k : Nat} {s0 : State} {a0 : State} (hk : 1285 &&& k = 1285) (h : Within k s0 a0) : Within k s0 (State.recFreeze a0) := by
  unfold Sys2Proof.Machine.State.recFreeze
  refine Within.ite (fun _ => ?_) (fun _ => ?_)
  · exact State_raise_within (sub_trans rfl hk) (State_setFlag_within (sub_trans rfl hk) h)
  · exact h

theorem State_recLoss_within {k : Nat} {s0 : State} {a0 : State} (hk : 1285 &&& k = 1285) (h : Within k s0 a0) : Within k s0 (State.recLoss a0) := by
  unfold Sys2Proof.Machine.State.recLoss
  split
  · refine Within.ite (fun _ => ?_) (fun _ => ?_)
    · exact State_recClaim_within (sub_trans rfl hk) (Within.set_evr (sub_trans rfl hk) h)
    · exact h
  · exact h

theorem State_recPut_within {k : Nat} {s0 : State} {a0 : State} {a1 : _} (hk : 1287 &&& k = 1287) (h : Within k s0 a0) : Within k s0 (State.recPut a0 a1) := by
  unfold Sys2Proof.Machine.State.recPut
  extract_lets -underBinder +onlyGivenNames x1
  try clear_value x1
  extract_lets -underBinder +onlyGivenNames x2
  have hx2 : Within k s0 x2.2 := by
    exact State_recPlace_within2 (sub_trans rfl hk) (State_setFld_within (sub_trans rfl hk) h)
  try clear_value x2
  exact State_recFreeze_within (sub_trans rfl hk) (State_wrBytes_within (sub_trans rfl hk) hx2)

theorem State_recDone_within {k : Nat} {s0 : State} {a0 : State} {a1 : _} (hk : 1285 &&& k = 1285) (h : Within k s0 a0) : Within k s0 (State.recDone a0 a1) := by
  unfold Sys2Proof.Machine.State.recDone
  exact State_recLoss_within (sub_trans rfl hk) (State_showBuf_within (sub_trans rfl hk) (Within.set_evr (sub_trans rfl hk) h))

theorem State_recHalt_within {k : Nat} {s0 : State} {a0 : State} {a1 : _} (hk : 447755586823 &&& k = 447755586823) (h : Within k s0 a0) : Within k s0 (State.recHalt a0 a1) := by
  unfold Sys2Proof.Machine.State.recHalt
  refine Within.ite (fun _ => ?_) (fun _ => ?_)
  · exact State_enterHalt_within (sub_trans rfl hk) (Within.set_cpm (sub_trans rfl hk) h)
  · exact h

theorem State_recWriteOne_within {k : Nat} {s0 : State} {a0 : State} (hk : 447755586823 &&& k = 447755586823) (h : Within k s0 a0) : Within k s0 (State.recWriteOne a0) := by
  unfold Sys2Proof.Machine.State.recWriteOne
  split
  · exact h
  · exact State_recHalt_within (sub_trans rfl hk) (State_recDone_within (sub_trans rfl hk) (State_recPut_within (sub_trans rfl hk) h))

theorem State_recDrain_within {k : Nat} {s0 : State} {a0 : State} {a1 : _} (hk : 447755586823 &&& k = 447755586823) (h : Within k s0 a0) : Within k s0 (State.recDrain a0 a1) := by
  induction a1 generalizing a0 with
  | zero =>
    unfold Sys2Proof.Machine.State.recDrain
    exact h
  | succ _ ih =>
    unfold Sys2Proof.Machine.State.recDrain
    refine Within.ite (fun _ => ?_) (fun _ => ?_)
    · exact h
    · apply ih
      exact State_recWriteOne_within (sub_trans rfl hk) h

end Sys2Proof.Laws
end

