-- ==== Sys2Proof/Laws/WithinField.lean ====
section
/-! SUPPORT. What each operation of Machine/Field.lean can do to the state (see Laws/Within.lean). -/

/- One thread: elaborating these many small proofs side by side can exceed the memory that check.sh allows. -/
set_option Elab.async false

namespace Sys2Proof.Laws
open Sys2Proof Sys2Proof.Machine

theorem State_setChan_within {k : Nat} {s0 : State} {a0 : State} {a1 : _} {a2 : _} (hk : 16777216 &&& k = 16777216) (h : Within k s0 a0) : Within k s0 (State.setChan a0 a1 a2) := by
  unfold Sys2Proof.Machine.State.setChan
  exact Within.set_field (sub_trans rfl hk) h

theorem State_modChan_within {k : Nat} {s0 : State} {a0 : State} {a1 : _} {a2 : _} (hk : 16777216 &&& k = 16777216) (h : Within k s0 a0) : Within k s0 (State.modChan a0 a1 a2) := by
  unfold Sys2Proof.Machine.State.modChan
  exact State_setChan_within (sub_trans rfl hk) h

theorem State_setGrp_within {k : Nat} {s0 : State} {a0 : State} {a1 : _} {a2 : _} (hk : 16777216 &&& k = 16777216) (h : Within k s0 a0) : Within k s0 (State.setGrp a0 a1 a2) := by
  unfold Sys2Proof.Machine.State.setGrp
  exact Within.set_field (sub_trans rfl hk) h

theorem State_modGrp_within {k : Nat} {s0 : State} {a0 : State} {a1 : _} {a2 : _} (hk : 16777216 &&& k = 16777216) (h : Within k s0 a0) : Within k s0 (State.modGrp a0 a1 a2) := by
  unfold Sys2Proof.Machine.State.modGrp
  exact State_setGrp_within (sub_trans rfl hk) h

theorem State_fev_within {k : Nat} {s0 : State} {a0 : State} {a1 : _} {a2 : _} {a3 : _} (hk : 16777216 &&& k = 16777216) (h : Within k s0 a0) : Within k s0 (State.fev a0 a1 a2 a3) := by
  unfold Sys2Proof.Machine.State.fev
  exact Within.set_field (sub_trans rfl hk) h

theorem State_setFn_within {k : Nat} {s0 : State} {a0 : State} {a1 : _} (hk : 16777216 &&& k = 16777216) (h : Within k s0 a0) : Within k s0 (State.setFn a0 a1) := by
  unfold Sys2Proof.Machine.State.setFn
  exact Within.set_field (sub_trans rfl hk) h

theorem State_modFn_within {k : Nat} {s0 : State} {a0 : State} {a1 : _} {a2 : _} (hk : 16777216 &&& k = 16777216) (h : Within k s0 a0) : Within k s0 (State.modFn a0 a1 a2) := by
  unfold Sys2Proof.Machine.State.modFn
  split
  · exact State_setFn_within (sub_trans rfl hk) h
  · exact h

theorem State_settleChan_within {k : Nat} {s0 : State} {a0 : State} {a1 : _} (hk : 16777216 &&& k = 16777216) (h : Within k s0 a0) : Within k s0 (State.settleChan a0 a1) := by
  unfold Sys2Proof.Machine.State.settleChan
  extract_lets -underBinder +onlyGivenNames x1
  try clear_value x1
  extract_lets -underBinder +onlyGivenNames x2
  try clear_value x2
  refine Within.ite (fun _ => ?_) (fun _ => ?_)
  · exact h
  · exact State_setChan_within (sub_trans rfl hk) h

theorem State_fnLatch_within {k : Nat} {s0 : State} {a0 : State} {a1 : _} {a2 : _} {a3 : _} (hk : 16777216 &&& k = 16777216) (h : Within k s0 a0) : Within k s0 (State.fnLatch a0 a1 a2 a3) := by
  unfold Sys2Proof.Machine.State.fnLatch
  split
  · refine Within.ite (fun _ => ?_) (fun _ => ?_)
    · exact h
    · extract_lets -underBinder +onlyGivenNames x1
      have hx1 : Within k s0 x1 := by
        exact State_setFn_within (sub_trans rfl hk) h
      try clear_value x1
      extract_lets -underBinder +onlyGivenNames x2
      have hx2 : Within k s0 x2 := by
        exact State_fev_within (sub_trans rfl hk) hx1
      try clear_value x2
      refine Within.ite (fun _ => ?_) (fun _ => ?_)
      · exact State_fev_within (sub_trans rfl hk) hx2
      · exact hx2
  · exact h

theorem State_settleFn_within {k : Nat} {s0 : State} {a0 : State} {a1 : _} (hk : 16777216 &&& k = 16777216) (h : Within k s0 a0) : Within k s0 (State.settleFn a0 a1) := by
  unfold Sys2Proof.Machine.State.settleFn
  extract_lets -underBinder +onlyGivenNames x1
  try clear_value x1
  refine Within.ite (fun _ => ?_) (fun _ => ?_)
  · exact h
  · refine Within.ite (fun _ => ?_) (fun _ => ?_)
    · exact State_fnLatch_within (sub_trans rfl hk) h
    · exact State_setFn_within (sub_trans rfl hk) h

theorem State_settle_within {k : Nat} {s0 : State} {a0 : State} (hk : 16777216 &&& k = 16777216) (h : Within k s0 a0) : Within k s0 (State.settle a0) := by
  unfold Sys2Proof.Machine.State.settle
  extract_lets -underBinder +onlyGivenNames x1
  have hx1 : Within k s0 x1 := by
    refine Within.foldl (fun t2 _ ht2 => ?_) _ ?_
    · exact State_settleFn_within (sub_trans rfl hk) ht2
    · exact h
  try clear_value x1
  refine Within.foldl (fun t3 _ ht3 => ?_) _ ?_
  · exact State_settleChan_within (sub_trans rfl hk) ht3
  · exact hx1

end Sys2Proof.Laws
end

