-- ==== Sys2Proof/Laws/WithinRounds.lean ====
section
/-! SUPPORT. What each operation of Machine/Rounds.lean can do to the state (see Laws/Within.lean). -/

/- One thread: elaborating these many small proofs side by side can exceed the memory that check.sh allows. -/
set_option Elab.async false

namespace Sys2Proof.Laws
open Sys2Proof Sys2Proof.Machine

theorem State_aiRound_within {k : Nat} {s0 : State} {a0 : State} {a1 : _} {a2 : _} (hk : 16777216 &&& k = 16777216) (h : Within k s0 a0) : Within k s0 (State.aiRound a0 a1 a2) := by
  unfold Sys2Proof.Machine.State.aiRound
  extract_lets -underBinder +onlyGivenNames x1
  try clear_value x1
  extract_lets -underBinder +onlyGivenNames x2
  try clear_value x2
  extract_lets -underBinder +onlyGivenNames x3
  try clear_value x3
  extract_lets -underBinder +onlyGivenNames x4
  try clear_value x4
  extract_lets -underBinder +onlyGivenNames x5
  have hx5 : Within k s0 x5 := by
    exact State_setChan_within (sub_trans rfl hk) h
  try clear_value x5
  extract_lets -underBinder +onlyGivenNames x6
  have hx6 : Within k s0 x6 := by
    unfold x6
    refine Within.ite (fun _ => ?_) (fun _ => ?_)
    · exact State_fev_within (sub_trans rfl hk) hx5
    · exact hx5
  try clear_value x6
  split
  · refine Within.ite (fun _ => ?_) (fun _ => ?_)
    · exact State_fev_within (sub_trans rfl hk) hx6
    · exact hx6
  · exact hx6

theorem State_aoRound_within {k : Nat} {s0 : State} {a0 : State} {a1 : _} {a2 : _} (hk : 16777216 &&& k = 16777216) (h : Within k s0 a0) : Within k s0 (State.aoRound a0 a1 a2) := by
  unfold Sys2Proof.Machine.State.aoRound
  extract_lets -underBinder +onlyGivenNames x1
  try clear_value x1
  refine Within.ite (fun _ => ?_) (fun _ => ?_)
  · exact State_setChan_within (sub_trans rfl hk) h
  · extract_lets -underBinder +onlyGivenNames x2
    try clear_value x2
    extract_lets -underBinder +onlyGivenNames x3
    try clear_value x3
    extract_lets -underBinder +onlyGivenNames x4
    try clear_value x4
    exact State_setChan_within (sub_trans rfl hk) h

theorem State_doRound_within {k : Nat} {s0 : State} {a0 : State} {a1 : _} {a2 : _} (hk : 16777216 &&& k = 16777216) (h : Within k s0 a0) : Within k s0 (State.doRound a0 a1 a2) := by
  unfold Sys2Proof.Machine.State.doRound
  extract_lets -underBinder +onlyGivenNames x1
  try clear_value x1
  extract_lets -underBinder +onlyGivenNames x2
  try clear_value x2
  extract_lets -underBinder +onlyGivenNames x3
  try clear_value x3
  extract_lets -underBinder +onlyGivenNames x4
  try clear_value x4
  exact State_setChan_within (sub_trans rfl hk) h

theorem State_siRound_within {k : Nat} {s0 : State} {a0 : State} {a1 : _} {a2 : _} {a3 : _} (hk : 16777216 &&& k = 16777216) (h : Within k s0 a0) : Within k s0 (State.siRound a0 a1 a2 a3) := by
  unfold Sys2Proof.Machine.State.siRound
  extract_lets -underBinder +onlyGivenNames x1
  try clear_value x1
  extract_lets -underBinder +onlyGivenNames x2
  try clear_value x2
  extract_lets -underBinder +onlyGivenNames x3
  try clear_value x3
  extract_lets -underBinder +onlyGivenNames x4
  try clear_value x4
  exact State_setChan_within (sub_trans rfl hk) h

theorem State_soRound_within {k : Nat} {s0 : State} {a0 : State} {a1 : _} {a2 : _} (hk : 16777216 &&& k = 16777216) (h : Within k s0 a0) : Within k s0 (State.soRound a0 a1 a2) := by
  unfold Sys2Proof.Machine.State.soRound
  extract_lets -underBinder +onlyGivenNames x1
  try clear_value x1
  split
  · exact h
  · refine Within.ite (fun _ => ?_) (fun _ => ?_)
    · exact h
    · extract_lets -underBinder +onlyGivenNames x2
      try clear_value x2
      extract_lets -underBinder +onlyGivenNames x3
      try clear_value x3
      extract_lets -underBinder +onlyGivenNames x4
      try clear_value x4
      extract_lets -underBinder +onlyGivenNames x5
      try clear_value x5
      extract_lets -underBinder +onlyGivenNames x6
      have hx6 : Within k s0 x6 := by
        exact State_setFn_within (sub_trans rfl hk) h
      try clear_value x6
      refine Within.ite (fun _ => ?_) (fun _ => ?_)
      · exact State_fnLatch_within (sub_trans rfl hk) hx6
      · refine Within.ite (fun _ => ?_) (fun _ => ?_)
        · exact State_fnLatch_within (sub_trans rfl hk) hx6
        · exact hx6

theorem State_checkVt_within {k : Nat} {s0 : State} {a0 : State} {a1 : _} {a2 : _} (hk : 16777216 &&& k = 16777216) (h : Within k s0 a0) : Within k s0 (State.checkVt a0 a1 a2) := by
  unfold Sys2Proof.Machine.State.checkVt
  split
  · exact State_modChan_within (sub_trans rfl hk) h
  · exact State_modChan_within (sub_trans rfl hk) h
  · exact h

theorem State_slotJudge_within {k : Nat} {s0 : State} {a0 : State} {a1 : _} {a2 : _} {a3 : _} (hk : 16777216 &&& k = 16777216) (h : Within k s0 a0) : Within k s0 (State.slotJudge a0 a1 a2 a3) := by
  unfold Sys2Proof.Machine.State.slotJudge
  extract_lets -underBinder +onlyGivenNames x1
  have hx1 : Within k s0 x1 := by
    unfold x1
    refine Within.ite (fun _ => ?_) (fun _ => ?_)
    · exact h
    · exact State_checkVt_within (sub_trans rfl hk) h
  try clear_value x1
  split
  · exact State_modChan_within (sub_trans rfl hk) hx1
  · exact State_doRound_within (sub_trans rfl hk) hx1
  · exact State_aiRound_within (sub_trans rfl hk) hx1
  · exact State_aoRound_within (sub_trans rfl hk) hx1
  · exact State_siRound_within (sub_trans rfl hk) hx1
  · exact State_soRound_within (sub_trans rfl hk) hx1
  · exact hx1

theorem State_slot_within {k : Nat} {s0 : State} {a0 : State} {a1 : _} {a2 : _} {a3 : _} (hk : 16777216 &&& k = 16777216) (h : Within k s0 a0) : Within k s0 (State.slot a0 a1 a2 a3) := by
  unfold Sys2Proof.Machine.State.slot
  refine Within.ite (fun _ => ?_) (fun _ => ?_)
  · exact State_fev_within (sub_trans rfl hk) (State_modChan_within (sub_trans rfl hk) h)
  · extract_lets -underBinder +onlyGivenNames x1
    have hx1 : Within k s0 x1 := by
      exact State_slotJudge_within (sub_trans rfl hk) h
    try clear_value x1
    extract_lets -underBinder +onlyGivenNames x2
    try clear_value x2
    exact State_modChan_within (sub_trans rfl hk) hx1

theorem State_slots_within {k : Nat} {s0 : State} {a0 : State} {a1 : _} {a2 : _} {a3 : _} (hk : 16777216 &&& k = 16777216) (h : Within k s0 a0) : Within k s0 (State.slots a0 a1 a2 a3) := by
  induction a3 generalizing a0 a1 a2 with
  | nil =>
    unfold Sys2Proof.Machine.State.slots
    exact h
  | cons _ _ ih =>
    unfold Sys2Proof.Machine.State.slots
    apply ih
    exact State_slot_within (sub_trans rfl hk) h

end Sys2Proof.Laws
end

