-- ==== Sys2Proof/Laws/WithinSafeField.lean ====
section
/-! SUPPORT. What each operation of Machine/SafeField.lean can do to the state (see Laws/Within.lean). -/

/- One thread: elaborating these many small proofs side by side can exceed the memory that check.sh allows. -/
set_option Elab.async false

namespace Sys2Proof.Laws
open Sys2Proof Sys2Proof.Machine

theorem State_fieldSend_within {k : Nat} {s0 : State} {a0 : State} {a1 : _} {a2 : _} (hk : 68719480832 &&& k = 68719480832) (h : Within k s0 a0) : Within k s0 (State.fieldSend a0 a1 a2) := by
  unfold Sys2Proof.Machine.State.fieldSend
  extract_lets -underBinder +onlyGivenNames x1
  try clear_value x1
  exact Within.plain (a := 68719480832) (t := a0) (sub_trans rfl hk) h rfl rfl rfl rfl rfl rfl

theorem State_fieldPost_within {k : Nat} {s0 : State} {a0 : State} {a1 : _} {a2 : _} (hk : 68736258048 &&& k = 68736258048) (h : Within k s0 a0) : Within k s0 (State.fieldPost a0 a1 a2) := by
  unfold Sys2Proof.Machine.State.fieldPost
  refine Within.ite (fun _ => ?_) (fun _ => ?_)
  · exact Within.set_field (sub_trans rfl hk) h
  · exact State_fieldSend_within (sub_trans rfl hk) h

theorem State_fieldFree_within {k : Nat} {s0 : State} {a0 : State} {a1 : _} (hk : 68736258048 &&& k = 68736258048) (h : Within k s0 a0) : Within k s0 (State.fieldFree a0 a1) := by
  unfold Sys2Proof.Machine.State.fieldFree
  extract_lets -underBinder +onlyGivenNames x1
  try clear_value x1
  extract_lets -underBinder +onlyGivenNames x2
  have hx2 : Within k s0 x2 := by
    exact Within.set_mbx (sub_trans rfl hk) h
  try clear_value x2
  split
  · exact State_fieldSend_within (sub_trans rfl hk) (Within.set_field (sub_trans rfl hk) hx2)
  · exact hx2

theorem State_fieldTake_within {k : Nat} {s0 : State} {a0 : State} {a1 : _} (hk : 68736253952 &&& k = 68736253952) (h : Within k s0 a0) : Within k s0 (State.fieldTake a0 a1) := by
  unfold Sys2Proof.Machine.State.fieldTake
  exact Within.plain (a := 68736253952) (t := a0) (sub_trans rfl hk) h rfl rfl rfl rfl rfl rfl

theorem State_sinRound_within {k : Nat} {s0 : State} {a0 : State} {a1 : _} (hk : 16777216 &&& k = 16777216) (h : Within k s0 a0) : Within k s0 (State.sinRound a0 a1) := by
  unfold Sys2Proof.Machine.State.sinRound
  extract_lets -underBinder +onlyGivenNames x1
  try clear_value x1
  extract_lets -underBinder +onlyGivenNames x2
  try clear_value x2
  extract_lets -underBinder +onlyGivenNames x3
  try clear_value x3
  extract_lets -underBinder +onlyGivenNames x4
  try clear_value x4
  extract_lets -underBinder +onlyGivenNames x5
  try clear_value x5
  extract_lets -underBinder +onlyGivenNames x6
  try clear_value x6
  extract_lets -underBinder +onlyGivenNames x7
  try clear_value x7
  refine Within.ite (fun _ => ?_) (fun _ => ?_)
  · exact State_setFn_within (sub_trans rfl hk) h
  · refine Within.ite (fun _ => ?_) (fun _ => ?_)
    · exact State_setFn_within (sub_trans rfl hk) h
    · exact State_setFn_within (sub_trans rfl hk) h

theorem sinDiscrepancy_within {k : Nat} {s0 : State} {a0 : _} {a1 : State} (hk : 16777216 &&& k = 16777216) (h : Within k s0 a1) : Within k s0 (sinDiscrepancy a0 a1) := by
  unfold Sys2Proof.Machine.sinDiscrepancy
  split
  · split
    · refine Within.ite (fun _ => ?_) (fun _ => ?_)
      · exact State_fnLatch_within (sub_trans rfl hk) h
      · exact h
    · exact h
  · exact h

theorem execSinDiscrepancy_within {k : Nat} {s0 t : State} {a0 : _} {a1 : State} (hk : 16777216 &&& k = 16777216) (h : Within k s0 a1) (e : execSinDiscrepancy a0 a1 = .next t) : Within k s0 t := by
  unfold Sys2Proof.Machine.execSinDiscrepancy at e
  cases e
  exact sinDiscrepancy_within (sub_trans rfl hk) h

theorem State_tsFail_within {k : Nat} {s0 : State} {a0 : State} {a1 : _} (hk : 16777216 &&& k = 16777216) (h : Within k s0 a0) : Within k s0 (State.tsFail a0 a1) := by
  unfold Sys2Proof.Machine.State.tsFail
  extract_lets -underBinder +onlyGivenNames x1
  have hx1 : Within k s0 x1 := by
    exact State_modChan_within (sub_trans rfl hk) h
  try clear_value x1
  refine State_settle_within (sub_trans rfl hk) ?_
  refine Within.foldl (fun t2 _ ht2 => ?_) _ ?_
  · exact State_fnLatch_within (sub_trans rfl hk) ht2
  · exact hx1

theorem testPulseStart_within {k : Nat} {s0 : State} {a0 : _} {a1 : State} (hk : 16777272 &&& k = 16777272) (h : Within k s0 a1) : Within k s0 (testPulseStart a0 a1) := by
  unfold Sys2Proof.Machine.testPulseStart
  refine Within.ite (fun _ => ?_) (fun _ => ?_)
  · exact State_settle_within (sub_trans rfl hk) (State_modChan_within (sub_trans rfl hk) (State_toTime_within (sub_trans rfl hk) h))
  · exact h

theorem execTestPulseStart_within {k : Nat} {s0 t : State} {a0 : _} {a1 : State} (hk : 16777272 &&& k = 16777272) (h : Within k s0 a1) (e : execTestPulseStart a0 a1 = .next t) : Within k s0 t := by
  unfold Sys2Proof.Machine.execTestPulseStart at e
  cases e
  exact testPulseStart_within (sub_trans rfl hk) h

theorem tsCheck_within {k : Nat} {s0 : State} {a0 : _} {a1 : _} {a2 : State} (hk : 16777272 &&& k = 16777272) (h : Within k s0 a2) : Within k s0 (tsCheck a0 a1 a2) := by
  unfold Sys2Proof.Machine.tsCheck
  refine Within.ite (fun _ => ?_) (fun _ => ?_)
  · extract_lets -underBinder +onlyGivenNames x1
    have hx1 : Within k s0 x1 := by
      exact State_modChan_within (sub_trans rfl hk) (State_toTime_within (sub_trans rfl hk) h)
    try clear_value x1
    refine Within.ite (fun _ => ?_) (fun _ => ?_)
    · exact hx1
    · exact State_tsFail_within (sub_trans rfl hk) hx1
  · exact h

theorem execTsCheck_within {k : Nat} {s0 t : State} {a0 : _} {a1 : _} {a2 : State} (hk : 16777272 &&& k = 16777272) (h : Within k s0 a2) (e : execTsCheck a0 a1 a2 = .next t) : Within k s0 t := by
  unfold Sys2Proof.Machine.execTsCheck at e
  cases e
  exact tsCheck_within (sub_trans rfl hk) h

theorem testPulseEnd_within {k : Nat} {s0 : State} {a0 : _} {a1 : _} {a2 : State} (hk : 16777272 &&& k = 16777272) (h : Within k s0 a2) : Within k s0 (testPulseEnd a0 a1 a2) := by
  unfold Sys2Proof.Machine.testPulseEnd
  refine Within.ite (fun _ => ?_) (fun _ => ?_)
  · extract_lets -underBinder +onlyGivenNames x1
    have hx1 : Within k s0 x1 := by
      exact State_toTime_within (sub_trans rfl hk) h
    try clear_value x1
    exact State_settle_within (sub_trans rfl hk) (State_modChan_within (sub_trans rfl hk) hx1)
  · exact h

theorem execTestPulseEnd_within {k : Nat} {s0 t : State} {a0 : _} {a1 : _} {a2 : State} (hk : 16777272 &&& k = 16777272) (h : Within k s0 a2) (e : execTestPulseEnd a0 a1 a2 = .next t) : Within k s0 t := by
  unfold Sys2Proof.Machine.execTestPulseEnd at e
  cases e
  exact testPulseEnd_within (sub_trans rfl hk) h

theorem tsRestart_within {k : Nat} {s0 : State} {a0 : _} {a1 : State} (hk : 16777272 &&& k = 16777272) (h : Within k s0 a1) : Within k s0 (tsRestart a0 a1) := by
  unfold Sys2Proof.Machine.tsRestart
  refine Within.ite (fun _ => ?_) (fun _ => ?_)
  · exact State_settle_within (sub_trans rfl hk) (State_modChan_within (sub_trans rfl hk) (State_toTime_within (sub_trans rfl hk) h))
  · exact h

theorem execTsRestart_within {k : Nat} {s0 t : State} {a0 : _} {a1 : State} (hk : 16777272 &&& k = 16777272) (h : Within k s0 a1) (e : execTsRestart a0 a1 = .next t) : Within k s0 t := by
  unfold Sys2Proof.Machine.execTsRestart at e
  cases e
  exact tsRestart_within (sub_trans rfl hk) h

theorem State_tpCredit_within {k : Nat} {s0 : State} {a0 : State} {a1 : _} (hk : 16777216 &&& k = 16777216) (h : Within k s0 a0) : Within k s0 (State.tpCredit a0 a1) := by
  unfold Sys2Proof.Machine.State.tpCredit
  split
  · extract_lets -underBinder +onlyGivenNames x1
    try clear_value x1
    extract_lets -underBinder +onlyGivenNames x2
    try clear_value x2
    exact State_setFn_within (sub_trans rfl hk) h
  · exact h

theorem State_judgeSi_within {k : Nat} {s0 : State} {a0 : State} {a1 : _} {a2 : _} (hk : 16777216 &&& k = 16777216) (h : Within k s0 a0) : Within k s0 (State.judgeSi a0 a1 a2) := by
  unfold Sys2Proof.Machine.State.judgeSi
  extract_lets -underBinder +onlyGivenNames x1
  try clear_value x1
  extract_lets -underBinder +onlyGivenNames x2
  try clear_value x2
  refine Within.ite (fun _ => ?_) (fun _ => ?_)
  · exact h
  · split
    · exact h
    · extract_lets -underBinder +onlyGivenNames x3
      have hx3 : Within k s0 x3 := by
        exact State_setChan_within (sub_trans rfl hk) h
      try clear_value x3
      refine Within.ite (fun _ => ?_) (fun _ => ?_)
      · exact State_tpCredit_within (sub_trans rfl hk) hx3
      · refine Within.foldl (fun t4 _ ht4 => ?_) _ ?_
        · exact State_fnLatch_within (sub_trans rfl hk) ht4
        · exact hx3

theorem tpJudgement_within {k : Nat} {s0 : State} {a0 : State} (hk : 16777272 &&& k = 16777272) (h : Within k s0 a0) : Within k s0 (tpJudgement a0) := by
  unfold Sys2Proof.Machine.tpJudgement
  extract_lets -underBinder +onlyGivenNames x1
  have hx1 : Within k s0 x1 := by
    exact State_toTime_within (sub_trans rfl hk) h
  try clear_value x1
  extract_lets -underBinder +onlyGivenNames x2
  try clear_value x2
  refine State_settle_within (sub_trans rfl hk) ?_
  refine Within.foldl (fun t3 _ ht3 => ?_) _ ?_
  · exact State_judgeSi_within (sub_trans rfl hk) ht3
  · exact hx1

theorem execTpJudgement_within {k : Nat} {s0 t : State} {a0 : State} (hk : 16777272 &&& k = 16777272) (h : Within k s0 a0)
    (e : execTpJudgement a0 = .next t) : Within k s0 t := by
  have e' : tpJudgement a0 = t := Host.Outcome.next.inj e
  subst e'
  exact tpJudgement_within (sub_trans rfl hk) h

theorem State_setPulse_within {k : Nat} {s0 : State} {a0 : State} {a1 : _} {a2 : _} {a3 : _} (hk : 16777216 &&& k = 16777216) (h : Within k s0 a0) : Within k s0 (State.setPulse a0 a1 a2 a3) := by
  unfold Sys2Proof.Machine.State.setPulse
  exact State_settle_within (sub_trans rfl hk) (State_setFn_within (sub_trans rfl hk) h)

theorem offPulse_within {k : Nat} {s0 : State} {a0 : _} {a1 : State} (hk : 16777272 &&& k = 16777272) (h : Within k s0 a1) :
    Within k s0 (offPulse a0 a1) := by
  unfold Sys2Proof.Machine.offPulse
  generalize State.fnOf a1 3 a0 = q
  cases q with
  | none => exact h
  | some f => exact Within.ite (fun _ => State_setPulse_within (sub_trans rfl hk) (State_toTime_within (sub_trans rfl hk) h)) (fun _ => h)

theorem execOffPulse_within {k : Nat} {s0 t : State} {a0 : _} {a1 : State} (hk : 16777272 &&& k = 16777272) (h : Within k s0 a1) (e : execOffPulse a0 a1 = .next t) : Within k s0 t := by
  unfold Sys2Proof.Machine.execOffPulse at e
  cases e
  exact offPulse_within (sub_trans rfl hk) h

theorem offPulseCheck_within {k : Nat} {s0 : State} {a0 : _} {a1 : _} {a2 : State} (hk : 16777272 &&& k = 16777272) (h : Within k s0 a2) : Within k s0 (offPulseCheck a0 a1 a2) := by
  unfold Sys2Proof.Machine.offPulseCheck
  split
  · refine Within.ite (fun _ => ?_) (fun _ => ?_)
    · extract_lets -underBinder +onlyGivenNames x1
      have hx1 : Within k s0 x1 := by
        exact State_toTime_within (sub_trans rfl hk) h
      try clear_value x1
      refine Within.ite (fun _ => ?_) (fun _ => ?_)
      · exact State_settle_within (sub_trans rfl hk) (State_fnLatch_within (sub_trans rfl hk) hx1)
      · exact hx1
    · exact h
  · exact h

theorem execOffPulseCheck_within {k : Nat} {s0 t : State} {a0 : _} {a1 : _} {a2 : State} (hk : 16777272 &&& k = 16777272) (h : Within k s0 a2) (e : execOffPulseCheck a0 a1 a2 = .next t) : Within k s0 t := by
  unfold Sys2Proof.Machine.execOffPulseCheck at e
  cases e
  exact offPulseCheck_within (sub_trans rfl hk) h

theorem offPulseEnd_within {k : Nat} {s0 : State} {a0 : _} {a1 : State} (hk : 16777272 &&& k = 16777272) (h : Within k s0 a1) : Within k s0 (offPulseEnd a0 a1) := by
  unfold Sys2Proof.Machine.offPulseEnd
  split
  · refine Within.ite (fun _ => ?_) (fun _ => ?_)
    · exact State_setPulse_within (sub_trans rfl hk) (State_toTime_within (sub_trans rfl hk) h)
    · exact h
  · exact h

theorem execOffPulseEnd_within {k : Nat} {s0 t : State} {a0 : _} {a1 : State} (hk : 16777272 &&& k = 16777272) (h : Within k s0 a1) (e : execOffPulseEnd a0 a1 = .next t) : Within k s0 t := by
  unfold Sys2Proof.Machine.execOffPulseEnd at e
  cases e
  exact offPulseEnd_within (sub_trans rfl hk) h

theorem fbCheck_within {k : Nat} {s0 : State} {a0 : _} {a1 : State} (hk : 16777272 &&& k = 16777272) (h : Within k s0 a1) : Within k s0 (fbCheck a0 a1) := by
  unfold Sys2Proof.Machine.fbCheck
  split
  · refine Within.ite (fun _ => ?_) (fun _ => ?_)
    · extract_lets -underBinder +onlyGivenNames x1
      have hx1 : Within k s0 x1 := by
        exact State_toTime_within (sub_trans rfl hk) h
      try clear_value x1
      refine Within.ite (fun _ => ?_) (fun _ => ?_)
      · exact State_settle_within (sub_trans rfl hk) (State_fnLatch_within (sub_trans rfl hk) hx1)
      · exact hx1
    · exact h
  · exact h

theorem execFbCheck_within {k : Nat} {s0 t : State} {a0 : _} {a1 : State} (hk : 16777272 &&& k = 16777272) (h : Within k s0 a1) (e : execFbCheck a0 a1 = .next t) : Within k s0 t := by
  unfold Sys2Proof.Machine.execFbCheck at e
  cases e
  exact fbCheck_within (sub_trans rfl hk) h

theorem State_fnReset_within {k : Nat} {s0 : State} {a0 : State} {a1 : _} (hk : 16777216 &&& k = 16777216) (h : Within k s0 a0) : Within k s0 (State.fnReset a0 a1) := by
  unfold Sys2Proof.Machine.State.fnReset
  refine Within.ite (fun _ => ?_) (fun _ => ?_)
  · refine Within.ite (fun _ => ?_) (fun _ => ?_)
    · exact h
    · extract_lets -underBinder +onlyGivenNames x1
      try clear_value x1
      exact State_fev_within (sub_trans rfl hk) (State_setFn_within (sub_trans rfl hk) h)
  · exact State_setFn_within (sub_trans rfl hk) h

theorem safReset_within {k : Nat} {s0 : State} {a0 : State} (hk : 68736258048 &&& k = 68736258048) (h : Within k s0 a0) : Within k s0 (safReset a0) := by
  unfold Sys2Proof.Machine.safReset
  split
  · extract_lets -underBinder +onlyGivenNames x1
    try clear_value x1
    extract_lets -underBinder +onlyGivenNames x2
    have hx2 : Within k s0 x2 := by
      refine Within.foldl (fun t3 _ ht3 => ?_) _ ?_
      · exact State_fnReset_within (sub_trans rfl hk) ht3
      · exact h
    try clear_value x2
    exact State_fieldPost_within (sub_trans rfl hk) (State_fieldTake_within (sub_trans rfl hk) (State_settle_within (sub_trans rfl hk) hx2))
  · exact h

theorem execSafReset_within {k : Nat} {s0 t : State} {a0 : State} (hk : 68736258048 &&& k = 68736258048) (h : Within k s0 a0) (e : execSafReset a0 = .next t) : Within k s0 t := by
  unfold Sys2Proof.Machine.execSafReset at e
  cases e
  exact safReset_within (sub_trans rfl hk) h

theorem safArm_within {k : Nat} {s0 : State} {a0 : State} (hk : 68736258048 &&& k = 68736258048) (h : Within k s0 a0) : Within k s0 (safArm a0) := by
  unfold Sys2Proof.Machine.safArm
  split
  · extract_lets -underBinder +onlyGivenNames x1
    extract_lets -underBinder +onlyGivenNames x2
    extract_lets -underBinder +onlyGivenNames x3
    extract_lets -underBinder +onlyGivenNames x4
    have hx4 : Within k s0 x4 := by
      unfold x4
      refine Within.ite (fun _ => ?_) (fun _ => ?_)
      · exact State_settle_within (sub_trans rfl hk) (Within.set_field (sub_trans rfl hk) h)
      · exact h
    exact State_fieldPost_within (sub_trans rfl hk) (State_fieldTake_within (sub_trans rfl hk) hx4)
  · exact h

theorem execSafArm_within {k : Nat} {s0 t : State} {a0 : State} (hk : 68736258048 &&& k = 68736258048) (h : Within k s0 a0) (e : execSafArm a0 = .next t) : Within k s0 t := by
  unfold Sys2Proof.Machine.execSafArm at e
  cases e
  exact safArm_within (sub_trans rfl hk) h

end Sys2Proof.Laws
end

