-- ==== Sys2Proof/Laws/WithinChannels.lean ====
section
/-! SUPPORT. What each operation of Machine/Channels.lean can do to the state (see Laws/Within.lean). -/

/- One thread: elaborating these many small proofs side by side can exceed the memory that check.sh allows. -/
set_option Elab.async false

namespace Sys2Proof.Laws
open Sys2Proof Sys2Proof.Machine

theorem State_lpEdge_within {k : Nat} {s0 : State} {a0 : State} {a1 : _} {a2 : _} {a3 : _} (hk : 16777216 &&& k = 16777216) (h : Within k s0 a0) : Within k s0 (State.lpEdge a0 a1 a2 a3) := by
  unfold Sys2Proof.Machine.State.lpEdge
  refine Within.ite (fun _ => ?_) (fun _ => ?_)
  · refine Within.foldl (fun t1 _ ht1 => ?_) _ ?_
    · exact State_modChan_within (sub_trans rfl hk) ht1
    · exact h
  · refine Within.ite (fun _ => ?_) (fun _ => ?_)
    · exact Within.set_field (sub_trans rfl hk) h
    · exact h

theorem lplusChange_within {k : Nat} {s0 : State} {a0 : _} {a1 : State} (hk : 16777216 &&& k = 16777216) (h : Within k s0 a1) : Within k s0 (lplusChange a0 a1) := by
  unfold Sys2Proof.Machine.lplusChange
  extract_lets -underBinder +onlyGivenNames x1
  try clear_value x1
  extract_lets -underBinder +onlyGivenNames x2
  try clear_value x2
  refine Within.ite (fun _ => ?_) (fun _ => ?_)
  · exact h
  · exact State_settle_within (sub_trans rfl hk) (State_fev_within (sub_trans rfl hk) (State_lpEdge_within (sub_trans rfl hk) (State_setGrp_within (sub_trans rfl hk) h)))

theorem execLplusStateChange_within {k : Nat} {s0 t : State} {a0 : _} {a1 : State} (hk : 16777216 &&& k = 16777216) (h : Within k s0 a1) (e : execLplusStateChange a0 a1 = .next t) : Within k s0 t := by
  unfold Sys2Proof.Machine.execLplusStateChange at e
  cases e
  exact lplusChange_within (sub_trans rfl hk) h

theorem State_grpRound_within {k : Nat} {s0 : State} {a0 : State} {a1 : _} {a2 : _} {a3 : _} (hk : 16777216 &&& k = 16777216) (h : Within k s0 a0) : Within k s0 (State.grpRound a0 a1 a2 a3) := by
  unfold Sys2Proof.Machine.State.grpRound
  extract_lets -underBinder +onlyGivenNames x1
  try clear_value x1
  extract_lets -underBinder +onlyGivenNames x2
  try clear_value x2
  exact State_setGrp_within (sub_trans rfl hk) h

theorem groupOverload_within {k : Nat} {s0 : State} {a0 : _} {a1 : State} (hk : 16777216 &&& k = 16777216) (h : Within k s0 a1) : Within k s0 (groupOverload a0 a1) := by
  unfold Sys2Proof.Machine.groupOverload
  extract_lets -underBinder +onlyGivenNames x1
  try clear_value x1
  refine Within.ite (fun _ => ?_) (fun _ => ?_)
  · exact State_fev_within (sub_trans rfl hk) (State_setGrp_within (sub_trans rfl hk) h)
  · refine Within.ite (fun _ => ?_) (fun _ => ?_)
    · exact State_setGrp_within (sub_trans rfl hk) h
    · exact h

theorem execGroupOverload_within {k : Nat} {s0 t : State} {a0 : _} {a1 : State} (hk : 16777216 &&& k = 16777216) (h : Within k s0 a1) (e : execGroupOverload a0 a1 = .next t) : Within k s0 t := by
  unfold Sys2Proof.Machine.execGroupOverload at e
  cases e
  exact groupOverload_within (sub_trans rfl hk) h

theorem State_closeFrame_within {k : Nat} {s0 : State} {a0 : State} {a1 : _} (hk : 68736253952 &&& k = 68736253952) (h : Within k s0 a0) : Within k s0 (State.closeFrame a0 a1) := by
  unfold Sys2Proof.Machine.State.closeFrame
  extract_lets -underBinder +onlyGivenNames x1
  extract_lets -underBinder +onlyGivenNames x2
  exact Within.plain (a := 68736253952) (t := a0) (sub_trans rfl hk) h rfl rfl rfl rfl rfl rfl

theorem channelRound_within {k : Nat} {s0 : State} {a0 : _} {a1 : _} {a2 : _} {a3 : _} {a4 : State} (hk : 68736254008 &&& k = 68736254008) (h : Within k s0 a4) : Within k s0 (channelRound a0 a1 a2 a3 a4) := by
  unfold Sys2Proof.Machine.channelRound
  refine Within.ite (fun _ => ?_) (fun _ => ?_)
  · extract_lets -underBinder +onlyGivenNames x1
    extract_lets -underBinder +onlyGivenNames x2
    have hx2 : Within k s0 x2 := by
      exact State_toTime_within (sub_trans rfl hk) h
    extract_lets -underBinder +onlyGivenNames x3
    extract_lets -underBinder +onlyGivenNames x4
    have hx4 : Within k s0 x4 := by
      exact Within.set_field (sub_trans rfl hk) hx2
    extract_lets -underBinder +onlyGivenNames x5
    have hx5 : Within k s0 x5 := by
      exact State_slots_within (sub_trans rfl hk) hx4
    extract_lets -underBinder +onlyGivenNames x6
    have hx6 : Within k s0 x6 := by
      exact State_grpRound_within (sub_trans rfl hk) (State_grpRound_within (sub_trans rfl hk) hx5)
    extract_lets -underBinder +onlyGivenNames x7
    have hx7 : Within k s0 x7 := by
      refine Within.foldl (fun t8 _ ht8 => ?_) _ ?_
      · exact State_sinRound_within (sub_trans rfl hk) ht8
      · exact hx6
    exact State_closeFrame_within (sub_trans rfl hk) (State_settle_within (sub_trans rfl hk) hx7)
  · exact h

theorem execChannelRound_within {k : Nat} {s0 t : State} {a0 : _} {a1 : _} {a2 : _} {a3 : _} {a4 : State} (hk : 68736254008 &&& k = 68736254008) (h : Within k s0 a4) (e : execChannelRound a0 a1 a2 a3 a4 = .next t) : Within k s0 t := by
  unfold Sys2Proof.Machine.execChannelRound at e
  cases e
  exact channelRound_within (sub_trans rfl hk) h

theorem diSample_within {k : Nat} {s0 : State} {a0 : _} {a1 : _} {a2 : _} {a3 : State} (hk : 16777272 &&& k = 16777272) (h : Within k s0 a3) : Within k s0 (diSample a0 a1 a2 a3) := by
  unfold Sys2Proof.Machine.diSample
  extract_lets -underBinder +onlyGivenNames x1
  try clear_value x1
  refine Within.ite (fun _ => ?_) (fun _ => ?_)
  · extract_lets -underBinder +onlyGivenNames x2
    try clear_value x2
    extract_lets -underBinder +onlyGivenNames x3
    have hx3 : Within k s0 x3 := by
      exact State_checkVt_within (sub_trans rfl hk) (State_toTime_within (sub_trans rfl hk) h)
    try clear_value x3
    refine Within.ite (fun _ => ?_) (fun _ => ?_)
    · exact hx3
    · exact State_modChan_within (sub_trans rfl hk) hx3
  · exact h

theorem execDiSampleWindow_within {k : Nat} {s0 t : State} {a0 : _} {a1 : _} {a2 : _} {a3 : State} (hk : 16777272 &&& k = 16777272) (h : Within k s0 a3) (e : execDiSampleWindow a0 a1 a2 a3 = .next t) : Within k s0 t := by
  unfold Sys2Proof.Machine.execDiSampleWindow at e
  cases e
  exact diSample_within (sub_trans rfl hk) h

theorem fiEdge_within {k : Nat} {s0 : State} {a0 : _} {a1 : _} {a2 : _} {a3 : State} (hk : 16777272 &&& k = 16777272) (h : Within k s0 a3) : Within k s0 (fiEdge a0 a1 a2 a3) := by
  unfold Sys2Proof.Machine.fiEdge
  extract_lets -underBinder +onlyGivenNames x1
  try clear_value x1
  refine Within.ite (fun _ => ?_) (fun _ => ?_)
  · extract_lets -underBinder +onlyGivenNames x2
    have hx2 : Within k s0 x2 := by
      exact State_toTime_within (sub_trans rfl hk) h
    try clear_value x2
    exact State_setChan_within (sub_trans rfl hk) hx2
  · exact h

theorem execFiEdge_within {k : Nat} {s0 t : State} {a0 : _} {a1 : _} {a2 : _} {a3 : State} (hk : 16777272 &&& k = 16777272) (h : Within k s0 a3) (e : execFiEdge a0 a1 a2 a3 = .next t) : Within k s0 t := by
  unfold Sys2Proof.Machine.execFiEdge at e
  cases e
  exact fiEdge_within (sub_trans rfl hk) h

theorem doShort_within {k : Nat} {s0 : State} {a0 : _} {a1 : _} {a2 : State} (hk : 16777216 &&& k = 16777216) (h : Within k s0 a2) : Within k s0 (doShort a0 a1 a2) := by
  unfold Sys2Proof.Machine.doShort
  extract_lets -underBinder +onlyGivenNames x1
  try clear_value x1
  refine Within.ite (fun _ => ?_) (fun _ => ?_)
  · extract_lets -underBinder +onlyGivenNames x2
    try clear_value x2
    extract_lets -underBinder +onlyGivenNames x3
    try clear_value x3
    extract_lets -underBinder +onlyGivenNames x4
    try clear_value x4
    extract_lets -underBinder +onlyGivenNames x5
    have hx5 : Within k s0 x5 := by
      exact State_fev_within (sub_trans rfl hk) (State_setChan_within (sub_trans rfl hk) h)
    try clear_value x5
    extract_lets -underBinder +onlyGivenNames x6
    have hx6 : Within k s0 x6 := by
      unfold x6
      refine Within.ite (fun _ => ?_) (fun _ => ?_)
      · exact State_fev_within (sub_trans rfl hk) hx5
      · exact hx5
    try clear_value x6
    refine State_settle_within (sub_trans rfl hk) ?_
    refine Within.ite (fun _ => ?_) (fun _ => ?_)
    · exact State_tsFail_within (sub_trans rfl hk) hx6
    · exact hx6
  · exact h

theorem execDoShortSwitchoff_within {k : Nat} {s0 t : State} {a0 : _} {a1 : _} {a2 : State} (hk : 16777216 &&& k = 16777216) (h : Within k s0 a2) (e : execDoShortSwitchoff a0 a1 a2 = .next t) : Within k s0 t := by
  unfold Sys2Proof.Machine.execDoShortSwitchoff at e
  cases e
  exact doShort_within (sub_trans rfl hk) h

theorem doRestart_within {k : Nat} {s0 : State} {a0 : _} {a1 : State} (hk : 16777272 &&& k = 16777272) (h : Within k s0 a1) : Within k s0 (doRestart a0 a1) := by
  unfold Sys2Proof.Machine.doRestart
  extract_lets -underBinder +onlyGivenNames x1
  try clear_value x1
  refine Within.ite (fun _ => ?_) (fun _ => ?_)
  · extract_lets -underBinder +onlyGivenNames x2
    have hx2 : Within k s0 x2 := by
      exact State_toTime_within (sub_trans rfl hk) h
    try clear_value x2
    exact State_settle_within (sub_trans rfl hk) (State_modChan_within (sub_trans rfl hk) hx2)
  · refine Within.ite (fun _ => ?_) (fun _ => ?_)
    · extract_lets -underBinder +onlyGivenNames x3
      have hx3 : Within k s0 x3 := by
        exact State_toTime_within (sub_trans rfl hk) h
      try clear_value x3
      exact State_settle_within (sub_trans rfl hk) (State_modChan_within (sub_trans rfl hk) hx3)
    · exact h

theorem execDoRestartAttempt_within {k : Nat} {s0 t : State} {a0 : _} {a1 : State} (hk : 16777272 &&& k = 16777272) (h : Within k s0 a1) (e : execDoRestartAttempt a0 a1 = .next t) : Within k s0 t := by
  unfold Sys2Proof.Machine.execDoRestartAttempt at e
  cases e
  exact doRestart_within (sub_trans rfl hk) h

theorem doOpenLoad_within {k : Nat} {s0 : State} {a0 : _} {a1 : State} (hk : 16777216 &&& k = 16777216) (h : Within k s0 a1) : Within k s0 (doOpenLoad a0 a1) := by
  unfold Sys2Proof.Machine.doOpenLoad
  extract_lets -underBinder +onlyGivenNames x1
  try clear_value x1
  refine Within.ite (fun _ => ?_) (fun _ => ?_)
  · exact State_fev_within (sub_trans rfl hk) (State_setChan_within (sub_trans rfl hk) h)
  · exact h

theorem execDoOpenLoad_within {k : Nat} {s0 t : State} {a0 : _} {a1 : State} (hk : 16777216 &&& k = 16777216) (h : Within k s0 a1) (e : execDoOpenLoad a0 a1 = .next t) : Within k s0 t := by
  unfold Sys2Proof.Machine.execDoOpenLoad at e
  cases e
  exact doOpenLoad_within (sub_trans rfl hk) h

theorem doForeign_within {k : Nat} {s0 : State} {a0 : _} {a1 : State} (hk : 16777216 &&& k = 16777216) (h : Within k s0 a1) : Within k s0 (doForeign a0 a1) := by
  unfold Sys2Proof.Machine.doForeign
  extract_lets -underBinder +onlyGivenNames x1
  try clear_value x1
  refine Within.ite (fun _ => ?_) (fun _ => ?_)
  · extract_lets -underBinder +onlyGivenNames x2
    have hx2 : Within k s0 x2 := by
      exact State_setChan_within (sub_trans rfl hk) h
    try clear_value x2
    refine Within.ite (fun _ => ?_) (fun _ => ?_)
    · exact State_fev_within (sub_trans rfl hk) hx2
    · exact hx2
  · exact h

theorem execDoForeignVoltage_within {k : Nat} {s0 t : State} {a0 : _} {a1 : State} (hk : 16777216 &&& k = 16777216) (h : Within k s0 a1) (e : execDoForeignVoltage a0 a1 = .next t) : Within k s0 t := by
  unfold Sys2Proof.Machine.execDoForeignVoltage at e
  cases e
  exact doForeign_within (sub_trans rfl hk) h

theorem protEnter_within {k : Nat} {s0 : State} {a0 : _} {a1 : State} (hk : 16777216 &&& k = 16777216) (h : Within k s0 a1) : Within k s0 (protEnter a0 a1) := by
  unfold Sys2Proof.Machine.protEnter
  extract_lets -underBinder +onlyGivenNames x1
  try clear_value x1
  refine Within.ite (fun _ => ?_) (fun _ => ?_)
  · extract_lets -underBinder +onlyGivenNames x2
    have hx2 : Within k s0 x2 := by
      exact State_fev_within (sub_trans rfl hk) (State_setChan_within (sub_trans rfl hk) h)
    try clear_value x2
    extract_lets -underBinder +onlyGivenNames x3
    try clear_value x3
    refine State_settle_within (sub_trans rfl hk) ?_
    refine Within.foldl (fun t4 _ ht4 => ?_) _ ?_
    · exact State_fnLatch_within (sub_trans rfl hk) ht4
    · exact hx2
  · exact h

theorem execProtectiveStateEnter_within {k : Nat} {s0 t : State} {a0 : _} {a1 : State} (hk : 16777216 &&& k = 16777216) (h : Within k s0 a1) (e : execProtectiveStateEnter a0 a1 = .next t) : Within k s0 t := by
  unfold Sys2Proof.Machine.execProtectiveStateEnter at e
  cases e
  exact protEnter_within (sub_trans rfl hk) h

theorem protExit_within {k : Nat} {s0 : State} {a0 : _} {a1 : State} (hk : 16777216 &&& k = 16777216) (h : Within k s0 a1) : Within k s0 (protExit a0 a1) := by
  unfold Sys2Proof.Machine.protExit
  extract_lets -underBinder +onlyGivenNames x1
  try clear_value x1
  refine Within.ite (fun _ => ?_) (fun _ => ?_)
  · exact State_settle_within (sub_trans rfl hk) (State_setChan_within (sub_trans rfl hk) h)
  · exact h

theorem execProtectiveStateExit_within {k : Nat} {s0 t : State} {a0 : _} {a1 : State} (hk : 16777216 &&& k = 16777216) (h : Within k s0 a1) (e : execProtectiveStateExit a0 a1 = .next t) : Within k s0 t := by
  unfold Sys2Proof.Machine.execProtectiveStateExit at e
  cases e
  exact protExit_within (sub_trans rfl hk) h

end Sys2Proof.Laws
end

