-- ==== Sys2Proof/Laws/WithinHart.lean ====
section
/-! SUPPORT. What each operation of Machine/Hart.lean can do to the state (see Laws/Within.lean). -/

/- One thread: elaborating these many small proofs side by side can exceed the memory that check.sh allows. -/
set_option Elab.async false

namespace Sys2Proof.Laws
open Sys2Proof Sys2Proof.Machine

theorem State_hartRefused_within {k : Nat} {s0 : State} {a0 : State} {a1 : _} {a2 : _} {a3 : _} (hk : 16777216 &&& k = 16777216) (h : Within k s0 a0) : Within k s0 (State.hartRefused a0 a1 a2 a3) := by
  unfold Sys2Proof.Machine.State.hartRefused
  exact State_fev_within (sub_trans rfl hk) h

theorem State_hartLose_within {k : Nat} {s0 : State} {a0 : State} {a1 : _} {a2 : _} (hk : 16777216 &&& k = 16777216) (h : Within k s0 a0) : Within k s0 (State.hartLose a0 a1 a2) := by
  unfold Sys2Proof.Machine.State.hartLose
  exact State_hartRefused_within (sub_trans rfl hk) (State_modChan_within (sub_trans rfl hk) h)

theorem State_hartRecord_within {k : Nat} {s0 : State} {a0 : State} {a1 : _} (hk : 16777216 &&& k = 16777216) (h : Within k s0 a0) : Within k s0 (State.hartRecord a0 a1) := by
  unfold Sys2Proof.Machine.State.hartRecord
  refine Within.ite (fun _ => ?_) (fun _ => ?_)
  · exact Within.set_field (sub_trans rfl hk) h
  · exact State_hartLose_within (sub_trans rfl hk) h

theorem State_hartEnd_within {k : Nat} {s0 : State} {a0 : State} {a1 : _} {a2 : _} {a3 : _} {a4 : _} {a5 : _} {a6 : _} (hk : 16777216 &&& k = 16777216) (h : Within k s0 a0) : Within k s0 (State.hartEnd a0 a1 a2 a3 a4 a5 a6) := by
  unfold Sys2Proof.Machine.State.hartEnd
  refine Within.ite (fun _ => ?_) (fun _ => ?_)
  · exact h
  · exact State_hartRecord_within (sub_trans rfl hk) h

theorem State_hartDrop_within {k : Nat} {s0 : State} {a0 : State} {a1 : _} {a2 : _} {a3 : _} (hk : 16777216 &&& k = 16777216) (h : Within k s0 a0) : Within k s0 (State.hartDrop a0 a1 a2 a3) := by
  induction a3 generalizing a0 a1 a2 with
  | nil =>
    unfold Sys2Proof.Machine.State.hartDrop
    exact h
  | cons _ _ ih =>
    unfold Sys2Proof.Machine.State.hartDrop
    apply ih
    exact State_hartEnd_within (sub_trans rfl hk) h

theorem State_hartCancel_within {k : Nat} {s0 : State} {a0 : State} {a1 : _} (hk : 16777216 &&& k = 16777216) (h : Within k s0 a0) : Within k s0 (State.hartCancel a0 a1) := by
  unfold Sys2Proof.Machine.State.hartCancel
  extract_lets -underBinder +onlyGivenNames x1
  try clear_value x1
  extract_lets -underBinder +onlyGivenNames x2
  have hx2 : Within k s0 x2 := by
    exact State_modChan_within (sub_trans rfl hk) h
  try clear_value x2
  extract_lets -underBinder +onlyGivenNames x3
  have hx3 : Within k s0 x3 := by
    unfold x3
    split
    · exact State_hartEnd_within (sub_trans rfl hk) hx2
    · exact hx2
  try clear_value x3
  exact State_hartDrop_within (sub_trans rfl hk) hx3

theorem State_hartCancelMask_within {k : Nat} {s0 : State} {a0 : State} {a1 : _} (hk : 16777216 &&& k = 16777216) (h : Within k s0 a0) : Within k s0 (State.hartCancelMask a0 a1) := by
  unfold Sys2Proof.Machine.State.hartCancelMask
  refine Within.foldl (fun t1 _ ht1 => ?_) _ ?_
  · exact State_hartCancel_within (sub_trans rfl hk) ht1
  · exact h

theorem State_hartAnswer_within {k : Nat} {s0 : State} {a0 : State} {a1 : _} {a2 : _} {a3 : _} (hk : 16777216 &&& k = 16777216) (h : Within k s0 a0) : Within k s0 (State.hartAnswer a0 a1 a2 a3) := by
  unfold Sys2Proof.Machine.State.hartAnswer
  exact State_hartRefused_within (sub_trans rfl hk) (State_hartRecord_within (sub_trans rfl hk) h)

theorem State_hartRequest_within {k : Nat} {s0 : State} {a0 : State} {a1 : _} (hk : 16777216 &&& k = 16777216) (h : Within k s0 a0) : Within k s0 (State.hartRequest a0 a1) := by
  unfold Sys2Proof.Machine.State.hartRequest
  extract_lets -underBinder +onlyGivenNames x1
  try clear_value x1
  extract_lets -underBinder +onlyGivenNames x2
  try clear_value x2
  extract_lets -underBinder +onlyGivenNames x3
  try clear_value x3
  extract_lets -underBinder +onlyGivenNames x4
  try clear_value x4
  extract_lets -underBinder +onlyGivenNames x5
  try clear_value x5
  refine Within.ite (fun _ => ?_) (fun _ => ?_)
  · exact State_hartAnswer_within (sub_trans rfl hk) h
  · refine Within.ite (fun _ => ?_) (fun _ => ?_)
    · exact State_hartAnswer_within (sub_trans rfl hk) h
    · refine Within.ite (fun _ => ?_) (fun _ => ?_)
      · exact State_hartAnswer_within (sub_trans rfl hk) h
      · refine Within.ite (fun _ => ?_) (fun _ => ?_)
        · exact State_hartAnswer_within (sub_trans rfl hk) h
        · refine Within.ite (fun _ => ?_) (fun _ => ?_)
          · exact State_hartRecord_within (sub_trans rfl hk) h
          · exact State_setChan_within (sub_trans rfl hk) h

theorem rimBulkFrame_within {k : Nat} {s0 : State} {a0 : State} (hk : 34376515584 &&& k = 34376515584) (h : Within k s0 a0) : Within k s0 (rimBulkFrame a0) := by
  unfold Sys2Proof.Machine.rimBulkFrame
  split
  · extract_lets -underBinder +onlyGivenNames x1
    have hx1 : Within k s0 x1 := by
      exact Within.set_toField (sub_trans rfl hk) h
    try clear_value x1
    refine Within.ite (fun _ => ?_) (fun _ => ?_)
    · exact State_hartRequest_within (sub_trans rfl hk) hx1
    · exact hx1
  · exact h

theorem execRimBulkFrame_within {k : Nat} {s0 t : State} {a0 : State} (hk : 34376515584 &&& k = 34376515584) (h : Within k s0 a0) (e : execRimBulkFrame a0 = .next t) : Within k s0 t := by
  unfold Sys2Proof.Machine.execRimBulkFrame at e
  cases e
  exact rimBulkFrame_within (sub_trans rfl hk) h

theorem hartTransmit_within {k : Nat} {s0 : State} {a0 : _} {a1 : State} (hk : 137455730688 &&& k = 137455730688) (h : Within k s0 a1) : Within k s0 (hartTransmit a0 a1) := by
  unfold Sys2Proof.Machine.hartTransmit
  extract_lets -underBinder +onlyGivenNames x1
  try clear_value x1
  refine Within.ite (fun _ => ?_) (fun _ => ?_)
  · exact h
  · split
    · exact h
    · refine Within.ite (fun _ => ?_) (fun _ => ?_)
      · extract_lets -underBinder +onlyGivenNames x2
        have hx2 : Within k s0 x2 := by
          exact State_setChan_within (sub_trans rfl hk) h
        try clear_value x2
        refine Within.foldl (fun t3 _ ht3 => ?_) _ ?_
        · refine Within.ite (fun _ => ?_) (fun _ => ?_)
          · exact ht3
          · exact State_hartAnswer_within (sub_trans rfl hk) ht3
        · exact hx2
      · refine Within.ite (fun _ => ?_) (fun _ => ?_)
        · exact h
        · exact State_send_within (sub_trans rfl hk) (State_setChan_within (sub_trans rfl hk) h)

theorem execHartTransmitStart_within {k : Nat} {s0 t : State} {a0 : _} {a1 : State} (hk : 137455730688 &&& k = 137455730688) (h : Within k s0 a1) (e : execHartTransmitStart a0 a1 = .next t) : Within k s0 t := by
  unfold Sys2Proof.Machine.execHartTransmitStart at e
  cases e
  exact hartTransmit_within (sub_trans rfl hk) h

theorem State_hartScanned_within {k : Nat} {s0 : State} {a0 : State} {a1 : _} {a2 : _} (hk : 16777216 &&& k = 16777216) (h : Within k s0 a0) : Within k s0 (State.hartScanned a0 a1 a2) := by
  unfold Sys2Proof.Machine.State.hartScanned
  extract_lets -underBinder +onlyGivenNames x1
  try clear_value x1
  extract_lets -underBinder +onlyGivenNames x2
  try clear_value x2
  extract_lets -underBinder +onlyGivenNames x3
  try clear_value x3
  extract_lets -underBinder +onlyGivenNames x4
  have hx4 : Within k s0 x4 := by
    unfold x4
    refine Within.ite (fun _ => ?_) (fun _ => ?_)
    · exact State_fev_within (sub_trans rfl hk) h
    · exact h
  try clear_value x4
  refine Within.ite (fun _ => ?_) (fun _ => ?_)
  · exact State_setChan_within (sub_trans rfl hk) hx4
  · exact State_setChan_within (sub_trans rfl hk) hx4

theorem State_hartMissed_within {k : Nat} {s0 : State} {a0 : State} {a1 : _} (hk : 16777216 &&& k = 16777216) (h : Within k s0 a0) : Within k s0 (State.hartMissed a0 a1) := by
  unfold Sys2Proof.Machine.State.hartMissed
  extract_lets -underBinder +onlyGivenNames x1
  try clear_value x1
  extract_lets -underBinder +onlyGivenNames x2
  try clear_value x2
  refine Within.ite (fun _ => ?_) (fun _ => ?_)
  · extract_lets -underBinder +onlyGivenNames x3
    try clear_value x3
    exact State_fev_within (sub_trans rfl hk) (State_setChan_within (sub_trans rfl hk) h)
  · exact State_setChan_within (sub_trans rfl hk) h

theorem State_hartIdle_within {k : Nat} {s0 : State} {a0 : State} {a1 : _} (hk : 16777216 &&& k = 16777216) (h : Within k s0 a0) : Within k s0 (State.hartIdle a0 a1) := by
  unfold Sys2Proof.Machine.State.hartIdle
  exact State_modChan_within (sub_trans rfl hk) h

theorem State_hartFail_within {k : Nat} {s0 : State} {a0 : State} {a1 : _} {a2 : _} {a3 : _} {a4 : _} (hk : 137455730688 &&& k = 137455730688) (h : Within k s0 a0) : Within k s0 (State.hartFail a0 a1 a2 a3 a4) := by
  unfold Sys2Proof.Machine.State.hartFail
  refine Within.ite (fun _ => ?_) (fun _ => ?_)
  · exact State_send_within (sub_trans rfl hk) (State_modChan_within (sub_trans rfl hk) h)
  · extract_lets -underBinder +onlyGivenNames x1
    have hx1 : Within k s0 x1 := by
      exact State_hartIdle_within (sub_trans rfl hk) h
    try clear_value x1
    refine Within.ite (fun _ => ?_) (fun _ => ?_)
    · exact State_hartMissed_within (sub_trans rfl hk) hx1
    · exact State_hartEnd_within (sub_trans rfl hk) (State_modChan_within (sub_trans rfl hk) hx1)

theorem hartResponse_within {k : Nat} {s0 : State} {a0 : _} {a1 : _} {a2 : _} {a3 : _} {a4 : State} (hk : 137455730688 &&& k = 137455730688) (h : Within k s0 a4) : Within k s0 (hartResponse a0 a1 a2 a3 a4) := by
  unfold Sys2Proof.Machine.hartResponse
  split
  · refine Within.ite (fun _ => ?_) (fun _ => ?_)
    · extract_lets -underBinder +onlyGivenNames x1
      have hx1 : Within k s0 x1 := by
        exact State_hartIdle_within (sub_trans rfl hk) h
      try clear_value x1
      refine Within.ite (fun _ => ?_) (fun _ => ?_)
      · exact State_hartScanned_within (sub_trans rfl hk) hx1
      · exact State_hartEnd_within (sub_trans rfl hk) hx1
    · exact State_hartFail_within (sub_trans rfl hk) h
  · exact h

theorem execHartResponseEnd_within {k : Nat} {s0 t : State} {a0 : _} {a1 : _} {a2 : _} {a3 : _} {a4 : State} (hk : 137455730688 &&& k = 137455730688) (h : Within k s0 a4) (e : execHartResponseEnd a0 a1 a2 a3 a4 = .next t) : Within k s0 t := by
  unfold Sys2Proof.Machine.execHartResponseEnd at e
  cases e
  exact hartResponse_within (sub_trans rfl hk) h

theorem hartNoResponse_within {k : Nat} {s0 : State} {a0 : _} {a1 : State} (hk : 137455730688 &&& k = 137455730688) (h : Within k s0 a1) : Within k s0 (hartNoResponse a0 a1) := by
  unfold Sys2Proof.Machine.hartNoResponse
  split
  · exact State_hartFail_within (sub_trans rfl hk) h
  · exact h

theorem execHartNoResponse_within {k : Nat} {s0 t : State} {a0 : _} {a1 : State} (hk : 137455730688 &&& k = 137455730688) (h : Within k s0 a1) (e : execHartNoResponse a0 a1 = .next t) : Within k s0 t := by
  unfold Sys2Proof.Machine.execHartNoResponse at e
  cases e
  exact hartNoResponse_within (sub_trans rfl hk) h

theorem hartListen_within {k : Nat} {s0 : State} {a0 : _} {a1 : _} {a2 : _} {a3 : State} (hk : 16777216 &&& k = 16777216) (h : Within k s0 a3) : Within k s0 (hartListen a0 a1 a2 a3) := by
  unfold Sys2Proof.Machine.hartListen
  extract_lets -underBinder +onlyGivenNames x1
  try clear_value x1
  refine Within.ite (fun _ => ?_) (fun _ => ?_)
  · exact State_hartRecord_within (sub_trans rfl hk) h
  · exact h

theorem execHartListenFrame_within {k : Nat} {s0 t : State} {a0 : _} {a1 : _} {a2 : _} {a3 : State} (hk : 16777216 &&& k = 16777216) (h : Within k s0 a3) (e : execHartListenFrame a0 a1 a2 a3 = .next t) : Within k s0 t := by
  unfold Sys2Proof.Machine.execHartListenFrame at e
  cases e
  exact hartListen_within (sub_trans rfl hk) h

theorem hartBurst_within {k : Nat} {s0 : State} {a0 : _} {a1 : _} {a2 : _} {a3 : State} (hk : 16777216 &&& k = 16777216) (h : Within k s0 a3) : Within k s0 (hartBurst a0 a1 a2 a3) := by
  unfold Sys2Proof.Machine.hartBurst
  extract_lets -underBinder +onlyGivenNames x1
  try clear_value x1
  refine Within.ite (fun _ => ?_) (fun _ => ?_)
  · exact State_hartRecord_within (sub_trans rfl hk) h
  · exact h

theorem execHartBurstFrame_within {k : Nat} {s0 t : State} {a0 : _} {a1 : _} {a2 : _} {a3 : State} (hk : 16777216 &&& k = 16777216) (h : Within k s0 a3) (e : execHartBurstFrame a0 a1 a2 a3 = .next t) : Within k s0 t := by
  unfold Sys2Proof.Machine.execHartBurstFrame at e
  cases e
  exact hartBurst_within (sub_trans rfl hk) h

theorem State_cancelDone_within {k : Nat} {s0 : State} {a0 : State} (hk : 68736258048 &&& k = 68736258048) (h : Within k s0 a0) : Within k s0 (State.cancelDone a0) := by
  unfold Sys2Proof.Machine.State.cancelDone
  split
  · refine Within.ite (fun _ => ?_) (fun _ => ?_)
    · exact h
    · exact State_fieldPost_within (sub_trans rfl hk) (Within.set_field (sub_trans rfl hk) h)
  · exact h

theorem State_hartPop_within {k : Nat} {s0 : State} {a0 : State} {a1 : _} (hk : 68736258048 &&& k = 68736258048) (h : Within k s0 a0) : Within k s0 (State.hartPop a0 a1) := by
  unfold Sys2Proof.Machine.State.hartPop
  exact State_cancelDone_within (sub_trans rfl hk) (Within.set_field (sub_trans rfl hk) h)

theorem State_hartPushTo_within {k : Nat} {s0 : State} {a0 : State} {a1 : _} {a2 : _} (hk : 274877908231 &&& k = 274877908231) (h : Within k s0 a0) : Within k s0 (State.hartPushTo a0 a1 a2) := by
  unfold Sys2Proof.Machine.State.hartPushTo
  extract_lets -underBinder +onlyGivenNames x1
  try clear_value x1
  extract_lets -underBinder +onlyGivenNames x2
  try clear_value x2
  exact State_push_within (sub_trans rfl hk) (State_wrBytes_within (sub_trans rfl hk) (State_draw_within (sub_trans rfl hk) h))

theorem hartPush_within {k : Nat} {s0 : State} {a0 : State} (hk : 343614166279 &&& k = 343614166279) (h : Within k s0 a0) : Within k s0 (hartPush a0) := by
  unfold Sys2Proof.Machine.hartPush
  split
  · refine Within.ite (fun _ => ?_) (fun _ => ?_)
    · refine Within.ite (fun _ => ?_) (fun _ => ?_)
      · exact State_pushRefuse_within (sub_trans rfl hk) h
      · exact State_hartPushTo_within (sub_trans rfl hk) (State_hartPop_within (sub_trans rfl hk) h)
    · exact State_hartLose_within (sub_trans rfl hk) (State_hartPop_within (sub_trans rfl hk) (State_pushRefuse_within (sub_trans rfl hk) h))
  · exact h

theorem execHartRecordPush_within {k : Nat} {s0 t : State} {a0 : State} (hk : 343614166279 &&& k = 343614166279) (h : Within k s0 a0) (e : execHartRecordPush a0 = .next t) : Within k s0 t := by
  unfold Sys2Proof.Machine.execHartRecordPush at e
  cases e
  exact hartPush_within (sub_trans rfl hk) h

theorem hartDiscard_within {k : Nat} {s0 : State} {a0 : State} (hk : 68736258104 &&& k = 68736258104) (h : Within k s0 a0) : Within k s0 (hartDiscard a0) := by
  unfold Sys2Proof.Machine.hartDiscard
  split
  · exact State_hartLose_within (sub_trans rfl hk) (State_hartPop_within (sub_trans rfl hk) (State_toMono_within (sub_trans rfl hk) h))
  · exact h

theorem execHartRecordDiscard_within {k : Nat} {s0 t : State} {a0 : State} (hk : 68736258104 &&& k = 68736258104) (h : Within k s0 a0) (e : execHartRecordDiscard a0 = .next t) : Within k s0 t := by
  unfold Sys2Proof.Machine.execHartRecordDiscard at e
  cases e
  exact hartDiscard_within (sub_trans rfl hk) h

theorem hartScanDue_within {k : Nat} {s0 : State} {a0 : _} {a1 : State} (hk : 16777272 &&& k = 16777272) (h : Within k s0 a1) : Within k s0 (hartScanDue a0 a1) := by
  unfold Sys2Proof.Machine.hartScanDue
  extract_lets -underBinder +onlyGivenNames x1
  try clear_value x1
  refine Within.ite (fun _ => ?_) (fun _ => ?_)
  · extract_lets -underBinder +onlyGivenNames x2
    have hx2 : Within k s0 x2 := by
      exact State_toMono_within (sub_trans rfl hk) h
    try clear_value x2
    exact State_modChan_within (sub_trans rfl hk) hx2
  · exact h

theorem execHartScanDue_within {k : Nat} {s0 t : State} {a0 : _} {a1 : State} (hk : 16777272 &&& k = 16777272) (h : Within k s0 a1) (e : execHartScanDue a0 a1 = .next t) : Within k s0 t := by
  unfold Sys2Proof.Machine.execHartScanDue at e
  cases e
  exact hartScanDue_within (sub_trans rfl hk) h

theorem hartCancelMsg_within {k : Nat} {s0 : State} {a0 : State} (hk : 68736258048 &&& k = 68736258048) (h : Within k s0 a0) : Within k s0 (hartCancelMsg a0) := by
  unfold Sys2Proof.Machine.hartCancelMsg
  split
  · extract_lets -underBinder +onlyGivenNames x1
    try clear_value x1
    extract_lets -underBinder +onlyGivenNames x2
    have hx2 : Within k s0 x2 := by
      exact State_fieldTake_within (sub_trans rfl hk) (State_hartCancelMask_within (sub_trans rfl hk) h)
    try clear_value x2
    exact State_cancelDone_within (sub_trans rfl hk) (Within.set_field (sub_trans rfl hk) hx2)
  · exact h

theorem execHartCancel_within {k : Nat} {s0 t : State} {a0 : State} (hk : 68736258048 &&& k = 68736258048) (h : Within k s0 a0) (e : execHartCancel a0 = .next t) : Within k s0 t := by
  unfold Sys2Proof.Machine.execHartCancel at e
  cases e
  exact hartCancelMsg_within (sub_trans rfl hk) h

theorem hartScanMsg_within {k : Nat} {s0 : State} {a0 : State} (hk : 68736253952 &&& k = 68736253952) (h : Within k s0 a0) : Within k s0 (hartScanMsg a0) := by
  unfold Sys2Proof.Machine.hartScanMsg
  split
  · extract_lets -underBinder +onlyGivenNames x1
    try clear_value x1
    extract_lets -underBinder +onlyGivenNames x2
    try clear_value x2
    extract_lets -underBinder +onlyGivenNames x3
    have hx3 : Within k s0 x3 := by
      refine Within.foldl (fun t4 _ ht4 => ?_) _ ?_
      · exact State_modChan_within (sub_trans rfl hk) ht4
      · exact h
    try clear_value x3
    exact State_fieldTake_within (sub_trans rfl hk) hx3
  · exact h

theorem execHartScan_within {k : Nat} {s0 t : State} {a0 : State} (hk : 68736253952 &&& k = 68736253952) (h : Within k s0 a0) (e : execHartScan a0 = .next t) : Within k s0 t := by
  unfold Sys2Proof.Machine.execHartScan at e
  cases e
  exact hartScanMsg_within (sub_trans rfl hk) h

end Sys2Proof.Laws
end

