-- ==== Sys2Proof/Laws/WithinRim.lean ====
section
/-! SUPPORT. What each operation of Machine/Rim.lean can do to the state (see Laws/Within.lean). -/

/- One thread: elaborating these many small proofs side by side can exceed the memory that check.sh allows. -/
set_option Elab.async false

namespace Sys2Proof.Laws
open Sys2Proof Sys2Proof.Machine

theorem State_rimTake_within {k : Nat} {s0 s t : State} {p : RimFrame → Bool} {f : RimFrame} (hk : 34359738368 &&& k = 34359738368)
    (e : s.rimTake p = some (f, t)) (h : Within k s0 s) : Within k s0 t := by
  unfold State.rimTake at e
  split at e
  · cases e
    exact Within.set_toField (sub_trans rfl hk) h
  · cases e

theorem State_sendOut_within {k : Nat} {s0 : State} {a0 : State} {a1 : _} (hk : 34359738368 &&& k = 34359738368) (h : Within k s0 a0) : Within k s0 (State.sendOut a0 a1) := by
  unfold Sys2Proof.Machine.State.sendOut
  extract_lets -underBinder +onlyGivenNames x1
  try clear_value x1
  refine Within.ite (fun _ => ?_) (fun _ => ?_)
  · exact State_rimSend_within (sub_trans rfl hk) h
  · exact h

theorem keepSend_within {k : Nat} {s0 : State} {a0 : State} (hk : 34368127032 &&& k = 34368127032) (h : Within k s0 a0) : Within k s0 (keepSend a0) := by
  unfold Sys2Proof.Machine.keepSend
  refine Within.ite (fun _ => ?_) (fun _ => ?_)
  · extract_lets -underBinder +onlyGivenNames x1
    try clear_value x1
    extract_lets -underBinder +onlyGivenNames x2
    have hx2 : Within k s0 x2 := by
      exact State_toTime_within (sub_trans rfl hk) h
    try clear_value x2
    exact State_rimSend_within (sub_trans rfl hk) (Within.set_rim (sub_trans rfl hk) hx2)
  · exact h

theorem execKeepSend_within {k : Nat} {s0 t : State} {a0 : State} (hk : 34368127032 &&& k = 34368127032) (h : Within k s0 a0) (e : execKeepSend a0 = .next t) : Within k s0 t := by
  unfold Sys2Proof.Machine.execKeepSend at e
  cases e
  exact keepSend_within (sub_trans rfl hk) h

theorem State_kickWdog_within {k : Nat} {s0 : State} {a0 : State} (hk : 16777216 &&& k = 16777216) (h : Within k s0 a0) : Within k s0 (State.kickWdog a0) := by
  unfold Sys2Proof.Machine.State.kickWdog
  exact Within.set_field (sub_trans rfl hk) h

theorem State_rimError_within {k : Nat} {s0 : State} {a0 : State} {a1 : _} (hk : 16777216 &&& k = 16777216) (h : Within k s0 a0) : Within k s0 (State.rimError a0 a1) := by
  unfold Sys2Proof.Machine.State.rimError
  exact State_fev_within (sub_trans rfl hk) h

theorem State_outLate_within {k : Nat} {s0 : State} {a0 : State} {a1 : _} (hk : 16777216 &&& k = 16777216) (h : Within k s0 a0) : Within k s0 (State.outLate a0 a1) := by
  unfold Sys2Proof.Machine.State.outLate
  exact State_fev_within (sub_trans rfl hk) h

theorem State_soutApply_within {k : Nat} {s0 : State} {a0 : State} {a1 : _} (hk : 16777216 &&& k = 16777216) (h : Within k s0 a0) : Within k s0 (State.soutApply a0 a1) := by
  unfold Sys2Proof.Machine.State.soutApply
  split
  · refine Within.ite (fun _ => ?_) (fun _ => ?_)
    · exact State_fnLatch_within (sub_trans rfl hk) h
    · extract_lets -underBinder +onlyGivenNames x1
      have hx1 : Within k s0 x1 := by
        exact State_setFn_within (sub_trans rfl hk) h
      try clear_value x1
      exact State_modChan_within (sub_trans rfl hk) (State_modChan_within (sub_trans rfl hk) hx1)
  · exact h

theorem State_entryApply_within {k : Nat} {s0 : State} {a0 : State} {a1 : _} (hk : 16777216 &&& k = 16777216) (h : Within k s0 a0) : Within k s0 (State.entryApply a0 a1) := by
  unfold Sys2Proof.Machine.State.entryApply
  refine Within.ite (fun _ => ?_) (fun _ => ?_)
  · exact h
  · split
    · exact State_settle_within (sub_trans rfl hk) (State_modChan_within (sub_trans rfl hk) h)
    · exact State_settle_within (sub_trans rfl hk) (State_modChan_within (sub_trans rfl hk) h)
    · exact State_settle_within (sub_trans rfl hk) (State_soutApply_within (sub_trans rfl hk) h)
    · exact h

theorem State_entryStore_within {k : Nat} {s0 : State} {a0 : State} {a1 : _} (hk : 16777216 &&& k = 16777216) (h : Within k s0 a0) : Within k s0 (State.entryStore a0 a1) := by
  unfold Sys2Proof.Machine.State.entryStore
  extract_lets -underBinder +onlyGivenNames x1
  try clear_value x1
  refine Within.ite (fun _ => ?_) (fun _ => ?_)
  · exact State_entryApply_within (sub_trans rfl hk) (State_outLate_within (sub_trans rfl hk) h)
  · refine Within.ite (fun _ => ?_) (fun _ => ?_)
    · exact State_setChan_within (sub_trans rfl hk) h
    · exact State_outLate_within (sub_trans rfl hk) h

theorem State_rimWhole_within {k : Nat} {s0 : State} {a0 : State} {a1 : _} {a2 : _} (hk : 16777216 &&& k = 16777216) (h : Within k s0 a0) : Within k s0 (State.rimWhole a0 a1 a2) := by
  unfold Sys2Proof.Machine.State.rimWhole
  refine Within.ite (fun _ => ?_) (fun _ => ?_)
  · exact State_rimError_within (sub_trans rfl hk) h
  · exact h

theorem rimOutFrame_within {k : Nat} {s0 : State} {a0 : _} {a1 : State} (hk : 34376515584 &&& k = 34376515584) (h : Within k s0 a1) : Within k s0 (rimOutFrame a0 a1) := by
  unfold Sys2Proof.Machine.rimOutFrame
  split
  · have m1 := State_rimTake_within (sub_trans rfl hk) (by assumption) h
    refine Within.ite (fun _ => ?_) (fun _ => ?_)
    · exact m1
    · refine Within.ite (fun _ => ?_) (fun _ => ?_)
      · exact State_rimError_within (sub_trans rfl hk) m1
      · refine Within.foldl (fun t2 _ ht2 => ?_) _ ?_
        · exact State_entryStore_within (sub_trans rfl hk) ht2
        · exact State_kickWdog_within (sub_trans rfl hk) (State_rimWhole_within (sub_trans rfl hk) m1)
  · exact h

theorem execRimOutFrame_within {k : Nat} {s0 t : State} {a0 : _} {a1 : State} (hk : 34376515584 &&& k = 34376515584) (h : Within k s0 a1) (e : execRimOutFrame a0 a1 = .next t) : Within k s0 t := by
  unfold Sys2Proof.Machine.execRimOutFrame at e
  cases e
  exact rimOutFrame_within (sub_trans rfl hk) h

theorem rimKeepFrame_within {k : Nat} {s0 : State} {a0 : _} {a1 : State} (hk : 34376515584 &&& k = 34376515584) (h : Within k s0 a1) : Within k s0 (rimKeepFrame a0 a1) := by
  unfold Sys2Proof.Machine.rimKeepFrame
  split
  · have m1 := State_rimTake_within (sub_trans rfl hk) (by assumption) h
    refine Within.ite (fun _ => ?_) (fun _ => ?_)
    · exact m1
    · refine Within.ite (fun _ => ?_) (fun _ => ?_)
      · exact State_rimError_within (sub_trans rfl hk) m1
      · exact State_kickWdog_within (sub_trans rfl hk) (State_rimWhole_within (sub_trans rfl hk) m1)
  · exact h

theorem execRimKeepFrame_within {k : Nat} {s0 t : State} {a0 : _} {a1 : State} (hk : 34376515584 &&& k = 34376515584) (h : Within k s0 a1) (e : execRimKeepFrame a0 a1 = .next t) : Within k s0 t := by
  unfold Sys2Proof.Machine.execRimKeepFrame at e
  cases e
  exact rimKeepFrame_within (sub_trans rfl hk) h

theorem fieldEntryApply_within {k : Nat} {s0 : State} {a0 : _} {a1 : State} (hk : 16777272 &&& k = 16777272) (h : Within k s0 a1) : Within k s0 (fieldEntryApply a0 a1) := by
  unfold Sys2Proof.Machine.fieldEntryApply
  split
  · extract_lets -underBinder +onlyGivenNames x1
    have hx1 : Within k s0 x1 := by
      exact State_toTime_within (sub_trans rfl hk) h
    try clear_value x1
    exact State_entryApply_within (sub_trans rfl hk) (State_modChan_within (sub_trans rfl hk) hx1)
  · exact h

theorem execFieldEntryApply_within {k : Nat} {s0 t : State} {a0 : _} {a1 : State} (hk : 16777272 &&& k = 16777272) (h : Within k s0 a1) (e : execFieldEntryApply a0 a1 = .next t) : Within k s0 t := by
  unfold Sys2Proof.Machine.execFieldEntryApply at e
  cases e
  exact fieldEntryApply_within (sub_trans rfl hk) h

theorem rimCtrlFrame_within {k : Nat} {s0 : State} {a0 : State} (hk : 103095996416 &&& k = 103095996416) (h : Within k s0 a0) : Within k s0 (rimCtrlFrame a0) := by
  unfold Sys2Proof.Machine.rimCtrlFrame
  refine Within.ite (fun _ => ?_) (fun _ => ?_)
  · exact h
  · split
    · have m1 := State_rimTake_within (sub_trans rfl hk) (by assumption) h
      exact Within.set_field (sub_trans rfl hk) m1
    · have m2 := State_rimTake_within (sub_trans rfl hk) (by assumption) h
      exact State_fieldFree_within (sub_trans rfl hk) m2
    · exact h

theorem execRimCtrlFrame_within {k : Nat} {s0 t : State} {a0 : State} (hk : 103095996416 &&& k = 103095996416) (h : Within k s0 a0) (e : execRimCtrlFrame a0 = .next t) : Within k s0 t := by
  unfold Sys2Proof.Machine.execRimCtrlFrame at e
  cases e
  exact rimCtrlFrame_within (sub_trans rfl hk) h

theorem State_cfgChan_within {k : Nat} {s0 : State} {a0 : State} {a1 : _} {a2 : _} (hk : 16777216 &&& k = 16777216) (h : Within k s0 a0) : Within k s0 (State.cfgChan a0 a1 a2) := by
  unfold Sys2Proof.Machine.State.cfgChan
  extract_lets -underBinder +onlyGivenNames x1
  try clear_value x1
  extract_lets -underBinder +onlyGivenNames x2
  try clear_value x2
  refine Within.ite (fun _ => ?_) (fun _ => ?_)
  · exact h
  · exact State_setChan_within (sub_trans rfl hk) h

theorem rimCfgFrame_within {k : Nat} {s0 : State} {a0 : State} (hk : 34376515584 &&& k = 34376515584) (h : Within k s0 a0) : Within k s0 (rimCfgFrame a0) := by
  unfold Sys2Proof.Machine.rimCfgFrame
  split
  · have m1 := State_rimTake_within (sub_trans rfl hk) (by assumption) h
    refine Within.ite (fun _ => ?_) (fun _ => ?_)
    · exact m1
    · extract_lets -underBinder +onlyGivenNames x2
      extract_lets -underBinder +onlyGivenNames x3
      extract_lets -underBinder +onlyGivenNames x4
      extract_lets -underBinder +onlyGivenNames x5
      have hx5 : Within k s0 x5 := by
        exact Within.set_field (sub_trans rfl hk) m1
      refine State_settle_within (sub_trans rfl hk) ?_
      refine Within.foldl (fun t6 _ ht6 => ?_) _ ?_
      · exact State_cfgChan_within (sub_trans rfl hk) ht6
      · exact hx5
  · have m7 := State_rimTake_within (sub_trans rfl hk) (by assumption) h
    refine Within.ite (fun _ => ?_) (fun _ => ?_)
    · exact m7
    · exact State_modChan_within (sub_trans rfl hk) m7
  · exact h

theorem execRimCfgFrame_within {k : Nat} {s0 t : State} {a0 : State} (hk : 34376515584 &&& k = 34376515584) (h : Within k s0 a0) (e : execRimCfgFrame a0 = .next t) : Within k s0 t := by
  unfold Sys2Proof.Machine.execRimCfgFrame at e
  cases e
  exact rimCfgFrame_within (sub_trans rfl hk) h

theorem State_allSafe_within {k : Nat} {s0 : State} {a0 : State} (hk : 16777216 &&& k = 16777216) (h : Within k s0 a0) : Within k s0 (State.allSafe a0) := by
  unfold Sys2Proof.Machine.State.allSafe
  exact State_settle_within (sub_trans rfl hk) (Within.set_field (sub_trans rfl hk) h)

theorem rimSafeFrame_within {k : Nat} {s0 : State} {a0 : State} (hk : 34376515584 &&& k = 34376515584) (h : Within k s0 a0) : Within k s0 (rimSafeFrame a0) := by
  unfold Sys2Proof.Machine.rimSafeFrame
  split
  · have m1 := State_rimTake_within (sub_trans rfl hk) (by assumption) h
    refine Within.ite (fun _ => ?_) (fun _ => ?_)
    · exact m1
    · refine Within.ite (fun _ => ?_) (fun _ => ?_)
      · exact State_allSafe_within (sub_trans rfl hk) (Within.set_field (sub_trans rfl hk) m1)
      · exact Within.set_field (sub_trans rfl hk) m1
  · exact h

theorem execRimSafeFrame_within {k : Nat} {s0 t : State} {a0 : State} (hk : 34376515584 &&& k = 34376515584) (h : Within k s0 a0) (e : execRimSafeFrame a0 = .next t) : Within k s0 t := by
  unfold Sys2Proof.Machine.execRimSafeFrame at e
  cases e
  exact rimSafeFrame_within (sub_trans rfl hk) h

theorem wdogExpiry_within {k : Nat} {s0 : State} {a0 : State} (hk : 16777272 &&& k = 16777272) (h : Within k s0 a0) : Within k s0 (wdogExpiry a0) := by
  unfold Sys2Proof.Machine.wdogExpiry
  refine Within.ite (fun _ => ?_) (fun _ => ?_)
  · extract_lets -underBinder +onlyGivenNames x1
    have hx1 : Within k s0 x1 := by
      exact State_toMono_within (sub_trans rfl hk) h
    extract_lets -underBinder +onlyGivenNames x2
    extract_lets -underBinder +onlyGivenNames x3
    have hx3 : Within k s0 x3 := by
      exact Within.set_field (sub_trans rfl hk) hx1
    exact State_fev_within (sub_trans rfl hk) (State_allSafe_within (sub_trans rfl hk) hx3)
  · exact h

theorem execSafeStateWatchdogExpiry_within {k : Nat} {s0 t : State} {a0 : State} (hk : 16777272 &&& k = 16777272) (h : Within k s0 a0) (e : execSafeStateWatchdogExpiry a0 = .next t) : Within k s0 t := by
  unfold Sys2Proof.Machine.execSafeStateWatchdogExpiry at e
  cases e
  exact wdogExpiry_within (sub_trans rfl hk) h

theorem chnCtrl_within {k : Nat} {s0 : State} {a0 : _} {a1 : _} {a2 : State} (hk : 34368128389 &&& k = 34368128389) (h : Within k s0 a2) : Within k s0 (chnCtrl a0 a1 a2) := by
  unfold Sys2Proof.Machine.chnCtrl
  refine Within.ite (fun _ => ?_) (fun _ => ?_)
  · exact State_denyWrite_within (sub_trans rfl hk) h
  · refine Within.ite (fun _ => ?_) (fun _ => ?_)
    · exact h
    · refine Within.ite (fun _ => ?_) (fun _ => ?_)
      · extract_lets -underBinder +onlyGivenNames x1
        have hx1 : Within k s0 x1 := by
          exact State_safeRequest_within (sub_trans rfl hk) h
        try clear_value x1
        refine Within.ite (fun _ => ?_) (fun _ => ?_)
        · exact hx1
        · exact Within.set_rim (sub_trans rfl hk) hx1
      · refine Within.ite (fun _ => ?_) (fun _ => ?_)
        · exact State_rimSend_within (sub_trans rfl hk) (Within.set_rim (sub_trans rfl hk) h)
        · exact h

theorem execSafeReq_within {k : Nat} {s0 t : State} {a0 : _} {a1 : _} {a2 : State} (hk : 34368128389 &&& k = 34368128389) (h : Within k s0 a2) (e : execSafeReq a0 a1 a2 = .next t) : Within k s0 t := by
  unfold Sys2Proof.Machine.execSafeReq at e
  cases e
  exact chnCtrl_within (sub_trans rfl hk) h

theorem execSafeRel_within {k : Nat} {s0 t : State} {a0 : _} {a1 : _} {a2 : State} (hk : 34368128389 &&& k = 34368128389) (h : Within k s0 a2) (e : execSafeRel a0 a1 a2 = .next t) : Within k s0 t := by
  unfold Sys2Proof.Machine.execSafeRel at e
  cases e
  exact chnCtrl_within (sub_trans rfl hk) h

theorem State_setMode_within {k : Nat} {s0 : State} {a0 : State} {a1 : _} {a2 : _} (hk : 16777216 &&& k = 16777216) (h : Within k s0 a0) : Within k s0 (State.setMode a0 a1 a2) := by
  unfold Sys2Proof.Machine.State.setMode
  extract_lets -underBinder +onlyGivenNames x1
  have hx1 : Within k s0 x1 := by
    refine Within.foldl (fun t2 _ ht2 => ?_) _ ?_
    · extract_lets -underBinder +onlyGivenNames x3
      have hx3 : Within k s0 x3 := by
        exact State_modGrp_within (sub_trans rfl hk) ht2
      try clear_value x3
      refine Within.ite (fun _ => ?_) (fun _ => ?_)
      · exact State_hartCancelMask_within (sub_trans rfl hk) hx3
      · exact hx3
    · exact h
  try clear_value x1
  exact State_settle_within (sub_trans rfl hk) hx1

theorem rimHoFrame_within {k : Nat} {s0 : State} {a0 : State} (hk : 34376515584 &&& k = 34376515584) (h : Within k s0 a0) : Within k s0 (rimHoFrame a0) := by
  unfold Sys2Proof.Machine.rimHoFrame
  split
  · have m1 := State_rimTake_within (sub_trans rfl hk) (by assumption) h
    refine Within.ite (fun _ => ?_) (fun _ => ?_)
    · exact m1
    · extract_lets -underBinder +onlyGivenNames x2
      extract_lets -underBinder +onlyGivenNames x3
      extract_lets -underBinder +onlyGivenNames x4
      have hx4 : Within k s0 x4 := by
        exact Within.set_field (sub_trans rfl hk) m1
      extract_lets -underBinder +onlyGivenNames x5
      have hx5 : Within k s0 x5 := by
        unfold x5
        refine Within.ite (fun _ => ?_) (fun _ => ?_)
        · exact State_fev_within (sub_trans rfl hk) (State_setMode_within (sub_trans rfl hk) hx4)
        · exact State_settle_within (sub_trans rfl hk) hx4
      refine Within.ite (fun _ => ?_) (fun _ => ?_)
      · exact Within.set_field (sub_trans rfl hk) hx5
      · exact hx5
  · exact h

theorem execRimHoFrame_within {k : Nat} {s0 t : State} {a0 : State} (hk : 34376515584 &&& k = 34376515584) (h : Within k s0 a0) (e : execRimHoFrame a0 = .next t) : Within k s0 t := by
  unfold Sys2Proof.Machine.execRimHoFrame at e
  cases e
  exact rimHoFrame_within (sub_trans rfl hk) h

theorem State_modeDone_within {k : Nat} {s0 : State} {a0 : State} {a1 : _} {a2 : _} {a3 : _} {a4 : _} (hk : 68736258048 &&& k = 68736258048) (h : Within k s0 a0) : Within k s0 (State.modeDone a0 a1 a2 a3 a4) := by
  unfold Sys2Proof.Machine.State.modeDone
  exact State_fieldPost_within (sub_trans rfl hk) h

theorem groupMode_within {k : Nat} {s0 : State} {a0 : State} (hk : 68736258048 &&& k = 68736258048) (h : Within k s0 a0) : Within k s0 (groupMode a0) := by
  unfold Sys2Proof.Machine.groupMode
  split
  · extract_lets -underBinder +onlyGivenNames x1
    try clear_value x1
    extract_lets -underBinder +onlyGivenNames x2
    try clear_value x2
    extract_lets -underBinder +onlyGivenNames x3
    try clear_value x3
    refine Within.ite (fun _ => ?_) (fun _ => ?_)
    · exact State_modeDone_within (sub_trans rfl hk) (State_fieldTake_within (sub_trans rfl hk) h)
    · refine Within.ite (fun _ => ?_) (fun _ => ?_)
      · exact State_modeDone_within (sub_trans rfl hk) (State_fieldTake_within (sub_trans rfl hk) h)
      · exact Within.set_field (sub_trans rfl hk) h
  · exact h

theorem execGroupMode_within {k : Nat} {s0 t : State} {a0 : State} (hk : 68736258048 &&& k = 68736258048) (h : Within k s0 a0) (e : execGroupMode a0 = .next t) : Within k s0 t := by
  unfold Sys2Proof.Machine.execGroupMode at e
  cases e
  exact groupMode_within (sub_trans rfl hk) h

theorem groupModeApply_within {k : Nat} {s0 : State} {a0 : State} (hk : 68736258104 &&& k = 68736258104) (h : Within k s0 a0) : Within k s0 (groupModeApply a0) := by
  unfold Sys2Proof.Machine.groupModeApply
  split
  · extract_lets -underBinder +onlyGivenNames x1
    have hx1 : Within k s0 x1 := by
      exact State_toTime_within (sub_trans rfl hk) h
    try clear_value x1
    extract_lets -underBinder +onlyGivenNames x2
    try clear_value x2
    extract_lets -underBinder +onlyGivenNames x3
    have hx3 : Within k s0 x3 := by
      exact State_fieldTake_within (sub_trans rfl hk) (Within.set_field (sub_trans rfl hk) hx1)
    try clear_value x3
    refine Within.ite (fun _ => ?_) (fun _ => ?_)
    · exact State_modeDone_within (sub_trans rfl hk) hx3
    · exact State_modeDone_within (sub_trans rfl hk) (State_setMode_within (sub_trans rfl hk) hx3)
  · exact h

theorem execGroupModeApply_within {k : Nat} {s0 t : State} {a0 : State} (hk : 68736258104 &&& k = 68736258104) (h : Within k s0 a0) (e : execGroupModeApply a0 = .next t) : Within k s0 t := by
  unfold Sys2Proof.Machine.execGroupModeApply at e
  cases e
  exact groupModeApply_within (sub_trans rfl hk) h

theorem runGrant_within {k : Nat} {s0 : State} {a0 : State} (hk : 68736253952 &&& k = 68736253952) (h : Within k s0 a0) : Within k s0 (runGrant a0) := by
  unfold Sys2Proof.Machine.runGrant
  split
  · exact State_fieldTake_within (sub_trans rfl hk) (Within.set_field (sub_trans rfl hk) h)
  · exact h

theorem execRunGrant_within {k : Nat} {s0 t : State} {a0 : State} (hk : 68736253952 &&& k = 68736253952) (h : Within k s0 a0) (e : execRunGrant a0 = .next t) : Within k s0 t := by
  unfold Sys2Proof.Machine.execRunGrant at e
  cases e
  exact runGrant_within (sub_trans rfl hk) h

theorem chClear_within {k : Nat} {s0 : State} {a0 : State} (hk : 68736253952 &&& k = 68736253952) (h : Within k s0 a0) : Within k s0 (chClear a0) := by
  unfold Sys2Proof.Machine.chClear
  split
  · extract_lets -underBinder +onlyGivenNames x1
    try clear_value x1
    extract_lets -underBinder +onlyGivenNames x2
    have hx2 : Within k s0 x2 := by
      refine Within.foldl (fun t3 _ ht3 => ?_) _ ?_
      · exact State_modChan_within (sub_trans rfl hk) ht3
      · exact h
    try clear_value x2
    exact State_fieldTake_within (sub_trans rfl hk) (State_settle_within (sub_trans rfl hk) hx2)
  · exact h

theorem execChClear_within {k : Nat} {s0 t : State} {a0 : State} (hk : 68736253952 &&& k = 68736253952) (h : Within k s0 a0) (e : execChClear a0 = .next t) : Within k s0 t := by
  unfold Sys2Proof.Machine.execChClear at e
  cases e
  exact chClear_within (sub_trans rfl hk) h

theorem State_fieldDown_within {k : Nat} {s0 : State} {a0 : State} {a1 : _} (hk : 16777216 &&& k = 16777216) (h : Within k s0 a0) : Within k s0 (State.fieldDown a0 a1) := by
  unfold Sys2Proof.Machine.State.fieldDown
  exact Within.set_field (sub_trans rfl hk) h

theorem fieldRestart_within {k : Nat} {s0 : State} {a0 : _} {a1 : State} (hk : 34376531205 &&& k = 34376531205) (h : Within k s0 a1) : Within k s0 (fieldRestart a0 a1) := by
  unfold Sys2Proof.Machine.fieldRestart
  refine Within.ite (fun _ => ?_) (fun _ => ?_)
  · exact State_fieldDown_within (sub_trans rfl hk) (domainReset_within (sub_trans rfl hk) h)
  · exact h

theorem execFieldRestart_within {k : Nat} {s0 t : State} {a0 : _} {a1 : State} (hk : 34376531205 &&& k = 34376531205) (h : Within k s0 a1) (e : execFieldRestart a0 a1 = .next t) : Within k s0 t := by
  unfold Sys2Proof.Machine.execFieldRestart at e
  cases e
  exact fieldRestart_within (sub_trans rfl hk) h

theorem fieldComplete_within {k : Nat} {s0 : State} {a0 : State} (hk : 68736258048 &&& k = 68736258048) (h : Within k s0 a0) : Within k s0 (fieldComplete a0) := by
  unfold Sys2Proof.Machine.fieldComplete
  refine Within.ite (fun _ => ?_) (fun _ => ?_)
  · exact h
  · extract_lets -underBinder +onlyGivenNames x1
    extract_lets -underBinder +onlyGivenNames x2
    have hx2 : Within k s0 x2 := by
      exact Within.set_field (sub_trans rfl hk) h
    exact State_fieldPost_within (sub_trans rfl hk) hx2

theorem execFieldRestartComplete_within {k : Nat} {s0 t : State} {a0 : State} (hk : 68736258048 &&& k = 68736258048) (h : Within k s0 a0) (e : execFieldRestartComplete a0 = .next t) : Within k s0 t := by
  unfold Sys2Proof.Machine.execFieldRestartComplete at e
  cases e
  refine Within.ite (fun _ => ?_) (fun _ => ?_)
  · exact h
  · exact fieldComplete_within (sub_trans rfl hk) h

end Sys2Proof.Laws
end

