-- ==== Sys2Proof/Laws/WithinAnalogue.lean ====
section
/-! SUPPORT. What each operation of Machine/Analogue.lean can do to the state (see Laws/Within.lean). -/

/- One thread: elaborating these many small proofs side by side can exceed the memory that check.sh allows. -/
set_option Elab.async false

namespace Sys2Proof.Laws
open Sys2Proof Sys2Proof.Machine

theorem txsLimit_within {k : Nat} {s0 : State} {a0 : _} {a1 : State} (hk : 16777216 &&& k = 16777216) (h : Within k s0 a1) : Within k s0 (txsLimit a0 a1) := by
  unfold Sys2Proof.Machine.txsLimit
  extract_lets -underBinder +onlyGivenNames x1
  try clear_value x1
  refine Within.ite (fun _ => ?_) (fun _ => ?_)
  · exact State_fev_within (sub_trans rfl hk) (State_setChan_within (sub_trans rfl hk) h)
  · exact h

theorem execTxsLimit_within {k : Nat} {s0 t : State} {a0 : _} {a1 : State} (hk : 16777216 &&& k = 16777216) (h : Within k s0 a1) (e : execTxsLimit a0 a1 = .next t) : Within k s0 t := by
  unfold Sys2Proof.Machine.execTxsLimit at e
  cases e
  exact txsLimit_within (sub_trans rfl hk) h

theorem txsRestart_within {k : Nat} {s0 : State} {a0 : _} {a1 : State} (hk : 16777272 &&& k = 16777272) (h : Within k s0 a1) : Within k s0 (txsRestart a0 a1) := by
  unfold Sys2Proof.Machine.txsRestart
  split
  · exact State_modChan_within (sub_trans rfl hk) (State_toMono_within (sub_trans rfl hk) h)
  · exact h

theorem execTxsRestart_within {k : Nat} {s0 t : State} {a0 : _} {a1 : State} (hk : 16777272 &&& k = 16777272) (h : Within k s0 a1) (e : execTxsRestart a0 a1 = .next t) : Within k s0 t := by
  unfold Sys2Proof.Machine.execTxsRestart at e
  cases e
  exact txsRestart_within (sub_trans rfl hk) h

theorem aoComplAlarm_within {k : Nat} {s0 : State} {a0 : _} {a1 : State} (hk : 16777216 &&& k = 16777216) (h : Within k s0 a1) : Within k s0 (aoComplAlarm a0 a1) := by
  unfold Sys2Proof.Machine.aoComplAlarm
  extract_lets -underBinder +onlyGivenNames x1
  try clear_value x1
  refine Within.ite (fun _ => ?_) (fun _ => ?_)
  · exact State_fev_within (sub_trans rfl hk) (State_setChan_within (sub_trans rfl hk) h)
  · exact h

theorem execAoComplAlarm_within {k : Nat} {s0 t : State} {a0 : _} {a1 : State} (hk : 16777216 &&& k = 16777216) (h : Within k s0 a1) (e : execAoComplAlarm a0 a1 = .next t) : Within k s0 t := by
  unfold Sys2Proof.Machine.execAoComplAlarm at e
  cases e
  exact aoComplAlarm_within (sub_trans rfl hk) h

theorem aoOpen_within {k : Nat} {s0 : State} {a0 : _} {a1 : State} (hk : 16777216 &&& k = 16777216) (h : Within k s0 a1) : Within k s0 (aoOpen a0 a1) := by
  unfold Sys2Proof.Machine.aoOpen
  extract_lets -underBinder +onlyGivenNames x1
  try clear_value x1
  refine Within.ite (fun _ => ?_) (fun _ => ?_)
  · exact State_fev_within (sub_trans rfl hk) (State_setChan_within (sub_trans rfl hk) h)
  · exact h

theorem execAoOpen_within {k : Nat} {s0 t : State} {a0 : _} {a1 : State} (hk : 16777216 &&& k = 16777216) (h : Within k s0 a1) (e : execAoOpen a0 a1 = .next t) : Within k s0 t := by
  unfold Sys2Proof.Machine.execAoOpen at e
  cases e
  exact aoOpen_within (sub_trans rfl hk) h

theorem State_trimWrite_within {k : Nat} {s0 : State} {a0 : State} {a1 : _} {a2 : _} {a3 : _} (hk : 34359738370 &&& k = 34359738370) (h : Within k s0 a0) : Within k s0 (State.trimWrite a0 a1 a2 a3) := by
  unfold Sys2Proof.Machine.State.trimWrite
  exact State_rimSend_within (sub_trans rfl hk) (State_copyWrite_within (sub_trans rfl hk) h)

theorem State_trimEnd_within {k : Nat} {s0 : State} {a0 : State} (hk : 50331649 &&& k = 50331649) (h : Within k s0 a0) : Within k s0 (State.trimEnd a0) := by
  unfold Sys2Proof.Machine.State.trimEnd
  split
  · extract_lets -underBinder +onlyGivenNames x1
    have hx1 : Within k s0 x1 := by
      exact State_setFld_within (sub_trans rfl hk) (State_setFlag_within (sub_trans rfl hk) (Within.set_trim (sub_trans rfl hk) h))
    try clear_value x1
    exact State_settle_within (sub_trans rfl hk) (State_modChan_within (sub_trans rfl hk) hx1)
  · exact h

theorem State_trimResult_within {k : Nat} {s0 : State} {a0 : State} {a1 : _} {a2 : _} {a3 : _} (hk : 1285 &&& k = 1285) (h : Within k s0 a0) : Within k s0 (State.trimResult a0 a1 a2 a3) := by
  unfold Sys2Proof.Machine.State.trimResult
  extract_lets -underBinder +onlyGivenNames x1
  have hx1 : Within k s0 x1 := by
    exact State_setFld_within (sub_trans rfl hk) (State_setFld_within (sub_trans rfl hk) h)
  try clear_value x1
  refine Within.ite (fun _ => ?_) (fun _ => ?_)
  · exact State_raise_within (sub_trans rfl hk) hx1
  · exact hx1

theorem State_trimDrive_within {k : Nat} {s0 : State} {a0 : State} {a1 : _} {a2 : _} (hk : 50332933 &&& k = 50332933) (h : Within k s0 a0) : Within k s0 (State.trimDrive a0 a1 a2) := by
  unfold Sys2Proof.Machine.State.trimDrive
  refine Within.ite (fun _ => ?_) (fun _ => ?_)
  · exact State_trimResult_within (sub_trans rfl hk) h
  · refine Within.ite (fun _ => ?_) (fun _ => ?_)
    · exact State_trimResult_within (sub_trans rfl hk) h
    · extract_lets -underBinder +onlyGivenNames x1
      try clear_value x1
      extract_lets -underBinder +onlyGivenNames x2
      have hx2 : Within k s0 x2 := by
        exact State_setFld_within (sub_trans rfl hk) (State_setFlag_within (sub_trans rfl hk) (Within.set_trim (sub_trans rfl hk) h))
      try clear_value x2
      exact State_trimResult_within (sub_trans rfl hk) (State_settle_within (sub_trans rfl hk) (State_modChan_within (sub_trans rfl hk) hx2))

theorem State_trimCommit_within {k : Nat} {s0 : State} {a0 : State} {a1 : _} {a2 : _} (hk : 34359739655 &&& k = 34359739655) (h : Within k s0 a0) : Within k s0 (State.trimCommit a0 a1 a2) := by
  unfold Sys2Proof.Machine.State.trimCommit
  extract_lets -underBinder +onlyGivenNames x1
  try clear_value x1
  extract_lets -underBinder +onlyGivenNames x2
  try clear_value x2
  refine Within.ite (fun _ => ?_) (fun _ => ?_)
  · exact State_trimResult_within (sub_trans rfl hk) h
  · refine Within.ite (fun _ => ?_) (fun _ => ?_)
    · exact State_trimResult_within (sub_trans rfl hk) h
    · refine Within.ite (fun _ => ?_) (fun _ => ?_)
      · exact State_trimResult_within (sub_trans rfl hk) h
      · refine Within.ite (fun _ => ?_) (fun _ => ?_)
        · exact State_trimResult_within (sub_trans rfl hk) h
        · exact State_trimResult_within (sub_trans rfl hk) (State_trimWrite_within (sub_trans rfl hk) h)

theorem State_trimClear_within {k : Nat} {s0 : State} {a0 : State} {a1 : _} {a2 : _} (hk : 34359739655 &&& k = 34359739655) (h : Within k s0 a0) : Within k s0 (State.trimClear a0 a1 a2) := by
  unfold Sys2Proof.Machine.State.trimClear
  refine Within.ite (fun _ => ?_) (fun _ => ?_)
  · exact State_trimResult_within (sub_trans rfl hk) h
  · refine Within.ite (fun _ => ?_) (fun _ => ?_)
    · exact State_trimResult_within (sub_trans rfl hk) h
    · exact State_trimResult_within (sub_trans rfl hk) (State_trimWrite_within (sub_trans rfl hk) h)

theorem trimCtrl_within {k : Nat} {s0 : State} {a0 : _} {a1 : _} {a2 : _} {a3 : State} (hk : 34410071431 &&& k = 34410071431) (h : Within k s0 a3) : Within k s0 (trimCtrl a0 a1 a2 a3) := by
  unfold Sys2Proof.Machine.trimCtrl
  refine Within.ite (fun _ => ?_) (fun _ => ?_)
  · exact State_denyWrite_within (sub_trans rfl hk) h
  · refine Within.ite (fun _ => ?_) (fun _ => ?_)
    · exact h
    · extract_lets -underBinder +onlyGivenNames x1
      try clear_value x1
      extract_lets -underBinder +onlyGivenNames x2
      have hx2 : Within k s0 x2 := by
        exact State_setFld_within (sub_trans rfl hk) (State_setFld_within (sub_trans rfl hk) h)
      try clear_value x2
      split
      · exact State_trimDrive_within (sub_trans rfl hk) hx2
      · exact State_trimCommit_within (sub_trans rfl hk) hx2
      · refine Within.ite (fun _ => ?_) (fun _ => ?_)
        · exact State_trimResult_within (sub_trans rfl hk) (State_trimEnd_within (sub_trans rfl hk) hx2)
        · exact State_trimResult_within (sub_trans rfl hk) hx2
      · exact State_trimClear_within (sub_trans rfl hk) hx2
      · exact hx2

theorem execTrimDrive_within {k : Nat} {s0 t : State} {a0 : _} {a1 : _} {a2 : _} {a3 : State} (hk : 34410071431 &&& k = 34410071431) (h : Within k s0 a3) (e : execTrimDrive a0 a1 a2 a3 = .next t) : Within k s0 t := by
  unfold Sys2Proof.Machine.execTrimDrive at e
  cases e
  exact trimCtrl_within (sub_trans rfl hk) h

theorem execTrimCommit_within {k : Nat} {s0 t : State} {a0 : _} {a1 : _} {a2 : _} {a3 : State} (hk : 34410071431 &&& k = 34410071431) (h : Within k s0 a3) (e : execTrimCommit a0 a1 a2 a3 = .next t) : Within k s0 t := by
  unfold Sys2Proof.Machine.execTrimCommit at e
  cases e
  exact trimCtrl_within (sub_trans rfl hk) h

theorem execTrimEnd_within {k : Nat} {s0 t : State} {a0 : _} {a1 : _} {a2 : _} {a3 : State} (hk : 34410071431 &&& k = 34410071431) (h : Within k s0 a3) (e : execTrimEnd a0 a1 a2 a3 = .next t) : Within k s0 t := by
  unfold Sys2Proof.Machine.execTrimEnd at e
  cases e
  exact trimCtrl_within (sub_trans rfl hk) h

theorem execTrimClear_within {k : Nat} {s0 t : State} {a0 : _} {a1 : _} {a2 : _} {a3 : State} (hk : 34410071431 &&& k = 34410071431) (h : Within k s0 a3) (e : execTrimClear a0 a1 a2 a3 = .next t) : Within k s0 t := by
  unfold Sys2Proof.Machine.execTrimClear at e
  cases e
  exact trimCtrl_within (sub_trans rfl hk) h

theorem trimTimeout_within {k : Nat} {s0 : State} {a0 : State} (hk : 50331705 &&& k = 50331705) (h : Within k s0 a0) : Within k s0 (trimTimeout a0) := by
  unfold Sys2Proof.Machine.trimTimeout
  split
  · exact State_trimEnd_within (sub_trans rfl hk) (State_toMono_within (sub_trans rfl hk) h)
  · exact h

theorem execTrimTimeout_within {k : Nat} {s0 t : State} {a0 : State} (hk : 50331705 &&& k = 50331705) (h : Within k s0 a0) (e : execTrimTimeout a0 = .next t) : Within k s0 t := by
  unfold Sys2Proof.Machine.execTrimTimeout at e
  cases e
  exact trimTimeout_within (sub_trans rfl hk) h

end Sys2Proof.Laws
end

