-- ==== Sys2Proof/Laws/WithinOperands.lean ====
section
/-! SUPPORT. What each operation of Machine/Operands.lean can do to the state (see Laws/Within.lean). -/

/- One thread: elaborating these many small proofs side by side can exceed the memory that check.sh allows. -/
set_option Elab.async false

namespace Sys2Proof.Laws
open Sys2Proof Sys2Proof.Machine

theorem State_writeEl_within {k : Nat} {s0 : State} {a0 : State} {a1 : _} {a2 : _} {a3 : _} (hk : 1048576 &&& k = 1048576) (h : Within k s0 a0) : Within k s0 (State.writeEl a0 a1 a2 a3) := by
  unfold Sys2Proof.Machine.State.writeEl
  extract_lets -underBinder +onlyGivenNames x1
  try clear_value x1
  split
  · exact State_setTask_within (sub_trans rfl hk) h
  · exact State_setTask_within (sub_trans rfl hk) h
  · exact State_setTask_within (sub_trans rfl hk) h
  · exact State_setTask_within (sub_trans rfl hk) h
  · exact h

theorem State_writeAll_within {k : Nat} {s0 : State} {c : Nat} {es : List El} (hk : 1048576 &&& k = 1048576) : ∀ {os : List Opnd} {s : State},
    Within k s0 s → Within k s0 (State.writeAll s c os es) := by
  induction es with
  | nil =>
    intro os s h
    cases os <;> exact h
  | cons e es ih =>
    intro os s h
    cases os with
    | nil => exact h
    | cons o os => exact ih (State_writeEl_within (sub_trans rfl hk) h)

theorem State_outs_within {k : Nat} {s0 : State} {a0 : State} {a1 : _} {a2 : _} {a3 : _} {a4 : _} (hk : 1048576 &&& k = 1048576) (h : Within k s0 a0) : Within k s0 (State.outs a0 a1 a2 a3 a4) := by
  unfold Sys2Proof.Machine.State.outs
  exact State_writeAll_within (sub_trans rfl hk) h

theorem State_goTo_within {k : Nat} {s0 : State} {a0 : State} {a1 : _} {a2 : _} (hk : 1048576 &&& k = 1048576) (h : Within k s0 a0) : Within k s0 (State.goTo a0 a1 a2) := by
  unfold Sys2Proof.Machine.State.goTo
  exact State_setTask_within (sub_trans rfl hk) h

theorem runBlock_within {k : Nat} {s0 s : State} {c op : Nat} {f : Call → State → State} (hk : 1048576 &&& k = 1048576)
    (hf : ∀ w t, Within k s0 t → Within k s0 (f w t)) (h : Within k s0 s) : Within k s0 (runBlock c op f s) := by
  unfold runBlock
  split
  · exact State_goTo_within (sub_trans rfl hk) (hf _ _ h)
  · exact h

end Sys2Proof.Laws
end

