-- ==== Sys2Proof/Laws/WithinBlocks.lean ====
section
/-! SUPPORT. What each operation of Machine/Blocks.lean can do to the state (see Laws/Within.lean). -/

/- One thread: elaborating these many small proofs side by side can exceed the memory that check.sh allows. -/
set_option Elab.async false

namespace Sys2Proof.Laws
open Sys2Proof Sys2Proof.Machine

theorem runJump_within {k : Nat} {s0 : State} {a0 : _} {a1 : _} {a2 : _} {a3 : State} (hk : 1048576 &&& k = 1048576) (h : Within k s0 a3) : Within k s0 (runJump a0 a1 a2 a3) := by
  unfold Sys2Proof.Machine.runJump
  split
  · extract_lets -underBinder +onlyGivenNames x1
    try clear_value x1
    exact State_goTo_within (sub_trans rfl hk) h
  · exact h

theorem execJmp_within {k : Nat} {s0 t : State} {a0 : _} {a1 : State} (hk : 1048576 &&& k = 1048576) (h : Within k s0 a1) (e : execJmp a0 a1 = .next t) : Within k s0 t := by
  unfold Sys2Proof.Machine.execJmp at e
  cases e
  exact runJump_within (sub_trans rfl hk) h

theorem execJmpc_within {k : Nat} {s0 t : State} {a0 : _} {a1 : State} (hk : 1048576 &&& k = 1048576) (h : Within k s0 a1) (e : execJmpc a0 a1 = .next t) : Within k s0 t := by
  unfold Sys2Proof.Machine.execJmpc at e
  cases e
  exact runJump_within (sub_trans rfl hk) h

theorem execJmpcn_within {k : Nat} {s0 t : State} {a0 : _} {a1 : State} (hk : 1048576 &&& k = 1048576) (h : Within k s0 a1) (e : execJmpcn a0 a1 = .next t) : Within k s0 t := by
  unfold Sys2Proof.Machine.execJmpcn at e
  cases e
  exact runJump_within (sub_trans rfl hk) h

theorem runPure_within {k : Nat} {s0 : State} {a0 : _} {a1 : _} {a2 : _} {a3 : State} (hk : 1048576 &&& k = 1048576) (h : Within k s0 a3) : Within k s0 (runPure a0 a1 a2 a3) := by
  unfold Sys2Proof.Machine.runPure
  refine runBlock_within (sub_trans rfl hk) (fun _ t1 ht1 => ?_) ?_
  · exact State_outs_within (sub_trans rfl hk) ht1
  · exact h

theorem execMove_within {k : Nat} {s0 t : State} {a0 : _} {a1 : State} (hk : 1048576 &&& k = 1048576) (h : Within k s0 a1) (e : execMove a0 a1 = .next t) : Within k s0 t := by
  unfold Sys2Proof.Machine.execMove at e
  cases e
  exact runPure_within (sub_trans rfl hk) h

theorem execConv_within {k : Nat} {s0 t : State} {a0 : _} {a1 : State} (hk : 1048576 &&& k = 1048576) (h : Within k s0 a1) (e : execConv a0 a1 = .next t) : Within k s0 t := by
  unfold Sys2Proof.Machine.execConv at e
  cases e
  exact runPure_within (sub_trans rfl hk) h

theorem execLogAnd_within {k : Nat} {s0 t : State} {a0 : _} {a1 : State} (hk : 1048576 &&& k = 1048576) (h : Within k s0 a1) (e : execLogAnd a0 a1 = .next t) : Within k s0 t := by
  unfold Sys2Proof.Machine.execLogAnd at e
  cases e
  exact runPure_within (sub_trans rfl hk) h

theorem execLogOr_within {k : Nat} {s0 t : State} {a0 : _} {a1 : State} (hk : 1048576 &&& k = 1048576) (h : Within k s0 a1) (e : execLogOr a0 a1 = .next t) : Within k s0 t := by
  unfold Sys2Proof.Machine.execLogOr at e
  cases e
  exact runPure_within (sub_trans rfl hk) h

theorem execLogXor_within {k : Nat} {s0 t : State} {a0 : _} {a1 : State} (hk : 1048576 &&& k = 1048576) (h : Within k s0 a1) (e : execLogXor a0 a1 = .next t) : Within k s0 t := by
  unfold Sys2Proof.Machine.execLogXor at e
  cases e
  exact runPure_within (sub_trans rfl hk) h

theorem execLogNot_within {k : Nat} {s0 t : State} {a0 : _} {a1 : State} (hk : 1048576 &&& k = 1048576) (h : Within k s0 a1) (e : execLogNot a0 a1 = .next t) : Within k s0 t := by
  unfold Sys2Proof.Machine.execLogNot at e
  cases e
  exact runPure_within (sub_trans rfl hk) h

theorem execAddBlock_within {k : Nat} {s0 t : State} {a0 : _} {a1 : State} (hk : 1048576 &&& k = 1048576) (h : Within k s0 a1) (e : execAddBlock a0 a1 = .next t) : Within k s0 t := by
  unfold Sys2Proof.Machine.execAddBlock at e
  cases e
  exact runPure_within (sub_trans rfl hk) h

theorem execSubBlock_within {k : Nat} {s0 t : State} {a0 : _} {a1 : State} (hk : 1048576 &&& k = 1048576) (h : Within k s0 a1) (e : execSubBlock a0 a1 = .next t) : Within k s0 t := by
  unfold Sys2Proof.Machine.execSubBlock at e
  cases e
  exact runPure_within (sub_trans rfl hk) h

theorem execMulBlock_within {k : Nat} {s0 t : State} {a0 : _} {a1 : State} (hk : 1048576 &&& k = 1048576) (h : Within k s0 a1) (e : execMulBlock a0 a1 = .next t) : Within k s0 t := by
  unfold Sys2Proof.Machine.execMulBlock at e
  cases e
  exact runPure_within (sub_trans rfl hk) h

theorem execDivide_within {k : Nat} {s0 t : State} {a0 : _} {a1 : State} (hk : 1048576 &&& k = 1048576) (h : Within k s0 a1) (e : execDivide a0 a1 = .next t) : Within k s0 t := by
  unfold Sys2Proof.Machine.execDivide at e
  cases e
  exact runPure_within (sub_trans rfl hk) h

theorem execModulo_within {k : Nat} {s0 t : State} {a0 : _} {a1 : State} (hk : 1048576 &&& k = 1048576) (h : Within k s0 a1) (e : execModulo a0 a1 = .next t) : Within k s0 t := by
  unfold Sys2Proof.Machine.execModulo at e
  cases e
  exact runPure_within (sub_trans rfl hk) h

theorem execNegBlock_within {k : Nat} {s0 t : State} {a0 : _} {a1 : State} (hk : 1048576 &&& k = 1048576) (h : Within k s0 a1) (e : execNegBlock a0 a1 = .next t) : Within k s0 t := by
  unfold Sys2Proof.Machine.execNegBlock at e
  cases e
  exact runPure_within (sub_trans rfl hk) h

theorem execAbsBlock_within {k : Nat} {s0 t : State} {a0 : _} {a1 : State} (hk : 1048576 &&& k = 1048576) (h : Within k s0 a1) (e : execAbsBlock a0 a1 = .next t) : Within k s0 t := by
  unfold Sys2Proof.Machine.execAbsBlock at e
  cases e
  exact runPure_within (sub_trans rfl hk) h

theorem execCmpEq_within {k : Nat} {s0 t : State} {a0 : _} {a1 : State} (hk : 1048576 &&& k = 1048576) (h : Within k s0 a1) (e : execCmpEq a0 a1 = .next t) : Within k s0 t := by
  unfold Sys2Proof.Machine.execCmpEq at e
  cases e
  exact runPure_within (sub_trans rfl hk) h

theorem execCmpNe_within {k : Nat} {s0 t : State} {a0 : _} {a1 : State} (hk : 1048576 &&& k = 1048576) (h : Within k s0 a1) (e : execCmpNe a0 a1 = .next t) : Within k s0 t := by
  unfold Sys2Proof.Machine.execCmpNe at e
  cases e
  exact runPure_within (sub_trans rfl hk) h

theorem execCmpLt_within {k : Nat} {s0 t : State} {a0 : _} {a1 : State} (hk : 1048576 &&& k = 1048576) (h : Within k s0 a1) (e : execCmpLt a0 a1 = .next t) : Within k s0 t := by
  unfold Sys2Proof.Machine.execCmpLt at e
  cases e
  exact runPure_within (sub_trans rfl hk) h

theorem execCmpLe_within {k : Nat} {s0 t : State} {a0 : _} {a1 : State} (hk : 1048576 &&& k = 1048576) (h : Within k s0 a1) (e : execCmpLe a0 a1 = .next t) : Within k s0 t := by
  unfold Sys2Proof.Machine.execCmpLe at e
  cases e
  exact runPure_within (sub_trans rfl hk) h

theorem execCmpGt_within {k : Nat} {s0 t : State} {a0 : _} {a1 : State} (hk : 1048576 &&& k = 1048576) (h : Within k s0 a1) (e : execCmpGt a0 a1 = .next t) : Within k s0 t := by
  unfold Sys2Proof.Machine.execCmpGt at e
  cases e
  exact runPure_within (sub_trans rfl hk) h

theorem execCmpGe_within {k : Nat} {s0 t : State} {a0 : _} {a1 : State} (hk : 1048576 &&& k = 1048576) (h : Within k s0 a1) (e : execCmpGe a0 a1 = .next t) : Within k s0 t := by
  unfold Sys2Proof.Machine.execCmpGe at e
  cases e
  exact runPure_within (sub_trans rfl hk) h

theorem execSel_within {k : Nat} {s0 t : State} {a0 : _} {a1 : State} (hk : 1048576 &&& k = 1048576) (h : Within k s0 a1) (e : execSel a0 a1 = .next t) : Within k s0 t := by
  unfold Sys2Proof.Machine.execSel at e
  cases e
  exact runPure_within (sub_trans rfl hk) h

theorem execMux_within {k : Nat} {s0 t : State} {a0 : _} {a1 : State} (hk : 1048576 &&& k = 1048576) (h : Within k s0 a1) (e : execMux a0 a1 = .next t) : Within k s0 t := by
  unfold Sys2Proof.Machine.execMux at e
  cases e
  exact runPure_within (sub_trans rfl hk) h

theorem execMaximum_within {k : Nat} {s0 t : State} {a0 : _} {a1 : State} (hk : 1048576 &&& k = 1048576) (h : Within k s0 a1) (e : execMaximum a0 a1 = .next t) : Within k s0 t := by
  unfold Sys2Proof.Machine.execMaximum at e
  cases e
  exact runPure_within (sub_trans rfl hk) h

theorem execMinimum_within {k : Nat} {s0 t : State} {a0 : _} {a1 : State} (hk : 1048576 &&& k = 1048576) (h : Within k s0 a1) (e : execMinimum a0 a1 = .next t) : Within k s0 t := by
  unfold Sys2Proof.Machine.execMinimum at e
  cases e
  exact runPure_within (sub_trans rfl hk) h

theorem execLimitBlock_within {k : Nat} {s0 t : State} {a0 : _} {a1 : State} (hk : 1048576 &&& k = 1048576) (h : Within k s0 a1) (e : execLimitBlock a0 a1 = .next t) : Within k s0 t := by
  unfold Sys2Proof.Machine.execLimitBlock at e
  cases e
  refine runBlock_within (sub_trans rfl hk) (fun _ t1 ht1 => ?_) ?_
  · exact State_outs_within (sub_trans rfl hk) ht1
  · exact h

theorem execQget_within {k : Nat} {s0 t : State} {a0 : _} {a1 : State} (hk : 1048576 &&& k = 1048576) (h : Within k s0 a1) (e : execQget a0 a1 = .next t) : Within k s0 t := by
  unfold Sys2Proof.Machine.execQget at e
  cases e
  exact runPure_within (sub_trans rfl hk) h

theorem execQset_within {k : Nat} {s0 t : State} {a0 : _} {a1 : State} (hk : 1048576 &&& k = 1048576) (h : Within k s0 a1) (e : execQset a0 a1 = .next t) : Within k s0 t := by
  unfold Sys2Proof.Machine.execQset at e
  cases e
  exact runPure_within (sub_trans rfl hk) h

theorem execQok_within {k : Nat} {s0 t : State} {a0 : _} {a1 : State} (hk : 1048576 &&& k = 1048576) (h : Within k s0 a1) (e : execQok a0 a1 = .next t) : Within k s0 t := by
  unfold Sys2Proof.Machine.execQok at e
  cases e
  exact runPure_within (sub_trans rfl hk) h

theorem execSand_within {k : Nat} {s0 t : State} {a0 : _} {a1 : State} (hk : 1048576 &&& k = 1048576) (h : Within k s0 a1) (e : execSand a0 a1 = .next t) : Within k s0 t := by
  unfold Sys2Proof.Machine.execSand at e
  cases e
  exact runPure_within (sub_trans rfl hk) h

theorem execSor_within {k : Nat} {s0 t : State} {a0 : _} {a1 : State} (hk : 1048576 &&& k = 1048576) (h : Within k s0 a1) (e : execSor a0 a1 = .next t) : Within k s0 t := by
  unfold Sys2Proof.Machine.execSor at e
  cases e
  exact runPure_within (sub_trans rfl hk) h

theorem execSval_within {k : Nat} {s0 t : State} {a0 : _} {a1 : State} (hk : 1048576 &&& k = 1048576) (h : Within k s0 a1) (e : execSval a0 a1 = .next t) : Within k s0 t := by
  unfold Sys2Proof.Machine.execSval at e
  cases e
  exact runPure_within (sub_trans rfl hk) h

theorem execSge_within {k : Nat} {s0 t : State} {a0 : _} {a1 : State} (hk : 1048576 &&& k = 1048576) (h : Within k s0 a1) (e : execSge a0 a1 = .next t) : Within k s0 t := by
  unfold Sys2Proof.Machine.execSge at e
  cases e
  exact runPure_within (sub_trans rfl hk) h

end Sys2Proof.Laws
end

