-- ==== Sys2Proof/Laws/WithinBlocksTime.lean ====
section
/-! SUPPORT. What each operation of Machine/BlocksTime.lean can do to the state (see Laws/Within.lean). -/

/- One thread: elaborating these many small proofs side by side can exceed the memory that check.sh allows. -/
set_option Elab.async false

namespace Sys2Proof.Laws
open Sys2Proof Sys2Proof.Machine

theorem State_instWrite_within {k : Nat} {s0 : State} {a0 : State} {a1 : _} {a2 : _} {a3 : _} (hk : 1048576 &&& k = 1048576) (h : Within k s0 a0) : Within k s0 (State.instWrite a0 a1 a2 a3) := by
  unfold Sys2Proof.Machine.State.instWrite
  exact State_setTask_within (sub_trans rfl hk) h

theorem rampBlock_within {k : Nat} {s0 : State} {a0 : _} {a1 : _} {a2 : State} (hk : 1048576 &&& k = 1048576) (h : Within k s0 a2) : Within k s0 (rampBlock a0 a1 a2) := by
  unfold Sys2Proof.Machine.rampBlock
  extract_lets -underBinder +onlyGivenNames x1
  try clear_value x1
  extract_lets -underBinder +onlyGivenNames x2
  try clear_value x2
  extract_lets -underBinder +onlyGivenNames x3
  try clear_value x3
  extract_lets -underBinder +onlyGivenNames x4
  try clear_value x4
  extract_lets -underBinder +onlyGivenNames x5
  try clear_value x5
  extract_lets -underBinder +onlyGivenNames x6
  try clear_value x6
  extract_lets -underBinder +onlyGivenNames x7
  try clear_value x7
  extract_lets -underBinder +onlyGivenNames x8
  try clear_value x8
  extract_lets -underBinder +onlyGivenNames x9
  try clear_value x9
  extract_lets -underBinder +onlyGivenNames x10
  try clear_value x10
  extract_lets -underBinder +onlyGivenNames x11
  try clear_value x11
  extract_lets -underBinder +onlyGivenNames x12
  have hx12 : Within k s0 x12 := by
    exact State_instWrite_within (sub_trans rfl hk) h
  try clear_value x12
  exact State_outs_within (sub_trans rfl hk) hx12

theorem execRamp_within {k : Nat} {s0 t : State} {a0 : _} {a1 : State} (hk : 1048576 &&& k = 1048576) (h : Within k s0 a1) (e : execRamp a0 a1 = .next t) : Within k s0 t := by
  unfold Sys2Proof.Machine.execRamp at e
  cases e
  refine runBlock_within (sub_trans rfl hk) (fun _ t1 ht1 => ?_) ?_
  · exact rampBlock_within (sub_trans rfl hk) ht1
  · exact h

theorem rocBlock_within {k : Nat} {s0 : State} {a0 : _} {a1 : _} {a2 : State} (hk : 1048576 &&& k = 1048576) (h : Within k s0 a2) : Within k s0 (rocBlock a0 a1 a2) := by
  unfold Sys2Proof.Machine.rocBlock
  extract_lets -underBinder +onlyGivenNames x1
  try clear_value x1
  extract_lets -underBinder +onlyGivenNames x2
  try clear_value x2
  extract_lets -underBinder +onlyGivenNames x3
  try clear_value x3
  extract_lets -underBinder +onlyGivenNames x4
  try clear_value x4
  extract_lets -underBinder +onlyGivenNames x5
  try clear_value x5
  extract_lets -underBinder +onlyGivenNames x6
  try clear_value x6
  refine Within.ite (fun _ => ?_) (fun _ => ?_)
  · exact State_outs_within (sub_trans rfl hk) (State_instWrite_within (sub_trans rfl hk) h)
  · extract_lets -underBinder +onlyGivenNames x7
    try clear_value x7
    refine Within.ite (fun _ => ?_) (fun _ => ?_)
    · exact h
    · extract_lets -underBinder +onlyGivenNames x8
      try clear_value x8
      extract_lets -underBinder +onlyGivenNames x9
      try clear_value x9
      extract_lets -underBinder +onlyGivenNames x10
      try clear_value x10
      extract_lets -underBinder +onlyGivenNames x11
      have hx11 : Within k s0 x11 := by
        exact State_instWrite_within (sub_trans rfl hk) h
      try clear_value x11
      exact State_outs_within (sub_trans rfl hk) hx11

theorem execRoc_within {k : Nat} {s0 t : State} {a0 : _} {a1 : State} (hk : 1048576 &&& k = 1048576) (h : Within k s0 a1) (e : execRoc a0 a1 = .next t) : Within k s0 t := by
  unfold Sys2Proof.Machine.execRoc at e
  cases e
  refine runBlock_within (sub_trans rfl hk) (fun _ t1 ht1 => ?_) ?_
  · exact rocBlock_within (sub_trans rfl hk) ht1
  · exact h

theorem timerBlock_within {k : Nat} {s0 : State} {a0 : _} {a1 : _} {a2 : _} {a3 : _} {a4 : State} (hk : 1048576 &&& k = 1048576) (h : Within k s0 a4) : Within k s0 (timerBlock a0 a1 a2 a3 a4) := by
  unfold Sys2Proof.Machine.timerBlock
  extract_lets -underBinder +onlyGivenNames x1
  try clear_value x1
  extract_lets -underBinder +onlyGivenNames x2
  try clear_value x2
  extract_lets -underBinder +onlyGivenNames x3
  try clear_value x3
  extract_lets -underBinder +onlyGivenNames x4
  try clear_value x4
  extract_lets -underBinder +onlyGivenNames x5
  try clear_value x5
  extract_lets -underBinder +onlyGivenNames x6
  try clear_value x6
  extract_lets -underBinder +onlyGivenNames x7
  try clear_value x7
  extract_lets -underBinder +onlyGivenNames x8
  try clear_value x8
  extract_lets -underBinder +onlyGivenNames x9
  try clear_value x9
  extract_lets -underBinder +onlyGivenNames x10
  try clear_value x10
  extract_lets -underBinder +onlyGivenNames x11
  try clear_value x11
  extract_lets -underBinder +onlyGivenNames x12
  have hx12 : Within k s0 x12 := by
    exact State_instWrite_within (sub_trans rfl hk) h
  try clear_value x12
  exact State_outs_within (sub_trans rfl hk) hx12

theorem execTon_within {k : Nat} {s0 t : State} {a0 : _} {a1 : State} (hk : 1048576 &&& k = 1048576) (h : Within k s0 a1) (e : execTon a0 a1 = .next t) : Within k s0 t := by
  unfold Sys2Proof.Machine.execTon at e
  cases e
  refine runBlock_within (sub_trans rfl hk) (fun _ t1 ht1 => ?_) ?_
  · exact timerBlock_within (sub_trans rfl hk) ht1
  · exact h

theorem execTof_within {k : Nat} {s0 t : State} {a0 : _} {a1 : State} (hk : 1048576 &&& k = 1048576) (h : Within k s0 a1) (e : execTof a0 a1 = .next t) : Within k s0 t := by
  unfold Sys2Proof.Machine.execTof at e
  cases e
  refine runBlock_within (sub_trans rfl hk) (fun _ t1 ht1 => ?_) ?_
  · exact timerBlock_within (sub_trans rfl hk) ht1
  · exact h

theorem execTpTimer_within {k : Nat} {s0 t : State} {a0 : _} {a1 : State} (hk : 1048576 &&& k = 1048576) (h : Within k s0 a1) (e : execTpTimer a0 a1 = .next t) : Within k s0 t := by
  unfold Sys2Proof.Machine.execTpTimer at e
  cases e
  refine runBlock_within (sub_trans rfl hk) (fun _ t1 ht1 => ?_) ?_
  · exact timerBlock_within (sub_trans rfl hk) ht1
  · exact h

theorem ctuBlock_within {k : Nat} {s0 : State} {a0 : _} {a1 : _} {a2 : State} (hk : 1048576 &&& k = 1048576) (h : Within k s0 a2) : Within k s0 (ctuBlock a0 a1 a2) := by
  unfold Sys2Proof.Machine.ctuBlock
  extract_lets -underBinder +onlyGivenNames x1
  try clear_value x1
  extract_lets -underBinder +onlyGivenNames x2
  try clear_value x2
  extract_lets -underBinder +onlyGivenNames x3
  try clear_value x3
  extract_lets -underBinder +onlyGivenNames x4
  try clear_value x4
  extract_lets -underBinder +onlyGivenNames x5
  try clear_value x5
  extract_lets -underBinder +onlyGivenNames x6
  try clear_value x6
  extract_lets -underBinder +onlyGivenNames x7
  try clear_value x7
  extract_lets -underBinder +onlyGivenNames x8
  try clear_value x8
  exact State_outs_within (sub_trans rfl hk) (State_instWrite_within (sub_trans rfl hk) h)

theorem execCtu_within {k : Nat} {s0 t : State} {a0 : _} {a1 : State} (hk : 1048576 &&& k = 1048576) (h : Within k s0 a1) (e : execCtu a0 a1 = .next t) : Within k s0 t := by
  unfold Sys2Proof.Machine.execCtu at e
  cases e
  refine runBlock_within (sub_trans rfl hk) (fun _ t1 ht1 => ?_) ?_
  · exact ctuBlock_within (sub_trans rfl hk) ht1
  · exact h

theorem ctdBlock_within {k : Nat} {s0 : State} {a0 : _} {a1 : _} {a2 : State} (hk : 1048576 &&& k = 1048576) (h : Within k s0 a2) : Within k s0 (ctdBlock a0 a1 a2) := by
  unfold Sys2Proof.Machine.ctdBlock
  extract_lets -underBinder +onlyGivenNames x1
  try clear_value x1
  extract_lets -underBinder +onlyGivenNames x2
  try clear_value x2
  extract_lets -underBinder +onlyGivenNames x3
  try clear_value x3
  extract_lets -underBinder +onlyGivenNames x4
  try clear_value x4
  extract_lets -underBinder +onlyGivenNames x5
  try clear_value x5
  extract_lets -underBinder +onlyGivenNames x6
  try clear_value x6
  extract_lets -underBinder +onlyGivenNames x7
  try clear_value x7
  extract_lets -underBinder +onlyGivenNames x8
  try clear_value x8
  exact State_outs_within (sub_trans rfl hk) (State_instWrite_within (sub_trans rfl hk) h)

theorem execCtd_within {k : Nat} {s0 t : State} {a0 : _} {a1 : State} (hk : 1048576 &&& k = 1048576) (h : Within k s0 a1) (e : execCtd a0 a1 = .next t) : Within k s0 t := by
  unfold Sys2Proof.Machine.execCtd at e
  cases e
  refine runBlock_within (sub_trans rfl hk) (fun _ t1 ht1 => ?_) ?_
  · exact ctdBlock_within (sub_trans rfl hk) ht1
  · exact h

theorem ctudBlock_within {k : Nat} {s0 : State} {a0 : _} {a1 : _} {a2 : State} (hk : 1048576 &&& k = 1048576) (h : Within k s0 a2) : Within k s0 (ctudBlock a0 a1 a2) := by
  unfold Sys2Proof.Machine.ctudBlock
  extract_lets -underBinder +onlyGivenNames x1
  try clear_value x1
  extract_lets -underBinder +onlyGivenNames x2
  try clear_value x2
  extract_lets -underBinder +onlyGivenNames x3
  try clear_value x3
  extract_lets -underBinder +onlyGivenNames x4
  try clear_value x4
  extract_lets -underBinder +onlyGivenNames x5
  try clear_value x5
  extract_lets -underBinder +onlyGivenNames x6
  try clear_value x6
  extract_lets -underBinder +onlyGivenNames x7
  try clear_value x7
  extract_lets -underBinder +onlyGivenNames x8
  try clear_value x8
  extract_lets -underBinder +onlyGivenNames x9
  try clear_value x9
  extract_lets -underBinder +onlyGivenNames x10
  try clear_value x10
  extract_lets -underBinder +onlyGivenNames x11
  try clear_value x11
  exact State_outs_within (sub_trans rfl hk) (State_instWrite_within (sub_trans rfl hk) h)

theorem execCtud_within {k : Nat} {s0 t : State} {a0 : _} {a1 : State} (hk : 1048576 &&& k = 1048576) (h : Within k s0 a1) (e : execCtud a0 a1 = .next t) : Within k s0 t := by
  unfold Sys2Proof.Machine.execCtud at e
  cases e
  refine runBlock_within (sub_trans rfl hk) (fun _ t1 ht1 => ?_) ?_
  · exact ctudBlock_within (sub_trans rfl hk) ht1
  · exact h

theorem trigBlock_within {k : Nat} {s0 : State} {a0 : _} {a1 : _} {a2 : _} {a3 : State} (hk : 1048576 &&& k = 1048576) (h : Within k s0 a3) : Within k s0 (trigBlock a0 a1 a2 a3) := by
  unfold Sys2Proof.Machine.trigBlock
  extract_lets -underBinder +onlyGivenNames x1
  try clear_value x1
  extract_lets -underBinder +onlyGivenNames x2
  try clear_value x2
  extract_lets -underBinder +onlyGivenNames x3
  try clear_value x3
  extract_lets -underBinder +onlyGivenNames x4
  try clear_value x4
  extract_lets -underBinder +onlyGivenNames x5
  try clear_value x5
  exact State_outs_within (sub_trans rfl hk) (State_instWrite_within (sub_trans rfl hk) h)

theorem execRTrig_within {k : Nat} {s0 t : State} {a0 : _} {a1 : State} (hk : 1048576 &&& k = 1048576) (h : Within k s0 a1) (e : execRTrig a0 a1 = .next t) : Within k s0 t := by
  unfold Sys2Proof.Machine.execRTrig at e
  cases e
  refine runBlock_within (sub_trans rfl hk) (fun _ t1 ht1 => ?_) ?_
  · exact trigBlock_within (sub_trans rfl hk) ht1
  · exact h

theorem execFTrig_within {k : Nat} {s0 t : State} {a0 : _} {a1 : State} (hk : 1048576 &&& k = 1048576) (h : Within k s0 a1) (e : execFTrig a0 a1 = .next t) : Within k s0 t := by
  unfold Sys2Proof.Machine.execFTrig at e
  cases e
  refine runBlock_within (sub_trans rfl hk) (fun _ t1 ht1 => ?_) ?_
  · exact trigBlock_within (sub_trans rfl hk) ht1
  · exact h

theorem bistable_within {k : Nat} {s0 : State} {a0 : _} {a1 : _} {a2 : _} {a3 : State} (hk : 1048576 &&& k = 1048576) (h : Within k s0 a3) : Within k s0 (bistable a0 a1 a2 a3) := by
  unfold Sys2Proof.Machine.bistable
  extract_lets -underBinder +onlyGivenNames x1
  try clear_value x1
  extract_lets -underBinder +onlyGivenNames x2
  try clear_value x2
  extract_lets -underBinder +onlyGivenNames x3
  try clear_value x3
  extract_lets -underBinder +onlyGivenNames x4
  try clear_value x4
  exact State_outs_within (sub_trans rfl hk) (State_instWrite_within (sub_trans rfl hk) h)

theorem execSr_within {k : Nat} {s0 t : State} {a0 : _} {a1 : State} (hk : 1048576 &&& k = 1048576) (h : Within k s0 a1) (e : execSr a0 a1 = .next t) : Within k s0 t := by
  unfold Sys2Proof.Machine.execSr at e
  cases e
  refine runBlock_within (sub_trans rfl hk) (fun _ t1 ht1 => ?_) ?_
  · exact bistable_within (sub_trans rfl hk) ht1
  · exact h

theorem execRs_within {k : Nat} {s0 t : State} {a0 : _} {a1 : State} (hk : 1048576 &&& k = 1048576) (h : Within k s0 a1) (e : execRs a0 a1 = .next t) : Within k s0 t := by
  unfold Sys2Proof.Machine.execRs at e
  cases e
  refine runBlock_within (sub_trans rfl hk) (fun _ t1 ht1 => ?_) ?_
  · exact bistable_within (sub_trans rfl hk) ht1
  · exact h

theorem restartInterlock_within {k : Nat} {s0 : State} {a0 : _} {a1 : _} {a2 : State} (hk : 1048576 &&& k = 1048576) (h : Within k s0 a2) : Within k s0 (restartInterlock a0 a1 a2) := by
  unfold Sys2Proof.Machine.restartInterlock
  extract_lets -underBinder +onlyGivenNames x1
  try clear_value x1
  extract_lets -underBinder +onlyGivenNames x2
  try clear_value x2
  extract_lets -underBinder +onlyGivenNames x3
  try clear_value x3
  extract_lets -underBinder +onlyGivenNames x4
  try clear_value x4
  extract_lets -underBinder +onlyGivenNames x5
  try clear_value x5
  extract_lets -underBinder +onlyGivenNames x6
  try clear_value x6
  extract_lets -underBinder +onlyGivenNames x7
  try clear_value x7
  exact State_outs_within (sub_trans rfl hk) (State_instWrite_within (sub_trans rfl hk) h)

theorem execRestartBlock_within {k : Nat} {s0 t : State} {a0 : _} {a1 : State} (hk : 1048576 &&& k = 1048576) (h : Within k s0 a1) (e : execRestartBlock a0 a1 = .next t) : Within k s0 t := by
  unfold Sys2Proof.Machine.execRestartBlock at e
  cases e
  refine runBlock_within (sub_trans rfl hk) (fun _ t1 ht1 => ?_) ?_
  · exact restartInterlock_within (sub_trans rfl hk) ht1
  · exact h

end Sys2Proof.Laws
end

