-- ==== Sys2Proof/Laws/WithinRimHost.lean ====
section
/-! SUPPORT. What each operation of Machine/RimHost.lean can do to the state (see Laws/Within.lean). -/

/- One thread: elaborating these many small proofs side by side can exceed the memory that check.sh allows. -/
set_option Elab.async false

namespace Sys2Proof.Laws
open Sys2Proof Sys2Proof.Machine

theorem State_inTake_within {k : Nat} {s0 s t : State} {f : RimIn} (hk : 68719476736 &&& k = 68719476736)
    (e : s.inTake = some (f, t)) (h : Within k s0 s) : Within k s0 t := by
  unfold State.inTake at e
  split at e
  · cases e
    exact Within.set_toHost (sub_trans rfl hk) h
  · cases e

theorem State_report_within {k : Nat} {s0 s t : State} {b ty : Nat} {m : List Byte} (hk : 8388608 &&& k = 8388608)
    (e : s.report b ty = some (m, t)) (h : Within k s0 s) : Within k s0 t := by
  unfold State.report at e
  split at e
  · cases e
    exact Within.set_rim (sub_trans rfl hk) h
  · cases e

theorem State_fieldCount_within {k : Nat} {s0 : State} {a0 : State} {a1 : _} (hk : 1 &&& k = 1) (h : Within k s0 a0) : Within k s0 (State.fieldCount a0 a1) := by
  unfold Sys2Proof.Machine.State.fieldCount
  refine Within.ite (fun _ => ?_) (fun _ => ?_)
  · exact State_bump_within (sub_trans rfl hk) h
  · refine Within.ite (fun _ => ?_) (fun _ => ?_)
    · exact State_setFld_within (sub_trans rfl hk) (State_bump_within (sub_trans rfl hk) h)
    · refine Within.ite (fun _ => ?_) (fun _ => ?_)
      · exact State_setFld_within (sub_trans rfl hk) (State_bump_within (sub_trans rfl hk) h)
      · refine Within.ite (fun _ => ?_) (fun _ => ?_)
        · exact State_bump_within (sub_trans rfl hk) h
        · exact h

theorem State_bumpBy_within {k : Nat} {s0 : State} {a0 : State} {a1 : _} {a2 : _} {a3 : _} (hk : 1 &&& k = 1) (h : Within k s0 a0) : Within k s0 (State.bumpBy a0 a1 a2 a3) := by
  induction a3 generalizing a0 a1 a2 with
  | zero =>
    unfold Sys2Proof.Machine.State.bumpBy
    exact h
  | succ _ ih =>
    unfold Sys2Proof.Machine.State.bumpBy
    apply ih
    exact State_bump_within (sub_trans rfl hk) h

theorem State_showChan_within {k : Nat} {s0 : State} {a0 : State} {a1 : _} {a2 : _} (hk : 1 &&& k = 1) (h : Within k s0 a0) : Within k s0 (State.showChan a0 a1 a2) := by
  unfold Sys2Proof.Machine.State.showChan
  extract_lets -underBinder +onlyGivenNames x1
  have hx1 : Within k s0 x1 := by
    exact State_setReg_within (sub_trans rfl hk) (State_setReg_within (sub_trans rfl hk) h)
  try clear_value x1
  extract_lets -underBinder +onlyGivenNames x2
  have hx2 : Within k s0 x2 := by
    exact State_setReg_within (sub_trans rfl hk) hx1
  try clear_value x2
  extract_lets -underBinder +onlyGivenNames x3
  have hx3 : Within k s0 x3 := by
    exact State_setFld_within (sub_trans rfl hk) (State_setFld_within (sub_trans rfl hk) hx2)
  try clear_value x3
  extract_lets -underBinder +onlyGivenNames x4
  have hx4 : Within k s0 x4 := by
    exact State_bumpBy_within (sub_trans rfl hk) hx3
  try clear_value x4
  exact State_setFld_within (sub_trans rfl hk) hx4

theorem State_showChans_within {k : Nat} {s0 : State} {a0 : State} {a1 : _} {a2 : _} (hk : 1 &&& k = 1) (h : Within k s0 a0) : Within k s0 (State.showChans a0 a1 a2) := by
  induction a2 generalizing a0 a1 with
  | nil =>
    unfold Sys2Proof.Machine.State.showChans
    exact h
  | cons _ _ ih =>
    unfold Sys2Proof.Machine.State.showChans
    apply ih
    exact State_showChan_within (sub_trans rfl hk) h

theorem State_showFrame_within {k : Nat} {s0 : State} {a0 : State} {a1 : _} (hk : 1 &&& k = 1) (h : Within k s0 a0) : Within k s0 (State.showFrame a0 a1) := by
  unfold Sys2Proof.Machine.State.showFrame
  extract_lets -underBinder +onlyGivenNames x1
  have hx1 : Within k s0 x1 := by
    exact State_setFld_within (sub_trans rfl hk) h
  try clear_value x1
  extract_lets -underBinder +onlyGivenNames x2
  have hx2 : Within k s0 x2 := by
    exact State_setReg_within (sub_trans rfl hk) (State_setReg_within (sub_trans rfl hk) hx1)
  try clear_value x2
  extract_lets -underBinder +onlyGivenNames x3
  have hx3 : Within k s0 x3 := by
    exact State_showChans_within (sub_trans rfl hk) hx2
  try clear_value x3
  refine Within.foldl (fun t4 _ ht4 => ?_) _ ?_
  · exact State_setReg_within (sub_trans rfl hk) ht4
  · exact hx3

theorem State_deliver_within {k : Nat} {s0 : State} {a0 : State} {a1 : _} (hk : 8389893 &&& k = 8389893) (h : Within k s0 a0) : Within k s0 (State.deliver a0 a1) := by
  unfold Sys2Proof.Machine.State.deliver
  extract_lets -underBinder +onlyGivenNames x1
  try clear_value x1
  extract_lets -underBinder +onlyGivenNames x2
  have hx2 : Within k s0 x2 := by
    exact Within.set_rim (sub_trans rfl hk) h
  try clear_value x2
  extract_lets -underBinder +onlyGivenNames x3
  try clear_value x3
  extract_lets -underBinder +onlyGivenNames x4
  have hx4 : Within k s0 x4 := by
    exact State_setFlag_within (sub_trans rfl hk) (State_showFrame_within (sub_trans rfl hk) hx2)
  try clear_value x4
  extract_lets -underBinder +onlyGivenNames x5
  have hx5 : Within k s0 x5 := by
    unfold x5
    refine Within.ite (fun _ => ?_) (fun _ => ?_)
    · exact hx4
    · exact State_raise_within (sub_trans rfl hk) hx4
  try clear_value x5
  refine Within.foldl (fun t6 _ ht6 => ?_) _ ?_
  · exact State_raiseField_within (sub_trans rfl hk) (State_fieldCount_within (sub_trans rfl hk) ht6)
  · exact hx5

theorem State_inError_within {k : Nat} {s0 : State} {a0 : State} (hk : 1285 &&& k = 1285) (h : Within k s0 a0) : Within k s0 (State.inError a0) := by
  unfold Sys2Proof.Machine.State.inError
  exact State_raise_within (sub_trans rfl hk) h

theorem rimInFrame_within {k : Nat} {s0 : State} {a0 : _} {a1 : State} (hk : 68727866629 &&& k = 68727866629) (h : Within k s0 a1) : Within k s0 (rimInFrame a0 a1) := by
  unfold Sys2Proof.Machine.rimInFrame
  split
  · have m1 := State_inTake_within (sub_trans rfl hk) (by assumption) h
    split
    · exact State_inError_within (sub_trans rfl hk) (State_bump_within (sub_trans rfl hk) m1)
    · exact State_deliver_within (sub_trans rfl hk) (State_inError_within (sub_trans rfl hk) m1)
    · exact State_deliver_within (sub_trans rfl hk) m1
  · exact h

theorem execRimInFrame_within {k : Nat} {s0 t : State} {a0 : _} {a1 : State} (hk : 68727866629 &&& k = 68727866629) (h : Within k s0 a1) (e : execRimInFrame a0 a1 = .next t) : Within k s0 t := by
  unfold Sys2Proof.Machine.execRimInFrame at e
  cases e
  exact rimInFrame_within (sub_trans rfl hk) h

theorem rimCtrlIn_within {k : Nat} {s0 : State} {a0 : State} (hk : 68727870725 &&& k = 68727870725) (h : Within k s0 a0) : Within k s0 (rimCtrlIn a0) := by
  unfold Sys2Proof.Machine.rimCtrlIn
  split
  · extract_lets -underBinder +onlyGivenNames x1
    try clear_value x1
    extract_lets -underBinder +onlyGivenNames x2
    have hx2 : Within k s0 x2 := by
      exact Within.plain (a := 68727865344) (t := a0) (sub_trans rfl hk) h rfl rfl rfl rfl rfl rfl
    try clear_value x2
    extract_lets -underBinder +onlyGivenNames x3
    have hx3 : Within k s0 x3 := by
      refine Within.foldl (fun t4 _ ht4 => ?_) _ ?_
      · exact State_setReg_within (sub_trans rfl hk) ht4
      · exact hx2
    try clear_value x3
    exact State_raise_within (sub_trans rfl hk) (State_setFlag_within (sub_trans rfl hk) (State_setReg_within (sub_trans rfl hk) hx3))
  · exact State_raise_within (sub_trans rfl hk) (State_mbxClear_within (sub_trans rfl hk) (Within.set_toHost (sub_trans rfl hk) h))
  · exact h

theorem execRimCtrlInFrame_within {k : Nat} {s0 t : State} {a0 : State} (hk : 68727870725 &&& k = 68727870725) (h : Within k s0 a0) (e : execRimCtrlInFrame a0 = .next t) : Within k s0 t := by
  unfold Sys2Proof.Machine.execRimCtrlInFrame at e
  cases e
  exact rimCtrlIn_within (sub_trans rfl hk) h

theorem State_fieldDisarm_within {k : Nat} {s0 : State} {a0 : State} (hk : 1285 &&& k = 1285) (h : Within k s0 a0) : Within k s0 (State.fieldDisarm a0) := by
  unfold Sys2Proof.Machine.State.fieldDisarm
  refine Within.ite (fun _ => ?_) (fun _ => ?_)
  · extract_lets -underBinder +onlyGivenNames x1
    have hx1 : Within k s0 x1 := by
      exact State_setFlag_within (sub_trans rfl hk) h
    try clear_value x1
    exact State_raise_within (sub_trans rfl hk) hx1
  · exact h

theorem State_rimReact_within {k : Nat} {s0 : State} {a0 : State} (hk : 447755685127 &&& k = 447755685127) (h : Within k s0 a0) : Within k s0 (State.rimReact a0) := by
  unfold Sys2Proof.Machine.State.rimReact
  refine Within.ite (fun _ => ?_) (fun _ => ?_)
  · exact h
  · refine Within.ite (fun _ => ?_) (fun _ => ?_)
    · refine Within.ite (fun _ => ?_) (fun _ => ?_)
      · exact State_giveUp_within (sub_trans rfl hk) h
      · exact h
    · refine Within.ite (fun _ => ?_) (fun _ => ?_)
      · exact State_leavePair_within (sub_trans rfl hk) h
      · exact h

theorem rimLoss_within {k : Nat} {s0 : State} {a0 : State} (hk : 447764073791 &&& k = 447764073791) (h : Within k s0 a0) : Within k s0 (rimLoss a0) := by
  unfold Sys2Proof.Machine.rimLoss
  refine Within.ite (fun _ => ?_) (fun _ => ?_)
  · extract_lets -underBinder +onlyGivenNames x1
    have hx1 : Within k s0 x1 := by
      exact State_toMono_within (sub_trans rfl hk) h
    try clear_value x1
    extract_lets -underBinder +onlyGivenNames x2
    try clear_value x2
    extract_lets -underBinder +onlyGivenNames x3
    have hx3 : Within k s0 x3 := by
      exact Within.set_rim (sub_trans rfl hk) hx1
    try clear_value x3
    exact State_rimReact_within (sub_trans rfl hk) (State_fieldDisarm_within (sub_trans rfl hk) (State_raise_within (sub_trans rfl hk) (State_setFlag_within (sub_trans rfl hk) hx3)))
  · exact h

theorem execRimLoss_within {k : Nat} {s0 t : State} {a0 : State} (hk : 447764073791 &&& k = 447764073791) (h : Within k s0 a0) (e : execRimLoss a0 = .next t) : Within k s0 t := by
  unfold Sys2Proof.Machine.execRimLoss at e
  cases e
  exact rimLoss_within (sub_trans rfl hk) h

theorem rimRecovery_within {k : Nat} {s0 : State} {a0 : State} (hk : 447764073791 &&& k = 447764073791) (h : Within k s0 a0) : Within k s0 (rimRecovery a0) := by
  unfold Sys2Proof.Machine.rimRecovery
  split
  · refine Within.ite (fun _ => ?_) (fun _ => ?_)
    · extract_lets -underBinder +onlyGivenNames x1
      have hx1 : Within k s0 x1 := by
        exact State_toMono_within (sub_trans rfl hk) h
      try clear_value x1
      exact State_stationStop_within (sub_trans rfl hk) (Within.set_rim (sub_trans rfl hk) hx1)
    · exact h
  · exact h

theorem execRimRecoveryTimeout_within {k : Nat} {s0 t : State} {a0 : State} (hk : 447764073791 &&& k = 447764073791) (h : Within k s0 a0) (e : execRimRecoveryTimeout a0 = .next t) : Within k s0 t := by
  unfold Sys2Proof.Machine.execRimRecoveryTimeout at e
  cases e
  exact rimRecovery_within (sub_trans rfl hk) h

theorem modeDoneMsg_within {k : Nat} {s0 : State} {a0 : State} (hk : 8389893 &&& k = 8389893) (h : Within k s0 a0) : Within k s0 (modeDoneMsg a0) := by
  unfold Sys2Proof.Machine.modeDoneMsg
  split
  · have m1 := State_report_within (sub_trans rfl hk) (by assumption) h
    exact State_raise_within (sub_trans rfl hk) m1
  · exact h

theorem execModeDone_within {k : Nat} {s0 t : State} {a0 : State} (hk : 8389893 &&& k = 8389893) (h : Within k s0 a0) (e : execModeDone a0 = .next t) : Within k s0 t := by
  unfold Sys2Proof.Machine.execModeDone at e
  cases e
  exact modeDoneMsg_within (sub_trans rfl hk) h

theorem State_sendTrim_within {k : Nat} {s0 : State} {a0 : State} {a1 : _} (hk : 34359739653 &&& k = 34359739653) (h : Within k s0 a0) : Within k s0 (State.sendTrim a0 a1) := by
  unfold Sys2Proof.Machine.State.sendTrim
  refine Within.ite (fun _ => ?_) (fun _ => ?_)
  · split
    · exact State_rimSend_within (sub_trans rfl hk) h
    · refine Within.ite (fun _ => ?_) (fun _ => ?_)
      · exact h
      · exact State_raise_within (sub_trans rfl hk) (State_setFld_within (sub_trans rfl hk) h)
  · exact h

theorem State_sendCfg_within {k : Nat} {s0 : State} {a0 : State} (hk : 34359739653 &&& k = 34359739653) (h : Within k s0 a0) : Within k s0 (State.sendCfg a0) := by
  unfold Sys2Proof.Machine.State.sendCfg
  split
  · extract_lets -underBinder +onlyGivenNames x1
    try clear_value x1
    extract_lets -underBinder +onlyGivenNames x2
    have hx2 : Within k s0 x2 := by
      exact State_setFld_within (sub_trans rfl hk) h
    try clear_value x2
    extract_lets -underBinder +onlyGivenNames x3
    have hx3 : Within k s0 x3 := by
      exact State_rimSend_within (sub_trans rfl hk) hx2
    try clear_value x3
    refine Within.foldl (fun t4 _ ht4 => ?_) _ ?_
    · exact State_sendTrim_within (sub_trans rfl hk) ht4
    · exact hx3
  · exact State_rimSend_within (sub_trans rfl hk) h

theorem State_postGrant_within {k : Nat} {s0 : State} {a0 : State} (hk : 34359743749 &&& k = 34359743749) (h : Within k s0 a0) : Within k s0 (State.postGrant a0) := by
  unfold Sys2Proof.Machine.State.postGrant
  exact State_hostPost_within (sub_trans rfl hk) h

theorem State_armRequest_within {k : Nat} {s0 : State} {a0 : State} (hk : 34359743749 &&& k = 34359743749) (h : Within k s0 a0) : Within k s0 (State.armRequest a0) := by
  unfold Sys2Proof.Machine.State.armRequest
  refine Within.ite (fun _ => ?_) (fun _ => ?_)
  · extract_lets -underBinder +onlyGivenNames x1
    try clear_value x1
    extract_lets -underBinder +onlyGivenNames x2
    have hx2 : Within k s0 x2 := by
      exact State_hostPost_within (sub_trans rfl hk) (State_setFlag_within (sub_trans rfl hk) h)
    try clear_value x2
    refine Within.ite (fun _ => ?_) (fun _ => ?_)
    · exact hx2
    · exact State_raise_within (sub_trans rfl hk) hx2
  · exact h

theorem fieldStarted_within {k : Nat} {s0 : State} {a0 : State} (hk : 34418464005 &&& k = 34418464005) (h : Within k s0 a0) : Within k s0 (fieldStarted a0) := by
  unfold Sys2Proof.Machine.fieldStarted
  split
  · have m1 := State_report_within (sub_trans rfl hk) (by assumption) h
    extract_lets -underBinder +onlyGivenNames x2
    try clear_value x2
    extract_lets -underBinder +onlyGivenNames x3
    have hx3 : Within k s0 x3 := by
      exact Within.set_rim (sub_trans rfl hk) m1
    try clear_value x3
    extract_lets -underBinder +onlyGivenNames x4
    have hx4 : Within k s0 x4 := by
      exact State_sendCfg_within (sub_trans rfl hk) (State_trimEnd_within (sub_trans rfl hk) (State_fieldDisarm_within (sub_trans rfl hk) (State_raise_within (sub_trans rfl hk) hx3)))
    try clear_value x4
    refine Within.ite (fun _ => ?_) (fun _ => ?_)
    · exact State_armRequest_within (sub_trans rfl hk) (State_postGrant_within (sub_trans rfl hk) hx4)
    · exact hx4
  · exact h

theorem execFieldStarted_within {k : Nat} {s0 t : State} {a0 : State} (hk : 34418464005 &&& k = 34418464005) (h : Within k s0 a0) (e : execFieldStarted a0 = .next t) : Within k s0 t := by
  unfold Sys2Proof.Machine.execFieldStarted at e
  cases e
  exact fieldStarted_within (sub_trans rfl hk) h

theorem armDone_within {k : Nat} {s0 : State} {a0 : State} (hk : 8389893 &&& k = 8389893) (h : Within k s0 a0) : Within k s0 (armDone a0) := by
  unfold Sys2Proof.Machine.armDone
  split
  · have m1 := State_report_within (sub_trans rfl hk) (by assumption) h
    extract_lets -underBinder +onlyGivenNames x2
    try clear_value x2
    refine Within.ite (fun _ => ?_) (fun _ => ?_)
    · extract_lets -underBinder +onlyGivenNames x3
      have hx3 : Within k s0 x3 := by
        exact State_setFlag_within (sub_trans rfl hk) m1
      try clear_value x3
      exact State_raise_within (sub_trans rfl hk) hx3
    · exact m1
  · exact h

theorem execArmDone_within {k : Nat} {s0 t : State} {a0 : State} (hk : 8389893 &&& k = 8389893) (h : Within k s0 a0) (e : execArmDone a0 = .next t) : Within k s0 t := by
  unfold Sys2Proof.Machine.execArmDone at e
  cases e
  exact armDone_within (sub_trans rfl hk) h

theorem resetDone_within {k : Nat} {s0 : State} {a0 : State} (hk : 75497472 &&& k = 75497472) (h : Within k s0 a0) : Within k s0 (resetDone a0) := by
  unfold Sys2Proof.Machine.resetDone
  split
  · have m1 := State_report_within (sub_trans rfl hk) (by assumption) h
    exact Within.set_saf (sub_trans rfl hk) m1
  · exact h

theorem execResetDone_within {k : Nat} {s0 t : State} {a0 : State} (hk : 75497472 &&& k = 75497472) (h : Within k s0 a0) (e : execResetDone a0 = .next t) : Within k s0 t := by
  unfold Sys2Proof.Machine.execResetDone at e
  cases e
  exact resetDone_within (sub_trans rfl hk) h

end Sys2Proof.Laws
end

