-- ==== Sys2Proof/Laws/WithinSources.lean ====
section
/-! SUPPORT. What each operation of Machine/Sources.lean can do to the state (see Laws/Within.lean). -/

/- One thread: elaborating these many small proofs side by side can exceed the memory that check.sh allows. -/
set_option Elab.async false

namespace Sys2Proof.Laws
open Sys2Proof Sys2Proof.Machine

theorem State_setStation_within {k : Nat} {s0 : State} {a0 : State} {a1 : _} (hk : 134217728 &&& k = 134217728) (h : Within k s0 a0) : Within k s0 (State.setStation a0 a1) := by
  unfold Sys2Proof.Machine.State.setStation
  exact Within.set_stns (sub_trans rfl hk) h

theorem State_setEsc_within {k : Nat} {s0 : State} {a0 : State} {a1 : _} (hk : 268435456 &&& k = 268435456) (h : Within k s0 a0) : Within k s0 (State.setEsc a0 a1) := by
  unfold Sys2Proof.Machine.State.setEsc
  exact Within.set_escs (sub_trans rfl hk) h

theorem State_setHostFn_within {k : Nat} {s0 : State} {a0 : State} {a1 : _} (hk : 67108864 &&& k = 67108864) (h : Within k s0 a0) : Within k s0 (State.setHostFn a0 a1) := by
  unfold Sys2Proof.Machine.State.setHostFn
  exact Within.set_saf (sub_trans rfl hk) h

theorem State_convey_within2 {k : Nat} {s0 : State} {a0 : State} {a1 : _} {a2 : _} {a3 : _} (hk : 525573 &&& k = 525573) (h : Within k s0 a0) : Within k s0 (State.convey a0 a1 a2 a3).2 := by
  unfold Sys2Proof.Machine.State.convey
  extract_lets -underBinder +onlyGivenNames x1
  try clear_value x1
  extract_lets -underBinder +onlyGivenNames x2
  try clear_value x2
  extract_lets -underBinder +onlyGivenNames x3
  have hx3 : Within k s0 x3 := by
    unfold x3
    split
    · exact Within.set_routeLast (sub_trans rfl hk) h
    · exact h
  try clear_value x3
  extract_lets -underBinder +onlyGivenNames x4
  have hx4 : Within k s0 x4 := by
    unfold x4
    refine Within.ite (fun _ => ?_) (fun _ => ?_)
    · exact State_raise_within (sub_trans rfl hk) (State_bump_within (sub_trans rfl hk) hx3)
    · exact hx3
  try clear_value x4
  refine Within.ite (fun _ => ?_) (fun _ => ?_)
  · exact State_bump_within (sub_trans rfl hk) hx4
  · exact hx4

theorem State_takeRoute_within2 {k : Nat} {s0 : State} {a0 : State} {a1 : _} {a2 : _} {a3 : _} (hk : 525573 &&& k = 525573) (h : Within k s0 a0) : Within k s0 (State.takeRoute a0 a1 a2 a3).2 := by
  unfold Sys2Proof.Machine.State.takeRoute
  exact State_convey_within2 (sub_trans rfl hk) h

theorem State_takeSink_within2 {k : Nat} {s0 : State} {a0 : State} {a1 : _} {a2 : _} {a3 : _} (hk : 525573 &&& k = 525573) (h : Within k s0 a0) : Within k s0 (State.takeSink a0 a1 a2 a3).2 := by
  unfold Sys2Proof.Machine.State.takeSink
  split
  · exact State_takeRoute_within2 (sub_trans rfl hk) h
  · exact h

theorem State_takeSinks_within2 {k : Nat} {s0 : State} {a0 : State} {a1 : _} {a2 : _} {a3 : _} (hk : 525573 &&& k = 525573) (h : Within k s0 a0) : Within k s0 (State.takeSinks a0 a1 a2 a3).2 := by
  induction a3 generalizing a0 a1 a2 with
  | nil =>
    unfold Sys2Proof.Machine.State.takeSinks
    exact h
  | cons _ _ ih =>
    unfold Sys2Proof.Machine.State.takeSinks
    extract_lets -underBinder +onlyGivenNames x1
    have hx1 : Within k s0 x1.2 := by
      exact State_takeSink_within2 (sub_trans rfl hk) h
    try clear_value x1
    extract_lets -underBinder +onlyGivenNames x2
    have hx2 : Within k s0 x2.2 := by
      apply ih
      exact hx1
    try clear_value x2
    exact hx2

theorem State_takeEntries_within2 {k : Nat} {s0 : State} {a0 : State} {a1 : _} {a2 : _} {a3 : _} {a4 : _} (hk : 525573 &&& k = 525573) (h : Within k s0 a0) : Within k s0 (State.takeEntries a0 a1 a2 a3 a4).2 := by
  induction a4 generalizing a0 a1 a2 a3 with
  | nil =>
    unfold Sys2Proof.Machine.State.takeEntries
    exact h
  | cons _ _ ih =>
    unfold Sys2Proof.Machine.State.takeEntries
    extract_lets -underBinder +onlyGivenNames x1
    have hx1 : Within k s0 x1.2 := by
      exact State_takeRoute_within2 (sub_trans rfl hk) h
    try clear_value x1
    extract_lets -underBinder +onlyGivenNames x2
    have hx2 : Within k s0 x2.2 := by
      apply ih
      exact hx1
    try clear_value x2
    exact hx2

end Sys2Proof.Laws
end

