-- ==== Sys2Proof/Laws/WithinRemote.lean ====
section
/-! SUPPORT. What each operation of Machine/Remote.lean can do to the state (see Laws/Within.lean). -/

/- One thread: elaborating these many small proofs side by side can exceed the memory that check.sh allows. -/
set_option Elab.async false

namespace Sys2Proof.Laws
open Sys2Proof Sys2Proof.Machine

theorem State_escLatch_within {k : Nat} {s0 : State} {a0 : State} {a1 : _} {a2 : _} (hk : 1285 &&& k = 1285) (h : Within k s0 a0) : Within k s0 (State.escLatch a0 a1 a2) := by
  unfold Sys2Proof.Machine.State.escLatch
  refine Within.ite (fun _ => ?_) (fun _ => ?_)
  · exact h
  · extract_lets -underBinder +onlyGivenNames x1
    have hx1 : Within k s0 x1 := by
      exact State_setFld_within (sub_trans rfl hk) (State_setFld_within (sub_trans rfl hk) (State_setFlag_within (sub_trans rfl hk) h))
    try clear_value x1
    exact State_raise_within (sub_trans rfl hk) hx1

theorem State_escCount_within {k : Nat} {s0 : State} {a0 : State} {a1 : _} {a2 : _} {a3 : _} (hk : 1 &&& k = 1) (h : Within k s0 a0) : Within k s0 (State.escCount a0 a1 a2 a3) := by
  induction a3 generalizing a0 a1 a2 with
  | zero =>
    unfold Sys2Proof.Machine.State.escCount
    exact h
  | succ _ ih =>
    unfold Sys2Proof.Machine.State.escCount
    apply ih
    exact State_bump_within (sub_trans rfl hk) h

theorem State_escAccept_within {k : Nat} {s0 : State} {a0 : State} {a1 : _} {a2 : _} {a3 : _} {a4 : _} (hk : 268435457 &&& k = 268435457) (h : Within k s0 a0) : Within k s0 (State.escAccept a0 a1 a2 a3 a4) := by
  unfold Sys2Proof.Machine.State.escAccept
  extract_lets -underBinder +onlyGivenNames x1
  try clear_value x1
  extract_lets -underBinder +onlyGivenNames x2
  have hx2 : Within k s0 x2 := by
    unfold x2
    refine Within.ite (fun _ => ?_) (fun _ => ?_)
    · exact h
    · exact State_escCount_within (sub_trans rfl hk) h
  try clear_value x2
  extract_lets -underBinder +onlyGivenNames x3
  have hx3 : Within k s0 x3 := by
    exact State_setEsc_within (sub_trans rfl hk) hx2
  try clear_value x3
  extract_lets -underBinder +onlyGivenNames x4
  have hx4 : Within k s0 x4 := by
    exact State_setFld_within (sub_trans rfl hk) hx3
  try clear_value x4
  refine Within.ite (fun _ => ?_) (fun _ => ?_)
  · exact hx4
  · exact State_setFld_within (sub_trans rfl hk) hx4

theorem State_escJudge_within {k : Nat} {s0 : State} {a0 : State} {a1 : _} {a2 : _} {a3 : _} (hk : 268436741 &&& k = 268436741) (h : Within k s0 a0) : Within k s0 (State.escJudge a0 a1 a2 a3) := by
  unfold Sys2Proof.Machine.State.escJudge
  split
  · exact h
  · extract_lets -underBinder +onlyGivenNames x1
    try clear_value x1
    extract_lets -underBinder +onlyGivenNames x2
    try clear_value x2
    refine Within.ite (fun _ => ?_) (fun _ => ?_)
    · exact State_bump_within (sub_trans rfl hk) h
    · refine Within.ite (fun _ => ?_) (fun _ => ?_)
      · exact State_escLatch_within (sub_trans rfl hk) h
      · refine Within.ite (fun _ => ?_) (fun _ => ?_)
        · exact State_escAccept_within (sub_trans rfl hk) h
        · exact State_bump_within (sub_trans rfl hk) h

theorem State_escExpire_within {k : Nat} {s0 : State} {a0 : State} {a1 : _} (hk : 1285 &&& k = 1285) (h : Within k s0 a0) : Within k s0 (State.escExpire a0 a1) := by
  unfold Sys2Proof.Machine.State.escExpire
  refine Within.foldl (fun t1 _ ht1 => ?_) _ ?_
  · exact State_escLatch_within (sub_trans rfl hk) ht1
  · exact h

theorem escWdog_within {k : Nat} {s0 : State} {a0 : _} {a1 : State} (hk : 1341 &&& k = 1341) (h : Within k s0 a1) : Within k s0 (escWdog a0 a1) := by
  unfold Sys2Proof.Machine.escWdog
  split
  · split
    · refine Within.ite (fun _ => ?_) (fun _ => ?_)
      · exact h
      · exact State_escLatch_within (sub_trans rfl hk) (State_toTime_within (sub_trans rfl hk) h)
    · exact h
  · exact h

theorem execEscWatchdogExpiry_within {k : Nat} {s0 t : State} {a0 : _} {a1 : State} (hk : 1341 &&& k = 1341) (h : Within k s0 a1) (e : execEscWatchdogExpiry a0 a1 = .next t) : Within k s0 t := by
  unfold Sys2Proof.Machine.execEscWatchdogExpiry at e
  cases e
  exact escWdog_within (sub_trans rfl hk) h

theorem State_escClear_within {k : Nat} {s0 : State} {a0 : State} {a1 : _} {a2 : _} {a3 : _} (hk : 268436741 &&& k = 268436741) (h : Within k s0 a0) : Within k s0 (State.escClear a0 a1 a2 a3) := by
  unfold Sys2Proof.Machine.State.escClear
  refine Within.ite (fun _ => ?_) (fun _ => ?_)
  · extract_lets -underBinder +onlyGivenNames x1
    have hx1 : Within k s0 x1 := by
      exact State_setFld_within (sub_trans rfl hk) (State_setFld_within (sub_trans rfl hk) (State_setFlag_within (sub_trans rfl hk) h))
    try clear_value x1
    exact State_raise_within (sub_trans rfl hk) (State_setEsc_within (sub_trans rfl hk) hx1)
  · exact h

theorem State_escRst_within {k : Nat} {s0 : State} {a0 : State} {a1 : _} {a2 : _} {a3 : _} (hk : 268961029 &&& k = 268961029) (h : Within k s0 a0) : Within k s0 (State.escRst a0 a1 a2 a3) := by
  unfold Sys2Proof.Machine.State.escRst
  split
  · exact h
  · extract_lets -underBinder +onlyGivenNames x1
    have hx1 : Within k s0 x1.2 := by
      exact State_takeRoute_within2 (sub_trans rfl hk) h
    try clear_value x1
    extract_lets -underBinder +onlyGivenNames x2
    try clear_value x2
    split
    · exact hx1
    · extract_lets -underBinder +onlyGivenNames x3
      have hx3 : Within k s0 x3 := by
        exact State_setEsc_within (sub_trans rfl hk) hx1
      try clear_value x3
      refine Within.ite (fun _ => ?_) (fun _ => ?_)
      · exact State_escClear_within (sub_trans rfl hk) hx3
      · exact hx3

theorem State_escResets_within {k : Nat} {s0 : State} {a0 : State} {a1 : _} {a2 : _} (hk : 268961029 &&& k = 268961029) (h : Within k s0 a0) : Within k s0 (State.escResets a0 a1 a2) := by
  unfold Sys2Proof.Machine.State.escResets
  refine Within.foldl (fun t1 _ ht1 => ?_) _ ?_
  · exact State_escRst_within (sub_trans rfl hk) ht1
  · exact h

theorem State_commitSink_within2 {k : Nat} {s0 : State} {a0 : State} {a1 : _} {a2 : _} {a3 : _} {a4 : _} (hk : 525573 &&& k = 525573) (h : Within k s0 a0) : Within k s0 (State.commitSink a0 a1 a2 a3 a4).2 := by
  unfold Sys2Proof.Machine.State.commitSink
  split
  · exact State_convey_within2 (sub_trans rfl hk) h
  · exact h

theorem State_commitSinks_within2 {k : Nat} {s0 : State} {a0 : State} {a1 : _} {a2 : _} {a3 : _} {a4 : _} (hk : 525573 &&& k = 525573) (h : Within k s0 a0) : Within k s0 (State.commitSinks a0 a1 a2 a3 a4).2 := by
  induction a4 generalizing a0 a1 a2 a3 with
  | nil =>
    unfold Sys2Proof.Machine.State.commitSinks
    exact h
  | cons _ _ ih =>
    unfold Sys2Proof.Machine.State.commitSinks
    extract_lets -underBinder +onlyGivenNames x1
    have hx1 : Within k s0 x1.2 := by
      exact State_commitSink_within2 (sub_trans rfl hk) h
    try clear_value x1
    extract_lets -underBinder +onlyGivenNames x2
    have hx2 : Within k s0 x2.2 := by
      apply ih
      exact hx1
    try clear_value x2
    exact hx2

theorem State_escForm_within {k : Nat} {s0 : State} {a0 : State} {a1 : _} {a2 : _} {a3 : _} {a4 : _} (hk : 268961029 &&& k = 268961029) (h : Within k s0 a0) : Within k s0 (State.escForm a0 a1 a2 a3 a4) := by
  unfold Sys2Proof.Machine.State.escForm
  split
  · exact h
  · extract_lets -underBinder +onlyGivenNames x1
    have hx1 : Within k s0 x1.2 := by
      exact State_commitSinks_within2 (sub_trans rfl hk) h
    try clear_value x1
    extract_lets -underBinder +onlyGivenNames x2
    try clear_value x2
    extract_lets -underBinder +onlyGivenNames x3
    try clear_value x3
    exact State_setFld_within (sub_trans rfl hk) (State_setEsc_within (sub_trans rfl hk) hx1)

theorem State_escProduce_within {k : Nat} {s0 : State} {a0 : State} {a1 : _} {a2 : _} {a3 : _} (hk : 268961029 &&& k = 268961029) (h : Within k s0 a0) : Within k s0 (State.escProduce a0 a1 a2 a3) := by
  unfold Sys2Proof.Machine.State.escProduce
  refine Within.foldl (fun t1 _ ht1 => ?_) _ ?_
  · exact State_escForm_within (sub_trans rfl hk) ht1
  · exact h

theorem State_ecxDiscard_within {k : Nat} {s0 : State} {a0 : State} {a1 : _} (hk : 1285 &&& k = 1285) (h : Within k s0 a0) : Within k s0 (State.ecxDiscard a0 a1) := by
  unfold Sys2Proof.Machine.State.ecxDiscard
  extract_lets -underBinder +onlyGivenNames x1
  have hx1 : Within k s0 x1 := by
    exact State_setFld_within (sub_trans rfl hk) (State_bump_within (sub_trans rfl hk) h)
  try clear_value x1
  exact State_raise_within (sub_trans rfl hk) hx1

theorem ecxIn_within {k : Nat} {s0 : State} {a0 : _} {a1 : _} {a2 : State} (hk : 134219013 &&& k = 134219013) (h : Within k s0 a2) : Within k s0 (ecxIn a0 a1 a2) := by
  unfold Sys2Proof.Machine.ecxIn
  split
  · exact State_ecxDiscard_within (sub_trans rfl hk) h
  · split
    · exact State_ecxDiscard_within (sub_trans rfl hk) h
    · refine Within.ite (fun _ => ?_) (fun _ => ?_)
      · exact State_setStation_within (sub_trans rfl hk) h
      · exact State_ecxDiscard_within (sub_trans rfl hk) h

theorem execEcxInFrame_within {k : Nat} {s0 t : State} {a0 : _} {a1 : _} {a2 : State} (hk : 134219013 &&& k = 134219013) (h : Within k s0 a2) (e : execEcxInFrame a0 a1 a2 = .next t) : Within k s0 t := by
  unfold Sys2Proof.Machine.execEcxInFrame at e
  cases e
  exact ecxIn_within (sub_trans rfl hk) h

theorem ecxAck_within {k : Nat} {s0 : State} {a0 : _} {a1 : _} {a2 : State} (hk : 134217728 &&& k = 134217728) (h : Within k s0 a2) : Within k s0 (ecxAck a0 a1 a2) := by
  unfold Sys2Proof.Machine.ecxAck
  split
  · exact h
  · split
    · exact h
    · refine Within.ite (fun _ => ?_) (fun _ => ?_)
      · exact State_setStation_within (sub_trans rfl hk) h
      · exact h

theorem execEcxCfgAck_within {k : Nat} {s0 t : State} {a0 : _} {a1 : _} {a2 : State} (hk : 134217728 &&& k = 134217728) (h : Within k s0 a2) (e : execEcxCfgAck a0 a1 a2 = .next t) : Within k s0 t := by
  unfold Sys2Proof.Machine.execEcxCfgAck at e
  cases e
  exact ecxAck_within (sub_trans rfl hk) h

theorem State_ecxCfg_within {k : Nat} {s0 : State} {a0 : State} {a1 : _} (hk : 137573171200 &&& k = 137573171200) (h : Within k s0 a0) : Within k s0 (State.ecxCfg a0 a1) := by
  unfold Sys2Proof.Machine.State.ecxCfg
  split
  · exact h
  · refine Within.ite (fun _ => ?_) (fun _ => ?_)
    · exact h
    · extract_lets -underBinder +onlyGivenNames x1
      try clear_value x1
      extract_lets -underBinder +onlyGivenNames x2
      try clear_value x2
      extract_lets -underBinder +onlyGivenNames x3
      try clear_value x3
      exact State_send_within (sub_trans rfl hk) (State_setStation_within (sub_trans rfl hk) h)

theorem State_ecxCfgAll_within {k : Nat} {s0 : State} {a0 : State} (hk : 137573171200 &&& k = 137573171200) (h : Within k s0 a0) : Within k s0 (State.ecxCfgAll a0) := by
  unfold Sys2Proof.Machine.State.ecxCfgAll
  refine Within.foldl (fun t1 _ ht1 => ?_) _ ?_
  · exact State_ecxCfg_within (sub_trans rfl hk) ht1
  · exact h

theorem ecxResend_within {k : Nat} {s0 : State} {a0 : _} {a1 : State} (hk : 137573171256 &&& k = 137573171256) (h : Within k s0 a1) : Within k s0 (ecxResend a0 a1) := by
  unfold Sys2Proof.Machine.ecxResend
  split
  · refine Within.ite (fun _ => ?_) (fun _ => ?_)
    · exact h
    · exact State_ecxCfg_within (sub_trans rfl hk) (State_toMono_within (sub_trans rfl hk) h)
  · exact h

theorem execEcxCfgResend_within {k : Nat} {s0 t : State} {a0 : _} {a1 : State} (hk : 137573171256 &&& k = 137573171256) (h : Within k s0 a1) (e : execEcxCfgResend a0 a1 = .next t) : Within k s0 t := by
  unfold Sys2Proof.Machine.execEcxCfgResend at e
  cases e
  exact ecxResend_within (sub_trans rfl hk) h

theorem State_escOfIn_within {k : Nat} {s0 : State} {a0 : State} {a1 : _} {a2 : _} {a3 : _} (hk : 268436741 &&& k = 268436741) (h : Within k s0 a0) : Within k s0 (State.escOfIn a0 a1 a2 a3) := by
  unfold Sys2Proof.Machine.State.escOfIn
  refine Within.foldl (fun t1 _ ht1 => ?_) _ ?_
  · exact State_escJudge_within (sub_trans rfl hk) ht1
  · exact h

theorem State_stnPresent_within {k : Nat} {s0 : State} {a0 : State} {a1 : _} {a2 : _} {a3 : _} {a4 : _} {a5 : _} (hk : 402654469 &&& k = 402654469) (h : Within k s0 a0) : Within k s0 (State.stnPresent a0 a1 a2 a3 a4 a5) := by
  unfold Sys2Proof.Machine.State.stnPresent
  extract_lets -underBinder +onlyGivenNames x1
  try clear_value x1
  extract_lets -underBinder +onlyGivenNames x2
  try clear_value x2
  extract_lets -underBinder +onlyGivenNames x3
  try clear_value x3
  extract_lets -underBinder +onlyGivenNames x4
  have hx4 : Within k s0 x4 := by
    exact State_setStation_within (sub_trans rfl hk) h
  try clear_value x4
  extract_lets -underBinder +onlyGivenNames x5
  have hx5 : Within k s0 x5 := by
    unfold x5
    refine Within.ite (fun _ => ?_) (fun _ => ?_)
    · exact hx4
    · exact State_setFld_within (sub_trans rfl hk) hx4
  try clear_value x5
  extract_lets -underBinder +onlyGivenNames x6
  have hx6 : Within k s0 x6 := by
    exact State_setFlag_within (sub_trans rfl hk) (State_setFld_within (sub_trans rfl hk) (State_setFld_within (sub_trans rfl hk) hx5))
  try clear_value x6
  extract_lets -underBinder +onlyGivenNames x7
  have hx7 : Within k s0 x7 := by
    exact State_escOfIn_within (sub_trans rfl hk) (State_setFlag_within (sub_trans rfl hk) hx6)
  try clear_value x7
  refine Within.ite (fun _ => ?_) (fun _ => ?_)
  · exact State_raise_within (sub_trans rfl hk) hx7
  · exact hx7

theorem State_stnMiss_within {k : Nat} {s0 : State} {a0 : State} {a1 : _} {a2 : _} {a3 : _} {a4 : _} (hk : 134219013 &&& k = 134219013) (h : Within k s0 a0) : Within k s0 (State.stnMiss a0 a1 a2 a3 a4) := by
  unfold Sys2Proof.Machine.State.stnMiss
  extract_lets -underBinder +onlyGivenNames x1
  try clear_value x1
  extract_lets -underBinder +onlyGivenNames x2
  try clear_value x2
  extract_lets -underBinder +onlyGivenNames x3
  have hx3 : Within k s0 x3 := by
    exact State_setStation_within (sub_trans rfl hk) h
  try clear_value x3
  refine Within.ite (fun _ => ?_) (fun _ => ?_)
  · exact hx3
  · extract_lets -underBinder +onlyGivenNames x4
    try clear_value x4
    extract_lets -underBinder +onlyGivenNames x5
    have hx5 : Within k s0 x5 := by
      exact State_bump_within (sub_trans rfl hk) (State_setFld_within (sub_trans rfl hk) hx3)
    try clear_value x5
    refine Within.ite (fun _ => ?_) (fun _ => ?_)
    · extract_lets -underBinder +onlyGivenNames x6
      have hx6 : Within k s0 x6 := by
        exact State_setFld_within (sub_trans rfl hk) hx5
      try clear_value x6
      refine Within.ite (fun _ => ?_) (fun _ => ?_)
      · exact hx6
      · exact State_raise_within (sub_trans rfl hk) hx6
    · extract_lets -underBinder +onlyGivenNames x7
      try clear_value x7
      extract_lets -underBinder +onlyGivenNames x8
      have hx8 : Within k s0 x8 := by
        exact State_setFld_within (sub_trans rfl hk) (State_setFld_within (sub_trans rfl hk) hx5)
      try clear_value x8
      refine Within.ite (fun _ => ?_) (fun _ => ?_)
      · exact hx8
      · exact State_raise_within (sub_trans rfl hk) hx8

theorem State_stnRelease_within {k : Nat} {s0 : State} {a0 : State} {a1 : _} {a2 : _} {a3 : _} (hk : 402654469 &&& k = 402654469) (h : Within k s0 a0) : Within k s0 (State.stnRelease a0 a1 a2 a3) := by
  unfold Sys2Proof.Machine.State.stnRelease
  split
  · exact h
  · refine Within.ite (fun _ => ?_) (fun _ => ?_)
    · exact h
    · split
      · exact State_stnPresent_within (sub_trans rfl hk) h
      · exact State_stnMiss_within (sub_trans rfl hk) h

theorem State_groupHold_within {k : Nat} {s0 : State} {a0 : State} {a1 : _} (hk : 1285 &&& k = 1285) (h : Within k s0 a0) : Within k s0 (State.groupHold a0 a1) := by
  unfold Sys2Proof.Machine.State.groupHold
  extract_lets -underBinder +onlyGivenNames x1
  try clear_value x1
  extract_lets -underBinder +onlyGivenNames x2
  try clear_value x2
  extract_lets -underBinder +onlyGivenNames x3
  try clear_value x3
  extract_lets -underBinder +onlyGivenNames x4
  try clear_value x4
  extract_lets -underBinder +onlyGivenNames x5
  try clear_value x5
  extract_lets -underBinder +onlyGivenNames x6
  try clear_value x6
  extract_lets -underBinder +onlyGivenNames x7
  have hx7 : Within k s0 x7 := by
    refine Within.foldl (fun t8 _ ht8 => ?_) _ ?_
    · exact State_setFlag_within (sub_trans rfl hk) ht8
    · exact State_setFlag_within (sub_trans rfl hk) h
  try clear_value x7
  refine Within.ite (fun _ => ?_) (fun _ => ?_)
  · exact State_raise_within (sub_trans rfl hk) hx7
  · exact hx7

theorem State_stnOutputs_within {k : Nat} {s0 : State} {a0 : State} {a1 : _} {a2 : _} {a3 : _} (hk : 134743301 &&& k = 134743301) (h : Within k s0 a0) : Within k s0 (State.stnOutputs a0 a1 a2 a3) := by
  unfold Sys2Proof.Machine.State.stnOutputs
  extract_lets -underBinder +onlyGivenNames x1
  try clear_value x1
  extract_lets -underBinder +onlyGivenNames x2
  have hx2 : Within k s0 x2.2 := by
    exact State_takeSinks_within2 (sub_trans rfl hk) h
  try clear_value x2
  split
  · exact State_setStation_within (sub_trans rfl hk) hx2
  · exact hx2

theorem State_stnsOf_within {k : Nat} {s0 : State} {a0 : State} {a1 : _} {a2 : _} (hk : 402654469 &&& k = 402654469) (h : Within k s0 a0) : Within k s0 (State.stnsOf a0 a1 a2) := by
  unfold Sys2Proof.Machine.State.stnsOf
  split
  · exact h
  · extract_lets -underBinder +onlyGivenNames x1
    try clear_value x1
    refine Within.ite (fun _ => ?_) (fun _ => ?_)
    · exact h
    · extract_lets -underBinder +onlyGivenNames x2
      have hx2 : Within k s0 x2 := by
        refine Within.foldl (fun t3 _ ht3 => ?_) _ ?_
        · exact State_stnRelease_within (sub_trans rfl hk) ht3
        · exact h
      try clear_value x2
      refine Within.foldl (fun t4 _ ht4 => ?_) _ ?_
      · exact State_groupHold_within (sub_trans rfl hk) ht4
      · exact hx2

theorem State_stnsAt_within {k : Nat} {s0 : State} {a0 : State} {a1 : _} (hk : 402654469 &&& k = 402654469) (h : Within k s0 a0) : Within k s0 (State.stnsAt a0 a1) := by
  unfold Sys2Proof.Machine.State.stnsAt
  refine State_escExpire_within (sub_trans rfl hk) ?_
  refine Within.foldl (fun t1 _ ht1 => ?_) _ ?_
  · exact State_stnsOf_within (sub_trans rfl hk) ht1
  · exact h

theorem State_stnValues_within2 {k : Nat} {s0 : State} {a0 : State} {a1 : _} {a2 : _} {a3 : _} {a4 : _} (hk : 525573 &&& k = 525573) (h : Within k s0 a0) : Within k s0 (State.stnValues a0 a1 a2 a3 a4).2 := by
  unfold Sys2Proof.Machine.State.stnValues
  extract_lets -underBinder +onlyGivenNames x1
  try clear_value x1
  extract_lets -underBinder +onlyGivenNames x2
  have hx2 : Within k s0 x2.2 := by
    exact State_commitSinks_within2 (sub_trans rfl hk) h
  try clear_value x2
  exact hx2

theorem State_canPend_within {k : Nat} {s0 : State} {a0 : State} {a1 : _} {a2 : _} (hk : 4194305 &&& k = 4194305) (h : Within k s0 a0) : Within k s0 (State.canPend a0 a1 a2) := by
  unfold Sys2Proof.Machine.State.canPend
  extract_lets -underBinder +onlyGivenNames x1
  try clear_value x1
  extract_lets -underBinder +onlyGivenNames x2
  have hx2 : Within k s0 x2 := by
    unfold x2
    refine Within.ite (fun _ => ?_) (fun _ => ?_)
    · exact State_bump_within (sub_trans rfl hk) h
    · exact h
  try clear_value x2
  extract_lets -underBinder +onlyGivenNames x3
  have hx3 : Within k s0 x3 := by
    exact State_setCan_within (sub_trans rfl hk) hx2
  try clear_value x3
  exact State_canShowPend_within (sub_trans rfl hk) hx3

theorem State_stnOut_within {k : Nat} {s0 : State} {a0 : State} {a1 : _} {a2 : _} {a3 : _} (hk : 137577891077 &&& k = 137577891077) (h : Within k s0 a0) : Within k s0 (State.stnOut a0 a1 a2 a3) := by
  unfold Sys2Proof.Machine.State.stnOut
  split
  · exact h
  · extract_lets -underBinder +onlyGivenNames x1
    have hx1 : Within k s0 x1.2 := by
      exact State_stnValues_within2 (sub_trans rfl hk) h
    try clear_value x1
    extract_lets -underBinder +onlyGivenNames x2
    have hx2 : Within k s0 x2 := by
      exact hx1
    try clear_value x2
    extract_lets -underBinder +onlyGivenNames x3
    try clear_value x3
    extract_lets -underBinder +onlyGivenNames x4
    try clear_value x4
    extract_lets -underBinder +onlyGivenNames x5
    try clear_value x5
    extract_lets -underBinder +onlyGivenNames x6
    try clear_value x6
    refine Within.ite (fun _ => ?_) (fun _ => ?_)
    · exact State_setStation_within (sub_trans rfl hk) hx2
    · extract_lets -underBinder +onlyGivenNames x7
      try clear_value x7
      refine Within.ite (fun _ => ?_) (fun _ => ?_)
      · extract_lets -underBinder +onlyGivenNames x8
        try clear_value x8
        extract_lets -underBinder +onlyGivenNames x9
        have hx9 : Within k s0 x9 := by
          exact State_setStation_within (sub_trans rfl hk) hx2
        try clear_value x9
        extract_lets -underBinder +onlyGivenNames x10
        try clear_value x10
        refine Within.ite (fun _ => ?_) (fun _ => ?_)
        · exact State_send_within (sub_trans rfl hk) hx9
        · exact hx9
      · extract_lets -underBinder +onlyGivenNames x11
        have hx11 : Within k s0 x11 := by
          exact State_setStation_within (sub_trans rfl hk) hx2
        try clear_value x11
        split
        · exact State_canPend_within (sub_trans rfl hk) hx11
        · exact hx11

theorem State_stnOuts_within {k : Nat} {s0 : State} {a0 : State} {a1 : _} {a2 : _} {a3 : _} (hk : 137577891077 &&& k = 137577891077) (h : Within k s0 a0) : Within k s0 (State.stnOuts a0 a1 a2 a3) := by
  unfold Sys2Proof.Machine.State.stnOuts
  refine Within.foldl (fun t1 _ ht1 => ?_) _ ?_
  · exact State_stnOut_within (sub_trans rfl hk) ht1
  · exact h

theorem State_canRelease_within {k : Nat} {s0 : State} {a0 : State} {a1 : _} {a2 : _} {a3 : _} (hk : 4719877 &&& k = 4719877) (h : Within k s0 a0) : Within k s0 (State.canRelease a0 a1 a2 a3) := by
  unfold Sys2Proof.Machine.State.canRelease
  extract_lets -underBinder +onlyGivenNames x1
  have hx1 : Within k s0 x1.2 := by
    exact State_takeSinks_within2 (sub_trans rfl hk) h
  try clear_value x1
  extract_lets -underBinder +onlyGivenNames x2
  try clear_value x2
  exact State_setCan_within (sub_trans rfl hk) hx1

theorem State_canForm_within {k : Nat} {s0 : State} {a0 : State} {a1 : _} {a2 : _} {a3 : _} {a4 : _} (hk : 4719877 &&& k = 4719877) (h : Within k s0 a0) : Within k s0 (State.canForm a0 a1 a2 a3 a4) := by
  unfold Sys2Proof.Machine.State.canForm
  extract_lets -underBinder +onlyGivenNames x1
  try clear_value x1
  extract_lets -underBinder +onlyGivenNames x2
  have hx2 : Within k s0 x2.2 := by
    exact State_commitSinks_within2 (sub_trans rfl hk) h
  try clear_value x2
  extract_lets -underBinder +onlyGivenNames x3
  try clear_value x3
  extract_lets -underBinder +onlyGivenNames x4
  try clear_value x4
  extract_lets -underBinder +onlyGivenNames x5
  try clear_value x5
  exact State_canPend_within (sub_trans rfl hk) hx2

theorem State_canEsc_within {k : Nat} {s0 : State} {a0 : State} {a1 : _} (hk : 4194305 &&& k = 4194305) (h : Within k s0 a0) : Within k s0 (State.canEsc a0 a1) := by
  unfold Sys2Proof.Machine.State.canEsc
  split
  · exact State_canPend_within (sub_trans rfl hk) h
  · exact h

theorem State_canForms_within {k : Nat} {s0 : State} {a0 : State} {a1 : _} {a2 : _} {a3 : _} (hk : 4719877 &&& k = 4719877) (h : Within k s0 a0) : Within k s0 (State.canForms a0 a1 a2 a3) := by
  unfold Sys2Proof.Machine.State.canForms
  extract_lets -underBinder +onlyGivenNames x1
  have hx1 : Within k s0 x1 := by
    refine Within.foldl (fun t2 _ ht2 => ?_) _ ?_
    · exact State_canForm_within (sub_trans rfl hk) ht2
    · exact h
  try clear_value x1
  refine Within.ite (fun _ => ?_) (fun _ => ?_)
  · refine Within.foldl (fun t3 _ ht3 => ?_) _ ?_
    · exact State_canEsc_within (sub_trans rfl hk) ht3
    · exact hx1
  · exact hx1

end Sys2Proof.Laws
end

