-- ==== Sys2Proof/Laws/WithinCanRemote.lean ====
section
/-! SUPPORT. What each operation of Machine/CanRemote.lean can do to the state (see Laws/Within.lean). -/

/- One thread: elaborating these many small proofs side by side can exceed the memory that check.sh allows. -/
set_option Elab.async false

namespace Sys2Proof.Laws
open Sys2Proof Sys2Proof.Machine

theorem State_escFromCan_within {k : Nat} {s0 : State} {a0 : State} {a1 : _} {a2 : _} {a3 : _} (hk : 268436741 &&& k = 268436741) (h : Within k s0 a0) : Within k s0 (State.escFromCan a0 a1 a2 a3) := by
  unfold Sys2Proof.Machine.State.escFromCan
  refine Within.foldl (fun t1 _ ht1 => ?_) _ ?_
  · exact State_escJudge_within (sub_trans rfl hk) ht1
  · exact h

theorem canFrame_within {k : Nat} {s0 : State} {a0 : _} {a1 : _} {a2 : _} {a3 : _} {a4 : _} {a5 : State} (hk : 275150540039 &&& k = 275150540039) (h : Within k s0 a5) : Within k s0 (canFrame a0 a1 a2 a3 a4 a5) := by
  unfold Sys2Proof.Machine.canFrame
  extract_lets -underBinder +onlyGivenNames x1
  try clear_value x1
  extract_lets -underBinder +onlyGivenNames x2
  have hx2 : Within k s0 x2 := by
    exact State_canReceive_within (sub_trans rfl hk) h
  try clear_value x2
  split
  · refine Within.ite (fun _ => ?_) (fun _ => ?_)
    · exact State_escFromCan_within (sub_trans rfl hk) hx2
    · exact hx2
  · exact hx2

theorem execCanFrameReceived_within {k : Nat} {s0 t : State} {a0 : _} {a1 : _} {a2 : _} {a3 : _} {a4 : _} {a5 : State} (hk : 275150540039 &&& k = 275150540039) (h : Within k s0 a5) (e : execCanFrameReceived a0 a1 a2 a3 a4 a5 = .next t) : Within k s0 t := by
  unfold Sys2Proof.Machine.execCanFrameReceived at e
  cases e
  exact canFrame_within (sub_trans rfl hk) h

theorem ttReference_within {k : Nat} {s0 : State} {a0 : _} {a1 : _} {a2 : State} (hk : 4195645 &&& k = 4195645) (h : Within k s0 a2) : Within k s0 (ttReference a0 a1 a2) := by
  unfold Sys2Proof.Machine.ttReference
  split
  · refine Within.ite (fun _ => ?_) (fun _ => ?_)
    · exact h
    · extract_lets -underBinder +onlyGivenNames x1
      try clear_value x1
      extract_lets -underBinder +onlyGivenNames x2
      have hx2 : Within k s0 x2 := by
        exact State_setCan_within (sub_trans rfl hk) (State_toTime_within (sub_trans rfl hk) h)
      try clear_value x2
      extract_lets -underBinder +onlyGivenNames x3
      have hx3 : Within k s0 x3 := by
        exact State_canStart_within (sub_trans rfl hk) hx2
      try clear_value x3
      refine Within.ite (fun _ => ?_) (fun _ => ?_)
      · exact State_raise_within (sub_trans rfl hk) (State_bump_within (sub_trans rfl hk) hx3)
      · exact hx3
  · exact h

theorem execTtcanReference_within {k : Nat} {s0 t : State} {a0 : _} {a1 : _} {a2 : State} (hk : 4195645 &&& k = 4195645) (h : Within k s0 a2) (e : execTtcanReference a0 a1 a2 = .next t) : Within k s0 t := by
  unfold Sys2Proof.Machine.execTtcanReference at e
  cases e
  exact ttReference_within (sub_trans rfl hk) h

theorem ttWindow_within {k : Nat} {s0 : State} {a0 : _} {a1 : _} {a2 : _} {a3 : State} (hk : 274882104639 &&& k = 274882104639) (h : Within k s0 a3) : Within k s0 (ttWindow a0 a1 a2 a3) := by
  unfold Sys2Proof.Machine.ttWindow
  split
  · refine Within.ite (fun _ => ?_) (fun _ => ?_)
    · exact h
    · extract_lets -underBinder +onlyGivenNames x1
      have hx1 : Within k s0 x1 := by
        exact State_toTime_within (sub_trans rfl hk) h
      try clear_value x1
      refine Within.ite (fun _ => ?_) (fun _ => ?_)
      · exact State_canStart_within (sub_trans rfl hk) hx1
      · extract_lets -underBinder +onlyGivenNames x2
        try clear_value x2
        exact State_canFail_within (sub_trans rfl hk) (State_setCan_within (sub_trans rfl hk) hx1)
  · exact h

theorem execTtcanWindow_within {k : Nat} {s0 t : State} {a0 : _} {a1 : _} {a2 : _} {a3 : State} (hk : 274882104639 &&& k = 274882104639) (h : Within k s0 a3) (e : execTtcanWindow a0 a1 a2 a3 = .next t) : Within k s0 t := by
  unfold Sys2Proof.Machine.execTtcanWindow at e
  cases e
  exact ttWindow_within (sub_trans rfl hk) h

end Sys2Proof.Laws
end

