-- ==== Sys2Proof/Laws/WithinMemory.lean ====
section
/-! SUPPORT. What each operation of Machine/Memory.lean can do to the state (see Laws/Within.lean). -/

/- One thread: elaborating these many small proofs side by side can exceed the memory that check.sh allows. -/
set_option Elab.async false

namespace Sys2Proof.Laws
open Sys2Proof Sys2Proof.Machine

theorem State_sramNote_within {k : Nat} {s0 : State} {a0 : State} {a1 : _} {a2 : _} {a3 : _} {a4 : _} (hk : 1 &&& k = 1) (h : Within k s0 a0) : Within k s0 (State.sramNote a0 a1 a2 a3 a4) := by
  unfold Sys2Proof.Machine.State.sramNote
  exact State_setReg_within (sub_trans rfl hk) (State_setReg_within (sub_trans rfl hk) h)

theorem State_mramNote_within {k : Nat} {s0 : State} {a0 : State} {a1 : _} {a2 : _} {a3 : _} {a4 : _} (hk : 1 &&& k = 1) (h : Within k s0 a0) : Within k s0 (State.mramNote a0 a1 a2 a3 a4) := by
  unfold Sys2Proof.Machine.State.mramNote
  exact State_setReg_within (sub_trans rfl hk) (State_setReg_within (sub_trans rfl hk) h)

theorem State_sramEcc_within {k : Nat} {s0 : State} {a0 : State} {a1 : _} {a2 : _} {a3 : _} (hk : 447755685127 &&& k = 447755685127) (h : Within k s0 a0) : Within k s0 (State.sramEcc a0 a1 a2 a3) := by
  unfold Sys2Proof.Machine.State.sramEcc
  split
  · exact h
  · exact State_raise_within (sub_trans rfl hk) (State_bump_within (sub_trans rfl hk) (State_sramNote_within (sub_trans rfl hk) h))
  · exact State_unitFault_within (sub_trans rfl hk) (State_raise_within (sub_trans rfl hk) (State_bump_within (sub_trans rfl hk) (State_sramNote_within (sub_trans rfl hk) h)))

theorem State_mramEcc_within {k : Nat} {s0 : State} {a0 : State} {a1 : _} {a2 : _} {a3 : _} (hk : 1285 &&& k = 1285) (h : Within k s0 a0) : Within k s0 (State.mramEcc a0 a1 a2 a3) := by
  unfold Sys2Proof.Machine.State.mramEcc
  split
  · exact h
  · exact State_raise_within (sub_trans rfl hk) (State_bump_within (sub_trans rfl hk) (State_mramNote_within (sub_trans rfl hk) h))
  · exact State_raise_within (sub_trans rfl hk) (State_bump_within (sub_trans rfl hk) (State_mramNote_within (sub_trans rfl hk) h))

theorem State_memEcc_within {k : Nat} {s0 : State} {a0 : State} {a1 : _} {a2 : _} {a3 : _} (hk : 447755685127 &&& k = 447755685127) (h : Within k s0 a0) : Within k s0 (State.memEcc a0 a1 a2 a3) := by
  unfold Sys2Proof.Machine.State.memEcc
  refine Within.ite (fun _ => ?_) (fun _ => ?_)
  · exact State_sramEcc_within (sub_trans rfl hk) h
  · refine Within.ite (fun _ => ?_) (fun _ => ?_)
    · exact State_mramEcc_within (sub_trans rfl hk) h
    · exact h

theorem State_startEcc_within {k : Nat} {s0 : State} {a0 : State} {a1 : _} (hk : 1285 &&& k = 1285) (h : Within k s0 a0) : Within k s0 (State.startEcc a0 a1) := by
  unfold Sys2Proof.Machine.State.startEcc
  split
  · exact State_mramEcc_within (sub_trans rfl hk) h
  · exact h

theorem execScrubRead_within {k : Nat} {s0 t : State} {a0 : _} {a1 : _} {a2 : _} {a3 : State} (hk : 447755685127 &&& k = 447755685127) (h : Within k s0 a3) (e : execScrubRead a0 a1 a2 a3 = .next t) : Within k s0 t := by
  unfold Sys2Proof.Machine.execScrubRead at e
  cases e
  extract_lets -underBinder +onlyGivenNames x1
  have hx1 : Within k s0 x1 := by
    unfold x1
    refine Within.ite (fun _ => ?_) (fun _ => ?_)
    · exact State_sramEcc_within (sub_trans rfl hk) h
    · exact h
  try clear_value x1
  refine Within.ite (fun _ => ?_) (fun _ => ?_)
  · exact State_raise_within (sub_trans rfl hk) (State_bump_within (sub_trans rfl hk) hx1)
  · exact hx1

theorem execMramScrubRead_within {k : Nat} {s0 t : State} {a0 : _} {a1 : _} {a2 : _} {a3 : State} (hk : 1285 &&& k = 1285) (h : Within k s0 a3) (e : execMramScrubRead a0 a1 a2 a3 = .next t) : Within k s0 t := by
  unfold Sys2Proof.Machine.execMramScrubRead at e
  cases e
  extract_lets -underBinder +onlyGivenNames x1
  have hx1 : Within k s0 x1 := by
    unfold x1
    refine Within.ite (fun _ => ?_) (fun _ => ?_)
    · exact State_mramEcc_within (sub_trans rfl hk) h
    · exact h
  try clear_value x1
  exact State_setFld_within (sub_trans rfl hk) hx1

theorem State_snapshotG_within {k : Nat} {s0 : State} {a0 : State} {a1 : _} (hk : 258 &&& k = 258) (h : Within k s0 a0) : Within k s0 (State.snapshotG a0 a1) := by
  unfold Sys2Proof.Machine.State.snapshotG
  extract_lets -underBinder +onlyGivenNames x1
  try clear_value x1
  extract_lets -underBinder +onlyGivenNames x2
  try clear_value x2
  extract_lets -underBinder +onlyGivenNames x3
  try clear_value x3
  extract_lets -underBinder +onlyGivenNames x4
  try clear_value x4
  extract_lets -underBinder +onlyGivenNames x5
  try clear_value x5
  extract_lets -underBinder +onlyGivenNames x6
  have hx6 : Within k s0 x6 := by
    exact State_wrBytes_within (sub_trans rfl hk) h
  try clear_value x6
  extract_lets -underBinder +onlyGivenNames x7
  have hx7 : Within k s0 x7 := by
    exact State_wrBytes_within (sub_trans rfl hk) hx6
  try clear_value x7
  exact Within.set_cpm (sub_trans rfl hk) hx7

end Sys2Proof.Laws
end

