-- ==== Sys2Proof/Laws/WithinPower.lean ====
section
/-! SUPPORT. What each operation of Machine/Power.lean can do to the state (see Laws/Within.lean). -/

/- One thread: elaborating these many small proofs side by side can exceed the memory that check.sh allows. -/
set_option Elab.async false

namespace Sys2Proof.Laws
open Sys2Proof Sys2Proof.Machine

theorem State_restart_within {k : Nat} {s0 s : State} {c : RstCause} (hk : 549755813887 &&& k = 549755813887) (h : Within k s0 s) :
    Within k s0 (s.restart c) := by
  unfold State.restart
  extract_lets +onlyGivenNames keep
  clear_value keep
  extract_lets +onlyGivenNames src1 src2 src3 z
  have hz : Within k s0 z :=
    h.prim hk (Within.mk rfl (Sparse.wf_filter _ _ _) (Sparse.wf_filter _ _ _) (Nat.le_of_eq rfl) (List.prefix_refl _) (Nat.le_of_eq rfl) (fun _ => ⟨rfl, rfl, rfl, rfl, rfl⟩))
  clear_value z
  exact State_setFld_within (sub_trans rfl hk) (State_setFld_within (sub_trans rfl hk) (State_setFlag_within (sub_trans rfl hk)
    (State_setFld_within (sub_trans rfl hk) (State_setFld_within (sub_trans rfl hk) hz))))

theorem State_vsup_within {k : Nat} {s0 : State} {a0 : State} {a1 : _} (hk : 1 &&& k = 1) (h : Within k s0 a0) : Within k s0 (State.vsup a0 a1) := by
  unfold Sys2Proof.Machine.State.vsup
  exact State_setFld_within (sub_trans rfl hk) h

theorem execSupplyLow_within {k : Nat} {s0 t : State} {a0 : _} {a1 : State} (hk : 1285 &&& k = 1285) (h : Within k s0 a1) (e : execSupplyLow a0 a1 = .next t) : Within k s0 t := by
  unfold Sys2Proof.Machine.execSupplyLow at e
  cases e
  exact State_raise_within (sub_trans rfl hk) (State_setFlag_within (sub_trans rfl hk) (State_setFld_within (sub_trans rfl hk) (State_vsup_within (sub_trans rfl hk) h)))

theorem execSupplyOver_within {k : Nat} {s0 s t : State} {v : BitVec 10} (hk : 1285 &&& k = 1285) (h : Within k s0 s)
    (e : execSupplyOver v s = .next t) : Within k s0 t := by
  unfold execSupplyOver at e
  split at e
  · cases e
  · cases e
    exact State_raise_within (sub_trans rfl hk) (State_setFlag_within (sub_trans rfl hk) (State_setFld_within (sub_trans rfl hk)
      (State_vsup_within (sub_trans rfl hk) h)))

theorem execSupplyNormal_within {k : Nat} {s0 t : State} {a0 : _} {a1 : State} (hk : 1 &&& k = 1) (h : Within k s0 a1) (e : execSupplyNormal a0 a1 = .next t) : Within k s0 t := by
  unfold Sys2Proof.Machine.execSupplyNormal at e
  cases e
  exact State_setFld_within (sub_trans rfl hk) (State_vsup_within (sub_trans rfl hk) h)

theorem supplyReturn_within {k : Nat} {s0 : State} {a0 : _} {a1 : _} {a2 : State} (hk : 1285 &&& k = 1285) (h : Within k s0 a2) : Within k s0 (supplyReturn a0 a1 a2) := by
  unfold Sys2Proof.Machine.supplyReturn
  refine Within.ite (fun _ => ?_) (fun _ => ?_)
  · extract_lets -underBinder +onlyGivenNames x1
    have hx1 : Within k s0 x1 := by
      exact State_setFld_within (sub_trans rfl hk) (State_vsup_within (sub_trans rfl hk) h)
    try clear_value x1
    extract_lets -underBinder +onlyGivenNames x2
    have hx2 : Within k s0 x2 := by
      exact State_raise_within (sub_trans rfl hk) (State_setFld_within (sub_trans rfl hk) hx1)
    try clear_value x2
    exact Within.set_cpm (sub_trans rfl hk) hx2
  · exact h

theorem execSupplyReturn_within {k : Nat} {s0 t : State} {a0 : _} {a1 : _} {a2 : State} (hk : 1285 &&& k = 1285) (h : Within k s0 a2) (e : execSupplyReturn a0 a1 a2 = .next t) : Within k s0 t := by
  unfold Sys2Proof.Machine.execSupplyReturn at e
  cases e
  exact supplyReturn_within (sub_trans rfl hk) h

theorem slotCodeChange_within {k : Nat} {s0 : State} {a0 : _} {a1 : State} (hk : 1285 &&& k = 1285) (h : Within k s0 a1) : Within k s0 (slotCodeChange a0 a1) := by
  unfold Sys2Proof.Machine.slotCodeChange
  extract_lets -underBinder +onlyGivenNames x1
  try clear_value x1
  extract_lets -underBinder +onlyGivenNames x2
  have hx2 : Within k s0 x2 := by
    exact Within.set_cpm (sub_trans rfl hk) h
  try clear_value x2
  refine Within.ite (fun _ => ?_) (fun _ => ?_)
  · exact hx2
  · exact State_raise_within (sub_trans rfl hk) (State_setFlag_within (sub_trans rfl hk) hx2)

theorem execSlotCodeChange_within {k : Nat} {s0 t : State} {a0 : _} {a1 : State} (hk : 1285 &&& k = 1285) (h : Within k s0 a1) (e : execSlotCodeChange a0 a1 = .next t) : Within k s0 t := by
  unfold Sys2Proof.Machine.execSlotCodeChange at e
  cases e
  exact slotCodeChange_within (sub_trans rfl hk) h

theorem ioscTrim_within {k : Nat} {s0 : State} {a0 : _} {a1 : State} (hk : 1285 &&& k = 1285) (h : Within k s0 a1) : Within k s0 (ioscTrim a0 a1) := by
  unfold Sys2Proof.Machine.ioscTrim
  refine Within.ite (fun _ => ?_) (fun _ => ?_)
  · extract_lets -underBinder +onlyGivenNames x1
    have hx1 : Within k s0 x1 := by
      exact State_setFld_within (sub_trans rfl hk) h
    try clear_value x1
    refine Within.ite (fun _ => ?_) (fun _ => ?_)
    · exact State_setFlag_within (sub_trans rfl hk) hx1
    · extract_lets -underBinder +onlyGivenNames x2
      have hx2 : Within k s0 x2 := by
        exact State_setFlag_within (sub_trans rfl hk) hx1
      try clear_value x2
      extract_lets -underBinder +onlyGivenNames x3
      try clear_value x3
      extract_lets -underBinder +onlyGivenNames x4
      try clear_value x4
      extract_lets -underBinder +onlyGivenNames x5
      have hx5 : Within k s0 x5 := by
        exact State_setFld_within (sub_trans rfl hk) hx2
      try clear_value x5
      refine Within.ite (fun _ => ?_) (fun _ => ?_)
      · exact State_raise_within (sub_trans rfl hk) hx5
      · exact hx5
  · exact h

theorem execIoscTrim_within {k : Nat} {s0 t : State} {a0 : _} {a1 : State} (hk : 1285 &&& k = 1285) (h : Within k s0 a1) (e : execIoscTrim a0 a1 = .next t) : Within k s0 t := by
  unfold Sys2Proof.Machine.execIoscTrim at e
  cases e
  exact ioscTrim_within (sub_trans rfl hk) h

theorem xt32Check_within {k : Nat} {s0 : State} {a0 : _} {a1 : State} (hk : 1285 &&& k = 1285) (h : Within k s0 a1) : Within k s0 (xt32Check a0 a1) := by
  unfold Sys2Proof.Machine.xt32Check
  refine Within.ite (fun _ => ?_) (fun _ => ?_)
  · exact h
  · exact State_raise_within (sub_trans rfl hk) (State_setFlag_within (sub_trans rfl hk) (State_setFlag_within (sub_trans rfl hk) (State_setFlag_within (sub_trans rfl hk) h)))

theorem execXt32Check_within {k : Nat} {s0 t : State} {a0 : _} {a1 : State} (hk : 1285 &&& k = 1285) (h : Within k s0 a1) (e : execXt32Check a0 a1 = .next t) : Within k s0 t := by
  unfold Sys2Proof.Machine.execXt32Check at e
  cases e
  exact xt32Check_within (sub_trans rfl hk) h

theorem fmStart_within {k : Nat} {s0 : State} {a0 : _} {a1 : _} {a2 : State} (hk : 1413 &&& k = 1413) (h : Within k s0 a2) : Within k s0 (fmStart a0 a1 a2) := by
  unfold Sys2Proof.Machine.fmStart
  refine Within.ite (fun _ => ?_) (fun _ => ?_)
  · exact State_denyWrite_within (sub_trans rfl hk) h
  · extract_lets -underBinder +onlyGivenNames x1
    have hx1 : Within k s0 x1 := by
      exact State_setFld_within (sub_trans rfl hk) (State_setFld_within (sub_trans rfl hk) (State_setFld_within (sub_trans rfl hk) h))
    try clear_value x1
    refine Within.ite (fun _ => ?_) (fun _ => ?_)
    · extract_lets -underBinder +onlyGivenNames x2
      have hx2 : Within k s0 x2 := by
        exact State_setFlag_within (sub_trans rfl hk) (State_setFlag_within (sub_trans rfl hk) hx1)
      try clear_value x2
      exact Within.set_cpm (sub_trans rfl hk) hx2
    · exact hx1

theorem execFmStart_within {k : Nat} {s0 t : State} {a0 : _} {a1 : _} {a2 : State} (hk : 1413 &&& k = 1413) (h : Within k s0 a2) (e : execFmStart a0 a1 a2 = .next t) : Within k s0 t := by
  unfold Sys2Proof.Machine.execFmStart at e
  cases e
  exact fmStart_within (sub_trans rfl hk) h

theorem fmDone_within {k : Nat} {s0 : State} {a0 : _} {a1 : State} (hk : 1285 &&& k = 1285) (h : Within k s0 a1) : Within k s0 (fmDone a0 a1) := by
  unfold Sys2Proof.Machine.fmDone
  refine Within.ite (fun _ => ?_) (fun _ => ?_)
  · extract_lets -underBinder +onlyGivenNames x1
    have hx1 : Within k s0 x1 := by
      exact State_setFlag_within (sub_trans rfl hk) (State_setFld_within (sub_trans rfl hk) h)
    try clear_value x1
    exact State_raise_within (sub_trans rfl hk) (State_setFlag_within (sub_trans rfl hk) (Within.set_cpm (sub_trans rfl hk) hx1))
  · exact h

theorem execFmDone_within {k : Nat} {s0 t : State} {a0 : _} {a1 : State} (hk : 1285 &&& k = 1285) (h : Within k s0 a1) (e : execFmDone a0 a1 = .next t) : Within k s0 t := by
  unfold Sys2Proof.Machine.execFmDone at e
  cases e
  exact fmDone_within (sub_trans rfl hk) h

theorem State_saveAlwaysOn_within {k : Nat} {s0 : State} {a0 : State} (hk : 256 &&& k = 256) (h : Within k s0 a0) : Within k s0 (State.saveAlwaysOn a0) := by
  unfold Sys2Proof.Machine.State.saveAlwaysOn
  exact Within.set_cpm (sub_trans rfl hk) h

theorem execAlwaysOnSave_within {k : Nat} {s0 t : State} {a0 : State} (hk : 313 &&& k = 313) (h : Within k s0 a0) (e : execAlwaysOnSave a0 = .next t) : Within k s0 t := by
  unfold Sys2Proof.Machine.execAlwaysOnSave at e
  cases e
  exact State_saveAlwaysOn_within (sub_trans rfl hk) (State_bumpOnly_within (sub_trans rfl hk) (State_toMono_within (sub_trans rfl hk) h))

theorem State_haltRequest_within {k : Nat} {s0 : State} {a0 : State} (hk : 447755685127 &&& k = 447755685127) (h : Within k s0 a0) : Within k s0 (State.haltRequest a0) := by
  unfold Sys2Proof.Machine.State.haltRequest
  exact State_unitFault_within (sub_trans rfl hk) h

theorem cpmCtrl_within {k : Nat} {s0 : State} {a0 : _} {a1 : _} {a2 : State} (hk : 1099511627775 &&& k = 1099511627775) (h : Within k s0 a2) : Within k s0 (cpmCtrl a0 a1 a2) := by
  unfold Sys2Proof.Machine.cpmCtrl
  refine Within.ite (fun _ => ?_) (fun _ => ?_)
  · exact State_denyWrite_within (sub_trans rfl hk) h
  · refine Within.ite (fun _ => ?_) (fun _ => ?_)
    · exact h
    · refine Within.ite (fun _ => ?_) (fun _ => ?_)
      · exact State_restart_within (sub_trans rfl hk) h
      · refine Within.ite (fun _ => ?_) (fun _ => ?_)
        · exact State_haltRequest_within (sub_trans rfl hk) h
        · exact h

theorem execCpmRestart_within {k : Nat} {s0 t : State} {a0 : _} {a1 : _} {a2 : State} (hk : 1099511627775 &&& k = 1099511627775) (h : Within k s0 a2) (e : execCpmRestart a0 a1 a2 = .next t) : Within k s0 t := by
  unfold Sys2Proof.Machine.execCpmRestart at e
  cases e
  exact cpmCtrl_within (sub_trans rfl hk) h

theorem execHaltReq_within {k : Nat} {s0 t : State} {a0 : _} {a1 : _} {a2 : State} (hk : 1099511627775 &&& k = 1099511627775) (h : Within k s0 a2) (e : execHaltReq a0 a1 a2 = .next t) : Within k s0 t := by
  unfold Sys2Proof.Machine.execHaltReq at e
  cases e
  exact cpmCtrl_within (sub_trans rfl hk) h

theorem clkdivWrite_within {k : Nat} {s0 : State} {a0 : _} {a1 : _} {a2 : State} (hk : 1413 &&& k = 1413) (h : Within k s0 a2) : Within k s0 (clkdivWrite a0 a1 a2) := by
  unfold Sys2Proof.Machine.clkdivWrite
  extract_lets -underBinder +onlyGivenNames x1
  have hx1 : Within k s0 x1 := by
    exact State_setFlag_within (sub_trans rfl hk) h
  try clear_value x1
  refine Within.ite (fun _ => ?_) (fun _ => ?_)
  · exact hx1
  · exact State_denyWrite_within (sub_trans rfl hk) hx1

theorem execClkdivWrite_within {k : Nat} {s0 t : State} {a0 : _} {a1 : _} {a2 : State} (hk : 1413 &&& k = 1413) (h : Within k s0 a2) (e : execClkdivWrite a0 a1 a2 = .next t) : Within k s0 t := by
  unfold Sys2Proof.Machine.execClkdivWrite at e
  cases e
  exact clkdivWrite_within (sub_trans rfl hk) h

theorem execPairIdleEnter_within {k : Nat} {s0 t : State} {a0 : _} {a1 : State} (hk : 1 &&& k = 1) (h : Within k s0 a1) (e : execPairIdleEnter a0 a1 = .next t) : Within k s0 t := by
  unfold Sys2Proof.Machine.execPairIdleEnter at e
  cases e
  refine Within.ite (fun _ => ?_) (fun _ => ?_)
  · exact h
  · exact State_setFlag_within (sub_trans rfl hk) h

theorem dozeWake_within {k : Nat} {s0 : State} {a0 : State} (hk : 312 &&& k = 312) (h : Within k s0 a0) : Within k s0 (dozeWake a0) := by
  unfold Sys2Proof.Machine.dozeWake
  refine Within.ite (fun _ => ?_) (fun _ => ?_)
  · extract_lets -underBinder +onlyGivenNames x1
    have hx1 : Within k s0 x1 := by
      unfold x1
      split
      · exact State_toTime_within (sub_trans rfl hk) h
      · exact h
    try clear_value x1
    exact Within.set_cpm (sub_trans rfl hk) hx1
  · exact h

theorem execDozeWake_within {k : Nat} {s0 t : State} {a0 : State} (hk : 312 &&& k = 312) (h : Within k s0 a0) (e : execDozeWake a0 = .next t) : Within k s0 t := by
  unfold Sys2Proof.Machine.execDozeWake at e
  cases e
  exact dozeWake_within (sub_trans rfl hk) h

theorem dozePllLock_within {k : Nat} {s0 : State} {a0 : State} (hk : 257 &&& k = 257) (h : Within k s0 a0) : Within k s0 (dozePllLock a0) := by
  unfold Sys2Proof.Machine.dozePllLock
  refine Within.ite (fun _ => ?_) (fun _ => ?_)
  · extract_lets -underBinder +onlyGivenNames x1
    have hx1 : Within k s0 x1 := by
      exact State_setFlag_within (sub_trans rfl hk) (State_setFld_within (sub_trans rfl hk) h)
    try clear_value x1
    exact Within.set_cpm (sub_trans rfl hk) hx1
  · exact h

theorem execDozePllLock_within {k : Nat} {s0 t : State} {a0 : State} (hk : 257 &&& k = 257) (h : Within k s0 a0) (e : execDozePllLock a0 = .next t) : Within k s0 t := by
  unfold Sys2Proof.Machine.execDozePllLock at e
  cases e
  exact dozePllLock_within (sub_trans rfl hk) h

theorem execX6LinkEnergy_within {k : Nat} {s0 t : State} {a0 : State} (hk : 256 &&& k = 256) (h : Within k s0 a0) (e : execX6LinkEnergy a0 = .next t) : Within k s0 t := by
  unfold Sys2Proof.Machine.execX6LinkEnergy at e
  cases e
  refine Within.ite (fun _ => ?_) (fun _ => ?_)
  · exact Within.set_cpm (sub_trans rfl hk) h
  · exact h

theorem autoRestart_within {k : Nat} {s0 : State} {a0 : State} (hk : 1099511627775 &&& k = 1099511627775) (h : Within k s0 a0) : Within k s0 (autoRestart a0) := by
  unfold Sys2Proof.Machine.autoRestart
  split
  · refine Within.ite (fun _ => ?_) (fun _ => ?_)
    · extract_lets -underBinder +onlyGivenNames x1
      have hx1 : Within k s0 x1 := by
        exact State_toMono_within (sub_trans rfl hk) h
      try clear_value x1
      extract_lets -underBinder +onlyGivenNames x2
      try clear_value x2
      extract_lets -underBinder +onlyGivenNames x3
      have hx3 : Within k s0 x3 := by
        exact Within.set_cpm (sub_trans rfl hk) hx1
      try clear_value x3
      exact State_restart_within (sub_trans rfl hk) hx3
    · exact h
  · exact h

theorem execAutoRestart_within {k : Nat} {s0 t : State} {a0 : State} (hk : 1099511627775 &&& k = 1099511627775) (h : Within k s0 a0) (e : execAutoRestart a0 = .next t) : Within k s0 t := by
  unfold Sys2Proof.Machine.execAutoRestart at e
  cases e
  exact autoRestart_within (sub_trans rfl hk) h

end Sys2Proof.Laws
end

