-- ==== Sys2Proof/Laws/WithinMirror.lean ====
section
/-! SUPPORT. What each operation of Machine/Mirror.lean can do to the state (see Laws/Within.lean). -/

/- One thread: elaborating these many small proofs side by side can exceed the memory that check.sh allows. -/
set_option Elab.async false

namespace Sys2Proof.Laws
open Sys2Proof Sys2Proof.Machine

theorem State_joinPhase_within {k : Nat} {s0 : State} {a0 : State} {a1 : _} (hk : 1285 &&& k = 1285) (h : Within k s0 a0) : Within k s0 (State.joinPhase a0 a1) := by
  unfold Sys2Proof.Machine.State.joinPhase
  refine Within.ite (fun _ => ?_) (fun _ => ?_)
  · exact h
  · extract_lets -underBinder +onlyGivenNames x1
    have hx1 : Within k s0 x1 := by
      exact State_setFld_within (sub_trans rfl hk) h
    try clear_value x1
    exact State_raise_within (sub_trans rfl hk) hx1

theorem State_dropMirror_within {k : Nat} {s0 : State} {a0 : State} (hk : 1073741824 &&& k = 1073741824) (h : Within k s0 a0) : Within k s0 (State.dropMirror a0) := by
  unfold Sys2Proof.Machine.State.dropMirror
  exact Within.set_rdl (sub_trans rfl hk) h

theorem State_leftStandby_within {k : Nat} {s0 : State} {a0 : State} {a1 : _} (hk : 1099511627775 &&& k = 1099511627775) (h : Within k s0 a0) : Within k s0 (State.leftStandby a0 a1) := by
  unfold Sys2Proof.Machine.State.leftStandby
  refine Within.ite (fun _ => ?_) (fun _ => ?_)
  · exact State_restart_within (sub_trans rfl hk) h
  · exact h

theorem State_aoFull_within {k : Nat} {s0 : State} {a0 : State} (hk : 34360263941 &&& k = 34360263941) (h : Within k s0 a0) : Within k s0 (State.aoFull a0) := by
  unfold Sys2Proof.Machine.State.aoFull
  extract_lets -underBinder +onlyGivenNames x1
  have hx1 : Within k s0 x1.2 := by
    exact State_takeEntries_within2 (sub_trans rfl hk) h
  try clear_value x1
  exact State_sendOut_within (sub_trans rfl hk) hx1

theorem State_postMode_within {k : Nat} {s0 : State} {a0 : State} {a1 : _} {a2 : _} (hk : 34359743749 &&& k = 34359743749) (h : Within k s0 a0) : Within k s0 (State.postMode a0 a1 a2) := by
  unfold Sys2Proof.Machine.State.postMode
  exact State_hostPost_within (sub_trans rfl hk) h

theorem State_swapFail_within {k : Nat} {s0 : State} {a0 : State} (hk : 172873061637 &&& k = 172873061637) (h : Within k s0 a0) : Within k s0 (State.swapFail a0) := by
  unfold Sys2Proof.Machine.State.swapFail
  split
  · exact State_swapEnd_within (sub_trans rfl hk) h
  · refine Within.ite (fun _ => ?_) (fun _ => ?_)
    · exact h
    · extract_lets -underBinder +onlyGivenNames x1
      try clear_value x1
      extract_lets -underBinder +onlyGivenNames x2
      try clear_value x2
      extract_lets -underBinder +onlyGivenNames x3
      try clear_value x3
      extract_lets -underBinder +onlyGivenNames x4
      have hx4 : Within k s0 x4 := by
        exact State_swapEnd_within (sub_trans rfl hk) h
      try clear_value x4
      refine Within.ite (fun _ => ?_) (fun _ => ?_)
      · extract_lets -underBinder +onlyGivenNames x5
        have hx5 : Within k s0 x5 := by
          exact State_tell_within (sub_trans rfl hk) hx4
        try clear_value x5
        extract_lets -underBinder +onlyGivenNames x6
        have hx6 : Within k s0 x6 := by
          unfold x6
          refine Within.ite (fun _ => ?_) (fun _ => ?_)
          · exact State_postMode_within (sub_trans rfl hk) hx5
          · exact hx5
        try clear_value x6
        refine Within.ite (fun _ => ?_) (fun _ => ?_)
        · exact State_aoFull_within (sub_trans rfl hk) (State_setLines_within (sub_trans rfl hk) hx6)
        · exact hx6
      · exact hx4

theorem State_enterOff_within {k : Nat} {s0 : State} {a0 : State} {a1 : _} (hk : 1099511627775 &&& k = 1099511627775) (h : Within k s0 a0) : Within k s0 (State.enterOff a0 a1) := by
  unfold Sys2Proof.Machine.State.enterOff
  extract_lets -underBinder +onlyGivenNames x1
  try clear_value x1
  extract_lets -underBinder +onlyGivenNames x2
  have hx2 : Within k s0 x2 := by
    exact State_setFlag_within (sub_trans rfl hk) (State_setFlag_within (sub_trans rfl hk) (State_stopTasks_within (sub_trans rfl hk) h))
  try clear_value x2
  exact State_leftStandby_within (sub_trans rfl hk) (State_setRole_within (sub_trans rfl hk) (State_setFld_within (sub_trans rfl hk) (State_joinPhase_within (sub_trans rfl hk) (State_dropMirror_within (sub_trans rfl hk) (State_abandonSwap_within (sub_trans rfl hk) (State_swapEnd_within (sub_trans rfl hk) hx2))))))

theorem State_askRepair_within {k : Nat} {s0 : State} {a0 : State} {a1 : _} (hk : 138513743873 &&& k = 138513743873) (h : Within k s0 a0) : Within k s0 (State.askRepair a0 a1) := by
  unfold Sys2Proof.Machine.State.askRepair
  extract_lets -underBinder +onlyGivenNames x1
  try clear_value x1
  extract_lets -underBinder +onlyGivenNames x2
  have hx2 : Within k s0 x2 := by
    exact Within.set_rdl (sub_trans rfl hk) h
  try clear_value x2
  extract_lets -underBinder +onlyGivenNames x3
  have hx3 : Within k s0 x3 := by
    exact State_tell_within (sub_trans rfl hk) (State_setFlag_within (sub_trans rfl hk) hx2)
  try clear_value x3
  refine Within.ite (fun _ => ?_) (fun _ => ?_)
  · exact State_clearTaskBits_within (sub_trans rfl hk) (State_setTask_within (sub_trans rfl hk) hx3)
  · exact hx3

theorem State_diverge_within {k : Nat} {s0 : State} {a0 : State} {a1 : _} {a2 : _} (hk : 1099511627775 &&& k = 1099511627775) (h : Within k s0 a0) : Within k s0 (State.diverge a0 a1 a2) := by
  unfold Sys2Proof.Machine.State.diverge
  extract_lets -underBinder +onlyGivenNames x1
  have hx1 : Within k s0 x1 := by
    exact State_setFld_within (sub_trans rfl hk) (State_bump_within (sub_trans rfl hk) h)
  extract_lets -underBinder +onlyGivenNames x2
  extract_lets -underBinder +onlyGivenNames x3
  have hx3 : Within k s0 x3 := by
    exact Within.set_rdl (sub_trans rfl hk) hx1
  extract_lets -underBinder +onlyGivenNames x4
  have hx4 : Within k s0 x4 := by
    exact State_raise_within (sub_trans rfl hk) (State_setFld_within (sub_trans rfl hk) hx3)
  extract_lets -underBinder +onlyGivenNames x5
  have hx5 : Within k s0 x5 := by
    unfold x5
    refine Within.ite (fun _ => ?_) (fun _ => ?_)
    · exact State_swapFail_within (sub_trans rfl hk) hx4
    · exact hx4
  refine Within.ite (fun _ => ?_) (fun _ => ?_)
  · exact hx5
  · refine Within.ite (fun _ => ?_) (fun _ => ?_)
    · exact State_enterOff_within (sub_trans rfl hk) hx5
    · exact State_askRepair_within (sub_trans rfl hk) hx5

theorem State_digestOnTime_within {k : Nat} {s0 : State} {a0 : State} (hk : 138512696581 &&& k = 138512696581) (h : Within k s0 a0) : Within k s0 (State.digestOnTime a0) := by
  unfold Sys2Proof.Machine.State.digestOnTime
  extract_lets -underBinder +onlyGivenNames x1
  try clear_value x1
  extract_lets -underBinder +onlyGivenNames x2
  have hx2 : Within k s0 x2 := by
    exact State_setFld_within (sub_trans rfl hk) h
  try clear_value x2
  refine Within.ite (fun _ => ?_) (fun _ => ?_)
  · exact hx2
  · refine Within.ite (fun _ => ?_) (fun _ => ?_)
    · exact State_setFld_within (sub_trans rfl hk) hx2
    · refine Within.ite (fun _ => ?_) (fun _ => ?_)
      · exact State_setRole_within (sub_trans rfl hk) hx2
      · exact hx2

theorem State_digestMissed_within {k : Nat} {s0 : State} {a0 : State} (hk : 1099511627775 &&& k = 1099511627775) (h : Within k s0 a0) : Within k s0 (State.digestMissed a0) := by
  unfold Sys2Proof.Machine.State.digestMissed
  extract_lets -underBinder +onlyGivenNames x1
  have hx1 : Within k s0 x1 := by
    exact State_setFld_within (sub_trans rfl hk) h
  refine Within.ite (fun _ => ?_) (fun _ => ?_)
  · extract_lets -underBinder +onlyGivenNames x2
    have hx2 : Within k s0 x2 := by
      exact State_bump_within (sub_trans rfl hk) hx1
    refine Within.ite (fun _ => ?_) (fun _ => ?_)
    · exact State_swapFail_within (sub_trans rfl hk) (State_raise_within (sub_trans rfl hk) (State_setFld_within (sub_trans rfl hk) hx2))
    · exact hx2
  · refine Within.ite (fun _ => ?_) (fun _ => ?_)
    · exact State_leftStandby_within (sub_trans rfl hk) (State_raise_within (sub_trans rfl hk) (State_setRole_within (sub_trans rfl hk) (State_abandonSwap_within (sub_trans rfl hk) (State_swapFail_within (sub_trans rfl hk) hx1))))
    · exact hx1

theorem State_compareDigests_within {k : Nat} {s0 : State} {a0 : State} {a1 : _} {a2 : _} (hk : 1099511627775 &&& k = 1099511627775) (h : Within k s0 a0) : Within k s0 (State.compareDigests a0 a1 a2) := by
  unfold Sys2Proof.Machine.State.compareDigests
  split
  · extract_lets -underBinder +onlyGivenNames x1
    extract_lets -underBinder +onlyGivenNames x2
    have hx2 : Within k s0 x2 := by
      exact Within.set_rdl (sub_trans rfl hk) h
    extract_lets -underBinder +onlyGivenNames x3
    have hx3 : Within k s0 x3 := by
      unfold x3
      refine Within.ite (fun _ => ?_) (fun _ => ?_)
      · exact State_digestOnTime_within (sub_trans rfl hk) hx2
      · exact State_digestMissed_within (sub_trans rfl hk) hx2
    refine Within.ite (fun _ => ?_) (fun _ => ?_)
    · exact hx3
    · exact State_diverge_within (sub_trans rfl hk) hx3
  · exact h

theorem State_digest_within {k : Nat} {s0 : State} {a0 : State} {a1 : _} {a2 : _} {a3 : _} (hk : 1099511627775 &&& k = 1099511627775) (h : Within k s0 a0) : Within k s0 (State.digest a0 a1 a2 a3) := by
  unfold Sys2Proof.Machine.State.digest
  refine Within.ite (fun _ => ?_) (fun _ => ?_)
  · exact h
  · extract_lets -underBinder +onlyGivenNames x1
    try clear_value x1
    extract_lets -underBinder +onlyGivenNames x2
    try clear_value x2
    extract_lets -underBinder +onlyGivenNames x3
    have hx3 : Within k s0 x3 := by
      exact Within.set_rdl (sub_trans rfl hk) h
    try clear_value x3
    exact State_compareDigests_within (sub_trans rfl hk) (State_tell_within (sub_trans rfl hk) hx3)

theorem digestArrives_within {k : Nat} {s0 : State} {a0 : _} {a1 : _} {a2 : _} {a3 : State} (hk : 1099511627775 &&& k = 1099511627775) (h : Within k s0 a3) : Within k s0 (digestArrives a0 a1 a2 a3) := by
  unfold Sys2Proof.Machine.digestArrives
  extract_lets -underBinder +onlyGivenNames x1
  try clear_value x1
  extract_lets -underBinder +onlyGivenNames x2
  have hx2 : Within k s0 x2 := by
    exact Within.set_rdl (sub_trans rfl hk) h
  try clear_value x2
  extract_lets -underBinder +onlyGivenNames x3
  try clear_value x3
  extract_lets -underBinder +onlyGivenNames x4
  have hx4 : Within k s0 x4 := by
    unfold x4
    refine Within.ite (fun _ => ?_) (fun _ => ?_)
    · exact State_setTask_within (sub_trans rfl hk) hx2
    · exact hx2
  try clear_value x4
  exact State_compareDigests_within (sub_trans rfl hk) hx4

theorem execDigestMsg_within {k : Nat} {s0 t : State} {a0 : _} {a1 : _} {a2 : _} {a3 : State} (hk : 1099511627775 &&& k = 1099511627775) (h : Within k s0 a3) (e : execDigestMsg a0 a1 a2 a3 = .next t) : Within k s0 t := by
  unfold Sys2Proof.Machine.execDigestMsg at e
  cases e
  exact digestArrives_within (sub_trans rfl hk) h

theorem digestLate_within {k : Nat} {s0 : State} {a0 : State} (hk : 1099511627775 &&& k = 1099511627775) (h : Within k s0 a0) : Within k s0 (digestLate a0) := by
  unfold Sys2Proof.Machine.digestLate
  split
  · exact State_digestMissed_within (sub_trans rfl hk) (Within.set_rdl (sub_trans rfl hk) h)
  · split
    · refine State_digestMissed_within (sub_trans rfl hk) ?_
      extract_lets -underBinder +onlyGivenNames x1
      have hx1 : Within k s0 x1 := by
        exact State_toTime_within (sub_trans rfl hk) h
      try clear_value x1
      exact Within.set_rdl (sub_trans rfl hk) hx1
    · exact h

theorem execDigestLate_within {k : Nat} {s0 t : State} {a0 : State} (hk : 1099511627775 &&& k = 1099511627775) (h : Within k s0 a0) (e : execDigestLate a0 = .next t) : Within k s0 t := by
  unfold Sys2Proof.Machine.execDigestLate at e
  cases e
  exact digestLate_within (sub_trans rfl hk) h

end Sys2Proof.Laws
end

