-- ==== Sys2Proof/Laws/WithinLoops.lean ====
section
/-! SUPPORT. What each operation of Machine/Loops.lean can do to the state (see Laws/Within.lean). -/

/- One thread: elaborating these many small proofs side by side can exceed the memory that check.sh allows. -/
set_option Elab.async false

namespace Sys2Proof.Laws
open Sys2Proof Sys2Proof.Machine

theorem State_addBatch_within {k : Nat} {s0 : State} {a0 : State} {a1 : _} (hk : 536870912 &&& k = 536870912) (h : Within k s0 a0) : Within k s0 (State.addBatch a0 a1) := by
  unfold Sys2Proof.Machine.State.addBatch
  exact Within.set_loops (sub_trans rfl hk) h

theorem State_ppEnd_within {k : Nat} {s0 : State} {a0 : State} (hk : 536872197 &&& k = 536872197) (h : Within k s0 a0) : Within k s0 (State.ppEnd a0) := by
  unfold Sys2Proof.Machine.State.ppEnd
  extract_lets -underBinder +onlyGivenNames x1
  try clear_value x1
  extract_lets -underBinder +onlyGivenNames x2
  have hx2 : Within k s0 x2 := by
    exact Within.set_loops (sub_trans rfl hk) h
  try clear_value x2
  extract_lets -underBinder +onlyGivenNames x3
  have hx3 : Within k s0 x3 := by
    exact State_setFlag_within (sub_trans rfl hk) (State_setFlag_within (sub_trans rfl hk) hx2)
  try clear_value x3
  exact State_raise_within (sub_trans rfl hk) hx3

theorem State_ppStep_within {k : Nat} {s0 : State} {a0 : State} {a1 : _} (hk : 536872197 &&& k = 536872197) (h : Within k s0 a0) : Within k s0 (State.ppStep a0 a1) := by
  unfold Sys2Proof.Machine.State.ppStep
  split
  · exact h
  · extract_lets -underBinder +onlyGivenNames x1
    try clear_value x1
    extract_lets -underBinder +onlyGivenNames x2
    try clear_value x2
    extract_lets -underBinder +onlyGivenNames x3
    have hx3 : Within k s0 x3 := by
      exact State_setFld_within (sub_trans rfl hk) (Within.set_loops (sub_trans rfl hk) h)
    try clear_value x3
    refine Within.ite (fun _ => ?_) (fun _ => ?_)
    · exact State_ppEnd_within (sub_trans rfl hk) hx3
    · exact hx3

theorem State_batchRefused_within {k : Nat} {s0 : State} {a0 : State} {a1 : _} (hk : 1285 &&& k = 1285) (h : Within k s0 a0) : Within k s0 (State.batchRefused a0 a1) := by
  unfold Sys2Proof.Machine.State.batchRefused
  extract_lets -underBinder +onlyGivenNames x1
  have hx1 : Within k s0 x1 := by
    exact State_setFld_within (sub_trans rfl hk) (State_bump_within (sub_trans rfl hk) h)
  try clear_value x1
  exact State_raise_within (sub_trans rfl hk) hx1

theorem State_applyBatches_within2 {k : Nat} {s0 : State} {a0 : State} {a1 : _} {a2 : _} {a3 : _} (hk : 536872197 &&& k = 536872197) (h : Within k s0 a0) : Within k s0 (State.applyBatches a0 a1 a2 a3).2 := by
  induction a3 generalizing a0 a1 a2 with
  | nil =>
    unfold Sys2Proof.Machine.State.applyBatches
    exact h
  | cons _ _ ih =>
    unfold Sys2Proof.Machine.State.applyBatches
    extract_lets -underBinder +onlyGivenNames x1
    try clear_value x1
    extract_lets -underBinder +onlyGivenNames x2
    have hx2 : Within k s0 x2 := by
      unfold x2
      refine Within.ite (fun _ => ?_) (fun _ => ?_)
      · exact h
      · exact State_batchRefused_within (sub_trans rfl hk) h
    try clear_value x2
    apply ih
    refine Within.ite (fun _ => ?_) (fun _ => ?_)
    · exact State_ppStep_within (sub_trans rfl hk) hx2
    · exact hx2

theorem State_loopSink_within2 {k : Nat} {s0 : State} {a0 : State} {a1 : _} {a2 : _} {a3 : _} (hk : 525573 &&& k = 525573) (h : Within k s0 a0) : Within k s0 (State.loopSink a0 a1 a2 a3).2 := by
  unfold Sys2Proof.Machine.State.loopSink
  split
  · exact h
  · extract_lets -underBinder +onlyGivenNames x1
    try clear_value x1
    extract_lets -underBinder +onlyGivenNames x2
    have hx2 : Within k s0 x2.2 := by
      exact State_convey_within2 (sub_trans rfl hk) h
    try clear_value x2
    exact hx2

theorem State_loopInputs_within2 {k : Nat} {s0 : State} {a0 : State} {a1 : _} {a2 : _} {a3 : _} (hk : 525573 &&& k = 525573) (h : Within k s0 a0) : Within k s0 (State.loopInputs a0 a1 a2 a3).2 := by
  unfold Sys2Proof.Machine.State.loopInputs
  extract_lets -underBinder +onlyGivenNames x1
  have hx1 : Within k s0 x1.2 := by
    exact State_loopSink_within2 (sub_trans rfl hk) h
  try clear_value x1
  extract_lets -underBinder +onlyGivenNames x2
  have hx2 : Within k s0 x2.2 := by
    exact State_loopSink_within2 (sub_trans rfl hk) hx1
  try clear_value x2
  extract_lets -underBinder +onlyGivenNames x3
  have hx3 : Within k s0 x3.2 := by
    exact State_loopSink_within2 (sub_trans rfl hk) hx2
  try clear_value x3
  extract_lets -underBinder +onlyGivenNames x4
  have hx4 : Within k s0 x4.2 := by
    exact State_loopSink_within2 (sub_trans rfl hk) hx3
  try clear_value x4
  extract_lets -underBinder +onlyGivenNames x5
  have hx5 : Within k s0 x5.2 := by
    exact State_loopSink_within2 (sub_trans rfl hk) hx4
  try clear_value x5
  extract_lets -underBinder +onlyGivenNames x6
  have hx6 : Within k s0 x6.2 := by
    exact State_loopSink_within2 (sub_trans rfl hk) hx5
  try clear_value x6
  exact hx6

theorem State_evalSlot_within1 {k : Nat} {s0 : State} {a0 : State} {a1 : _} {a2 : _} {a3 : _} {a4 : _} (hk : 537396485 &&& k = 537396485) (h : Within k s0 a0) : Within k s0 (State.evalSlot a0 a1 a2 a3 a4).1 := by
  unfold Sys2Proof.Machine.State.evalSlot
  extract_lets -underBinder +onlyGivenNames x1
  try clear_value x1
  extract_lets -underBinder +onlyGivenNames x2
  try clear_value x2
  extract_lets -underBinder +onlyGivenNames x3
  try clear_value x3
  extract_lets -underBinder +onlyGivenNames x4
  try clear_value x4
  extract_lets -underBinder +onlyGivenNames x5
  try clear_value x5
  extract_lets -underBinder +onlyGivenNames x6
  have hx6 : Within k s0 x6 := by
    exact Within.set_loops (sub_trans rfl hk) h
  try clear_value x6
  extract_lets -underBinder +onlyGivenNames x7
  have hx7 : Within k s0 x7.2 := by
    exact State_applyBatches_within2 (sub_trans rfl hk) hx6
  try clear_value x7
  extract_lets -underBinder +onlyGivenNames x8
  have hx8 : Within k s0 x8.2 := by
    exact State_loopInputs_within2 (sub_trans rfl hk) hx7
  try clear_value x8
  extract_lets -underBinder +onlyGivenNames x9
  try clear_value x9
  extract_lets -underBinder +onlyGivenNames x10
  try clear_value x10
  extract_lets -underBinder +onlyGivenNames x11
  try clear_value x11
  show Within k s0 _
  exact hx8

theorem State_evalAll_within1 {k : Nat} {s0 : State} {a0 : State} {a1 : _} {a2 : _} {a3 : _} {a4 : _} {a5 : _} (hk : 537396485 &&& k = 537396485) (h : Within k s0 a0) : Within k s0 (State.evalAll a0 a1 a2 a3 a4 a5).1 := by
  induction a5 generalizing a0 a1 a2 a3 a4 with
  | nil =>
    unfold Sys2Proof.Machine.State.evalAll
    show Within k s0 _
    exact h
  | cons _ _ ih =>
    unfold Sys2Proof.Machine.State.evalAll
    extract_lets -underBinder +onlyGivenNames x1
    try clear_value x1
    split
    · apply ih
      exact h
    · extract_lets -underBinder +onlyGivenNames x2
      have hx2 : Within k s0 x2.1 := by
        exact State_evalSlot_within1 (sub_trans rfl hk) h
      try clear_value x2
      apply ih
      exact hx2

theorem State_evalWindow_within {k : Nat} {s0 : State} {a0 : State} {a1 : _} (hk : 940049725 &&& k = 940049725) (h : Within k s0 a0) : Within k s0 (State.evalWindow a0 a1) := by
  unfold Sys2Proof.Machine.State.evalWindow
  split
  · exact h
  · extract_lets -underBinder +onlyGivenNames x1
    have hx1 : Within k s0 x1 := by
      exact State_stnsAt_within (sub_trans rfl hk) (State_toTime_within (sub_trans rfl hk) h)
    try clear_value x1
    extract_lets -underBinder +onlyGivenNames x2
    have hx2 : Within k s0 x2.1 := by
      exact State_evalAll_within1 (sub_trans rfl hk) hx1
    try clear_value x2
    extract_lets -underBinder +onlyGivenNames x3
    have hx3 : Within k s0 x3 := by
      exact hx2
    try clear_value x3
    extract_lets -underBinder +onlyGivenNames x4
    try clear_value x4
    extract_lets -underBinder +onlyGivenNames x5
    have hx5 : Within k s0 x5 := by
      exact Within.set_loops (sub_trans rfl hk) hx3
    try clear_value x5
    refine Within.ite (fun _ => ?_) (fun _ => ?_)
    · exact State_setFld_within (sub_trans rfl hk) hx5
    · exact hx5

theorem loopWindow_within {k : Nat} {s0 : State} {a0 : State} (hk : 138379003197 &&& k = 138379003197) (h : Within k s0 a0) : Within k s0 (loopWindow a0) := by
  unfold Sys2Proof.Machine.loopWindow
  refine Within.ite (fun _ => ?_) (fun _ => ?_)
  · exact h
  · split
    · exact h
    · extract_lets -underBinder +onlyGivenNames x1
      have hx1 : Within k s0 x1 := by
        exact State_stnsAt_within (sub_trans rfl hk) (State_toTime_within (sub_trans rfl hk) h)
      try clear_value x1
      extract_lets -underBinder +onlyGivenNames x2
      have hx2 : Within k s0 x2 := by
        unfold x2
        refine Within.ite (fun _ => ?_) (fun _ => ?_)
        · exact State_tell_within (sub_trans rfl hk) hx1
        · exact hx1
      try clear_value x2
      exact State_evalWindow_within (sub_trans rfl hk) hx2

theorem execLoopWindow_within {k : Nat} {s0 t : State} {a0 : State} (hk : 138379003197 &&& k = 138379003197) (h : Within k s0 a0) (e : execLoopWindow a0 = .next t) : Within k s0 t := by
  unfold Sys2Proof.Machine.execLoopWindow at e
  cases e
  exact loopWindow_within (sub_trans rfl hk) h

theorem loopin_within {k : Nat} {s0 : State} {a0 : _} {a1 : _} {a2 : State} (hk : 940049725 &&& k = 940049725) (h : Within k s0 a2) : Within k s0 (loopin a0 a1 a2) := by
  unfold Sys2Proof.Machine.loopin
  refine Within.ite (fun _ => ?_) (fun _ => ?_)
  · exact State_evalWindow_within (sub_trans rfl hk) (Within.set_loops (sub_trans rfl hk) h)
  · exact h

theorem execLoopin_within {k : Nat} {s0 t : State} {a0 : _} {a1 : _} {a2 : State} (hk : 940049725 &&& k = 940049725) (h : Within k s0 a2) (e : execLoopin a0 a1 a2 = .next t) : Within k s0 t := by
  unfold Sys2Proof.Machine.execLoopin at e
  cases e
  exact loopin_within (sub_trans rfl hk) h

theorem State_raiseAll_within {k : Nat} {s0 : State} {a0 : State} {a1 : _} (hk : 1285 &&& k = 1285) (h : Within k s0 a0) : Within k s0 (State.raiseAll a0 a1) := by
  induction a1 generalizing a0 with
  | nil =>
    unfold Sys2Proof.Machine.State.raiseAll
    exact h
  | cons _ _ ih =>
    unfold Sys2Proof.Machine.State.raiseAll
    apply ih
    exact State_raise_within (sub_trans rfl hk) h

theorem State_depositAll_within {k : Nat} {s0 : State} {a0 : State} {a1 : _} (hk : 2 &&& k = 2) (h : Within k s0 a0) : Within k s0 (State.depositAll a0 a1) := by
  induction a1 generalizing a0 with
  | nil =>
    unfold Sys2Proof.Machine.State.depositAll
    exact h
  | cons _ _ ih =>
    unfold Sys2Proof.Machine.State.depositAll
    apply ih
    exact State_wrBytes_within (sub_trans rfl hk) h

theorem State_loopEntries_within2 {k : Nat} {s0 : State} {a0 : State} {a1 : _} (hk : 525573 &&& k = 525573) (h : Within k s0 a0) : Within k s0 (State.loopEntries a0 a1).2 := by
  unfold Sys2Proof.Machine.State.loopEntries
  refine Within.foldlSnd (fun t1 _ ht1 => ?_) _ ?_
  · extract_lets -underBinder +onlyGivenNames x2
    try clear_value x2
    extract_lets -underBinder +onlyGivenNames x3
    have hx3 : Within k s0 x3.2 := by
      exact State_takeEntries_within2 (sub_trans rfl hk) ht1
    try clear_value x3
    exact hx3
  · exact h

theorem State_loopDigest_within {k : Nat} {s0 : State} {a0 : State} {a1 : _} (hk : 1099511627775 &&& k = 1099511627775) (h : Within k s0 a0) : Within k s0 (State.loopDigest a0 a1) := by
  unfold Sys2Proof.Machine.State.loopDigest
  extract_lets -underBinder +onlyGivenNames x1
  try clear_value x1
  extract_lets -underBinder +onlyGivenNames x2
  try clear_value x2
  extract_lets -underBinder +onlyGivenNames x3
  try clear_value x3
  extract_lets -underBinder +onlyGivenNames x4
  have hx4 : Within k s0 x4 := by
    exact Within.set_loops (sub_trans rfl hk) h
  try clear_value x4
  refine Within.ite (fun _ => ?_) (fun _ => ?_)
  · exact State_digest_within (sub_trans rfl hk) hx4
  · exact hx4

theorem State_loopSkips_within {k : Nat} {s0 : State} {a0 : State} {a1 : _} (hk : 1285 &&& k = 1285) (h : Within k s0 a0) : Within k s0 (State.loopSkips a0 a1) := by
  unfold Sys2Proof.Machine.State.loopSkips
  split
  · exact h
  · extract_lets -underBinder +onlyGivenNames x1
    have hx1 : Within k s0 x1 := by
      refine Within.foldl (fun t2 _ ht2 => ?_) _ ?_
      · exact State_setFld_within (sub_trans rfl hk) (State_bump_within (sub_trans rfl hk) ht2)
      · exact h
    try clear_value x1
    exact State_raise_within (sub_trans rfl hk) hx1

theorem loopDeposit_within {k : Nat} {s0 : State} {a0 : State} (hk : 1099511627775 &&& k = 1099511627775) (h : Within k s0 a0) : Within k s0 (loopDeposit a0) := by
  unfold Sys2Proof.Machine.loopDeposit
  split
  · exact h
  · refine Within.ite (fun _ => ?_) (fun _ => ?_)
    · exact Within.set_loops (sub_trans rfl hk) h
    · extract_lets -underBinder +onlyGivenNames x1
      try clear_value x1
      extract_lets -underBinder +onlyGivenNames x2
      have hx2 : Within k s0 x2 := by
        exact State_toTime_within (sub_trans rfl hk) h
      try clear_value x2
      extract_lets -underBinder +onlyGivenNames x3
      try clear_value x3
      extract_lets -underBinder +onlyGivenNames x4
      have hx4 : Within k s0 x4 := by
        exact Within.set_loops (sub_trans rfl hk) hx2
      try clear_value x4
      extract_lets -underBinder +onlyGivenNames x5
      have hx5 : Within k s0 x5 := by
        exact State_loopSkips_within (sub_trans rfl hk) (State_raiseAll_within (sub_trans rfl hk) (State_depositAll_within (sub_trans rfl hk) hx4))
      try clear_value x5
      extract_lets -underBinder +onlyGivenNames x6
      have hx6 : Within k s0 x6.2 := by
        exact State_loopEntries_within2 (sub_trans rfl hk) hx5
      try clear_value x6
      exact State_loopDigest_within (sub_trans rfl hk) (State_sendOut_within (sub_trans rfl hk) hx6)

theorem execLoopDeposit_within {k : Nat} {s0 t : State} {a0 : State} (hk : 1099511627775 &&& k = 1099511627775) (h : Within k s0 a0) (e : execLoopDeposit a0 = .next t) : Within k s0 t := by
  unfold Sys2Proof.Machine.execLoopDeposit at e
  cases e
  exact loopDeposit_within (sub_trans rfl hk) h

theorem State_ppRefuse_within {k : Nat} {s0 : State} {a0 : State} {a1 : _} (hk : 536872197 &&& k = 536872197) (h : Within k s0 a0) : Within k s0 (State.ppRefuse a0 a1) := by
  unfold Sys2Proof.Machine.State.ppRefuse
  exact State_ppEnd_within (sub_trans rfl hk) (State_setFld_within (sub_trans rfl hk) h)

theorem ppGo_within {k : Nat} {s0 : State} {a0 : _} {a1 : _} {a2 : State} (hk : 536872325 &&& k = 536872325) (h : Within k s0 a2) : Within k s0 (ppGo a0 a1 a2) := by
  unfold Sys2Proof.Machine.ppGo
  refine Within.ite (fun _ => ?_) (fun _ => ?_)
  · exact State_denyWrite_within (sub_trans rfl hk) h
  · extract_lets -underBinder +onlyGivenNames x1
    try clear_value x1
    extract_lets -underBinder +onlyGivenNames x2
    try clear_value x2
    extract_lets -underBinder +onlyGivenNames x3
    have hx3 : Within k s0 x3 := by
      exact State_setFld_within (sub_trans rfl hk) (State_setFld_within (sub_trans rfl hk) h)
    try clear_value x3
    refine Within.ite (fun _ => ?_) (fun _ => ?_)
    · exact hx3
    · refine Within.ite (fun _ => ?_) (fun _ => ?_)
      · exact State_setFld_within (sub_trans rfl hk) hx3
      · extract_lets -underBinder +onlyGivenNames x4
        have hx4 : Within k s0 x4 := by
          exact State_setFld_within (sub_trans rfl hk) (State_setFld_within (sub_trans rfl hk) hx3)
        try clear_value x4
        refine Within.ite (fun _ => ?_) (fun _ => ?_)
        · exact State_ppRefuse_within (sub_trans rfl hk) hx4
        · refine Within.ite (fun _ => ?_) (fun _ => ?_)
          · exact State_ppRefuse_within (sub_trans rfl hk) hx4
          · refine Within.ite (fun _ => ?_) (fun _ => ?_)
            · exact State_ppRefuse_within (sub_trans rfl hk) hx4
            · exact State_setFlag_within (sub_trans rfl hk) (Within.set_loops (sub_trans rfl hk) hx4)

theorem execPpGo_within {k : Nat} {s0 t : State} {a0 : _} {a1 : _} {a2 : State} (hk : 536872325 &&& k = 536872325) (h : Within k s0 a2) (e : execPpGo a0 a1 a2 = .next t) : Within k s0 t := by
  unfold Sys2Proof.Machine.execPpGo at e
  cases e
  exact ppGo_within (sub_trans rfl hk) h

theorem ppLock_within {k : Nat} {s0 : State} {a0 : State} (hk : 536880581 &&& k = 536880581) (h : Within k s0 a0) : Within k s0 (ppLock a0) := by
  unfold Sys2Proof.Machine.ppLock
  split
  · exact h
  · refine Within.ite (fun _ => ?_) (fun _ => ?_)
    · exact h
    · extract_lets -underBinder +onlyGivenNames x1
      try clear_value x1
      extract_lets -underBinder +onlyGivenNames x2
      have hx2 : Within k s0 x2 := by
        exact lockAttempt_within (sub_trans rfl hk) h
      try clear_value x2
      refine Within.ite (fun _ => ?_) (fun _ => ?_)
      · exact hx2
      · extract_lets -underBinder +onlyGivenNames x3
        try clear_value x3
        extract_lets -underBinder +onlyGivenNames x4
        try clear_value x4
        extract_lets -underBinder +onlyGivenNames x5
        have hx5 : Within k s0 x5 := by
          exact State_lockFree_within (sub_trans rfl hk) hx2
        try clear_value x5
        refine Within.ite (fun _ => ?_) (fun _ => ?_)
        · exact State_ppRefuse_within (sub_trans rfl hk) hx5
        · extract_lets -underBinder +onlyGivenNames x6
          try clear_value x6
          extract_lets -underBinder +onlyGivenNames x7
          try clear_value x7
          extract_lets -underBinder +onlyGivenNames x8
          try clear_value x8
          extract_lets -underBinder +onlyGivenNames x9
          have hx9 : Within k s0 x9 := by
            exact Within.set_loops (sub_trans rfl hk) hx5
          try clear_value x9
          refine Within.foldl (fun t10 _ ht10 => ?_) _ ?_
          · exact State_addBatch_within (sub_trans rfl hk) ht10
          · exact hx9

theorem execPpLockAcquired_within {k : Nat} {s0 t : State} {a0 : State} (hk : 536880581 &&& k = 536880581) (h : Within k s0 a0) (e : execPpLockAcquired a0 = .next t) : Within k s0 t := by
  unfold Sys2Proof.Machine.execPpLockAcquired at e
  cases e
  exact ppLock_within (sub_trans rfl hk) h

theorem rgndataRead_within {k : Nat} {s0 : State} {a0 : _} {a1 : State} (hk : 193 &&& k = 193) (h : Within k s0 a1) : Within k s0 (rgndataRead a0 a1) := by
  unfold Sys2Proof.Machine.rgndataRead
  extract_lets -underBinder +onlyGivenNames x1
  try clear_value x1
  extract_lets -underBinder +onlyGivenNames x2
  have hx2 : Within k s0 x2 := by
    exact State_ret_within (sub_trans rfl hk) h
  try clear_value x2
  refine Within.ite (fun _ => ?_) (fun _ => ?_)
  · exact State_setFld_within (sub_trans rfl hk) hx2
  · exact hx2

theorem execRgndataRead_within {k : Nat} {s0 t : State} {a0 : _} {a1 : State} (hk : 193 &&& k = 193) (h : Within k s0 a1) (e : execRgndataRead a0 a1 = .next t) : Within k s0 t := by
  unfold Sys2Proof.Machine.execRgndataRead at e
  cases e
  exact rgndataRead_within (sub_trans rfl hk) h

end Sys2Proof.Laws
end

