-- ==== Sys2Proof/Laws/WithinSafeHost.lean ====
section
/-! SUPPORT. What each operation of Machine/SafeHost.lean can do to the state (see Laws/Within.lean). -/

/- One thread: elaborating these many small proofs side by side can exceed the memory that check.sh allows. -/
set_option Elab.async false

namespace Sys2Proof.Laws
open Sys2Proof Sys2Proof.Machine

theorem State_hostLatch_within {k : Nat} {s0 : State} {a0 : State} {a1 : _} {a2 : _} {a3 : _} (hk : 67110149 &&& k = 67110149) (h : Within k s0 a0) : Within k s0 (State.hostLatch a0 a1 a2 a3) := by
  unfold Sys2Proof.Machine.State.hostLatch
  refine Within.ite (fun _ => ?_) (fun _ => ?_)
  · exact State_setHostFn_within (sub_trans rfl hk) h
  · exact State_raise_within (sub_trans rfl hk) (State_setHostFn_within (sub_trans rfl hk) h)

theorem State_hostClear_within {k : Nat} {s0 : State} {a0 : State} {a1 : _} (hk : 67110149 &&& k = 67110149) (h : Within k s0 a0) : Within k s0 (State.hostClear a0 a1) := by
  unfold Sys2Proof.Machine.State.hostClear
  exact State_raise_within (sub_trans rfl hk) (State_setHostFn_within (sub_trans rfl hk) h)

theorem State_readRst_within {k : Nat} {s0 : State} {a0 : State} {a1 : _} {a2 : _} {a3 : _} (hk : 67634437 &&& k = 67634437) (h : Within k s0 a0) : Within k s0 (State.readRst a0 a1 a2 a3) := by
  unfold Sys2Proof.Machine.State.readRst
  split
  · exact State_setHostFn_within (sub_trans rfl hk) h
  · extract_lets -underBinder +onlyGivenNames x1
    have hx1 : Within k s0 x1.2 := by
      exact State_takeRoute_within2 (sub_trans rfl hk) h
    try clear_value x1
    extract_lets -underBinder +onlyGivenNames x2
    try clear_value x2
    extract_lets -underBinder +onlyGivenNames x3
    try clear_value x3
    extract_lets -underBinder +onlyGivenNames x4
    have hx4 : Within k s0 x4 := by
      exact State_setHostFn_within (sub_trans rfl hk) hx1
    try clear_value x4
    refine Within.ite (fun _ => ?_) (fun _ => ?_)
    · exact Within.set_saf (sub_trans rfl hk) hx4
    · exact hx4

theorem State_ainShow_within {k : Nat} {s0 : State} {a0 : State} {a1 : _} {a2 : _} {a3 : _} (hk : 67108865 &&& k = 67108865) (h : Within k s0 a0) : Within k s0 (State.ainShow a0 a1 a2 a3) := by
  unfold Sys2Proof.Machine.State.ainShow
  extract_lets -underBinder +onlyGivenNames x1
  try clear_value x1
  extract_lets -underBinder +onlyGivenNames x2
  try clear_value x2
  exact State_setReg_within (sub_trans rfl hk) (State_setHostFn_within (sub_trans rfl hk) h)

theorem ainJudged_within {k : Nat} {s0 t : State} {y : HostFn} {bad : Option (Nat × Nat)} {disc : Bool} (hk : 67110149 &&& k = 67110149)
    (h : Within k s0 t) : Within k s0 (match bad with
      | some (c, d) => t.hostLatch y c d
      | none => if disc = true then t.hostLatch y 15 0 else t) := by
  cases bad with
  | none => exact Within.ite (fun _ => State_hostLatch_within (sub_trans rfl hk) h) (fun _ => h)
  | some q => exact State_hostLatch_within (sub_trans rfl hk) h

theorem State_ainLatch_within {k : Nat} {s0 : State} {a0 : State} {a1 : _} {a2 : _} (hk : 67110149 &&& k = 67110149) (h : Within k s0 a0) :
    Within k s0 (State.ainLatch a0 a1 a2) := by
  unfold Sys2Proof.Machine.State.ainLatch
  split
  · exact h
  · refine State_ainShow_within (sub_trans rfl hk) (ainJudged_within (sub_trans rfl hk) ?_)
    exact Within.ite (fun _ => State_hostClear_within (sub_trans rfl hk) h) (fun _ => State_setHostFn_within (sub_trans rfl hk) h)

theorem State_ss1Latch_within {k : Nat} {s0 : State} {a0 : State} {a1 : _} {a2 : _} {a3 : _} (hk : 67634437 &&& k = 67634437) (h : Within k s0 a0) : Within k s0 (State.ss1Latch a0 a1 a2 a3) := by
  unfold Sys2Proof.Machine.State.ss1Latch
  split
  · exact h
  · extract_lets -underBinder +onlyGivenNames x1
    try clear_value x1
    extract_lets -underBinder +onlyGivenNames x2
    try clear_value x2
    extract_lets -underBinder +onlyGivenNames x3
    have hx3 : Within k s0 x3.2 := by
      exact State_takeSink_within2 (sub_trans rfl hk) h
    try clear_value x3
    extract_lets -underBinder +onlyGivenNames x4
    have hx4 : Within k s0 x4.2 := by
      unfold x4
      split
      · exact hx3
      · exact State_takeSink_within2 (sub_trans rfl hk) hx3
    try clear_value x4
    extract_lets -underBinder +onlyGivenNames x5
    have hx5 : Within k s0 x5 := by
      exact hx4
    try clear_value x5
    extract_lets -underBinder +onlyGivenNames x6
    try clear_value x6
    extract_lets -underBinder +onlyGivenNames x7
    try clear_value x7
    extract_lets -underBinder +onlyGivenNames x8
    try clear_value x8
    extract_lets -underBinder +onlyGivenNames x9
    try clear_value x9
    extract_lets -underBinder +onlyGivenNames x10
    try clear_value x10
    extract_lets -underBinder +onlyGivenNames x11
    have hx11 : Within k s0 x11 := by
      unfold x11
      refine Within.ite (fun _ => ?_) (fun _ => ?_)
      · exact State_hostClear_within (sub_trans rfl hk) hx5
      · exact State_setHostFn_within (sub_trans rfl hk) hx5
    try clear_value x11
    extract_lets -underBinder +onlyGivenNames x12
    try clear_value x12
    split
    · exact State_hostLatch_within (sub_trans rfl hk) hx11
    · refine Within.ite (fun _ => ?_) (fun _ => ?_)
      · exact State_hostLatch_within (sub_trans rfl hk) hx11
      · exact hx11

theorem State_ss1Sto_within {k : Nat} {s0 : State} {a0 : State} {a1 : _} {a2 : _} (hk : 67110149 &&& k = 67110149) (h : Within k s0 a0) : Within k s0 (State.ss1Sto a0 a1 a2) := by
  unfold Sys2Proof.Machine.State.ss1Sto
  exact State_raise_within (sub_trans rfl hk) (State_setHostFn_within (sub_trans rfl hk) h)

theorem State_ss1Checks_within {k : Nat} {s0 : State} {a0 : State} {a1 : _} {a2 : _} {a3 : _} (hk : 67110149 &&& k = 67110149) (h : Within k s0 a0) : Within k s0 (State.ss1Checks a0 a1 a2 a3) := by
  unfold Sys2Proof.Machine.State.ss1Checks
  extract_lets -underBinder +onlyGivenNames x1
  try clear_value x1
  refine Within.ite (fun _ => ?_) (fun _ => ?_)
  · exact State_ss1Sto_within (sub_trans rfl hk) h
  · refine Within.ite (fun _ => ?_) (fun _ => ?_)
    · extract_lets -underBinder +onlyGivenNames x2
      have hx2 : Within k s0 x2 := by
        exact State_hostLatch_within (sub_trans rfl hk) h
      try clear_value x2
      exact State_ss1Sto_within (sub_trans rfl hk) hx2
    · refine Within.ite (fun _ => ?_) (fun _ => ?_)
      · exact State_ss1Sto_within (sub_trans rfl hk) h
      · exact State_setHostFn_within (sub_trans rfl hk) h

theorem State_ss1Commit_within {k : Nat} {s0 : State} {a0 : State} {a1 : _} {a2 : _} {a3 : _} {a4 : _} {a5 : _} (hk : 67634437 &&& k = 67634437) (h : Within k s0 a0) : Within k s0 (State.ss1Commit a0 a1 a2 a3 a4 a5) := by
  unfold Sys2Proof.Machine.State.ss1Commit
  split
  · exact h
  · extract_lets -underBinder +onlyGivenNames x1
    have hx1 : Within k s0 x1.2 := by
      exact State_commitSink_within2 (sub_trans rfl hk) h
    try clear_value x1
    extract_lets -underBinder +onlyGivenNames x2
    try clear_value x2
    extract_lets -underBinder +onlyGivenNames x3
    have hx3 : Within k s0 x3 := by
      exact hx1
    try clear_value x3
    extract_lets -underBinder +onlyGivenNames x4
    have hx4 : Within k s0 x4 := by
      unfold x4
      refine Within.ite (fun _ => ?_) (fun _ => ?_)
      · refine Within.ite (fun _ => ?_) (fun _ => ?_)
        · exact hx3
        · exact State_ss1Sto_within (sub_trans rfl hk) hx3
      · refine Within.ite (fun _ => ?_) (fun _ => ?_)
        · refine Within.ite (fun _ => ?_) (fun _ => ?_)
          · exact State_setHostFn_within (sub_trans rfl hk) hx3
          · exact hx3
        · split
          · exact State_ss1Checks_within (sub_trans rfl hk) hx3
          · refine Within.ite (fun _ => ?_) (fun _ => ?_)
            · exact hx3
            · exact State_ss1Checks_within (sub_trans rfl hk) (State_raise_within (sub_trans rfl hk) hx3)
    try clear_value x4
    extract_lets -underBinder +onlyGivenNames x5
    try clear_value x5
    extract_lets -underBinder +onlyGivenNames x6
    try clear_value x6
    extract_lets -underBinder +onlyGivenNames x7
    try clear_value x7
    extract_lets -underBinder +onlyGivenNames x8
    try clear_value x8
    extract_lets -underBinder +onlyGivenNames x9
    try clear_value x9
    exact State_setReg_within (sub_trans rfl hk) (State_setHostFn_within (sub_trans rfl hk) hx4)

theorem State_safLatch_within {k : Nat} {s0 : State} {a0 : State} {a1 : _} {a2 : _} (hk : 336069893 &&& k = 336069893) (h : Within k s0 a0) : Within k s0 (State.safLatch a0 a1 a2) := by
  unfold Sys2Proof.Machine.State.safLatch
  extract_lets -underBinder +onlyGivenNames x1
  have hx1 : Within k s0 x1 := by
    refine Within.foldl (fun t2 _ ht2 => ?_) _ ?_
    · split
      · exact State_readRst_within (sub_trans rfl hk) ht2
      · exact ht2
    · exact h
  try clear_value x1
  extract_lets -underBinder +onlyGivenNames x3
  have hx3 : Within k s0 x3 := by
    refine Within.foldl (fun t4 _ ht4 => ?_) _ ?_
    · exact State_ainLatch_within (sub_trans rfl hk) ht4
    · exact State_escResets_within (sub_trans rfl hk) hx1
  try clear_value x3
  refine Within.foldl (fun t5 _ ht5 => ?_) _ ?_
  · exact State_ss1Latch_within (sub_trans rfl hk) ht5
  · exact hx3

theorem State_soutEntry_within2 {k : Nat} {s0 : State} {a0 : State} {a1 : _} {a2 : _} {a3 : _} {a4 : _} (hk : 525573 &&& k = 525573) (h : Within k s0 a0) : Within k s0 (State.soutEntry a0 a1 a2 a3 a4).2 := by
  unfold Sys2Proof.Machine.State.soutEntry
  extract_lets -underBinder +onlyGivenNames x1
  have hx1 : Within k s0 x1.2 := by
    exact State_commitSink_within2 (sub_trans rfl hk) h
  try clear_value x1
  extract_lets -underBinder +onlyGivenNames x2
  try clear_value x2
  exact hx1

theorem State_postResets_within {k : Nat} {s0 : State} {a0 : State} (hk : 34426852613 &&& k = 34426852613) (h : Within k s0 a0) : Within k s0 (State.postResets a0) := by
  unfold Sys2Proof.Machine.State.postResets
  refine Within.ite (fun _ => ?_) (fun _ => ?_)
  · exact h
  · extract_lets -underBinder +onlyGivenNames x1
    try clear_value x1
    exact State_hostPost_within (sub_trans rfl hk) (Within.set_saf (sub_trans rfl hk) h)

theorem State_safCommit_within2 {k : Nat} {s0 : State} {a0 : State} {a1 : _} {a2 : _} {a3 : _} {a4 : _} (hk : 34695812357 &&& k = 34695812357) (h : Within k s0 a0) : Within k s0 (State.safCommit a0 a1 a2 a3 a4).2 := by
  unfold Sys2Proof.Machine.State.safCommit
  extract_lets -underBinder +onlyGivenNames x1
  have hx1 : Within k s0 x1 := by
    refine Within.foldl (fun t2 _ ht2 => ?_) _ ?_
    · exact State_ss1Commit_within (sub_trans rfl hk) ht2
    · exact h
  try clear_value x1
  extract_lets -underBinder +onlyGivenNames x3
  have hx3 : Within k s0 x3.2 := by
    refine Within.foldlSnd (fun t4 _ ht4 => ?_) _ ?_
    · extract_lets -underBinder +onlyGivenNames x5
      have hx5 : Within k s0 x5.2 := by
        exact State_soutEntry_within2 (sub_trans rfl hk) ht4
      try clear_value x5
      exact hx5
    · exact hx1
  try clear_value x3
  exact State_postResets_within (sub_trans rfl hk) (State_escProduce_within (sub_trans rfl hk) hx3)

theorem State_safApply_within {k : Nat} {s0 : State} {a0 : State} (hk : 67108864 &&& k = 67108864) (h : Within k s0 a0) : Within k s0 (State.safApply a0) := by
  unfold Sys2Proof.Machine.State.safApply
  exact Within.set_saf (sub_trans rfl hk) h

theorem State_showConf_within {k : Nat} {s0 : State} {a0 : State} (hk : 1 &&& k = 1) (h : Within k s0 a0) : Within k s0 (State.showConf a0) := by
  unfold Sys2Proof.Machine.State.showConf
  extract_lets -underBinder +onlyGivenNames x1
  try clear_value x1
  extract_lets -underBinder +onlyGivenNames x2
  have hx2 : Within k s0 x2 := by
    exact State_setReg_within (sub_trans rfl hk) (State_setReg_within (sub_trans rfl hk) h)
  try clear_value x2
  exact State_setFlag_within (sub_trans rfl hk) hx2

theorem State_showWindow_within {k : Nat} {s0 : State} {a0 : State} (hk : 1 &&& k = 1) (h : Within k s0 a0) : Within k s0 (State.showWindow a0) := by
  unfold Sys2Proof.Machine.State.showWindow
  split
  · exact State_setReg_within (sub_trans rfl hk) (State_setFlag_within (sub_trans rfl hk) h)
  · exact State_setReg_within (sub_trans rfl hk) (State_setFlag_within (sub_trans rfl hk) h)

theorem State_openWindow_within {k : Nat} {s0 : State} {a0 : State} {a1 : _} (hk : 67110149 &&& k = 67110149) (h : Within k s0 a0) : Within k s0 (State.openWindow a0 a1) := by
  unfold Sys2Proof.Machine.State.openWindow
  exact State_raise_within (sub_trans rfl hk) (State_showWindow_within (sub_trans rfl hk) (Within.set_saf (sub_trans rfl hk) h))

theorem State_confirmPress_within {k : Nat} {s0 : State} {a0 : State} {a1 : _} (hk : 34426852615 &&& k = 34426852615) (h : Within k s0 a0) : Within k s0 (State.confirmPress a0 a1) := by
  unfold Sys2Proof.Machine.State.confirmPress
  extract_lets -underBinder +onlyGivenNames x1
  extract_lets -underBinder +onlyGivenNames x2
  have hx2 : Within k s0 x2 := by
    exact State_copyWrite_within (sub_trans rfl hk) h
  extract_lets -underBinder +onlyGivenNames x3
  extract_lets -underBinder +onlyGivenNames x4
  extract_lets -underBinder +onlyGivenNames x5
  have hx5 : Within k s0 x5 := by
    exact State_raise_within (sub_trans rfl hk) (State_showConf_within (sub_trans rfl hk) (State_showWindow_within (sub_trans rfl hk) (Within.set_saf (sub_trans rfl hk) hx2)))
  extract_lets -underBinder +onlyGivenNames x6
  have hx6 : Within k s0 x6 := by
    unfold x6
    refine Within.ite (fun _ => ?_) (fun _ => ?_)
    · exact State_setFlag_within (sub_trans rfl hk) hx5
    · exact hx5
  refine Within.ite (fun _ => ?_) (fun _ => ?_)
  · exact State_armRequest_within (sub_trans rfl hk) hx6
  · exact hx6

theorem confExpiry_within {k : Nat} {s0 : State} {a0 : State} (hk : 67110205 &&& k = 67110205) (h : Within k s0 a0) : Within k s0 (confExpiry a0) := by
  unfold Sys2Proof.Machine.confExpiry
  split
  · extract_lets -underBinder +onlyGivenNames x1
    have hx1 : Within k s0 x1 := by
      exact State_toMono_within (sub_trans rfl hk) h
    try clear_value x1
    exact State_raise_within (sub_trans rfl hk) (State_showWindow_within (sub_trans rfl hk) (Within.set_saf (sub_trans rfl hk) hx1))
  · exact h

theorem execConfirmWindowExpiry_within {k : Nat} {s0 t : State} {a0 : State} (hk : 67110205 &&& k = 67110205) (h : Within k s0 a0) (e : execConfirmWindowExpiry a0 = .next t) : Within k s0 t := by
  unfold Sys2Proof.Machine.execConfirmWindowExpiry at e
  cases e
  exact confExpiry_within (sub_trans rfl hk) h

end Sys2Proof.Laws
end

