-- ==== Sys2Proof/Laws/WithinChanges.lean ====
section
/-! SUPPORT. What each operation of Machine/Changes.lean can do to the state (see Laws/Within.lean). -/

/- One thread: elaborating these many small proofs side by side can exceed the memory that check.sh allows. -/
set_option Elab.async false

namespace Sys2Proof.Laws
open Sys2Proof Sys2Proof.Machine

theorem State_journalAppend_within {k : Nat} {s0 : State} {a0 : State} {a1 : _} {a2 : _} {a3 : _} (hk : 3 &&& k = 3) (h : Within k s0 a0) : Within k s0 (State.journalAppend a0 a1 a2 a3) := by
  unfold Sys2Proof.Machine.State.journalAppend
  extract_lets -underBinder +onlyGivenNames x1
  try clear_value x1
  extract_lets -underBinder +onlyGivenNames x2
  try clear_value x2
  exact State_setFld_within (sub_trans rfl hk) (State_wrBytes_within (sub_trans rfl hk) h)

theorem State_journalEmpty_within {k : Nat} {s0 : State} {a0 : State} (hk : 3 &&& k = 3) (h : Within k s0 a0) : Within k s0 (State.journalEmpty a0) := by
  unfold Sys2Proof.Machine.State.journalEmpty
  exact State_setFld_within (sub_trans rfl hk) (State_wrBytes_within (sub_trans rfl hk) h)

theorem State_setRecord_within {k : Nat} {s0 : State} {a0 : State} {a1 : _} {a2 : _} {a3 : _} (hk : 1064960 &&& k = 1064960) (h : Within k s0 a0) : Within k s0 (State.setRecord a0 a1 a2 a3) := by
  unfold Sys2Proof.Machine.State.setRecord
  extract_lets -underBinder +onlyGivenNames x1
  try clear_value x1
  split
  · split
    · exact Within.set_img (sub_trans rfl hk) h
    · exact h
  · exact State_setTask_within (sub_trans rfl hk) h
  · exact State_setTask_within (sub_trans rfl hk) h
  · exact h

theorem State_applySet_within {k : Nat} {s0 : State} {a0 : State} {a1 : _} {a2 : _} {a3 : _} {a4 : _} {a5 : _} (hk : 537937157 &&& k = 537937157) (h : Within k s0 a0) : Within k s0 (State.applySet a0 a1 a2 a3 a4 a5) := by
  unfold Sys2Proof.Machine.State.applySet
  extract_lets -underBinder +onlyGivenNames x1
  try clear_value x1
  extract_lets -underBinder +onlyGivenNames x2
  try clear_value x2
  extract_lets -underBinder +onlyGivenNames x3
  have hx3 : Within k s0 x3 := by
    refine Within.foldl (fun t4 _ ht4 => ?_) _ ?_
    · exact State_setRecord_within (sub_trans rfl hk) ht4
    · exact h
  try clear_value x3
  extract_lets -underBinder +onlyGivenNames x5
  have hx5 : Within k s0 x5 := by
    refine Within.foldl (fun t6 _ ht6 => ?_) _ ?_
    · exact State_addBatch_within (sub_trans rfl hk) ht6
    · exact hx3
  try clear_value x5
  extract_lets -underBinder +onlyGivenNames x7
  have hx7 : Within k s0 x7 := by
    exact State_setFld_within (sub_trans rfl hk) (State_setReg_within (sub_trans rfl hk) (State_setReg_within (sub_trans rfl hk) hx5))
  try clear_value x7
  exact State_raise_within (sub_trans rfl hk) hx7

theorem State_takeSets_within {k : Nat} {s0 : State} {a0 : State} {a1 : _} {a2 : _} {a3 : _} (hk : 538199301 &&& k = 538199301) (h : Within k s0 a0) : Within k s0 (State.takeSets a0 a1 a2 a3) := by
  unfold Sys2Proof.Machine.State.takeSets
  extract_lets -underBinder +onlyGivenNames x1
  try clear_value x1
  extract_lets -underBinder +onlyGivenNames x2
  have hx2 : Within k s0 x2 := by
    exact Within.set_changes (sub_trans rfl hk) h
  try clear_value x2
  extract_lets -underBinder +onlyGivenNames x3
  have hx3 : Within k s0 x3 := by
    exact State_setFld_within (sub_trans rfl hk) hx2
  try clear_value x3
  refine Within.foldl (fun t4 _ ht4 => ?_) _ ?_
  · exact State_applySet_within (sub_trans rfl hk) ht4
  · exact hx3

end Sys2Proof.Laws
end

