-- ==== Sys2Proof/Laws/WithinComparator.lean ====
section
/-! SUPPORT. What each operation of Machine/Comparator.lean can do to the state (see Laws/Within.lean). -/

/- One thread: elaborating these many small proofs side by side can exceed the memory that check.sh allows. -/
set_option Elab.async false

namespace Sys2Proof.Laws
open Sys2Proof Sys2Proof.Machine

theorem State_stopPairs_within {k : Nat} {s0 : State} {a0 : State} {a1 : _} {a2 : _} (hk : 1 &&& k = 1) (h : Within k s0 a0) : Within k s0 (State.stopPairs a0 a1 a2) := by
  induction a2 generalizing a0 a1 with
  | nil =>
    unfold Sys2Proof.Machine.State.stopPairs
    exact h
  | cons _ _ ih =>
    unfold Sys2Proof.Machine.State.stopPairs
    apply ih
    refine Within.ite (fun _ => ?_) (fun _ => ?_)
    · exact h
    · exact State_setFlag_within (sub_trans rfl hk) h

theorem lockstepMismatch_within {k : Nat} {s0 : State} {a0 : _} {a1 : _} {a2 : State} (hk : 447755685127 &&& k = 447755685127) (h : Within k s0 a2) : Within k s0 (lockstepMismatch a0 a1 a2) := by
  unfold Sys2Proof.Machine.lockstepMismatch
  extract_lets -underBinder +onlyGivenNames x1
  try clear_value x1
  refine Within.ite (fun _ => ?_) (fun _ => ?_)
  · exact h
  · extract_lets -underBinder +onlyGivenNames x2
    have hx2 : Within k s0 x2 := by
      exact State_stopPairs_within (sub_trans rfl hk) h
    try clear_value x2
    extract_lets -underBinder +onlyGivenNames x3
    have hx3 : Within k s0 x3 := by
      exact State_setReg_within (sub_trans rfl hk) (State_setReg_within (sub_trans rfl hk) hx2)
    try clear_value x3
    extract_lets -underBinder +onlyGivenNames x4
    have hx4 : Within k s0 x4 := by
      exact State_setReg_within (sub_trans rfl hk) (State_setReg_within (sub_trans rfl hk) hx3)
    try clear_value x4
    exact State_unitFault_within (sub_trans rfl hk) (State_raise_within (sub_trans rfl hk) hx4)

theorem execLockstepMismatch_within {k : Nat} {s0 t : State} {a0 : _} {a1 : _} {a2 : State} (hk : 447755685127 &&& k = 447755685127) (h : Within k s0 a2) (e : execLockstepMismatch a0 a1 a2 = .next t) : Within k s0 t := by
  unfold Sys2Proof.Machine.execLockstepMismatch at e
  cases e
  exact lockstepMismatch_within (sub_trans rfl hk) h

theorem execCacheParityError_within {k : Nat} {s0 t : State} {a0 : _} {a1 : State} (hk : 1 &&& k = 1) (h : Within k s0 a1) (e : execCacheParityError a0 a1 = .next t) : Within k s0 t := by
  unfold Sys2Proof.Machine.execCacheParityError at e
  cases e
  refine Within.ite (fun _ => ?_) (fun _ => ?_)
  · exact h
  · exact State_bump_within (sub_trans rfl hk) h

theorem State_pairRestart_within {k : Nat} {s0 : State} {a0 : State} {a1 : _} {a2 : _} (hk : 34359753989 &&& k = 34359753989) (h : Within k s0 a0) : Within k s0 (State.pairRestart a0 a1 a2) := by
  unfold Sys2Proof.Machine.State.pairRestart
  extract_lets -underBinder +onlyGivenNames x1
  try clear_value x1
  extract_lets -underBinder +onlyGivenNames x2
  have hx2 : Within k s0 x2 := by
    exact State_setFld_within (sub_trans rfl hk) (domainReset_within (sub_trans rfl hk) h)
  try clear_value x2
  extract_lets -underBinder +onlyGivenNames x3
  have hx3 : Within k s0 x3 := by
    exact State_setFlag_within (sub_trans rfl hk) (State_raise_within (sub_trans rfl hk) hx2)
  try clear_value x3
  exact State_raise_within (sub_trans rfl hk) hx3

theorem cmpPairRestart_within {k : Nat} {s0 : State} {a0 : _} {a1 : _} {a2 : _} {a3 : State} (hk : 34359754117 &&& k = 34359754117) (h : Within k s0 a3) : Within k s0 (cmpPairRestart a0 a1 a2 a3) := by
  unfold Sys2Proof.Machine.cmpPairRestart
  refine Within.ite (fun _ => ?_) (fun _ => ?_)
  · exact State_denyWrite_within (sub_trans rfl hk) h
  · refine Within.ite (fun _ => ?_) (fun _ => ?_)
    · exact h
    · extract_lets -underBinder +onlyGivenNames x1
      have hx1 : Within k s0 x1 := by
        unfold x1
        refine Within.ite (fun _ => ?_) (fun _ => ?_)
        · exact State_pairRestart_within (sub_trans rfl hk) h
        · exact h
      try clear_value x1
      refine Within.ite (fun _ => ?_) (fun _ => ?_)
      · exact State_pairRestart_within (sub_trans rfl hk) hx1
      · exact hx1

theorem execCmpPairRestart_within {k : Nat} {s0 t : State} {a0 : _} {a1 : _} {a2 : _} {a3 : State} (hk : 34359754117 &&& k = 34359754117) (h : Within k s0 a3) (e : execCmpPairRestart a0 a1 a2 a3 = .next t) : Within k s0 t := by
  unfold Sys2Proof.Machine.execCmpPairRestart at e
  cases e
  exact cmpPairRestart_within (sub_trans rfl hk) h

theorem execPair0AutoRestart_within {k : Nat} {s0 t : State} {a0 : _} {a1 : State} (hk : 34359753989 &&& k = 34359753989) (h : Within k s0 a1) (e : execPair0AutoRestart a0 a1 = .next t) : Within k s0 t := by
  unfold Sys2Proof.Machine.execPair0AutoRestart at e
  cases e
  extract_lets -underBinder +onlyGivenNames x1
  try clear_value x1
  refine Within.ite (fun _ => ?_) (fun _ => ?_)
  · exact State_pairRestart_within (sub_trans rfl hk) (State_setFld_within (sub_trans rfl hk) h)
  · exact h

end Sys2Proof.Laws
end

