-- ==== Sys2Proof/Laws/WithinEvents.lean ====
section
/-! SUPPORT. What each operation of Machine/Events.lean can do to the state (see Laws/Within.lean). -/

/- One thread: elaborating these many small proofs side by side can exceed the memory that check.sh allows. -/
set_option Elab.async false

namespace Sys2Proof.Laws
open Sys2Proof Sys2Proof.Machine

theorem evtSwtrig_within {k : Nat} {s0 : State} {a0 : _} {a1 : _} {a2 : State} (hk : 1413 &&& k = 1413) (h : Within k s0 a2) : Within k s0 (evtSwtrig a0 a1 a2) := by
  unfold Sys2Proof.Machine.evtSwtrig
  refine Within.ite (fun _ => ?_) (fun _ => ?_)
  · exact State_denyWrite_within (sub_trans rfl hk) h
  · exact State_raise_within (sub_trans rfl hk) h

theorem execEvtSwtrig_within {k : Nat} {s0 t : State} {a0 : _} {a1 : _} {a2 : State} (hk : 1413 &&& k = 1413) (h : Within k s0 a2) (e : execEvtSwtrig a0 a1 a2 = .next t) : Within k s0 t := by
  unfold Sys2Proof.Machine.execEvtSwtrig at e
  cases e
  exact evtSwtrig_within (sub_trans rfl hk) h

theorem evtClaim_within {k : Nat} {s0 : State} {a0 : _} {a1 : _} {a2 : State} (hk : 193 &&& k = 193) (h : Within k s0 a2) : Within k s0 (evtClaim a0 a1 a2) := by
  unfold Sys2Proof.Machine.evtClaim
  extract_lets -underBinder +onlyGivenNames x1
  have hx1 : Within k s0 x1 := by
    exact State_ret_within (sub_trans rfl hk) h
  try clear_value x1
  split
  · exact hx1
  · refine Within.ite (fun _ => ?_) (fun _ => ?_)
    · exact State_setPending_within (sub_trans rfl hk) hx1
    · exact hx1

theorem execEvtClaim_within {k : Nat} {s0 t : State} {a0 : _} {a1 : _} {a2 : State} (hk : 193 &&& k = 193) (h : Within k s0 a2) (e : execEvtClaim a0 a1 a2 = .next t) : Within k s0 t := by
  unfold Sys2Proof.Machine.execEvtClaim at e
  cases e
  exact evtClaim_within (sub_trans rfl hk) h

end Sys2Proof.Laws
end

