-- ==== Sys2Proof/Laws/WithinLoader.lean ====
section
/-! SUPPORT. What each operation of Machine/Loader.lean can do to the state (see Laws/Within.lean). -/

/- One thread: elaborating these many small proofs side by side can exceed the memory that check.sh allows. -/
set_option Elab.async false

namespace Sys2Proof.Laws
open Sys2Proof Sys2Proof.Machine

theorem State_loadBegin_within {k : Nat} {s0 : State} {a0 : State} {a1 : _} {a2 : _} (hk : 65538 &&& k = 65538) (h : Within k s0 a0) : Within k s0 (State.loadBegin a0 a1 a2) := by
  unfold Sys2Proof.Machine.State.loadBegin
  extract_lets -underBinder +onlyGivenNames x1
  have hx1 : Within k s0 x1 := by
    exact State_wrBytes_within (sub_trans rfl hk) h
  try clear_value x1
  exact Within.set_load (sub_trans rfl hk) hx1

theorem State_loadBlock_within {k : Nat} {s0 : State} {a0 : State} {a1 : _} {a2 : _} {a3 : _} (hk : 65538 &&& k = 65538) (h : Within k s0 a0) : Within k s0 (State.loadBlock a0 a1 a2 a3) := by
  unfold Sys2Proof.Machine.State.loadBlock
  extract_lets -underBinder +onlyGivenNames x1
  try clear_value x1
  extract_lets -underBinder +onlyGivenNames x2
  have hx2 : Within k s0 x2 := by
    unfold x2
    refine Within.ite (fun _ => ?_) (fun _ => ?_)
    · exact State_wrBytes_within (sub_trans rfl hk) h
    · exact State_wrBytes_within (sub_trans rfl hk) h
  try clear_value x2
  extract_lets -underBinder +onlyGivenNames x3
  try clear_value x3
  exact Within.set_load (sub_trans rfl hk) hx2

theorem State_loadReject_within {k : Nat} {s0 : State} {a0 : State} {a1 : _} (hk : 1285 &&& k = 1285) (h : Within k s0 a0) : Within k s0 (State.loadReject a0 a1) := by
  unfold Sys2Proof.Machine.State.loadReject
  exact State_raise_within (sub_trans rfl hk) (State_setReg_within (sub_trans rfl hk) h)

theorem State_loadAccept_within {k : Nat} {s0 : State} {a0 : State} {a1 : _} {a2 : _} (hk : 1287 &&& k = 1287) (h : Within k s0 a0) : Within k s0 (State.loadAccept a0 a1 a2) := by
  unfold Sys2Proof.Machine.State.loadAccept
  extract_lets -underBinder +onlyGivenNames x1
  have hx1 : Within k s0 x1 := by
    exact State_journalEmpty_within (sub_trans rfl hk) (State_wrBytes_within (sub_trans rfl hk) h)
  try clear_value x1
  exact State_raise_within (sub_trans rfl hk) (State_setFld_within (sub_trans rfl hk) (State_setReg_within (sub_trans rfl hk) hx1))

end Sys2Proof.Laws
end

