-- ==== Sys2Proof/Laws/WithinPanel.lean ====
section
/-! SUPPORT. What each operation of Machine/Panel.lean can do to the state (see Laws/Within.lean). -/

/- One thread: elaborating these many small proofs side by side can exceed the memory that check.sh allows. -/
set_option Elab.async false

namespace Sys2Proof.Laws
open Sys2Proof Sys2Proof.Machine

theorem State_pnlShowRec_within {k : Nat} {s0 : State} {a0 : State} (hk : 1 &&& k = 1) (h : Within k s0 a0) : Within k s0 (State.pnlShowRec a0) := by
  unfold Sys2Proof.Machine.State.pnlShowRec
  split
  · exact State_setReg_within (sub_trans rfl hk) h
  · exact State_setReg_within (sub_trans rfl hk) h

theorem State_pnlRecord_within {k : Nat} {s0 : State} {a0 : State} {a1 : _} (hk : 3 &&& k = 3) (h : Within k s0 a0) : Within k s0 (State.pnlRecord a0 a1) := by
  unfold Sys2Proof.Machine.State.pnlRecord
  exact State_pnlShowRec_within (sub_trans rfl hk) (State_copyWrite_within (sub_trans rfl hk) h)

theorem State_pnlStart_within {k : Nat} {s0 : State} {a0 : State} (hk : 1 &&& k = 1) (h : Within k s0 a0) : Within k s0 (State.pnlStart a0) := by
  unfold Sys2Proof.Machine.State.pnlStart
  extract_lets -underBinder +onlyGivenNames x1
  have hx1 : Within k s0 x1 := by
    exact State_pnlShowRec_within (sub_trans rfl hk) h
  try clear_value x1
  exact State_setFlag_within (sub_trans rfl hk) hx1

theorem State_pnlRequest_within {k : Nat} {s0 : State} {a0 : State} {a1 : _} (hk : 512 &&& k = 512) (h : Within k s0 a0) : Within k s0 (State.pnlRequest a0 a1) := by
  unfold Sys2Proof.Machine.State.pnlRequest
  exact Within.set_pnl (sub_trans rfl hk) h

theorem pnlCtrl_within {k : Nat} {s0 : State} {a0 : _} {a1 : _} {a2 : State} (hk : 1925 &&& k = 1925) (h : Within k s0 a2) : Within k s0 (pnlCtrl a0 a1 a2) := by
  unfold Sys2Proof.Machine.pnlCtrl
  refine Within.ite (fun _ => ?_) (fun _ => ?_)
  · exact State_denyWrite_within (sub_trans rfl hk) h
  · refine Within.ite (fun _ => ?_) (fun _ => ?_)
    · exact h
    · extract_lets -underBinder +onlyGivenNames x1
      have hx1 : Within k s0 x1 := by
        unfold x1
        refine Within.ite (fun _ => ?_) (fun _ => ?_)
        · exact State_pnlRequest_within (sub_trans rfl hk) h
        · exact h
      try clear_value x1
      refine Within.ite (fun _ => ?_) (fun _ => ?_)
      · exact State_setFlag_within (sub_trans rfl hk) (Within.set_pnl (sub_trans rfl hk) hx1)
      · exact hx1

theorem execPnlUpdate_within {k : Nat} {s0 t : State} {a0 : _} {a1 : _} {a2 : State} (hk : 1925 &&& k = 1925) (h : Within k s0 a2) (e : execPnlUpdate a0 a1 a2 = .next t) : Within k s0 t := by
  unfold Sys2Proof.Machine.execPnlUpdate at e
  cases e
  exact pnlCtrl_within (sub_trans rfl hk) h

theorem execPnlFull_within {k : Nat} {s0 t : State} {a0 : _} {a1 : _} {a2 : State} (hk : 1925 &&& k = 1925) (h : Within k s0 a2) (e : execPnlFull a0 a1 a2 = .next t) : Within k s0 t := by
  unfold Sys2Proof.Machine.execPnlFull at e
  cases e
  exact pnlCtrl_within (sub_trans rfl hk) h

theorem State_pnlBadCrc_within {k : Nat} {s0 : State} {a0 : State} (hk : 1287 &&& k = 1287) (h : Within k s0 a0) : Within k s0 (State.pnlBadCrc a0) := by
  unfold Sys2Proof.Machine.State.pnlBadCrc
  extract_lets -underBinder +onlyGivenNames x1
  try clear_value x1
  extract_lets -underBinder +onlyGivenNames x2
  have hx2 : Within k s0 x2 := by
    exact State_setFlag_within (sub_trans rfl hk) (State_pnlRecord_within (sub_trans rfl hk) h)
  try clear_value x2
  exact State_raise_within (sub_trans rfl hk) hx2

theorem pnlCrcCheck_within {k : Nat} {s0 : State} {a0 : State} (hk : 1287 &&& k = 1287) (h : Within k s0 a0) : Within k s0 (pnlCrcCheck a0) := by
  unfold Sys2Proof.Machine.pnlCrcCheck
  refine Within.ite (fun _ => ?_) (fun _ => ?_)
  · exact h
  · exact State_pnlBadCrc_within (sub_trans rfl hk) h

theorem execPnlCrcCheck_within {k : Nat} {s0 t : State} {a0 : State} (hk : 1287 &&& k = 1287) (h : Within k s0 a0) (e : execPnlCrcCheck a0 = .next t) : Within k s0 t := by
  unfold Sys2Proof.Machine.execPnlCrcCheck at e
  cases e
  exact pnlCrcCheck_within (sub_trans rfl hk) h

theorem pnlTemp_within {k : Nat} {s0 : State} {a0 : _} {a1 : State} (hk : 1285 &&& k = 1285) (h : Within k s0 a1) : Within k s0 (pnlTemp a0 a1) := by
  unfold Sys2Proof.Machine.pnlTemp
  extract_lets -underBinder +onlyGivenNames x1
  have hx1 : Within k s0 x1 := by
    exact State_setFld_within (sub_trans rfl hk) (State_setFld_within (sub_trans rfl hk) h)
  try clear_value x1
  extract_lets -underBinder +onlyGivenNames x2
  try clear_value x2
  extract_lets -underBinder +onlyGivenNames x3
  try clear_value x3
  refine Within.ite (fun _ => ?_) (fun _ => ?_)
  · exact hx1
  · exact State_raise_within (sub_trans rfl hk) (State_setFlag_within (sub_trans rfl hk) hx1)

theorem execPnlTempMeasure_within {k : Nat} {s0 t : State} {a0 : _} {a1 : State} (hk : 1285 &&& k = 1285) (h : Within k s0 a1) (e : execPnlTempMeasure a0 a1 = .next t) : Within k s0 t := by
  unfold Sys2Proof.Machine.execPnlTempMeasure at e
  cases e
  exact pnlTemp_within (sub_trans rfl hk) h

theorem State_pnlRun_within {k : Nat} {s0 : State} {a0 : State} {a1 : _} {a2 : _} {a3 : _} {a4 : _} {a5 : _} (hk : 515 &&& k = 515) (h : Within k s0 a0) : Within k s0 (State.pnlRun a0 a1 a2 a3 a4 a5) := by
  unfold Sys2Proof.Machine.State.pnlRun
  extract_lets -underBinder +onlyGivenNames x1
  try clear_value x1
  extract_lets -underBinder +onlyGivenNames x2
  try clear_value x2
  extract_lets -underBinder +onlyGivenNames x3
  try clear_value x3
  extract_lets -underBinder +onlyGivenNames x4
  try clear_value x4
  extract_lets -underBinder +onlyGivenNames x5
  have hx5 : Within k s0 x5 := by
    exact Within.set_pnl (sub_trans rfl hk) h
  try clear_value x5
  extract_lets -underBinder +onlyGivenNames x6
  have hx6 : Within k s0 x6 := by
    exact State_setFld_within (sub_trans rfl hk) (State_setFlag_within (sub_trans rfl hk) (State_setFlag_within (sub_trans rfl hk) hx5))
  try clear_value x6
  exact State_pnlRecord_within (sub_trans rfl hk) hx6

theorem State_pnlRecover_within {k : Nat} {s0 : State} {a0 : State} (hk : 1799 &&& k = 1799) (h : Within k s0 a0) : Within k s0 (State.pnlRecover a0) := by
  unfold Sys2Proof.Machine.State.pnlRecover
  extract_lets -underBinder +onlyGivenNames x1
  try clear_value x1
  extract_lets -underBinder +onlyGivenNames x2
  try clear_value x2
  extract_lets -underBinder +onlyGivenNames x3
  have hx3 : Within k s0 x3 := by
    unfold x3
    refine Within.ite (fun _ => ?_) (fun _ => ?_)
    · exact State_raise_within (sub_trans rfl hk) h
    · exact h
  try clear_value x3
  extract_lets -underBinder +onlyGivenNames x4
  try clear_value x4
  exact State_pnlRun_within (sub_trans rfl hk) hx3

theorem pnlUpdateStart_within {k : Nat} {s0 : State} {a0 : State} (hk : 1799 &&& k = 1799) (h : Within k s0 a0) : Within k s0 (pnlUpdateStart a0) := by
  unfold Sys2Proof.Machine.pnlUpdateStart
  refine Within.ite (fun _ => ?_) (fun _ => ?_)
  · extract_lets -underBinder +onlyGivenNames x1
    have hx1 : Within k s0 x1 := by
      unfold x1
      refine Within.ite (fun _ => ?_) (fun _ => ?_)
      · exact h
      · exact State_pnlBadCrc_within (sub_trans rfl hk) h
    try clear_value x1
    refine Within.ite (fun _ => ?_) (fun _ => ?_)
    · exact State_pnlRecover_within (sub_trans rfl hk) hx1
    · split
      · exact State_pnlRun_within (sub_trans rfl hk) hx1
      · exact hx1
  · exact h

theorem execPnlUpdateStart_within {k : Nat} {s0 t : State} {a0 : State} (hk : 1799 &&& k = 1799) (h : Within k s0 a0) (e : execPnlUpdateStart a0 = .next t) : Within k s0 t := by
  unfold Sys2Proof.Machine.execPnlUpdateStart at e
  cases e
  exact pnlUpdateStart_within (sub_trans rfl hk) h

theorem execPnlRecovery_within {k : Nat} {s0 t : State} {a0 : State} (hk : 1799 &&& k = 1799) (h : Within k s0 a0) (e : execPnlRecovery a0 = .next t) : Within k s0 t := by
  unfold Sys2Proof.Machine.execPnlRecovery at e
  cases e
  refine Within.ite (fun _ => ?_) (fun _ => ?_)
  · exact State_pnlRecover_within (sub_trans rfl hk) h
  · exact h

theorem pnlRailFail_within {k : Nat} {s0 : State} {a0 : State} (hk : 1799 &&& k = 1799) (h : Within k s0 a0) : Within k s0 (pnlRailFail a0) := by
  unfold Sys2Proof.Machine.pnlRailFail
  split
  · refine Within.ite (fun _ => ?_) (fun _ => ?_)
    · extract_lets -underBinder +onlyGivenNames x1
      have hx1 : Within k s0 x1 := by
        exact State_setFlag_within (sub_trans rfl hk) (State_setFlag_within (sub_trans rfl hk) h)
      try clear_value x1
      extract_lets -underBinder +onlyGivenNames x2
      have hx2 : Within k s0 x2 := by
        exact State_pnlRecord_within (sub_trans rfl hk) hx1
      try clear_value x2
      extract_lets -underBinder +onlyGivenNames x3
      try clear_value x3
      extract_lets -underBinder +onlyGivenNames x4
      have hx4 : Within k s0 x4 := by
        exact Within.set_pnl (sub_trans rfl hk) hx2
      try clear_value x4
      refine State_raise_within (sub_trans rfl hk) ?_
      refine Within.ite (fun _ => ?_) (fun _ => ?_)
      · exact hx4
      · exact State_pnlRequest_within (sub_trans rfl hk) hx4
    · exact h
  · exact h

theorem execPnlRailFail_within {k : Nat} {s0 t : State} {a0 : State} (hk : 1799 &&& k = 1799) (h : Within k s0 a0) (e : execPnlRailFail a0 = .next t) : Within k s0 t := by
  unfold Sys2Proof.Machine.execPnlRailFail at e
  cases e
  exact pnlRailFail_within (sub_trans rfl hk) h

theorem pnlFrame_within {k : Nat} {s0 : State} {a0 : State} (hk : 57 &&& k = 57) (h : Within k s0 a0) : Within k s0 (pnlFrame a0) := by
  unfold Sys2Proof.Machine.pnlFrame
  split
  · extract_lets -underBinder +onlyGivenNames x1
    try clear_value x1
    refine Within.ite (fun _ => ?_) (fun _ => ?_)
    · exact State_setFld_within (sub_trans rfl hk) (State_toMono_within (sub_trans rfl hk) h)
    · exact h
  · exact h

theorem execPnlFrame_within {k : Nat} {s0 t : State} {a0 : State} (hk : 57 &&& k = 57) (h : Within k s0 a0) (e : execPnlFrame a0 = .next t) : Within k s0 t := by
  unfold Sys2Proof.Machine.execPnlFrame at e
  cases e
  exact pnlFrame_within (sub_trans rfl hk) h

theorem State_pnlReport_within {k : Nat} {s0 : State} {a0 : State} {a1 : _} {a2 : _} (hk : 1797 &&& k = 1797) (h : Within k s0 a0) : Within k s0 (State.pnlReport a0 a1 a2) := by
  unfold Sys2Proof.Machine.State.pnlReport
  refine Within.ite (fun _ => ?_) (fun _ => ?_)
  · exact State_raise_within (sub_trans rfl hk) (State_setFlag_within (sub_trans rfl hk) (Within.set_pnl (sub_trans rfl hk) h))
  · exact State_raise_within (sub_trans rfl hk) (State_bump_within (sub_trans rfl hk) h)

theorem pnlCommit_within {k : Nat} {s0 : State} {a0 : State} (hk : 1799 &&& k = 1799) (h : Within k s0 a0) : Within k s0 (pnlCommit a0) := by
  unfold Sys2Proof.Machine.pnlCommit
  split
  · refine Within.ite (fun _ => ?_) (fun _ => ?_)
    · exact h
    · extract_lets -underBinder +onlyGivenNames x1
      try clear_value x1
      extract_lets -underBinder +onlyGivenNames x2
      try clear_value x2
      extract_lets -underBinder +onlyGivenNames x3
      have hx3 : Within k s0 x3 := by
        exact Within.set_pnl (sub_trans rfl hk) h
      try clear_value x3
      extract_lets -underBinder +onlyGivenNames x4
      have hx4 : Within k s0 x4 := by
        exact State_setFld_within (sub_trans rfl hk) hx3
      try clear_value x4
      extract_lets -underBinder +onlyGivenNames x5
      have hx5 : Within k s0 x5 := by
        exact State_pnlRecord_within (sub_trans rfl hk) hx4
      try clear_value x5
      exact State_pnlReport_within (sub_trans rfl hk) (State_setFlag_within (sub_trans rfl hk) (State_setFlag_within (sub_trans rfl hk) hx5))
  · exact h

theorem execPnlUpdateCommit_within {k : Nat} {s0 t : State} {a0 : State} (hk : 1799 &&& k = 1799) (h : Within k s0 a0) (e : execPnlUpdateCommit a0 = .next t) : Within k s0 t := by
  unfold Sys2Proof.Machine.execPnlUpdateCommit at e
  cases e
  exact pnlCommit_within (sub_trans rfl hk) h

theorem State_panelCut_within {k : Nat} {s0 : State} {a0 : State} (hk : 1799 &&& k = 1799) (h : Within k s0 a0) : Within k s0 (State.panelCut a0) := by
  unfold Sys2Proof.Machine.State.panelCut
  split
  · extract_lets -underBinder +onlyGivenNames x1
    try clear_value x1
    extract_lets -underBinder +onlyGivenNames x2
    try clear_value x2
    extract_lets -underBinder +onlyGivenNames x3
    have hx3 : Within k s0 x3 := by
      exact Within.set_pnl (sub_trans rfl hk) h
    try clear_value x3
    extract_lets -underBinder +onlyGivenNames x4
    have hx4 : Within k s0 x4 := by
      exact State_setFlag_within (sub_trans rfl hk) (State_setFlag_within (sub_trans rfl hk) (State_setFlag_within (sub_trans rfl hk) hx3))
    try clear_value x4
    extract_lets -underBinder +onlyGivenNames x5
    have hx5 : Within k s0 x5 := by
      exact State_pnlRecord_within (sub_trans rfl hk) hx4
    try clear_value x5
    exact State_raise_within (sub_trans rfl hk) hx5
  · exact h

theorem pnlFbdata_within {k : Nat} {s0 : State} {a0 : _} {a1 : _} {a2 : State} (hk : 1989 &&& k = 1989) (h : Within k s0 a2) : Within k s0 (pnlFbdata a0 a1 a2) := by
  unfold Sys2Proof.Machine.pnlFbdata
  extract_lets -underBinder +onlyGivenNames x1
  try clear_value x1
  extract_lets -underBinder +onlyGivenNames x2
  have hx2 : ∀ tx2, Within k s0 tx2 → Within k s0 (x2 tx2) := by
    intro tx2 htx2
    refine Within.ite (fun _ => ?_) (fun _ => ?_)
    · exact State_setFld_within (sub_trans rfl hk) htx2
    · exact htx2
  try clear_value x2
  split
  · refine hx2 _ ?_
    exact State_ret_within (sub_trans rfl hk) h
  · refine Within.ite (fun _ => ?_) (fun _ => ?_)
    · exact State_denyWrite_within (sub_trans rfl hk) h
    · refine Within.ite (fun _ => ?_) (fun _ => ?_)
      · refine hx2 _ ?_
        exact h
      · refine hx2 _ ?_
        exact Within.set_pnl (sub_trans rfl hk) h

theorem execPnlFbdataAccess_within {k : Nat} {s0 t : State} {a0 : _} {a1 : _} {a2 : State} (hk : 1989 &&& k = 1989) (h : Within k s0 a2) (e : execPnlFbdataAccess a0 a1 a2 = .next t) : Within k s0 t := by
  unfold Sys2Proof.Machine.execPnlFbdataAccess at e
  cases e
  exact pnlFbdata_within (sub_trans rfl hk) h

end Sys2Proof.Laws
end

