-- ==== Sys2Proof/Laws/WithinNet.lean ====
section
/-! SUPPORT. What each operation of Machine/Net.lean can do to the state (see Laws/Within.lean). -/

/- One thread: elaborating these many small proofs side by side can exceed the memory that check.sh allows. -/
set_option Elab.async false

namespace Sys2Proof.Laws
open Sys2Proof Sys2Proof.Machine

theorem State_macLearn_within {k : Nat} {s0 : State} {a0 : State} {a1 : _} {a2 : _} (hk : 2147483648 &&& k = 2147483648) (h : Within k s0 a0) : Within k s0 (State.macLearn a0 a1 a2) := by
  unfold Sys2Proof.Machine.State.macLearn
  extract_lets -underBinder +onlyGivenNames x1
  try clear_value x1
  exact Within.set_net (sub_trans rfl hk) h

theorem State_forward_within {k : Nat} {s0 : State} {a0 : State} {a1 : _} {a2 : _} {a3 : _} {a4 : _} (hk : 137438953472 &&& k = 137438953472) (h : Within k s0 a0) : Within k s0 (State.forward a0 a1 a2 a3 a4) := by
  unfold Sys2Proof.Machine.State.forward
  refine Within.foldl (fun t1 _ ht1 => ?_) _ ?_
  · exact State_send_within (sub_trans rfl hk) ht1
  · exact h

theorem State_hostSend_within {k : Nat} {s0 : State} {a0 : State} {a1 : _} {a2 : _} (hk : 137438953472 &&& k = 137438953472) (h : Within k s0 a0) : Within k s0 (State.hostSend a0 a1 a2) := by
  unfold Sys2Proof.Machine.State.hostSend
  refine Within.ite (fun _ => ?_) (fun _ => ?_)
  · refine Within.ite (fun _ => ?_) (fun _ => ?_)
    · exact State_send_within (sub_trans rfl hk) h
    · exact h
  · refine Within.foldl (fun t1 _ ht1 => ?_) _ ?_
    · exact State_send_within (sub_trans rfl hk) ht1
    · exact h

theorem State_storm_within2 {k : Nat} {s0 : State} {a0 : State} {a1 : _} (hk : 2147484933 &&& k = 2147484933) (h : Within k s0 a0) : Within k s0 (State.storm a0 a1).2 := by
  unfold Sys2Proof.Machine.State.storm
  split
  · exact h
  · extract_lets -underBinder +onlyGivenNames x1
    try clear_value x1
    extract_lets -underBinder +onlyGivenNames x2
    try clear_value x2
    extract_lets -underBinder +onlyGivenNames x3
    try clear_value x3
    extract_lets -underBinder +onlyGivenNames x4
    have hx4 : Within k s0 x4 := by
      exact Within.set_net (sub_trans rfl hk) h
    try clear_value x4
    split
    · exact hx4
    · exact State_raise_within (sub_trans rfl hk) (State_bump_within (sub_trans rfl hk) hx4)

theorem State_toHostQueue_within {k : Nat} {s0 : State} {a0 : State} {a1 : _} {a2 : _} {a3 : _} {a4 : _} {a5 : _} (hk : 277025391879 &&& k = 277025391879) (h : Within k s0 a0) : Within k s0 (State.toHostQueue a0 a1 a2 a3 a4 a5) := by
  unfold Sys2Proof.Machine.State.toHostQueue
  extract_lets -underBinder +onlyGivenNames x1
  try clear_value x1
  extract_lets -underBinder +onlyGivenNames x2
  try clear_value x2
  extract_lets -underBinder +onlyGivenNames x3
  try clear_value x3
  extract_lets -underBinder +onlyGivenNames x4
  try clear_value x4
  extract_lets -underBinder +onlyGivenNames x5
  have hx5 : Within k s0 x5 := by
    exact State_draw_within (sub_trans rfl hk) h
  try clear_value x5
  extract_lets -underBinder +onlyGivenNames x6
  have hx6 : Within k s0 x6 := by
    exact State_wrBytes_within (sub_trans rfl hk) hx5
  try clear_value x6
  extract_lets -underBinder +onlyGivenNames x7
  try clear_value x7
  extract_lets -underBinder +onlyGivenNames x8
  try clear_value x8
  extract_lets -underBinder +onlyGivenNames x9
  have hx9 : Within k s0 x9 := by
    exact Within.set_net (sub_trans rfl hk) hx6
  try clear_value x9
  exact State_push_within (sub_trans rfl hk) hx9

theorem State_answer_within {k : Nat} {s0 : State} {a0 : State} {a1 : _} {a2 : _} (hk : 137438953472 &&& k = 137438953472) (h : Within k s0 a0) : Within k s0 (State.answer a0 a1 a2) := by
  unfold Sys2Proof.Machine.State.answer
  refine Within.ite (fun _ => ?_) (fun _ => ?_)
  · exact h
  · split
    · exact State_hostSend_within (sub_trans rfl hk) h
    · exact State_hostSend_within (sub_trans rfl hk) h
    · exact h

theorem State_delayReply_within {k : Nat} {s0 : State} {a0 : State} {a1 : _} {a2 : _} {a3 : _} (hk : 137438953472 &&& k = 137438953472) (h : Within k s0 a0) : Within k s0 (State.delayReply a0 a1 a2 a3) := by
  unfold Sys2Proof.Machine.State.delayReply
  split
  · refine Within.ite (fun _ => ?_) (fun _ => ?_)
    · extract_lets -underBinder +onlyGivenNames x1
      try clear_value x1
      extract_lets -underBinder +onlyGivenNames x2
      try clear_value x2
      exact State_hostSend_within (sub_trans rfl hk) h
    · exact h
  · exact h

theorem State_tsLost_within {k : Nat} {s0 : State} {a0 : State} {a1 : _} {a2 : _} {a3 : _} (hk : 1285 &&& k = 1285) (h : Within k s0 a0) : Within k s0 (State.tsLost a0 a1 a2 a3) := by
  unfold Sys2Proof.Machine.State.tsLost
  refine Within.ite (fun _ => ?_) (fun _ => ?_)
  · exact State_raise_within (sub_trans rfl hk) h
  · exact h

theorem State_hostTake_within {k : Nat} {s0 : State} {a0 : State} {a1 : _} {a2 : _} {a3 : _} {a4 : _} {a5 : _} (hk : 414598563079 &&& k = 414598563079) (h : Within k s0 a0) : Within k s0 (State.hostTake a0 a1 a2 a3 a4 a5) := by
  unfold Sys2Proof.Machine.State.hostTake
  refine Within.ite (fun _ => ?_) (fun _ => ?_)
  · refine Within.ite (fun _ => ?_) (fun _ => ?_)
    · exact ecxAck_within (sub_trans rfl hk) h
    · exact ecxIn_within (sub_trans rfl hk) h
  · extract_lets -underBinder +onlyGivenNames x1
    have hx1 : Within k s0 x1.2 := by
      exact State_storm_within2 (sub_trans rfl hk) h
    try clear_value x1
    refine Within.ite (fun _ => ?_) (fun _ => ?_)
    · exact State_delayReply_within (sub_trans rfl hk) (State_answer_within (sub_trans rfl hk) (State_toHostQueue_within (sub_trans rfl hk) (State_tsLost_within (sub_trans rfl hk) hx1)))
    · exact hx1

theorem ethFrame_within {k : Nat} {s0 : State} {a0 : _} {a1 : _} {a2 : _} {a3 : _} {a4 : _} {a5 : State} (hk : 414598563079 &&& k = 414598563079) (h : Within k s0 a5) : Within k s0 (ethFrame a0 a1 a2 a3 a4 a5) := by
  unfold Sys2Proof.Machine.ethFrame
  refine Within.ite (fun _ => ?_) (fun _ => ?_)
  · exact h
  · extract_lets -underBinder +onlyGivenNames x1
    have hx1 : Within k s0 x1 := by
      exact State_macLearn_within (sub_trans rfl hk) h
    try clear_value x1
    extract_lets -underBinder +onlyGivenNames x2
    have hx2 : Within k s0 x2 := by
      unfold x2
      refine Within.ite (fun _ => ?_) (fun _ => ?_)
      · exact hx1
      · exact State_forward_within (sub_trans rfl hk) hx1
    try clear_value x2
    refine Within.ite (fun _ => ?_) (fun _ => ?_)
    · exact State_hostTake_within (sub_trans rfl hk) hx2
    · exact hx2

theorem execEthFrameReceived_within {k : Nat} {s0 t : State} {a0 : _} {a1 : _} {a2 : _} {a3 : _} {a4 : _} {a5 : State} (hk : 414598563079 &&& k = 414598563079) (h : Within k s0 a5) (e : execEthFrameReceived a0 a1 a2 a3 a4 a5 = .next t) : Within k s0 t := by
  unfold Sys2Proof.Machine.execEthFrameReceived at e
  cases e
  exact ethFrame_within (sub_trans rfl hk) h

theorem State_mrpSet_within {k : Nat} {s0 : State} {a0 : State} {a1 : _} {a2 : _} (hk : 1285 &&& k = 1285) (h : Within k s0 a0) : Within k s0 (State.mrpSet a0 a1 a2) := by
  unfold Sys2Proof.Machine.State.mrpSet
  refine Within.ite (fun _ => ?_) (fun _ => ?_)
  · exact h
  · extract_lets -underBinder +onlyGivenNames x1
    have hx1 : Within k s0 x1 := by
      exact State_setFld_within (sub_trans rfl hk) h
    try clear_value x1
    exact State_raise_within (sub_trans rfl hk) hx1

theorem State_mrpLink_within {k : Nat} {s0 : State} {a0 : State} {a1 : _} {a2 : _} (hk : 139586438405 &&& k = 139586438405) (h : Within k s0 a0) : Within k s0 (State.mrpLink a0 a1 a2) := by
  unfold Sys2Proof.Machine.State.mrpLink
  split
  · exact h
  · refine Within.ite (fun _ => ?_) (fun _ => ?_)
    · exact h
    · extract_lets -underBinder +onlyGivenNames x1
      have hx1 : Within k s0 x1 := by
        exact State_mrpSet_within (sub_trans rfl hk) h
      try clear_value x1
      extract_lets -underBinder +onlyGivenNames x2
      try clear_value x2
      extract_lets -underBinder +onlyGivenNames x3
      try clear_value x3
      extract_lets -underBinder +onlyGivenNames x4
      have hx4 : Within k s0 x4 := by
        exact Within.set_net (sub_trans rfl hk) hx1
      try clear_value x4
      refine Within.ite (fun _ => ?_) (fun _ => ?_)
      · exact State_send_within (sub_trans rfl hk) hx4
      · exact hx4

theorem ethLink_within {k : Nat} {s0 : State} {a0 : _} {a1 : _} {a2 : State} (hk : 139586438405 &&& k = 139586438405) (h : Within k s0 a2) : Within k s0 (ethLink a0 a1 a2) := by
  unfold Sys2Proof.Machine.ethLink
  refine Within.ite (fun _ => ?_) (fun _ => ?_)
  · exact h
  · extract_lets -underBinder +onlyGivenNames x1
    have hx1 : Within k s0 x1 := by
      exact State_raise_within (sub_trans rfl hk) (State_bump_within (sub_trans rfl hk) (State_setFlag_within (sub_trans rfl hk) h))
    try clear_value x1
    exact State_mrpLink_within (sub_trans rfl hk) hx1

theorem execEthLinkChange_within {k : Nat} {s0 t : State} {a0 : _} {a1 : _} {a2 : State} (hk : 139586438405 &&& k = 139586438405) (h : Within k s0 a2) (e : execEthLinkChange a0 a1 a2 = .next t) : Within k s0 t := by
  unfold Sys2Proof.Machine.execEthLinkChange at e
  cases e
  exact ethLink_within (sub_trans rfl hk) h

theorem mrpTopology_within {k : Nat} {s0 : State} {a0 : State} (hk : 2147484933 &&& k = 2147484933) (h : Within k s0 a0) : Within k s0 (mrpTopology a0) := by
  unfold Sys2Proof.Machine.mrpTopology
  refine Within.ite (fun _ => ?_) (fun _ => ?_)
  · exact h
  · extract_lets -underBinder +onlyGivenNames x1
    try clear_value x1
    extract_lets -underBinder +onlyGivenNames x2
    have hx2 : Within k s0 x2 := by
      exact State_raise_within (sub_trans rfl hk) (State_bump_within (sub_trans rfl hk) (Within.set_net (sub_trans rfl hk) h))
    try clear_value x2
    refine Within.foldl (fun t3 _ ht3 => ?_) _ ?_
    · refine Within.ite (fun _ => ?_) (fun _ => ?_)
      · exact State_mrpSet_within (sub_trans rfl hk) ht3
      · exact ht3
    · exact hx2

theorem execMrpTopologyChange_within {k : Nat} {s0 t : State} {a0 : State} (hk : 2147484933 &&& k = 2147484933) (h : Within k s0 a0) (e : execMrpTopologyChange a0 = .next t) : Within k s0 t := by
  unfold Sys2Proof.Machine.execMrpTopologyChange at e
  cases e
  exact mrpTopology_within (sub_trans rfl hk) h

end Sys2Proof.Laws
end

