-- ==== Sys2Proof/Laws/WithinPtp.lean ====
section
/-! SUPPORT. What each operation of Machine/Ptp.lean can do to the state (see Laws/Within.lean). -/

/- One thread: elaborating these many small proofs side by side can exceed the memory that check.sh allows. -/
set_option Elab.async false

namespace Sys2Proof.Laws
open Sys2Proof Sys2Proof.Machine

theorem State_setAddend_within {k : Nat} {s0 : State} {a0 : State} {a1 : _} (hk : 1285 &&& k = 1285) (h : Within k s0 a0) : Within k s0 (State.setAddend a0 a1) := by
  unfold Sys2Proof.Machine.State.setAddend
  extract_lets -underBinder +onlyGivenNames x1
  try clear_value x1
  extract_lets -underBinder +onlyGivenNames x2
  have hx2 : Within k s0 x2 := by
    exact State_setFld_within (sub_trans rfl hk) h
  try clear_value x2
  refine Within.ite (fun _ => ?_) (fun _ => ?_)
  · exact hx2
  · exact State_raise_within (sub_trans rfl hk) (State_setFlag_within (sub_trans rfl hk) hx2)

theorem ptpAddend_within {k : Nat} {s0 : State} {a0 : _} {a1 : _} {a2 : State} (hk : 1413 &&& k = 1413) (h : Within k s0 a2) : Within k s0 (ptpAddend a0 a1 a2) := by
  unfold Sys2Proof.Machine.ptpAddend
  refine Within.ite (fun _ => ?_) (fun _ => ?_)
  · exact State_setAddend_within (sub_trans rfl hk) h
  · exact State_denyWrite_within (sub_trans rfl hk) h

theorem execPtpAddendWrite_within {k : Nat} {s0 t : State} {a0 : _} {a1 : _} {a2 : State} (hk : 1413 &&& k = 1413) (h : Within k s0 a2) (e : execPtpAddendWrite a0 a1 a2 = .next t) : Within k s0 t := by
  unfold Sys2Proof.Machine.execPtpAddendWrite at e
  cases e
  exact ptpAddend_within (sub_trans rfl hk) h

theorem State_stepTime_within {k : Nat} {s0 : State} {a0 : State} {a1 : _} (hk : 8 &&& k = 8) (h : Within k s0 a0) : Within k s0 (State.stepTime a0 a1) := by
  unfold Sys2Proof.Machine.State.stepTime
  exact Within.set_now (sub_trans rfl hk) h

theorem ptpStep_within {k : Nat} {s0 : State} {a0 : _} {a1 : _} {a2 : State} (hk : 1421 &&& k = 1421) (h : Within k s0 a2) : Within k s0 (ptpStep a0 a1 a2) := by
  unfold Sys2Proof.Machine.ptpStep
  refine Within.ite (fun _ => ?_) (fun _ => ?_)
  · exact State_denyWrite_within (sub_trans rfl hk) h
  · refine Within.ite (fun _ => ?_) (fun _ => ?_)
    · exact h
    · refine Within.ite (fun _ => ?_) (fun _ => ?_)
      · exact State_raise_within (sub_trans rfl hk) (State_setFlag_within (sub_trans rfl hk) h)
      · exact State_stepTime_within (sub_trans rfl hk) h

theorem execPtpStep_within {k : Nat} {s0 t : State} {a0 : _} {a1 : _} {a2 : State} (hk : 1421 &&& k = 1421) (h : Within k s0 a2) (e : execPtpStep a0 a1 a2 = .next t) : Within k s0 t := by
  unfold Sys2Proof.Machine.execPtpStep at e
  cases e
  exact ptpStep_within (sub_trans rfl hk) h

theorem State_ownTrace_within {k : Nat} {s0 : State} {a0 : State} (hk : 1 &&& k = 1) (h : Within k s0 a0) : Within k s0 (State.ownTrace a0) := by
  unfold Sys2Proof.Machine.State.ownTrace
  exact State_setFlag_within (sub_trans rfl hk) h

theorem State_ptpState_within {k : Nat} {s0 : State} {a0 : State} {a1 : _} (hk : 4294968581 &&& k = 4294968581) (h : Within k s0 a0) : Within k s0 (State.ptpState a0 a1) := by
  unfold Sys2Proof.Machine.State.ptpState
  extract_lets -underBinder +onlyGivenNames x1
  try clear_value x1
  refine Within.ite (fun _ => ?_) (fun _ => ?_)
  · exact h
  · extract_lets -underBinder +onlyGivenNames x2
    have hx2 : Within k s0 x2 := by
      exact State_setFld_within (sub_trans rfl hk) h
    try clear_value x2
    extract_lets -underBinder +onlyGivenNames x3
    have hx3 : Within k s0 x3 := by
      unfold x3
      refine Within.ite (fun _ => ?_) (fun _ => ?_)
      · exact hx2
      · exact State_ownTrace_within (sub_trans rfl hk) hx2
    try clear_value x3
    extract_lets -underBinder +onlyGivenNames x4
    try clear_value x4
    extract_lets -underBinder +onlyGivenNames x5
    have hx5 : Within k s0 x5 := by
      exact Within.set_ptp (sub_trans rfl hk) hx3
    try clear_value x5
    extract_lets -underBinder +onlyGivenNames x6
    have hx6 : Within k s0 x6 := by
      exact State_raise_within (sub_trans rfl hk) hx5
    try clear_value x6
    refine Within.ite (fun _ => ?_) (fun _ => ?_)
    · exact State_raise_within (sub_trans rfl hk) hx6
    · exact hx6

theorem State_servo_within {k : Nat} {s0 : State} {a0 : State} {a1 : _} (hk : 274877908237 &&& k = 274877908237) (h : Within k s0 a0) : Within k s0 (State.servo a0 a1) := by
  unfold Sys2Proof.Machine.State.servo
  refine Within.ite (fun _ => ?_) (fun _ => ?_)
  · exact h
  · refine Within.ite (fun _ => ?_) (fun _ => ?_)
    · refine Within.ite (fun _ => ?_) (fun _ => ?_)
      · exact State_stepTime_within (sub_trans rfl hk) h
      · exact h
    · refine Within.ite (fun _ => ?_) (fun _ => ?_)
      · exact State_setAddend_within (sub_trans rfl hk) (State_draw_within (sub_trans rfl hk) h)
      · exact h

theorem State_lockStep_within {k : Nat} {s0 : State} {a0 : State} {a1 : _} (hk : 4294968581 &&& k = 4294968581) (h : Within k s0 a0) : Within k s0 (State.lockStep a0 a1) := by
  unfold Sys2Proof.Machine.State.lockStep
  extract_lets -underBinder +onlyGivenNames x1
  try clear_value x1
  extract_lets -underBinder +onlyGivenNames x2
  have hx2 : Within k s0 x2 := by
    unfold x2
    refine Within.ite (fun _ => ?_) (fun _ => ?_)
    · exact State_ptpState_within (sub_trans rfl hk) h
    · exact h
  try clear_value x2
  refine Within.ite (fun _ => ?_) (fun _ => ?_)
  · refine Within.ite (fun _ => ?_) (fun _ => ?_)
    · exact State_ptpState_within (sub_trans rfl hk) hx2
    · extract_lets -underBinder +onlyGivenNames x3
      try clear_value x3
      refine Within.ite (fun _ => ?_) (fun _ => ?_)
      · exact State_ptpState_within (sub_trans rfl hk) hx2
      · exact Within.set_ptp (sub_trans rfl hk) hx2
  · refine Within.ite (fun _ => ?_) (fun _ => ?_)
    · extract_lets -underBinder +onlyGivenNames x4
      try clear_value x4
      refine Within.ite (fun _ => ?_) (fun _ => ?_)
      · exact State_ptpState_within (sub_trans rfl hk) hx2
      · exact Within.set_ptp (sub_trans rfl hk) hx2
    · exact hx2

theorem State_syncOffset_within {k : Nat} {s0 : State} {a0 : State} {a1 : _} {a2 : _} (hk : 279172875533 &&& k = 279172875533) (h : Within k s0 a0) : Within k s0 (State.syncOffset a0 a1 a2) := by
  unfold Sys2Proof.Machine.State.syncOffset
  extract_lets -underBinder +onlyGivenNames x1
  try clear_value x1
  extract_lets -underBinder +onlyGivenNames x2
  have hx2 : Within k s0 x2 := by
    exact Within.set_ptp (sub_trans rfl hk) h
  try clear_value x2
  extract_lets -underBinder +onlyGivenNames x3
  try clear_value x3
  extract_lets -underBinder +onlyGivenNames x4
  have hx4 : Within k s0 x4 := by
    exact State_setFld_within (sub_trans rfl hk) hx2
  try clear_value x4
  extract_lets -underBinder +onlyGivenNames x5
  try clear_value x5
  extract_lets -underBinder +onlyGivenNames x6
  try clear_value x6
  extract_lets -underBinder +onlyGivenNames x7
  have hx7 : Within k s0 x7 := by
    exact Within.set_ptp (sub_trans rfl hk) hx4
  try clear_value x7
  exact State_servo_within (sub_trans rfl hk) (State_lockStep_within (sub_trans rfl hk) hx7)

theorem ptpSync_within {k : Nat} {s0 : State} {a0 : _} {a1 : State} (hk : 279172875533 &&& k = 279172875533) (h : Within k s0 a1) : Within k s0 (ptpSync a0 a1) := by
  unfold Sys2Proof.Machine.ptpSync
  refine Within.ite (fun _ => ?_) (fun _ => ?_)
  · exact h
  · extract_lets -underBinder +onlyGivenNames x1
    try clear_value x1
    extract_lets -underBinder +onlyGivenNames x2
    try clear_value x2
    extract_lets -underBinder +onlyGivenNames x3
    have hx3 : Within k s0 x3 := by
      exact Within.set_ptp (sub_trans rfl hk) h
    try clear_value x3
    refine Within.ite (fun _ => ?_) (fun _ => ?_)
    · exact Within.set_ptp (sub_trans rfl hk) hx3
    · exact State_syncOffset_within (sub_trans rfl hk) (Within.set_ptp (sub_trans rfl hk) hx3)

theorem execPtpSync_within {k : Nat} {s0 t : State} {a0 : _} {a1 : State} (hk : 279172875533 &&& k = 279172875533) (h : Within k s0 a1) (e : execPtpSync a0 a1 = .next t) : Within k s0 t := by
  unfold Sys2Proof.Machine.execPtpSync at e
  cases e
  exact ptpSync_within (sub_trans rfl hk) h

theorem ptpFollowUp_within {k : Nat} {s0 : State} {a0 : _} {a1 : _} {a2 : _} {a3 : _} {a4 : State} (hk : 279172875533 &&& k = 279172875533) (h : Within k s0 a4) : Within k s0 (ptpFollowUp a0 a1 a2 a3 a4) := by
  unfold Sys2Proof.Machine.ptpFollowUp
  split
  · refine Within.ite (fun _ => ?_) (fun _ => ?_)
    · exact h
    · exact State_syncOffset_within (sub_trans rfl hk) (Within.set_ptp (sub_trans rfl hk) h)
  · exact h

theorem execPtpFollowUp_within {k : Nat} {s0 t : State} {a0 : _} {a1 : _} {a2 : _} {a3 : _} {a4 : State} (hk : 279172875533 &&& k = 279172875533) (h : Within k s0 a4) (e : execPtpFollowUp a0 a1 a2 a3 a4 = .next t) : Within k s0 t := by
  unfold Sys2Proof.Machine.execPtpFollowUp at e
  cases e
  exact ptpFollowUp_within (sub_trans rfl hk) h

theorem ptpDelayResp_within {k : Nat} {s0 : State} {a0 : _} {a1 : _} {a2 : _} {a3 : _} {a4 : State} (hk : 4294967297 &&& k = 4294967297) (h : Within k s0 a4) : Within k s0 (ptpDelayResp a0 a1 a2 a3 a4) := by
  unfold Sys2Proof.Machine.ptpDelayResp
  split
  · refine Within.ite (fun _ => ?_) (fun _ => ?_)
    · exact h
    · extract_lets -underBinder +onlyGivenNames x1
      try clear_value x1
      exact State_setFld_within (sub_trans rfl hk) (Within.set_ptp (sub_trans rfl hk) h)
  · exact h

theorem execPtpDelayResp_within {k : Nat} {s0 t : State} {a0 : _} {a1 : _} {a2 : _} {a3 : _} {a4 : State} (hk : 4294967297 &&& k = 4294967297) (h : Within k s0 a4) (e : execPtpDelayResp a0 a1 a2 a3 a4 = .next t) : Within k s0 t := by
  unfold Sys2Proof.Machine.execPtpDelayResp at e
  cases e
  exact ptpDelayResp_within (sub_trans rfl hk) h

theorem State_setGm_within {k : Nat} {s0 : State} {a0 : State} {a1 : _} (hk : 4294968581 &&& k = 4294968581) (h : Within k s0 a0) : Within k s0 (State.setGm a0 a1) := by
  unfold Sys2Proof.Machine.State.setGm
  refine Within.ite (fun _ => ?_) (fun _ => ?_)
  · exact h
  · exact State_raise_within (sub_trans rfl hk) (Within.set_ptp (sub_trans rfl hk) h)

theorem State_bmca_within {k : Nat} {s0 : State} {a0 : State} (hk : 4294968581 &&& k = 4294968581) (h : Within k s0 a0) : Within k s0 (State.bmca a0) := by
  unfold Sys2Proof.Machine.State.bmca
  split
  · exact h
  · refine Within.ite (fun _ => ?_) (fun _ => ?_)
    · extract_lets -underBinder +onlyGivenNames x1
      try clear_value x1
      extract_lets -underBinder +onlyGivenNames x2
      have hx2 : Within k s0 x2 := by
        exact State_setGm_within (sub_trans rfl hk) (Within.set_ptp (sub_trans rfl hk) h)
      try clear_value x2
      refine Within.ite (fun _ => ?_) (fun _ => ?_)
      · exact hx2
      · exact State_ptpState_within (sub_trans rfl hk) hx2
    · extract_lets -underBinder +onlyGivenNames x3
      try clear_value x3
      extract_lets -underBinder +onlyGivenNames x4
      have hx4 : Within k s0 x4 := by
        exact State_setGm_within (sub_trans rfl hk) (Within.set_ptp (sub_trans rfl hk) h)
      try clear_value x4
      refine Within.ite (fun _ => ?_) (fun _ => ?_)
      · exact State_ptpState_within (sub_trans rfl hk) hx4
      · exact hx4

theorem ptpAnnounce_within {k : Nat} {s0 : State} {a0 : _} {a1 : State} (hk : 4294968581 &&& k = 4294968581) (h : Within k s0 a1) : Within k s0 (ptpAnnounce a0 a1) := by
  unfold Sys2Proof.Machine.ptpAnnounce
  refine Within.ite (fun _ => ?_) (fun _ => ?_)
  · exact h
  · extract_lets -underBinder +onlyGivenNames x1
    try clear_value x1
    extract_lets -underBinder +onlyGivenNames x2
    try clear_value x2
    exact State_bmca_within (sub_trans rfl hk) (Within.set_ptp (sub_trans rfl hk) h)

theorem execPtpAnnounce_within {k : Nat} {s0 t : State} {a0 : _} {a1 : State} (hk : 4294968581 &&& k = 4294968581) (h : Within k s0 a1) (e : execPtpAnnounce a0 a1 = .next t) : Within k s0 t := by
  unfold Sys2Proof.Machine.execPtpAnnounce at e
  cases e
  exact ptpAnnounce_within (sub_trans rfl hk) h

theorem ptpAnnounceTimeout_within {k : Nat} {s0 : State} {a0 : State} (hk : 4294968637 &&& k = 4294968637) (h : Within k s0 a0) : Within k s0 (ptpAnnounceTimeout a0) := by
  unfold Sys2Proof.Machine.ptpAnnounceTimeout
  refine Within.ite (fun _ => ?_) (fun _ => ?_)
  · exact h
  · extract_lets -underBinder +onlyGivenNames x1
    try clear_value x1
    extract_lets -underBinder +onlyGivenNames x2
    have hx2 : Within k s0 x2 := by
      exact State_toMono_within (sub_trans rfl hk) h
    try clear_value x2
    extract_lets -underBinder +onlyGivenNames x3
    try clear_value x3
    extract_lets -underBinder +onlyGivenNames x4
    have hx4 : Within k s0 x4 := by
      exact Within.set_ptp (sub_trans rfl hk) hx2
    try clear_value x4
    refine Within.ite (fun _ => ?_) (fun _ => ?_)
    · exact hx4
    · extract_lets -underBinder +onlyGivenNames x5
      have hx5 : Within k s0 x5 := by
        exact State_bmca_within (sub_trans rfl hk) (State_ptpState_within (sub_trans rfl hk) hx4)
      try clear_value x5
      refine Within.ite (fun _ => ?_) (fun _ => ?_)
      · exact State_ptpState_within (sub_trans rfl hk) (State_setGm_within (sub_trans rfl hk) hx5)
      · exact hx5

theorem execPtpAnnounceTimeout_within {k : Nat} {s0 t : State} {a0 : State} (hk : 4294968637 &&& k = 4294968637) (h : Within k s0 a0) (e : execPtpAnnounceTimeout a0 = .next t) : Within k s0 t := by
  unfold Sys2Proof.Machine.execPtpAnnounceTimeout at e
  cases e
  exact ptpAnnounceTimeout_within (sub_trans rfl hk) h

theorem ptpSyncTimeout_within {k : Nat} {s0 : State} {a0 : State} (hk : 4294968637 &&& k = 4294968637) (h : Within k s0 a0) : Within k s0 (ptpSyncTimeout a0) := by
  unfold Sys2Proof.Machine.ptpSyncTimeout
  refine Within.ite (fun _ => ?_) (fun _ => ?_)
  · exact State_ptpState_within (sub_trans rfl hk) (State_toMono_within (sub_trans rfl hk) h)
  · exact h

theorem execPtpSyncTimeout_within {k : Nat} {s0 t : State} {a0 : State} (hk : 4294968637 &&& k = 4294968637) (h : Within k s0 a0) (e : execPtpSyncTimeout a0 = .next t) : Within k s0 t := by
  unfold Sys2Proof.Machine.execPtpSyncTimeout at e
  cases e
  exact ptpSyncTimeout_within (sub_trans rfl hk) h

theorem ptpDelayReq_within {k : Nat} {s0 : State} {a0 : _} {a1 : _} {a2 : State} (hk : 141733922053 &&& k = 141733922053) (h : Within k s0 a2) : Within k s0 (ptpDelayReq a0 a1 a2) := by
  unfold Sys2Proof.Machine.ptpDelayReq
  refine Within.ite (fun _ => ?_) (fun _ => ?_)
  · exact h
  · extract_lets -underBinder +onlyGivenNames x1
    try clear_value x1
    extract_lets -underBinder +onlyGivenNames x2
    try clear_value x2
    extract_lets -underBinder +onlyGivenNames x3
    have hx3 : Within k s0 x3 := by
      exact State_hostSend_within (sub_trans rfl hk) h
    try clear_value x3
    extract_lets -underBinder +onlyGivenNames x4
    try clear_value x4
    extract_lets -underBinder +onlyGivenNames x5
    have hx5 : Within k s0 x5 := by
      exact Within.set_ptp (sub_trans rfl hk) hx3
    try clear_value x5
    exact State_tsLost_within (sub_trans rfl hk) hx5

theorem execPtpDelayReqSend_within {k : Nat} {s0 t : State} {a0 : _} {a1 : _} {a2 : State} (hk : 141733922053 &&& k = 141733922053) (h : Within k s0 a2) (e : execPtpDelayReqSend a0 a1 a2 = .next t) : Within k s0 t := by
  unfold Sys2Proof.Machine.execPtpDelayReqSend at e
  cases e
  exact ptpDelayReq_within (sub_trans rfl hk) h

theorem ptpSyncSend_within {k : Nat} {s0 : State} {a0 : _} {a1 : State} (hk : 141733920768 &&& k = 141733920768) (h : Within k s0 a1) : Within k s0 (ptpSyncSend a0 a1) := by
  unfold Sys2Proof.Machine.ptpSyncSend
  refine Within.ite (fun _ => ?_) (fun _ => ?_)
  · exact h
  · extract_lets -underBinder +onlyGivenNames x1
    try clear_value x1
    extract_lets -underBinder +onlyGivenNames x2
    try clear_value x2
    extract_lets -underBinder +onlyGivenNames x3
    have hx3 : Within k s0 x3 := by
      exact State_hostSend_within (sub_trans rfl hk) h
    try clear_value x3
    exact Within.set_ptp (sub_trans rfl hk) hx3

theorem execPtpSyncSend_within {k : Nat} {s0 t : State} {a0 : _} {a1 : State} (hk : 141733920768 &&& k = 141733920768) (h : Within k s0 a1) (e : execPtpSyncSend a0 a1 = .next t) : Within k s0 t := by
  unfold Sys2Proof.Machine.execPtpSyncSend at e
  cases e
  exact ptpSyncSend_within (sub_trans rfl hk) h

theorem ptpAnnounceSend_within {k : Nat} {s0 : State} {a0 : State} (hk : 141733920768 &&& k = 141733920768) (h : Within k s0 a0) : Within k s0 (ptpAnnounceSend a0) := by
  unfold Sys2Proof.Machine.ptpAnnounceSend
  refine Within.ite (fun _ => ?_) (fun _ => ?_)
  · exact h
  · extract_lets -underBinder +onlyGivenNames x1
    try clear_value x1
    extract_lets -underBinder +onlyGivenNames x2
    try clear_value x2
    extract_lets -underBinder +onlyGivenNames x3
    have hx3 : Within k s0 x3 := by
      exact State_hostSend_within (sub_trans rfl hk) h
    try clear_value x3
    exact Within.set_ptp (sub_trans rfl hk) hx3

theorem execPtpAnnounceSend_within {k : Nat} {s0 t : State} {a0 : State} (hk : 141733920768 &&& k = 141733920768) (h : Within k s0 a0) (e : execPtpAnnounceSend a0 = .next t) : Within k s0 t := by
  unfold Sys2Proof.Machine.execPtpAnnounceSend at e
  cases e
  exact ptpAnnounceSend_within (sub_trans rfl hk) h

end Sys2Proof.Laws
end

