-- ==== Sys2Proof/Laws/WithinPlace.lean ====
section
/-! SUPPORT. What each operation of Machine/Place.lean can do to the state (see Laws/Within.lean). -/

/- One thread: elaborating these many small proofs side by side can exceed the memory that check.sh allows. -/
set_option Elab.async false

namespace Sys2Proof.Laws
open Sys2Proof Sys2Proof.Machine

theorem State_setQueue_within {k : Nat} {s0 : State} {a0 : State} {a1 : _} {a2 : _} {a3 : _} {a4 : _} {a5 : _} {a6 : _} {a7 : _} (hk : 1 &&& k = 1) (h : Within k s0 a0) : Within k s0 (State.setQueue a0 a1 a2 a3 a4 a5 a6 a7) := by
  unfold Sys2Proof.Machine.State.setQueue
  extract_lets -underBinder +onlyGivenNames x1
  try clear_value x1
  exact State_setFld_within (sub_trans rfl hk) (State_setReg_within (sub_trans rfl hk) (State_setReg_within (sub_trans rfl hk) h))

theorem State_slath_within {k : Nat} {s0 : State} {a0 : State} (hk : 1 &&& k = 1) (h : Within k s0 a0) : Within k s0 (State.slath a0) := by
  unfold Sys2Proof.Machine.State.slath
  extract_lets -underBinder +onlyGivenNames x1
  have hx1 : Within k s0 x1 := by
    refine Within.foldl (fun t2 _ ht2 => ?_) _ ?_
    · exact State_setReg_within (sub_trans rfl hk) ht2
    · exact h
  try clear_value x1
  extract_lets -underBinder +onlyGivenNames x3
  have hx3 : Within k s0 x3 := by
    exact State_setQueue_within (sub_trans rfl hk) (State_setQueue_within (sub_trans rfl hk) hx1)
  try clear_value x3
  exact State_setFlag_within (sub_trans rfl hk) hx3

theorem State_setLists_within {k : Nat} {s0 : State} {a0 : State} {a1 : _} (hk : 1 &&& k = 1) (h : Within k s0 a0) : Within k s0 (State.setLists a0 a1) := by
  unfold Sys2Proof.Machine.State.setLists
  refine Within.foldl (fun t1 _ ht1 => ?_) _ ?_
  · refine Within.foldl (fun t2 _ ht2 => ?_) _ ?_
    · exact State_setReg_within (sub_trans rfl hk) ht2
    · exact ht1
  · exact h

theorem State_setTrigs_within {k : Nat} {s0 : State} {a0 : State} {a1 : _} (hk : 1 &&& k = 1) (h : Within k s0 a0) : Within k s0 (State.setTrigs a0 a1) := by
  unfold Sys2Proof.Machine.State.setTrigs
  refine Within.foldl (fun t1 _ ht1 => ?_) _ ?_
  · extract_lets -underBinder +onlyGivenNames x2
    have hx2 : Within k s0 x2 := by
      exact State_setFlag_within (sub_trans rfl hk) (State_setFld_within (sub_trans rfl hk) (State_setFld_within (sub_trans rfl hk) ht1))
    try clear_value x2
    exact hx2
  · exact h

theorem State_setPpCfg_within {k : Nat} {s0 : State} {a0 : State} {a1 : _} (hk : 1 &&& k = 1) (h : Within k s0 a0) : Within k s0 (State.setPpCfg a0 a1) := by
  unfold Sys2Proof.Machine.State.setPpCfg
  refine Within.foldl (fun t1 _ ht1 => ?_) _ ?_
  · refine Within.ite (fun _ => ?_) (fun _ => ?_)
    · exact ht1
    · exact State_setFlag_within (sub_trans rfl hk) (State_setFld_within (sub_trans rfl hk) ht1)
  · exact h

theorem State_systemTagSet_within {k : Nat} {s0 : State} {a0 : State} {a1 : _} (hk : 1 &&& k = 1) (h : Within k s0 a0) : Within k s0 (State.systemTagSet a0 a1) := by
  unfold Sys2Proof.Machine.State.systemTagSet
  extract_lets -underBinder +onlyGivenNames x1
  try clear_value x1
  split
  · exact State_setFld_within (sub_trans rfl hk) h
  · exact State_setFld_within (sub_trans rfl hk) (State_setFld_within (sub_trans rfl hk) (State_setFld_within (sub_trans rfl hk) h))
  · exact State_setFld_within (sub_trans rfl hk) h
  · exact State_setFld_within (sub_trans rfl hk) h
  · exact State_setFld_within (sub_trans rfl hk) h
  · exact State_setPpCfg_within (sub_trans rfl hk) h
  · exact State_setFld_within (sub_trans rfl hk) (State_setFld_within (sub_trans rfl hk) (State_setFld_within (sub_trans rfl hk) (State_setFld_within (sub_trans rfl hk) h)))
  · exact State_setTrigs_within (sub_trans rfl hk) h
  · exact State_setLists_within (sub_trans rfl hk) h
  · exact h

theorem State_placeSystem_within {k : Nat} {s0 : State} {a0 : State} {a1 : _} (hk : 1 &&& k = 1) (h : Within k s0 a0) : Within k s0 (State.placeSystem a0 a1) := by
  unfold Sys2Proof.Machine.State.placeSystem
  extract_lets -underBinder +onlyGivenNames x1
  try clear_value x1
  extract_lets -underBinder +onlyGivenNames x2
  have hx2 : Within k s0 x2 := by
    refine Within.foldl (fun t3 _ ht3 => ?_) _ ?_
    · exact State_systemTagSet_within (sub_trans rfl hk) ht3
    · exact h
  try clear_value x2
  exact State_setFld_within (sub_trans rfl hk) hx2

theorem State_placeEvents_within {k : Nat} {s0 : State} {a0 : State} {a1 : _} (hk : 1 &&& k = 1) (h : Within k s0 a0) : Within k s0 (State.placeEvents a0 a1) := by
  unfold Sys2Proof.Machine.State.placeEvents
  refine Within.foldl (fun t1 _ ht1 => ?_) _ ?_
  · exact State_setReg_within (sub_trans rfl hk) ht1
  · exact h

theorem State_placeQueues_within {k : Nat} {s0 : State} {a0 : State} {a1 : _} (hk : 1 &&& k = 1) (h : Within k s0 a0) : Within k s0 (State.placeQueues a0 a1) := by
  unfold Sys2Proof.Machine.State.placeQueues
  extract_lets -underBinder +onlyGivenNames x1
  have hx1 : Within k s0 x1 := by
    refine Within.foldl (fun t2 _ ht2 => ?_) _ ?_
    · exact State_setQueue_within (sub_trans rfl hk) ht2
    · exact h
  try clear_value x1
  refine Within.foldl (fun t3 _ ht3 => ?_) _ ?_
  · exact State_setReg_within (sub_trans rfl hk) ht3
  · exact hx1

theorem State_placeNet_within {k : Nat} {s0 : State} {a0 : State} {a1 : _} (hk : 4294967297 &&& k = 4294967297) (h : Within k s0 a0) : Within k s0 (State.placeNet a0 a1) := by
  unfold Sys2Proof.Machine.State.placeNet
  extract_lets -underBinder +onlyGivenNames x1
  try clear_value x1
  extract_lets -underBinder +onlyGivenNames x2
  try clear_value x2
  extract_lets -underBinder +onlyGivenNames x3
  have hx3 : Within k s0 x3 := by
    exact State_setFlag_within (sub_trans rfl hk) (State_setFlag_within (sub_trans rfl hk) h)
  try clear_value x3
  extract_lets -underBinder +onlyGivenNames x4
  have hx4 : Within k s0 x4 := by
    exact State_setFlag_within (sub_trans rfl hk) (State_setFlag_within (sub_trans rfl hk) hx3)
  try clear_value x4
  extract_lets -underBinder +onlyGivenNames x5
  have hx5 : Within k s0 x5 := by
    exact State_setFlag_within (sub_trans rfl hk) hx4
  try clear_value x5
  extract_lets -underBinder +onlyGivenNames x6
  have hx6 : Within k s0 x6 := by
    unfold x6
    refine Within.ite (fun _ => ?_) (fun _ => ?_)
    · exact State_setFld_within (sub_trans rfl hk) (State_setFld_within (sub_trans rfl hk) hx5)
    · exact hx5
  try clear_value x6
  extract_lets -underBinder +onlyGivenNames x7
  have hx7 : Within k s0 x7 := by
    unfold x7
    split
    · exact State_setFld_within (sub_trans rfl hk) hx6
    · exact hx6
  try clear_value x7
  extract_lets -underBinder +onlyGivenNames x8
  have hx8 : Within k s0 x8 := by
    unfold x8
    split
    · refine Within.foldl (fun t9 _ ht9 => ?_) _ ?_
      · exact State_setReg_within (sub_trans rfl hk) ht9
      · exact hx7
    · exact hx7
  try clear_value x8
  exact Within.set_ptp (sub_trans rfl hk) hx8

theorem State_placeCanPort_within {k : Nat} {s0 : State} {a0 : State} {a1 : _} (hk : 1 &&& k = 1) (h : Within k s0 a0) : Within k s0 (State.placeCanPort a0 a1) := by
  unfold Sys2Proof.Machine.State.placeCanPort
  extract_lets -underBinder +onlyGivenNames x1
  try clear_value x1
  extract_lets -underBinder +onlyGivenNames x2
  try clear_value x2
  extract_lets -underBinder +onlyGivenNames x3
  have hx3 : Within k s0 x3 := by
    exact State_setFlag_within (sub_trans rfl hk) (State_setFld_within (sub_trans rfl hk) h)
  try clear_value x3
  extract_lets -underBinder +onlyGivenNames x4
  have hx4 : Within k s0 x4 := by
    exact State_setFld_within (sub_trans rfl hk) (State_setFld_within (sub_trans rfl hk) (State_setFld_within (sub_trans rfl hk) hx3))
  try clear_value x4
  extract_lets -underBinder +onlyGivenNames x5
  have hx5 : Within k s0 x5 := by
    exact State_setFld_within (sub_trans rfl hk) (State_setFld_within (sub_trans rfl hk) hx4)
  try clear_value x5
  extract_lets -underBinder +onlyGivenNames x6
  have hx6 : Within k s0 x6 := by
    exact State_setFld_within (sub_trans rfl hk) (State_setFld_within (sub_trans rfl hk) (State_setFld_within (sub_trans rfl hk) hx5))
  try clear_value x6
  exact State_setFlag_within (sub_trans rfl hk) (State_setFld_within (sub_trans rfl hk) hx6)

theorem State_placeCan_within {k : Nat} {s0 : State} {a0 : State} {a1 : _} (hk : 274882104583 &&& k = 274882104583) (h : Within k s0 a0) : Within k s0 (State.placeCan a0 a1) := by
  unfold Sys2Proof.Machine.State.placeCan
  extract_lets -underBinder +onlyGivenNames x1
  have hx1 : Within k s0 x1 := by
    refine Within.foldl (fun t2 _ ht2 => ?_) _ ?_
    · exact State_placeCanPort_within (sub_trans rfl hk) ht2
    · exact h
  try clear_value x1
  extract_lets -underBinder +onlyGivenNames x3
  have hx3 : Within k s0 x3 := by
    refine Within.foldl (fun t4 _ ht4 => ?_) _ ?_
    · exact State_setFlag_within (sub_trans rfl hk) (State_setFlag_within (sub_trans rfl hk) ht4)
    · exact hx1
  try clear_value x3
  exact State_canRestrict_within (sub_trans rfl hk) hx3

theorem State_placeTask_within {k : Nat} {s0 : State} {a0 : State} {a1 : _} {a2 : _} (hk : 1048577 &&& k = 1048577) (h : Within k s0 a0) : Within k s0 (State.placeTask a0 a1 a2) := by
  unfold Sys2Proof.Machine.State.placeTask
  exact State_setFld_within (sub_trans rfl hk) (State_setFlag_within (sub_trans rfl hk) (State_setTask_within (sub_trans rfl hk) h))

theorem State_placeTasks_within {k : Nat} {s0 : State} {a0 : State} {a1 : _} (hk : 1048577 &&& k = 1048577) (h : Within k s0 a0) : Within k s0 (State.placeTasks a0 a1) := by
  unfold Sys2Proof.Machine.State.placeTasks
  refine Within.foldl (fun t1 _ ht1 => ?_) _ ?_
  · exact State_placeTask_within (sub_trans rfl hk) ht1
  · exact h

theorem State_placeLoops_within {k : Nat} {s0 : State} {a0 : State} {a1 : _} (hk : 536870915 &&& k = 536870915) (h : Within k s0 a0) : Within k s0 (State.placeLoops a0 a1) := by
  unfold Sys2Proof.Machine.State.placeLoops
  extract_lets -underBinder +onlyGivenNames x1
  have hx1 : Within k s0 x1 := by
    refine Within.foldl (fun t2 _ ht2 => ?_) _ ?_
    · exact State_wrBytes_within (sub_trans rfl hk) ht2
    · exact h
  try clear_value x1
  extract_lets -underBinder +onlyGivenNames x3
  have hx3 : Within k s0 x3 := by
    exact State_setFld_within (sub_trans rfl hk) (State_setFld_within (sub_trans rfl hk) hx1)
  try clear_value x3
  exact State_setFld_within (sub_trans rfl hk) (Within.set_loops (sub_trans rfl hk) hx3)

theorem State_placeSafety_within {k : Nat} {s0 : State} {a0 : State} {a1 : _} (hk : 67108865 &&& k = 67108865) (h : Within k s0 a0) : Within k s0 (State.placeSafety a0 a1) := by
  unfold Sys2Proof.Machine.State.placeSafety
  extract_lets -underBinder +onlyGivenNames x1
  try clear_value x1
  extract_lets -underBinder +onlyGivenNames x2
  have hx2 : Within k s0 x2 := by
    exact State_setFld_within (sub_trans rfl hk) (State_setFld_within (sub_trans rfl hk) h)
  try clear_value x2
  extract_lets -underBinder +onlyGivenNames x3
  try clear_value x3
  extract_lets -underBinder +onlyGivenNames x4
  have hx4 : Within k s0 x4 := by
    exact Within.set_saf (sub_trans rfl hk) hx2
  try clear_value x4
  extract_lets -underBinder +onlyGivenNames x5
  have hx5 : Within k s0 x5 := by
    refine Within.foldl (fun t6 _ ht6 => ?_) _ ?_
    · exact State_setReg_within (sub_trans rfl hk) (State_setFld_within (sub_trans rfl hk) ht6)
    · exact hx4
  try clear_value x5
  exact State_showConf_within (sub_trans rfl hk) hx5

theorem State_placeStations_within {k : Nat} {s0 : State} {a0 : State} {a1 : _} (hk : 275280560129 &&& k = 275280560129) (h : Within k s0 a0) : Within k s0 (State.placeStations a0 a1) := by
  unfold Sys2Proof.Machine.State.placeStations
  extract_lets -underBinder +onlyGivenNames x1
  have hx1 : Within k s0 x1 := by
    exact Within.plain (a := 402653184) (t := a0) (sub_trans rfl hk) h rfl rfl rfl rfl rfl rfl
  try clear_value x1
  extract_lets -underBinder +onlyGivenNames x2
  have hx2 : Within k s0 x2 := by
    refine Within.foldl (fun t3 _ ht3 => ?_) _ ?_
    · exact State_setFld_within (sub_trans rfl hk) (State_setFlag_within (sub_trans rfl hk) ht3)
    · exact hx1
  try clear_value x2
  refine Within.foldl (fun t4 _ ht4 => ?_) _ ?_
  · extract_lets -underBinder +onlyGivenNames x5
    have hx5 : Within k s0 x5 := by
      exact Within.set_escs (sub_trans rfl hk) ht4
    try clear_value x5
    exact State_setFlag_within (sub_trans rfl hk) (State_draw_within (sub_trans rfl hk) hx5)
  · exact hx2

theorem State_placeWeave_within {k : Nat} {s0 : State} {a0 : State} {a1 : _} (hk : 540673 &&& k = 540673) (h : Within k s0 a0) : Within k s0 (State.placeWeave a0 a1) := by
  unfold Sys2Proof.Machine.State.placeWeave
  extract_lets -underBinder +onlyGivenNames x1
  have hx1 : Within k s0 x1 := by
    exact State_setReg_within (sub_trans rfl hk) (State_setFld_within (sub_trans rfl hk) h)
  try clear_value x1
  extract_lets -underBinder +onlyGivenNames x2
  have hx2 : Within k s0 x2 := by
    exact State_setFld_within (sub_trans rfl hk) (State_setReg_within (sub_trans rfl hk) hx1)
  try clear_value x2
  extract_lets -underBinder +onlyGivenNames x3
  have hx3 : Within k s0 x3 := by
    unfold x3
    refine Within.ite (fun _ => ?_) (fun _ => ?_)
    · exact State_setFld_within (sub_trans rfl hk) hx2
    · exact hx2
  try clear_value x3
  exact Within.plain (a := 540672) (t := x3) (sub_trans rfl hk) hx3 rfl rfl rfl rfl rfl rfl

theorem State_imgRunning_within {k : Nat} {s0 : State} {a0 : State} {a1 : _} (hk : 1285 &&& k = 1285) (h : Within k s0 a0) : Within k s0 (State.imgRunning a0 a1) := by
  unfold Sys2Proof.Machine.State.imgRunning
  exact State_raise_within (sub_trans rfl hk) (State_setFld_within (sub_trans rfl hk) h)

theorem State_placeImage_within {k : Nat} {s0 : State} {a0 : State} {a1 : _} (hk : 280185294087 &&& k = 280185294087) (h : Within k s0 a0) : Within k s0 (State.placeImage a0 a1) := by
  unfold Sys2Proof.Machine.State.placeImage
  extract_lets -underBinder +onlyGivenNames x1
  have hx1 : Within k s0 x1 := by
    exact State_placeSystem_within (sub_trans rfl hk) (State_placeWeave_within (sub_trans rfl hk) h)
  try clear_value x1
  extract_lets -underBinder +onlyGivenNames x2
  have hx2 : Within k s0 x2 := by
    exact State_placeNet_within (sub_trans rfl hk) (State_placeQueues_within (sub_trans rfl hk) (State_placeEvents_within (sub_trans rfl hk) hx1))
  try clear_value x2
  extract_lets -underBinder +onlyGivenNames x3
  have hx3 : Within k s0 x3 := by
    exact State_placeLoops_within (sub_trans rfl hk) (State_placeTasks_within (sub_trans rfl hk) (State_placeCan_within (sub_trans rfl hk) hx2))
  try clear_value x3
  exact State_imgRunning_within (sub_trans rfl hk) (State_placeStations_within (sub_trans rfl hk) (State_placeSafety_within (sub_trans rfl hk) hx3))

end Sys2Proof.Laws
end

