-- ==== Sys2Proof/Laws/WithinPairLink.lean ====
section
/-! SUPPORT. What each operation of Machine/PairLink.lean can do to the state (see Laws/Within.lean). -/

/- One thread: elaborating these many small proofs side by side can exceed the memory that check.sh allows. -/
set_option Elab.async false

namespace Sys2Proof.Laws
open Sys2Proof Sys2Proof.Machine

theorem State_sendNegotiate_within {k : Nat} {s0 : State} {a0 : State} (hk : 137438953472 &&& k = 137438953472) (h : Within k s0 a0) : Within k s0 (State.sendNegotiate a0) := by
  unfold Sys2Proof.Machine.State.sendNegotiate
  exact State_tell_within (sub_trans rfl hk) h

theorem State_joinFails_within {k : Nat} {s0 : State} {a0 : State} (hk : 1073808645 &&& k = 1073808645) (h : Within k s0 a0) : Within k s0 (State.joinFails a0) := by
  unfold Sys2Proof.Machine.State.joinFails
  extract_lets -underBinder +onlyGivenNames x1
  have hx1 : Within k s0 x1 := by
    exact State_joinPhase_within (sub_trans rfl hk) (Within.set_load (sub_trans rfl hk) h)
  try clear_value x1
  extract_lets -underBinder +onlyGivenNames x2
  have hx2 : Within k s0 x2 := by
    exact State_dropMirror_within (sub_trans rfl hk) hx1
  try clear_value x2
  exact Within.set_rdl (sub_trans rfl hk) hx2

theorem State_joinStart_within {k : Nat} {s0 : State} {a0 : State} (hk : 138512762117 &&& k = 138512762117) (h : Within k s0 a0) : Within k s0 (State.joinStart a0) := by
  unfold Sys2Proof.Machine.State.joinStart
  refine Within.ite (fun _ => ?_) (fun _ => ?_)
  · exact h
  · extract_lets -underBinder +onlyGivenNames x1
    have hx1 : Within k s0 x1 := by
      exact State_setFld_within (sub_trans rfl hk) h
    try clear_value x1
    extract_lets -underBinder +onlyGivenNames x2
    try clear_value x2
    extract_lets -underBinder +onlyGivenNames x3
    have hx3 : Within k s0 x3 := by
      exact Within.set_rdl (sub_trans rfl hk) hx1
    try clear_value x3
    refine Within.ite (fun _ => ?_) (fun _ => ?_)
    · extract_lets -underBinder +onlyGivenNames x4
      have hx4 : Within k s0 x4 := by
        exact State_setFld_within (sub_trans rfl hk) (State_setFld_within (sub_trans rfl hk) (State_dropMirror_within (sub_trans rfl hk) hx3))
      try clear_value x4
      exact State_tell_within (sub_trans rfl hk) (State_joinPhase_within (sub_trans rfl hk) hx4)
    · exact State_joinFails_within (sub_trans rfl hk) hx3

theorem joinRetry_within {k : Nat} {s0 : State} {a0 : State} (hk : 138512762173 &&& k = 138512762173) (h : Within k s0 a0) : Within k s0 (joinRetry a0) := by
  unfold Sys2Proof.Machine.joinRetry
  split
  · refine Within.ite (fun _ => ?_) (fun _ => ?_)
    · exact State_joinStart_within (sub_trans rfl hk) (State_toMono_within (sub_trans rfl hk) h)
    · exact h
  · exact h

theorem execJoinRetry_within {k : Nat} {s0 t : State} {a0 : State} (hk : 138512762173 &&& k = 138512762173) (h : Within k s0 a0) (e : execJoinRetry a0 = .next t) : Within k s0 t := by
  unfold Sys2Proof.Machine.execJoinRetry at e
  cases e
  exact joinRetry_within (sub_trans rfl hk) h

theorem State_linkEvent_within {k : Nat} {s0 : State} {a0 : State} (hk : 1285 &&& k = 1285) (h : Within k s0 a0) : Within k s0 (State.linkEvent a0) := by
  unfold Sys2Proof.Machine.State.linkEvent
  exact State_raise_within (sub_trans rfl hk) h

theorem laneUp_within {k : Nat} {s0 : State} {a0 : _} {a1 : State} (hk : 138512696581 &&& k = 138512696581) (h : Within k s0 a1) : Within k s0 (laneUp a0 a1) := by
  unfold Sys2Proof.Machine.laneUp
  refine Within.ite (fun _ => ?_) (fun _ => ?_)
  · exact h
  · extract_lets -underBinder +onlyGivenNames x1
    try clear_value x1
    extract_lets -underBinder +onlyGivenNames x2
    have hx2 : Within k s0 x2 := by
      exact State_linkEvent_within (sub_trans rfl hk) (State_setFlag_within (sub_trans rfl hk) (State_setFlag_within (sub_trans rfl hk) h))
    try clear_value x2
    extract_lets -underBinder +onlyGivenNames x3
    try clear_value x3
    extract_lets -underBinder +onlyGivenNames x4
    have hx4 : Within k s0 x4 := by
      unfold x4
      refine Within.ite (fun _ => ?_) (fun _ => ?_)
      · exact hx2
      · exact Within.set_rdl (sub_trans rfl hk) hx2
    try clear_value x4
    refine Within.ite (fun _ => ?_) (fun _ => ?_)
    · exact State_sendNegotiate_within (sub_trans rfl hk) hx4
    · exact hx4

theorem execRolentLaneUp_within {k : Nat} {s0 t : State} {a0 : _} {a1 : State} (hk : 138512696581 &&& k = 138512696581) (h : Within k s0 a1) (e : execRolentLaneUp a0 a1 = .next t) : Within k s0 t := by
  unfold Sys2Proof.Machine.execRolentLaneUp at e
  cases e
  exact laneUp_within (sub_trans rfl hk) h

theorem laneLoss_within {k : Nat} {s0 : State} {a0 : _} {a1 : State} (hk : 1285 &&& k = 1285) (h : Within k s0 a1) : Within k s0 (laneLoss a0 a1) := by
  unfold Sys2Proof.Machine.laneLoss
  refine Within.ite (fun _ => ?_) (fun _ => ?_)
  · exact State_linkEvent_within (sub_trans rfl hk) (State_setFlag_within (sub_trans rfl hk) h)
  · exact h

theorem execRolentLaneLoss_within {k : Nat} {s0 t : State} {a0 : _} {a1 : State} (hk : 1285 &&& k = 1285) (h : Within k s0 a1) (e : execRolentLaneLoss a0 a1 = .next t) : Within k s0 t := by
  unfold Sys2Proof.Machine.execRolentLaneLoss at e
  cases e
  exact laneLoss_within (sub_trans rfl hk) h

theorem State_partnerGone_within {k : Nat} {s0 : State} {a0 : State} (hk : 1099511627775 &&& k = 1099511627775) (h : Within k s0 a0) : Within k s0 (State.partnerGone a0) := by
  unfold Sys2Proof.Machine.State.partnerGone
  extract_lets -underBinder +onlyGivenNames x1
  have hx1 : Within k s0 x1 := by
    exact State_swapFail_within (sub_trans rfl hk) (State_setFlag_within (sub_trans rfl hk) (State_setFld_within (sub_trans rfl hk) h))
  try clear_value x1
  refine Within.ite (fun _ => ?_) (fun _ => ?_)
  · exact State_enterOff_within (sub_trans rfl hk) hx1
  · refine Within.ite (fun _ => ?_) (fun _ => ?_)
    · exact State_joinFails_within (sub_trans rfl hk) hx1
    · exact State_joinPhase_within (sub_trans rfl hk) (State_dropMirror_within (sub_trans rfl hk) hx1)

theorem linkLoss_within {k : Nat} {s0 : State} {a0 : State} (hk : 1099511627775 &&& k = 1099511627775) (h : Within k s0 a0) : Within k s0 (linkLoss a0) := by
  unfold Sys2Proof.Machine.linkLoss
  refine Within.ite (fun _ => ?_) (fun _ => ?_)
  · exact State_partnerGone_within (sub_trans rfl hk) (State_linkEvent_within (sub_trans rfl hk) (State_setFlag_within (sub_trans rfl hk) h))
  · exact h

theorem execRolentLinkLoss_within {k : Nat} {s0 t : State} {a0 : State} (hk : 1099511627775 &&& k = 1099511627775) (h : Within k s0 a0) (e : execRolentLinkLoss a0 = .next t) : Within k s0 t := by
  unfold Sys2Proof.Machine.execRolentLinkLoss at e
  cases e
  exact linkLoss_within (sub_trans rfl hk) h

theorem linkRejoin_within {k : Nat} {s0 : State} {a0 : State} (hk : 138512762173 &&& k = 138512762173) (h : Within k s0 a0) : Within k s0 (linkRejoin a0) := by
  unfold Sys2Proof.Machine.linkRejoin
  refine Within.ite (fun _ => ?_) (fun _ => ?_)
  · exact State_joinStart_within (sub_trans rfl hk) (State_toMono_within (sub_trans rfl hk) h)
  · exact h

theorem execRolentRejoin_within {k : Nat} {s0 t : State} {a0 : State} (hk : 138512762173 &&& k = 138512762173) (h : Within k s0 a0) (e : execRolentRejoin a0 = .next t) : Within k s0 t := by
  unfold Sys2Proof.Machine.execRolentRejoin at e
  cases e
  exact linkRejoin_within (sub_trans rfl hk) h

theorem linkCrcFail_within {k : Nat} {s0 : State} {a0 : _} {a1 : State} (hk : 1 &&& k = 1) (h : Within k s0 a1) : Within k s0 (linkCrcFail a0 a1) := by
  unfold Sys2Proof.Machine.linkCrcFail
  refine Within.ite (fun _ => ?_) (fun _ => ?_)
  · exact State_bump_within (sub_trans rfl hk) h
  · exact State_bump_within (sub_trans rfl hk) h

theorem execRolentCrcFail_within {k : Nat} {s0 t : State} {a0 : _} {a1 : State} (hk : 1 &&& k = 1) (h : Within k s0 a1) (e : execRolentCrcFail a0 a1 = .next t) : Within k s0 t := by
  unfold Sys2Proof.Machine.execRolentCrcFail at e
  cases e
  exact linkCrcFail_within (sub_trans rfl hk) h

theorem State_followTrace_within {k : Nat} {s0 : State} {a0 : State} {a1 : _} (hk : 1 &&& k = 1) (h : Within k s0 a0) : Within k s0 (State.followTrace a0 a1) := by
  unfold Sys2Proof.Machine.State.followTrace
  refine Within.ite (fun _ => ?_) (fun _ => ?_)
  · exact State_setFlag_within (sub_trans rfl hk) h
  · exact h

theorem State_partnerRole_within {k : Nat} {s0 : State} {a0 : State} {a1 : _} (hk : 172873061637 &&& k = 172873061637) (h : Within k s0 a0) : Within k s0 (State.partnerRole a0 a1) := by
  unfold Sys2Proof.Machine.State.partnerRole
  extract_lets -underBinder +onlyGivenNames x1
  try clear_value x1
  extract_lets -underBinder +onlyGivenNames x2
  have hx2 : Within k s0 x2 := by
    unfold x2
    refine Within.ite (fun _ => ?_) (fun _ => ?_)
    · exact h
    · exact State_setFld_within (sub_trans rfl hk) h
  try clear_value x2
  refine Within.ite (fun _ => ?_) (fun _ => ?_)
  · extract_lets -underBinder +onlyGivenNames x3
    have hx3 : Within k s0 x3 := by
      unfold x3
      refine Within.ite (fun _ => ?_) (fun _ => ?_)
      · exact hx2
      · exact State_swapFail_within (sub_trans rfl hk) hx2
    try clear_value x3
    refine Within.ite (fun _ => ?_) (fun _ => ?_)
    · exact State_joinPhase_within (sub_trans rfl hk) (State_dropMirror_within (sub_trans rfl hk) hx3)
    · exact hx3
  · refine Within.ite (fun _ => ?_) (fun _ => ?_)
    · exact State_joinFails_within (sub_trans rfl hk) hx2
    · exact hx2

theorem roleMsg_within {k : Nat} {s0 : State} {a0 : _} {a1 : _} {a2 : State} (hk : 172873061637 &&& k = 172873061637) (h : Within k s0 a2) : Within k s0 (roleMsg a0 a1 a2) := by
  unfold Sys2Proof.Machine.roleMsg
  refine Within.ite (fun _ => ?_) (fun _ => ?_)
  · exact h
  · exact State_followTrace_within (sub_trans rfl hk) (State_partnerRole_within (sub_trans rfl hk) h)

theorem execRoleMsg_within {k : Nat} {s0 t : State} {a0 : _} {a1 : _} {a2 : State} (hk : 172873061637 &&& k = 172873061637) (h : Within k s0 a2) (e : execRoleMsg a0 a1 a2 = .next t) : Within k s0 t := by
  unfold Sys2Proof.Machine.execRoleMsg at e
  cases e
  exact roleMsg_within (sub_trans rfl hk) h

theorem roleSend_within {k : Nat} {s0 : State} {a0 : _} {a1 : State} (hk : 138512695353 &&& k = 138512695353) (h : Within k s0 a1) : Within k s0 (roleSend a0 a1) := by
  unfold Sys2Proof.Machine.roleSend
  refine Within.ite (fun _ => ?_) (fun _ => ?_)
  · exact h
  · extract_lets -underBinder +onlyGivenNames x1
    have hx1 : Within k s0 x1 := by
      exact State_setFld_within (sub_trans rfl hk) h
    try clear_value x1
    extract_lets -underBinder +onlyGivenNames x2
    have hx2 : Within k s0 x2 := by
      exact State_toMono_within (sub_trans rfl hk) hx1
    try clear_value x2
    extract_lets -underBinder +onlyGivenNames x3
    try clear_value x3
    extract_lets -underBinder +onlyGivenNames x4
    have hx4 : Within k s0 x4 := by
      exact Within.set_rdl (sub_trans rfl hk) hx2
    try clear_value x4
    refine Within.ite (fun _ => ?_) (fun _ => ?_)
    · extract_lets -underBinder +onlyGivenNames x5
      have hx5 : Within k s0 x5 := by
        exact State_tell_within (sub_trans rfl hk) (State_tell_within (sub_trans rfl hk) hx4)
      try clear_value x5
      exact Within.set_rdl (sub_trans rfl hk) hx5
    · exact hx4

theorem execRoleSend_within {k : Nat} {s0 t : State} {a0 : _} {a1 : State} (hk : 138512695353 &&& k = 138512695353) (h : Within k s0 a1) (e : execRoleSend a0 a1 = .next t) : Within k s0 t := by
  unfold Sys2Proof.Machine.execRoleSend at e
  cases e
  exact roleSend_within (sub_trans rfl hk) h

theorem timeMsg_within {k : Nat} {s0 : State} {a0 : State} (hk : 275951650053 &&& k = 275951650053) (h : Within k s0 a0) : Within k s0 (timeMsg a0) := by
  unfold Sys2Proof.Machine.timeMsg
  refine Within.ite (fun _ => ?_) (fun _ => ?_)
  · exact h
  · extract_lets -underBinder +onlyGivenNames x1
    try clear_value x1
    extract_lets -underBinder +onlyGivenNames x2
    have hx2 : Within k s0 x2 := by
      exact Within.set_rdl (sub_trans rfl hk) h
    try clear_value x2
    refine Within.ite (fun _ => ?_) (fun _ => ?_)
    · exact State_setAddend_within (sub_trans rfl hk) (State_draw_within (sub_trans rfl hk) hx2)
    · exact hx2

theorem execTimeMsg_within {k : Nat} {s0 t : State} {a0 : _} {a1 : _} {a2 : State} (hk : 275951650053 &&& k = 275951650053) (h : Within k s0 a2) (e : execTimeMsg a0 a1 a2 = .next t) : Within k s0 t := by
  unfold Sys2Proof.Machine.execTimeMsg at e
  cases e
  exact timeMsg_within (sub_trans rfl hk) h

theorem stopMsg_within {k : Nat} {s0 : State} {a0 : _} {a1 : State} (hk : 447755685127 &&& k = 447755685127) (h : Within k s0 a1) : Within k s0 (stopMsg a0 a1) := by
  unfold Sys2Proof.Machine.stopMsg
  refine Within.ite (fun _ => ?_) (fun _ => ?_)
  · exact State_stationStop_within (sub_trans rfl hk) (State_raise_within (sub_trans rfl hk) (State_setReg_within (sub_trans rfl hk) h))
  · exact h

theorem execStopNotice_within {k : Nat} {s0 t : State} {a0 : _} {a1 : State} (hk : 447755685127 &&& k = 447755685127) (h : Within k s0 a1) (e : execStopNotice a0 a1 = .next t) : Within k s0 t := by
  unfold Sys2Proof.Machine.execStopNotice at e
  cases e
  exact stopMsg_within (sub_trans rfl hk) h

end Sys2Proof.Laws
end

