-- ==== Sys2Proof/Laws/WithinTasks.lean ====
section
/-! SUPPORT. What each operation of Machine/Tasks.lean can do to the state (see Laws/Within.lean). -/

/- One thread: elaborating these many small proofs side by side can exceed the memory that check.sh allows. -/
set_option Elab.async false

namespace Sys2Proof.Laws
open Sys2Proof Sys2Proof.Machine

theorem State_applyTrick_within {k : Nat} {s0 : State} {a0 : State} {a1 : _} {a2 : _} (hk : 68157441 &&& k = 68157441) (h : Within k s0 a0) : Within k s0 (State.applyTrick a0 a1 a2) := by
  unfold Sys2Proof.Machine.State.applyTrick
  extract_lets -underBinder +onlyGivenNames x1
  try clear_value x1
  extract_lets -underBinder +onlyGivenNames x2
  have hx2 : Within k s0 x2 := by
    exact State_setFlag_within (sub_trans rfl hk) (State_setTask_within (sub_trans rfl hk) h)
  try clear_value x2
  refine Within.ite (fun _ => ?_) (fun _ => ?_)
  · exact State_safApply_within (sub_trans rfl hk) hx2
  · exact hx2

theorem State_applyDue_within {k : Nat} {s0 : State} {a0 : State} {a1 : _} (hk : 68157441 &&& k = 68157441) (h : Within k s0 a0) : Within k s0 (State.applyDue a0 a1) := by
  unfold Sys2Proof.Machine.State.applyDue
  refine Within.foldl (fun t1 _ ht1 => ?_) _ ?_
  · split
    · refine Within.ite (fun _ => ?_) (fun _ => ?_)
      · exact State_applyTrick_within (sub_trans rfl hk) ht1
      · exact ht1
    · exact ht1
  · exact h

theorem trickApply_within {k : Nat} {s0 : State} {a0 : _} {a1 : State} (hk : 68157497 &&& k = 68157497) (h : Within k s0 a1) : Within k s0 (trickApply a0 a1) := by
  unfold Sys2Proof.Machine.trickApply
  split
  · exact State_applyTrick_within (sub_trans rfl hk) (State_toTime_within (sub_trans rfl hk) h)
  · exact h

theorem execTrickApply_within {k : Nat} {s0 t : State} {a0 : _} {a1 : State} (hk : 68157497 &&& k = 68157497) (h : Within k s0 a1) (e : execTrickApply a0 a1 = .next t) : Within k s0 t := by
  unfold Sys2Proof.Machine.execTrickApply at e
  cases e
  exact trickApply_within (sub_trans rfl hk) h

theorem State_latchRoutes_within2 {k : Nat} {s0 : State} {a0 : State} {a1 : _} {a2 : _} {a3 : _} {a4 : _} {a5 : _} (hk : 525573 &&& k = 525573) (h : Within k s0 a0) : Within k s0 (State.latchRoutes a0 a1 a2 a3 a4 a5).2 := by
  induction a4 generalizing a0 a1 a2 a3 a5 with
  | nil =>
    unfold Sys2Proof.Machine.State.latchRoutes
    exact h
  | cons _ _ ih =>
    unfold Sys2Proof.Machine.State.latchRoutes
    extract_lets -underBinder +onlyGivenNames x1
    have hx1 : Within k s0 x1.2 := by
      exact State_takeRoute_within2 (sub_trans rfl hk) h
    try clear_value x1
    apply ih
    exact hx1

theorem State_latchTask_within {k : Nat} {s0 : State} {a0 : State} {a1 : _} {a2 : _} {a3 : _} (hk : 1574149 &&& k = 1574149) (h : Within k s0 a0) : Within k s0 (State.latchTask a0 a1 a2 a3) := by
  unfold Sys2Proof.Machine.State.latchTask
  extract_lets -underBinder +onlyGivenNames x1
  try clear_value x1
  extract_lets -underBinder +onlyGivenNames x2
  have hx2 : Within k s0 x2.2 := by
    exact State_latchRoutes_within2 (sub_trans rfl hk) h
  try clear_value x2
  extract_lets -underBinder +onlyGivenNames x3
  have hx3 : Within k s0 x3 := by
    exact hx2
  try clear_value x3
  extract_lets -underBinder +onlyGivenNames x4
  try clear_value x4
  exact State_setTask_within (sub_trans rfl hk) hx3

theorem State_beginLatch_within {k : Nat} {s0 : State} {a0 : State} {a1 : _} {a2 : _} {a3 : _} {a4 : _} (hk : 1048577 &&& k = 1048577) (h : Within k s0 a0) : Within k s0 (State.beginLatch a0 a1 a2 a3 a4) := by
  unfold Sys2Proof.Machine.State.beginLatch
  extract_lets -underBinder +onlyGivenNames x1
  try clear_value x1
  extract_lets -underBinder +onlyGivenNames x2
  have hx2 : Within k s0 x2 := by
    exact State_setTask_within (sub_trans rfl hk) h
  try clear_value x2
  exact State_setFlag_within (sub_trans rfl hk) (State_setFlag_within (sub_trans rfl hk) hx2)

theorem State_latchOthers_within {k : Nat} {s0 : State} {a0 : State} {a1 : _} {a2 : _} {a3 : _} (hk : 138937605 &&& k = 138937605) (h : Within k s0 a0) : Within k s0 (State.latchOthers a0 a1 a2 a3) := by
  unfold Sys2Proof.Machine.State.latchOthers
  extract_lets -underBinder +onlyGivenNames x1
  have hx1 : Within k s0 x1 := by
    refine Within.foldl (fun t2 _ ht2 => ?_) _ ?_
    · exact State_stnOutputs_within (sub_trans rfl hk) ht2
    · exact h
  try clear_value x1
  refine Within.foldl (fun t3 _ ht3 => ?_) _ ?_
  · exact State_canRelease_within (sub_trans rfl hk) ht3
  · exact hx1

theorem State_repairLoops_within {k : Nat} {s0 : State} {a0 : State} (hk : 138512695296 &&& k = 138512695296) (h : Within k s0 a0) : Within k s0 (State.repairLoops a0) := by
  unfold Sys2Proof.Machine.State.repairLoops
  refine Within.ite (fun _ => ?_) (fun _ => ?_)
  · extract_lets -underBinder +onlyGivenNames x1
    try clear_value x1
    extract_lets -underBinder +onlyGivenNames x2
    try clear_value x2
    extract_lets -underBinder +onlyGivenNames x3
    have hx3 : Within k s0 x3 := by
      exact Within.set_rdl (sub_trans rfl hk) h
    try clear_value x3
    exact State_tell_within (sub_trans rfl hk) hx3
  · exact h

theorem taskRelease_within {k : Nat} {s0 : State} {a0 : _} {a1 : State} (hk : 138988225853 &&& k = 138988225853) (h : Within k s0 a1) : Within k s0 (taskRelease a0 a1) := by
  unfold Sys2Proof.Machine.taskRelease
  split
  · refine Within.ite (fun _ => ?_) (fun _ => ?_)
    · exact h
    · extract_lets -underBinder +onlyGivenNames x1
      try clear_value x1
      extract_lets -underBinder +onlyGivenNames x2
      have hx2 : Within k s0 x2 := by
        exact State_stnsAt_within (sub_trans rfl hk) (State_applyDue_within (sub_trans rfl hk) (State_toTime_within (sub_trans rfl hk) h))
      try clear_value x2
      extract_lets -underBinder +onlyGivenNames x3
      have hx3 : Within k s0 x3 := by
        exact State_beginLatch_within (sub_trans rfl hk) hx2
      try clear_value x3
      extract_lets -underBinder +onlyGivenNames x4
      have hx4 : Within k s0 x4 := by
        unfold x4
        refine Within.ite (fun _ => ?_) (fun _ => ?_)
        · exact State_safLatch_within (sub_trans rfl hk) hx3
        · exact hx3
      try clear_value x4
      extract_lets -underBinder +onlyGivenNames x5
      have hx5 : Within k s0 x5 := by
        exact State_latchOthers_within (sub_trans rfl hk) (State_latchTask_within (sub_trans rfl hk) hx4)
      try clear_value x5
      extract_lets -underBinder +onlyGivenNames x6
      have hx6 : Within k s0 x6 := by
        unfold x6
        refine Within.ite (fun _ => ?_) (fun _ => ?_)
        · exact State_repairLoops_within (sub_trans rfl hk) hx5
        · exact hx5
      try clear_value x6
      exact State_setFlag_within (sub_trans rfl hk) (State_setTask_within (sub_trans rfl hk) hx6)
  · exact h

theorem execTaskRelease_within {k : Nat} {s0 t : State} {a0 : _} {a1 : State} (hk : 138988225853 &&& k = 138988225853) (h : Within k s0 a1) (e : execTaskRelease a0 a1 = .next t) : Within k s0 t := by
  unfold Sys2Proof.Machine.execTaskRelease at e
  cases e
  exact taskRelease_within (sub_trans rfl hk) h

theorem State_showPreempt_within {k : Nat} {s0 : State} {a0 : State} {a1 : _} (hk : 1 &&& k = 1) (h : Within k s0 a0) : Within k s0 (State.showPreempt a0 a1) := by
  unfold Sys2Proof.Machine.State.showPreempt
  refine Within.foldl (fun t1 _ ht1 => ?_) _ ?_
  · refine Within.ite (fun _ => ?_) (fun _ => ?_)
    · exact State_setFlag_within (sub_trans rfl hk) ht1
    · exact ht1
  · exact h

theorem State_beginRun_within {k : Nat} {s0 : State} {a0 : State} {a1 : _} (hk : 1048577 &&& k = 1048577) (h : Within k s0 a0) : Within k s0 (State.beginRun a0 a1) := by
  unfold Sys2Proof.Machine.State.beginRun
  extract_lets -underBinder +onlyGivenNames x1
  try clear_value x1
  extract_lets -underBinder +onlyGivenNames x2
  try clear_value x2
  extract_lets -underBinder +onlyGivenNames x3
  have hx3 : Within k s0 x3 := by
    exact State_setTask_within (sub_trans rfl hk) h
  try clear_value x3
  exact State_showPreempt_within (sub_trans rfl hk) hx3

theorem State_directEntries_within2 {k : Nat} {s0 : State} {a0 : State} {a1 : _} {a2 : _} (hk : 525573 &&& k = 525573) (h : Within k s0 a0) : Within k s0 (State.directEntries a0 a1 a2).2 := by
  unfold Sys2Proof.Machine.State.directEntries
  exact State_takeEntries_within2 (sub_trans rfl hk) h

theorem latchComplete_within {k : Nat} {s0 : State} {a0 : _} {a1 : State} (hk : 172337415429 &&& k = 172337415429) (h : Within k s0 a1) : Within k s0 (latchComplete a0 a1) := by
  unfold Sys2Proof.Machine.latchComplete
  extract_lets -underBinder +onlyGivenNames x1
  try clear_value x1
  refine Within.ite (fun _ => ?_) (fun _ => ?_)
  · exact h
  · extract_lets -underBinder +onlyGivenNames x2
    try clear_value x2
    extract_lets -underBinder +onlyGivenNames x3
    have hx3 : Within k s0 x3 := by
      exact State_beginRun_within (sub_trans rfl hk) h
    try clear_value x3
    extract_lets -underBinder +onlyGivenNames x4
    have hx4 : Within k s0 x4 := by
      unfold x4
      refine Within.ite (fun _ => ?_) (fun _ => ?_)
      · exact State_tell_within (sub_trans rfl hk) hx3
      · exact hx3
    try clear_value x4
    extract_lets -underBinder +onlyGivenNames x5
    have hx5 : Within k s0 x5 := by
      exact State_takeSets_within (sub_trans rfl hk) hx4
    try clear_value x5
    extract_lets -underBinder +onlyGivenNames x6
    try clear_value x6
    extract_lets -underBinder +onlyGivenNames x7
    have hx7 : Within k s0 x7 := by
      exact State_setTask_within (sub_trans rfl hk) hx5
    try clear_value x7
    refine Within.ite (fun _ => ?_) (fun _ => ?_)
    · extract_lets -underBinder +onlyGivenNames x8
      have hx8 : Within k s0 x8.2 := by
        exact State_directEntries_within2 (sub_trans rfl hk) hx7
      try clear_value x8
      exact State_sendOut_within (sub_trans rfl hk) hx8
    · exact hx7

theorem execLatchComplete_within {k : Nat} {s0 t : State} {a0 : _} {a1 : State} (hk : 172337415429 &&& k = 172337415429) (h : Within k s0 a1) (e : execLatchComplete a0 a1 = .next t) : Within k s0 t := by
  unfold Sys2Proof.Machine.execLatchComplete at e
  cases e
  exact latchComplete_within (sub_trans rfl hk) h

theorem State_commitStats_within {k : Nat} {s0 : State} {a0 : State} {a1 : _} (hk : 1285 &&& k = 1285) (h : Within k s0 a0) : Within k s0 (State.commitStats a0 a1) := by
  unfold Sys2Proof.Machine.State.commitStats
  extract_lets -underBinder +onlyGivenNames x1
  try clear_value x1
  extract_lets -underBinder +onlyGivenNames x2
  try clear_value x2
  extract_lets -underBinder +onlyGivenNames x3
  have hx3 : Within k s0 x3 := by
    exact State_setFld_within (sub_trans rfl hk) h
  try clear_value x3
  extract_lets -underBinder +onlyGivenNames x4
  have hx4 : Within k s0 x4 := by
    unfold x4
    refine Within.ite (fun _ => ?_) (fun _ => ?_)
    · exact State_setFld_within (sub_trans rfl hk) hx3
    · exact hx3
  try clear_value x4
  extract_lets -underBinder +onlyGivenNames x5
  try clear_value x5
  extract_lets -underBinder +onlyGivenNames x6
  have hx6 : Within k s0 x6 := by
    unfold x6
    refine Within.ite (fun _ => ?_) (fun _ => ?_)
    · exact State_setFld_within (sub_trans rfl hk) hx4
    · exact hx4
  try clear_value x6
  extract_lets -underBinder +onlyGivenNames x7
  try clear_value x7
  extract_lets -underBinder +onlyGivenNames x8
  try clear_value x8
  refine Within.ite (fun _ => ?_) (fun _ => ?_)
  · exact State_raise_within (sub_trans rfl hk) hx6
  · exact hx6

theorem State_commitTrick_within {k : Nat} {s0 : State} {a0 : State} {a1 : _} {a2 : _} (hk : 1179649 &&& k = 1179649) (h : Within k s0 a0) : Within k s0 (State.commitTrick a0 a1 a2) := by
  unfold Sys2Proof.Machine.State.commitTrick
  extract_lets -underBinder +onlyGivenNames x1
  try clear_value x1
  extract_lets -underBinder +onlyGivenNames x2
  have hx2 : Within k s0 x2 := by
    exact Within.set_g (sub_trans rfl hk) h
  try clear_value x2
  extract_lets -underBinder +onlyGivenNames x3
  have hx3 : Within k s0 x3 := by
    exact State_setTask_within (sub_trans rfl hk) hx2
  try clear_value x3
  extract_lets -underBinder +onlyGivenNames x4
  have hx4 : Within k s0 x4 := by
    exact State_setFlag_within (sub_trans rfl hk) (State_setFld_within (sub_trans rfl hk) hx3)
  try clear_value x4
  exact State_showPreempt_within (sub_trans rfl hk) (State_setFlag_within (sub_trans rfl hk) (State_setFlag_within (sub_trans rfl hk) hx4))

theorem State_commitLoops_within {k : Nat} {s0 : State} {a0 : State} {a1 : _} {a2 : _} (hk : 536870912 &&& k = 536870912) (h : Within k s0 a0) : Within k s0 (State.commitLoops a0 a1 a2) := by
  unfold Sys2Proof.Machine.State.commitLoops
  extract_lets -underBinder +onlyGivenNames x1
  try clear_value x1
  refine Within.foldl (fun t2 _ ht2 => ?_) _ ?_
  · exact State_addBatch_within (sub_trans rfl hk) ht2
  · exact h

theorem State_viewCommit_within {k : Nat} {s0 : State} {a0 : State} {a1 : _} {a2 : _} (hk : 2098437 &&& k = 2098437) (h : Within k s0 a0) : Within k s0 (State.viewCommit a0 a1 a2) := by
  unfold Sys2Proof.Machine.State.viewCommit
  extract_lets -underBinder +onlyGivenNames x1
  try clear_value x1
  refine Within.ite (fun _ => ?_) (fun _ => ?_)
  · refine Within.ite (fun _ => ?_) (fun _ => ?_)
    · exact State_raise_within (sub_trans rfl hk) (State_setFld_within (sub_trans rfl hk) (State_setFld_within (sub_trans rfl hk) h))
    · exact Within.set_views (sub_trans rfl hk) h
  · exact h

theorem State_viewCommits_within {k : Nat} {s0 : State} {a0 : State} {a1 : _} (hk : 2098437 &&& k = 2098437) (h : Within k s0 a0) : Within k s0 (State.viewCommits a0 a1) := by
  unfold Sys2Proof.Machine.State.viewCommits
  refine Within.foldl (fun t1 _ ht1 => ?_) _ ?_
  · exact State_viewCommit_within (sub_trans rfl hk) ht1
  · exact h

theorem State_taskEntries_within2 {k : Nat} {s0 : State} {a0 : State} {a1 : _} {a2 : _} {a3 : _} (hk : 525573 &&& k = 525573) (h : Within k s0 a0) : Within k s0 (State.taskEntries a0 a1 a2 a3).2 := by
  unfold Sys2Proof.Machine.State.taskEntries
  refine Within.foldlSnd (fun t1 _ ht1 => ?_) _ ?_
  · extract_lets -underBinder +onlyGivenNames x2
    have hx2 : Within k s0 x2.2 := by
      exact State_convey_within2 (sub_trans rfl hk) ht1
    try clear_value x2
    exact hx2
  · exact h

theorem State_commitMirror_within {k : Nat} {s0 : State} {a0 : State} {a1 : _} (hk : 1099511627775 &&& k = 1099511627775) (h : Within k s0 a0) : Within k s0 (State.commitMirror a0 a1) := by
  unfold Sys2Proof.Machine.State.commitMirror
  extract_lets -underBinder +onlyGivenNames x1
  try clear_value x1
  extract_lets -underBinder +onlyGivenNames x2
  try clear_value x2
  extract_lets -underBinder +onlyGivenNames x3
  have hx3 : Within k s0 x3 := by
    unfold x3
    refine Within.ite (fun _ => ?_) (fun _ => ?_)
    · exact Within.set_rdl (sub_trans rfl hk) h
    · exact h
  try clear_value x3
  refine Within.ite (fun _ => ?_) (fun _ => ?_)
  · refine Within.ite (fun _ => ?_) (fun _ => ?_)
    · exact State_tell_within (sub_trans rfl hk) hx3
    · exact hx3
  · refine Within.ite (fun _ => ?_) (fun _ => ?_)
    · exact State_tell_within (sub_trans rfl hk) (Within.set_rdl (sub_trans rfl hk) hx3)
    · extract_lets -underBinder +onlyGivenNames x4
      try clear_value x4
      exact State_digest_within (sub_trans rfl hk) hx3

theorem State_commit_within {k : Nat} {s0 : State} {a0 : State} {a1 : _} (hk : 1099511627775 &&& k = 1099511627775) (h : Within k s0 a0) : Within k s0 (State.commit a0 a1) := by
  unfold Sys2Proof.Machine.State.commit
  extract_lets -underBinder +onlyGivenNames x1
  try clear_value x1
  extract_lets -underBinder +onlyGivenNames x2
  try clear_value x2
  extract_lets -underBinder +onlyGivenNames x3
  try clear_value x3
  extract_lets -underBinder +onlyGivenNames x4
  have hx4 : Within k s0 x4 := by
    exact State_commitStats_within (sub_trans rfl hk) (State_applyDue_within (sub_trans rfl hk) h)
  try clear_value x4
  extract_lets -underBinder +onlyGivenNames x5
  have hx5 : Within k s0 x5 := by
    exact State_viewCommits_within (sub_trans rfl hk) (State_commitTrick_within (sub_trans rfl hk) (State_commitLoops_within (sub_trans rfl hk) hx4))
  try clear_value x5
  extract_lets -underBinder +onlyGivenNames x6
  have hx6 : Within k s0 x6.2 := by
    unfold x6
    split
    · exact State_safCommit_within2 (sub_trans rfl hk) hx5
    · exact hx5
  try clear_value x6
  extract_lets -underBinder +onlyGivenNames x7
  have hx7 : Within k s0 x7.2 := by
    exact State_taskEntries_within2 (sub_trans rfl hk) hx6
  try clear_value x7
  extract_lets -underBinder +onlyGivenNames x8
  have hx8 : Within k s0 x8 := by
    exact State_stnOuts_within (sub_trans rfl hk) (State_sendOut_within (sub_trans rfl hk) hx7)
  try clear_value x8
  extract_lets -underBinder +onlyGivenNames x9
  have hx9 : Within k s0 x9 := by
    exact State_commitMirror_within (sub_trans rfl hk) (State_canForms_within (sub_trans rfl hk) hx8)
  try clear_value x9
  refine Within.ite (fun _ => ?_) (fun _ => ?_)
  · exact State_setTask_within (sub_trans rfl hk) hx9
  · exact hx9

theorem State_overrunNote_within {k : Nat} {s0 : State} {a0 : State} {a1 : _} {a2 : _} {a3 : _} (hk : 1285 &&& k = 1285) (h : Within k s0 a0) : Within k s0 (State.overrunNote a0 a1 a2 a3) := by
  unfold Sys2Proof.Machine.State.overrunNote
  extract_lets -underBinder +onlyGivenNames x1
  have hx1 : Within k s0 x1 := by
    exact State_setFlag_within (sub_trans rfl hk) (State_setFld_within (sub_trans rfl hk) (State_setFld_within (sub_trans rfl hk) h))
  try clear_value x1
  extract_lets -underBinder +onlyGivenNames x2
  have hx2 : Within k s0 x2 := by
    exact State_setFld_within (sub_trans rfl hk) hx1
  try clear_value x2
  exact State_raise_within (sub_trans rfl hk) hx2

theorem State_overrun_within {k : Nat} {s0 : State} {a0 : State} {a1 : _} (hk : 447755685127 &&& k = 447755685127) (h : Within k s0 a0) : Within k s0 (State.overrun a0 a1) := by
  unfold Sys2Proof.Machine.State.overrun
  refine Within.ite (fun _ => ?_) (fun _ => ?_)
  · exact State_setTask_within (sub_trans rfl hk) (State_overrunNote_within (sub_trans rfl hk) h)
  · refine Within.ite (fun _ => ?_) (fun _ => ?_)
    · refine Within.ite (fun _ => ?_) (fun _ => ?_)
      · exact State_giveUp_within (sub_trans rfl hk) (State_overrunNote_within (sub_trans rfl hk) h)
      · extract_lets -underBinder +onlyGivenNames x1
        have hx1 : Within k s0 x1 := by
          exact State_overrunNote_within (sub_trans rfl hk) h
        try clear_value x1
        exact State_stationStop_within (sub_trans rfl hk) (State_tell_within (sub_trans rfl hk) hx1)
    · exact State_stationStop_within (sub_trans rfl hk) (State_overrunNote_within (sub_trans rfl hk) h)

theorem State_fOverrun_within {k : Nat} {s0 : State} {a0 : State} (hk : 447755685127 &&& k = 447755685127) (h : Within k s0 a0) : Within k s0 (State.fOverrun a0) := by
  unfold Sys2Proof.Machine.State.fOverrun
  extract_lets -underBinder +onlyGivenNames x1
  try clear_value x1
  extract_lets -underBinder +onlyGivenNames x2
  have hx2 : Within k s0 x2 := by
    exact State_overrunNote_within (sub_trans rfl hk) h
  try clear_value x2
  refine State_stationStop_within (sub_trans rfl hk) ?_
  refine Within.ite (fun _ => ?_) (fun _ => ?_)
  · exact State_tell_within (sub_trans rfl hk) hx2
  · exact hx2

theorem taskOverrun_within {k : Nat} {s0 : State} {a0 : _} {a1 : State} (hk : 447755685183 &&& k = 447755685183) (h : Within k s0 a1) : Within k s0 (taskOverrun a0 a1) := by
  unfold Sys2Proof.Machine.taskOverrun
  refine Within.ite (fun _ => ?_) (fun _ => ?_)
  · exact State_overrun_within (sub_trans rfl hk) (State_toTime_within (sub_trans rfl hk) h)
  · exact h

theorem execTaskOverrun_within {k : Nat} {s0 t : State} {a0 : _} {a1 : State} (hk : 447755685183 &&& k = 447755685183) (h : Within k s0 a1) (e : execTaskOverrun a0 a1 = .next t) : Within k s0 t := by
  unfold Sys2Proof.Machine.execTaskOverrun at e
  cases e
  exact taskOverrun_within (sub_trans rfl hk) h

theorem fWatchdog_within {k : Nat} {s0 : State} {a0 : State} (hk : 447755685183 &&& k = 447755685183) (h : Within k s0 a0) : Within k s0 (fWatchdog a0) := by
  unfold Sys2Proof.Machine.fWatchdog
  refine Within.ite (fun _ => ?_) (fun _ => ?_)
  · exact State_fOverrun_within (sub_trans rfl hk) (State_toTime_within (sub_trans rfl hk) h)
  · exact h

theorem execFWatchdogExpiry_within {k : Nat} {s0 t : State} {a0 : State} (hk : 447755685183 &&& k = 447755685183) (h : Within k s0 a0) (e : execFWatchdogExpiry a0 = .next t) : Within k s0 t := by
  unfold Sys2Proof.Machine.execFWatchdogExpiry at e
  cases e
  exact fWatchdog_within (sub_trans rfl hk) h

theorem endWord_within {k : Nat} {s0 : State} {a0 : _} {a1 : State} (hk : 1099511627775 &&& k = 1099511627775) (h : Within k s0 a1) : Within k s0 (endWord a0 a1) := by
  unfold Sys2Proof.Machine.endWord
  split
  · exact h
  · extract_lets -underBinder +onlyGivenNames x1
    try clear_value x1
    refine Within.ite (fun _ => ?_) (fun _ => ?_)
    · refine Within.ite (fun _ => ?_) (fun _ => ?_)
      · exact State_fOverrun_within (sub_trans rfl hk) h
      · exact State_overrun_within (sub_trans rfl hk) h
    · exact State_commit_within (sub_trans rfl hk) h

theorem execEndWord_within {k : Nat} {s0 t : State} {a0 : _} {a1 : State} (hk : 1099511627775 &&& k = 1099511627775) (h : Within k s0 a1) (e : execEndWord a0 a1 = .next t) : Within k s0 t := by
  unfold Sys2Proof.Machine.execEndWord at e
  cases e
  exact endWord_within (sub_trans rfl hk) h

theorem fCycleStart_within {k : Nat} {s0 : State} {a0 : State} (hk : 471336253 &&& k = 471336253) (h : Within k s0 a0) : Within k s0 (fCycleStart a0) := by
  unfold Sys2Proof.Machine.fCycleStart
  split
  · refine Within.ite (fun _ => ?_) (fun _ => ?_)
    · exact h
    · extract_lets -underBinder +onlyGivenNames x1
      have hx1 : Within k s0 x1 := by
        exact State_stnsAt_within (sub_trans rfl hk) (State_applyDue_within (sub_trans rfl hk) (State_toTime_within (sub_trans rfl hk) h))
      try clear_value x1
      extract_lets -underBinder +onlyGivenNames x2
      try clear_value x2
      extract_lets -underBinder +onlyGivenNames x3
      try clear_value x3
      extract_lets -underBinder +onlyGivenNames x4
      have hx4 : Within k s0 x4 := by
        exact State_beginLatch_within (sub_trans rfl hk) hx1
      try clear_value x4
      extract_lets -underBinder +onlyGivenNames x5
      have hx5 : Within k s0 x5 := by
        exact State_latchTask_within (sub_trans rfl hk) hx4
      try clear_value x5
      exact State_setTask_within (sub_trans rfl hk) hx5
  · exact h

theorem execFCycleStart_within {k : Nat} {s0 t : State} {a0 : State} (hk : 471336253 &&& k = 471336253) (h : Within k s0 a0) (e : execFCycleStart a0 = .next t) : Within k s0 t := by
  unfold Sys2Proof.Machine.execFCycleStart at e
  cases e
  exact fCycleStart_within (sub_trans rfl hk) h

theorem inputTrick_within {k : Nat} {s0 : State} {a0 : _} {a1 : State} (hk : 173884851463 &&& k = 173884851463) (h : Within k s0 a1) : Within k s0 (inputTrick a0 a1) := by
  unfold Sys2Proof.Machine.inputTrick
  extract_lets -underBinder +onlyGivenNames x1
  try clear_value x1
  refine Within.ite (fun _ => ?_) (fun _ => ?_)
  · exact State_setTask_within (sub_trans rfl hk) h
  · refine Within.ite (fun _ => ?_) (fun _ => ?_)
    · exact h
    · extract_lets -underBinder +onlyGivenNames x2
      try clear_value x2
      extract_lets -underBinder +onlyGivenNames x3
      try clear_value x3
      extract_lets -underBinder +onlyGivenNames x4
      have hx4 : Within k s0 x4 := by
        exact State_setTask_within (sub_trans rfl hk) h
      try clear_value x4
      refine Within.ite (fun _ => ?_) (fun _ => ?_)
      · refine Within.ite (fun _ => ?_) (fun _ => ?_)
        · exact hx4
        · exact State_askRepair_within (sub_trans rfl hk) (Within.set_rdl (sub_trans rfl hk) hx4)
      · extract_lets -underBinder +onlyGivenNames x5
        try clear_value x5
        extract_lets -underBinder +onlyGivenNames x6
        have hx6 : Within k s0 x6 := by
          exact State_stnsAt_within (sub_trans rfl hk) (State_applyDue_within (sub_trans rfl hk) (State_setTask_within (sub_trans rfl hk) hx4))
        try clear_value x6
        extract_lets -underBinder +onlyGivenNames x7
        try clear_value x7
        extract_lets -underBinder +onlyGivenNames x8
        try clear_value x8
        extract_lets -underBinder +onlyGivenNames x9
        have hx9 : Within k s0 x9 := by
          exact State_beginLatch_within (sub_trans rfl hk) hx6
        try clear_value x9
        extract_lets -underBinder +onlyGivenNames x10
        have hx10 : Within k s0 x10 := by
          unfold x10
          refine Within.ite (fun _ => ?_) (fun _ => ?_)
          · exact State_safLatch_within (sub_trans rfl hk) hx9
          · exact hx9
        try clear_value x10
        extract_lets -underBinder +onlyGivenNames x11
        try clear_value x11
        extract_lets -underBinder +onlyGivenNames x12
        have hx12 : Within k s0 x12 := by
          exact State_latchOthers_within (sub_trans rfl hk) (State_setTask_within (sub_trans rfl hk) hx10)
        try clear_value x12
        extract_lets -underBinder +onlyGivenNames x13
        have hx13 : Within k s0 x13 := by
          exact State_beginRun_within (sub_trans rfl hk) hx12
        try clear_value x13
        extract_lets -underBinder +onlyGivenNames x14
        have hx14 : Within k s0 x14 := by
          refine Within.foldl (fun t15 _ ht15 => ?_) _ ?_
          · exact State_applySet_within (sub_trans rfl hk) (State_journalAppend_within (sub_trans rfl hk) ht15)
          · exact hx13
        try clear_value x14
        extract_lets -underBinder +onlyGivenNames x16
        have hx16 : Within k s0 x16 := by
          refine Within.foldl (fun t17 _ ht17 => ?_) _ ?_
          · exact State_addBatch_within (sub_trans rfl hk) ht17
          · exact hx14
        try clear_value x16
        refine Within.ite (fun _ => ?_) (fun _ => ?_)
        · extract_lets -underBinder +onlyGivenNames x18
          have hx18 : Within k s0 x18.2 := by
            exact State_directEntries_within2 (sub_trans rfl hk) hx16
          try clear_value x18
          exact State_sendOut_within (sub_trans rfl hk) hx18
        · exact hx16

theorem execInputTrick_within {k : Nat} {s0 t : State} {a0 : _} {a1 : State} (hk : 173884851463 &&& k = 173884851463) (h : Within k s0 a1) (e : execInputTrick a0 a1 = .next t) : Within k s0 t := by
  unfold Sys2Proof.Machine.execInputTrick at e
  cases e
  exact inputTrick_within (sub_trans rfl hk) h

theorem retainSnapshot_within {k : Nat} {s0 : State} {a0 : State} (hk : 314 &&& k = 314) (h : Within k s0 a0) : Within k s0 (retainSnapshot a0) := by
  unfold Sys2Proof.Machine.retainSnapshot
  refine Within.ite (fun _ => ?_) (fun _ => ?_)
  · exact h
  · extract_lets -underBinder +onlyGivenNames x1
    try clear_value x1
    extract_lets -underBinder +onlyGivenNames x2
    try clear_value x2
    extract_lets -underBinder +onlyGivenNames x3
    try clear_value x3
    exact State_snapshotG_within (sub_trans rfl hk) (State_toTime_within (sub_trans rfl hk) h)

theorem execRetainSnapshot_within {k : Nat} {s0 t : State} {a0 : State} (hk : 314 &&& k = 314) (h : Within k s0 a0) (e : execRetainSnapshot a0 = .next t) : Within k s0 t := by
  unfold Sys2Proof.Machine.execRetainSnapshot at e
  cases e
  exact retainSnapshot_within (sub_trans rfl hk) h

theorem State_viewShow_within {k : Nat} {s0 : State} {a0 : State} {a1 : _} (hk : 1 &&& k = 1) (h : Within k s0 a0) : Within k s0 (State.viewShow a0 a1) := by
  unfold Sys2Proof.Machine.State.viewShow
  extract_lets -underBinder +onlyGivenNames x1
  try clear_value x1
  split
  · exact State_setFld_within (sub_trans rfl hk) h
  · exact State_setFld_within (sub_trans rfl hk) h

theorem State_viewOpen_within {k : Nat} {s0 : State} {a0 : State} {a1 : _} {a2 : _} (hk : 70254593 &&& k = 70254593) (h : Within k s0 a0) : Within k s0 (State.viewOpen a0 a1 a2) := by
  unfold Sys2Proof.Machine.State.viewOpen
  extract_lets -underBinder +onlyGivenNames x1
  have hx1 : Within k s0 x1 := by
    exact State_applyDue_within (sub_trans rfl hk) h
  try clear_value x1
  extract_lets -underBinder +onlyGivenNames x2
  try clear_value x2
  extract_lets -underBinder +onlyGivenNames x3
  have hx3 : Within k s0 x3 := by
    exact Within.set_views (sub_trans rfl hk) hx1
  try clear_value x3
  exact State_viewShow_within (sub_trans rfl hk) (State_setFld_within (sub_trans rfl hk) (State_setFld_within (sub_trans rfl hk) hx3))

theorem State_viewClose_within {k : Nat} {s0 : State} {a0 : State} {a1 : _} (hk : 2097153 &&& k = 2097153) (h : Within k s0 a0) : Within k s0 (State.viewClose a0 a1) := by
  unfold Sys2Proof.Machine.State.viewClose
  extract_lets -underBinder +onlyGivenNames x1
  have hx1 : Within k s0 x1 := by
    exact Within.set_views (sub_trans rfl hk) h
  try clear_value x1
  exact State_viewShow_within (sub_trans rfl hk) (State_setFld_within (sub_trans rfl hk) (State_setFld_within (sub_trans rfl hk) hx1))

theorem viewCtrl_within {k : Nat} {s0 : State} {a0 : _} {a1 : _} {a2 : _} {a3 : State} (hk : 70256005 &&& k = 70256005) (h : Within k s0 a3) : Within k s0 (viewCtrl a0 a1 a2 a3) := by
  unfold Sys2Proof.Machine.viewCtrl
  refine Within.ite (fun _ => ?_) (fun _ => ?_)
  · exact State_denyWrite_within (sub_trans rfl hk) h
  · refine Within.ite (fun _ => ?_) (fun _ => ?_)
    · exact State_viewClose_within (sub_trans rfl hk) h
    · exact State_viewOpen_within (sub_trans rfl hk) h

theorem execViewOpen_within {k : Nat} {s0 t : State} {a0 : _} {a1 : _} {a2 : _} {a3 : State} (hk : 70256005 &&& k = 70256005) (h : Within k s0 a3) (e : execViewOpen a0 a1 a2 a3 = .next t) : Within k s0 t := by
  unfold Sys2Proof.Machine.execViewOpen at e
  cases e
  exact viewCtrl_within (sub_trans rfl hk) h

theorem execViewClose_within {k : Nat} {s0 t : State} {a0 : _} {a1 : _} {a2 : _} {a3 : State} (hk : 70256005 &&& k = 70256005) (h : Within k s0 a3) (e : execViewClose a0 a1 a2 a3 = .next t) : Within k s0 t := by
  unfold Sys2Proof.Machine.execViewClose at e
  cases e
  exact viewCtrl_within (sub_trans rfl hk) h

theorem viewDataRead_within {k : Nat} {s0 : State} {a0 : _} {a1 : _} {a2 : State} (hk : 193 &&& k = 193) (h : Within k s0 a2) : Within k s0 (viewDataRead a0 a1 a2) := by
  unfold Sys2Proof.Machine.viewDataRead
  extract_lets -underBinder +onlyGivenNames x1
  have hx1 : Within k s0 x1 := by
    exact State_ret_within (sub_trans rfl hk) h
  try clear_value x1
  refine Within.ite (fun _ => ?_) (fun _ => ?_)
  · exact State_setFld_within (sub_trans rfl hk) hx1
  · exact hx1

theorem execViewDataRead_within {k : Nat} {s0 t : State} {a0 : _} {a1 : _} {a2 : State} (hk : 193 &&& k = 193) (h : Within k s0 a2) (e : execViewDataRead a0 a1 a2 = .next t) : Within k s0 t := by
  unfold Sys2Proof.Machine.execViewDataRead at e
  cases e
  exact viewDataRead_within (sub_trans rfl hk) h

theorem discLatch_within {k : Nat} {s0 : State} {a0 : _} {a1 : _} {a2 : _} {a3 : _} {a4 : State} (hk : 67110205 &&& k = 67110205) (h : Within k s0 a4) : Within k s0 (discLatch a0 a1 a2 a3 a4) := by
  unfold Sys2Proof.Machine.discLatch
  split
  · split
    · refine Within.ite (fun _ => ?_) (fun _ => ?_)
      · exact h
      · extract_lets -underBinder +onlyGivenNames x1
        have hx1 : Within k s0 x1 := by
          exact State_toTime_within (sub_trans rfl hk) h
        try clear_value x1
        exact State_hostLatch_within (sub_trans rfl hk) hx1
    · exact h
  · exact h

theorem execAnDisc_within {k : Nat} {s0 t : State} {a0 : _} {a1 : State} (hk : 67110205 &&& k = 67110205) (h : Within k s0 a1) (e : execAnDisc a0 a1 = .next t) : Within k s0 t := by
  unfold Sys2Proof.Machine.execAnDisc at e
  cases e
  exact discLatch_within (sub_trans rfl hk) h

theorem execSpdDisc_within {k : Nat} {s0 t : State} {a0 : _} {a1 : State} (hk : 67110205 &&& k = 67110205) (h : Within k s0 a1) (e : execSpdDisc a0 a1 = .next t) : Within k s0 t := by
  unfold Sys2Proof.Machine.execSpdDisc at e
  cases e
  exact discLatch_within (sub_trans rfl hk) h

end Sys2Proof.Laws
end

