-- ==== Sys2Proof/Laws/WithinJoin.lean ====
section
/-! SUPPORT. What each operation of Machine/Join.lean can do to the state (see Laws/Within.lean). -/

/- One thread: elaborating these many small proofs side by side can exceed the memory that check.sh allows. -/
set_option Elab.async false

namespace Sys2Proof.Laws
open Sys2Proof Sys2Proof.Machine

theorem State_putBufs_within {k : Nat} {s0 : State} {a0 : State} {a1 : _} {a2 : _} (hk : 1048577 &&& k = 1048577) (h : Within k s0 a0) : Within k s0 (State.putBufs a0 a1 a2) := by
  unfold Sys2Proof.Machine.State.putBufs
  extract_lets -underBinder +onlyGivenNames x1
  try clear_value x1
  extract_lets -underBinder +onlyGivenNames x2
  have hx2 : Within k s0 x2 := by
    exact State_setTask_within (sub_trans rfl hk) h
  try clear_value x2
  exact State_setFlag_within (sub_trans rfl hk) (State_setFld_within (sub_trans rfl hk) hx2)

theorem State_journalConst_within {k : Nat} {s0 : State} {a0 : State} (hk : 16384 &&& k = 16384) (h : Within k s0 a0) : Within k s0 (State.journalConst a0) := by
  unfold Sys2Proof.Machine.State.journalConst
  split
  · exact h
  · extract_lets -underBinder +onlyGivenNames x1
    try clear_value x1
    extract_lets -underBinder +onlyGivenNames x2
    try clear_value x2
    exact Within.set_img (sub_trans rfl hk) h

theorem State_storeItem_within {k : Nat} {s0 : State} {a0 : State} {a1 : _} (hk : 408043523 &&& k = 408043523) (h : Within k s0 a0) : Within k s0 (State.storeItem a0 a1) := by
  unfold Sys2Proof.Machine.State.storeItem
  split
  · refine Within.ite (fun _ => ?_) (fun _ => ?_)
    · exact State_setTask_within (sub_trans rfl hk) h
    · exact Within.set_g (sub_trans rfl hk) h
  · exact State_putBufs_within (sub_trans rfl hk) h
  · exact State_wrBytes_within (sub_trans rfl hk) h
  · exact State_setStation_within (sub_trans rfl hk) h
  · exact State_setEsc_within (sub_trans rfl hk) h
  · exact State_setCan_within (sub_trans rfl hk) h
  · exact State_journalConst_within (sub_trans rfl hk) (State_setFld_within (sub_trans rfl hk) (State_wrBytes_within (sub_trans rfl hk) (State_journalEmpty_within (sub_trans rfl hk) h)))

theorem State_storeItems_within {k : Nat} {s0 : State} {a0 : State} {a1 : _} (hk : 408043523 &&& k = 408043523) (h : Within k s0 a0) : Within k s0 (State.storeItems a0 a1) := by
  unfold Sys2Proof.Machine.State.storeItems
  refine Within.foldl (fun t1 _ ht1 => ?_) _ ?_
  · exact State_storeItem_within (sub_trans rfl hk) ht1
  · exact h

theorem State_sendImage_within {k : Nat} {s0 : State} {a0 : State} (hk : 137438953472 &&& k = 137438953472) (h : Within k s0 a0) : Within k s0 (State.sendImage a0) := by
  unfold Sys2Proof.Machine.State.sendImage
  extract_lets -underBinder +onlyGivenNames x1
  try clear_value x1
  refine Within.foldl (fun t2 _ ht2 => ?_) _ ?_
  · exact State_tell_within (sub_trans rfl hk) ht2
  · exact h

theorem joinReq_within {k : Nat} {s0 : State} {a0 : _} {a1 : _} {a2 : State} (hk : 138512696581 &&& k = 138512696581) (h : Within k s0 a2) : Within k s0 (joinReq a0 a1 a2) := by
  unfold Sys2Proof.Machine.joinReq
  refine Within.ite (fun _ => ?_) (fun _ => ?_)
  · exact h
  · extract_lets -underBinder +onlyGivenNames x1
    have hx1 : Within k s0 x1 := by
      exact State_setFlag_within (sub_trans rfl hk) (State_setFld_within (sub_trans rfl hk) (State_dropMirror_within (sub_trans rfl hk) h))
    try clear_value x1
    extract_lets -underBinder +onlyGivenNames x2
    have hx2 : Within k s0 x2 := by
      exact State_tell_within (sub_trans rfl hk) (State_joinPhase_within (sub_trans rfl hk) hx1)
    try clear_value x2
    refine Within.ite (fun _ => ?_) (fun _ => ?_)
    · exact State_sendImage_within (sub_trans rfl hk) hx2
    · extract_lets -underBinder +onlyGivenNames x3
      have hx3 : Within k s0 x3 := by
        exact State_setFld_within (sub_trans rfl hk) (State_tell_within (sub_trans rfl hk) (State_joinPhase_within (sub_trans rfl hk) hx2))
      try clear_value x3
      extract_lets -underBinder +onlyGivenNames x4
      try clear_value x4
      extract_lets -underBinder +onlyGivenNames x5
      have hx5 : Within k s0 x5 := by
        exact Within.set_rdl (sub_trans rfl hk) hx3
      try clear_value x5
      exact State_joinPhase_within (sub_trans rfl hk) (State_setFld_within (sub_trans rfl hk) hx5)

theorem execJoinReq_within {k : Nat} {s0 t : State} {a0 : _} {a1 : _} {a2 : _} {a3 : State} (hk : 138512696581 &&& k = 138512696581) (h : Within k s0 a3) (e : execJoinReq a0 a1 a2 a3 = .next t) : Within k s0 t := by
  unfold Sys2Proof.Machine.execJoinReq at e
  cases e
  exact joinReq_within (sub_trans rfl hk) h

theorem State_sendCut_within {k : Nat} {s0 : State} {a0 : State} {a1 : _} (hk : 138512696581 &&& k = 138512696581) (h : Within k s0 a0) : Within k s0 (State.sendCut a0 a1) := by
  unfold Sys2Proof.Machine.State.sendCut
  extract_lets -underBinder +onlyGivenNames x1
  try clear_value x1
  extract_lets -underBinder +onlyGivenNames x2
  have hx2 : Within k s0 x2 := by
    exact State_tell_within (sub_trans rfl hk) h
  try clear_value x2
  extract_lets -underBinder +onlyGivenNames x3
  try clear_value x3
  extract_lets -underBinder +onlyGivenNames x4
  try clear_value x4
  extract_lets -underBinder +onlyGivenNames x5
  have hx5 : Within k s0 x5 := by
    exact Within.set_rdl (sub_trans rfl hk) hx2
  try clear_value x5
  refine Within.ite (fun _ => ?_) (fun _ => ?_)
  · exact State_joinPhase_within (sub_trans rfl hk) hx5
  · exact hx5

theorem joinCutOver_within {k : Nat} {s0 : State} {a0 : _} {a1 : State} (hk : 138512696637 &&& k = 138512696637) (h : Within k s0 a1) : Within k s0 (joinCutOver a0 a1) := by
  unfold Sys2Proof.Machine.joinCutOver
  refine Within.ite (fun _ => ?_) (fun _ => ?_)
  · exact h
  · refine Within.ite (fun _ => ?_) (fun _ => ?_)
    · refine Within.ite (fun _ => ?_) (fun _ => ?_)
      · exact h
      · exact State_sendCut_within (sub_trans rfl hk) (State_toTime_within (sub_trans rfl hk) h)
    · refine Within.ite (fun _ => ?_) (fun _ => ?_)
      · exact h
      · exact State_sendCut_within (sub_trans rfl hk) h

theorem execJoinCutOver_within {k : Nat} {s0 t : State} {a0 : _} {a1 : State} (hk : 138512696637 &&& k = 138512696637) (h : Within k s0 a1) (e : execJoinCutOver a0 a1 = .next t) : Within k s0 t := by
  unfold Sys2Proof.Machine.execJoinCutOver at e
  cases e
  exact joinCutOver_within (sub_trans rfl hk) h

theorem joinAck_within {k : Nat} {s0 : State} {a0 : _} {a1 : _} {a2 : _} {a3 : State} (hk : 1073743133 &&& k = 1073743133) (h : Within k s0 a3) : Within k s0 (joinAck a0 a1 a2 a3) := by
  unfold Sys2Proof.Machine.joinAck
  refine Within.ite (fun _ => ?_) (fun _ => ?_)
  · exact h
  · extract_lets -underBinder +onlyGivenNames x1
    have hx1 : Within k s0 x1 := by
      exact State_setFlag_within (sub_trans rfl hk) h
    try clear_value x1
    extract_lets -underBinder +onlyGivenNames x2
    have hx2 : Within k s0 x2 := by
      exact Within.plain (a := 24) (t := x1) (sub_trans rfl hk) hx1 rfl rfl rfl rfl rfl rfl
    try clear_value x2
    refine Within.ite (fun _ => ?_) (fun _ => ?_)
    · exact State_joinPhase_within (sub_trans rfl hk) (Within.set_rdl (sub_trans rfl hk) hx2)
    · exact hx2

theorem execJoinAck_within {k : Nat} {s0 t : State} {a0 : _} {a1 : _} {a2 : _} {a3 : _} {a4 : State} (hk : 1073743133 &&& k = 1073743133) (h : Within k s0 a4) (e : execJoinAck a0 a1 a2 a3 a4 = .next t) : Within k s0 t := by
  unfold Sys2Proof.Machine.execJoinAck at e
  cases e
  exact joinAck_within (sub_trans rfl hk) h

theorem stateMsg_within {k : Nat} {s0 : State} {a0 : _} {a1 : State} (hk : 408044807 &&& k = 408044807) (h : Within k s0 a1) : Within k s0 (stateMsg a0 a1) := by
  unfold Sys2Proof.Machine.stateMsg
  refine Within.ite (fun _ => ?_) (fun _ => ?_)
  · exact State_joinPhase_within (sub_trans rfl hk) (State_setFld_within (sub_trans rfl hk) (State_setFld_within (sub_trans rfl hk) (State_storeItems_within (sub_trans rfl hk) h)))
  · exact h

theorem execStateLines_within {k : Nat} {s0 t : State} {a0 : _} {a1 : State} (hk : 408044807 &&& k = 408044807) (h : Within k s0 a1) (e : execStateLines a0 a1 = .next t) : Within k s0 t := by
  unfold Sys2Proof.Machine.execStateLines at e
  cases e
  exact stateMsg_within (sub_trans rfl hk) h

theorem State_beginShadow_within {k : Nat} {s0 : State} {a0 : State} {a1 : _} {a2 : _} (hk : 537919489 &&& k = 537919489) (h : Within k s0 a0) : Within k s0 (State.beginShadow a0 a1 a2) := by
  unfold Sys2Proof.Machine.State.beginShadow
  refine Within.ite (fun _ => ?_) (fun _ => ?_)
  · exact State_setFlag_within (sub_trans rfl hk) (Within.set_loops (sub_trans rfl hk) h)
  · refine Within.ite (fun _ => ?_) (fun _ => ?_)
    · exact State_setFld_within (sub_trans rfl hk) h
    · extract_lets -underBinder +onlyGivenNames x1
      try clear_value x1
      exact State_setFld_within (sub_trans rfl hk) (State_setTask_within (sub_trans rfl hk) h)

theorem State_joined_within {k : Nat} {s0 : State} {a0 : State} (hk : 138512696581 &&& k = 138512696581) (h : Within k s0 a0) : Within k s0 (State.joined a0) := by
  unfold Sys2Proof.Machine.State.joined
  extract_lets -underBinder +onlyGivenNames x1
  have hx1 : Within k s0 x1 := by
    exact State_setRole_within (sub_trans rfl hk) (State_setFld_within (sub_trans rfl hk) (State_joinPhase_within (sub_trans rfl hk) h))
  try clear_value x1
  exact Within.set_rdl (sub_trans rfl hk) hx1

theorem cutMsg_within {k : Nat} {s0 : State} {a0 : _} {a1 : _} {a2 : _} {a3 : State} (hk : 139457611015 &&& k = 139457611015) (h : Within k s0 a3) : Within k s0 (cutMsg a0 a1 a2 a3) := by
  unfold Sys2Proof.Machine.cutMsg
  refine Within.ite (fun _ => ?_) (fun _ => ?_)
  · exact h
  · extract_lets -underBinder +onlyGivenNames x1
    have hx1 : Within k s0 x1 := by
      exact State_beginShadow_within (sub_trans rfl hk) (State_storeItems_within (sub_trans rfl hk) h)
    try clear_value x1
    extract_lets -underBinder +onlyGivenNames x2
    try clear_value x2
    extract_lets -underBinder +onlyGivenNames x3
    try clear_value x3
    extract_lets -underBinder +onlyGivenNames x4
    have hx4 : Within k s0 x4 := by
      exact Within.set_rdl (sub_trans rfl hk) hx1
    try clear_value x4
    refine Within.ite (fun _ => ?_) (fun _ => ?_)
    · exact State_joined_within (sub_trans rfl hk) hx4
    · exact hx4

theorem execCutOver_within {k : Nat} {s0 t : State} {a0 : _} {a1 : _} {a2 : _} {a3 : State} (hk : 139457611015 &&& k = 139457611015) (h : Within k s0 a3) (e : execCutOver a0 a1 a2 a3 = .next t) : Within k s0 t := by
  unfold Sys2Proof.Machine.execCutOver at e
  cases e
  exact cutMsg_within (sub_trans rfl hk) h

theorem imageMsg_within {k : Nat} {s0 : State} {a0 : _} {a1 : _} {a2 : _} {a3 : State} (hk : 1099511627775 &&& k = 1099511627775) (h : Within k s0 a3) : Within k s0 (imageMsg a0 a1 a2 a3) := by
  unfold Sys2Proof.Machine.imageMsg
  refine Within.ite (fun _ => ?_) (fun _ => ?_)
  · exact h
  · extract_lets -underBinder +onlyGivenNames x1
    have hx1 : Within k s0 x1 := by
      unfold x1
      refine Within.ite (fun _ => ?_) (fun _ => ?_)
      · exact State_loadBegin_within (sub_trans rfl hk) h
      · exact h
    try clear_value x1
    split
    · exact hx1
    · extract_lets -underBinder +onlyGivenNames x2
      have hx2 : Within k s0 x2 := by
        exact State_loadBlock_within (sub_trans rfl hk) hx1
      try clear_value x2
      split
      · exact hx2
      · refine Within.ite (fun _ => ?_) (fun _ => ?_)
        · exact hx2
        · extract_lets -underBinder +onlyGivenNames x3
          try clear_value x3
          extract_lets -underBinder +onlyGivenNames x4
          have hx4 : Within k s0 x4 := by
            exact State_startEcc_within (sub_trans rfl hk) (Within.set_load (sub_trans rfl hk) hx2)
          try clear_value x4
          split
          · exact State_joinFails_within (sub_trans rfl hk) (State_loadReject_within (sub_trans rfl hk) hx4)
          · exact State_restart_within (sub_trans rfl hk) (State_loadAccept_within (sub_trans rfl hk) hx4)

theorem execImageBytes_within {k : Nat} {s0 t : State} {a0 : _} {a1 : _} {a2 : _} {a3 : State} (hk : 1099511627775 &&& k = 1099511627775) (h : Within k s0 a3) (e : execImageBytes a0 a1 a2 a3 = .next t) : Within k s0 t := by
  unfold Sys2Proof.Machine.execImageBytes at e
  cases e
  exact imageMsg_within (sub_trans rfl hk) h

theorem fstateMsg_within {k : Nat} {s0 : State} {a0 : _} {a1 : _} {a2 : _} {a3 : State} (hk : 944915719 &&& k = 944915719) (h : Within k s0 a3) : Within k s0 (fstateMsg a0 a1 a2 a3) := by
  unfold Sys2Proof.Machine.fstateMsg
  refine Within.ite (fun _ => ?_) (fun _ => ?_)
  · extract_lets -underBinder +onlyGivenNames x1
    have hx1 : Within k s0 x1 := by
      refine Within.foldl (fun t2 _ ht2 => ?_) _ ?_
      · exact State_applySet_within (sub_trans rfl hk) (State_journalAppend_within (sub_trans rfl hk) ht2)
      · exact h
    try clear_value x1
    extract_lets -underBinder +onlyGivenNames x3
    have hx3 : Within k s0 x3 := by
      exact State_storeItems_within (sub_trans rfl hk) hx1
    try clear_value x3
    exact State_setFld_within (sub_trans rfl hk) (State_setTask_within (sub_trans rfl hk) hx3)
  · exact h

theorem execFstate_within {k : Nat} {s0 t : State} {a0 : _} {a1 : _} {a2 : _} {a3 : State} (hk : 944915719 &&& k = 944915719) (h : Within k s0 a3) (e : execFstate a0 a1 a2 a3 = .next t) : Within k s0 t := by
  unfold Sys2Proof.Machine.execFstate at e
  cases e
  exact fstateMsg_within (sub_trans rfl hk) h

theorem repairReq_within {k : Nat} {s0 : State} {a0 : _} {a1 : State} (hk : 138512695296 &&& k = 138512695296) (h : Within k s0 a1) : Within k s0 (repairReq a0 a1) := by
  unfold Sys2Proof.Machine.repairReq
  refine Within.ite (fun _ => ?_) (fun _ => ?_)
  · exact State_tell_within (sub_trans rfl hk) h
  · refine Within.ite (fun _ => ?_) (fun _ => ?_)
    · exact Within.set_rdl (sub_trans rfl hk) h
    · exact h

theorem execRepairReq_within {k : Nat} {s0 t : State} {a0 : _} {a1 : State} (hk : 138512695296 &&& k = 138512695296) (h : Within k s0 a1) (e : execRepairReq a0 a1 = .next t) : Within k s0 t := by
  unfold Sys2Proof.Machine.execRepairReq at e
  cases e
  exact repairReq_within (sub_trans rfl hk) h

theorem State_putSlots_within {k : Nat} {s0 s : State} {l : List Host.Cell} (hk : 2 &&& k = 2) (h : Within k s0 s) : Within k s0 (s.putSlots l) := by
  unfold State.putSlots
  extract_lets +onlyGivenNames x
  have hx : Within k s0 x := Within.memFilter (sub_trans rfl hk) h
  clear_value x
  exact Within.foldl (fun _ _ ht => Within.ite (fun _ => State_wrBytes_within (sub_trans rfl hk) ht) (fun _ => ht)) _ hx

theorem State_putRepair_within {k : Nat} {s0 : State} {a0 : State} {a1 : _} (hk : 538050563 &&& k = 538050563) (h : Within k s0 a0) : Within k s0 (State.putRepair a0 a1) := by
  unfold Sys2Proof.Machine.State.putRepair
  refine Within.ite (fun _ => ?_) (fun _ => ?_)
  · extract_lets -underBinder +onlyGivenNames x1
    have hx1 : Within k s0 x1 := by
      exact State_putSlots_within (sub_trans rfl hk) h
    try clear_value x1
    exact Within.set_loops (sub_trans rfl hk) hx1
  · extract_lets -underBinder +onlyGivenNames x2
    try clear_value x2
    extract_lets -underBinder +onlyGivenNames x3
    have hx3 : Within k s0 x3 := by
      exact State_setTask_within (sub_trans rfl hk) h
    try clear_value x3
    exact State_putBufs_within (sub_trans rfl hk) (Within.set_g (sub_trans rfl hk) hx3)

theorem repairMsg_within {k : Nat} {s0 : State} {a0 : _} {a1 : State} (hk : 1611793671 &&& k = 1611793671) (h : Within k s0 a1) : Within k s0 (repairMsg a0 a1) := by
  unfold Sys2Proof.Machine.repairMsg
  refine Within.ite (fun _ => ?_) (fun _ => ?_)
  · extract_lets -underBinder +onlyGivenNames x1
    have hx1 : Within k s0 x1 := by
      exact State_putRepair_within (sub_trans rfl hk) h
    try clear_value x1
    extract_lets -underBinder +onlyGivenNames x2
    try clear_value x2
    extract_lets -underBinder +onlyGivenNames x3
    try clear_value x3
    extract_lets -underBinder +onlyGivenNames x4
    have hx4 : Within k s0 x4 := by
      exact Within.set_rdl (sub_trans rfl hk) hx1
    try clear_value x4
    exact State_raise_within (sub_trans rfl hk) (State_setFlag_within (sub_trans rfl hk) hx4)
  · exact h

theorem execRepairMsg_within {k : Nat} {s0 t : State} {a0 : _} {a1 : State} (hk : 1611793671 &&& k = 1611793671) (h : Within k s0 a1) (e : execRepairMsg a0 a1 = .next t) : Within k s0 t := by
  unfold Sys2Proof.Machine.execRepairMsg at e
  cases e
  exact repairMsg_within (sub_trans rfl hk) h

end Sys2Proof.Laws
end

