-- ==== Sys2Proof/Laws/WithinTakeover.lean ====
section
/-! SUPPORT. What each operation of Machine/Takeover.lean can do to the state (see Laws/Within.lean). -/

/- One thread: elaborating these many small proofs side by side can exceed the memory that check.sh allows. -/
set_option Elab.async false

namespace Sys2Proof.Laws
open Sys2Proof Sys2Proof.Machine

theorem State_partnerLeft_within {k : Nat} {s0 : State} {a0 : State} (hk : 1099511627775 &&& k = 1099511627775) (h : Within k s0 a0) : Within k s0 (State.partnerLeft a0) := by
  unfold Sys2Proof.Machine.State.partnerLeft
  refine Within.ite (fun _ => ?_) (fun _ => ?_)
  · exact h
  · refine Within.ite (fun _ => ?_) (fun _ => ?_)
    · exact State_enterHalt_within (sub_trans rfl hk) h
    · extract_lets -underBinder +onlyGivenNames x1
      have hx1 : Within k s0 x1 := by
        exact State_setRole_within (sub_trans rfl hk) (State_setFld_within (sub_trans rfl hk) h)
      try clear_value x1
      exact State_restart_within (sub_trans rfl hk) (State_enterHalt_within (sub_trans rfl hk) hx1)

theorem giveUpMsg_within {k : Nat} {s0 : State} {a0 : _} {a1 : State} (hk : 1099511627775 &&& k = 1099511627775) (h : Within k s0 a1) : Within k s0 (giveUpMsg a0 a1) := by
  unfold Sys2Proof.Machine.giveUpMsg
  refine Within.ite (fun _ => ?_) (fun _ => ?_)
  · exact h
  · extract_lets -underBinder +onlyGivenNames x1
    try clear_value x1
    extract_lets -underBinder +onlyGivenNames x2
    try clear_value x2
    extract_lets -underBinder +onlyGivenNames x3
    have hx3 : Within k s0 x3 := by
      exact Within.plain (a := 1073742080) (t := a1) (sub_trans rfl hk) h rfl rfl rfl rfl rfl rfl
    try clear_value x3
    exact State_partnerLeft_within (sub_trans rfl hk) hx3

theorem execGiveUp_within {k : Nat} {s0 t : State} {a0 : _} {a1 : _} {a2 : _} {a3 : State} (hk : 1099511627775 &&& k = 1099511627775) (h : Within k s0 a3) (e : execGiveUp a0 a1 a2 a3 = .next t) : Within k s0 t := by
  unfold Sys2Proof.Machine.execGiveUp at e
  cases e
  exact giveUpMsg_within (sub_trans rfl hk) h

theorem State_lose_within {k : Nat} {s0 : State} {a0 : State} {a1 : _} {a2 : _} (hk : 1285 &&& k = 1285) (h : Within k s0 a0) : Within k s0 (State.lose a0 a1 a2) := by
  induction a2 generalizing a0 a1 with
  | zero =>
    unfold Sys2Proof.Machine.State.lose
    exact h
  | succ _ ih =>
    unfold Sys2Proof.Machine.State.lose
    apply ih
    exact State_raise_within (sub_trans rfl hk) (State_setFld_within (sub_trans rfl hk) h)

theorem State_takeTask_within {k : Nat} {s0 : State} {a0 : State} {a1 : _} {a2 : _} (hk : 1049861 &&& k = 1049861) (h : Within k s0 a0) : Within k s0 (State.takeTask a0 a1 a2) := by
  unfold Sys2Proof.Machine.State.takeTask
  split
  · exact h
  · extract_lets -underBinder +onlyGivenNames x1
    try clear_value x1
    extract_lets -underBinder +onlyGivenNames x2
    try clear_value x2
    extract_lets -underBinder +onlyGivenNames x3
    try clear_value x3
    extract_lets -underBinder +onlyGivenNames x4
    try clear_value x4
    extract_lets -underBinder +onlyGivenNames x5
    try clear_value x5
    extract_lets -underBinder +onlyGivenNames x6
    have hx6 : Within k s0 x6 := by
      exact State_setTask_within (sub_trans rfl hk) h
    try clear_value x6
    exact State_lose_within (sub_trans rfl hk) hx6

theorem State_takeTasks_within {k : Nat} {s0 : State} {a0 : State} {a1 : _} (hk : 1049861 &&& k = 1049861) (h : Within k s0 a0) : Within k s0 (State.takeTasks a0 a1) := by
  unfold Sys2Proof.Machine.State.takeTasks
  refine Within.foldl (fun t1 _ ht1 => ?_) _ ?_
  · exact State_takeTask_within (sub_trans rfl hk) ht1
  · exact h

theorem State_restartF_within {k : Nat} {s0 : State} {a0 : State} {a1 : _} (hk : 1048577 &&& k = 1048577) (h : Within k s0 a0) : Within k s0 (State.restartF a0 a1) := by
  unfold Sys2Proof.Machine.State.restartF
  refine Within.ite (fun _ => ?_) (fun _ => ?_)
  · exact State_clearTaskBits_within (sub_trans rfl hk) (State_setTask_within (sub_trans rfl hk) h)
  · exact h

theorem State_takeRepairs_within {k : Nat} {s0 : State} {a0 : State} (hk : 1073743109 &&& k = 1073743109) (h : Within k s0 a0) : Within k s0 (State.takeRepairs a0) := by
  unfold Sys2Proof.Machine.State.takeRepairs
  extract_lets -underBinder +onlyGivenNames x1
  have hx1 : Within k s0 x1 := by
    refine Within.foldl (fun t2 _ ht2 => ?_) _ ?_
    · exact State_raise_within (sub_trans rfl hk) ht2
    · exact h
  try clear_value x1
  exact State_setFlag_within (sub_trans rfl hk) (Within.set_rdl (sub_trans rfl hk) hx1)

theorem State_startRefs_within {k : Nat} {s0 : State} {a0 : State} {a1 : _} (hk : 4194304 &&& k = 4194304) (h : Within k s0 a0) : Within k s0 (State.startRefs a0 a1) := by
  unfold Sys2Proof.Machine.State.startRefs
  refine Within.foldl (fun t1 _ ht1 => ?_) _ ?_
  · refine Within.ite (fun _ => ?_) (fun _ => ?_)
    · exact State_setCan_within (sub_trans rfl hk) ht1
    · exact ht1
  · exact h

theorem State_startBuses_within {k : Nat} {s0 : State} {a0 : State} {a1 : _} (hk : 412455275783 &&& k = 412455275783) (h : Within k s0 a0) : Within k s0 (State.startBuses a0 a1) := by
  unfold Sys2Proof.Machine.State.startBuses
  exact State_ownTrace_within (sub_trans rfl hk) (State_ecxCfgAll_within (sub_trans rfl hk) (State_startRefs_within (sub_trans rfl hk) (State_canRestrict_within (sub_trans rfl hk) h)))

theorem State_takeLoops_within {k : Nat} {s0 : State} {a0 : State} {a1 : _} (hk : 536870912 &&& k = 536870912) (h : Within k s0 a0) : Within k s0 (State.takeLoops a0 a1) := by
  unfold Sys2Proof.Machine.State.takeLoops
  exact Within.set_loops (sub_trans rfl hk) h

theorem State_takeNote_within {k : Nat} {s0 : State} {a0 : State} {a1 : _} {a2 : _} {a3 : _} (hk : 275951648769 &&& k = 275951648769) (h : Within k s0 a0) : Within k s0 (State.takeNote a0 a1 a2 a3) := by
  unfold Sys2Proof.Machine.State.takeNote
  extract_lets -underBinder +onlyGivenNames x1
  try clear_value x1
  extract_lets -underBinder +onlyGivenNames x2
  have hx2 : Within k s0 x2 := by
    exact State_setFld_within (sub_trans rfl hk) (State_setFlag_within (sub_trans rfl hk) (State_setFlag_within (sub_trans rfl hk) h))
  try clear_value x2
  extract_lets -underBinder +onlyGivenNames x3
  have hx3 : Within k s0 x3 := by
    exact State_setFld_within (sub_trans rfl hk) (State_setFld_within (sub_trans rfl hk) hx2)
  try clear_value x3
  extract_lets -underBinder +onlyGivenNames x4
  have hx4 : Within k s0 x4 := by
    exact State_draw_within (sub_trans rfl hk) hx3
  try clear_value x4
  exact Within.set_rdl (sub_trans rfl hk) hx4

theorem State_takeover_within {k : Nat} {s0 : State} {a0 : State} (hk : 448493886727 &&& k = 448493886727) (h : Within k s0 a0) : Within k s0 (State.takeover a0) := by
  unfold Sys2Proof.Machine.State.takeover
  extract_lets -underBinder +onlyGivenNames x1
  try clear_value x1
  extract_lets -underBinder +onlyGivenNames x2
  try clear_value x2
  extract_lets -underBinder +onlyGivenNames x3
  try clear_value x3
  extract_lets -underBinder +onlyGivenNames x4
  have hx4 : Within k s0 x4 := by
    exact State_takeNote_within (sub_trans rfl hk) (State_applyDue_within (sub_trans rfl hk) (State_abandonSwap_within (sub_trans rfl hk) (State_swapEnd_within (sub_trans rfl hk) h)))
  try clear_value x4
  extract_lets -underBinder +onlyGivenNames x5
  have hx5 : Within k s0 x5 := by
    exact State_takeTasks_within (sub_trans rfl hk) (State_joinPhase_within (sub_trans rfl hk) (State_dropMirror_within (sub_trans rfl hk) (State_takeRepairs_within (sub_trans rfl hk) (State_setRole_within (sub_trans rfl hk) hx4))))
  try clear_value x5
  extract_lets -underBinder +onlyGivenNames x6
  have hx6 : Within k s0 x6 := by
    exact State_raise_within (sub_trans rfl hk) (State_takeLoops_within (sub_trans rfl hk) (State_restartF_within (sub_trans rfl hk) hx5))
  try clear_value x6
  exact State_postMode_within (sub_trans rfl hk) (State_startBuses_within (sub_trans rfl hk) hx6)

theorem takeLine_within {k : Nat} {s0 : State} {a0 : State} (hk : 1073741881 &&& k = 1073741881) (h : Within k s0 a0) : Within k s0 (takeLine a0) := by
  unfold Sys2Proof.Machine.takeLine
  split
  · refine Within.ite (fun _ => ?_) (fun _ => ?_)
    · extract_lets -underBinder +onlyGivenNames x1
      have hx1 : Within k s0 x1 := by
        exact State_setLines_within (sub_trans rfl hk) (State_toTime_within (sub_trans rfl hk) h)
      try clear_value x1
      exact Within.set_rdl (sub_trans rfl hk) hx1
    · exact h
  · exact h

theorem execTakeoverAssertTake_within {k : Nat} {s0 t : State} {a0 : State} (hk : 1073741881 &&& k = 1073741881) (h : Within k s0 a0) (e : execTakeoverAssertTake a0 = .next t) : Within k s0 t := by
  unfold Sys2Proof.Machine.execTakeoverAssertTake at e
  cases e
  exact takeLine_within (sub_trans rfl hk) h

theorem noticeTd_within {k : Nat} {s0 : State} {a0 : State} (hk : 448493886783 &&& k = 448493886783) (h : Within k s0 a0) : Within k s0 (noticeTd a0) := by
  unfold Sys2Proof.Machine.noticeTd
  split
  · refine Within.ite (fun _ => ?_) (fun _ => ?_)
    · exact State_takeover_within (sub_trans rfl hk) (State_toMono_within (sub_trans rfl hk) h)
    · exact h
  · exact h

theorem execGiveUpNoticeTd_within {k : Nat} {s0 t : State} {a0 : State} (hk : 448493886783 &&& k = 448493886783) (h : Within k s0 a0) (e : execGiveUpNoticeTd a0 = .next t) : Within k s0 t := by
  unfold Sys2Proof.Machine.execGiveUpNoticeTd at e
  cases e
  exact noticeTd_within (sub_trans rfl hk) h

theorem State_pulseFail_within {k : Nat} {s0 : State} {a0 : State} {a1 : _} (hk : 1285 &&& k = 1285) (h : Within k s0 a0) : Within k s0 (State.pulseFail a0 a1) := by
  unfold Sys2Proof.Machine.State.pulseFail
  exact State_raise_within (sub_trans rfl hk) (State_setFlag_within (sub_trans rfl hk) h)

theorem pulseTest_within {k : Nat} {s0 : State} {a0 : _} {a1 : _} {a2 : State} (hk : 1073743165 &&& k = 1073743165) (h : Within k s0 a2) : Within k s0 (pulseTest a0 a1 a2) := by
  unfold Sys2Proof.Machine.pulseTest
  refine Within.ite (fun _ => ?_) (fun _ => ?_)
  · extract_lets -underBinder +onlyGivenNames x1
    have hx1 : Within k s0 x1 := by
      exact State_toMono_within (sub_trans rfl hk) h
    try clear_value x1
    extract_lets -underBinder +onlyGivenNames x2
    try clear_value x2
    extract_lets -underBinder +onlyGivenNames x3
    have hx3 : Within k s0 x3 := by
      exact Within.set_rdl (sub_trans rfl hk) hx1
    try clear_value x3
    extract_lets -underBinder +onlyGivenNames x4
    have hx4 : Within k s0 x4 := by
      unfold x4
      refine Within.ite (fun _ => ?_) (fun _ => ?_)
      · exact hx3
      · exact State_pulseFail_within (sub_trans rfl hk) hx3
    try clear_value x4
    refine Within.ite (fun _ => ?_) (fun _ => ?_)
    · exact hx4
    · exact State_pulseFail_within (sub_trans rfl hk) hx4
  · exact h

theorem execHoPulseTest_within {k : Nat} {s0 t : State} {a0 : _} {a1 : _} {a2 : State} (hk : 1073743165 &&& k = 1073743165) (h : Within k s0 a2) (e : execHoPulseTest a0 a1 a2 = .next t) : Within k s0 t := by
  unfold Sys2Proof.Machine.execHoPulseTest at e
  cases e
  exact pulseTest_within (sub_trans rfl hk) h

end Sys2Proof.Laws
end

