-- ==== Sys2Proof/Laws/WithinPlannedSwap.lean ====
section
/-! SUPPORT. What each operation of Machine/PlannedSwap.lean can do to the state (see Laws/Within.lean). -/

/- One thread: elaborating these many small proofs side by side can exceed the memory that check.sh allows. -/
set_option Elab.async false

namespace Sys2Proof.Laws
open Sys2Proof Sys2Proof.Machine

theorem State_swapDefer_within {k : Nat} {s0 : State} {a0 : State} (hk : 1073743109 &&& k = 1073743109) (h : Within k s0 a0) : Within k s0 (State.swapDefer a0) := by
  unfold Sys2Proof.Machine.State.swapDefer
  extract_lets -underBinder +onlyGivenNames x1
  try clear_value x1
  extract_lets -underBinder +onlyGivenNames x2
  have hx2 : Within k s0 x2 := by
    exact Within.set_rdl (sub_trans rfl hk) h
  try clear_value x2
  exact State_swapPhase_within (sub_trans rfl hk) hx2

theorem State_swapRequest_within {k : Nat} {s0 : State} {a0 : State} (hk : 138512696581 &&& k = 138512696581) (h : Within k s0 a0) : Within k s0 (State.swapRequest a0) := by
  unfold Sys2Proof.Machine.State.swapRequest
  refine Within.ite (fun _ => ?_) (fun _ => ?_)
  · exact h
  · refine Within.ite (fun _ => ?_) (fun _ => ?_)
    · exact State_tell_within (sub_trans rfl hk) (Within.set_rdl (sub_trans rfl hk) h)
    · exact State_swapDefer_within (sub_trans rfl hk) h

theorem swapDue_within {k : Nat} {s0 : State} {a0 : State} (hk : 138512696637 &&& k = 138512696637) (h : Within k s0 a0) : Within k s0 (swapDue a0) := by
  unfold Sys2Proof.Machine.swapDue
  refine Within.ite (fun _ => ?_) (fun _ => ?_)
  · exact h
  · split
    · exact State_swapRequest_within (sub_trans rfl hk) (State_toMono_within (sub_trans rfl hk) h)
    · extract_lets -underBinder +onlyGivenNames x1
      try clear_value x1
      refine Within.ite (fun _ => ?_) (fun _ => ?_)
      · exact State_swapRequest_within (sub_trans rfl hk) h
      · exact h

theorem execPlannedSwapDue_within {k : Nat} {s0 t : State} {a0 : State} (hk : 138512696637 &&& k = 138512696637) (h : Within k s0 a0) (e : execPlannedSwapDue a0 = .next t) : Within k s0 t := by
  unfold Sys2Proof.Machine.execPlannedSwapDue at e
  cases e
  exact swapDue_within (sub_trans rfl hk) h

theorem rdlCtrl_within {k : Nat} {s0 : State} {a0 : _} {a1 : _} {a2 : State} (hk : 447755685255 &&& k = 447755685255) (h : Within k s0 a2) : Within k s0 (rdlCtrl a0 a1 a2) := by
  unfold Sys2Proof.Machine.rdlCtrl
  refine Within.ite (fun _ => ?_) (fun _ => ?_)
  · exact State_denyWrite_within (sub_trans rfl hk) h
  · refine Within.ite (fun _ => ?_) (fun _ => ?_)
    · exact h
    · extract_lets -underBinder +onlyGivenNames x1
      have hx1 : Within k s0 x1 := by
        unfold x1
        refine Within.ite (fun _ => ?_) (fun _ => ?_)
        · exact State_swapRequest_within (sub_trans rfl hk) h
        · exact h
      try clear_value x1
      extract_lets -underBinder +onlyGivenNames x2
      have hx2 : Within k s0 x2 := by
        unfold x2
        refine Within.ite (fun _ => ?_) (fun _ => ?_)
        · exact State_joinStart_within (sub_trans rfl hk) hx1
        · exact hx1
      try clear_value x2
      refine Within.ite (fun _ => ?_) (fun _ => ?_)
      · exact State_unitFault_within (sub_trans rfl hk) hx2
      · exact hx2

theorem execSwapNow_within {k : Nat} {s0 t : State} {a0 : _} {a1 : _} {a2 : State} (hk : 447755685255 &&& k = 447755685255) (h : Within k s0 a2) (e : execSwapNow a0 a1 a2 = .next t) : Within k s0 t := by
  unfold Sys2Proof.Machine.execSwapNow at e
  cases e
  exact rdlCtrl_within (sub_trans rfl hk) h

theorem execRejoin_within {k : Nat} {s0 t : State} {a0 : _} {a1 : _} {a2 : State} (hk : 447755685255 &&& k = 447755685255) (h : Within k s0 a2) (e : execRejoin a0 a1 a2 = .next t) : Within k s0 t := by
  unfold Sys2Proof.Machine.execRejoin at e
  cases e
  exact rdlCtrl_within (sub_trans rfl hk) h

theorem execGiveControl_within {k : Nat} {s0 t : State} {a0 : _} {a1 : _} {a2 : State} (hk : 447755685255 &&& k = 447755685255) (h : Within k s0 a2) (e : execGiveControl a0 a1 a2 = .next t) : Within k s0 t := by
  unfold Sys2Proof.Machine.execGiveControl at e
  cases e
  exact rdlCtrl_within (sub_trans rfl hk) h

theorem State_swapFix_within {k : Nat} {s0 : State} {a0 : State} {a1 : _} {a2 : _} (hk : 1073743109 &&& k = 1073743109) (h : Within k s0 a0) : Within k s0 (State.swapFix a0 a1 a2) := by
  unfold Sys2Proof.Machine.State.swapFix
  exact State_swapPhase_within (sub_trans rfl hk) (Within.set_rdl (sub_trans rfl hk) h)

theorem State_swapLoadFix_within {k : Nat} {s0 : State} {a0 : State} {a1 : _} (hk : 1285 &&& k = 1285) (h : Within k s0 a0) : Within k s0 (State.swapLoadFix a0 a1) := by
  unfold Sys2Proof.Machine.State.swapLoadFix
  extract_lets -underBinder +onlyGivenNames x1
  have hx1 : Within k s0 x1 := by
    exact State_setReg_within (sub_trans rfl hk) (State_setReg_within (sub_trans rfl hk) h)
  try clear_value x1
  exact State_wvePhase_within (sub_trans rfl hk) (State_setReg_within (sub_trans rfl hk) hx1)

theorem swapProp_within {k : Nat} {s0 : State} {a0 : _} {a1 : _} {a2 : State} (hk : 138512696581 &&& k = 138512696581) (h : Within k s0 a2) : Within k s0 (swapProp a0 a1 a2) := by
  unfold Sys2Proof.Machine.swapProp
  refine Within.ite (fun _ => ?_) (fun _ => ?_)
  · exact h
  · refine Within.ite (fun _ => ?_) (fun _ => ?_)
    · refine Within.ite (fun _ => ?_) (fun _ => ?_)
      · exact State_tell_within (sub_trans rfl hk) (State_swapLoadFix_within (sub_trans rfl hk) (State_swapFix_within (sub_trans rfl hk) h))
      · exact State_tell_within (sub_trans rfl hk) h
    · refine Within.ite (fun _ => ?_) (fun _ => ?_)
      · exact Within.set_rdl (sub_trans rfl hk) h
      · refine Within.ite (fun _ => ?_) (fun _ => ?_)
        · exact State_tell_within (sub_trans rfl hk) (State_swapFix_within (sub_trans rfl hk) h)
        · exact State_tell_within (sub_trans rfl hk) h

theorem execSwapProp_within {k : Nat} {s0 t : State} {a0 : _} {a1 : _} {a2 : State} (hk : 138512696581 &&& k = 138512696581) (h : Within k s0 a2) (e : execSwapProp a0 a1 a2 = .next t) : Within k s0 t := by
  unfold Sys2Proof.Machine.execSwapProp at e
  cases e
  exact swapProp_within (sub_trans rfl hk) h

theorem swapAck_within {k : Nat} {s0 : State} {a0 : _} {a1 : _} {a2 : State} (hk : 138512794885 &&& k = 138512794885) (h : Within k s0 a2) : Within k s0 (swapAck a0 a1 a2) := by
  unfold Sys2Proof.Machine.swapAck
  refine Within.ite (fun _ => ?_) (fun _ => ?_)
  · refine Within.ite (fun _ => ?_) (fun _ => ?_)
    · extract_lets -underBinder +onlyGivenNames x1
      try clear_value x1
      extract_lets -underBinder +onlyGivenNames x2
      have hx2 : Within k s0 x2 := by
        exact State_swapFix_within (sub_trans rfl hk) h
      try clear_value x2
      refine Within.ite (fun _ => ?_) (fun _ => ?_)
      · exact hx2
      · exact State_tell_within (sub_trans rfl hk) hx2
    · exact State_swapDefer_within (sub_trans rfl hk) h
  · refine Within.ite (fun _ => ?_) (fun _ => ?_)
    · exact State_swapEnd_within (sub_trans rfl hk) h
    · exact h

theorem execSwapAck_within {k : Nat} {s0 t : State} {a0 : _} {a1 : _} {a2 : State} (hk : 138512794885 &&& k = 138512794885) (h : Within k s0 a2) (e : execSwapAck a0 a1 a2 = .next t) : Within k s0 t := by
  unfold Sys2Proof.Machine.execSwapAck at e
  cases e
  exact swapAck_within (sub_trans rfl hk) h

theorem swapCancelMsg_within {k : Nat} {s0 : State} {a0 : State} (hk : 1099511627775 &&& k = 1099511627775) (h : Within k s0 a0) : Within k s0 (swapCancelMsg a0) := by
  unfold Sys2Proof.Machine.swapCancelMsg
  extract_lets -underBinder +onlyGivenNames x1
  try clear_value x1
  extract_lets -underBinder +onlyGivenNames x2
  have hx2 : Within k s0 x2 := by
    exact State_abandonSwap_within (sub_trans rfl hk) (State_swapEnd_within (sub_trans rfl hk) h)
  try clear_value x2
  refine Within.ite (fun _ => ?_) (fun _ => ?_)
  · exact State_restart_within (sub_trans rfl hk) hx2
  · exact hx2

theorem execSwapCancel_within {k : Nat} {s0 t : State} {a0 : _} {a1 : State} (hk : 1099511627775 &&& k = 1099511627775) (h : Within k s0 a1) (e : execSwapCancel a0 a1 = .next t) : Within k s0 t := by
  unfold Sys2Proof.Machine.execSwapCancel at e
  cases e
  exact swapCancelMsg_within (sub_trans rfl hk) h

theorem swapPost_within {k : Nat} {s0 : State} {a0 : State} (hk : 34359743805 &&& k = 34359743805) (h : Within k s0 a0) : Within k s0 (swapPost a0) := by
  unfold Sys2Proof.Machine.swapPost
  split
  · refine Within.ite (fun _ => ?_) (fun _ => ?_)
    · exact h
    · extract_lets -underBinder +onlyGivenNames x1
      have hx1 : Within k s0 x1 := by
        exact State_toTime_within (sub_trans rfl hk) h
      try clear_value x1
      refine Within.ite (fun _ => ?_) (fun _ => ?_)
      · exact State_postMode_within (sub_trans rfl hk) hx1
      · exact State_postMode_within (sub_trans rfl hk) hx1
  · exact h

theorem execSwapGroupModePost_within {k : Nat} {s0 t : State} {a0 : State} (hk : 34359743805 &&& k = 34359743805) (h : Within k s0 a0) (e : execSwapGroupModePost a0 = .next t) : Within k s0 t := by
  unfold Sys2Proof.Machine.execSwapGroupModePost at e
  cases e
  exact swapPost_within (sub_trans rfl hk) h

theorem swapOverlap_within {k : Nat} {s0 : State} {a0 : State} (hk : 1341 &&& k = 1341) (h : Within k s0 a0) : Within k s0 (swapOverlap a0) := by
  unfold Sys2Proof.Machine.swapOverlap
  split
  · refine Within.ite (fun _ => ?_) (fun _ => ?_)
    · exact h
    · extract_lets -underBinder +onlyGivenNames x1
      have hx1 : Within k s0 x1 := by
        exact State_swapPhase_within (sub_trans rfl hk) (State_toTime_within (sub_trans rfl hk) h)
      try clear_value x1
      refine Within.ite (fun _ => ?_) (fun _ => ?_)
      · exact State_setLines_within (sub_trans rfl hk) hx1
      · exact hx1
  · exact h

theorem execSwapOverlapStart_within {k : Nat} {s0 t : State} {a0 : State} (hk : 1341 &&& k = 1341) (h : Within k s0 a0) (e : execSwapOverlapStart a0 = .next t) : Within k s0 t := by
  unfold Sys2Proof.Machine.execSwapOverlapStart at e
  cases e
  exact swapOverlap_within (sub_trans rfl hk) h

theorem State_swapLeave_within {k : Nat} {s0 : State} {a0 : State} (hk : 413395848455 &&& k = 413395848455) (h : Within k s0 a0) : Within k s0 (State.swapLeave a0) := by
  unfold Sys2Proof.Machine.State.swapLeave
  extract_lets -underBinder +onlyGivenNames x1
  have hx1 : Within k s0 x1 := by
    exact State_setLines_within (sub_trans rfl hk) (State_setRole_within (sub_trans rfl hk) h)
  try clear_value x1
  extract_lets -underBinder +onlyGivenNames x2
  have hx2 : Within k s0 x2 := by
    exact State_setFld_within (sub_trans rfl hk) (State_canRestrict_within (sub_trans rfl hk) hx1)
  try clear_value x2
  exact State_clearTaskBits_within (sub_trans rfl hk) (State_setTask_within (sub_trans rfl hk) hx2)

theorem State_swapEnter_within {k : Nat} {s0 : State} {a0 : State} {a1 : _} (hk : 414066937095 &&& k = 414066937095) (h : Within k s0 a0) : Within k s0 (State.swapEnter a0 a1) := by
  unfold Sys2Proof.Machine.State.swapEnter
  extract_lets -underBinder +onlyGivenNames x1
  have hx1 : Within k s0 x1 := by
    exact State_setFld_within (sub_trans rfl hk) (State_setRole_within (sub_trans rfl hk) h)
  try clear_value x1
  extract_lets -underBinder +onlyGivenNames x2
  have hx2 : Within k s0 x2 := by
    exact State_takeLoops_within (sub_trans rfl hk) (State_restartF_within (sub_trans rfl hk) (State_takeTasks_within (sub_trans rfl hk) hx1))
  try clear_value x2
  exact State_startBuses_within (sub_trans rfl hk) hx2

theorem swapInstant_within {k : Nat} {s0 : State} {a0 : State} (hk : 414134046015 &&& k = 414134046015) (h : Within k s0 a0) : Within k s0 (swapInstant a0) := by
  unfold Sys2Proof.Machine.swapInstant
  split
  · refine Within.ite (fun _ => ?_) (fun _ => ?_)
    · exact h
    · extract_lets -underBinder +onlyGivenNames x1
      have hx1 : Within k s0 x1 := by
        exact State_applyDue_within (sub_trans rfl hk) (State_toTime_within (sub_trans rfl hk) h)
      try clear_value x1
      refine Within.ite (fun _ => ?_) (fun _ => ?_)
      · exact State_swapLeave_within (sub_trans rfl hk) hx1
      · exact State_swapEnter_within (sub_trans rfl hk) hx1
  · exact h

theorem execPlannedSwapInstant_within {k : Nat} {s0 t : State} {a0 : State} (hk : 414134046015 &&& k = 414134046015) (h : Within k s0 a0) (e : execPlannedSwapInstant a0 = .next t) : Within k s0 t := by
  unfold Sys2Proof.Machine.execPlannedSwapInstant at e
  cases e
  exact swapInstant_within (sub_trans rfl hk) h

theorem swapDone_within {k : Nat} {s0 : State} {a0 : State} (hk : 1073743165 &&& k = 1073743165) (h : Within k s0 a0) : Within k s0 (swapDone a0) := by
  unfold Sys2Proof.Machine.swapDone
  split
  · refine Within.ite (fun _ => ?_) (fun _ => ?_)
    · exact h
    · extract_lets -underBinder +onlyGivenNames x1
      have hx1 : Within k s0 x1 := by
        exact State_toTime_within (sub_trans rfl hk) h
      try clear_value x1
      extract_lets -underBinder +onlyGivenNames x2
      have hx2 : Within k s0 x2 := by
        unfold x2
        refine Within.ite (fun _ => ?_) (fun _ => ?_)
        · exact hx1
        · exact State_setLines_within (sub_trans rfl hk) hx1
      try clear_value x2
      extract_lets -underBinder +onlyGivenNames x3
      try clear_value x3
      extract_lets -underBinder +onlyGivenNames x4
      have hx4 : Within k s0 x4 := by
        exact Within.set_rdl (sub_trans rfl hk) hx2
      try clear_value x4
      exact State_swapPhase_within (sub_trans rfl hk) hx4
  · exact h

theorem execSwapAssertTake_within {k : Nat} {s0 t : State} {a0 : State} (hk : 1073743165 &&& k = 1073743165) (h : Within k s0 a0) (e : execSwapAssertTake a0 = .next t) : Within k s0 t := by
  unfold Sys2Proof.Machine.execSwapAssertTake at e
  cases e
  exact swapDone_within (sub_trans rfl hk) h

end Sys2Proof.Laws
end

