-- ==== Sys2Proof/Laws/WithinStartup.lean ====
section
/-! SUPPORT. What each operation of Machine/Startup.lean can do to the state (see Laws/Within.lean). -/

/- One thread: elaborating these many small proofs side by side can exceed the memory that check.sh allows. -/
set_option Elab.async false

namespace Sys2Proof.Laws
open Sys2Proof Sys2Proof.Machine

theorem State_firstReleases_within {k : Nat} {s0 : State} {a0 : State} {a1 : _} (hk : 537919489 &&& k = 537919489) (h : Within k s0 a0) : Within k s0 (State.firstReleases a0 a1) := by
  unfold Sys2Proof.Machine.State.firstReleases
  extract_lets -underBinder +onlyGivenNames x1
  try clear_value x1
  extract_lets -underBinder +onlyGivenNames x2
  have hx2 : Within k s0 x2 := by
    refine Within.foldl (fun t3 _ ht3 => ?_) _ ?_
    · split
      · exact State_setTask_within (sub_trans rfl hk) ht3
      · exact ht3
    · exact h
  try clear_value x2
  extract_lets -underBinder +onlyGivenNames x4
  try clear_value x4
  extract_lets -underBinder +onlyGivenNames x5
  have hx5 : Within k s0 x5 := by
    unfold x5
    refine Within.ite (fun _ => ?_) (fun _ => ?_)
    · exact State_setTask_within (sub_trans rfl hk) hx2
    · exact hx2
  try clear_value x5
  exact State_setFlag_within (sub_trans rfl hk) (Within.set_loops (sub_trans rfl hk) hx5)

theorem State_beginRunState_within {k : Nat} {s0 : State} {a0 : State} (hk : 34359743751 &&& k = 34359743751) (h : Within k s0 a0) : Within k s0 (State.beginRunState a0) := by
  unfold Sys2Proof.Machine.State.beginRunState
  extract_lets -underBinder +onlyGivenNames x1
  try clear_value x1
  extract_lets -underBinder +onlyGivenNames x2
  have hx2 : Within k s0 x2 := by
    exact Within.set_cpm (sub_trans rfl hk) h
  try clear_value x2
  exact State_runRecord_within (sub_trans rfl hk) (State_armRequest_within (sub_trans rfl hk) (State_postGrant_within (sub_trans rfl hk) (State_setFld_within (sub_trans rfl hk) hx2)))

theorem State_enterRun_within {k : Nat} {s0 : State} {a0 : State} (hk : 448426679559 &&& k = 448426679559) (h : Within k s0 a0) : Within k s0 (State.enterRun a0) := by
  unfold Sys2Proof.Machine.State.enterRun
  extract_lets -underBinder +onlyGivenNames x1
  try clear_value x1
  extract_lets -underBinder +onlyGivenNames x2
  have hx2 : Within k s0 x2 := by
    exact State_setRole_within (sub_trans rfl hk) (State_setFld_within (sub_trans rfl hk) h)
  try clear_value x2
  extract_lets -underBinder +onlyGivenNames x3
  have hx3 : Within k s0 x3 := by
    exact State_setLines_within (sub_trans rfl hk) (State_beginRunState_within (sub_trans rfl hk) hx2)
  try clear_value x3
  extract_lets -underBinder +onlyGivenNames x4
  try clear_value x4
  extract_lets -underBinder +onlyGivenNames x5
  have hx5 : Within k s0 x5 := by
    exact Within.set_rdl (sub_trans rfl hk) hx3
  try clear_value x5
  extract_lets -underBinder +onlyGivenNames x6
  have hx6 : Within k s0 x6 := by
    unfold x6
    refine Within.ite (fun _ => ?_) (fun _ => ?_)
    · exact State_postMode_within (sub_trans rfl hk) hx5
    · exact hx5
  try clear_value x6
  exact State_startBuses_within (sub_trans rfl hk) (State_firstReleases_within (sub_trans rfl hk) hx6)

theorem State_enterJoin_within {k : Nat} {s0 : State} {a0 : State} (hk : 172872504583 &&& k = 172872504583) (h : Within k s0 a0) : Within k s0 (State.enterJoin a0) := by
  unfold Sys2Proof.Machine.State.enterJoin
  exact State_joinStart_within (sub_trans rfl hk) (State_beginRunState_within (sub_trans rfl hk) h)

theorem State_takeControl_within {k : Nat} {s0 : State} {a0 : State} (hk : 452721646855 &&& k = 452721646855) (h : Within k s0 a0) : Within k s0 (State.takeControl a0) := by
  unfold Sys2Proof.Machine.State.takeControl
  refine Within.ite (fun _ => ?_) (fun _ => ?_)
  · exact Within.plain (a := 4294967552) (t := a0) (sub_trans rfl hk) h rfl rfl rfl rfl rfl rfl
  · exact State_enterRun_within (sub_trans rfl hk) h

theorem startWaitEnd_within {k : Nat} {s0 : State} {a0 : _} {a1 : State} (hk : 448426679615 &&& k = 448426679615) (h : Within k s0 a1) : Within k s0 (startWaitEnd a0 a1) := by
  unfold Sys2Proof.Machine.startWaitEnd
  refine Within.ite (fun _ => ?_) (fun _ => ?_)
  · exact h
  · split
    · refine Within.ite (fun _ => ?_) (fun _ => ?_)
      · exact State_enterRun_within (sub_trans rfl hk) h
      · exact h
    · refine Within.ite (fun _ => ?_) (fun _ => ?_)
      · exact State_enterRun_within (sub_trans rfl hk) h
      · exact h
    · exact State_enterRun_within (sub_trans rfl hk) (State_toMono_within (sub_trans rfl hk) h)

theorem execStartWaitEnd_within {k : Nat} {s0 t : State} {a0 : _} {a1 : State} (hk : 448426679615 &&& k = 448426679615) (h : Within k s0 a1) (e : execStartWaitEnd a0 a1 = .next t) : Within k s0 t := by
  unfold Sys2Proof.Machine.execStartWaitEnd at e
  cases e
  exact startWaitEnd_within (sub_trans rfl hk) h

theorem State_negotiationEnds_within {k : Nat} {s0 : State} {a0 : State} (hk : 447755586823 &&& k = 447755586823) (h : Within k s0 a0) : Within k s0 (State.negotiationEnds a0) := by
  unfold Sys2Proof.Machine.State.negotiationEnds
  exact State_enterHalt_within (sub_trans rfl hk) (State_setFld_within (sub_trans rfl hk) h)

theorem State_negotiateStep_within {k : Nat} {s0 : State} {a0 : State} (hk : 452721712391 &&& k = 452721712391) (h : Within k s0 a0) : Within k s0 (State.negotiateStep a0) := by
  unfold Sys2Proof.Machine.State.negotiateStep
  refine Within.ite (fun _ => ?_) (fun _ => ?_)
  · exact h
  · split
    · refine Within.ite (fun _ => ?_) (fun _ => ?_)
      · exact State_negotiationEnds_within (sub_trans rfl hk) (State_raise_within (sub_trans rfl hk) h)
      · refine Within.ite (fun _ => ?_) (fun _ => ?_)
        · exact State_enterJoin_within (sub_trans rfl hk) h
        · refine Within.ite (fun _ => ?_) (fun _ => ?_)
          · exact State_takeControl_within (sub_trans rfl hk) h
          · exact State_enterJoin_within (sub_trans rfl hk) h
    · refine Within.ite (fun _ => ?_) (fun _ => ?_)
      · exact h
      · exact State_enterJoin_within (sub_trans rfl hk) h

theorem negotiateMsg_within {k : Nat} {s0 : State} {a0 : _} {a1 : _} {a2 : _} {a3 : _} {a4 : State} (hk : 452721712391 &&& k = 452721712391) (h : Within k s0 a4) : Within k s0 (negotiateMsg a0 a1 a2 a3 a4) := by
  unfold Sys2Proof.Machine.negotiateMsg
  refine Within.ite (fun _ => ?_) (fun _ => ?_)
  · exact h
  · extract_lets -underBinder +onlyGivenNames x1
    try clear_value x1
    extract_lets -underBinder +onlyGivenNames x2
    have hx2 : Within k s0 x2 := by
      exact State_setFlag_within (sub_trans rfl hk) (Within.set_rdl (sub_trans rfl hk) h)
    try clear_value x2
    exact State_negotiateStep_within (sub_trans rfl hk) hx2

theorem execNegotiate_within {k : Nat} {s0 t : State} {a0 : _} {a1 : _} {a2 : _} {a3 : _} {a4 : State} (hk : 452721712391 &&& k = 452721712391) (h : Within k s0 a4) (e : execNegotiate a0 a1 a2 a3 a4 = .next t) : Within k s0 t := by
  unfold Sys2Proof.Machine.execNegotiate at e
  cases e
  exact negotiateMsg_within (sub_trans rfl hk) h

theorem negotiateTimeout_within {k : Nat} {s0 : State} {a0 : State} (hk : 452721712447 &&& k = 452721712447) (h : Within k s0 a0) : Within k s0 (negotiateTimeout a0) := by
  unfold Sys2Proof.Machine.negotiateTimeout
  refine Within.ite (fun _ => ?_) (fun _ => ?_)
  · exact h
  · extract_lets -underBinder +onlyGivenNames x1
    have hx1 : Within k s0 x1 := by
      exact State_toMono_within (sub_trans rfl hk) h
    try clear_value x1
    refine Within.ite (fun _ => ?_) (fun _ => ?_)
    · exact State_takeControl_within (sub_trans rfl hk) hx1
    · exact State_enterJoin_within (sub_trans rfl hk) hx1

theorem execNegotiateTimeout_within {k : Nat} {s0 t : State} {a0 : State} (hk : 452721712447 &&& k = 452721712447) (h : Within k s0 a0) (e : execNegotiateTimeout a0 = .next t) : Within k s0 t := by
  unfold Sys2Proof.Machine.execNegotiateTimeout at e
  cases e
  exact negotiateTimeout_within (sub_trans rfl hk) h

theorem negotiateIndet_within {k : Nat} {s0 : State} {a0 : State} (hk : 447755586879 &&& k = 447755586879) (h : Within k s0 a0) : Within k s0 (negotiateIndet a0) := by
  unfold Sys2Proof.Machine.negotiateIndet
  refine Within.ite (fun _ => ?_) (fun _ => ?_)
  · extract_lets -underBinder +onlyGivenNames x1
    have hx1 : Within k s0 x1 := by
      exact State_toMono_within (sub_trans rfl hk) h
    try clear_value x1
    exact State_negotiationEnds_within (sub_trans rfl hk) (State_raise_within (sub_trans rfl hk) (State_setFlag_within (sub_trans rfl hk) hx1))
  · exact h

theorem execNegotiateIndeterminateTimeout_within {k : Nat} {s0 t : State} {a0 : State} (hk : 447755586879 &&& k = 447755586879) (h : Within k s0 a0) (e : execNegotiateIndeterminateTimeout a0 = .next t) : Within k s0 t := by
  unfold Sys2Proof.Machine.execNegotiateIndeterminateTimeout at e
  cases e
  exact negotiateIndet_within (sub_trans rfl hk) h

theorem State_giveAsserted_within {k : Nat} {s0 : State} {a0 : State} (hk : 1099511627775 &&& k = 1099511627775) (h : Within k s0 a0) : Within k s0 (State.giveAsserted a0) := by
  unfold Sys2Proof.Machine.State.giveAsserted
  refine Within.ite (fun _ => ?_) (fun _ => ?_)
  · refine Within.ite (fun _ => ?_) (fun _ => ?_)
    · exact State_takeover_within (sub_trans rfl hk) h
    · exact State_partnerLeft_within (sub_trans rfl hk) h
  · exact h

theorem State_giveLevel_within {k : Nat} {s0 : State} {a0 : State} {a1 : _} (hk : 1099511627775 &&& k = 1099511627775) (h : Within k s0 a0) : Within k s0 (State.giveLevel a0 a1) := by
  unfold Sys2Proof.Machine.State.giveLevel
  extract_lets -underBinder +onlyGivenNames x1
  try clear_value x1
  extract_lets -underBinder +onlyGivenNames x2
  try clear_value x2
  extract_lets -underBinder +onlyGivenNames x3
  try clear_value x3
  extract_lets -underBinder +onlyGivenNames x4
  have hx4 : Within k s0 x4 := by
    exact Within.set_cpm (sub_trans rfl hk) h
  try clear_value x4
  extract_lets -underBinder +onlyGivenNames x5
  have hx5 : Within k s0 x5 := by
    exact State_negotiateStep_within (sub_trans rfl hk) (State_setFlag_within (sub_trans rfl hk) hx4)
  try clear_value x5
  refine Within.ite (fun _ => ?_) (fun _ => ?_)
  · exact State_giveAsserted_within (sub_trans rfl hk) hx5
  · exact hx5

theorem State_takeLevel_within {k : Nat} {s0 : State} {a0 : State} {a1 : _} (hk : 447755685127 &&& k = 447755685127) (h : Within k s0 a0) : Within k s0 (State.takeLevel a0 a1) := by
  unfold Sys2Proof.Machine.State.takeLevel
  extract_lets -underBinder +onlyGivenNames x1
  try clear_value x1
  extract_lets -underBinder +onlyGivenNames x2
  have hx2 : Within k s0 x2 := by
    exact Within.set_cpm (sub_trans rfl hk) h
  try clear_value x2
  extract_lets -underBinder +onlyGivenNames x3
  have hx3 : Within k s0 x3 := by
    exact State_rimSend_within (sub_trans rfl hk) (State_setFlag_within (sub_trans rfl hk) hx2)
  try clear_value x3
  refine Within.ite (fun _ => ?_) (fun _ => ?_)
  · exact State_giveUp_within (sub_trans rfl hk) (State_raise_within (sub_trans rfl hk) hx3)
  · exact hx3

theorem hoAccept_within {k : Nat} {s0 : State} {a0 : _} {a1 : _} {a2 : State} (hk : 1099511627775 &&& k = 1099511627775) (h : Within k s0 a2) : Within k s0 (hoAccept a0 a1 a2) := by
  unfold Sys2Proof.Machine.hoAccept
  refine Within.ite (fun _ => ?_) (fun _ => ?_)
  · exact h
  · split
    · exact State_giveLevel_within (sub_trans rfl hk) h
    · exact State_takeLevel_within (sub_trans rfl hk) h

theorem execHoInputAccept_within {k : Nat} {s0 t : State} {a0 : _} {a1 : _} {a2 : State} (hk : 1099511627775 &&& k = 1099511627775) (h : Within k s0 a2) (e : execHoInputAccept a0 a1 a2 = .next t) : Within k s0 t := by
  unfold Sys2Proof.Machine.execHoInputAccept at e
  cases e
  exact hoAccept_within (sub_trans rfl hk) h

theorem hoIndet_within {k : Nat} {s0 : State} {a0 : _} {a1 : State} (hk : 1285 &&& k = 1285) (h : Within k s0 a1) : Within k s0 (hoIndet a0 a1) := by
  unfold Sys2Proof.Machine.hoIndet
  refine Within.ite (fun _ => ?_) (fun _ => ?_)
  · exact h
  · extract_lets -underBinder +onlyGivenNames x1
    have hx1 : Within k s0 x1 := by
      exact State_setFlag_within (sub_trans rfl hk) h
    try clear_value x1
    split
    · exact State_raise_within (sub_trans rfl hk) (Within.set_cpm (sub_trans rfl hk) hx1)
    · exact State_raise_within (sub_trans rfl hk) (Within.set_cpm (sub_trans rfl hk) hx1)

theorem execHoIndeterminate_within {k : Nat} {s0 t : State} {a0 : _} {a1 : State} (hk : 1285 &&& k = 1285) (h : Within k s0 a1) (e : execHoIndeterminate a0 a1 = .next t) : Within k s0 t := by
  unfold Sys2Proof.Machine.execHoIndeterminate at e
  cases e
  exact hoIndet_within (sub_trans rfl hk) h

theorem State_startNote_within {k : Nat} {s0 : State} {a0 : State} {a1 : _} {a2 : _} (hk : 1285 &&& k = 1285) (h : Within k s0 a0) : Within k s0 (State.startNote a0 a1 a2) := by
  unfold Sys2Proof.Machine.State.startNote
  exact State_stopRecord_within (sub_trans rfl hk) (State_raise_within (sub_trans rfl hk) h)

theorem State_startFail_within {k : Nat} {s0 : State} {a0 : State} {a1 : _} {a2 : _} {a3 : _} (hk : 1285 &&& k = 1285) (h : Within k s0 a0) : Within k s0 (State.startFail a0 a1 a2 a3) := by
  unfold Sys2Proof.Machine.State.startFail
  extract_lets -underBinder +onlyGivenNames x1
  have hx1 : Within k s0 x1 := by
    exact State_startNote_within (sub_trans rfl hk) h
  try clear_value x1
  extract_lets -underBinder +onlyGivenNames x2
  have hx2 : Within k s0 x2 := by
    unfold x2
    refine Within.ite (fun _ => ?_) (fun _ => ?_)
    · exact State_slath_within (sub_trans rfl hk) hx1
    · exact hx1
  try clear_value x2
  exact Within.set_cpm (sub_trans rfl hk) hx2

theorem State_step1_within {k : Nat} {s0 : State} {a0 : State} {a1 : _} (hk : 1 &&& k = 1) (h : Within k s0 a0) : Within k s0 (State.step1 a0 a1) := by
  unfold Sys2Proof.Machine.State.step1
  extract_lets -underBinder +onlyGivenNames x1
  have hx1 : Within k s0 x1 := by
    exact State_setFld_within (sub_trans rfl hk) (State_setFld_within (sub_trans rfl hk) h)
  try clear_value x1
  extract_lets -underBinder +onlyGivenNames x2
  try clear_value x2
  exact State_setFlag_within (sub_trans rfl hk) (State_setReg_within (sub_trans rfl hk) hx1)

theorem State_alwaysOn_within {k : Nat} {s0 : State} {a0 : State} {a1 : _} (hk : 1 &&& k = 1) (h : Within k s0 a0) : Within k s0 (State.alwaysOn a0 a1) := by
  unfold Sys2Proof.Machine.State.alwaysOn
  extract_lets -underBinder +onlyGivenNames x1
  have hx1 : Within k s0 x1 := by
    unfold x1
    refine Within.ite (fun _ => ?_) (fun _ => ?_)
    · exact State_setFld_within (sub_trans rfl hk) (State_setFld_within (sub_trans rfl hk) h)
    · exact h
  try clear_value x1
  extract_lets -underBinder +onlyGivenNames x2
  try clear_value x2
  exact State_setFld_within (sub_trans rfl hk) hx1

theorem State_timeFromZero_within {k : Nat} {s0 : State} {a0 : State} (hk : 24 &&& k = 24) (h : Within k s0 a0) : Within k s0 (State.timeFromZero a0) := by
  unfold Sys2Proof.Machine.State.timeFromZero
  exact Within.plain (a := 24) (t := a0) (sub_trans rfl hk) h rfl rfl rfl rfl rfl rfl

theorem State_step2Show_within {k : Nat} {s0 : State} {a0 : State} (hk : 1029 &&& k = 1029) (h : Within k s0 a0) : Within k s0 (State.step2Show a0) := by
  unfold Sys2Proof.Machine.State.step2Show
  exact State_recFirst_within (sub_trans rfl hk) (State_showConf_within (sub_trans rfl hk) (State_pnlStart_within (sub_trans rfl hk) h))

theorem State_step2_within {k : Nat} {s0 : State} {a0 : State} {a1 : _} {a2 : _} (hk : 1053 &&& k = 1053) (h : Within k s0 a0) : Within k s0 (State.step2 a0 a1 a2) := by
  unfold Sys2Proof.Machine.State.step2
  extract_lets -underBinder +onlyGivenNames x1
  have hx1 : Within k s0 x1 := by
    exact State_setFlag_within (sub_trans rfl hk) (State_alwaysOn_within (sub_trans rfl hk) h)
  try clear_value x1
  extract_lets -underBinder +onlyGivenNames x2
  have hx2 : Within k s0 x2 := by
    exact State_setFlag_within (sub_trans rfl hk) (State_setFlag_within (sub_trans rfl hk) hx1)
  try clear_value x2
  extract_lets -underBinder +onlyGivenNames x3
  have hx3 : Within k s0 x3 := by
    exact State_setFlag_within (sub_trans rfl hk) (State_setFlag_within (sub_trans rfl hk) hx2)
  try clear_value x3
  exact State_step2Show_within (sub_trans rfl hk) (State_timeFromZero_within (sub_trans rfl hk) hx3)

theorem State_setDividers_within {k : Nat} {s0 s : State} {b : List Byte} (hk : 1 &&& k = 1) (h : Within k s0 s) :
    Within k s0 (s.setDividers b) := by
  unfold State.setDividers
  extract_lets +onlyGivenNames put
  have hput : ∀ t f lo hi v, Within k s0 t → Within k s0 (put t f lo hi v) := by
    intro t f lo hi v ht
    exact Within.ite (fun _ => State_setFld_within (sub_trans rfl hk) ht) (fun _ => ht)
  clear_value put
  exact hput _ _ _ _ _ (hput _ _ _ _ _ (hput _ _ _ _ _ h))

theorem State_step4_within {k : Nat} {s0 : State} {a0 : State} {a1 : _} {a2 : _} (hk : 1285 &&& k = 1285) (h : Within k s0 a0) : Within k s0 (State.step4 a0 a1 a2) := by
  unfold Sys2Proof.Machine.State.step4
  extract_lets -underBinder +onlyGivenNames x1
  have hx1 : Within k s0 x1 := by
    exact State_setFlag_within (sub_trans rfl hk) (State_setFld_within (sub_trans rfl hk) h)
  try clear_value x1
  extract_lets -underBinder +onlyGivenNames x2
  have hx2 : Within k s0 x2 := by
    exact State_setFlag_within (sub_trans rfl hk) hx1
  try clear_value x2
  exact State_raise_within (sub_trans rfl hk) hx2

theorem State_step6_within {k : Nat} {s0 : State} {a0 : State} (hk : 16778501 &&& k = 16778501) (h : Within k s0 a0) : Within k s0 (State.step6 a0) := by
  unfold Sys2Proof.Machine.State.step6
  extract_lets -underBinder +onlyGivenNames x1
  extract_lets -underBinder +onlyGivenNames x2
  have hx2 : Within k s0 x2 := by
    exact Within.set_field (sub_trans rfl hk) h
  exact State_raise_within (sub_trans rfl hk) hx2

theorem State_step7_within {k : Nat} {s0 : State} {a0 : State} (hk : 34368128261 &&& k = 34368128261) (h : Within k s0 a0) : Within k s0 (State.step7 a0) := by
  unfold Sys2Proof.Machine.State.step7
  extract_lets -underBinder +onlyGivenNames x1
  try clear_value x1
  extract_lets -underBinder +onlyGivenNames x2
  have hx2 : Within k s0 x2 := by
    exact Within.set_rim (sub_trans rfl hk) h
  try clear_value x2
  exact State_sendCfg_within (sub_trans rfl hk) (State_setFlag_within (sub_trans rfl hk) hx2)

theorem State_replaySet_within {k : Nat} {s0 : State} {a0 : State} {a1 : _} (hk : 1196034 &&& k = 1196034) (h : Within k s0 a0) : Within k s0 (State.replaySet a0 a1) := by
  unfold Sys2Proof.Machine.State.replaySet
  extract_lets -underBinder +onlyGivenNames x1
  try clear_value x1
  extract_lets -underBinder +onlyGivenNames x2
  try clear_value x2
  extract_lets -underBinder +onlyGivenNames x3
  have hx3 : Within k s0 x3 := by
    refine Within.foldl (fun t4 _ ht4 => ?_) _ ?_
    · refine Within.ite (fun _ => ?_) (fun _ => ?_)
      · exact State_wrBytes_within (sub_trans rfl hk) ht4
      · exact State_setRecord_within (sub_trans rfl hk) ht4
    · exact h
  try clear_value x3
  extract_lets -underBinder +onlyGivenNames x5
  try clear_value x5
  exact State_setTask_within (sub_trans rfl hk) (Within.set_g (sub_trans rfl hk) hx3)

theorem State_replay_within {k : Nat} {s0 : State} {a0 : State} (hk : 1197319 &&& k = 1197319) (h : Within k s0 a0) : Within k s0 (State.replay a0) := by
  unfold Sys2Proof.Machine.State.replay
  extract_lets -underBinder +onlyGivenNames x1
  try clear_value x1
  extract_lets -underBinder +onlyGivenNames x2
  have hx2 : Within k s0 x2 := by
    refine Within.foldl (fun t3 _ ht3 => ?_) _ ?_
    · exact State_replaySet_within (sub_trans rfl hk) ht3
    · exact h
  try clear_value x2
  extract_lets -underBinder +onlyGivenNames x4
  have hx4 : Within k s0 x4 := by
    exact State_setFld_within (sub_trans rfl hk) hx2
  try clear_value x4
  refine Within.ite (fun _ => ?_) (fun _ => ?_)
  · exact State_raise_within (sub_trans rfl hk) (State_setFlag_within (sub_trans rfl hk) (State_wrBytes_within (sub_trans rfl hk) hx4))
  · exact hx4

theorem State_interrupted_within {k : Nat} {s0 : State} {a0 : State} (hk : 1285 &&& k = 1285) (h : Within k s0 a0) : Within k s0 (State.interrupted a0) := by
  unfold Sys2Proof.Machine.State.interrupted
  split
  · refine Within.ite (fun _ => ?_) (fun _ => ?_)
    · exact State_raise_within (sub_trans rfl hk) h
    · exact h
  · exact h

theorem State_chooseG_within {k : Nat} {s0 : State} {a0 : State} {a1 : _} {a2 : _} {a3 : _} (hk : 132357 &&& k = 132357) (h : Within k s0 a0) : Within k s0 (State.chooseG a0 a1 a2 a3) := by
  unfold Sys2Proof.Machine.State.chooseG
  extract_lets -underBinder +onlyGivenNames x1
  try clear_value x1
  split
  · extract_lets -underBinder +onlyGivenNames x2
    try clear_value x2
    extract_lets -underBinder +onlyGivenNames x3
    try clear_value x3
    extract_lets -underBinder +onlyGivenNames x4
    try clear_value x4
    exact State_raise_within (sub_trans rfl hk) (Within.plain (a := 131328) (t := a0) (sub_trans rfl hk) h rfl rfl rfl rfl rfl rfl)
  · exact State_raise_within (sub_trans rfl hk) (Within.set_g (sub_trans rfl hk) h)

theorem State_step9_within {k : Nat} {s0 : State} {a0 : State} (hk : 452721712391 &&& k = 452721712391) (h : Within k s0 a0) : Within k s0 (State.step9 a0) := by
  unfold Sys2Proof.Machine.State.step9
  split
  · exact State_takeControl_within (sub_trans rfl hk) h
  · exact State_negotiateStep_within (sub_trans rfl hk) (State_sendNegotiate_within (sub_trans rfl hk) (Within.set_cpm (sub_trans rfl hk) h))
  · exact State_negotiateStep_within (sub_trans rfl hk) (State_sendNegotiate_within (sub_trans rfl hk) (Within.set_cpm (sub_trans rfl hk) h))
  · exact State_enterHalt_within (sub_trans rfl hk) h
  · exact State_enterHalt_within (sub_trans rfl hk) (State_raise_within (sub_trans rfl hk) h)

theorem State_imageFail_within {k : Nat} {s0 : State} {a0 : State} {a1 : _} {a2 : _} (hk : 17669 &&& k = 17669) (h : Within k s0 a0) : Within k s0 (State.imageFail a0 a1 a2) := by
  unfold Sys2Proof.Machine.State.imageFail
  exact State_startNote_within (sub_trans rfl hk) (State_loadReject_within (sub_trans rfl hk) (Within.set_img (sub_trans rfl hk) h))

theorem State_haltOnSlath_within {k : Nat} {s0 : State} {a0 : State} (hk : 447755586823 &&& k = 447755586823) (h : Within k s0 a0) : Within k s0 (State.haltOnSlath a0) := by
  unfold Sys2Proof.Machine.State.haltOnSlath
  exact State_enterHalt_within (sub_trans rfl hk) (State_slath_within (sub_trans rfl hk) h)

theorem State_step8_within {k : Nat} {s0 : State} {a0 : State} {a1 : _} {a2 : _} (hk : 453057928455 &&& k = 453057928455) (h : Within k s0 a0) : Within k s0 (State.step8 a0 a1 a2) := by
  unfold Sys2Proof.Machine.State.step8
  split
  · exact State_haltOnSlath_within (sub_trans rfl hk) (State_imageFail_within (sub_trans rfl hk) h)
  · extract_lets -underBinder +onlyGivenNames x1
    have hx1 : Within k s0 x1 := by
      exact State_interrupted_within (sub_trans rfl hk) (State_placeImage_within (sub_trans rfl hk) (State_slath_within (sub_trans rfl hk) h))
    try clear_value x1
    extract_lets -underBinder +onlyGivenNames x2
    have hx2 : Within k s0 x2 := by
      exact State_chooseG_within (sub_trans rfl hk) (State_startEcc_within (sub_trans rfl hk) (State_startEcc_within (sub_trans rfl hk) hx1))
    try clear_value x2
    exact State_step9_within (sub_trans rfl hk) (State_replay_within (sub_trans rfl hk) hx2)

theorem State_steps4to7_within {k : Nat} {s0 s : State} {f : StartFindings} {rest : State → State} (hk : 34384905477 &&& k = 34384905477)
    (hf : ∀ t, Within k s0 t → Within k s0 (rest t)) (h : Within k s0 s) : Within k s0 (s.steps4to7 f rest) := by
  unfold State.steps4to7
  extract_lets +onlyGivenNames x1
  have hx1 : Within k s0 x1 := State_step4_within (sub_trans rfl hk) h
  clear_value x1
  refine Within.ite (fun _ => State_startFail_within (sub_trans rfl hk) hx1) (fun _ => ?_)
  refine Within.ite (fun _ => State_startFail_within (sub_trans rfl hk) hx1) (fun _ => ?_)
  refine Within.ite (fun _ => State_startFail_within (sub_trans rfl hk) hx1) (fun _ => ?_)
  extract_lets +onlyGivenNames x2
  have hx2 : Within k s0 x2 := State_step6_within (sub_trans rfl hk) hx1
  clear_value x2
  exact Within.ite (fun _ => State_startFail_within (sub_trans rfl hk) hx2) (fun _ => hf _ (State_step7_within (sub_trans rfl hk) hx2))

theorem State_steps3on_within {k : Nat} {s0 : State} {a0 : State} {a1 : _} (hk : 453083094279 &&& k = 453083094279) (h : Within k s0 a0) : Within k s0 (State.steps3on a0 a1) := by
  unfold Sys2Proof.Machine.State.steps3on
  extract_lets -underBinder +onlyGivenNames x1
  try clear_value x1
  extract_lets -underBinder +onlyGivenNames x2
  have hx2 : Within k s0 x2 := by
    exact State_startEcc_within (sub_trans rfl hk) h
  try clear_value x2
  split
  · refine State_steps4to7_within (sub_trans rfl hk) (fun t3 ht3 => ?_) ?_
    · exact State_haltOnSlath_within (sub_trans rfl hk) ht3
    · exact State_imageFail_within (sub_trans rfl hk) hx2
  · extract_lets -underBinder +onlyGivenNames x4
    try clear_value x4
    extract_lets -underBinder +onlyGivenNames x5
    try clear_value x5
    extract_lets -underBinder +onlyGivenNames x6
    have hx6 : Within k s0 x6 := by
      unfold x6
      split
      · exact State_setDividers_within (sub_trans rfl hk) hx2
      · exact hx2
    try clear_value x6
    refine Within.ite (fun _ => ?_) (fun _ => ?_)
    · exact State_startFail_within (sub_trans rfl hk) (State_setFlag_within (sub_trans rfl hk) hx6)
    · refine State_steps4to7_within (sub_trans rfl hk) (fun t7 ht7 => ?_) ?_
      · exact State_step8_within (sub_trans rfl hk) ht7
      · exact Within.set_img (sub_trans rfl hk) hx6

theorem startup_within {k : Nat} {s0 : State} {a0 : _} {a1 : State} (hk : 1099511627775 &&& k = 1099511627775) (h : Within k s0 a1) : Within k s0 (startup a0 a1) := by
  unfold Sys2Proof.Machine.startup
  refine Within.ite (fun _ => ?_) (fun _ => ?_)
  · exact h
  · extract_lets -underBinder +onlyGivenNames x1
    try clear_value x1
    extract_lets -underBinder +onlyGivenNames x2
    try clear_value x2
    extract_lets -underBinder +onlyGivenNames x3
    have hx3 : Within k s0 x3 := by
      exact State_step2_within (sub_trans rfl hk) (State_step1_within (sub_trans rfl hk) (State_restart_within (sub_trans rfl hk) h))
    try clear_value x3
    refine Within.ite (fun _ => ?_) (fun _ => ?_)
    · exact State_startFail_within (sub_trans rfl hk) hx3
    · exact State_steps3on_within (sub_trans rfl hk) hx3

theorem execStartup_within {k : Nat} {s0 t : State} {a0 : _} {a1 : State} (hk : 1099511627775 &&& k = 1099511627775) (h : Within k s0 a1) (e : execStartup a0 a1 = .next t) : Within k s0 t := by
  unfold Sys2Proof.Machine.execStartup at e
  cases e
  exact startup_within (sub_trans rfl hk) h

end Sys2Proof.Laws
end

