-- ==== Sys2Proof/Laws/WithinSwapLoad.lean ====
section
/-! SUPPORT. What each operation of Machine/SwapLoad.lean can do to the state (see Laws/Within.lean). -/

/- One thread: elaborating these many small proofs side by side can exceed the memory that check.sh allows. -/
set_option Elab.async false

namespace Sys2Proof.Laws
open Sys2Proof Sys2Proof.Machine

theorem swapPrepared_within {k : Nat} {s0 : State} {a0 : State} (hk : 1285 &&& k = 1285) (h : Within k s0 a0) : Within k s0 (swapPrepared a0) := by
  unfold Sys2Proof.Machine.swapPrepared
  split
  · refine Within.ite (fun _ => ?_) (fun _ => ?_)
    · exact h
    · extract_lets -underBinder +onlyGivenNames x1
      try clear_value x1
      exact State_wvePhase_within (sub_trans rfl hk) (State_setFlag_within (sub_trans rfl hk) (State_setFld_within (sub_trans rfl hk) h))
  · exact h

theorem execSwapPrepared_within {k : Nat} {s0 t : State} {a0 : State} (hk : 1285 &&& k = 1285) (h : Within k s0 a0) (e : execSwapPrepared a0 = .next t) : Within k s0 t := by
  unfold Sys2Proof.Machine.execSwapPrepared at e
  cases e
  exact swapPrepared_within (sub_trans rfl hk) h

theorem State_dropSinks_within {k : Nat} {s0 : State} {a0 : State} {a1 : _} (hk : 16777216 &&& k = 16777216) (h : Within k s0 a0) : Within k s0 (State.dropSinks a0 a1) := by
  unfold Sys2Proof.Machine.State.dropSinks
  extract_lets -underBinder +onlyGivenNames x1
  try clear_value x1
  refine State_settle_within (sub_trans rfl hk) ?_
  refine Within.foldl (fun t2 _ ht2 => ?_) _ ?_
  · exact State_modChan_within (sub_trans rfl hk) ht2
  · exact h

theorem State_swapLoadEnter_within {k : Nat} {s0 : State} {a0 : State} {a1 : _} {a2 : _} (hk : 172889228549 &&& k = 172889228549) (h : Within k s0 a0) : Within k s0 (State.swapLoadEnter a0 a1 a2) := by
  unfold Sys2Proof.Machine.State.swapLoadEnter
  extract_lets -underBinder +onlyGivenNames x1
  have hx1 : Within k s0 x1 := by
    exact State_dropSinks_within (sub_trans rfl hk) (State_setFlag_within (sub_trans rfl hk) (State_setFld_within (sub_trans rfl hk) (State_setRole_within (sub_trans rfl hk) h)))
  try clear_value x1
  extract_lets -underBinder +onlyGivenNames x2
  try clear_value x2
  extract_lets -underBinder +onlyGivenNames x3
  have hx3 : Within k s0 x3 := by
    exact State_sendCfg_within (sub_trans rfl hk) (Within.set_img (sub_trans rfl hk) hx1)
  try clear_value x3
  extract_lets -underBinder +onlyGivenNames x4
  have hx4 : Within k s0 x4 := by
    exact Within.set_img (sub_trans rfl hk) hx3
  try clear_value x4
  exact Within.set_rdl (sub_trans rfl hk) hx4

theorem State_swapLoadLeave_within {k : Nat} {s0 : State} {a0 : State} {a1 : _} (hk : 413395848455 &&& k = 413395848455) (h : Within k s0 a0) : Within k s0 (State.swapLoadLeave a0 a1) := by
  unfold Sys2Proof.Machine.State.swapLoadLeave
  extract_lets -underBinder +onlyGivenNames x1
  have hx1 : Within k s0 x1 := by
    exact State_setFlag_within (sub_trans rfl hk) (State_swapLeave_within (sub_trans rfl hk) h)
  try clear_value x1
  exact Within.set_rdl (sub_trans rfl hk) hx1

theorem swapLoadInstant_within {k : Nat} {s0 : State} {a0 : State} (hk : 447839489343 &&& k = 447839489343) (h : Within k s0 a0) : Within k s0 (swapLoadInstant a0) := by
  unfold Sys2Proof.Machine.swapLoadInstant
  split
  · refine Within.ite (fun _ => ?_) (fun _ => ?_)
    · exact h
    · extract_lets -underBinder +onlyGivenNames x1
      have hx1 : Within k s0 x1 := by
        exact State_applyDue_within (sub_trans rfl hk) (State_toTime_within (sub_trans rfl hk) h)
      try clear_value x1
      refine Within.ite (fun _ => ?_) (fun _ => ?_)
      · exact State_swapLoadLeave_within (sub_trans rfl hk) hx1
      · split
        · exact State_swapLoadEnter_within (sub_trans rfl hk) hx1
        · exact hx1
  · exact h

theorem execSwapLoadInstant_within {k : Nat} {s0 t : State} {a0 : State} (hk : 447839489343 &&& k = 447839489343) (h : Within k s0 a0) (e : execSwapLoadInstant a0 = .next t) : Within k s0 t := by
  unfold Sys2Proof.Machine.execSwapLoadInstant at e
  cases e
  exact swapLoadInstant_within (sub_trans rfl hk) h

theorem State_carryPut_within {k : Nat} {s0 : State} {a0 : State} {a1 : _} (hk : 1179650 &&& k = 1179650) (h : Within k s0 a0) : Within k s0 (State.carryPut a0 a1) := by
  unfold Sys2Proof.Machine.State.carryPut
  extract_lets -underBinder +onlyGivenNames x1
  try clear_value x1
  split
  · extract_lets -underBinder +onlyGivenNames x2
    try clear_value x2
    exact State_setTask_within (sub_trans rfl hk) h
  · exact Within.set_g (sub_trans rfl hk) h
  · exact State_wrBytes_within (sub_trans rfl hk) h

theorem State_clearImage_within {k : Nat} {s0 : State} {a0 : State} (hk : 1 &&& k = 1) (h : Within k s0 a0) : Within k s0 (State.clearImage a0) := by
  unfold Sys2Proof.Machine.State.clearImage
  extract_lets -underBinder +onlyGivenNames x1
  have hx1 : Within k s0 x1 := by
    refine Within.foldl (fun t2 _ ht2 => ?_) _ ?_
    · exact State_setFlag_within (sub_trans rfl hk) ht2
    · exact h
  try clear_value x1
  extract_lets -underBinder +onlyGivenNames x3
  have hx3 : Within k s0 x3 := by
    refine Within.foldl (fun t4 _ ht4 => ?_) _ ?_
    · exact State_setFlag_within (sub_trans rfl hk) ht4
    · exact hx1
  try clear_value x3
  extract_lets -underBinder +onlyGivenNames x5
  have hx5 : Within k s0 x5 := by
    refine Within.foldl (fun t6 _ ht6 => ?_) _ ?_
    · exact State_setFld_within (sub_trans rfl hk) ht6
    · exact hx3
  try clear_value x5
  extract_lets -underBinder +onlyGivenNames x7
  have hx7 : Within k s0 x7 := by
    refine Within.foldl (fun t8 _ ht8 => ?_) _ ?_
    · exact State_setReg_within (sub_trans rfl hk) ht8
    · exact hx5
  try clear_value x7
  refine Within.foldl (fun t9 _ ht9 => ?_) _ ?_
  · exact State_setFld_within (sub_trans rfl hk) ht9
  · exact hx7

theorem State_placeSwap_within {k : Nat} {s0 : State} {a0 : State} {a1 : _} {a2 : _} (hk : 280185425159 &&& k = 280185425159) (h : Within k s0 a0) : Within k s0 (State.placeSwap a0 a1 a2) := by
  unfold Sys2Proof.Machine.State.placeSwap
  extract_lets -underBinder +onlyGivenNames x1
  try clear_value x1
  extract_lets -underBinder +onlyGivenNames x2
  have hx2 : Within k s0 x2 := by
    exact State_clearImage_within (sub_trans rfl hk) h
  try clear_value x2
  extract_lets -underBinder +onlyGivenNames x3
  try clear_value x3
  extract_lets -underBinder +onlyGivenNames x4
  have hx4 : Within k s0 x4 := by
    exact State_setFld_within (sub_trans rfl hk) (State_setFlag_within (sub_trans rfl hk) (State_placeWeave_within (sub_trans rfl hk) hx2))
  try clear_value x4
  extract_lets -underBinder +onlyGivenNames x5
  have hx5 : Within k s0 x5 := by
    unfold x5
    refine Within.ite (fun _ => ?_) (fun _ => ?_)
    · exact State_placeSystem_within (sub_trans rfl hk) hx4
    · exact hx4
  try clear_value x5
  extract_lets -underBinder +onlyGivenNames x6
  have hx6 : Within k s0 x6 := by
    unfold x6
    refine Within.ite (fun _ => ?_) (fun _ => ?_)
    · exact State_placeEvents_within (sub_trans rfl hk) hx5
    · exact hx5
  try clear_value x6
  extract_lets -underBinder +onlyGivenNames x7
  have hx7 : Within k s0 x7 := by
    unfold x7
    refine Within.ite (fun _ => ?_) (fun _ => ?_)
    · exact State_placeQueues_within (sub_trans rfl hk) hx6
    · exact hx6
  try clear_value x7
  extract_lets -underBinder +onlyGivenNames x8
  have hx8 : Within k s0 x8 := by
    unfold x8
    refine Within.ite (fun _ => ?_) (fun _ => ?_)
    · exact State_placeNet_within (sub_trans rfl hk) hx7
    · exact hx7
  try clear_value x8
  extract_lets -underBinder +onlyGivenNames x9
  have hx9 : Within k s0 x9 := by
    exact Within.set_g (sub_trans rfl hk) hx8
  try clear_value x9
  exact State_placeStations_within (sub_trans rfl hk) (State_placeSafety_within (sub_trans rfl hk) (State_placeLoops_within (sub_trans rfl hk) (State_placeTasks_within (sub_trans rfl hk) (State_placeCan_within (sub_trans rfl hk) hx9))))

theorem State_startNew_within {k : Nat} {s0 : State} {a0 : State} {a1 : _} {a2 : _} (hk : 453057895687 &&& k = 453057895687) (h : Within k s0 a0) : Within k s0 (State.startNew a0 a1 a2) := by
  unfold Sys2Proof.Machine.State.startNew
  extract_lets -underBinder +onlyGivenNames x1
  try clear_value x1
  extract_lets -underBinder +onlyGivenNames x2
  have hx2 : Within k s0 x2 := by
    refine Within.foldl (fun t3 _ ht3 => ?_) _ ?_
    · exact State_carryPut_within (sub_trans rfl hk) ht3
    · exact State_placeSwap_within (sub_trans rfl hk) h
  try clear_value x2
  extract_lets -underBinder +onlyGivenNames x4
  try clear_value x4
  extract_lets -underBinder +onlyGivenNames x5
  have hx5 : Within k s0 x5 := by
    exact Within.plain (a := 1073774592) (t := x2) (sub_trans rfl hk) hx2 rfl rfl rfl rfl rfl rfl
  try clear_value x5
  extract_lets -underBinder +onlyGivenNames x6
  have hx6 : Within k s0 x6 := by
    exact State_imgRunning_within (sub_trans rfl hk) (State_startBuses_within (sub_trans rfl hk) (State_firstReleases_within (sub_trans rfl hk) hx5))
  try clear_value x6
  exact State_wvePhase_within (sub_trans rfl hk) (State_armRequest_within (sub_trans rfl hk) hx6)

theorem carryComplete_within {k : Nat} {s0 : State} {a0 : State} (hk : 453057961279 &&& k = 453057961279) (h : Within k s0 a0) : Within k s0 (carryComplete a0) := by
  unfold Sys2Proof.Machine.carryComplete
  split
  · refine Within.ite (fun _ => ?_) (fun _ => ?_)
    · exact h
    · extract_lets -underBinder +onlyGivenNames x1
      have hx1 : Within k s0 x1 := by
        exact State_toTime_within (sub_trans rfl hk) h
      try clear_value x1
      split
      · refine Within.ite (fun _ => ?_) (fun _ => ?_)
        · exact State_startNew_within (sub_trans rfl hk) hx1
        · exact hx1
      · extract_lets -underBinder +onlyGivenNames x2
        try clear_value x2
        extract_lets -underBinder +onlyGivenNames x3
        have hx3 : Within k s0 x3 := by
          exact Within.set_rdl (sub_trans rfl hk) hx1
        try clear_value x3
        exact State_joinStart_within (sub_trans rfl hk) (State_setRole_within (sub_trans rfl hk) (State_wvePhase_within (sub_trans rfl hk) hx3))
  · exact h

theorem execCarryComplete_within {k : Nat} {s0 t : State} {a0 : State} (hk : 453057961279 &&& k = 453057961279) (h : Within k s0 a0) (e : execCarryComplete a0 = .next t) : Within k s0 t := by
  unfold Sys2Proof.Machine.execCarryComplete at e
  cases e
  exact carryComplete_within (sub_trans rfl hk) h

end Sys2Proof.Laws
end

