-- ==== Sys2Proof/Laws/WithinLate.lean ====
section
/-! SUPPORT. What each operation of Machine/Late.lean can do to the state (see Laws/Within.lean). -/

/- One thread: elaborating these many small proofs side by side can exceed the memory that check.sh allows. -/
set_option Elab.async false

namespace Sys2Proof.Laws
open Sys2Proof Sys2Proof.Machine

theorem State_endSession_within {k : Nat} {s0 : State} {a0 : State} {a1 : _} (hk : 1099511627775 &&& k = 1099511627775) (h : Within k s0 a0) : Within k s0 (State.endSession a0 a1) := by
  unfold Sys2Proof.Machine.State.endSession
  split
  · exact h
  · extract_lets -underBinder +onlyGivenNames x1
    extract_lets -underBinder +onlyGivenNames x2
    have hx2 : Within k s0 x2 := by
      exact Within.set_ksap (sub_trans rfl hk) h
    extract_lets -underBinder +onlyGivenNames x3
    have hx3 : Within k s0 x3 := by
      exact State_raise_within (sub_trans rfl hk) hx2
    refine Within.ite (fun _ => ?_) (fun _ => ?_)
    · exact State_leftStandby_within (sub_trans rfl hk) (State_abandonSwap_within (sub_trans rfl hk) hx3)
    · refine Within.ite (fun _ => ?_) (fun _ => ?_)
      · exact Within.set_load (sub_trans rfl hk) hx3
      · exact hx3

theorem State_endSessions_within {k : Nat} {s0 : State} {a0 : State} (hk : 1099511627775 &&& k = 1099511627775) (h : Within k s0 a0) : Within k s0 (State.endSessions a0) := by
  unfold Sys2Proof.Machine.State.endSessions
  extract_lets -underBinder +onlyGivenNames x1
  have hx1 : Within k s0 x1 := by
    refine Within.foldl (fun t2 _ ht2 => ?_) _ ?_
    · exact State_endSession_within (sub_trans rfl hk) ht2
    · exact h
  exact Within.set_ksap (sub_trans rfl hk) hx1

theorem State_failRecords_within {k : Nat} {s0 : State} {a0 : State} {a1 : _} {a2 : _} (hk : 447755586823 &&& k = 447755586823) (h : Within k s0 a0) : Within k s0 (State.failRecords a0 a1 a2) := by
  unfold Sys2Proof.Machine.State.failRecords
  extract_lets -underBinder +onlyGivenNames x1
  have hx1 : Within k s0 x1 := by
    unfold x1
    refine Within.ite (fun _ => ?_) (fun _ => ?_)
    · exact State_recWriteOne_within (sub_trans rfl hk) h
    · exact h
  try clear_value x1
  extract_lets -underBinder +onlyGivenNames x2
  have hx2 : Within k s0 x2 := by
    unfold x2
    refine Within.ite (fun _ => ?_) (fun _ => ?_)
    · exact State_snapshotG_within (sub_trans rfl hk) hx1
    · exact hx1
  try clear_value x2
  extract_lets -underBinder +onlyGivenNames x3
  have hx3 : Within k s0 x3 := by
    unfold x3
    refine Within.ite (fun _ => ?_) (fun _ => ?_)
    · exact State_runRecord_within (sub_trans rfl hk) hx2
    · exact hx2
  try clear_value x3
  refine Within.ite (fun _ => ?_) (fun _ => ?_)
  · exact State_recDrain_within (sub_trans rfl hk) hx3
  · exact hx3

theorem supplyFail_within {k : Nat} {s0 : State} {a0 : _} {a1 : _} {a2 : State} (hk : 447755685639 &&& k = 447755685639) (h : Within k s0 a2) : Within k s0 (supplyFail a0 a1 a2) := by
  unfold Sys2Proof.Machine.supplyFail
  refine Within.ite (fun _ => ?_) (fun _ => ?_)
  · exact h
  · extract_lets -underBinder +onlyGivenNames x1
    try clear_value x1
    extract_lets -underBinder +onlyGivenNames x2
    have hx2 : Within k s0 x2 := by
      exact State_raise_within (sub_trans rfl hk) (State_setFld_within (sub_trans rfl hk) (State_vsup_within (sub_trans rfl hk) h))
    try clear_value x2
    extract_lets -underBinder +onlyGivenNames x3
    try clear_value x3
    extract_lets -underBinder +onlyGivenNames x4
    have hx4 : Within k s0 x4 := by
      exact Within.set_cpm (sub_trans rfl hk) hx2
    try clear_value x4
    extract_lets -underBinder +onlyGivenNames x5
    try clear_value x5
    extract_lets -underBinder +onlyGivenNames x6
    try clear_value x6
    extract_lets -underBinder +onlyGivenNames x7
    try clear_value x7
    extract_lets -underBinder +onlyGivenNames x8
    try clear_value x8
    extract_lets -underBinder +onlyGivenNames x9
    have hx9 : Within k s0 x9 := by
      exact State_wrBytes_within (sub_trans rfl hk) (State_setLines_within (sub_trans rfl hk) (State_unitFault_within (sub_trans rfl hk) hx4))
    try clear_value x9
    extract_lets -underBinder +onlyGivenNames x10
    have hx10 : Within k s0 x10 := by
      exact State_failRecords_within (sub_trans rfl hk) hx9
    try clear_value x10
    extract_lets -underBinder +onlyGivenNames x11
    have hx11 : Within k s0 x11 := by
      exact State_setLines_within (sub_trans rfl hk) hx10
    try clear_value x11
    extract_lets -underBinder +onlyGivenNames x12
    have hx12 : Within k s0 x12 := by
      unfold x12
      refine Within.ite (fun _ => ?_) (fun _ => ?_)
      · exact hx10
      · exact Within.set_toField (sub_trans rfl hk) hx11
    try clear_value x12
    extract_lets -underBinder +onlyGivenNames x13
    have hx13 : Within k s0 x13 := by
      unfold x13
      refine Within.ite (fun _ => ?_) (fun _ => ?_)
      · exact State_saveAlwaysOn_within (sub_trans rfl hk) hx12
      · exact hx12
    try clear_value x13
    refine Within.ite (fun _ => ?_) (fun _ => ?_)
    · exact State_panelCut_within (sub_trans rfl hk) hx13
    · exact hx13

theorem execSupplyFail_within {k : Nat} {s0 t : State} {a0 : _} {a1 : _} {a2 : State} (hk : 447755685639 &&& k = 447755685639) (h : Within k s0 a2) (e : execSupplyFail a0 a1 a2 = .next t) : Within k s0 t := by
  unfold Sys2Proof.Machine.execSupplyFail at e
  cases e
  exact supplyFail_within (sub_trans rfl hk) h

theorem State_railsOff_within {k : Nat} {s0 : State} {a0 : State} {a1 : _} (hk : 1099511627775 &&& k = 1099511627775) (h : Within k s0 a0) : Within k s0 (State.railsOff a0 a1) := by
  unfold Sys2Proof.Machine.State.railsOff
  extract_lets -underBinder +onlyGivenNames x1
  have hx1 : Within k s0 x1 := by
    exact State_restart_within (sub_trans rfl hk) h
  try clear_value x1
  exact Within.set_cpm (sub_trans rfl hk) hx1

theorem execStoreShutdownLevel_within {k : Nat} {s0 t : State} {a0 : State} (hk : 1099511627775 &&& k = 1099511627775) (h : Within k s0 a0) (e : execStoreShutdownLevel a0 = .next t) : Within k s0 t := by
  unfold Sys2Proof.Machine.execStoreShutdownLevel at e
  cases e
  refine Within.ite (fun _ => ?_) (fun _ => ?_)
  · exact State_railsOff_within (sub_trans rfl hk) h
  · exact h

theorem State_linksDrop_within {k : Nat} {s0 : State} {a0 : State} (hk : 1285 &&& k = 1285) (h : Within k s0 a0) : Within k s0 (State.linksDrop a0) := by
  unfold Sys2Proof.Machine.State.linksDrop
  refine Within.foldl (fun t1 _ ht1 => ?_) _ ?_
  · refine Within.ite (fun _ => ?_) (fun _ => ?_)
    · extract_lets -underBinder +onlyGivenNames x2
      have hx2 : Within k s0 x2 := by
        exact State_raise_within (sub_trans rfl hk) (State_bump_within (sub_trans rfl hk) (State_setFlag_within (sub_trans rfl hk) ht1))
      try clear_value x2
      refine Within.ite (fun _ => ?_) (fun _ => ?_)
      · exact State_mrpSet_within (sub_trans rfl hk) hx2
      · exact hx2
    · exact ht1
  · exact h

theorem State_ptpEnd_within {k : Nat} {s0 : State} {a0 : State} (hk : 4294968581 &&& k = 4294968581) (h : Within k s0 a0) : Within k s0 (State.ptpEnd a0) := by
  unfold Sys2Proof.Machine.State.ptpEnd
  extract_lets -underBinder +onlyGivenNames x1
  try clear_value x1
  extract_lets -underBinder +onlyGivenNames x2
  have hx2 : Within k s0 x2 := by
    exact Within.set_ptp (sub_trans rfl hk) h
  try clear_value x2
  exact State_setFlag_within (sub_trans rfl hk) (State_ptpState_within (sub_trans rfl hk) hx2)

theorem State_lanesStop_within {k : Nat} {s0 : State} {a0 : State} (hk : 1285 &&& k = 1285) (h : Within k s0 a0) : Within k s0 (State.lanesStop a0) := by
  unfold Sys2Proof.Machine.State.lanesStop
  extract_lets -underBinder +onlyGivenNames x1
  try clear_value x1
  extract_lets -underBinder +onlyGivenNames x2
  have hx2 : Within k s0 x2 := by
    exact State_setFlag_within (sub_trans rfl hk) (State_setFlag_within (sub_trans rfl hk) (State_setFlag_within (sub_trans rfl hk) h))
  try clear_value x2
  refine Within.ite (fun _ => ?_) (fun _ => ?_)
  · exact State_linkEvent_within (sub_trans rfl hk) hx2
  · exact hx2

theorem State_coastReact_within {k : Nat} {s0 : State} {a0 : State} (hk : 447755685127 &&& k = 447755685127) (h : Within k s0 a0) : Within k s0 (State.coastReact a0) := by
  unfold Sys2Proof.Machine.State.coastReact
  refine Within.ite (fun _ => ?_) (fun _ => ?_)
  · exact State_unitFault_within (sub_trans rfl hk) h
  · exact State_stopRecord_within (sub_trans rfl hk) h

theorem refLoss_within {k : Nat} {s0 : State} {a0 : State} (hk : 1099511627775 &&& k = 1099511627775) (h : Within k s0 a0) : Within k s0 (refLoss a0) := by
  unfold Sys2Proof.Machine.refLoss
  refine Within.ite (fun _ => ?_) (fun _ => ?_)
  · exact h
  · extract_lets -underBinder +onlyGivenNames x1
    have hx1 : Within k s0 x1 := by
      exact State_raise_within (sub_trans rfl hk) (State_setFlag_within (sub_trans rfl hk) (State_setFlag_within (sub_trans rfl hk) h))
    try clear_value x1
    extract_lets -underBinder +onlyGivenNames x2
    have hx2 : Within k s0 x2 := by
      exact State_raise_within (sub_trans rfl hk) (State_setFlag_within (sub_trans rfl hk) (State_setFlag_within (sub_trans rfl hk) hx1))
    try clear_value x2
    extract_lets -underBinder +onlyGivenNames x3
    have hx3 : Within k s0 x3 := by
      exact State_lanesStop_within (sub_trans rfl hk) (State_endSessions_within (sub_trans rfl hk) (State_ptpEnd_within (sub_trans rfl hk) (State_linksDrop_within (sub_trans rfl hk) (State_canStop_within (sub_trans rfl hk) hx2))))
    try clear_value x3
    exact State_partnerGone_within (sub_trans rfl hk) (State_coastReact_within (sub_trans rfl hk) hx3)

theorem execRefLoss_within {k : Nat} {s0 t : State} {a0 : State} (hk : 1099511627775 &&& k = 1099511627775) (h : Within k s0 a0) (e : execRefLoss a0 = .next t) : Within k s0 t := by
  unfold Sys2Proof.Machine.execRefLoss at e
  cases e
  exact refLoss_within (sub_trans rfl hk) h

theorem dozeEnter_within {k : Nat} {s0 : State} {a0 : State} (hk : 257 &&& k = 257) (h : Within k s0 a0) : Within k s0 (dozeEnter a0) := by
  unfold Sys2Proof.Machine.dozeEnter
  refine Within.ite (fun _ => ?_) (fun _ => ?_)
  · extract_lets -underBinder +onlyGivenNames x1
    have hx1 : Within k s0 x1 := by
      exact State_setFlag_within (sub_trans rfl hk) (State_setFld_within (sub_trans rfl hk) h)
    try clear_value x1
    exact Within.set_cpm (sub_trans rfl hk) hx1
  · exact h

theorem execDozeEnter_within {k : Nat} {s0 t : State} {a0 : State} (hk : 257 &&& k = 257) (h : Within k s0 a0) (e : execDozeEnter a0 = .next t) : Within k s0 t := by
  unfold Sys2Proof.Machine.execDozeEnter at e
  cases e
  exact dozeEnter_within (sub_trans rfl hk) h

theorem State_ethStamp_within {k : Nat} {s0 : State} {a0 : State} {a1 : _} {a2 : _} {a3 : _} {a4 : _} (hk : 2 &&& k = 2) (h : Within k s0 a0) : Within k s0 (State.ethStamp a0 a1 a2 a3 a4) := by
  unfold Sys2Proof.Machine.State.ethStamp
  refine Within.ite (fun _ => ?_) (fun _ => ?_)
  · extract_lets -underBinder +onlyGivenNames x1
    try clear_value x1
    exact State_wrLE_within (sub_trans rfl hk) (State_wrLE_within (sub_trans rfl hk) (State_wrLE_within (sub_trans rfl hk) h))
  · exact h

theorem State_ethPayload_within {k : Nat} {s0 : State} {a0 : State} {a1 : _} {a2 : _} (hk : 137438953474 &&& k = 137438953474) (h : Within k s0 a0) : Within k s0 (State.ethPayload a0 a1 a2) := by
  unfold Sys2Proof.Machine.State.ethPayload
  extract_lets -underBinder +onlyGivenNames x1
  try clear_value x1
  extract_lets -underBinder +onlyGivenNames x2
  try clear_value x2
  extract_lets -underBinder +onlyGivenNames x3
  try clear_value x3
  extract_lets -underBinder +onlyGivenNames x4
  try clear_value x4
  extract_lets -underBinder +onlyGivenNames x5
  try clear_value x5
  refine Within.ite (fun _ => ?_) (fun _ => ?_)
  · exact h
  · extract_lets -underBinder +onlyGivenNames x6
    have hx6 : Within k s0 x6 := by
      refine Within.foldl (fun t7 _ ht7 => ?_) _ ?_
      · exact State_send_within (sub_trans rfl hk) ht7
      · exact h
    try clear_value x6
    split
    · exact State_ethStamp_within (sub_trans rfl hk) hx6
    · exact hx6

theorem State_canPayload_within {k : Nat} {s0 : State} {a0 : State} {a1 : _} {a2 : _} {a3 : _} (hk : 274877910279 &&& k = 274877910279) (h : Within k s0 a0) : Within k s0 (State.canPayload a0 a1 a2 a3) := by
  unfold Sys2Proof.Machine.State.canPayload
  split
  · refine Within.ite (fun _ => ?_) (fun _ => ?_)
    · exact State_doneEv_within (sub_trans rfl hk) h
    · extract_lets -underBinder +onlyGivenNames x1
      try clear_value x1
      extract_lets -underBinder +onlyGivenNames x2
      have hx2 : Within k s0 x2 := by
        exact Within.set_que (sub_trans rfl hk) h
      try clear_value x2
      extract_lets -underBinder +onlyGivenNames x3
      try clear_value x3
      refine Within.ite (fun _ => ?_) (fun _ => ?_)
      · split
        · exact State_canFail_within (sub_trans rfl hk) hx2
        · exact hx2
      · exact hx2
  · exact State_doneEv_within (sub_trans rfl hk) h

theorem State_portServe_within {k : Nat} {s0 : State} {a0 : State} {a1 : _} {a2 : _} {a3 : _} {a4 : _} (hk : 446676602119 &&& k = 446676602119) (h : Within k s0 a0) : Within k s0 (State.portServe a0 a1 a2 a3 a4) := by
  unfold Sys2Proof.Machine.State.portServe
  extract_lets -underBinder +onlyGivenNames x1
  try clear_value x1
  refine Within.ite (fun _ => ?_) (fun _ => ?_)
  · exact State_canPayload_within (sub_trans rfl hk) h
  · refine Within.ite (fun _ => ?_) (fun _ => ?_)
    · exact State_doneEv_within (sub_trans rfl hk) (State_ethPayload_within (sub_trans rfl hk) h)
    · refine Within.ite (fun _ => ?_) (fun _ => ?_)
      · exact State_doneEv_within (sub_trans rfl hk) (State_rimSend_within (sub_trans rfl hk) h)
      · exact State_doneEv_within (sub_trans rfl hk) h

theorem queRound_within {k : Nat} {s0 : State} {a0 : _} {a1 : State} (hk : 446676602119 &&& k = 446676602119) (h : Within k s0 a1) : Within k s0 (queRound a0 a1) := by
  unfold Sys2Proof.Machine.queRound
  split
  · exact h
  · extract_lets -underBinder +onlyGivenNames x1
    try clear_value x1
    extract_lets -underBinder +onlyGivenNames x2
    try clear_value x2
    extract_lets -underBinder +onlyGivenNames x3
    try clear_value x3
    extract_lets -underBinder +onlyGivenNames x4
    try clear_value x4
    extract_lets -underBinder +onlyGivenNames x5
    have hx5 : Within k s0 x5 := by
      refine State_winRound_within (sub_trans rfl hk) ?_
      refine Within.foldl (fun t6 _ ht6 => ?_) _ ?_
      · exact State_loseRound_within (sub_trans rfl hk) ht6
      · exact h
    try clear_value x5
    refine Within.ite (fun _ => ?_) (fun _ => ?_)
    · exact State_queAttn_within (sub_trans rfl hk) (State_setReg_within (sub_trans rfl hk) hx5)
    · exact State_portServe_within (sub_trans rfl hk) hx5

theorem execQueRound_within {k : Nat} {s0 t : State} {a0 : _} {a1 : State} (hk : 446676602119 &&& k = 446676602119) (h : Within k s0 a1) (e : execQueRound a0 a1 = .next t) : Within k s0 t := by
  unfold Sys2Proof.Machine.execQueRound at e
  cases e
  exact queRound_within (sub_trans rfl hk) h

theorem State_poolFree_within {k : Nat} {s0 : State} {a0 : State} {a1 : _} {a2 : _} (hk : 4194304 &&& k = 4194304) (h : Within k s0 a0) : Within k s0 (State.poolFree a0 a1 a2) := by
  unfold Sys2Proof.Machine.State.poolFree
  refine Within.foldl (fun t1 _ ht1 => ?_) _ ?_
  · split
    · extract_lets -underBinder +onlyGivenNames x2
      try clear_value x2
      refine Within.ite (fun _ => ?_) (fun _ => ?_)
      · exact State_setCan_within (sub_trans rfl hk) ht1
      · exact ht1
    · exact ht1
  · exact h

theorem queRel_within {k : Nat} {s0 : State} {a0 : _} {a1 : _} {a2 : State} (hk : 4195717 &&& k = 4195717) (h : Within k s0 a2) : Within k s0 (queRel a0 a1 a2) := by
  unfold Sys2Proof.Machine.queRel
  extract_lets -underBinder +onlyGivenNames x1
  try clear_value x1
  extract_lets -underBinder +onlyGivenNames x2
  have hx2 : Within k s0 x2 := by
    exact queRelease_within (sub_trans rfl hk) h
  try clear_value x2
  refine Within.ite (fun _ => ?_) (fun _ => ?_)
  · exact State_poolFree_within (sub_trans rfl hk) hx2
  · exact hx2

theorem execQueRel_within {k : Nat} {s0 t : State} {a0 : _} {a1 : _} {a2 : State} (hk : 4195717 &&& k = 4195717) (h : Within k s0 a2) (e : execQueRel a0 a1 a2 = .next t) : Within k s0 t := by
  unfold Sys2Proof.Machine.execQueRel at e
  cases e
  exact queRel_within (sub_trans rfl hk) h

theorem keyDown_within {k : Nat} {s0 : State} {a0 : State} (hk : 513 &&& k = 513) (h : Within k s0 a0) : Within k s0 (keyDown a0) := by
  unfold Sys2Proof.Machine.keyDown
  refine Within.ite (fun _ => ?_) (fun _ => ?_)
  · exact h
  · extract_lets -underBinder +onlyGivenNames x1
    have hx1 : Within k s0 x1 := by
      exact State_setFlag_within (sub_trans rfl hk) h
    try clear_value x1
    exact Within.set_pnl (sub_trans rfl hk) hx1

theorem execKeyDown_within {k : Nat} {s0 t : State} {a0 : State} (hk : 513 &&& k = 513) (h : Within k s0 a0) (e : execKeyDown a0 = .next t) : Within k s0 t := by
  unfold Sys2Proof.Machine.execKeyDown at e
  cases e
  exact keyDown_within (sub_trans rfl hk) h

theorem State_bootPress_within {k : Nat} {s0 : State} {a0 : State} (hk : 17179869184 &&& k = 17179869184) (h : Within k s0 a0) : Within k s0 (State.bootPress a0) := by
  unfold Sys2Proof.Machine.State.bootPress
  exact Within.set_ksap (sub_trans rfl hk) h

theorem State_keyTest_within {k : Nat} {s0 : State} {a0 : State} {a1 : _} (hk : 1099511627775 &&& k = 1099511627775) (h : Within k s0 a0) : Within k s0 (State.keyTest a0 a1) := by
  unfold Sys2Proof.Machine.State.keyTest
  extract_lets -underBinder +onlyGivenNames x1
  try clear_value x1
  refine Within.ite (fun _ => ?_) (fun _ => ?_)
  · exact h
  · refine Within.ite (fun _ => ?_) (fun _ => ?_)
    · refine Within.ite (fun _ => ?_) (fun _ => ?_)
      · exact State_unitFault_within (sub_trans rfl hk) (State_raise_within (sub_trans rfl hk) h)
      · exact h
    · refine Within.ite (fun _ => ?_) (fun _ => ?_)
      · exact State_railsOff_within (sub_trans rfl hk) (State_raise_within (sub_trans rfl hk) h)
      · exact h

theorem keyRelease_within {k : Nat} {s0 : State} {a0 : _} {a1 : State} (hk : 1099511627775 &&& k = 1099511627775) (h : Within k s0 a1) : Within k s0 (keyRelease a0 a1) := by
  unfold Sys2Proof.Machine.keyRelease
  refine Within.ite (fun _ => ?_) (fun _ => ?_)
  · exact h
  · extract_lets -underBinder +onlyGivenNames x1
    try clear_value x1
    extract_lets -underBinder +onlyGivenNames x2
    try clear_value x2
    extract_lets -underBinder +onlyGivenNames x3
    have hx3 : Within k s0 x3 := by
      exact State_setFlag_within (sub_trans rfl hk) (State_setFld_within (sub_trans rfl hk) (State_setFlag_within (sub_trans rfl hk) h))
    try clear_value x3
    extract_lets -underBinder +onlyGivenNames x4
    have hx4 : Within k s0 x4 := by
      exact State_raise_within (sub_trans rfl hk) hx3
    try clear_value x4
    refine Within.ite (fun _ => ?_) (fun _ => ?_)
    · split
      · exact State_confirmPress_within (sub_trans rfl hk) (State_bootPress_within (sub_trans rfl hk) hx4)
      · exact State_bootPress_within (sub_trans rfl hk) hx4
    · exact State_keyTest_within (sub_trans rfl hk) hx4

theorem execKeyRelease_within {k : Nat} {s0 t : State} {a0 : _} {a1 : State} (hk : 1099511627775 &&& k = 1099511627775) (h : Within k s0 a1) (e : execKeyRelease a0 a1 = .next t) : Within k s0 t := by
  unfold Sys2Proof.Machine.execKeyRelease at e
  cases e
  exact keyRelease_within (sub_trans rfl hk) h

end Sys2Proof.Laws
end

