-- ==== Sys2Proof/Laws/WithinRecorderOps.lean ====
section
/-! SUPPORT. What each operation of Machine/RecorderOps.lean can do to the state (see Laws/Within.lean). -/

/- One thread: elaborating these many small proofs side by side can exceed the memory that check.sh allows. -/
set_option Elab.async false

namespace Sys2Proof.Laws
open Sys2Proof Sys2Proof.Machine

theorem recordWrite_within {k : Nat} {s0 : State} {a0 : _} {a1 : State} (hk : 447755586823 &&& k = 447755586823) (h : Within k s0 a1) : Within k s0 (recordWrite a0 a1) := by
  unfold Sys2Proof.Machine.recordWrite
  refine Within.ite (fun _ => ?_) (fun _ => ?_)
  · exact h
  · split
    · exact h
    · extract_lets -underBinder +onlyGivenNames x1
      have hx1 : Within k s0 x1 := by
        exact State_mramEcc_within (sub_trans rfl hk) (State_recWriteOne_within (sub_trans rfl hk) h)
      try clear_value x1
      refine Within.ite (fun _ => ?_) (fun _ => ?_)
      · exact State_raise_within (sub_trans rfl hk) hx1
      · exact hx1

theorem execRecordWrite_within {k : Nat} {s0 t : State} {a0 : _} {a1 : State} (hk : 447755586823 &&& k = 447755586823) (h : Within k s0 a1) (e : execRecordWrite a0 a1 = .next t) : Within k s0 t := by
  unfold Sys2Proof.Machine.execRecordWrite at e
  cases e
  exact recordWrite_within (sub_trans rfl hk) h

theorem State_arm_within {k : Nat} {s0 : State} {a0 : State} (hk : 1285 &&& k = 1285) (h : Within k s0 a0) : Within k s0 (State.arm a0) := by
  unfold Sys2Proof.Machine.State.arm
  extract_lets -underBinder +onlyGivenNames x1
  have hx1 : Within k s0 x1 := by
    exact State_setReg_within (sub_trans rfl hk) h
  try clear_value x1
  extract_lets -underBinder +onlyGivenNames x2
  have hx2 : Within k s0 x2 := by
    exact State_setFlag_within (sub_trans rfl hk) (State_setFlag_within (sub_trans rfl hk) (State_setFld_within (sub_trans rfl hk) hx1))
  try clear_value x2
  exact State_raise_within (sub_trans rfl hk) hx2

theorem evrCtrl_within {k : Nat} {s0 : State} {a0 : _} {a1 : _} {a2 : State} (hk : 1413 &&& k = 1413) (h : Within k s0 a2) : Within k s0 (evrCtrl a0 a1 a2) := by
  unfold Sys2Proof.Machine.evrCtrl
  refine Within.ite (fun _ => ?_) (fun _ => ?_)
  · exact State_denyWrite_within (sub_trans rfl hk) h
  · refine Within.ite (fun _ => ?_) (fun _ => ?_)
    · exact h
    · extract_lets -underBinder +onlyGivenNames x1
      have hx1 : Within k s0 x1 := by
        unfold x1
        refine Within.ite (fun _ => ?_) (fun _ => ?_)
        · exact State_arm_within (sub_trans rfl hk) h
        · exact h
      try clear_value x1
      refine Within.ite (fun _ => ?_) (fun _ => ?_)
      · exact State_setFlag_within (sub_trans rfl hk) (State_setReg_within (sub_trans rfl hk) hx1)
      · exact hx1

theorem execEvrArm_within {k : Nat} {s0 t : State} {a0 : _} {a1 : _} {a2 : State} (hk : 1413 &&& k = 1413) (h : Within k s0 a2) (e : execEvrArm a0 a1 a2 = .next t) : Within k s0 t := by
  unfold Sys2Proof.Machine.execEvrArm at e
  cases e
  exact evrCtrl_within (sub_trans rfl hk) h

theorem execEvrClear_within {k : Nat} {s0 t : State} {a0 : _} {a1 : _} {a2 : State} (hk : 1413 &&& k = 1413) (h : Within k s0 a2) (e : execEvrClear a0 a1 a2 = .next t) : Within k s0 t := by
  unfold Sys2Proof.Machine.execEvrClear at e
  cases e
  exact evrCtrl_within (sub_trans rfl hk) h

theorem State_emptyRecord_within {k : Nat} {s0 : State} {a0 : State} {a1 : _} (hk : 2 &&& k = 2) (h : Within k s0 a0) : Within k s0 (State.emptyRecord a0 a1) := by
  unfold Sys2Proof.Machine.State.emptyRecord
  exact State_wrLE_within (sub_trans rfl hk) (State_wrLE_within (sub_trans rfl hk) h)

theorem State_emptyRecords_within {k : Nat} {s0 : State} {a0 : State} {a1 : _} (hk : 2 &&& k = 2) (h : Within k s0 a0) : Within k s0 (State.emptyRecords a0 a1) := by
  induction a1 generalizing a0 with
  | zero =>
    unfold Sys2Proof.Machine.State.emptyRecords
    exact h
  | succ _ ih =>
    unfold Sys2Proof.Machine.State.emptyRecords
    apply ih
    exact State_emptyRecord_within (sub_trans rfl hk) h

theorem evrClearEnd_within {k : Nat} {s0 : State} {a0 : State} (hk : 1287 &&& k = 1287) (h : Within k s0 a0) : Within k s0 (evrClearEnd a0) := by
  unfold Sys2Proof.Machine.evrClearEnd
  refine Within.ite (fun _ => ?_) (fun _ => ?_)
  · exact State_raise_within (sub_trans rfl hk) (State_arm_within (sub_trans rfl hk) (State_setFlag_within (sub_trans rfl hk) (State_emptyRecords_within (sub_trans rfl hk) h)))
  · exact h

theorem execEvrClearEnd_within {k : Nat} {s0 t : State} {a0 : State} (hk : 1287 &&& k = 1287) (h : Within k s0 a0) (e : execEvrClearEnd a0 = .next t) : Within k s0 t := by
  unfold Sys2Proof.Machine.execEvrClearEnd at e
  cases e
  exact evrClearEnd_within (sub_trans rfl hk) h

theorem evrSwrec_within {k : Nat} {s0 : State} {a0 : _} {a1 : _} {a2 : State} (hk : 1413 &&& k = 1413) (h : Within k s0 a2) : Within k s0 (evrSwrec a0 a1 a2) := by
  unfold Sys2Proof.Machine.evrSwrec
  refine Within.ite (fun _ => ?_) (fun _ => ?_)
  · exact State_denyWrite_within (sub_trans rfl hk) h
  · exact State_recClaim_within (sub_trans rfl hk) h

theorem execEvrSwrec_within {k : Nat} {s0 t : State} {a0 : _} {a1 : _} {a2 : State} (hk : 1413 &&& k = 1413) (h : Within k s0 a2) (e : execEvrSwrec a0 a1 a2 = .next t) : Within k s0 t := by
  unfold Sys2Proof.Machine.execEvrSwrec at e
  cases e
  exact evrSwrec_within (sub_trans rfl hk) h

theorem evrWinRead_within {k : Nat} {s0 : State} {a0 : _} {a1 : _} {a2 : State} (hk : 193 &&& k = 193) (h : Within k s0 a2) : Within k s0 (evrWinRead a0 a1 a2) := by
  unfold Sys2Proof.Machine.evrWinRead
  extract_lets -underBinder +onlyGivenNames x1
  have hx1 : Within k s0 x1 := by
    exact State_ret_within (sub_trans rfl hk) h
  try clear_value x1
  refine Within.ite (fun _ => ?_) (fun _ => ?_)
  · exact State_setFld_within (sub_trans rfl hk) hx1
  · exact hx1

theorem execEvrWinRead_within {k : Nat} {s0 t : State} {a0 : _} {a1 : _} {a2 : State} (hk : 193 &&& k = 193) (h : Within k s0 a2) (e : execEvrWinRead a0 a1 a2 = .next t) : Within k s0 t := by
  unfold Sys2Proof.Machine.execEvrWinRead at e
  cases e
  exact evrWinRead_within (sub_trans rfl hk) h

end Sys2Proof.Laws
end

