-- ==== Sys2Proof/Laws/WithinRegWrite.lean ====
section
/-! SUPPORT. What each operation of Machine/RegWrite.lean can do to the state (see Laws/Within.lean). -/

/- One thread: elaborating these many small proofs side by side can exceed the memory that check.sh allows. -/
set_option Elab.async false

namespace Sys2Proof.Laws
open Sys2Proof Sys2Proof.Machine

theorem State_plainRead_within {k : Nat} {s0 : State} {a0 : State} {a1 : _} {a2 : _} (hk : 197 &&& k = 197) (h : Within k s0 a0) : Within k s0 (State.plainRead a0 a1 a2) := by
  unfold Sys2Proof.Machine.State.plainRead
  extract_lets -underBinder +onlyGivenNames x1
  have hx1 : Within k s0 x1.2 := by
    exact State_readQuiet_within2 (sub_trans rfl hk) h
  try clear_value x1
  extract_lets -underBinder +onlyGivenNames x2
  have hx2 : Within k s0 x2 := by
    exact State_ret_within (sub_trans rfl hk) hx1
  try clear_value x2
  split
  · refine Within.ite (fun _ => ?_) (fun _ => ?_)
    · exact State_setReg_within (sub_trans rfl hk) hx2
    · exact hx2
  · exact hx2

theorem State_regRead_within {k : Nat} {s0 : State} {a0 : State} {a1 : _} {a2 : _} (hk : 10181 &&& k = 10181) (h : Within k s0 a0) : Within k s0 (State.regRead a0 a1 a2) := by
  unfold Sys2Proof.Machine.State.regRead
  refine Within.ite (fun _ => ?_) (fun _ => ?_)
  · exact State_busError_within (sub_trans rfl hk) h
  · refine Within.ite (fun _ => ?_) (fun _ => ?_)
    · exact evtClaim_within (sub_trans rfl hk) h
    · refine Within.ite (fun _ => ?_) (fun _ => ?_)
      · extract_lets -underBinder +onlyGivenNames x1
        try clear_value x1
        refine Within.ite (fun _ => ?_) (fun _ => ?_)
        · exact lockAttempt_within (sub_trans rfl hk) h
        · exact State_ret_within (sub_trans rfl hk) h
      · refine Within.ite (fun _ => ?_) (fun _ => ?_)
        · exact viewDataRead_within (sub_trans rfl hk) h
        · refine Within.ite (fun _ => ?_) (fun _ => ?_)
          · exact rgndataRead_within (sub_trans rfl hk) h
          · refine Within.ite (fun _ => ?_) (fun _ => ?_)
            · exact evrWinRead_within (sub_trans rfl hk) h
            · refine Within.ite (fun _ => ?_) (fun _ => ?_)
              · exact pnlFbdata_within (sub_trans rfl hk) h
              · exact State_plainRead_within (sub_trans rfl hk) h

theorem State_routeChanged_within {k : Nat} {s0 : State} {a0 : State} {a1 : _} (hk : 257 &&& k = 257) (h : Within k s0 a0) : Within k s0 (State.routeChanged a0 a1) := by
  unfold Sys2Proof.Machine.State.routeChanged
  refine Within.ite (fun _ => ?_) (fun _ => ?_)
  · extract_lets -underBinder +onlyGivenNames x1
    have hx1 : Within k s0 x1 := by
      exact State_setFlag_within (sub_trans rfl hk) h
    try clear_value x1
    refine Within.ite (fun _ => ?_) (fun _ => ?_)
    · exact Within.set_cpm (sub_trans rfl hk) hx1
    · exact hx1
  · exact h

theorem State_afterWrite_within {k : Nat} {s0 : State} {a0 : State} {a1 : _} (hk : 257 &&& k = 257) (h : Within k s0 a0) : Within k s0 (State.afterWrite a0 a1) := by
  unfold Sys2Proof.Machine.State.afterWrite
  refine Within.ite (fun _ => ?_) (fun _ => ?_)
  · exact State_routeChanged_within (sub_trans rfl hk) h
  · refine Within.ite (fun _ => ?_) (fun _ => ?_)
    · exact State_viewShow_within (sub_trans rfl hk) h
    · exact h

theorem State_plainWrite_within {k : Nat} {s0 : State} {a0 : State} {a1 : _} {a2 : _} (hk : 257 &&& k = 257) (h : Within k s0 a0) : Within k s0 (State.plainWrite a0 a1 a2) := by
  unfold Sys2Proof.Machine.State.plainWrite
  refine Within.ite (fun _ => ?_) (fun _ => ?_)
  · exact State_setReg_within (sub_trans rfl hk) h
  · split
    · refine Within.ite (fun _ => ?_) (fun _ => ?_)
      · exact h
      · exact State_afterWrite_within (sub_trans rfl hk) (State_setReg_within (sub_trans rfl hk) h)
    · exact h

theorem State_queWindowWrite_within {k : Nat} {s0 : State} {a0 : State} {a1 : _} {a2 : _} {a3 : _} (hk : 34363946439 &&& k = 34363946439) (h : Within k s0 a0) : Within k s0 (State.queWindowWrite a0 a1 a2 a3) := by
  unfold Sys2Proof.Machine.State.queWindowWrite
  refine Within.ite (fun _ => ?_) (fun _ => ?_)
  · extract_lets -underBinder +onlyGivenNames x1
    try clear_value x1
    split
    · exact queCfgWrite_within (sub_trans rfl hk) h
    · exact queCfgWrite_within (sub_trans rfl hk) h
    · exact quePush_within (sub_trans rfl hk) h
    · exact queRel_within (sub_trans rfl hk) h
    · exact State_plainWrite_within (sub_trans rfl hk) h
  · refine Within.ite (fun _ => ?_) (fun _ => ?_)
    · extract_lets -underBinder +onlyGivenNames x2
      try clear_value x2
      extract_lets -underBinder +onlyGivenNames x3
      try clear_value x3
      refine Within.ite (fun _ => ?_) (fun _ => ?_)
      · exact mbxPost_within (sub_trans rfl hk) h
      · refine Within.ite (fun _ => ?_) (fun _ => ?_)
        · exact mbxTake_within (sub_trans rfl hk) h
        · refine Within.ite (fun _ => ?_) (fun _ => ?_)
          · exact State_denyWrite_within (sub_trans rfl hk) h
          · exact State_plainWrite_within (sub_trans rfl hk) h
    · refine Within.ite (fun _ => ?_) (fun _ => ?_)
      · exact lockRelease_within (sub_trans rfl hk) h
      · refine Within.ite (fun _ => ?_) (fun _ => ?_)
        · exact hdpReq_within (sub_trans rfl hk) h
        · refine Within.ite (fun _ => ?_) (fun _ => ?_)
          · exact hdpRel_within (sub_trans rfl hk) h
          · exact State_plainWrite_within (sub_trans rfl hk) h

theorem State_ownWrite_within {k : Nat} {s0 : State} {a0 : State} {a1 : _} {a2 : _} {a3 : _} (hk : 1099511627775 &&& k = 1099511627775) (h : Within k s0 a0) : Within k s0 (State.ownWrite a0 a1 a2 a3) := by
  unfold Sys2Proof.Machine.State.ownWrite
  refine Within.ite (fun _ => ?_) (fun _ => ?_)
  · exact cpmCtrl_within (sub_trans rfl hk) h
  · refine Within.ite (fun _ => ?_) (fun _ => ?_)
    · exact clkdivWrite_within (sub_trans rfl hk) h
    · refine Within.ite (fun _ => ?_) (fun _ => ?_)
      · exact fmStart_within (sub_trans rfl hk) h
      · refine Within.ite (fun _ => ?_) (fun _ => ?_)
        · exact evtSwtrig_within (sub_trans rfl hk) h
        · refine Within.ite (fun _ => ?_) (fun _ => ?_)
          · exact ppGo_within (sub_trans rfl hk) h
          · refine Within.ite (fun _ => ?_) (fun _ => ?_)
            · exact chnCtrl_within (sub_trans rfl hk) h
            · refine Within.ite (fun _ => ?_) (fun _ => ?_)
              · exact trimCtrl_within (sub_trans rfl hk) (State_draw_within (sub_trans rfl hk) h)
              · refine Within.ite (fun _ => ?_) (fun _ => ?_)
                · exact ptpStep_within (sub_trans rfl hk) h
                · refine Within.ite (fun _ => ?_) (fun _ => ?_)
                  · exact ptpAddend_within (sub_trans rfl hk) h
                  · refine Within.ite (fun _ => ?_) (fun _ => ?_)
                    · exact rdlCtrl_within (sub_trans rfl hk) h
                    · refine Within.ite (fun _ => ?_) (fun _ => ?_)
                      · exact evrCtrl_within (sub_trans rfl hk) h
                      · refine Within.ite (fun _ => ?_) (fun _ => ?_)
                        · exact evrSwrec_within (sub_trans rfl hk) h
                        · refine Within.ite (fun _ => ?_) (fun _ => ?_)
                          · exact cmpPairRestart_within (sub_trans rfl hk) (State_draw_within (sub_trans rfl hk) h)
                          · refine Within.ite (fun _ => ?_) (fun _ => ?_)
                            · exact pnlCtrl_within (sub_trans rfl hk) h
                            · refine Within.ite (fun _ => ?_) (fun _ => ?_)
                              · exact pnlFbdata_within (sub_trans rfl hk) h
                              · refine Within.ite (fun _ => ?_) (fun _ => ?_)
                                · exact State_queWindowWrite_within (sub_trans rfl hk) h
                                · refine Within.ite (fun _ => ?_) (fun _ => ?_)
                                  · exact viewCtrl_within (sub_trans rfl hk) h
                                  · refine Within.ite (fun _ => ?_) (fun _ => ?_)
                                    · exact canRecover_within (sub_trans rfl hk) h
                                    · refine Within.ite (fun _ => ?_) (fun _ => ?_)
                                      · exact canHpPop_within (sub_trans rfl hk) h
                                      · exact State_plainWrite_within (sub_trans rfl hk) h

theorem State_regWrite_within {k : Nat} {s0 : State} {a0 : State} {a1 : _} {a2 : _} {a3 : _} (hk : 1099511627775 &&& k = 1099511627775) (h : Within k s0 a0) : Within k s0 (State.regWrite a0 a1 a2 a3) := by
  unfold Sys2Proof.Machine.State.regWrite
  refine Within.ite (fun _ => ?_) (fun _ => ?_)
  · exact State_busError_within (sub_trans rfl hk) h
  · refine Within.ite (fun _ => ?_) (fun _ => ?_)
    · exact State_denyWrite_within (sub_trans rfl hk) h
    · exact State_ownWrite_within (sub_trans rfl hk) h

end Sys2Proof.Laws
end

