-- ==== Sys2Proof/Laws/WithinHdp.lean ====
section
/-! SUPPORT. What each operation of Machine/Hdp.lean can do to the state (see Laws/Within.lean). -/

/- One thread: elaborating these many small proofs side by side can exceed the memory that check.sh allows. -/
set_option Elab.async false

namespace Sys2Proof.Laws
open Sys2Proof Sys2Proof.Machine

theorem State_portFail_within {k : Nat} {s0 : State} {a0 : State} {a1 : _} {a2 : _} (hk : 1413 &&& k = 1413) (h : Within k s0 a0) : Within k s0 (State.portFail a0 a1 a2) := by
  unfold Sys2Proof.Machine.State.portFail
  extract_lets -underBinder +onlyGivenNames x1
  have hx1 : Within k s0 x1 := by
    exact State_hdpErr_within (sub_trans rfl hk) h
  try clear_value x1
  refine Within.ite (fun _ => ?_) (fun _ => ?_)
  · exact State_busError_within (sub_trans rfl hk) hx1
  · exact hx1

theorem State_portRead_within1 {k : Nat} {s0 : State} {a0 : State} {a1 : _} {a2 : _} (hk : 10181 &&& k = 10181) (h : Within k s0 a0) : Within k s0 (State.portRead a0 a1 a2).1 := by
  unfold Sys2Proof.Machine.State.portRead
  split
  · extract_lets -underBinder +onlyGivenNames x1
    have hx1 : Within k s0 x1 := by
      unfold x1
      refine Within.ite (fun _ => ?_) (fun _ => ?_)
      · exact State_plainRead_within (sub_trans rfl hk) h
      · exact State_regRead_within (sub_trans rfl hk) h
    try clear_value x1
    show Within k s0 _
    exact hx1
  · show Within k s0 _
    exact h

theorem State_portWrite_within {k : Nat} {s0 : State} {a0 : State} {a1 : _} {a2 : _} (hk : 1099511627775 &&& k = 1099511627775) (h : Within k s0 a0) : Within k s0 (State.portWrite a0 a1 a2) := by
  unfold Sys2Proof.Machine.State.portWrite
  refine Within.ite (fun _ => ?_) (fun _ => ?_)
  · extract_lets -underBinder +onlyGivenNames x1
    try clear_value x1
    refine Within.ite (fun _ => ?_) (fun _ => ?_)
    · exact State_plainWrite_within (sub_trans rfl hk) h
    · exact State_regWrite_within (sub_trans rfl hk) h
  · exact State_wrBytes_within (sub_trans rfl hk) h

theorem State_portReads_within1 {k : Nat} {s0 : State} {a0 : State} {a1 : _} {a2 : _} {a3 : _} (hk : 10181 &&& k = 10181) (h : Within k s0 a0) : Within k s0 (State.portReads a0 a1 a2 a3).1 := by
  induction a3 generalizing a0 a1 a2 with
  | zero =>
    unfold Sys2Proof.Machine.State.portReads
    show Within k s0 _
    exact h
  | succ _ ih =>
    unfold Sys2Proof.Machine.State.portReads
    extract_lets -underBinder +onlyGivenNames x1
    have hx1 : Within k s0 x1.1 := by
      exact State_portRead_within1 (sub_trans rfl hk) h
    try clear_value x1
    extract_lets -underBinder +onlyGivenNames x2
    have hx2 : Within k s0 x2.1 := by
      apply ih
      exact hx1
    try clear_value x2
    show Within k s0 _
    exact hx2

theorem State_portWrites_within {k : Nat} {s0 : State} {a0 : State} {a1 : _} {a2 : _} {a3 : _} {a4 : _} (hk : 1099511627775 &&& k = 1099511627775) (h : Within k s0 a0) : Within k s0 (State.portWrites a0 a1 a2 a3 a4) := by
  induction a4 generalizing a0 a1 a2 a3 with
  | zero =>
    unfold Sys2Proof.Machine.State.portWrites
    exact h
  | succ _ ih =>
    unfold Sys2Proof.Machine.State.portWrites
    apply ih
    exact State_portWrite_within (sub_trans rfl hk) h

theorem State_hdpAdvance_within {k : Nat} {s0 : State} {a0 : State} (hk : 1 &&& k = 1) (h : Within k s0 a0) : Within k s0 (State.hdpAdvance a0) := by
  unfold Sys2Proof.Machine.State.hdpAdvance
  refine Within.ite (fun _ => ?_) (fun _ => ?_)
  · exact State_setFld_within (sub_trans rfl hk) h
  · exact h

theorem State_hdpFail_within {k : Nat} {s0 : State} {a0 : State} {a1 : _} {a2 : _} (hk : 1413 &&& k = 1413) (h : Within k s0 a0) : Within k s0 (State.hdpFail a0 a1 a2) := by
  unfold Sys2Proof.Machine.State.hdpFail
  extract_lets -underBinder +onlyGivenNames x1
  have hx1 : Within k s0 x1 := by
    exact State_portFail_within (sub_trans rfl hk) h
  try clear_value x1
  refine Within.ite (fun _ => ?_) (fun _ => ?_)
  · exact State_busError_within (sub_trans rfl hk) hx1
  · exact hx1

theorem State_hdpEcc_within {k : Nat} {s0 : State} {a0 : State} {a1 : _} {a2 : _} (hk : 447755685255 &&& k = 447755685255) (h : Within k s0 a0) : Within k s0 (State.hdpEcc a0 a1 a2) := by
  unfold Sys2Proof.Machine.State.hdpEcc
  extract_lets -underBinder +onlyGivenNames x1
  have hx1 : Within k s0 x1 := by
    exact State_hdpErr_within (sub_trans rfl hk) (State_memEcc_within (sub_trans rfl hk) h)
  try clear_value x1
  exact Within.set_busErr (sub_trans rfl hk) hx1

theorem hdpDataRead_within {k : Nat} {s0 : State} {a0 : _} {a1 : _} {a2 : State} (hk : 447755694023 &&& k = 447755694023) (h : Within k s0 a2) : Within k s0 (hdpDataRead a0 a1 a2) := by
  unfold Sys2Proof.Machine.hdpDataRead
  extract_lets -underBinder +onlyGivenNames x1
  try clear_value x1
  extract_lets -underBinder +onlyGivenNames x2
  try clear_value x2
  refine Within.ite (fun _ => ?_) (fun _ => ?_)
  · exact State_plainRead_within (sub_trans rfl hk) h
  · split
    · exact State_ret_within (sub_trans rfl hk) (State_draw_within (sub_trans rfl hk) (State_hdpFail_within (sub_trans rfl hk) h))
    · refine Within.ite (fun _ => ?_) (fun _ => ?_)
      · exact State_ret_within (sub_trans rfl hk) (State_draw_within (sub_trans rfl hk) (State_hdpEcc_within (sub_trans rfl hk) h))
      · extract_lets -underBinder +onlyGivenNames x3
        have hx3 : Within k s0 x3.1 := by
          exact State_portRead_within1 (sub_trans rfl hk) (State_memEcc_within (sub_trans rfl hk) h)
        try clear_value x3
        extract_lets -underBinder +onlyGivenNames x4
        try clear_value x4
        extract_lets -underBinder +onlyGivenNames x5
        have hx5 : Within k s0 x5 := by
          exact State_setReg_within (sub_trans rfl hk) hx3
        try clear_value x5
        extract_lets -underBinder +onlyGivenNames x6
        have hx6 : Within k s0 x6 := by
          unfold x6
          refine Within.ite (fun _ => ?_) (fun _ => ?_)
          · exact State_setReg_within (sub_trans rfl hk) hx5
          · exact hx5
        try clear_value x6
        exact State_ret_within (sub_trans rfl hk) (State_hdpAdvance_within (sub_trans rfl hk) hx6)

theorem execHdpDataRead_within {k : Nat} {s0 t : State} {a0 : _} {a1 : _} {a2 : State} (hk : 447755694023 &&& k = 447755694023) (h : Within k s0 a2) (e : execHdpDataRead a0 a1 a2 = .next t) : Within k s0 t := by
  unfold Sys2Proof.Machine.execHdpDataRead at e
  cases e
  exact hdpDataRead_within (sub_trans rfl hk) h

theorem hdpDataWrite_within {k : Nat} {s0 : State} {a0 : _} {a1 : _} {a2 : _} {a3 : State} (hk : 1099511627775 &&& k = 1099511627775) (h : Within k s0 a3) : Within k s0 (hdpDataWrite a0 a1 a2 a3) := by
  unfold Sys2Proof.Machine.hdpDataWrite
  extract_lets -underBinder +onlyGivenNames x1
  try clear_value x1
  extract_lets -underBinder +onlyGivenNames x2
  try clear_value x2
  refine Within.ite (fun _ => ?_) (fun _ => ?_)
  · exact State_denyWrite_within (sub_trans rfl hk) h
  · extract_lets -underBinder +onlyGivenNames x3
    have hx3 : Within k s0 x3 := by
      exact State_setReg_within (sub_trans rfl hk) h
    try clear_value x3
    refine Within.ite (fun _ => ?_) (fun _ => ?_)
    · exact hx3
    · split
      · exact State_hdpFail_within (sub_trans rfl hk) hx3
      · refine Within.ite (fun _ => ?_) (fun _ => ?_)
        · exact State_hdpEcc_within (sub_trans rfl hk) hx3
        · extract_lets -underBinder +onlyGivenNames x4
          try clear_value x4
          exact State_hdpAdvance_within (sub_trans rfl hk) (State_portWrite_within (sub_trans rfl hk) (State_memEcc_within (sub_trans rfl hk) hx3))

theorem execHdpDataWrite_within {k : Nat} {s0 t : State} {a0 : _} {a1 : _} {a2 : _} {a3 : State} (hk : 1099511627775 &&& k = 1099511627775) (h : Within k s0 a3) (e : execHdpDataWrite a0 a1 a2 a3 = .next t) : Within k s0 t := by
  unfold Sys2Proof.Machine.execHdpDataWrite at e
  cases e
  exact hdpDataWrite_within (sub_trans rfl hk) h

theorem State_hdpCtrlSet_within {k : Nat} {s0 : State} {a0 : State} {a1 : _} (hk : 1 &&& k = 1) (h : Within k s0 a0) : Within k s0 (State.hdpCtrlSet a0 a1) := by
  unfold Sys2Proof.Machine.State.hdpCtrlSet
  extract_lets -underBinder +onlyGivenNames x1
  try clear_value x1
  extract_lets -underBinder +onlyGivenNames x2
  have hx2 : Within k s0 x2 := by
    exact State_setFld_within (sub_trans rfl hk) (State_setFld_within (sub_trans rfl hk) h)
  try clear_value x2
  exact State_setFld_within (sub_trans rfl hk) (State_setFld_within (sub_trans rfl hk) hx2)

theorem State_hdpGo_within {k : Nat} {s0 : State} {a0 : State} (hk : 8589936005 &&& k = 8589936005) (h : Within k s0 a0) : Within k s0 (State.hdpGo a0) := by
  unfold Sys2Proof.Machine.State.hdpGo
  extract_lets -underBinder +onlyGivenNames x1
  try clear_value x1
  extract_lets -underBinder +onlyGivenNames x2
  try clear_value x2
  extract_lets -underBinder +onlyGivenNames x3
  try clear_value x3
  extract_lets -underBinder +onlyGivenNames x4
  try clear_value x4
  split
  · exact State_setFlag_within (sub_trans rfl hk) (State_setFld_within (sub_trans rfl hk) (State_portFail_within (sub_trans rfl hk) h))
  · extract_lets -underBinder +onlyGivenNames x5
    have hx5 : Within k s0 x5 := by
      exact State_setFlag_within (sub_trans rfl hk) h
    try clear_value x5
    exact Within.set_hdp (sub_trans rfl hk) hx5

theorem hdpCtrl_within {k : Nat} {s0 : State} {a0 : _} {a1 : _} {a2 : State} (hk : 8589936005 &&& k = 8589936005) (h : Within k s0 a2) : Within k s0 (hdpCtrl a0 a1 a2) := by
  unfold Sys2Proof.Machine.hdpCtrl
  refine Within.ite (fun _ => ?_) (fun _ => ?_)
  · exact State_denyWrite_within (sub_trans rfl hk) h
  · refine Within.ite (fun _ => ?_) (fun _ => ?_)
    · exact h
    · refine Within.ite (fun _ => ?_) (fun _ => ?_)
      · exact State_hdpGo_within (sub_trans rfl hk) (State_hdpCtrlSet_within (sub_trans rfl hk) h)
      · exact State_hdpCtrlSet_within (sub_trans rfl hk) h

theorem execHdpBurstGo_within {k : Nat} {s0 t : State} {a0 : _} {a1 : _} {a2 : State} (hk : 8589936005 &&& k = 8589936005) (h : Within k s0 a2) (e : execHdpBurstGo a0 a1 a2 = .next t) : Within k s0 t := by
  unfold Sys2Proof.Machine.execHdpBurstGo at e
  cases e
  exact hdpCtrl_within (sub_trans rfl hk) h

theorem State_bufPut_within {k : Nat} {s0 : State} {a0 : State} {a1 : _} {a2 : _} (hk : 1 &&& k = 1) (h : Within k s0 a0) : Within k s0 (State.bufPut a0 a1 a2) := by
  unfold Sys2Proof.Machine.State.bufPut
  extract_lets -underBinder +onlyGivenNames x1
  try clear_value x1
  exact State_setReg_within (sub_trans rfl hk) (State_setReg_within (sub_trans rfl hk) h)

theorem State_burstMove_within {k : Nat} {s0 : State} {a0 : State} {a1 : _} {a2 : _} {a3 : _} (hk : 1099511627775 &&& k = 1099511627775) (h : Within k s0 a0) : Within k s0 (State.burstMove a0 a1 a2 a3) := by
  induction a3 generalizing a0 a1 a2 with
  | zero =>
    unfold Sys2Proof.Machine.State.burstMove
    exact h
  | succ _ ih =>
    unfold Sys2Proof.Machine.State.burstMove
    extract_lets -underBinder +onlyGivenNames x1
    try clear_value x1
    extract_lets -underBinder +onlyGivenNames x2
    have hx2 : Within k s0 x2.1 := by
      exact State_portRead_within1 (sub_trans rfl hk) h
    try clear_value x2
    extract_lets -underBinder +onlyGivenNames x3
    have hx3 : Within k s0 x3 := by
      unfold x3
      refine Within.ite (fun _ => ?_) (fun _ => ?_)
      · exact State_portWrite_within (sub_trans rfl hk) h
      · exact State_bufPut_within (sub_trans rfl hk) hx2
    try clear_value x3
    apply ih
    exact hx3

theorem hdpBurstDone_within {k : Nat} {s0 : State} {a0 : _} {a1 : _} {a2 : State} (hk : 1099511627775 &&& k = 1099511627775) (h : Within k s0 a2) : Within k s0 (hdpBurstDone a0 a1 a2) := by
  unfold Sys2Proof.Machine.hdpBurstDone
  split
  · exact h
  · extract_lets -underBinder +onlyGivenNames x1
    try clear_value x1
    extract_lets -underBinder +onlyGivenNames x2
    try clear_value x2
    extract_lets -underBinder +onlyGivenNames x3
    try clear_value x3
    extract_lets -underBinder +onlyGivenNames x4
    try clear_value x4
    extract_lets -underBinder +onlyGivenNames x5
    have hx5 : Within k s0 x5 := by
      exact Within.set_hdp (sub_trans rfl hk) h
    try clear_value x5
    extract_lets -underBinder +onlyGivenNames x6
    have hx6 : Within k s0 x6 := by
      exact State_burstMove_within (sub_trans rfl hk) hx5
    try clear_value x6
    extract_lets -underBinder +onlyGivenNames x7
    have hx7 : Within k s0 x7 := by
      unfold x7
      refine Within.ite (fun _ => ?_) (fun _ => ?_)
      · exact State_hdpEcc_within (sub_trans rfl hk) hx6
      · exact State_memEcc_within (sub_trans rfl hk) hx6
    try clear_value x7
    extract_lets -underBinder +onlyGivenNames x8
    have hx8 : Within k s0 x8 := by
      exact State_setFld_within (sub_trans rfl hk) (State_setFld_within (sub_trans rfl hk) hx7)
    try clear_value x8
    exact State_setFlag_within (sub_trans rfl hk) (State_setFlag_within (sub_trans rfl hk) hx8)

theorem execHdpBurstDone_within {k : Nat} {s0 t : State} {a0 : _} {a1 : _} {a2 : State} (hk : 1099511627775 &&& k = 1099511627775) (h : Within k s0 a2) (e : execHdpBurstDone a0 a1 a2 = .next t) : Within k s0 t := by
  unfold Sys2Proof.Machine.execHdpBurstDone at e
  cases e
  exact hdpBurstDone_within (sub_trans rfl hk) h

theorem State_anyRead_within {k : Nat} {s0 : State} {a0 : State} {a1 : _} {a2 : _} (hk : 447755694023 &&& k = 447755694023) (h : Within k s0 a0) : Within k s0 (State.anyRead a0 a1 a2) := by
  unfold Sys2Proof.Machine.State.anyRead
  refine Within.ite (fun _ => ?_) (fun _ => ?_)
  · exact hdpDataRead_within (sub_trans rfl hk) h
  · exact State_regRead_within (sub_trans rfl hk) h

theorem execRcFieldRead_within {k : Nat} {s0 t : State} {a0 : _} {a1 : _} {a2 : State} (hk : 447755694023 &&& k = 447755694023) (h : Within k s0 a2) (e : execRcFieldRead a0 a1 a2 = .next t) : Within k s0 t := by
  unfold Sys2Proof.Machine.execRcFieldRead at e
  cases e
  exact State_anyRead_within (sub_trans rfl hk) h

theorem execLatchedLowWordRead_within {k : Nat} {s0 t : State} {a0 : _} {a1 : _} {a2 : State} (hk : 447755694023 &&& k = 447755694023) (h : Within k s0 a2) (e : execLatchedLowWordRead a0 a1 a2 = .next t) : Within k s0 t := by
  unfold Sys2Proof.Machine.execLatchedLowWordRead at e
  cases e
  exact State_anyRead_within (sub_trans rfl hk) h

theorem anyWrite_within {k : Nat} {s0 : State} {a0 : _} {a1 : _} {a2 : _} {a3 : State} (hk : 1099511627775 &&& k = 1099511627775) (h : Within k s0 a3) : Within k s0 (anyWrite a0 a1 a2 a3) := by
  unfold Sys2Proof.Machine.anyWrite
  refine Within.ite (fun _ => ?_) (fun _ => ?_)
  · exact hdpDataWrite_within (sub_trans rfl hk) h
  · refine Within.ite (fun _ => ?_) (fun _ => ?_)
    · exact hdpCtrl_within (sub_trans rfl hk) h
    · exact State_regWrite_within (sub_trans rfl hk) h

theorem execRegisterWrite_within {k : Nat} {s0 t : State} {a0 : _} {a1 : _} {a2 : _} {a3 : State} (hk : 1099511627775 &&& k = 1099511627775) (h : Within k s0 a3) (e : execRegisterWrite a0 a1 a2 a3 = .next t) : Within k s0 t := by
  unfold Sys2Proof.Machine.execRegisterWrite at e
  cases e
  exact anyWrite_within (sub_trans rfl hk) h

end Sys2Proof.Laws
end

