-- ==== Sys2Proof/Laws/WithinKsap.lean ====
section
/-! SUPPORT. What each operation of Machine/Ksap.lean can do to the state (see Laws/Within.lean). -/

/- One thread: elaborating these many small proofs side by side can exceed the memory that check.sh allows. -/
set_option Elab.async false

namespace Sys2Proof.Laws
open Sys2Proof Sys2Proof.Machine

theorem State_sendLoose_within {k : Nat} {s0 : State} {a0 : State} {a1 : _} {a2 : _} {a3 : _} (hk : 412316860416 &&& k = 412316860416) (h : Within k s0 a0) : Within k s0 (State.sendLoose a0 a1 a2 a3) := by
  unfold Sys2Proof.Machine.State.sendLoose
  extract_lets -underBinder +onlyGivenNames x1
  try clear_value x1
  exact State_draw_within (sub_trans rfl hk) (State_draw_within (sub_trans rfl hk) (State_send_within (sub_trans rfl hk) h))

theorem State_authFail_within {k : Nat} {s0 : State} {a0 : State} {a1 : _} {a2 : _} (hk : 154618823941 &&& k = 154618823941) (h : Within k s0 a0) : Within k s0 (State.authFail a0 a1 a2) := by
  unfold Sys2Proof.Machine.State.authFail
  extract_lets -underBinder +onlyGivenNames x1
  try clear_value x1
  extract_lets -underBinder +onlyGivenNames x2
  try clear_value x2
  extract_lets -underBinder +onlyGivenNames x3
  try clear_value x3
  extract_lets -underBinder +onlyGivenNames x4
  try clear_value x4
  extract_lets -underBinder +onlyGivenNames x5
  have hx5 : Within k s0 x5 := by
    exact Within.set_ksap (sub_trans rfl hk) h
  try clear_value x5
  exact State_send_within (sub_trans rfl hk) (State_raise_within (sub_trans rfl hk) hx5)

theorem State_challenge_within {k : Nat} {s0 : State} {a0 : State} {a1 : _} {a2 : _} (hk : 429496729600 &&& k = 429496729600) (h : Within k s0 a0) : Within k s0 (State.challenge a0 a1 a2) := by
  unfold Sys2Proof.Machine.State.challenge
  extract_lets -underBinder +onlyGivenNames x1
  try clear_value x1
  extract_lets -underBinder +onlyGivenNames x2
  try clear_value x2
  extract_lets -underBinder +onlyGivenNames x3
  try clear_value x3
  extract_lets -underBinder +onlyGivenNames x4
  try clear_value x4
  extract_lets -underBinder +onlyGivenNames x5
  try clear_value x5
  extract_lets -underBinder +onlyGivenNames x6
  have hx6 : Within k s0 x6 := by
    exact State_draw_within (sub_trans rfl hk) (State_draw_within (sub_trans rfl hk) (State_send_within (sub_trans rfl hk) h))
  try clear_value x6
  exact Within.set_ksap (sub_trans rfl hk) hx6

theorem hello_within {k : Nat} {s0 : State} {a0 : _} {a1 : _} {a2 : _} {a3 : State} (hk : 429496730885 &&& k = 429496730885) (h : Within k s0 a3) : Within k s0 (hello a0 a1 a2 a3) := by
  unfold Sys2Proof.Machine.hello
  extract_lets -underBinder +onlyGivenNames x1
  try clear_value x1
  refine Within.ite (fun _ => ?_) (fun _ => ?_)
  · exact h
  · refine Within.ite (fun _ => ?_) (fun _ => ?_)
    · exact State_sendLoose_within (sub_trans rfl hk) h
    · refine Within.ite (fun _ => ?_) (fun _ => ?_)
      · exact State_authFail_within (sub_trans rfl hk) h
      · exact State_challenge_within (sub_trans rfl hk) h

theorem execHello_within {k : Nat} {s0 t : State} {a0 : _} {a1 : _} {a2 : _} {a3 : State} (hk : 429496730885 &&& k = 429496730885) (h : Within k s0 a3) (e : execHello a0 a1 a2 a3 = .next t) : Within k s0 t := by
  unfold Sys2Proof.Machine.execHello at e
  cases e
  exact hello_within (sub_trans rfl hk) h

theorem State_openSession_within {k : Nat} {s0 : State} {a0 : State} {a1 : _} {a2 : _} {a3 : _} (hk : 154618823941 &&& k = 154618823941) (h : Within k s0 a0) : Within k s0 (State.openSession a0 a1 a2 a3) := by
  unfold Sys2Proof.Machine.State.openSession
  extract_lets -underBinder +onlyGivenNames x1
  try clear_value x1
  extract_lets -underBinder +onlyGivenNames x2
  try clear_value x2
  extract_lets -underBinder +onlyGivenNames x3
  try clear_value x3
  extract_lets -underBinder +onlyGivenNames x4
  try clear_value x4
  extract_lets -underBinder +onlyGivenNames x5
  have hx5 : Within k s0 x5 := by
    exact State_send_within (sub_trans rfl hk) h
  try clear_value x5
  extract_lets -underBinder +onlyGivenNames x6
  try clear_value x6
  exact State_raise_within (sub_trans rfl hk) (Within.set_ksap (sub_trans rfl hk) hx5)

theorem auth_within {k : Nat} {s0 : State} {a0 : _} {a1 : _} {a2 : _} {a3 : State} (hk : 429496730885 &&& k = 429496730885) (h : Within k s0 a3) : Within k s0 (auth a0 a1 a2 a3) := by
  unfold Sys2Proof.Machine.auth
  refine Within.ite (fun _ => ?_) (fun _ => ?_)
  · exact h
  · split
    · exact State_sendLoose_within (sub_trans rfl hk) h
    · refine Within.ite (fun _ => ?_) (fun _ => ?_)
      · exact State_sendLoose_within (sub_trans rfl hk) h
      · refine Within.ite (fun _ => ?_) (fun _ => ?_)
        · exact State_authFail_within (sub_trans rfl hk) h
        · refine Within.ite (fun _ => ?_) (fun _ => ?_)
          · exact h
          · exact State_openSession_within (sub_trans rfl hk) h

theorem execAuth_within {k : Nat} {s0 t : State} {a0 : _} {a1 : _} {a2 : _} {a3 : State} (hk : 429496730885 &&& k = 429496730885) (h : Within k s0 a3) (e : execAuth a0 a1 a2 a3 = .next t) : Within k s0 t := by
  unfold Sys2Proof.Machine.execAuth at e
  cases e
  exact auth_within (sub_trans rfl hk) h

theorem ack_within {k : Nat} {s0 : State} {a0 : State} {a1 : _} {a2 : _} (hk : 0 &&& k = 0) (h : Within k s0 a0) : Within k s0 (ack a0 a1 a2).st := by
  unfold Sys2Proof.Machine.ack
  exact h

theorem refuse_within {k : Nat} {s0 : State} {a0 : State} {a1 : _} {a2 : _} {a3 : _} (hk : 0 &&& k = 0) (h : Within k s0 a0) : Within k s0 (refuse a0 a1 a2 a3).st := by
  unfold Sys2Proof.Machine.refuse
  exact h

theorem State_setSession_within {k : Nat} {s0 : State} {a0 : State} {a1 : _} (hk : 17179869184 &&& k = 17179869184) (h : Within k s0 a0) : Within k s0 (State.setSession a0 a1) := by
  unfold Sys2Proof.Machine.State.setSession
  exact Within.set_ksap (sub_trans rfl hk) h

theorem State_kAnswer_within {k : Nat} {s0 s : State} {x : Session} {f : List Byte} {work : Session → List Byte → State → Answer}
    (hk : 0 &&& k = 0) (hw : ∀ y p t, Within k s0 t → Within k s0 (work y p t).st) (h : Within k s0 s) :
    Within k s0 (s.kAnswer x f work).st := by
  unfold State.kAnswer
  extract_lets ty p a
  clear_value ty p a
  repeat' split
  all_goals first | exact h | exact hw _ _ _ h

theorem State_kFinish_within {k : Nat} {s0 s : State} {x : Session} {ip : Nat} {f : List Byte} {r : Answer}
    (hk : 1099511627775 &&& k = 1099511627775) (hr : Within k s0 r.st) : Within k s0 (s.kFinish x ip f r) := by
  unfold State.kFinish
  extract_lets +onlyGivenNames out t
  have ht : Within k s0 t := State_setSession_within (sub_trans rfl hk) hr
  clear_value out t
  extract_lets +onlyGivenNames u
  have hu : Within k s0 u := Within.ite (fun _ => ht) (fun _ => State_send_within (sub_trans rfl hk) ht)
  clear_value u
  split
  · exact hu
  · exact State_endSession_within (sub_trans rfl hk) hu
  · exact State_leftStandby_within (sub_trans rfl hk) hu

theorem kRequest_within {k : Nat} {s0 s : State} {port ty ip : Nat} {f : List Byte} {ours : List Byte → Bool}
    {work : Session → List Byte → State → Answer} (hk : 1099511627775 &&& k = 1099511627775) (hw : ∀ y p t, Within k s0 t → Within k s0 (work y p t).st)
    (h : Within k s0 s) : Within k s0 (kRequest port ty ip f ours work s) := by
  unfold kRequest
  repeat' split
  · exact h
  · exact State_sendLoose_within (sub_trans rfl hk) h
  · exact State_endSession_within (sub_trans rfl hk) h
  · exact State_setSession_within (sub_trans rfl hk) h
  · exact State_send_within (sub_trans rfl hk) (State_setSession_within (sub_trans rfl hk) h)
  · exact State_kFinish_within hk (State_kAnswer_within (Nat.zero_and _) hw h)
  · exact State_setSession_within (sub_trans rfl hk) h

theorem statusWork_within {k : Nat} {s0 : State} {a0 : _} {a1 : _} {a2 : State} (hk : 0 &&& k = 0) (h : Within k s0 a2) : Within k s0 (statusWork a0 a1 a2).st := by
  unfold Sys2Proof.Machine.statusWork
  split
  · exact refuse_within (sub_trans rfl hk) h
  · exact ack_within (sub_trans rfl hk) h

theorem execStatusReq_within {k : Nat} {s0 t : State} {a0 : _} {a1 : _} {a2 : _} {a3 : State} (hk : 1099511627775 &&& k = 1099511627775) (h : Within k s0 a3) (e : execStatusReq a0 a1 a2 a3 = .next t) : Within k s0 t := by
  unfold Sys2Proof.Machine.execStatusReq at e
  cases e
  refine kRequest_within (sub_trans rfl hk) (fun _ _ t1 ht1 => ?_) ?_
  · exact statusWork_within (sub_trans rfl hk) ht1
  · exact h

theorem readWork_within {k : Nat} {s0 : State} {a0 : _} {a1 : _} {a2 : _} {a3 : _} {a4 : State} (hk : 447755694023 &&& k = 447755694023) (h : Within k s0 a4) : Within k s0 (readWork a0 a1 a2 a3 a4).st := by
  unfold Sys2Proof.Machine.readWork
  split
  · exact refuse_within (sub_trans rfl hk) h
  · split
    · exact refuse_within (sub_trans rfl hk) (State_portFail_within (sub_trans rfl hk) h)
    · extract_lets -underBinder +onlyGivenNames x1
      try clear_value x1
      split
      · extract_lets -underBinder +onlyGivenNames x2
        have hx2 : Within k s0 x2 := by
          exact State_portReads_within1 (sub_trans rfl hk) h
        try clear_value x2
        exact refuse_within (sub_trans rfl hk) (State_hdpEcc_within (sub_trans rfl hk) hx2)
      · extract_lets -underBinder +onlyGivenNames x3
        have hx3 : Within k s0 x3.1 := by
          exact State_portReads_within1 (sub_trans rfl hk) h
        try clear_value x3
        exact ack_within (sub_trans rfl hk) (State_memEcc_within (sub_trans rfl hk) hx3)

theorem execReadMem_within {k : Nat} {s0 t : State} {a0 : _} {a1 : _} {a2 : _} {a3 : _} {a4 : _} {a5 : State} (hk : 1099511627775 &&& k = 1099511627775) (h : Within k s0 a5) (e : execReadMem a0 a1 a2 a3 a4 a5 = .next t) : Within k s0 t := by
  unfold Sys2Proof.Machine.execReadMem at e
  cases e
  refine kRequest_within (sub_trans rfl hk) (fun _ _ t1 ht1 => ?_) ?_
  · exact readWork_within (sub_trans rfl hk) ht1
  · exact h

theorem writeWork_within {k : Nat} {s0 : State} {a0 : _} {a1 : _} {a2 : _} {a3 : _} {a4 : State} (hk : 1099511627775 &&& k = 1099511627775) (h : Within k s0 a4) : Within k s0 (writeWork a0 a1 a2 a3 a4).st := by
  unfold Sys2Proof.Machine.writeWork
  split
  · exact refuse_within (sub_trans rfl hk) h
  · split
    · exact refuse_within (sub_trans rfl hk) h
    · split
      · exact refuse_within (sub_trans rfl hk) (State_portFail_within (sub_trans rfl hk) h)
      · extract_lets -underBinder +onlyGivenNames x1
        try clear_value x1
        extract_lets -underBinder +onlyGivenNames x2
        try clear_value x2
        split
        · exact refuse_within (sub_trans rfl hk) (State_hdpEcc_within (sub_trans rfl hk) (State_portWrites_within (sub_trans rfl hk) h))
        · exact ack_within (sub_trans rfl hk) (State_memEcc_within (sub_trans rfl hk) (State_portWrites_within (sub_trans rfl hk) h))

theorem execWriteMem_within {k : Nat} {s0 t : State} {a0 : _} {a1 : _} {a2 : _} {a3 : _} {a4 : _} {a5 : State} (hk : 1099511627775 &&& k = 1099511627775) (h : Within k s0 a5) (e : execWriteMem a0 a1 a2 a3 a4 a5 = .next t) : Within k s0 t := by
  unfold Sys2Proof.Machine.execWriteMem at e
  cases e
  refine kRequest_within (sub_trans rfl hk) (fun _ _ t1 ht1 => ?_) ?_
  · exact writeWork_within (sub_trans rfl hk) ht1
  · exact h

theorem beginWork_within {k : Nat} {s0 : State} {a0 : _} {a1 : _} {a2 : State} (hk : 65538 &&& k = 65538) (h : Within k s0 a2) : Within k s0 (beginWork a0 a1 a2).st := by
  unfold Sys2Proof.Machine.beginWork
  split
  · exact refuse_within (sub_trans rfl hk) h
  · split
    · exact refuse_within (sub_trans rfl hk) h
    · split
      · exact refuse_within (sub_trans rfl hk) h
      · exact ack_within (sub_trans rfl hk) (State_loadBegin_within (sub_trans rfl hk) h)

theorem execImageBegin_within {k : Nat} {s0 t : State} {a0 : _} {a1 : _} {a2 : _} {a3 : State} (hk : 1099511627775 &&& k = 1099511627775) (h : Within k s0 a3) (e : execImageBegin a0 a1 a2 a3 = .next t) : Within k s0 t := by
  unfold Sys2Proof.Machine.execImageBegin at e
  cases e
  refine kRequest_within (sub_trans rfl hk) (fun _ _ t1 ht1 => ?_) ?_
  · exact beginWork_within (sub_trans rfl hk) ht1
  · exact h

theorem dataWork_within {k : Nat} {s0 : State} {a0 : _} {a1 : _} {a2 : State} (hk : 65538 &&& k = 65538) (h : Within k s0 a2) : Within k s0 (dataWork a0 a1 a2).st := by
  unfold Sys2Proof.Machine.dataWork
  extract_lets -underBinder +onlyGivenNames x1
  try clear_value x1
  extract_lets -underBinder +onlyGivenNames x2
  try clear_value x2
  split
  · exact refuse_within (sub_trans rfl hk) h
  · split
    · exact refuse_within (sub_trans rfl hk) h
    · split
      · exact refuse_within (sub_trans rfl hk) h
      · exact ack_within (sub_trans rfl hk) (State_loadBlock_within (sub_trans rfl hk) h)

theorem execImageData_within {k : Nat} {s0 t : State} {a0 : _} {a1 : _} {a2 : _} {a3 : State} (hk : 1099511627775 &&& k = 1099511627775) (h : Within k s0 a3) (e : execImageData a0 a1 a2 a3 = .next t) : Within k s0 t := by
  unfold Sys2Proof.Machine.execImageData at e
  cases e
  refine kRequest_within (sub_trans rfl hk) (fun _ _ t1 ht1 => ?_) ?_
  · exact dataWork_within (sub_trans rfl hk) ht1
  · exact h

theorem State_loadFails_within {k : Nat} {s0 : State} {a0 : State} {a1 : _} {a2 : _} (hk : 66821 &&& k = 66821) (h : Within k s0 a0) : Within k s0 (State.loadFails a0 a1 a2).st := by
  unfold Sys2Proof.Machine.State.loadFails
  extract_lets -underBinder +onlyGivenNames x1
  have hx1 : Within k s0 x1 := by
    exact State_loadReject_within (sub_trans rfl hk) (Within.set_load (sub_trans rfl hk) h)
  try clear_value x1
  extract_lets -underBinder +onlyGivenNames x2
  have hx2 : Within k s0 x2 := by
    unfold x2
    refine Within.ite (fun _ => ?_) (fun _ => ?_)
    · exact State_setFld_within (sub_trans rfl hk) hx1
    · exact hx1
  try clear_value x2
  exact refuse_within (sub_trans rfl hk) hx2

theorem State_swapLoaded_within {k : Nat} {s0 : State} {a0 : State} {a1 : _} {a2 : _} (hk : 99591 &&& k = 99591) (h : Within k s0 a0) : Within k s0 (State.swapLoaded a0 a1 a2) := by
  unfold Sys2Proof.Machine.State.swapLoaded
  extract_lets -underBinder +onlyGivenNames x1
  have hx1 : Within k s0 x1 := by
    exact State_journalEmpty_within (sub_trans rfl hk) (State_wrBytes_within (sub_trans rfl hk) h)
  try clear_value x1
  extract_lets -underBinder +onlyGivenNames x2
  have hx2 : Within k s0 x2 := by
    exact State_setReg_within (sub_trans rfl hk) (Within.plain (a := 98304) (t := x1) (sub_trans rfl hk) hx1 rfl rfl rfl rfl rfl rfl)
  try clear_value x2
  exact State_wvePhase_within (sub_trans rfl hk) (State_setFld_within (sub_trans rfl hk) (State_raise_within (sub_trans rfl hk) hx2))

theorem endWork_within {k : Nat} {s0 : State} {a0 : _} {a1 : _} {a2 : _} {a3 : State} (hk : 99591 &&& k = 99591) (h : Within k s0 a3) : Within k s0 (endWork a0 a1 a2 a3).st := by
  unfold Sys2Proof.Machine.endWork
  split
  · exact refuse_within (sub_trans rfl hk) h
  · split
    · exact refuse_within (sub_trans rfl hk) h
    · extract_lets -underBinder +onlyGivenNames x1
      try clear_value x1
      extract_lets -underBinder +onlyGivenNames x2
      try clear_value x2
      extract_lets -underBinder +onlyGivenNames x3
      have hx3 : Within k s0 x3 := by
        exact State_startEcc_within (sub_trans rfl hk) h
      try clear_value x3
      split
      · exact State_loadFails_within (sub_trans rfl hk) hx3
      · extract_lets -underBinder +onlyGivenNames x4
        try clear_value x4
        split
        · split
          · exact State_loadFails_within (sub_trans rfl hk) hx3
          · exact ack_within (sub_trans rfl hk) (State_swapLoaded_within (sub_trans rfl hk) hx3)
        · exact ack_within (sub_trans rfl hk) (State_loadAccept_within (sub_trans rfl hk) (Within.set_load (sub_trans rfl hk) hx3))

theorem execImageEnd_within {k : Nat} {s0 t : State} {a0 : _} {a1 : _} {a2 : _} {a3 : _} {a4 : State} (hk : 1099511627775 &&& k = 1099511627775) (h : Within k s0 a4) (e : execImageEnd a0 a1 a2 a3 a4 = .next t) : Within k s0 t := by
  unfold Sys2Proof.Machine.execImageEnd at e
  cases e
  refine kRequest_within (sub_trans rfl hk) (fun _ _ t1 ht1 => ?_) ?_
  · exact endWork_within (sub_trans rfl hk) ht1
  · exact h

theorem State_acceptSet_within {k : Nat} {s0 : State} {a0 : State} {a1 : _} {a2 : _} {a3 : _} (hk : 262147 &&& k = 262147) (h : Within k s0 a0) : Within k s0 (State.acceptSet a0 a1 a2 a3) := by
  unfold Sys2Proof.Machine.State.acceptSet
  extract_lets -underBinder +onlyGivenNames x1
  have hx1 : Within k s0 x1 := by
    exact State_journalAppend_within (sub_trans rfl hk) h
  try clear_value x1
  extract_lets -underBinder +onlyGivenNames x2
  try clear_value x2
  exact State_setFld_within (sub_trans rfl hk) (Within.set_changes (sub_trans rfl hk) hx1)

theorem setWork_within {k : Nat} {s0 : State} {a0 : _} {a1 : _} {a2 : State} (hk : 263431 &&& k = 263431) (h : Within k s0 a2) : Within k s0 (setWork a0 a1 a2).st := by
  unfold Sys2Proof.Machine.setWork
  extract_lets -underBinder +onlyGivenNames x1
  try clear_value x1
  extract_lets -underBinder +onlyGivenNames x2
  try clear_value x2
  split
  · exact refuse_within (sub_trans rfl hk) h
  · split
    · exact refuse_within (sub_trans rfl hk) (State_raise_within (sub_trans rfl hk) h)
    · exact ack_within (sub_trans rfl hk) (State_acceptSet_within (sub_trans rfl hk) h)

theorem execChangeSet_within {k : Nat} {s0 t : State} {a0 : _} {a1 : _} {a2 : _} {a3 : State} (hk : 1099511627775 &&& k = 1099511627775) (h : Within k s0 a3) (e : execChangeSet a0 a1 a2 a3 = .next t) : Within k s0 t := by
  unfold Sys2Proof.Machine.execChangeSet at e
  cases e
  refine kRequest_within (sub_trans rfl hk) (fun _ _ t1 ht1 => ?_) ?_
  · exact setWork_within (sub_trans rfl hk) ht1
  · exact h

theorem swapReqWork_within {k : Nat} {s0 : State} {a0 : _} {a1 : _} {a2 : _} {a3 : _} {a4 : State} (hk : 138512696581 &&& k = 138512696581) (h : Within k s0 a4) : Within k s0 (swapReqWork a0 a1 a2 a3 a4).st := by
  unfold Sys2Proof.Machine.swapReqWork
  split
  · exact refuse_within (sub_trans rfl hk) h
  · split
    · exact refuse_within (sub_trans rfl hk) h
    · extract_lets -underBinder +onlyGivenNames x1
      try clear_value x1
      exact ack_within (sub_trans rfl hk) (State_tell_within (sub_trans rfl hk) (State_swapLoadFix_within (sub_trans rfl hk) (State_swapFix_within (sub_trans rfl hk) h)))

theorem execChangeSwapRequest_within {k : Nat} {s0 t : State} {a0 : _} {a1 : _} {a2 : _} {a3 : _} {a4 : _} {a5 : State} (hk : 1099511627775 &&& k = 1099511627775) (h : Within k s0 a5) (e : execChangeSwapRequest a0 a1 a2 a3 a4 a5 = .next t) : Within k s0 t := by
  unfold Sys2Proof.Machine.execChangeSwapRequest at e
  cases e
  refine kRequest_within (sub_trans rfl hk) (fun _ _ t1 ht1 => ?_) ?_
  · exact swapReqWork_within (sub_trans rfl hk) ht1
  · exact h

theorem swapCancelWork_within {k : Nat} {s0 : State} {a0 : _} {a1 : _} {a2 : State} (hk : 172873061637 &&& k = 172873061637) (h : Within k s0 a2) : Within k s0 (swapCancelWork a0 a1 a2).st := by
  unfold Sys2Proof.Machine.swapCancelWork
  split
  · exact refuse_within (sub_trans rfl hk) h
  · split
    · extract_lets -underBinder +onlyGivenNames x1
      have hx1 : Within k s0 x1 := by
        unfold x1
        refine Within.ite (fun _ => ?_) (fun _ => ?_)
        · exact State_swapFail_within (sub_trans rfl hk) h
        · exact State_tell_within (sub_trans rfl hk) h
      try clear_value x1
      exact ack_within (sub_trans rfl hk) (State_abandonSwap_within (sub_trans rfl hk) hx1)
    · split
      · extract_lets -underBinder +onlyGivenNames x2
        have hx2 : Within k s0 x2.st := by
          exact ack_within (sub_trans rfl hk) (State_abandonSwap_within (sub_trans rfl hk) (State_swapEnd_within (sub_trans rfl hk) h))
        try clear_value x2
        exact hx2
      · exact refuse_within (sub_trans rfl hk) h

theorem execChangeSwapCancel_within {k : Nat} {s0 t : State} {a0 : _} {a1 : _} {a2 : _} {a3 : State} (hk : 1099511627775 &&& k = 1099511627775) (h : Within k s0 a3) (e : execChangeSwapCancel a0 a1 a2 a3 = .next t) : Within k s0 t := by
  unfold Sys2Proof.Machine.execChangeSwapCancel at e
  cases e
  refine kRequest_within (sub_trans rfl hk) (fun _ _ t1 ht1 => ?_) ?_
  · exact swapCancelWork_within (sub_trans rfl hk) ht1
  · exact h

theorem confirmWork_within {k : Nat} {s0 : State} {a0 : _} {a1 : _} {a2 : State} (hk : 67110149 &&& k = 67110149) (h : Within k s0 a2) : Within k s0 (confirmWork a0 a1 a2).st := by
  unfold Sys2Proof.Machine.confirmWork
  extract_lets -underBinder +onlyGivenNames x1
  try clear_value x1
  split
  · exact refuse_within (sub_trans rfl hk) h
  · split
    · exact refuse_within (sub_trans rfl hk) h
    · split
      · exact ack_within (sub_trans rfl hk) h
      · split
        · exact refuse_within (sub_trans rfl hk) h
        · split
          · exact refuse_within (sub_trans rfl hk) h
          · exact ack_within (sub_trans rfl hk) (State_openWindow_within (sub_trans rfl hk) h)

theorem execConfirmReq_within {k : Nat} {s0 t : State} {a0 : _} {a1 : _} {a2 : _} {a3 : State} (hk : 1099511627775 &&& k = 1099511627775) (h : Within k s0 a3) (e : execConfirmReq a0 a1 a2 a3 = .next t) : Within k s0 t := by
  unfold Sys2Proof.Machine.execConfirmReq at e
  cases e
  refine kRequest_within (sub_trans rfl hk) (fun _ _ t1 ht1 => ?_) ?_
  · exact confirmWork_within (sub_trans rfl hk) ht1
  · exact h

theorem State_otpOr_within {k : Nat} {s0 : State} {a0 : State} {a1 : _} {a2 : _} (hk : 2 &&& k = 2) (h : Within k s0 a0) : Within k s0 (State.otpOr a0 a1 a2) := by
  unfold Sys2Proof.Machine.State.otpOr
  exact State_wrBytes_within (sub_trans rfl hk) h

theorem State_otpDo_within {k : Nat} {s0 : State} {a0 : State} {a1 : _} {a2 : _} {a3 : _} {a4 : _} (hk : 2 &&& k = 2) (h : Within k s0 a0) : Within k s0 (State.otpDo a0 a1 a2 a3 a4) := by
  unfold Sys2Proof.Machine.State.otpDo
  refine Within.ite (fun _ => ?_) (fun _ => ?_)
  · exact State_otpOr_within (sub_trans rfl hk) (State_otpOr_within (sub_trans rfl hk) h)
  · exact State_otpOr_within (sub_trans rfl hk) h

theorem otpWork_within {k : Nat} {s0 : State} {a0 : _} {a1 : _} {a2 : State} (hk : 2 &&& k = 2) (h : Within k s0 a2) : Within k s0 (otpWork a0 a1 a2).st := by
  unfold Sys2Proof.Machine.otpWork
  extract_lets -underBinder +onlyGivenNames x1
  try clear_value x1
  extract_lets -underBinder +onlyGivenNames x2
  try clear_value x2
  extract_lets -underBinder +onlyGivenNames x3
  try clear_value x3
  split
  · exact refuse_within (sub_trans rfl hk) h
  · split
    · exact refuse_within (sub_trans rfl hk) h
    · split
      · exact refuse_within (sub_trans rfl hk) h
      · extract_lets -underBinder +onlyGivenNames x4
        have hx4 : Within k s0 x4.st := by
          exact ack_within (sub_trans rfl hk) (State_otpDo_within (sub_trans rfl hk) h)
        try clear_value x4
        exact hx4

theorem execOtpProgram_within {k : Nat} {s0 t : State} {a0 : _} {a1 : _} {a2 : _} {a3 : State} (hk : 1099511627775 &&& k = 1099511627775) (h : Within k s0 a3) (e : execOtpProgram a0 a1 a2 a3 = .next t) : Within k s0 t := by
  unfold Sys2Proof.Machine.execOtpProgram at e
  cases e
  refine kRequest_within (sub_trans rfl hk) (fun _ _ t1 ht1 => ?_) ?_
  · exact otpWork_within (sub_trans rfl hk) ht1
  · exact h

theorem execOtpRevoke_within {k : Nat} {s0 t : State} {a0 : _} {a1 : _} {a2 : _} {a3 : State} (hk : 1099511627775 &&& k = 1099511627775) (h : Within k s0 a3) (e : execOtpRevoke a0 a1 a2 a3 = .next t) : Within k s0 t := by
  unfold Sys2Proof.Machine.execOtpRevoke at e
  cases e
  refine kRequest_within (sub_trans rfl hk) (fun _ _ t1 ht1 => ?_) ?_
  · exact otpWork_within (sub_trans rfl hk) ht1
  · exact h

theorem closeWork_within {k : Nat} {s0 : State} {a0 : _} {a1 : _} {a2 : State} (hk : 0 &&& k = 0) (h : Within k s0 a2) : Within k s0 (closeWork a0 a1 a2).st := by
  unfold Sys2Proof.Machine.closeWork
  split
  · exact refuse_within (sub_trans rfl hk) h
  · exact h

theorem execCloseSession_within {k : Nat} {s0 t : State} {a0 : _} {a1 : _} {a2 : _} {a3 : State} (hk : 1099511627775 &&& k = 1099511627775) (h : Within k s0 a3) (e : execCloseSession a0 a1 a2 a3 = .next t) : Within k s0 t := by
  unfold Sys2Proof.Machine.execCloseSession at e
  cases e
  refine kRequest_within (sub_trans rfl hk) (fun _ _ t1 ht1 => ?_) ?_
  · exact closeWork_within (sub_trans rfl hk) ht1
  · exact h

theorem ksapTimeout_within {k : Nat} {s0 : State} {a0 : _} {a1 : State} (hk : 1099511627775 &&& k = 1099511627775) (h : Within k s0 a1) : Within k s0 (ksapTimeout a0 a1) := by
  unfold Sys2Proof.Machine.ksapTimeout
  split
  · exact State_endSession_within (sub_trans rfl hk) (State_toMono_within (sub_trans rfl hk) h)
  · exact h

theorem execKsapSessionTimeout_within {k : Nat} {s0 t : State} {a0 : _} {a1 : State} (hk : 1099511627775 &&& k = 1099511627775) (h : Within k s0 a1) (e : execKsapSessionTimeout a0 a1 = .next t) : Within k s0 t := by
  unfold Sys2Proof.Machine.execKsapSessionTimeout at e
  cases e
  exact ksapTimeout_within (sub_trans rfl hk) h

end Sys2Proof.Laws
end

