-- ==== Sys2Proof/Laws/WithinStep.lean ====
section
/-! SUPPORT. What each operation of Machine/Step.lean can do to the state (see Laws/Within.lean). -/

/- One thread: elaborating these many small proofs side by side can exceed the memory that check.sh allows. -/
set_option Elab.async false

namespace Sys2Proof.Laws
open Sys2Proof Sys2Proof.Machine

theorem State_withFetchWord_eq {s : State} {n w : Nat} : s.withFetchWord n w = s := rfl

end Sys2Proof.Laws
end

