-- ==== Sys2Proof/Laws/Commands.lean ====
section
/-! SUPPORT. What each command can do to the state, one row per command, and the laws of `exec` and `step` that follow from it. -/

/- One thread: elaborating these many small proofs side by side can exceed the memory that check.sh allows. -/
set_option Elab.async false

namespace Sys2Proof.Laws
open Sys2Proof Sys2Proof.Machine

/-- The parts of the state that a command can change, as a mask of Laws/Within.lean. -/
def partsOf : Instr → Nat
  | .startup _ => 1099511627775
  | .startWaitEnd _ => 448426679615
  | .negotiateTimeout => 452721712447
  | .negotiateIndeterminateTimeout => 447755586879
  | .supplyLow _ => 1285
  | .supplyOver _ => 1285
  | .supplyFail _ _ => 447755685639
  | .supplyReturn _ _ => 1285
  | .slotCodeChange _ => 1285
  | .hoInputAccept _ _ => 1099511627775
  | .hoIndeterminate _ => 1285
  | .takeoverAssertTake => 1073741881
  | .ioscTrim _ => 1285
  | .xt32Check _ => 1285
  | .fmStart _ _ => 1413
  | .fmDone _ => 1285
  | .refLoss => 1099511627775
  | .alwaysOnSave => 313
  | .cpmRestart _ _ => 1099511627775
  | .haltReq _ _ => 1099511627775
  | .clkdivWrite _ _ => 1413
  | .pairIdleEnter _ => 1
  | .dozeEnter => 257
  | .dozeWake => 312
  | .x6LinkEnergy => 256
  | .taskRelease _ => 138988225853
  | .latchComplete _ => 172337415429
  | .trickApply _ => 68157497
  | .taskOverrun _ => 447755685183
  | .fCycleStart => 471336253
  | .fWatchdogExpiry => 447755685183
  | .retainSnapshot => 314
  | .viewOpen _ _ _ => 70256005
  | .viewClose _ _ _ => 70256005
  | .viewDataRead _ _ => 193
  | .endWord _ => 1099511627775
  | .jmp _ => 1048576
  | .jmpc _ => 1048576
  | .jmpcn _ => 1048576
  | .move _ => 1048576
  | .conv _ => 1048576
  | .logAnd _ => 1048576
  | .logOr _ => 1048576
  | .logXor _ => 1048576
  | .logNot _ => 1048576
  | .addBlock _ => 1048576
  | .subBlock _ => 1048576
  | .mulBlock _ => 1048576
  | .divide _ => 1048576
  | .modulo _ => 1048576
  | .negBlock _ => 1048576
  | .absBlock _ => 1048576
  | .cmpEq _ => 1048576
  | .cmpNe _ => 1048576
  | .cmpLt _ => 1048576
  | .cmpLe _ => 1048576
  | .cmpGt _ => 1048576
  | .cmpGe _ => 1048576
  | .sel _ => 1048576
  | .mux _ => 1048576
  | .maximum _ => 1048576
  | .minimum _ => 1048576
  | .limitBlock _ => 1048576
  | .ramp _ => 1048576
  | .roc _ => 1048576
  | .ton _ => 1048576
  | .tof _ => 1048576
  | .tpTimer _ => 1048576
  | .ctu _ => 1048576
  | .ctd _ => 1048576
  | .ctud _ => 1048576
  | .rTrig _ => 1048576
  | .fTrig _ => 1048576
  | .sr _ => 1048576
  | .rs _ => 1048576
  | .qget _ => 1048576
  | .qset _ => 1048576
  | .qok _ => 1048576
  | .sand _ => 1048576
  | .sor _ => 1048576
  | .sval _ => 1048576
  | .sge _ => 1048576
  | .restartBlock _ => 1048576
  | .loopWindow => 138379003197
  | .loopDeposit => 1099511627775
  | .ppGo _ _ => 536872325
  | .ppLockAcquired => 536880581
  | .rgndataRead _ => 193
  | .channelRound _ _ _ _ => 68736254008
  | .lplusStateChange _ => 16777216
  | .diSampleWindow _ _ _ => 16777272
  | .fiEdge _ _ _ => 16777272
  | .doShortSwitchoff _ _ => 16777216
  | .doRestartAttempt _ => 16777272
  | .doOpenLoad _ => 16777216
  | .doForeignVoltage _ => 16777216
  | .groupOverload _ => 16777216
  | .protectiveStateEnter _ => 16777216
  | .protectiveStateExit _ => 16777216
  | .keepSend => 34368127032
  | .rimOutFrame _ => 34376515584
  | .rimKeepFrame _ => 34376515584
  | .rimCtrlFrame => 103095996416
  | .rimBulkFrame => 34376515584
  | .rimCfgFrame => 34376515584
  | .rimSafeFrame => 34376515584
  | .rimHoFrame => 34376515584
  | .rimInFrame _ => 68727866629
  | .rimCtrlInFrame => 68727870725
  | .rimLoss => 447764073791
  | .rimRecoveryTimeout => 447764073791
  | .fieldEntryApply _ => 16777272
  | .safeStateWatchdogExpiry => 16777272
  | .safeReq _ _ => 34368128389
  | .safeRel _ _ => 34368128389
  | .fieldRestart _ => 34376531205
  | .chClear => 68736253952
  | .groupMode => 68736258048
  | .groupModeApply => 68736258104
  | .runGrant => 68736253952
  | .modeDone => 8389893
  | .fieldStarted => 34418464005
  | .txsLimit _ => 16777216
  | .txsRestart _ => 16777272
  | .aoComplAlarm _ => 16777216
  | .aoOpen _ => 16777216
  | .trimDrive _ _ _ => 34410071431
  | .trimCommit _ _ _ => 34410071431
  | .trimEnd _ _ _ => 34410071431
  | .trimClear _ _ _ => 34410071431
  | .trimTimeout => 50331705
  | .hartTransmitStart _ => 137455730688
  | .hartResponseEnd _ _ _ _ => 137455730688
  | .hartNoResponse _ => 137455730688
  | .hartListenFrame _ _ _ => 16777216
  | .hartBurstFrame _ _ _ => 16777216
  | .hartRecordPush => 343614166279
  | .hartRecordDiscard => 68736258104
  | .hartScanDue _ => 16777272
  | .hartCancel => 68736258048
  | .hartScan => 68736253952
  | .testPulseStart _ => 16777272
  | .tsCheck _ _ => 16777272
  | .tsRestart _ => 16777272
  | .tpJudgement => 16777272
  | .sinDiscrepancy _ => 16777216
  | .anDisc _ => 67110205
  | .spdDisc _ => 67110205
  | .offPulse _ => 16777272
  | .offPulseCheck _ _ => 16777272
  | .fbCheck _ => 16777272
  | .safArm => 68736258048
  | .armDone => 8389893
  | .safReset => 68736258048
  | .resetDone => 75497472
  | .confirmWindowExpiry => 67110205
  | .ecxInFrame _ _ => 134219013
  | .ecxCfgAck _ _ => 134217728
  | .ecxCfgResend _ => 137573171256
  | .escWatchdogExpiry _ => 1341
  | .canFrameReceived _ _ _ _ _ => 275150540039
  | .canHpPop _ _ => 4195717
  | .canTxStart _ => 4194304
  | .canTxEnd _ _ => 412321058055
  | .canRecover _ _ _ => 4195717
  | .canBusOn _ => 4195589
  | .ttcanReference _ _ => 4195645
  | .ttcanWindow _ _ _ => 274882104639
  | .ttcanSyncLoss _ => 4195645
  | .ethFrameReceived _ _ _ _ _ => 414598563079
  | .ethLinkChange _ _ => 139586438405
  | .mrpTopologyChange => 2147484933
  | .ptpSync _ => 279172875533
  | .ptpAnnounce _ => 4294968581
  | .ptpAnnounceTimeout => 4294968637
  | .ptpSyncTimeout => 4294968637
  | .ptpAddendWrite _ _ => 1413
  | .ptpStep _ _ => 1421
  | .lockstepMismatch _ _ => 447755685127
  | .cacheParityError _ => 1
  | .cmpPairRestart _ _ _ => 34359754117
  | .pair0AutoRestart _ => 34359753989
  | .domainReset _ => 34359753989
  | .scrubRead _ _ _ => 447755685127
  | .mramScrubRead _ _ _ => 1285
  | .hdpDataRead _ _ => 447755694023
  | .hdpDataWrite _ _ _ => 1099511627775
  | .hdpBurstGo _ _ => 8589936005
  | .hdpBurstDone _ _ => 1099511627775
  | .hello _ _ _ => 429496730885
  | .auth _ _ _ => 429496730885
  | .readMem _ _ _ _ _ => 1099511627775
  | .writeMem _ _ _ _ _ => 1099511627775
  | .statusReq _ _ _ => 1099511627775
  | .imageBegin _ _ _ => 1099511627775
  | .imageData _ _ _ => 1099511627775
  | .imageEnd _ _ _ _ => 1099511627775
  | .changeSet _ _ _ => 1099511627775
  | .changeSwapRequest _ _ _ _ _ => 1099511627775
  | .changeSwapCancel _ _ _ => 1099511627775
  | .confirmReq _ _ _ => 1099511627775
  | .otpProgram _ _ _ => 1099511627775
  | .otpRevoke _ _ _ => 1099511627775
  | .closeSession _ _ _ => 1099511627775
  | .ksapSessionTimeout _ => 1099511627775
  | .swapPrepared => 1285
  | .swapLoadInstant => 447839489343
  | .carryComplete => 453057961279
  | .evtSwtrig _ _ => 1413
  | .evtClaim _ _ => 193
  | .quePush _ _ _ => 1415
  | .queRound _ => 446676602119
  | .queRel _ _ => 4195717
  | .queCfgWrite _ _ _ _ => 1413
  | .mbxPost _ _ _ => 34359743877
  | .mbxTake _ _ => 34359743877
  | .mbxTimeout _ => 5437
  | .lckAcquire _ _ => 8385
  | .lckRelease _ _ _ => 9605
  | .lckHdpreq _ _ => 9669
  | .lckHdprel _ _ => 9605
  | .lckHoldExpiry _ => 9533
  | .rcFieldRead _ _ => 447755694023
  | .latchedLowWordRead _ _ => 447755694023
  | .registerWrite _ _ _ => 1099511627775
  | .negotiate _ _ _ _ => 452721712391
  | .giveUp _ _ _ => 1099511627775
  | .stopNotice _ => 447755685127
  | .roleMsg _ _ => 172873061637
  | .roleSend _ => 138512695353
  | .timeMsg _ _ => 275951650053
  | .swapProp _ _ => 138512696581
  | .swapAck _ _ => 138512794885
  | .swapCancel _ => 1099511627775
  | .inputTrick _ => 173884851463
  | .digestMsg _ _ _ => 1099511627775
  | .digestLate => 1099511627775
  | .loopin _ _ => 940049725
  | .repairReq _ => 138512695296
  | .joinReq _ _ _ => 138512696581
  | .joinAck _ _ _ _ => 1073743133
  | .stateLines _ => 408044807
  | .cutOver _ _ _ => 139457611015
  | .joinCutOver _ => 138512696637
  | .joinRetry => 138512762173
  | .repairMsg _ => 1611793671
  | .fstate _ _ _ => 944915719
  | .imageBytes _ _ _ => 1099511627775
  | .rolentLaneLoss _ => 1285
  | .rolentLinkLoss => 1099511627775
  | .rolentRejoin => 138512762173
  | .rejoin _ _ => 447755685255
  | .giveControl _ _ => 447755685255
  | .swapNow _ _ => 447755685255
  | .plannedSwapDue => 138512696637
  | .swapOverlapStart => 1341
  | .plannedSwapInstant => 414134046015
  | .swapAssertTake => 1073743165
  | .hoPulseTest _ _ => 1073743165
  | .autoRestart => 1099511627775
  | .recordWrite _ => 447755586823
  | .evrArm _ _ => 1413
  | .evrClear _ _ => 1413
  | .evrClearEnd => 1287
  | .evrSwrec _ _ => 1413
  | .evrWinRead _ _ => 193
  | .pnlUpdate _ _ => 1925
  | .pnlFull _ _ => 1925
  | .pnlUpdateStart => 1799
  | .pnlRailFail => 1799
  | .pnlFrame => 57
  | .pnlUpdateCommit => 1799
  | .pnlTempMeasure _ => 1285
  | .pnlCrcCheck => 1287
  | .pnlRecovery => 1799
  | .pnlFbdataAccess _ _ => 1989
  | .keyDown => 513
  | .keyRelease _ => 1099511627775
  | .storeShutdownLevel => 1099511627775
  | .supplyNormal _ => 1
  | .dozePllLock => 257
  | .giveUpNoticeTd => 448493886783
  | .swapGroupModePost => 34359743805
  | .testPulseEnd _ _ => 16777272
  | .offPulseEnd _ => 16777272
  | .fieldRestartComplete => 68736258048
  | .rolentCrcFail _ => 1
  | .rolentLaneUp _ => 138512696581
  | .canReceiveError _ _ _ => 274882104583
  | .ptpFollowUp _ _ _ _ => 279172875533
  | .ptpDelayReqSend _ _ => 141733922053
  | .ptpDelayResp _ _ _ _ => 4294967297
  | .ptpSyncSend _ => 141733920768
  | .ptpAnnounceSend => 141733920768

/-- What a command does stays within its parts. -/
theorem exec_within : ∀ (c : Instr) (s t : State), exec c s = .next t → Within (partsOf c) s t
  | .startup x0, s, t, h => execStartup_within (k := 1099511627775) rfl Within.refl (show execStartup x0 s = .next t from h)
  | .startWaitEnd x0, s, t, h => execStartWaitEnd_within (k := 448426679615) rfl Within.refl (show execStartWaitEnd x0 s = .next t from h)
  | .negotiateTimeout, s, t, h => execNegotiateTimeout_within (k := 452721712447) rfl Within.refl (show execNegotiateTimeout s = .next t from h)
  | .negotiateIndeterminateTimeout, s, t, h => execNegotiateIndeterminateTimeout_within (k := 447755586879) rfl Within.refl (show execNegotiateIndeterminateTimeout s = .next t from h)
  | .supplyLow x0, s, t, h => execSupplyLow_within (k := 1285) rfl Within.refl (show execSupplyLow x0 s = .next t from h)
  | .supplyOver x0, s, t, h => execSupplyOver_within (k := 1285) rfl Within.refl (show execSupplyOver x0 s = .next t from h)
  | .supplyFail x0 x1, s, t, h => execSupplyFail_within (k := 447755685639) rfl Within.refl (show execSupplyFail x0 x1 s = .next t from h)
  | .supplyReturn x0 x1, s, t, h => execSupplyReturn_within (k := 1285) rfl Within.refl (show execSupplyReturn x0 x1 s = .next t from h)
  | .slotCodeChange x0, s, t, h => execSlotCodeChange_within (k := 1285) rfl Within.refl (show execSlotCodeChange x0 s = .next t from h)
  | .hoInputAccept x0 x1, s, t, h => execHoInputAccept_within (k := 1099511627775) rfl Within.refl (show execHoInputAccept x0 x1 s = .next t from h)
  | .hoIndeterminate x0, s, t, h => execHoIndeterminate_within (k := 1285) rfl Within.refl (show execHoIndeterminate x0 s = .next t from h)
  | .takeoverAssertTake, s, t, h => execTakeoverAssertTake_within (k := 1073741881) rfl Within.refl (show execTakeoverAssertTake s = .next t from h)
  | .ioscTrim x0, s, t, h => execIoscTrim_within (k := 1285) rfl Within.refl (show execIoscTrim x0 s = .next t from h)
  | .xt32Check x0, s, t, h => execXt32Check_within (k := 1285) rfl Within.refl (show execXt32Check x0 s = .next t from h)
  | .fmStart x0 x1, s, t, h => execFmStart_within (k := 1413) rfl Within.refl (show execFmStart x0 x1 s = .next t from h)
  | .fmDone x0, s, t, h => execFmDone_within (k := 1285) rfl Within.refl (show execFmDone x0 s = .next t from h)
  | .refLoss, s, t, h => execRefLoss_within (k := 1099511627775) rfl Within.refl (show execRefLoss s = .next t from h)
  | .alwaysOnSave, s, t, h => execAlwaysOnSave_within (k := 313) rfl Within.refl (show execAlwaysOnSave s = .next t from h)
  | .cpmRestart x0 x1, s, t, h => execCpmRestart_within (k := 1099511627775) rfl Within.refl (show execCpmRestart x0 x1 s = .next t from h)
  | .haltReq x0 x1, s, t, h => execHaltReq_within (k := 1099511627775) rfl Within.refl (show execHaltReq x0 x1 s = .next t from h)
  | .clkdivWrite x0 x1, s, t, h => execClkdivWrite_within (k := 1413) rfl Within.refl (show execClkdivWrite x0 x1 s = .next t from h)
  | .pairIdleEnter x0, s, t, h => execPairIdleEnter_within (k := 1) rfl Within.refl (show execPairIdleEnter x0 s = .next t from h)
  | .dozeEnter, s, t, h => execDozeEnter_within (k := 257) rfl Within.refl (show execDozeEnter s = .next t from h)
  | .dozeWake, s, t, h => execDozeWake_within (k := 312) rfl Within.refl (show execDozeWake s = .next t from h)
  | .x6LinkEnergy, s, t, h => execX6LinkEnergy_within (k := 256) rfl Within.refl (show execX6LinkEnergy s = .next t from h)
  | .taskRelease x0, s, t, h => execTaskRelease_within (k := 138988225853) rfl Within.refl (show execTaskRelease x0 s = .next t from h)
  | .latchComplete x0, s, t, h => execLatchComplete_within (k := 172337415429) rfl Within.refl (show execLatchComplete x0 s = .next t from h)
  | .trickApply x0, s, t, h => execTrickApply_within (k := 68157497) rfl Within.refl (show execTrickApply x0 s = .next t from h)
  | .taskOverrun x0, s, t, h => execTaskOverrun_within (k := 447755685183) rfl Within.refl (show execTaskOverrun x0 s = .next t from h)
  | .fCycleStart, s, t, h => execFCycleStart_within (k := 471336253) rfl Within.refl (show execFCycleStart s = .next t from h)
  | .fWatchdogExpiry, s, t, h => execFWatchdogExpiry_within (k := 447755685183) rfl Within.refl (show execFWatchdogExpiry s = .next t from h)
  | .retainSnapshot, s, t, h => execRetainSnapshot_within (k := 314) rfl Within.refl (show execRetainSnapshot s = .next t from h)
  | .viewOpen x0 x1 x2, s, t, h => execViewOpen_within (k := 70256005) rfl Within.refl (show execViewOpen x0 x1 x2 s = .next t from h)
  | .viewClose x0 x1 x2, s, t, h => execViewClose_within (k := 70256005) rfl Within.refl (show execViewClose x0 x1 x2 s = .next t from h)
  | .viewDataRead x0 x1, s, t, h => execViewDataRead_within (k := 193) rfl Within.refl (show execViewDataRead x0 x1 s = .next t from h)
  | .endWord x0, s, t, h => execEndWord_within (k := 1099511627775) rfl Within.refl (show execEndWord x0 s = .next t from h)
  | .jmp x0, s, t, h => execJmp_within (k := 1048576) rfl Within.refl (show execJmp x0 s = .next t from h)
  | .jmpc x0, s, t, h => execJmpc_within (k := 1048576) rfl Within.refl (show execJmpc x0 s = .next t from h)
  | .jmpcn x0, s, t, h => execJmpcn_within (k := 1048576) rfl Within.refl (show execJmpcn x0 s = .next t from h)
  | .move x0, s, t, h => execMove_within (k := 1048576) rfl Within.refl (show execMove x0 s = .next t from h)
  | .conv x0, s, t, h => execConv_within (k := 1048576) rfl Within.refl (show execConv x0 s = .next t from h)
  | .logAnd x0, s, t, h => execLogAnd_within (k := 1048576) rfl Within.refl (show execLogAnd x0 s = .next t from h)
  | .logOr x0, s, t, h => execLogOr_within (k := 1048576) rfl Within.refl (show execLogOr x0 s = .next t from h)
  | .logXor x0, s, t, h => execLogXor_within (k := 1048576) rfl Within.refl (show execLogXor x0 s = .next t from h)
  | .logNot x0, s, t, h => execLogNot_within (k := 1048576) rfl Within.refl (show execLogNot x0 s = .next t from h)
  | .addBlock x0, s, t, h => execAddBlock_within (k := 1048576) rfl Within.refl (show execAddBlock x0 s = .next t from h)
  | .subBlock x0, s, t, h => execSubBlock_within (k := 1048576) rfl Within.refl (show execSubBlock x0 s = .next t from h)
  | .mulBlock x0, s, t, h => execMulBlock_within (k := 1048576) rfl Within.refl (show execMulBlock x0 s = .next t from h)
  | .divide x0, s, t, h => execDivide_within (k := 1048576) rfl Within.refl (show execDivide x0 s = .next t from h)
  | .modulo x0, s, t, h => execModulo_within (k := 1048576) rfl Within.refl (show execModulo x0 s = .next t from h)
  | .negBlock x0, s, t, h => execNegBlock_within (k := 1048576) rfl Within.refl (show execNegBlock x0 s = .next t from h)
  | .absBlock x0, s, t, h => execAbsBlock_within (k := 1048576) rfl Within.refl (show execAbsBlock x0 s = .next t from h)
  | .cmpEq x0, s, t, h => execCmpEq_within (k := 1048576) rfl Within.refl (show execCmpEq x0 s = .next t from h)
  | .cmpNe x0, s, t, h => execCmpNe_within (k := 1048576) rfl Within.refl (show execCmpNe x0 s = .next t from h)
  | .cmpLt x0, s, t, h => execCmpLt_within (k := 1048576) rfl Within.refl (show execCmpLt x0 s = .next t from h)
  | .cmpLe x0, s, t, h => execCmpLe_within (k := 1048576) rfl Within.refl (show execCmpLe x0 s = .next t from h)
  | .cmpGt x0, s, t, h => execCmpGt_within (k := 1048576) rfl Within.refl (show execCmpGt x0 s = .next t from h)
  | .cmpGe x0, s, t, h => execCmpGe_within (k := 1048576) rfl Within.refl (show execCmpGe x0 s = .next t from h)
  | .sel x0, s, t, h => execSel_within (k := 1048576) rfl Within.refl (show execSel x0 s = .next t from h)
  | .mux x0, s, t, h => execMux_within (k := 1048576) rfl Within.refl (show execMux x0 s = .next t from h)
  | .maximum x0, s, t, h => execMaximum_within (k := 1048576) rfl Within.refl (show execMaximum x0 s = .next t from h)
  | .minimum x0, s, t, h => execMinimum_within (k := 1048576) rfl Within.refl (show execMinimum x0 s = .next t from h)
  | .limitBlock x0, s, t, h => execLimitBlock_within (k := 1048576) rfl Within.refl (show execLimitBlock x0 s = .next t from h)
  | .ramp x0, s, t, h => execRamp_within (k := 1048576) rfl Within.refl (show execRamp x0 s = .next t from h)
  | .roc x0, s, t, h => execRoc_within (k := 1048576) rfl Within.refl (show execRoc x0 s = .next t from h)
  | .ton x0, s, t, h => execTon_within (k := 1048576) rfl Within.refl (show execTon x0 s = .next t from h)
  | .tof x0, s, t, h => execTof_within (k := 1048576) rfl Within.refl (show execTof x0 s = .next t from h)
  | .tpTimer x0, s, t, h => execTpTimer_within (k := 1048576) rfl Within.refl (show execTpTimer x0 s = .next t from h)
  | .ctu x0, s, t, h => execCtu_within (k := 1048576) rfl Within.refl (show execCtu x0 s = .next t from h)
  | .ctd x0, s, t, h => execCtd_within (k := 1048576) rfl Within.refl (show execCtd x0 s = .next t from h)
  | .ctud x0, s, t, h => execCtud_within (k := 1048576) rfl Within.refl (show execCtud x0 s = .next t from h)
  | .rTrig x0, s, t, h => execRTrig_within (k := 1048576) rfl Within.refl (show execRTrig x0 s = .next t from h)
  | .fTrig x0, s, t, h => execFTrig_within (k := 1048576) rfl Within.refl (show execFTrig x0 s = .next t from h)
  | .sr x0, s, t, h => execSr_within (k := 1048576) rfl Within.refl (show execSr x0 s = .next t from h)
  | .rs x0, s, t, h => execRs_within (k := 1048576) rfl Within.refl (show execRs x0 s = .next t from h)
  | .qget x0, s, t, h => execQget_within (k := 1048576) rfl Within.refl (show execQget x0 s = .next t from h)
  | .qset x0, s, t, h => execQset_within (k := 1048576) rfl Within.refl (show execQset x0 s = .next t from h)
  | .qok x0, s, t, h => execQok_within (k := 1048576) rfl Within.refl (show execQok x0 s = .next t from h)
  | .sand x0, s, t, h => execSand_within (k := 1048576) rfl Within.refl (show execSand x0 s = .next t from h)
  | .sor x0, s, t, h => execSor_within (k := 1048576) rfl Within.refl (show execSor x0 s = .next t from h)
  | .sval x0, s, t, h => execSval_within (k := 1048576) rfl Within.refl (show execSval x0 s = .next t from h)
  | .sge x0, s, t, h => execSge_within (k := 1048576) rfl Within.refl (show execSge x0 s = .next t from h)
  | .restartBlock x0, s, t, h => execRestartBlock_within (k := 1048576) rfl Within.refl (show execRestartBlock x0 s = .next t from h)
  | .loopWindow, s, t, h => execLoopWindow_within (k := 138379003197) rfl Within.refl (show execLoopWindow s = .next t from h)
  | .loopDeposit, s, t, h => execLoopDeposit_within (k := 1099511627775) rfl Within.refl (show execLoopDeposit s = .next t from h)
  | .ppGo x0 x1, s, t, h => execPpGo_within (k := 536872325) rfl Within.refl (show execPpGo x0 x1 s = .next t from h)
  | .ppLockAcquired, s, t, h => execPpLockAcquired_within (k := 536880581) rfl Within.refl (show execPpLockAcquired s = .next t from h)
  | .rgndataRead x0, s, t, h => execRgndataRead_within (k := 193) rfl Within.refl (show execRgndataRead x0 s = .next t from h)
  | .channelRound x0 x1 x2 x3, s, t, h => execChannelRound_within (k := 68736254008) rfl Within.refl (show execChannelRound x0 x1 x2 x3 s = .next t from h)
  | .lplusStateChange x0, s, t, h => execLplusStateChange_within (k := 16777216) rfl Within.refl (show execLplusStateChange x0 s = .next t from h)
  | .diSampleWindow x0 x1 x2, s, t, h => execDiSampleWindow_within (k := 16777272) rfl Within.refl (show execDiSampleWindow x0 x1 x2 s = .next t from h)
  | .fiEdge x0 x1 x2, s, t, h => execFiEdge_within (k := 16777272) rfl Within.refl (show execFiEdge x0 x1 x2 s = .next t from h)
  | .doShortSwitchoff x0 x1, s, t, h => execDoShortSwitchoff_within (k := 16777216) rfl Within.refl (show execDoShortSwitchoff x0 x1 s = .next t from h)
  | .doRestartAttempt x0, s, t, h => execDoRestartAttempt_within (k := 16777272) rfl Within.refl (show execDoRestartAttempt x0 s = .next t from h)
  | .doOpenLoad x0, s, t, h => execDoOpenLoad_within (k := 16777216) rfl Within.refl (show execDoOpenLoad x0 s = .next t from h)
  | .doForeignVoltage x0, s, t, h => execDoForeignVoltage_within (k := 16777216) rfl Within.refl (show execDoForeignVoltage x0 s = .next t from h)
  | .groupOverload x0, s, t, h => execGroupOverload_within (k := 16777216) rfl Within.refl (show execGroupOverload x0 s = .next t from h)
  | .protectiveStateEnter x0, s, t, h => execProtectiveStateEnter_within (k := 16777216) rfl Within.refl (show execProtectiveStateEnter x0 s = .next t from h)
  | .protectiveStateExit x0, s, t, h => execProtectiveStateExit_within (k := 16777216) rfl Within.refl (show execProtectiveStateExit x0 s = .next t from h)
  | .keepSend, s, t, h => execKeepSend_within (k := 34368127032) rfl Within.refl (show execKeepSend s = .next t from h)
  | .rimOutFrame x0, s, t, h => execRimOutFrame_within (k := 34376515584) rfl Within.refl (show execRimOutFrame x0 s = .next t from h)
  | .rimKeepFrame x0, s, t, h => execRimKeepFrame_within (k := 34376515584) rfl Within.refl (show execRimKeepFrame x0 s = .next t from h)
  | .rimCtrlFrame, s, t, h => execRimCtrlFrame_within (k := 103095996416) rfl Within.refl (show execRimCtrlFrame s = .next t from h)
  | .rimBulkFrame, s, t, h => execRimBulkFrame_within (k := 34376515584) rfl Within.refl (show execRimBulkFrame s = .next t from h)
  | .rimCfgFrame, s, t, h => execRimCfgFrame_within (k := 34376515584) rfl Within.refl (show execRimCfgFrame s = .next t from h)
  | .rimSafeFrame, s, t, h => execRimSafeFrame_within (k := 34376515584) rfl Within.refl (show execRimSafeFrame s = .next t from h)
  | .rimHoFrame, s, t, h => execRimHoFrame_within (k := 34376515584) rfl Within.refl (show execRimHoFrame s = .next t from h)
  | .rimInFrame x0, s, t, h => execRimInFrame_within (k := 68727866629) rfl Within.refl (show execRimInFrame x0 s = .next t from h)
  | .rimCtrlInFrame, s, t, h => execRimCtrlInFrame_within (k := 68727870725) rfl Within.refl (show execRimCtrlInFrame s = .next t from h)
  | .rimLoss, s, t, h => execRimLoss_within (k := 447764073791) rfl Within.refl (show execRimLoss s = .next t from h)
  | .rimRecoveryTimeout, s, t, h => execRimRecoveryTimeout_within (k := 447764073791) rfl Within.refl (show execRimRecoveryTimeout s = .next t from h)
  | .fieldEntryApply x0, s, t, h => execFieldEntryApply_within (k := 16777272) rfl Within.refl (show execFieldEntryApply x0 s = .next t from h)
  | .safeStateWatchdogExpiry, s, t, h => execSafeStateWatchdogExpiry_within (k := 16777272) rfl Within.refl (show execSafeStateWatchdogExpiry s = .next t from h)
  | .safeReq x0 x1, s, t, h => execSafeReq_within (k := 34368128389) rfl Within.refl (show execSafeReq x0 x1 s = .next t from h)
  | .safeRel x0 x1, s, t, h => execSafeRel_within (k := 34368128389) rfl Within.refl (show execSafeRel x0 x1 s = .next t from h)
  | .fieldRestart x0, s, t, h => execFieldRestart_within (k := 34376531205) rfl Within.refl (show execFieldRestart x0 s = .next t from h)
  | .chClear, s, t, h => execChClear_within (k := 68736253952) rfl Within.refl (show execChClear s = .next t from h)
  | .groupMode, s, t, h => execGroupMode_within (k := 68736258048) rfl Within.refl (show execGroupMode s = .next t from h)
  | .groupModeApply, s, t, h => execGroupModeApply_within (k := 68736258104) rfl Within.refl (show execGroupModeApply s = .next t from h)
  | .runGrant, s, t, h => execRunGrant_within (k := 68736253952) rfl Within.refl (show execRunGrant s = .next t from h)
  | .modeDone, s, t, h => execModeDone_within (k := 8389893) rfl Within.refl (show execModeDone s = .next t from h)
  | .fieldStarted, s, t, h => execFieldStarted_within (k := 34418464005) rfl Within.refl (show execFieldStarted s = .next t from h)
  | .txsLimit x0, s, t, h => execTxsLimit_within (k := 16777216) rfl Within.refl (show execTxsLimit x0 s = .next t from h)
  | .txsRestart x0, s, t, h => execTxsRestart_within (k := 16777272) rfl Within.refl (show execTxsRestart x0 s = .next t from h)
  | .aoComplAlarm x0, s, t, h => execAoComplAlarm_within (k := 16777216) rfl Within.refl (show execAoComplAlarm x0 s = .next t from h)
  | .aoOpen x0, s, t, h => execAoOpen_within (k := 16777216) rfl Within.refl (show execAoOpen x0 s = .next t from h)
  | .trimDrive x0 x1 x2, s, t, h => execTrimDrive_within (k := 34410071431) rfl Within.refl (show execTrimDrive x0 x1 x2 s = .next t from h)
  | .trimCommit x0 x1 x2, s, t, h => execTrimCommit_within (k := 34410071431) rfl Within.refl (show execTrimCommit x0 x1 x2 s = .next t from h)
  | .trimEnd x0 x1 x2, s, t, h => execTrimEnd_within (k := 34410071431) rfl Within.refl (show execTrimEnd x0 x1 x2 s = .next t from h)
  | .trimClear x0 x1 x2, s, t, h => execTrimClear_within (k := 34410071431) rfl Within.refl (show execTrimClear x0 x1 x2 s = .next t from h)
  | .trimTimeout, s, t, h => execTrimTimeout_within (k := 50331705) rfl Within.refl (show execTrimTimeout s = .next t from h)
  | .hartTransmitStart x0, s, t, h => execHartTransmitStart_within (k := 137455730688) rfl Within.refl (show execHartTransmitStart x0 s = .next t from h)
  | .hartResponseEnd x0 x1 x2 x3, s, t, h => execHartResponseEnd_within (k := 137455730688) rfl Within.refl (show execHartResponseEnd x0 x1 x2 x3 s = .next t from h)
  | .hartNoResponse x0, s, t, h => execHartNoResponse_within (k := 137455730688) rfl Within.refl (show execHartNoResponse x0 s = .next t from h)
  | .hartListenFrame x0 x1 x2, s, t, h => execHartListenFrame_within (k := 16777216) rfl Within.refl (show execHartListenFrame x0 x1 x2 s = .next t from h)
  | .hartBurstFrame x0 x1 x2, s, t, h => execHartBurstFrame_within (k := 16777216) rfl Within.refl (show execHartBurstFrame x0 x1 x2 s = .next t from h)
  | .hartRecordPush, s, t, h => execHartRecordPush_within (k := 343614166279) rfl Within.refl (show execHartRecordPush s = .next t from h)
  | .hartRecordDiscard, s, t, h => execHartRecordDiscard_within (k := 68736258104) rfl Within.refl (show execHartRecordDiscard s = .next t from h)
  | .hartScanDue x0, s, t, h => execHartScanDue_within (k := 16777272) rfl Within.refl (show execHartScanDue x0 s = .next t from h)
  | .hartCancel, s, t, h => execHartCancel_within (k := 68736258048) rfl Within.refl (show execHartCancel s = .next t from h)
  | .hartScan, s, t, h => execHartScan_within (k := 68736253952) rfl Within.refl (show execHartScan s = .next t from h)
  | .testPulseStart x0, s, t, h => execTestPulseStart_within (k := 16777272) rfl Within.refl (show execTestPulseStart x0 s = .next t from h)
  | .tsCheck x0 x1, s, t, h => execTsCheck_within (k := 16777272) rfl Within.refl (show execTsCheck x0 x1 s = .next t from h)
  | .tsRestart x0, s, t, h => execTsRestart_within (k := 16777272) rfl Within.refl (show execTsRestart x0 s = .next t from h)
  | .tpJudgement, s, t, h => execTpJudgement_within (k := 16777272) rfl Within.refl (show execTpJudgement s = .next t from h)
  | .sinDiscrepancy x0, s, t, h => execSinDiscrepancy_within (k := 16777216) rfl Within.refl (show execSinDiscrepancy x0 s = .next t from h)
  | .anDisc x0, s, t, h => execAnDisc_within (k := 67110205) rfl Within.refl (show execAnDisc x0 s = .next t from h)
  | .spdDisc x0, s, t, h => execSpdDisc_within (k := 67110205) rfl Within.refl (show execSpdDisc x0 s = .next t from h)
  | .offPulse x0, s, t, h => execOffPulse_within (k := 16777272) rfl Within.refl (show execOffPulse x0 s = .next t from h)
  | .offPulseCheck x0 x1, s, t, h => execOffPulseCheck_within (k := 16777272) rfl Within.refl (show execOffPulseCheck x0 x1 s = .next t from h)
  | .fbCheck x0, s, t, h => execFbCheck_within (k := 16777272) rfl Within.refl (show execFbCheck x0 s = .next t from h)
  | .safArm, s, t, h => execSafArm_within (k := 68736258048) rfl Within.refl (show execSafArm s = .next t from h)
  | .armDone, s, t, h => execArmDone_within (k := 8389893) rfl Within.refl (show execArmDone s = .next t from h)
  | .safReset, s, t, h => execSafReset_within (k := 68736258048) rfl Within.refl (show execSafReset s = .next t from h)
  | .resetDone, s, t, h => execResetDone_within (k := 75497472) rfl Within.refl (show execResetDone s = .next t from h)
  | .confirmWindowExpiry, s, t, h => execConfirmWindowExpiry_within (k := 67110205) rfl Within.refl (show execConfirmWindowExpiry s = .next t from h)
  | .ecxInFrame x0 x1, s, t, h => execEcxInFrame_within (k := 134219013) rfl Within.refl (show execEcxInFrame x0 x1 s = .next t from h)
  | .ecxCfgAck x0 x1, s, t, h => execEcxCfgAck_within (k := 134217728) rfl Within.refl (show execEcxCfgAck x0 x1 s = .next t from h)
  | .ecxCfgResend x0, s, t, h => execEcxCfgResend_within (k := 137573171256) rfl Within.refl (show execEcxCfgResend x0 s = .next t from h)
  | .escWatchdogExpiry x0, s, t, h => execEscWatchdogExpiry_within (k := 1341) rfl Within.refl (show execEscWatchdogExpiry x0 s = .next t from h)
  | .canFrameReceived x0 x1 x2 x3 x4, s, t, h => execCanFrameReceived_within (k := 275150540039) rfl Within.refl (show execCanFrameReceived x0 x1 x2 x3 x4 s = .next t from h)
  | .canHpPop x0 x1, s, t, h => execCanHpPop_within (k := 4195717) rfl Within.refl (show execCanHpPop x0 x1 s = .next t from h)
  | .canTxStart x0, s, t, h => execCanTxStart_within (k := 4194304) rfl Within.refl (show execCanTxStart x0 s = .next t from h)
  | .canTxEnd x0 x1, s, t, h => execCanTxEnd_within (k := 412321058055) rfl Within.refl (show execCanTxEnd x0 x1 s = .next t from h)
  | .canRecover x0 x1 x2, s, t, h => execCanRecover_within (k := 4195717) rfl Within.refl (show execCanRecover x0 x1 x2 s = .next t from h)
  | .canBusOn x0, s, t, h => execCanBusOn_within (k := 4195589) rfl Within.refl (show execCanBusOn x0 s = .next t from h)
  | .ttcanReference x0 x1, s, t, h => execTtcanReference_within (k := 4195645) rfl Within.refl (show execTtcanReference x0 x1 s = .next t from h)
  | .ttcanWindow x0 x1 x2, s, t, h => execTtcanWindow_within (k := 274882104639) rfl Within.refl (show execTtcanWindow x0 x1 x2 s = .next t from h)
  | .ttcanSyncLoss x0, s, t, h => execTtcanSyncLoss_within (k := 4195645) rfl Within.refl (show execTtcanSyncLoss x0 s = .next t from h)
  | .ethFrameReceived x0 x1 x2 x3 x4, s, t, h => execEthFrameReceived_within (k := 414598563079) rfl Within.refl (show execEthFrameReceived x0 x1 x2 x3 x4 s = .next t from h)
  | .ethLinkChange x0 x1, s, t, h => execEthLinkChange_within (k := 139586438405) rfl Within.refl (show execEthLinkChange x0 x1 s = .next t from h)
  | .mrpTopologyChange, s, t, h => execMrpTopologyChange_within (k := 2147484933) rfl Within.refl (show execMrpTopologyChange s = .next t from h)
  | .ptpSync x0, s, t, h => execPtpSync_within (k := 279172875533) rfl Within.refl (show execPtpSync x0 s = .next t from h)
  | .ptpAnnounce x0, s, t, h => execPtpAnnounce_within (k := 4294968581) rfl Within.refl (show execPtpAnnounce x0 s = .next t from h)
  | .ptpAnnounceTimeout, s, t, h => execPtpAnnounceTimeout_within (k := 4294968637) rfl Within.refl (show execPtpAnnounceTimeout s = .next t from h)
  | .ptpSyncTimeout, s, t, h => execPtpSyncTimeout_within (k := 4294968637) rfl Within.refl (show execPtpSyncTimeout s = .next t from h)
  | .ptpAddendWrite x0 x1, s, t, h => execPtpAddendWrite_within (k := 1413) rfl Within.refl (show execPtpAddendWrite x0 x1 s = .next t from h)
  | .ptpStep x0 x1, s, t, h => execPtpStep_within (k := 1421) rfl Within.refl (show execPtpStep x0 x1 s = .next t from h)
  | .lockstepMismatch x0 x1, s, t, h => execLockstepMismatch_within (k := 447755685127) rfl Within.refl (show execLockstepMismatch x0 x1 s = .next t from h)
  | .cacheParityError x0, s, t, h => execCacheParityError_within (k := 1) rfl Within.refl (show execCacheParityError x0 s = .next t from h)
  | .cmpPairRestart x0 x1 x2, s, t, h => execCmpPairRestart_within (k := 34359754117) rfl Within.refl (show execCmpPairRestart x0 x1 x2 s = .next t from h)
  | .pair0AutoRestart x0, s, t, h => execPair0AutoRestart_within (k := 34359753989) rfl Within.refl (show execPair0AutoRestart x0 s = .next t from h)
  | .domainReset x0, s, t, h => execDomainReset_within (k := 34359753989) rfl Within.refl (show execDomainReset x0 s = .next t from h)
  | .scrubRead x0 x1 x2, s, t, h => execScrubRead_within (k := 447755685127) rfl Within.refl (show execScrubRead x0 x1 x2 s = .next t from h)
  | .mramScrubRead x0 x1 x2, s, t, h => execMramScrubRead_within (k := 1285) rfl Within.refl (show execMramScrubRead x0 x1 x2 s = .next t from h)
  | .hdpDataRead x0 x1, s, t, h => execHdpDataRead_within (k := 447755694023) rfl Within.refl (show execHdpDataRead x0 x1 s = .next t from h)
  | .hdpDataWrite x0 x1 x2, s, t, h => execHdpDataWrite_within (k := 1099511627775) rfl Within.refl (show execHdpDataWrite x0 x1 x2 s = .next t from h)
  | .hdpBurstGo x0 x1, s, t, h => execHdpBurstGo_within (k := 8589936005) rfl Within.refl (show execHdpBurstGo x0 x1 s = .next t from h)
  | .hdpBurstDone x0 x1, s, t, h => execHdpBurstDone_within (k := 1099511627775) rfl Within.refl (show execHdpBurstDone x0 x1 s = .next t from h)
  | .hello x0 x1 x2, s, t, h => execHello_within (k := 429496730885) rfl Within.refl (show execHello x0 x1 x2 s = .next t from h)
  | .auth x0 x1 x2, s, t, h => execAuth_within (k := 429496730885) rfl Within.refl (show execAuth x0 x1 x2 s = .next t from h)
  | .readMem x0 x1 x2 x3 x4, s, t, h => execReadMem_within (k := 1099511627775) rfl Within.refl (show execReadMem x0 x1 x2 x3 x4 s = .next t from h)
  | .writeMem x0 x1 x2 x3 x4, s, t, h => execWriteMem_within (k := 1099511627775) rfl Within.refl (show execWriteMem x0 x1 x2 x3 x4 s = .next t from h)
  | .statusReq x0 x1 x2, s, t, h => execStatusReq_within (k := 1099511627775) rfl Within.refl (show execStatusReq x0 x1 x2 s = .next t from h)
  | .imageBegin x0 x1 x2, s, t, h => execImageBegin_within (k := 1099511627775) rfl Within.refl (show execImageBegin x0 x1 x2 s = .next t from h)
  | .imageData x0 x1 x2, s, t, h => execImageData_within (k := 1099511627775) rfl Within.refl (show execImageData x0 x1 x2 s = .next t from h)
  | .imageEnd x0 x1 x2 x3, s, t, h => execImageEnd_within (k := 1099511627775) rfl Within.refl (show execImageEnd x0 x1 x2 x3 s = .next t from h)
  | .changeSet x0 x1 x2, s, t, h => execChangeSet_within (k := 1099511627775) rfl Within.refl (show execChangeSet x0 x1 x2 s = .next t from h)
  | .changeSwapRequest x0 x1 x2 x3 x4, s, t, h => execChangeSwapRequest_within (k := 1099511627775) rfl Within.refl (show execChangeSwapRequest x0 x1 x2 x3 x4 s = .next t from h)
  | .changeSwapCancel x0 x1 x2, s, t, h => execChangeSwapCancel_within (k := 1099511627775) rfl Within.refl (show execChangeSwapCancel x0 x1 x2 s = .next t from h)
  | .confirmReq x0 x1 x2, s, t, h => execConfirmReq_within (k := 1099511627775) rfl Within.refl (show execConfirmReq x0 x1 x2 s = .next t from h)
  | .otpProgram x0 x1 x2, s, t, h => execOtpProgram_within (k := 1099511627775) rfl Within.refl (show execOtpProgram x0 x1 x2 s = .next t from h)
  | .otpRevoke x0 x1 x2, s, t, h => execOtpRevoke_within (k := 1099511627775) rfl Within.refl (show execOtpRevoke x0 x1 x2 s = .next t from h)
  | .closeSession x0 x1 x2, s, t, h => execCloseSession_within (k := 1099511627775) rfl Within.refl (show execCloseSession x0 x1 x2 s = .next t from h)
  | .ksapSessionTimeout x0, s, t, h => execKsapSessionTimeout_within (k := 1099511627775) rfl Within.refl (show execKsapSessionTimeout x0 s = .next t from h)
  | .swapPrepared, s, t, h => execSwapPrepared_within (k := 1285) rfl Within.refl (show execSwapPrepared s = .next t from h)
  | .swapLoadInstant, s, t, h => execSwapLoadInstant_within (k := 447839489343) rfl Within.refl (show execSwapLoadInstant s = .next t from h)
  | .carryComplete, s, t, h => execCarryComplete_within (k := 453057961279) rfl Within.refl (show execCarryComplete s = .next t from h)
  | .evtSwtrig x0 x1, s, t, h => execEvtSwtrig_within (k := 1413) rfl Within.refl (show execEvtSwtrig x0 x1 s = .next t from h)
  | .evtClaim x0 x1, s, t, h => execEvtClaim_within (k := 193) rfl Within.refl (show execEvtClaim x0 x1 s = .next t from h)
  | .quePush x0 x1 x2, s, t, h => execQuePush_within (k := 1415) rfl Within.refl (show execQuePush x0 x1 x2 s = .next t from h)
  | .queRound x0, s, t, h => execQueRound_within (k := 446676602119) rfl Within.refl (show execQueRound x0 s = .next t from h)
  | .queRel x0 x1, s, t, h => execQueRel_within (k := 4195717) rfl Within.refl (show execQueRel x0 x1 s = .next t from h)
  | .queCfgWrite x0 x1 x2 x3, s, t, h => execQueCfgWrite_within (k := 1413) rfl Within.refl (show execQueCfgWrite x0 x1 x2 x3 s = .next t from h)
  | .mbxPost x0 x1 x2, s, t, h => execMbxPost_within (k := 34359743877) rfl Within.refl (show execMbxPost x0 x1 x2 s = .next t from h)
  | .mbxTake x0 x1, s, t, h => execMbxTake_within (k := 34359743877) rfl Within.refl (show execMbxTake x0 x1 s = .next t from h)
  | .mbxTimeout x0, s, t, h => execMbxTimeout_within (k := 5437) rfl Within.refl (show execMbxTimeout x0 s = .next t from h)
  | .lckAcquire x0 x1, s, t, h => execLckAcquire_within (k := 8385) rfl Within.refl (show execLckAcquire x0 x1 s = .next t from h)
  | .lckRelease x0 x1 x2, s, t, h => execLckRelease_within (k := 9605) rfl Within.refl (show execLckRelease x0 x1 x2 s = .next t from h)
  | .lckHdpreq x0 x1, s, t, h => execLckHdpreq_within (k := 9669) rfl Within.refl (show execLckHdpreq x0 x1 s = .next t from h)
  | .lckHdprel x0 x1, s, t, h => execLckHdprel_within (k := 9605) rfl Within.refl (show execLckHdprel x0 x1 s = .next t from h)
  | .lckHoldExpiry x0, s, t, h => execLckHoldExpiry_within (k := 9533) rfl Within.refl (show execLckHoldExpiry x0 s = .next t from h)
  | .rcFieldRead x0 x1, s, t, h => execRcFieldRead_within (k := 447755694023) rfl Within.refl (show execRcFieldRead x0 x1 s = .next t from h)
  | .latchedLowWordRead x0 x1, s, t, h => execLatchedLowWordRead_within (k := 447755694023) rfl Within.refl (show execLatchedLowWordRead x0 x1 s = .next t from h)
  | .registerWrite x0 x1 x2, s, t, h => execRegisterWrite_within (k := 1099511627775) rfl Within.refl (show execRegisterWrite x0 x1 x2 s = .next t from h)
  | .negotiate x0 x1 x2 x3, s, t, h => execNegotiate_within (k := 452721712391) rfl Within.refl (show execNegotiate x0 x1 x2 x3 s = .next t from h)
  | .giveUp x0 x1 x2, s, t, h => execGiveUp_within (k := 1099511627775) rfl Within.refl (show execGiveUp x0 x1 x2 s = .next t from h)
  | .stopNotice x0, s, t, h => execStopNotice_within (k := 447755685127) rfl Within.refl (show execStopNotice x0 s = .next t from h)
  | .roleMsg x0 x1, s, t, h => execRoleMsg_within (k := 172873061637) rfl Within.refl (show execRoleMsg x0 x1 s = .next t from h)
  | .roleSend x0, s, t, h => execRoleSend_within (k := 138512695353) rfl Within.refl (show execRoleSend x0 s = .next t from h)
  | .timeMsg x0 x1, s, t, h => execTimeMsg_within (k := 275951650053) rfl Within.refl (show execTimeMsg x0 x1 s = .next t from h)
  | .swapProp x0 x1, s, t, h => execSwapProp_within (k := 138512696581) rfl Within.refl (show execSwapProp x0 x1 s = .next t from h)
  | .swapAck x0 x1, s, t, h => execSwapAck_within (k := 138512794885) rfl Within.refl (show execSwapAck x0 x1 s = .next t from h)
  | .swapCancel x0, s, t, h => execSwapCancel_within (k := 1099511627775) rfl Within.refl (show execSwapCancel x0 s = .next t from h)
  | .inputTrick x0, s, t, h => execInputTrick_within (k := 173884851463) rfl Within.refl (show execInputTrick x0 s = .next t from h)
  | .digestMsg x0 x1 x2, s, t, h => execDigestMsg_within (k := 1099511627775) rfl Within.refl (show execDigestMsg x0 x1 x2 s = .next t from h)
  | .digestLate, s, t, h => execDigestLate_within (k := 1099511627775) rfl Within.refl (show execDigestLate s = .next t from h)
  | .loopin x0 x1, s, t, h => execLoopin_within (k := 940049725) rfl Within.refl (show execLoopin x0 x1 s = .next t from h)
  | .repairReq x0, s, t, h => execRepairReq_within (k := 138512695296) rfl Within.refl (show execRepairReq x0 s = .next t from h)
  | .joinReq x0 x1 x2, s, t, h => execJoinReq_within (k := 138512696581) rfl Within.refl (show execJoinReq x0 x1 x2 s = .next t from h)
  | .joinAck x0 x1 x2 x3, s, t, h => execJoinAck_within (k := 1073743133) rfl Within.refl (show execJoinAck x0 x1 x2 x3 s = .next t from h)
  | .stateLines x0, s, t, h => execStateLines_within (k := 408044807) rfl Within.refl (show execStateLines x0 s = .next t from h)
  | .cutOver x0 x1 x2, s, t, h => execCutOver_within (k := 139457611015) rfl Within.refl (show execCutOver x0 x1 x2 s = .next t from h)
  | .joinCutOver x0, s, t, h => execJoinCutOver_within (k := 138512696637) rfl Within.refl (show execJoinCutOver x0 s = .next t from h)
  | .joinRetry, s, t, h => execJoinRetry_within (k := 138512762173) rfl Within.refl (show execJoinRetry s = .next t from h)
  | .repairMsg x0, s, t, h => execRepairMsg_within (k := 1611793671) rfl Within.refl (show execRepairMsg x0 s = .next t from h)
  | .fstate x0 x1 x2, s, t, h => execFstate_within (k := 944915719) rfl Within.refl (show execFstate x0 x1 x2 s = .next t from h)
  | .imageBytes x0 x1 x2, s, t, h => execImageBytes_within (k := 1099511627775) rfl Within.refl (show execImageBytes x0 x1 x2 s = .next t from h)
  | .rolentLaneLoss x0, s, t, h => execRolentLaneLoss_within (k := 1285) rfl Within.refl (show execRolentLaneLoss x0 s = .next t from h)
  | .rolentLinkLoss, s, t, h => execRolentLinkLoss_within (k := 1099511627775) rfl Within.refl (show execRolentLinkLoss s = .next t from h)
  | .rolentRejoin, s, t, h => execRolentRejoin_within (k := 138512762173) rfl Within.refl (show execRolentRejoin s = .next t from h)
  | .rejoin x0 x1, s, t, h => execRejoin_within (k := 447755685255) rfl Within.refl (show execRejoin x0 x1 s = .next t from h)
  | .giveControl x0 x1, s, t, h => execGiveControl_within (k := 447755685255) rfl Within.refl (show execGiveControl x0 x1 s = .next t from h)
  | .swapNow x0 x1, s, t, h => execSwapNow_within (k := 447755685255) rfl Within.refl (show execSwapNow x0 x1 s = .next t from h)
  | .plannedSwapDue, s, t, h => execPlannedSwapDue_within (k := 138512696637) rfl Within.refl (show execPlannedSwapDue s = .next t from h)
  | .swapOverlapStart, s, t, h => execSwapOverlapStart_within (k := 1341) rfl Within.refl (show execSwapOverlapStart s = .next t from h)
  | .plannedSwapInstant, s, t, h => execPlannedSwapInstant_within (k := 414134046015) rfl Within.refl (show execPlannedSwapInstant s = .next t from h)
  | .swapAssertTake, s, t, h => execSwapAssertTake_within (k := 1073743165) rfl Within.refl (show execSwapAssertTake s = .next t from h)
  | .hoPulseTest x0 x1, s, t, h => execHoPulseTest_within (k := 1073743165) rfl Within.refl (show execHoPulseTest x0 x1 s = .next t from h)
  | .autoRestart, s, t, h => execAutoRestart_within (k := 1099511627775) rfl Within.refl (show execAutoRestart s = .next t from h)
  | .recordWrite x0, s, t, h => execRecordWrite_within (k := 447755586823) rfl Within.refl (show execRecordWrite x0 s = .next t from h)
  | .evrArm x0 x1, s, t, h => execEvrArm_within (k := 1413) rfl Within.refl (show execEvrArm x0 x1 s = .next t from h)
  | .evrClear x0 x1, s, t, h => execEvrClear_within (k := 1413) rfl Within.refl (show execEvrClear x0 x1 s = .next t from h)
  | .evrClearEnd, s, t, h => execEvrClearEnd_within (k := 1287) rfl Within.refl (show execEvrClearEnd s = .next t from h)
  | .evrSwrec x0 x1, s, t, h => execEvrSwrec_within (k := 1413) rfl Within.refl (show execEvrSwrec x0 x1 s = .next t from h)
  | .evrWinRead x0 x1, s, t, h => execEvrWinRead_within (k := 193) rfl Within.refl (show execEvrWinRead x0 x1 s = .next t from h)
  | .pnlUpdate x0 x1, s, t, h => execPnlUpdate_within (k := 1925) rfl Within.refl (show execPnlUpdate x0 x1 s = .next t from h)
  | .pnlFull x0 x1, s, t, h => execPnlFull_within (k := 1925) rfl Within.refl (show execPnlFull x0 x1 s = .next t from h)
  | .pnlUpdateStart, s, t, h => execPnlUpdateStart_within (k := 1799) rfl Within.refl (show execPnlUpdateStart s = .next t from h)
  | .pnlRailFail, s, t, h => execPnlRailFail_within (k := 1799) rfl Within.refl (show execPnlRailFail s = .next t from h)
  | .pnlFrame, s, t, h => execPnlFrame_within (k := 57) rfl Within.refl (show execPnlFrame s = .next t from h)
  | .pnlUpdateCommit, s, t, h => execPnlUpdateCommit_within (k := 1799) rfl Within.refl (show execPnlUpdateCommit s = .next t from h)
  | .pnlTempMeasure x0, s, t, h => execPnlTempMeasure_within (k := 1285) rfl Within.refl (show execPnlTempMeasure x0 s = .next t from h)
  | .pnlCrcCheck, s, t, h => execPnlCrcCheck_within (k := 1287) rfl Within.refl (show execPnlCrcCheck s = .next t from h)
  | .pnlRecovery, s, t, h => execPnlRecovery_within (k := 1799) rfl Within.refl (show execPnlRecovery s = .next t from h)
  | .pnlFbdataAccess x0 x1, s, t, h => execPnlFbdataAccess_within (k := 1989) rfl Within.refl (show execPnlFbdataAccess x0 x1 s = .next t from h)
  | .keyDown, s, t, h => execKeyDown_within (k := 513) rfl Within.refl (show execKeyDown s = .next t from h)
  | .keyRelease x0, s, t, h => execKeyRelease_within (k := 1099511627775) rfl Within.refl (show execKeyRelease x0 s = .next t from h)
  | .storeShutdownLevel, s, t, h => execStoreShutdownLevel_within (k := 1099511627775) rfl Within.refl (show execStoreShutdownLevel s = .next t from h)
  | .supplyNormal x0, s, t, h => execSupplyNormal_within (k := 1) rfl Within.refl (show execSupplyNormal x0 s = .next t from h)
  | .dozePllLock, s, t, h => execDozePllLock_within (k := 257) rfl Within.refl (show execDozePllLock s = .next t from h)
  | .giveUpNoticeTd, s, t, h => execGiveUpNoticeTd_within (k := 448493886783) rfl Within.refl (show execGiveUpNoticeTd s = .next t from h)
  | .swapGroupModePost, s, t, h => execSwapGroupModePost_within (k := 34359743805) rfl Within.refl (show execSwapGroupModePost s = .next t from h)
  | .testPulseEnd x0 x1, s, t, h => execTestPulseEnd_within (k := 16777272) rfl Within.refl (show execTestPulseEnd x0 x1 s = .next t from h)
  | .offPulseEnd x0, s, t, h => execOffPulseEnd_within (k := 16777272) rfl Within.refl (show execOffPulseEnd x0 s = .next t from h)
  | .fieldRestartComplete, s, t, h => execFieldRestartComplete_within (k := 68736258048) rfl Within.refl (show execFieldRestartComplete s = .next t from h)
  | .rolentCrcFail x0, s, t, h => execRolentCrcFail_within (k := 1) rfl Within.refl (show execRolentCrcFail x0 s = .next t from h)
  | .rolentLaneUp x0, s, t, h => execRolentLaneUp_within (k := 138512696581) rfl Within.refl (show execRolentLaneUp x0 s = .next t from h)
  | .canReceiveError x0 x1 x2, s, t, h => execCanReceiveError_within (k := 274882104583) rfl Within.refl (show execCanReceiveError x0 x1 x2 s = .next t from h)
  | .ptpFollowUp x0 x1 x2 x3, s, t, h => execPtpFollowUp_within (k := 279172875533) rfl Within.refl (show execPtpFollowUp x0 x1 x2 x3 s = .next t from h)
  | .ptpDelayReqSend x0 x1, s, t, h => execPtpDelayReqSend_within (k := 141733922053) rfl Within.refl (show execPtpDelayReqSend x0 x1 s = .next t from h)
  | .ptpDelayResp x0 x1 x2 x3, s, t, h => execPtpDelayResp_within (k := 4294967297) rfl Within.refl (show execPtpDelayResp x0 x1 x2 x3 s = .next t from h)
  | .ptpSyncSend x0, s, t, h => execPtpSyncSend_within (k := 141733920768) rfl Within.refl (show execPtpSyncSend x0 s = .next t from h)
  | .ptpAnnounceSend, s, t, h => execPtpAnnounceSend_within (k := 141733920768) rfl Within.refl (show execPtpAnnounceSend s = .next t from h)

end Sys2Proof.Laws
end

