-- ==== Sys2Proof/Laws/Events.lean ====
section
/-! SUPPORT. What the occurrence of an event does to the registers: its detail, its pending bit, and what it leaves alone. -/

/- One thread: elaborating these many small proofs side by side can exceed the memory that check.sh allows. -/
set_option Elab.async false

namespace Sys2Proof.Laws
open Sys2Proof Sys2Proof.Machine

/-- The registers an occurrence can change: the router's counters, details and pending bits, CPM_STAT (whose PAIR_IDLE bits it clears) and
the recorder's fill, peak and losses. -/
def eventTouches (a : Nat) : Bool :=
  (decide (0x40010400 ≤ a) && decide (a < 0x40011020)) || decide (a = Reg.CPM_STAT) || decide (a = Reg.EVR_STAT) || decide (a = Reg.EVR_PEAK) ||
    decide (a = Reg.EVR_LOST)

theorem latchAll_reg (m a : Nat) : ∀ (l : List Nat) (s : State), (s.latchAll m l).reg a = s.reg a
  | [], _ => rfl
  | h :: hs, s => by
    unfold State.latchAll
    rw [latchAll_reg m a hs]
    rfl

theorem readQuiet_reg (s : State) (m b a : Nat) : (s.readQuiet m b).2.reg a = s.reg a := by
  unfold State.readQuiet
  split
  · rfl
  · exact latchAll_reg _ _ _ _

theorem snapRead_reg (s : State) (b a : Nat) : (s.snapRead b).2.reg a = s.reg a := by
  unfold State.snapRead
  split
  · exact readQuiet_reg _ _ _ _
  · rfl
  · rfl

theorem snapAll_reg (a : Nat) : ∀ (l : List Nat) (s : State), (s.snapAll l).1.reg a = s.reg a
  | [], _ => rfl
  | b :: bs, s => by
    show (State.snapAll (s.snapRead b).2 bs).1.reg a = _
    rw [snapAll_reg a bs, snapRead_reg]

theorem recEntry_reg (s : State) (cls src lo hi time flags : Nat) (l : Option Nat) (a : Nat) :
    (s.recEntry cls src lo hi time flags l).1.reg a = s.reg a := by
  unfold State.recEntry
  cases l with
  | none => rfl
  | some l => exact snapAll_reg _ _ _

theorem showBuf_reg (s : State) {a : Nat} (h1 : a ≠ Reg.EVR_STAT) (h2 : a ≠ Reg.EVR_PEAK) : s.showBuf.reg a = s.reg a := by
  unfold State.showBuf
  rw [reg_setFld_ne _ _ (by exact h2), reg_setFld_ne _ _ (by exact h1)]

theorem bump_reg (s : State) {a : Nat} {c f : Field} (h1 : a ≠ c.addr) (h2 : a ≠ f.addr) : (s.bump c f).reg a = s.reg a := by
  unfold State.bump
  split
  · exact reg_setFld_ne _ _ h1
  · rw [reg_setFlag_ne _ _ h2, reg_setFld_ne _ _ h1]

theorem target_lt (s : State) (src : Nat) (h : s.presented src = true) : s.fld (Reg.EVT_ROUTE_TARGET src) < 3 := by
  have h1 := fld_lt s (Reg.EVT_ROUTE_TARGET src)
  have h2 : s.fld (Reg.EVT_ROUTE_TARGET src) ≠ 3 := by
    unfold State.presented at h
    simp only [Bool.and_eq_true, decide_eq_true_eq] at h
    exact h.2
  have : (2 : Nat) ^ (Reg.EVT_ROUTE_TARGET src).width = 4 := rfl
  omega

/-- What the router's part of an occurrence leaves alone. -/
theorem occur_reg (s : State) {src lo hi a : Nat} (hs : src < 256) (ha : eventTouches a = false) : (s.occur src lo hi).reg a = s.reg a := by
  unfold eventTouches at ha
  simp only [Bool.or_eq_false_iff, Bool.and_eq_false_iff, decide_eq_false_iff_not] at ha
  obtain ⟨⟨⟨⟨h0, h1⟩, h2⟩, h3⟩, h4⟩ := ha
  have n1 : a ≠ Reg.EVT_CNT src := by unfold Reg.EVT_CNT; omega
  have n2 : a ≠ Reg.EVT_INFO_LO src := by unfold Reg.EVT_INFO_LO; omega
  have n3 : a ≠ Reg.EVT_INFO_HI src := by unfold Reg.EVT_INFO_HI; omega
  have n4 : a ≠ Reg.EVT_PEND (src / 32) := by unfold Reg.EVT_PEND; omega
  have base : (((s.bump (Reg.EVT_CNT_COUNT src) (Reg.EVT_CNT_SAT src)).setReg (Reg.EVT_INFO_LO src) (BitVec.ofNat 32 lo)).setReg
      (Reg.EVT_INFO_HI src) (BitVec.ofNat 32 hi)).reg a = s.reg a := by
    rw [reg_setReg_ne _ _ n3, reg_setReg_ne _ _ n2, bump_reg _ (by exact n1) (by exact n1)]
  unfold State.occur
  dsimp only
  split
  · have idle : ∀ (t : State) (p : Nat), t.reg a = s.reg a → ((t.setPending src true).setFlag (idleBit p) false).reg a = s.reg a := by
      intro t p ht
      rw [reg_setFlag_ne _ _ (by exact h1)]
      unfold State.setPending
      rw [reg_setFld_ne _ _ (by exact n4), ht]
    split
    · exact idle _ _ base
    · exact idle _ _ base
  · exact base

theorem recClaim_reg (s : State) {cls src lo hi time flags : Nat} {l : Option Nat} {a : Nat} (ha : eventTouches a = false) :
    (s.recClaim cls src lo hi time flags l).reg a = s.reg a := by
  have ha' := ha
  unfold eventTouches at ha
  simp only [Bool.or_eq_false_iff, Bool.and_eq_false_iff, decide_eq_false_iff_not] at ha
  obtain ⟨⟨⟨⟨_, _⟩, h2⟩, h3⟩, h4⟩ := ha
  unfold State.recClaim
  split
  · show State.reg (State.showBuf _) a = _
    rw [showBuf_reg _ h2 h3]
    exact recEntry_reg _ _ _ _ _ _ _ _ _
  · have hb : (s.bump Reg.EVR_LOST_COUNT Reg.EVR_LOST_SAT).reg a = s.reg a := bump_reg _ h4 h4
    dsimp only
    split
    · rw [occur_reg _ (by decide) ha']
      exact hb
    · exact hb

theorem recEvent_reg (s : State) {src lo hi time flags a : Nat} (ha : eventTouches a = false) :
    (s.recEvent src lo hi time flags).reg a = s.reg a := by
  unfold State.recEvent
  split
  · show State.reg (if s.recFree = true then _ else _) a = _
    split
    · exact recClaim_reg s ha
    · exact recClaim_reg s ha
  · rfl

/-- What an occurrence leaves alone (R122). -/
theorem raise_reg (s : State) {src lo hi a : Nat} (hs : src < 256) (ha : eventTouches a = false) : (s.raise src lo hi).reg a = s.reg a := by
  unfold State.raise
  rw [recEvent_reg _ ha, occur_reg _ hs ha]

theorem raise_fld (s : State) {src lo hi : Nat} {f : Field} (hs : src < 256) (ha : eventTouches f.addr = false) :
    (s.raise src lo hi).fld f = s.fld f := fld_of_reg (raise_reg s hs ha)

theorem raise_flag (s : State) {src lo hi : Nat} {f : Field} (hs : src < 256) (ha : eventTouches f.addr = false) :
    (s.raise src lo hi).flag f = s.flag f := flag_of_fld (raise_fld s hs ha)

/-- CPM_STAT outside PAIR_IDLE is left alone. -/
theorem occur_cpm (s : State) {src lo hi : Nat} {f : Field} (hs : src < 256) (h : f.addr = Reg.CPM_STAT) (hw : f.lo + f.width ≤ 32)
    (d : f.lo + f.width ≤ 2 ∨ 5 ≤ f.lo) : (s.occur src lo hi).fld f = s.fld f := by
  have n1 : f.addr ≠ Reg.EVT_CNT src := by rw [h]; unfold Reg.EVT_CNT Reg.CPM_STAT; omega
  have n2 : f.addr ≠ Reg.EVT_INFO_LO src := by rw [h]; unfold Reg.EVT_INFO_LO Reg.CPM_STAT; omega
  have n3 : f.addr ≠ Reg.EVT_INFO_HI src := by rw [h]; unfold Reg.EVT_INFO_HI Reg.CPM_STAT; omega
  have n4 : f.addr ≠ Reg.EVT_PEND (src / 32) := by rw [h]; unfold Reg.EVT_PEND Reg.CPM_STAT; omega
  have base : (((s.bump (Reg.EVT_CNT_COUNT src) (Reg.EVT_CNT_SAT src)).setReg (Reg.EVT_INFO_LO src) (BitVec.ofNat 32 lo)).setReg
      (Reg.EVT_INFO_HI src) (BitVec.ofNat 32 hi)).fld f = s.fld f := by
    apply fld_of_reg
    rw [reg_setReg_ne _ _ n3, reg_setReg_ne _ _ n2, bump_reg _ (by exact n1) (by exact n1)]
  unfold State.occur
  dsimp only
  split
  · rename_i hp
    have ht := target_lt _ _ hp
    have idle : ∀ (t : State) (p : Nat), p < 3 → t.fld f = s.fld f → ((t.setPending src true).setFlag (idleBit p) false).fld f = s.fld f := by
      intro t p hp ht
      unfold State.setFlag
      rw [fld_setFld_other _ _ hw (by show 2 + p + 1 ≤ f.lo ∨ f.lo + f.width ≤ 2 + p; omega)]
      unfold State.setPending
      rw [fld_setFld_addr _ _ (by exact n4), ht]
    split
    · exact idle _ _ ht base
    · exact idle _ _ ht base
  · exact base

theorem recClaim_cpm (s : State) {cls src lo hi time flags : Nat} {l : Option Nat} {f : Field} (h : f.addr = Reg.CPM_STAT) (hw : f.lo + f.width ≤ 32)
    (d : f.lo + f.width ≤ 2 ∨ 5 ≤ f.lo) : (s.recClaim cls src lo hi time flags l).fld f = s.fld f := by
  have h2 : f.addr ≠ Reg.EVR_STAT := by rw [h]; decide
  have h3 : f.addr ≠ Reg.EVR_PEAK := by rw [h]; decide
  have h4 : f.addr ≠ Reg.EVR_LOST := by rw [h]; decide
  unfold State.recClaim
  split
  · show State.fld (State.showBuf _) f = _
    apply fld_of_reg
    rw [showBuf_reg _ h2 h3]
    exact recEntry_reg _ _ _ _ _ _ _ _ _
  · have hb : (s.bump Reg.EVR_LOST_COUNT Reg.EVR_LOST_SAT).fld f = s.fld f := fld_of_reg (bump_reg _ h4 h4)
    dsimp only
    split
    · rw [occur_cpm _ (by decide) h hw d]
      exact hb
    · exact hb

theorem raise_cpm (s : State) {src lo hi : Nat} {f : Field} (hs : src < 256) (h : f.addr = Reg.CPM_STAT) (hw : f.lo + f.width ≤ 32)
    (d : f.lo + f.width ≤ 2 ∨ 5 ≤ f.lo) : (s.raise src lo hi).fld f = s.fld f := by
  have ho := occur_cpm s (lo := lo) (hi := hi) hs h hw d
  unfold State.raise State.recEvent
  split
  · show State.fld (if (s.occur src lo hi).recFree = true then _ else _) f = _
    split
    · exact (recClaim_cpm _ h hw d).trans ho
    · exact (recClaim_cpm _ h hw d).trans ho
  · exact ho

/-! ### The detail of an occurrence -/

/-- Registers of a source other than 232 are not changed by the recorder's part of an occurrence. -/
theorem occur232_reg (s : State) {src a : Nat} (hs : src < 256) (hne : src ≠ 232) (lo hi : Nat)
    (ha : a = Reg.EVT_INFO_LO src ∨ a = Reg.EVT_INFO_HI src ∨ a = Reg.EVT_CNT src) : (s.occur 232 lo hi).reg a = s.reg a := by
  have n0 : a ≠ Reg.CPM_STAT := by unfold Reg.EVT_INFO_LO Reg.EVT_INFO_HI Reg.EVT_CNT at ha; unfold Reg.CPM_STAT; omega
  have n1 : a ≠ Reg.EVT_CNT 232 := by unfold Reg.EVT_INFO_LO Reg.EVT_INFO_HI Reg.EVT_CNT at ha; unfold Reg.EVT_CNT; omega
  have n2 : a ≠ Reg.EVT_INFO_LO 232 := by unfold Reg.EVT_INFO_LO Reg.EVT_INFO_HI Reg.EVT_CNT at ha; unfold Reg.EVT_INFO_LO; omega
  have n3 : a ≠ Reg.EVT_INFO_HI 232 := by unfold Reg.EVT_INFO_LO Reg.EVT_INFO_HI Reg.EVT_CNT at ha; unfold Reg.EVT_INFO_HI; omega
  have n4 : a ≠ Reg.EVT_PEND (232 / 32) := by unfold Reg.EVT_INFO_LO Reg.EVT_INFO_HI Reg.EVT_CNT at ha; unfold Reg.EVT_PEND; omega
  have base : (((s.bump (Reg.EVT_CNT_COUNT 232) (Reg.EVT_CNT_SAT 232)).setReg (Reg.EVT_INFO_LO 232) (BitVec.ofNat 32 lo)).setReg
      (Reg.EVT_INFO_HI 232) (BitVec.ofNat 32 hi)).reg a = s.reg a := by
    rw [reg_setReg_ne _ _ n3, reg_setReg_ne _ _ n2, bump_reg _ (by exact n1) (by exact n1)]
  unfold State.occur
  dsimp only
  split
  · have idle : ∀ (t : State) (p : Nat), t.reg a = s.reg a → ((t.setPending 232 true).setFlag (idleBit p) false).reg a = s.reg a := by
      intro t p ht
      rw [reg_setFlag_ne _ _ (by exact n0)]
      unfold State.setPending
      rw [reg_setFld_ne _ _ (by exact n4), ht]
    split
    · exact idle _ _ base
    · exact idle _ _ base
  · exact base

theorem recEvent_own (s : State) {src a : Nat} (hs : src < 256) (hne : src ≠ 232) (c lo hi time flags : Nat)
    (ha : a = Reg.EVT_INFO_LO src ∨ a = Reg.EVT_INFO_HI src ∨ a = Reg.EVT_CNT src) : (s.recEvent c lo hi time flags).reg a = s.reg a := by
  have h2 : a ≠ Reg.EVR_STAT := by unfold Reg.EVT_INFO_LO Reg.EVT_INFO_HI Reg.EVT_CNT at ha; unfold Reg.EVR_STAT; omega
  have h3 : a ≠ Reg.EVR_PEAK := by unfold Reg.EVT_INFO_LO Reg.EVT_INFO_HI Reg.EVT_CNT at ha; unfold Reg.EVR_PEAK; omega
  have h4 : a ≠ Reg.EVR_LOST := by unfold Reg.EVT_INFO_LO Reg.EVT_INFO_HI Reg.EVT_CNT at ha; unfold Reg.EVR_LOST; omega
  have claim : ∀ cls l, (s.recClaim cls c lo hi time flags l).reg a = s.reg a := by
    intro cls l
    unfold State.recClaim
    split
    · show State.reg (State.showBuf _) a = _
      rw [showBuf_reg _ h2 h3]
      exact recEntry_reg _ _ _ _ _ _ _ _ _
    · have hb : (s.bump Reg.EVR_LOST_COUNT Reg.EVR_LOST_SAT).reg a = s.reg a := bump_reg _ h4 h4
      dsimp only
      split
      · rw [occur232_reg _ hs hne _ _ ha]
        exact hb
      · exact hb
  unfold State.recEvent
  split
  · show State.reg (if s.recFree = true then _ else _) a = _
    split
    · exact claim _ _
    · exact claim _ _
  · rfl

theorem occur_info (s : State) {src : Nat} (hs : src < 256) (lo hi : Nat) :
    (s.occur src lo hi).reg (Reg.EVT_INFO_LO src) = BitVec.ofNat 32 lo ∧ (s.occur src lo hi).reg (Reg.EVT_INFO_HI src) = BitVec.ofNat 32 hi := by
  have base : ∀ t : State, ((t.setReg (Reg.EVT_INFO_LO src) (BitVec.ofNat 32 lo)).setReg (Reg.EVT_INFO_HI src) (BitVec.ofNat 32 hi)).reg
      (Reg.EVT_INFO_LO src) = BitVec.ofNat 32 lo ∧ ((t.setReg (Reg.EVT_INFO_LO src) (BitVec.ofNat 32 lo)).setReg (Reg.EVT_INFO_HI src)
      (BitVec.ofNat 32 hi)).reg (Reg.EVT_INFO_HI src) = BitVec.ofNat 32 hi := by
    intro t
    refine ⟨?_, reg_setReg_same _ _ _⟩
    rw [reg_setReg_ne _ _ (by unfold Reg.EVT_INFO_LO Reg.EVT_INFO_HI; omega), reg_setReg_same]
  have idle : ∀ (t : State) (p a : Nat), (a = Reg.EVT_INFO_LO src ∨ a = Reg.EVT_INFO_HI src) →
      ((t.setPending src true).setFlag (idleBit p) false).reg a = t.reg a := by
    intro t p a ha
    rw [reg_setFlag_ne _ _ (by show a ≠ Reg.CPM_STAT; unfold Reg.EVT_INFO_LO Reg.EVT_INFO_HI at ha; unfold Reg.CPM_STAT; omega)]
    unfold State.setPending
    rw [reg_setFld_ne _ _ (by show a ≠ Reg.EVT_PEND (src / 32); unfold Reg.EVT_INFO_LO Reg.EVT_INFO_HI at ha; unfold Reg.EVT_PEND; omega)]
  have b := base (s.bump (Reg.EVT_CNT_COUNT src) (Reg.EVT_CNT_SAT src))
  unfold State.occur
  dsimp only
  split
  · split
    · exact ⟨(idle _ _ _ (.inl rfl)).trans b.1, (idle _ _ _ (.inr rfl)).trans b.2⟩
    · exact ⟨(idle _ _ _ (.inl rfl)).trans b.1, (idle _ _ _ (.inr rfl)).trans b.2⟩
  · exact b

/-- An occurrence leaves its detail in EVT_INFO of its source (R122). -/
theorem raise_info (s : State) {src : Nat} (hs : src < 256) (hne : src ≠ 232) (lo hi : Nat) :
    (s.raise src lo hi).reg (Reg.EVT_INFO_LO src) = BitVec.ofNat 32 lo ∧ (s.raise src lo hi).reg (Reg.EVT_INFO_HI src) = BitVec.ofNat 32 hi := by
  unfold State.raise
  rw [recEvent_own _ hs hne _ _ _ _ _ (.inl rfl), recEvent_own _ hs hne _ _ _ _ _ (.inr (.inl rfl))]
  exact occur_info s hs lo hi

/-- The detail of another source is left alone. -/
theorem raise_info_ne (s : State) {src n : Nat} (hs : src < 256) (hn : n < 256) (hne : n ≠ 232) (hd : n ≠ src) (lo hi : Nat) :
    (s.raise src lo hi).reg (Reg.EVT_INFO_LO n) = s.reg (Reg.EVT_INFO_LO n) ∧ (s.raise src lo hi).reg (Reg.EVT_INFO_HI n) = s.reg (Reg.EVT_INFO_HI n) := by
  have key : ∀ a, (a = Reg.EVT_INFO_LO n ∨ a = Reg.EVT_INFO_HI n) → (s.occur src lo hi).reg a = s.reg a := by
    intro a ha
    unfold Reg.EVT_INFO_LO Reg.EVT_INFO_HI at ha
    have n0 : a ≠ Reg.CPM_STAT := by unfold Reg.CPM_STAT; omega
    have n1 : a ≠ Reg.EVT_CNT src := by unfold Reg.EVT_CNT; omega
    have n2 : a ≠ Reg.EVT_INFO_LO src := by unfold Reg.EVT_INFO_LO; omega
    have n3 : a ≠ Reg.EVT_INFO_HI src := by unfold Reg.EVT_INFO_HI; omega
    have n4 : a ≠ Reg.EVT_PEND (src / 32) := by unfold Reg.EVT_PEND; omega
    have base : (((s.bump (Reg.EVT_CNT_COUNT src) (Reg.EVT_CNT_SAT src)).setReg (Reg.EVT_INFO_LO src) (BitVec.ofNat 32 lo)).setReg
        (Reg.EVT_INFO_HI src) (BitVec.ofNat 32 hi)).reg a = s.reg a := by
      rw [reg_setReg_ne _ _ n3, reg_setReg_ne _ _ n2, bump_reg _ (by exact n1) (by exact n1)]
    have idle : ∀ (t : State) (p : Nat), t.reg a = s.reg a → ((t.setPending src true).setFlag (idleBit p) false).reg a = s.reg a := by
      intro t p ht
      rw [reg_setFlag_ne _ _ (by exact n0)]
      unfold State.setPending
      rw [reg_setFld_ne _ _ (by exact n4), ht]
    unfold State.occur
    dsimp only
    split
    · split
      · exact idle _ _ base
      · exact idle _ _ base
    · exact base
  unfold State.raise
  rw [recEvent_own _ hn hne _ _ _ _ _ (.inl rfl), recEvent_own _ hn hne _ _ _ _ _ (.inr (.inl rfl))]
  exact ⟨key _ (.inl rfl), key _ (.inr rfl)⟩

end Sys2Proof.Laws
end

