-- ==== Sys2Proof/Laws/Reactions.lean ====
section
/-! SUPPORT. What the stop of a station and a give-up leave, said once. -/

/- One thread: elaborating these many small proofs side by side can exceed the memory that check.sh allows. -/
set_option Elab.async false

namespace Sys2Proof.Laws
open Sys2Proof Sys2Proof.Machine

theorem wrLE_reg (s : State) (x n v a : Nat) : (s.wrLE x n v).reg a = s.reg a := rfl

theorem queAttn_reg (s : State) {p q a : Nat} (hp : p < 3) (ha : eventTouches a = false) (hq : a < 0x40020020 ∨ 0x40020038 ≤ a) :
    (s.queAttn p q).reg a = s.reg a := by
  have n1 : a ≠ (if q < 32 then Reg.QUE_ATTN_LO p else Reg.QUE_ATTN_HI p) := by
    unfold Reg.QUE_ATTN_LO Reg.QUE_ATTN_HI; split <;> omega
  unfold State.queAttn
  generalize (if q < 32 then Reg.QUE_ATTN_LO p else Reg.QUE_ATTN_HI p) = x at n1
  dsimp only
  by_cases h : s.flag ⟨x, q % 32, 1⟩ = true
  · rw [if_pos h]
  · rw [if_neg h, raise_reg _ (by omega) ha]
    exact reg_setFlag_ne _ _ n1

theorem doneEv_reg (s : State) (q : Nat) (d : List Byte) {a : Nat} (ha : eventTouches a = false) (hq : a < 0x40020020 ∨ 0x40020038 ≤ a) :
    (s.doneEv q d).reg a = s.reg a := by
  unfold State.doneEv
  split
  · exact queAttn_reg s (by omega) ha hq
  · rfl

theorem canQueueDone_reg (s : State) (n r sof : Nat) {a : Nat} (ha : eventTouches a = false) (hq : a < 0x40020020 ∨ 0x40020038 ≤ a) :
    (s.canQueueDone n r sof).reg a = s.reg a := by
  unfold State.canQueueDone
  split
  · rfl
  · dsimp only
    rw [doneEv_reg _ _ _ ha hq]
    split <;> rfl

/-- A register that neither an occurrence nor the end of a frame at a CAN port touches. -/
def outsideCan (a : Nat) : Prop := eventTouches a = false ∧ (a < 0x40070000 ∨ 0x40074000 ≤ a) ∧ (a < 0x40020020 ∨ 0x40020038 ≤ a)

theorem canTxFail_reg (s : State) {n a : Nat} (t : CanTx) (c : Nat) (hn : n < 4) (ha : outsideCan a) : (s.canTxFail n t c).reg a = s.reg a := by
  obtain ⟨h, g, -⟩ := ha
  have n1 : a ≠ Reg.CAN_TXFAIL n := by unfold Reg.CAN_TXFAIL; omega
  unfold State.canTxFail
  split
  · rfl
  · dsimp only
    rw [raise_reg _ (by unfold canSrc; omega) h, bump_reg _ (by exact n1) (by exact n1), reg_setFld_ne _ _ (by exact n1), reg_setFld_ne _ _ (by exact n1)]

theorem canShowPend_reg (s : State) {n o a : Nat} (hn : n < 4) (ha : outsideCan a) : (s.canShowPend n o).reg a = s.reg a := by
  unfold State.canShowPend
  split
  · have n1 : a ≠ (Reg.CAN_OBJ_PEND n o).addr := by
      show a ≠ Reg.CAN_OBJ n o
      unfold Reg.CAN_OBJ; rcases ha with ⟨-, h, -⟩; omega
    exact reg_setFlag_ne _ _ n1
  · rfl

theorem canFail_reg (s : State) {n a : Nat} (t : CanTx) (c sof : Nat) (hn : n < 4) (ha : outsideCan a) : (s.canFail n t c sof).reg a = s.reg a := by
  unfold State.canFail
  dsimp only
  rw [canShowPend_reg _ hn ha]
  split
  · rw [canQueueDone_reg _ _ _ _ ha.1 ha.2.2]
    split
    · exact canTxFail_reg _ _ _ hn ha
    · rfl
  · split
    · exact canTxFail_reg _ _ _ hn ha
    · rfl

theorem canRestrict_reg (on : Bool) {a : Nat} (ha : outsideCan a) : ∀ (l : List Nat) (s : State), (∀ n ∈ l, n < 4) → (s.canRestrict on l).reg a = s.reg a
  | [], _, _ => rfl
  | n :: ns, s, hl => by
    have hn := hl n (by simp)
    have hs : ∀ m ∈ ns, m < 4 := fun m hm => hl m (by simp [hm])
    unfold State.canRestrict
    split
    · exact canRestrict_reg on ha ns s hs
    · dsimp only
      rw [canRestrict_reg on ha ns _ hs]
      have n1 : a ≠ (Reg.CAN_STAT_RESTRICT n).addr := by
        show a ≠ Reg.CAN_STAT n
        unfold Reg.CAN_STAT; rcases ha with ⟨-, h, -⟩; omega
      rw [reg_setFlag_ne _ _ n1]
      show State.reg (if on = true then _ else _) a = _
      split
      · unfold State.canAbortBus
        dsimp only
        split
        · rfl
        · exact canFail_reg _ _ _ _ hn ha
      · rfl

theorem stopRecord_reg (s : State) (src : Nat) {a : Nat} (ha : eventTouches a = false) : (s.stopRecord src).reg a = s.reg a := by
  unfold eventTouches at ha
  simp only [Bool.or_eq_false_iff, Bool.and_eq_false_iff, decide_eq_false_iff_not] at ha
  obtain ⟨⟨⟨⟨_, _⟩, h2⟩, h3⟩, _⟩ := ha
  unfold State.stopRecord State.recFirst
  rw [showBuf_reg _ h2 h3]
  exact recEntry_reg _ _ _ _ _ _ _ _ _

theorem runRecord_reg (s : State) (f c a : Nat) : (s.runRecord f c).reg a = s.reg a := rfl

theorem tell_reg (s : State) (m : Rolent) (a : Nat) : (s.tell m).reg a = s.reg a := by
  unfold State.tell; split <;> rfl

/-- A role change leaves the other registers alone. -/
theorem setRole_reg (s : State) (r : Nat) {a : Nat} (ha : eventTouches a = false) (hr : a ≠ Reg.RDL_STAT) : (s.setRole r).reg a = s.reg a := by
  unfold State.setRole
  dsimp only
  split
  · rfl
  · rw [raise_reg _ (by decide) ha, tell_reg, reg_setFld_ne _ _ (by exact hr)]
    rfl

theorem setRole_fld (s : State) (r : Nat) {f : Field} (hf : f.addr = Reg.RDL_STAT) (hw : f.lo + f.width ≤ 32) (d : 3 ≤ f.lo) :
    (s.setRole r).fld f = s.fld f := by
  have ha : eventTouches f.addr = false := by rw [hf]; decide
  unfold State.setRole
  dsimp only
  split
  · rfl
  · rw [raise_fld _ (by decide) ha]
    have : ∀ (x : State) (m : Rolent), (x.tell m).fld f = x.fld f := fun x m => fld_of_reg (tell_reg x m _)
    rw [this, fld_setFld_other (g := Reg.RDL_STAT_ROLE) _ _ hw (Or.inl (by exact d))]
    rfl

theorem setRole_role (s : State) {r : Nat} (h : r < 8) : (s.setRole r).fld Reg.RDL_STAT_ROLE = r := by
  unfold State.setRole
  dsimp only
  split
  · assumption
  · rw [raise_fld _ (by decide) (by decide)]
    have : ∀ (x : State) (m : Rolent), (x.tell m).fld Reg.RDL_STAT_ROLE = x.fld Reg.RDL_STAT_ROLE := fun x m => fld_of_reg (tell_reg x m _)
    rw [this, fld_setFld_same _ _ _ (by decide)]
    exact Nat.mod_eq_of_lt h

theorem range4 : ∀ n ∈ List.range 4, n < 4 := by decide

/-! ### The unit's state of operation: an occurrence can only note that DOZE ends -/

/-- The CPM part is the same but for the wake-up that an occurrence has asked for. -/
def SameCpm (s t : State) : Prop := { t.cpm with waking := false } = { s.cpm with waking := false }

theorem SameCpm.refl (s : State) : SameCpm s s := rfl
theorem SameCpm.of_eq {s t : State} (h : t.cpm = s.cpm) : SameCpm s t := by unfold SameCpm; rw [h]
theorem SameCpm.trans {s t u : State} (h : SameCpm s t) (g : SameCpm t u) : SameCpm s u := Eq.trans g h
theorem SameCpm.phase {s t : State} (h : SameCpm s t) : t.cpm.phase = s.cpm.phase := by have := congrArg Cpm.phase h; exact this
theorem SameCpm.haltOnStop {s t : State} (h : SameCpm s t) : t.cpm.haltOnStop = s.cpm.haltOnStop := by have := congrArg Cpm.haltOnStop h; exact this

theorem bump_cpm (s : State) (c f : Field) : (s.bump c f).cpm = s.cpm := by unfold State.bump; split <;> rfl

theorem occur_same (s : State) (src lo hi : Nat) : SameCpm s (s.occur src lo hi) := by
  have hb : (s.bump (Reg.EVT_CNT_COUNT src) (Reg.EVT_CNT_SAT src)).cpm = s.cpm := bump_cpm s _ _
  unfold State.occur
  generalize s.bump (Reg.EVT_CNT_COUNT src) (Reg.EVT_CNT_SAT src) = x at hb ⊢
  dsimp only
  generalize hy : (x.setReg (Reg.EVT_INFO_LO src) (BitVec.ofNat 32 lo)).setReg (Reg.EVT_INFO_HI src) (BitVec.ofNat 32 hi) = y
  have hyc : y.cpm = s.cpm := by rw [← hy]; exact hb
  split
  · generalize hz : (y.setPending src true).setFlag (idleBit (y.fld (Reg.EVT_ROUTE_TARGET src))) false = z
    have hzc : z.cpm = s.cpm := by rw [← hz]; exact hyc
    split
    · unfold SameCpm
      show { z.cpm with waking := false } = _
      rw [hzc]
    · exact SameCpm.of_eq hzc
  · exact SameCpm.of_eq hyc

theorem recEntry_cpm (s : State) (c r lo hi t f : Nat) (l : Option Nat) : (s.recEntry c r lo hi t f l).1.cpm = s.cpm :=
  (State_recEntry_within1 (k := 4) rfl Within.refl).cpm_eq (by decide)

theorem recClaim_same (s : State) (c r lo hi t f : Nat) (l : Option Nat) : SameCpm s (s.recClaim c r lo hi t f l) := by
  unfold State.recClaim
  split
  · exact SameCpm.of_eq (recEntry_cpm s c r lo hi t f l)
  · have hb : (s.bump Reg.EVR_LOST_COUNT Reg.EVR_LOST_SAT).cpm = s.cpm := bump_cpm s _ _
    generalize s.bump Reg.EVR_LOST_COUNT Reg.EVR_LOST_SAT = x at hb ⊢
    dsimp only
    split
    · generalize hy : ({ x with evr := { x.evr with lost := some (1, r, r) } } : State) = y
      have hyc : y.cpm = s.cpm := by rw [← hy]; exact hb
      exact (SameCpm.of_eq hyc).trans (occur_same _ _ _ _)
    · exact SameCpm.of_eq hb

theorem raise_same (s : State) (src lo hi : Nat) : SameCpm s (s.raise src lo hi) := by
  unfold State.raise
  refine (occur_same s src lo hi).trans ?_
  unfold State.recEvent
  split
  · show SameCpm _ (if (s.occur src lo hi).recFree = true then _ else _)
    split
    · exact recClaim_same _ _ _ _ _ _ _ _
    · exact recClaim_same _ _ _ _ _ _ _ _
  · exact SameCpm.refl _

theorem recFirst_cpm (s : State) (c r lo hi : Nat) : (s.recFirst c r lo hi).cpm = s.cpm :=
  (State_recFirst_within (k := 1029) rfl Within.refl).cpm_eq (by decide)

theorem queAttn_same (s : State) (p q : Nat) : SameCpm s (s.queAttn p q) := by
  unfold State.queAttn
  generalize (if q < 32 then Reg.QUE_ATTN_LO p else Reg.QUE_ATTN_HI p) = x
  dsimp only
  by_cases h : s.flag ⟨x, q % 32, 1⟩ = true
  · rw [if_pos h]; exact SameCpm.refl _
  · rw [if_neg h]; exact SameCpm.trans (t := s.setFlag ⟨x, q % 32, 1⟩ true) (SameCpm.of_eq rfl) (raise_same _ _ _ _)

theorem doneEv_same (s : State) (q : Nat) (d : List Byte) : SameCpm s (s.doneEv q d) := by
  unfold State.doneEv
  split
  · exact queAttn_same _ _ _
  · exact SameCpm.refl _

theorem canQueueDone_same (s : State) (n c sof : Nat) : SameCpm s (s.canQueueDone n c sof) := by
  unfold State.canQueueDone
  split
  · exact SameCpm.refl _
  · dsimp only
    refine SameCpm.trans ?_ (doneEv_same _ _ _)
    apply SameCpm.of_eq
    split <;> rfl

theorem canTxFail_same (s : State) (n : Nat) (t : CanTx) (c : Nat) : SameCpm s (s.canTxFail n t c) := by
  unfold State.canTxFail
  split
  · exact SameCpm.refl _
  · dsimp only
    refine SameCpm.trans ?_ (raise_same _ _ _ _)
    apply SameCpm.of_eq
    rw [bump_cpm]
    rfl

theorem canShowPend_cpm (s : State) (n o : Nat) : (s.canShowPend n o).cpm = s.cpm := by
  unfold State.canShowPend
  split
  · rfl
  · rfl

theorem canFail_same (s : State) (n : Nat) (t : CanTx) (c sof : Nat) : SameCpm s (s.canFail n t c sof) := by
  unfold State.canFail
  dsimp only
  refine SameCpm.trans ?_ (SameCpm.of_eq (canShowPend_cpm _ _ _))
  split
  · refine SameCpm.trans ?_ (canQueueDone_same _ _ _ _)
    split
    · exact canTxFail_same _ _ _ _
    · exact SameCpm.refl _
  · split
    · exact canTxFail_same _ _ _ _
    · exact SameCpm.refl _

theorem canAbortBus_same (s : State) (n : Nat) : SameCpm s (s.canAbortBus n) := by
  unfold State.canAbortBus
  dsimp only
  split
  · exact SameCpm.refl _
  · exact SameCpm.trans (t := s.setCan n { s.canPort n with onBus := none }) (SameCpm.of_eq rfl) (canFail_same _ _ _ _ _)

theorem canRestrict_same (on : Bool) : ∀ (l : List Nat) (s : State), SameCpm s (s.canRestrict on l)
  | [], _ => SameCpm.refl _
  | n :: ns, s => by
    unfold State.canRestrict
    split
    · exact canRestrict_same on ns s
    · dsimp only
      refine SameCpm.trans ?_ (canRestrict_same on ns _)
      have h : SameCpm s (if on = true then s.canAbortBus n else s) := by
        split
        · exact canAbortBus_same _ _
        · exact SameCpm.refl _
      generalize (if on = true then s.canAbortBus n else s) = x at h ⊢
      exact h.trans (SameCpm.of_eq rfl)

/-- A stop of the station ends with the unit on its way to HALT and its role OFF with cause 5 (R467). -/
theorem stationStop_after (s : State) (rec src : Nat) :
    (s.stationStop rec src).cpm.haltOnStop = true ∧ (s.stationStop rec src).fld Reg.RDL_STAT_ROLE = 0 ∧
      (s.stationStop rec src).fld Reg.RDL_STAT_OFFCAUSE = 5 := by
  have ho : outsideCan Reg.RDL_STAT := by unfold outsideCan; decide
  have key : ∀ x : State, (∀ f : Field, f.addr = Reg.RDL_STAT →
      (((x.canRestrict true (List.range 4)).runRecord 3 (if rec = 0 then 2 else rec)).stopRecord src).fld f = x.fld f) := by
    intro x f hf
    apply fld_of_reg
    rw [hf, stopRecord_reg _ _ (by decide), runRecord_reg, canRestrict_reg true ho _ _ range4]
  unfold State.stationStop
  dsimp only
  refine ⟨?_, ?_, ?_⟩
  · show (State.recFirst _ _ _ _ _).cpm.haltOnStop = true
    rw [recFirst_cpm]
    exact (canRestrict_same true _ _).haltOnStop
  · rw [key _ _ rfl]
    exact setRole_role _ (by decide)
  · rw [key _ _ rfl]
    refine (setRole_fld _ 0 rfl (by decide) (by decide)).trans ?_
    rw [fld_setFld_same _ _ _ (by decide)]
    rfl

/-- A give-up ends with the unit on its way to HALT and its role OFF with cause 2 (R466). -/
theorem giveUp_after (s : State) (row rec src : Nat) (notice : Bool) :
    (s.giveUp row rec src notice).cpm.haltOnStop = true ∧ (s.giveUp row rec src notice).fld Reg.RDL_STAT_ROLE = 0 ∧
      (s.giveUp row rec src notice).fld Reg.RDL_STAT_OFFCAUSE = 2 := by
  have key : ∀ x : State, (∀ f : Field, f.addr = Reg.RDL_STAT →
      (((x.runRecord 3 (if rec = 0 then 3 else rec)).stopRecord src).raise 47 (Config.giveUpCode row).toNat 0).fld f = x.fld f) := by
    intro x f hf
    apply fld_of_reg
    rw [hf, raise_reg _ (by decide) (by decide), stopRecord_reg _ _ (by decide), runRecord_reg]
  unfold State.giveUp
  dsimp only
  refine ⟨?_, ?_, ?_⟩
  · refine (raise_same _ _ _ _).haltOnStop.trans ?_
    show (State.recFirst _ _ _ _ _).cpm.haltOnStop = true
    rw [recFirst_cpm]
    rfl
  · rw [key _ _ rfl]
    exact setRole_role _ (by decide)
  · rw [key _ _ rfl]
    refine (setRole_fld _ 0 rfl (by decide) (by decide)).trans ?_
    rw [fld_setFld_same _ _ _ (by decide)]
    rfl

theorem leavePair_halts (s : State) (rec src : Nat) : (s.leavePair rec src).cpm.haltOnStop = true := by
  unfold State.leavePair
  dsimp only
  show (State.recFirst _ _ _ _ _).cpm.haltOnStop = true
  rw [recFirst_cpm]
  rfl

/-- A fault of a unit that is not in RUN or DOZE has no reaction (R467). -/
theorem unitFault_idle (s : State) (row rec src : Nat) (notice : Bool) (h : s.cpm.phase ≠ .run) (g : s.cpm.phase ≠ .doze) :
    s.unitFault row rec src notice = s := by
  unfold State.unitFault
  rw [if_pos ⟨h, g⟩]

/-- A fault of a unit in RUN or DOZE takes it, or has already taken it, out of RUN (R467). -/
theorem unitFault_halts (s : State) (row rec src : Nat) (notice : Bool) (h : s.cpm.phase = .run ∨ s.cpm.phase = .doze) :
    (s.unitFault row rec src notice).cpm.haltOnStop = true := by
  have hn : ¬ (s.cpm.phase ≠ .run ∧ s.cpm.phase ≠ .doze) := by
    rintro ⟨a, b⟩; rcases h with h | h <;> contradiction
  unfold State.unitFault
  rw [if_neg hn]
  split
  · unfold State.stopRecord
    rw [recFirst_cpm]
    assumption
  · split
    · unfold State.loseControl
      split
      · exact (giveUp_after _ _ _ _ _).1
      · exact (stationStop_after _ _ _).1
    · exact leavePair_halts _ _ _

end Sys2Proof.Laws
end

