-- ==== Sys2Proof/WellFormed.lean ====
section
/-! DEFINITION. Which commands are well formed: operands that a connector, a link or a master can really present. A command whose operands are
bounded by their types alone is always well formed. The meanings do not rely on it: a command that is not well formed still has its effect. -/

namespace Sys2Proof

/-- An unsigned number of `n` bits. -/
def isU (n v : Nat) : Bool := decide (v < 2 ^ n)

/-- The address of a register word (R7, R97). -/
def regAddr (a : Nat) : Bool := decide (a % 4 = 0) && decide (0x40000000 ≤ a) && decide (a < 0x400F0000)

/-- Lengths of a KSAP datagram (R112), a station datagram (R374), an Ethernet frame (R424) and a HART frame (R329). -/
def ksapLen (f : List Byte) : Bool := decide (f.length ≤ 1472)
def udpLen (f : List Byte) : Bool := decide (f.length ≤ 1472)
def ethLen (f : List Byte) : Bool := decide (14 ≤ f.length) && decide (f.length ≤ 1536)
def hartLen (f : List Byte) : Bool := decide (f.length ≤ 282)

/-- An error met at an aligned word of a memory range. -/
def eccIn (e : Option (Nat × BitVec 8)) (lo hi : Nat) : Bool :=
  match e with
  | some (a, _) => decide (a % 8 = 0) && decide (lo ≤ a) && decide (a < hi)
  | none => true

def StartFindings.wf (f : StartFindings) : Bool :=
  eccIn f.storeEcc 0x20000000 0x205C0000 && eccIn f.bank0Ecc 0x205C0000 0x205D0000 && eccIn f.bank1Ecc 0x205D0000 0x205E0000

/-- A CAN frame (ISO 11898-1): identifier, length by format, and a bit-rate switch in FD frames alone. -/
def CanFrame.wf (x : CanFrame) : Bool :=
  isU (if x.ide then 29 else 11) x.id && (x.fd || !x.brs) &&
    (if x.fd then [0, 1, 2, 3, 4, 5, 6, 7, 8, 12, 16, 20, 24, 32, 48, 64].contains x.data.length else decide (x.data.length ≤ 8))

/-- A measurement within the range of the front end: ±327.67 V, and 24.0 mA. -/
def Meas.wf (m : Meas) : Bool := decide (-32768 ≤ m.vt) && decide (m.vt ≤ 32767) && decide (m.amp ≤ 240000)

/-- A port identity has 80 bits, a sequence number 16. -/
def PtpSync.wf (x : PtpSync) : Bool := isU 80 x.src && isU 16 x.seq
def PtpAnnounce.wf (a : PtpAnnounce) : Bool :=
  isU 80 a.src && isU 64 a.gm && isU 8 a.priority1 && isU 8 a.cls && isU 8 a.accuracy && isU 16 a.variance && isU 8 a.priority2 && isU 16 a.steps

/-- A change set: its SET_ID, and records of an index and a value. -/
def setWf (x : Nat × List (Nat × Nat)) : Bool := isU 32 x.1 && decide (x.2.length ≤ 64) && x.2.all (fun r => isU 16 r.1 && isU 64 r.2)

def TrickBufs.wf (b : TrickBufs) : Bool := isU 32 b.trick && b.appliedTrick.all (isU 32)
def StateItem.wf (x : StateItem) : Bool :=
  match x with
  | .lines space task _ _ => (decide (space = 2) || decide (space = 4)) && decide (task ≤ 8)
  | .bufs task b => decide (task ≤ 8) && b.wf
  | .slot n bytes => decide (n < 1024) && decide (bytes.length ≤ 256)
  | .station x => isU 8 x.num
  | .esc x => isU 8 x.num
  | .can port _ => decide (port < 4)
  | .journal bytes => decide (bytes.length ≤ 29312)
def InputMsg.wf (m : InputMsg) : Bool := decide (m.task ≤ 8) && isU 32 m.trick && m.sets.all setWf
def RepairMsg.wf (m : RepairMsg) : Bool := (decide (m.task ≤ 8) || decide (m.task = 10)) && m.bufs.wf

/-- Well-formed commands. -/
def Instr.wf (i : Instr) : Bool :=
  match i with
  | .startup f => f.wf
  | .supplyReturn _ pct => decide (pct ≤ 100)
  | .channelRound _ _ _ ms => decide (ms.length ≤ 64) && ms.all Meas.wf
  | .fiEdge _ _ t => isU 32 t
  | .hartResponseEnd _ _ frame t => hartLen frame && isU 32 t
  | .hartListenFrame _ frame t => hartLen frame && isU 32 t
  | .hartBurstFrame _ frame t => hartLen frame && isU 32 t
  | .ecxInFrame _ frame => udpLen frame
  | .ecxCfgAck _ frame => udpLen frame
  | .canFrameReceived _ x _ _ _ => x.wf
  | .ethFrameReceived _ frame _ _ _ => ethLen frame
  | .ptpSync x => x.wf
  | .ptpAnnounce a => a.wf
  | .lockstepMismatch lanes _ => decide (lanes ≠ 0)
  | .scrubRead addr _ _ => decide (addr % 8 = 0) && decide (addr < 0x1800000)
  | .mramScrubRead addr _ pct => decide (addr % 8 = 0) && decide (0x20000000 ≤ addr) && decide (addr < 0x20800000) && decide (pct ≤ 100)
  | .hdpBurstDone _ good => decide (good ≤ 256)
  | .hello _ ip frame => isU 32 ip && ksapLen frame
  | .auth _ ip frame => isU 32 ip && ksapLen frame
  | .readMem _ ip frame _ good => isU 32 ip && ksapLen frame && decide (good ≤ 1024)
  | .writeMem _ ip frame _ good => isU 32 ip && ksapLen frame && decide (good ≤ 1024)
  | .statusReq _ ip frame => isU 32 ip && ksapLen frame
  | .imageBegin _ ip frame => isU 32 ip && ksapLen frame
  | .imageData _ ip frame => isU 32 ip && ksapLen frame
  | .imageEnd _ ip frame e => isU 32 ip && ksapLen frame && eccIn e 0x20000000 0x205C0000
  | .changeSet _ ip frame => isU 32 ip && ksapLen frame
  | .changeSwapRequest _ ip frame phase _ => isU 32 ip && ksapLen frame && decide (phase ≤ 5)
  | .changeSwapCancel _ ip frame => isU 32 ip && ksapLen frame
  | .confirmReq _ ip frame => isU 32 ip && ksapLen frame
  | .otpProgram _ ip frame => isU 32 ip && ksapLen frame
  | .otpRevoke _ ip frame => isU 32 ip && ksapLen frame
  | .closeSession _ ip frame => isU 32 ip && ksapLen frame
  | .ksapSessionTimeout sid => isU 32 sid
  | .quePush _ _ addr => isU 32 addr && decide (addr % 16 = 0)
  | .lckAcquire _ ms => ms.all Master.isPair
  | .rcFieldRead _ addr => regAddr addr
  | .latchedLowWordRead _ addr => regAddr addr
  | .registerWrite _ addr _ => regAddr addr
  | .negotiate pos build safeChk _ => decide (pos ≤ 1) && isU 32 build && isU 32 safeChk
  | .giveUp cause tricks _ => isU 8 cause && tricks.all (isU 32)
  | .roleMsg role _ => decide (role ≤ 4)
  | .roleSend peak => isU 16 peak
  | .inputTrick m => m.wf
  | .digestMsg task trick digest => decide (task ≤ 10) && isU 32 trick && isU 64 digest
  | .loopin _ vals => vals.all (fun v => isU 64 v.2.1 && isU 8 v.2.2)
  | .repairReq task => decide (task ≤ 10)
  | .joinReq build safeChk _ => isU 32 build && isU 32 safeChk
  | .joinAck build safeChk _ _ => isU 32 build && isU 32 safeChk
  | .stateLines items => items.all StateItem.wf
  | .cutOver task trick items => decide (task ≤ 10) && isU 32 trick && items.all StateItem.wf
  | .repairMsg m => m.wf
  | .fstate cycle sets items => isU 32 cycle && sets.all setWf && items.all StateItem.wf
  | .imageBytes offset bytes e => decide (offset % 1024 = 0) && decide (offset < 6000000) && decide (bytes.length ≤ 1024) && eccIn e 0x20000000 0x205C0000
  | .ptpFollowUp src seq _ _ => isU 80 src && isU 16 seq
  | .ptpDelayResp src seq _ _ => isU 80 src && isU 16 seq
  | .startWaitEnd _ | .negotiateTimeout | .negotiateIndeterminateTimeout | .supplyLow _ | .supplyOver _ | .supplyFail _ _ 
  | .slotCodeChange _ | .hoInputAccept _ _ | .hoIndeterminate _ | .takeoverAssertTake | .ioscTrim _ | .xt32Check _ | .fmStart _ _ 
  | .fmDone _ | .refLoss | .alwaysOnSave | .cpmRestart _ _ | .haltReq _ _ | .clkdivWrite _ _ | .pairIdleEnter _ | .dozeEnter | .dozeWake 
  | .x6LinkEnergy | .taskRelease _ | .latchComplete _ | .trickApply _ | .taskOverrun _ | .fCycleStart | .fWatchdogExpiry | .retainSnapshot 
  | .viewOpen _ _ _ | .viewClose _ _ _ | .viewDataRead _ _ | .endWord _ | .jmp _ | .jmpc _ | .jmpcn _ | .move _ | .conv _ | .logAnd _ 
  | .logOr _ | .logXor _ | .logNot _ | .addBlock _ | .subBlock _ | .mulBlock _ | .divide _ | .modulo _ | .negBlock _ | .absBlock _ 
  | .cmpEq _ | .cmpNe _ | .cmpLt _ | .cmpLe _ | .cmpGt _ | .cmpGe _ | .sel _ | .mux _ | .maximum _ | .minimum _ | .limitBlock _ | .ramp _ 
  | .roc _ | .ton _ | .tof _ | .tpTimer _ | .ctu _ | .ctd _ | .ctud _ | .rTrig _ | .fTrig _ | .sr _ | .rs _ | .qget _ | .qset _ | .qok _ 
  | .sand _ | .sor _ | .sval _ | .sge _ | .restartBlock _ | .loopWindow | .loopDeposit | .ppGo _ _ | .ppLockAcquired | .rgndataRead _ 
  | .lplusStateChange _ | .diSampleWindow _ _ _ | .doShortSwitchoff _ _ | .doRestartAttempt _ | .doOpenLoad _ | .doForeignVoltage _ 
  | .groupOverload _ | .protectiveStateEnter _ | .protectiveStateExit _ | .keepSend | .rimOutFrame _ | .rimKeepFrame _ | .rimCtrlFrame 
  | .rimBulkFrame | .rimCfgFrame | .rimSafeFrame | .rimHoFrame | .rimInFrame _ | .rimCtrlInFrame | .rimLoss | .rimRecoveryTimeout 
  | .fieldEntryApply _ | .safeStateWatchdogExpiry | .safeReq _ _ | .safeRel _ _ | .fieldRestart _ | .chClear | .groupMode | .groupModeApply 
  | .runGrant | .modeDone | .fieldStarted | .txsLimit _ | .txsRestart _ | .aoComplAlarm _ | .aoOpen _ | .trimDrive _ _ _ | .trimCommit _ _ _ 
  | .trimEnd _ _ _ | .trimClear _ _ _ | .trimTimeout | .hartTransmitStart _ | .hartNoResponse _ | .hartRecordPush | .hartRecordDiscard 
  | .hartScanDue _ | .hartCancel | .hartScan | .testPulseStart _ | .tsCheck _ _ | .tsRestart _ | .tpJudgement | .sinDiscrepancy _ 
  | .anDisc _ | .spdDisc _ | .offPulse _ | .offPulseCheck _ _ | .fbCheck _ | .safArm | .armDone | .safReset | .resetDone 
  | .confirmWindowExpiry | .ecxCfgResend _ | .escWatchdogExpiry _ | .canHpPop _ _ | .canTxStart _ | .canTxEnd _ _ | .canRecover _ _ _ 
  | .canBusOn _ | .ttcanReference _ _ | .ttcanWindow _ _ _ | .ttcanSyncLoss _ | .ethLinkChange _ _ | .mrpTopologyChange 
  | .ptpAnnounceTimeout | .ptpSyncTimeout | .ptpAddendWrite _ _ | .ptpStep _ _ | .cacheParityError _ | .cmpPairRestart _ _ _ 
  | .pair0AutoRestart _ | .domainReset _ | .hdpDataRead _ _ | .hdpDataWrite _ _ _ | .hdpBurstGo _ _ | .swapPrepared | .swapLoadInstant 
  | .carryComplete | .evtSwtrig _ _ | .evtClaim _ _ | .queRound _ | .queRel _ _ | .queCfgWrite _ _ _ _ | .mbxPost _ _ _ | .mbxTake _ _ 
  | .mbxTimeout _ | .lckRelease _ _ _ | .lckHdpreq _ _ | .lckHdprel _ _ | .lckHoldExpiry _ | .stopNotice _ | .timeMsg _ _ | .swapProp _ _ 
  | .swapAck _ _ | .swapCancel _ | .digestLate | .joinCutOver _ | .joinRetry | .rolentLaneLoss _ | .rolentLinkLoss | .rolentRejoin 
  | .rejoin _ _ | .giveControl _ _ | .swapNow _ _ | .plannedSwapDue | .swapOverlapStart | .plannedSwapInstant | .swapAssertTake 
  | .hoPulseTest _ _ | .autoRestart | .recordWrite _ | .evrArm _ _ | .evrClear _ _ | .evrClearEnd | .evrSwrec _ _ | .evrWinRead _ _ 
  | .pnlUpdate _ _ | .pnlFull _ _ | .pnlUpdateStart | .pnlRailFail | .pnlFrame | .pnlUpdateCommit | .pnlTempMeasure _ | .pnlCrcCheck 
  | .pnlRecovery | .pnlFbdataAccess _ _ | .keyDown | .keyRelease _ | .storeShutdownLevel | .supplyNormal _ | .dozePllLock | .giveUpNoticeTd 
  | .swapGroupModePost | .testPulseEnd _ _ | .offPulseEnd _ | .fieldRestartComplete | .rolentCrcFail _ | .rolentLaneUp _ 
  | .canReceiveError _ _ _ | .ptpDelayReqSend _ _ | .ptpSyncSend _ | .ptpAnnounceSend => true

end Sys2Proof
end

