-- ==== Sys2Proof/Tests/Slice0.lean ====
section
/-! SUPPORT. Tests: the checks of WellFormed, single steps, and witnesses of the statements' hypotheses. -/

namespace Sys2Proof.Tests

theorem test_wf_registerWrite_unaligned : (Instr.registerWrite .pair0 0x40000001 0).wf = false := by decide

end Sys2Proof.Tests
end

/-! Block code (08): the counters (R232), the edge detectors and bistables (R233) and the restart interlock (R347). Each block is first
evaluated over the list of its inputs; `runBlock_wroteAll` then gives what its instruction does. -/

namespace Sys2Proof.Proofs
open Sys2Proof Sys2Proof.Machine Sys2Proof.Laws

/-! ### Edges against a stored input -/

/-- On first use the stored previous input equals the present one, so only an area used before sees a rising edge (R207). -/
theorem rising_of_stored (x used prev : Bool) : (x && !(if used then prev else x)) = (x && used && !prev) := by
  cases used
  · simp
  · simp

/-- The same for a falling edge. -/
theorem falling_of_stored (x used prev : Bool) : ((if used then prev else x) && !x) = (!x && (used && prev)) := by
  cases used
  · simp
  · simp [Bool.and_comm]

/-- A condition `a ∧ ¬ b` of a block, as one truth value. -/
theorem true_and_not_iff (a b : Bool) : (a = true ∧ ¬ b = true) ↔ (a && !b) = true := by
  simp

/-- What an instruction answers whose block writes its area and then its outputs, once the inputs of its call are read. -/
theorem next_runBlock_wroteAll {s : State} {c op : Nat} {k : Call} {f : Call → State → State} {ins outs : List Opnd} {bs : List Byte}
    {es : List El} (h : s.callsInst c op k ins outs)
    (hf : s.ins c k ins.length = ins.map (fun o => s.readEl c o) → f k s = (s.instWrite c (8 * k.inst) bs).outs c k ins.length es)
    (hl : es.length = outs.length) : (Host.Outcome.next (runBlock c op f s) : Result) = .next (s.wroteAll c k bs (outs.zip es)) :=
  congrArg _ (runBlock_wroteAll h (hf (ins_callsInst h)) hl)

/-! ### Counters (R232) -/

theorem ctuBlock_eq {c : Nat} {k : Call} {s : State} {u r p : El} (h : s.ins c k 3 = [u, r, p]) :
    let fl := s.instFlags c k.area
    let x := s.counterAt c k.area
    let y := if isTrue r.v then ⟨0, false⟩ else if isTrue u.v && bit fl 0 && !bit fl 1 then countUp k.ty x else x
    ctuBlock c k s = (s.instWrite c k.area (instCounter (isTrue u.v) false y)).outs c k 3
      [⟨boolVal (decide (tyInt k.ty p.v ≤ y.cv)), qWorst (quals [u, r, p])⟩, ⟨tyOfInt k.ty y.cv, qWorst (quals [u, r, p])⟩,
        ⟨boolVal y.ovf, qWorst (quals [u, r, p])⟩] := by
  simp only [ctuBlock, h, true_and_not_iff, rising_of_stored]
  rfl

theorem ctdBlock_eq {c : Nat} {k : Call} {s : State} {d l p : El} (h : s.ins c k 3 = [d, l, p]) :
    let fl := s.instFlags c k.area
    let x := s.counterAt c k.area
    let y := if isTrue l.v then ⟨tyInt k.ty p.v, false⟩ else if isTrue d.v && bit fl 0 && !bit fl 2 then countDown k.ty x else x
    ctdBlock c k s = (s.instWrite c k.area (instCounter false (isTrue d.v) y)).outs c k 3
      [⟨boolVal (decide (y.cv ≤ 0)), qWorst (quals [d, l, p])⟩, ⟨tyOfInt k.ty y.cv, qWorst (quals [d, l, p])⟩,
        ⟨boolVal y.ovf, qWorst (quals [d, l, p])⟩] := by
  simp only [ctdBlock, h, true_and_not_iff, rising_of_stored]
  rfl

theorem ctudBlock_eq {c : Nat} {k : Call} {s : State} {u d r l p : El} (h : s.ins c k 5 = [u, d, r, l, p]) :
    let fl := s.instFlags c k.area
    let x := s.counterAt c k.area
    let eu := isTrue u.v && bit fl 0 && !bit fl 1
    let ed := isTrue d.v && bit fl 0 && !bit fl 2
    let y := if isTrue r.v then ⟨0, false⟩ else if isTrue l.v then ⟨tyInt k.ty p.v, false⟩
      else if eu && !ed then countUp k.ty x else if ed && !eu then countDown k.ty x else x
    ctudBlock c k s = (s.instWrite c k.area (instCounter (isTrue u.v) (isTrue d.v) y)).outs c k 5
      [⟨boolVal (decide (tyInt k.ty p.v ≤ y.cv)), qWorst (quals [u, d, r, l, p])⟩,
        ⟨boolVal (decide (y.cv ≤ 0)), qWorst (quals [u, d, r, l, p])⟩, ⟨tyOfInt k.ty y.cv, qWorst (quals [u, d, r, l, p])⟩,
        ⟨boolVal y.ovf, qWorst (quals [u, d, r, l, p])⟩] := by
  simp only [ctudBlock, h, true_and_not_iff, rising_of_stored]
  rfl

/-- Settles O8: each counter, evaluated over its inputs, writes its area once and then its outputs. -/
theorem counterBlocks : Obligations.CounterBlocks := by
  unfold Obligations.CounterBlocks
  intro c s k u d r l p q1 q2 v o
  refine ⟨fun h => ?ctu, fun h => ?ctd, fun h => ?ctud⟩
  case ctu => exact next_runBlock_wroteAll h ctuBlock_eq rfl
  case ctd => exact next_runBlock_wroteAll h ctdBlock_eq rfl
  case ctud => exact next_runBlock_wroteAll h ctudBlock_eq rfl

/-! ### Edge detectors, bistables and the restart interlock (R233, R347) -/

theorem trigBlock_eq {c : Nat} {k : Call} {s : State} {f : Bool → Bool → Bool} {a : El} (h : s.ins c k 1 = [a]) :
    let fl := s.instFlags c k.area
    trigBlock c f k s = (s.instWrite c k.area (leBytes 8 (1 + 2 * b2n (isTrue a.v)))).outs c k 1
      [⟨boolVal (f (isTrue a.v) (if bit fl 0 then bit fl 1 else isTrue a.v)), a.q⟩] := by
  unfold trigBlock
  rw [h]
  rfl

theorem bistable_eq {c : Nat} {k : Call} {s : State} {f : Bool → Bool → Bool → Bool} {a b : El} (h : s.ins c k 2 = [a, b]) :
    let fl := s.instFlags c k.area
    let q1 := f (isTrue a.v) (isTrue b.v) (bit fl 0 && bit fl 1)
    bistable c f k s = (s.instWrite c k.area (leBytes 8 (1 + 2 * b2n q1))).outs c k 2 [⟨boolVal q1, qWorst (quals [a, b])⟩] := by
  unfold bistable
  rw [h]
  rfl

theorem restartInterlock_eq {c : Nat} {k : Call} {s : State} {a b : El} (h : s.ins c k 2 = [a, b]) :
    let fl := s.instFlags c k.area
    let en := safeTrue a && ((bit fl 0 && bit fl 2) || (safeTrue b && bit fl 0 && !bit fl 1))
    restartInterlock c k s = (s.instWrite c k.area (leBytes 8 (1 + 2 * b2n (safeTrue b) + 4 * b2n en))).outs c k 2
      [⟨boolVal en, qGood⟩] := by
  simp only [restartInterlock, h, rising_of_stored]
  rfl

/-- Settles O9: the stored input of each edge detector, the stored output of each bistable, and RESTART's stored RST and enable decide the
one output. -/
theorem edgeAndBistableBlocks : Obligations.EdgeAndBistableBlocks := by
  unfold Obligations.EdgeAndBistableBlocks
  intro c s k a b q
  refine ⟨fun h => ?rTrig, fun h => ?fTrig, fun h => ?sr, fun h => ?rs, fun h => ?restart⟩
  case rTrig =>
    rw [← rising_of_stored]
    exact next_runBlock_wroteAll h trigBlock_eq rfl
  case fTrig =>
    rw [← falling_of_stored]
    exact next_runBlock_wroteAll h trigBlock_eq rfl
  case sr => exact next_runBlock_wroteAll h bistable_eq rfl
  case rs => exact next_runBlock_wroteAll h bistable_eq rfl
  case restart => exact next_runBlock_wroteAll h restartInterlock_eq rfl

/-! ### Witnesses: states whose next call is such a block -/

/-- Task 0 executes code of these words, over a V space with these bytes listed. -/
def runningCode (words : List Nat) (v : List Host.Cell) : State :=
  { State.reset with
    img := some { build := 0, safeChk := 0, nSections := 1, sections := [(tyCode, words.flatMap (leBytes 4))], kEdits := [] },
    tasks := State.reset.tasks.set 0 { Task.reset with executing := true, v := v } }

/-- An immediate BOOL or INT16 input, and a BOOL or INT16 output in Q. -/
def immOpnd (ty v : Nat) : Opnd := ⟨6, false, ty, v⟩
def qOpnd (ty off : Nat) : Opnd := ⟨1, false, ty, off⟩

/-- CTU in INT16 with CU TRUE, R FALSE and PV 5, on an area with USED set, PREV_CU clear and a CV of 32767. -/
def ctuCall : Call := ⟨0x48, 6, 2, 0, [immOpnd 1 1, immOpnd 1 0, immOpnd 2 5, qOpnd 1 0, qOpnd 2 4, qOpnd 1 8]⟩
def ctuAtMax : State :=
  runningCode [0x48620000, 0xC1000001, 0xC1000000, 0xC2000005, 0x21000000, 0x22000004, 0x21000008] [(0, 1), (4, 0xFF), (5, 0x7F)]

theorem ctuAtMax_callsInst : ctuAtMax.callsInst 0 0x48 ctuCall [immOpnd 1 1, immOpnd 1 0, immOpnd 2 5] [qOpnd 1 0, qOpnd 2 4, qOpnd 1 8] := by
  refine ⟨?_, rfl, rfl⟩
  decide

/-- The counter of `counterBlocks` at its limit: an edge leaves CV at 32767 and sets OVF. -/
theorem ctuAtMax_sets_ovf : exec (.ctu 0) ctuAtMax = .next (ctuAtMax.wroteAll 0 ctuCall (instCounter true false ⟨32767, true⟩)
    [(qOpnd 1 0, ⟨1, qGood⟩), (qOpnd 2 4, ⟨32767, qGood⟩), (qOpnd 1 8, ⟨1, qGood⟩)]) := by
  refine ((counterBlocks 0 ctuAtMax ctuCall (immOpnd 1 1) (immOpnd 1 0) (immOpnd 1 0) (immOpnd 1 0) (immOpnd 2 5)
    (qOpnd 1 0) (qOpnd 1 0) (qOpnd 2 4) (qOpnd 1 8)).1 ctuAtMax_callsInst).trans ?_
  rfl

/-- RESTART with PERMIT and RST TRUE, on an area with USED set and PREV_RST and EN clear. -/
def restartCall : Call := ⟨0x88, 3, 0, 0, [immOpnd 1 1, immOpnd 1 1, qOpnd 1 0]⟩
def restartRising : State := runningCode [0x88300000, 0xC1000001, 0xC1000001, 0x21000000] [(0, 1)]

theorem restartRising_callsInst : restartRising.callsInst 0 0x88 restartCall [immOpnd 1 1, immOpnd 1 1] [qOpnd 1 0] := by
  refine ⟨?_, rfl, rfl⟩
  decide

/-- The interlock of `edgeAndBistableBlocks` enables on a rising RST while PERMIT counts TRUE. -/
theorem restartRising_enables : exec (.restartBlock 0) restartRising =
    .next (restartRising.wroteAll 0 restartCall (leBytes 8 7) [(qOpnd 1 0, ⟨1, qGood⟩)]) := by
  refine ((edgeAndBistableBlocks 0 restartRising restartCall (immOpnd 1 1) (immOpnd 1 1) (qOpnd 1 0)).2.2.2.2
    restartRising_callsInst).trans ?_
  rfl

end Sys2Proof.Proofs

/-! The machine as a whole: one step (R7 and assumption 1), what reset leaves, the form every step keeps, and what commands leave alone. -/

namespace Sys2Proof.Proofs
open Sys2Proof Sys2Proof.Machine Sys2Proof.Laws

/-! ### One step -/

theorem cycles_mono (s : State) (n : Nat) : (s.cycles n).mono = s.mono + 10 * n := by
  unfold State.cycles
  split <;> rfl

/-- While the time base is locked, `n` cycles add `n` addends to the time counter and its fraction (R431). -/
theorem cycles_time (s : State) (n : Nat) (h : s.flag Reg.CPM_STAT_TB_LOCK = true) :
    2 ^ 28 * (s.cycles n).now + (s.cycles n).frac = 2 ^ 28 * s.now + s.frac + n * s.fld Reg.PTP_ADDEND_ADDEND := by
  unfold State.cycles
  rw [if_pos h]
  dsimp only
  have := Nat.div_add_mod (s.frac + n * s.fld Reg.PTP_ADDEND_ADDEND) (2 ^ 28)
  omega

/-- A step on an empty queue changes the clocks alone. -/
theorem cycles_within (s : State) (n : Nat) : Within 56 s (s.cycles n) := State_cycles_within rfl Within.refl

/-- Settles O57: the front command with the queue's rest, or one cycle of the time base. -/
theorem frontCommand : Obligations.FrontCommand := by
  unfold Obligations.FrontCommand
  intro s c rest n w
  refine ⟨fun h => ?front, fun h => ⟨s.cycles 1, ?step, cycles_mono s 1, ?_, ?_, ?_, fun hl => ?time⟩, rfl, rfl⟩
  case front => unfold step; rw [h]
  case step => unfold step; rw [h]
  case time => rw [cycles_time s 1 hl, Nat.one_mul]
  · exact (cycles_within s 1).pending_eq.trans h
  · exact (cycles_within s 1).regs_eq (by decide)
  · exact (cycles_within s 1).mem_eq (by decide)

/-! ### Reset -/

theorem regReset_EVT_ROUTE : ∀ n : Fin 256, regReset (Reg.EVT_ROUTE n) = 3 := by decide +kernel

theorem regReset_EVT_CNT : ∀ n : Fin 256, regReset (Reg.EVT_CNT n) = 0 := by decide +kernel

/-- Settles O58: every register at its map's reset value, and nothing listed. -/
theorem resetState : Obligations.ResetState := by
  unfold Obligations.ResetState
  refine ⟨fun n => ⟨?target, ?enabled, ?count⟩, ?_⟩
  case target => exact (congrArg (wordField · 0 2) (regReset_EVT_ROUTE n)).trans (by decide)
  case enabled => exact (congrArg (fun w => decide (wordField w 8 1 = 1)) (regReset_EVT_ROUTE n)).trans (by decide)
  case count => exact (congrArg (wordField · 0 8) (regReset_EVT_CNT n)).trans (by decide)
  refine ⟨by decide, by decide, by decide, by decide, by decide, by decide, by decide, by decide, by decide, rfl, rfl, rfl, rfl, rfl, rfl, ?_⟩
  exact ⟨rfl, rfl, rfl, rfl, rfl⟩

/-! ### The form every step keeps -/

/-- A step works on the queue's rest; what a command does to anything else stays within its parts. -/
theorem step_within {s t : State} (h : step s = .next t) : ∃ k, Within k { s with pending := s.pending.tail } t := by
  unfold step at h
  split at h
  case h_1 hp =>
    cases h
    refine ⟨56, ?_⟩
    have hs : ({ s with pending := s.pending.tail } : State) = s := by rw [show s.pending.tail = s.pending by rw [hp]; rfl]
    rw [hs]
    exact cycles_within s 1
  case h_2 c rest hp =>
    rw [hp]
    exact ⟨partsOf c, exec_within c _ t h⟩

/-- Settles O59: each command's `Within` carries the canonical forms, the sizes and the monotone parts. -/
theorem stepKeepsTheMachine : Obligations.StepKeepsTheMachine := by
  unfold Obligations.StepKeepsTheMachine
  intro s t h hmem hregs hsized
  obtain ⟨k, w⟩ := step_within h
  exact ⟨w.mem hmem, w.regs hregs, w.sized hsized, w.mono, w.outbox, w.pending_eq⟩

/-! ### What commands leave alone -/

/-- The parts a command of the field side can change: the field half, the frames of both directions, mailboxes, what it sends, and time. -/
def fieldParts : Nat := 240534949944

theorem parts_of_onField (i : Instr) : i.onField = true → partsOf i &&& fieldParts = partsOf i := by
  cases i <;> delta Instr.onField partsOf <;> simp only [Bool.false_eq_true, false_implies, forall_const] <;> decide

theorem parts_of_not_mayStore (i : Instr) : i.mayStore = false → (partsOf i).testBit 1 = false := by
  cases i <;> delta Instr.mayStore partsOf <;>
    simp only [Bool.true_eq_false, false_implies, Nat.testBit_eq_decide_div_mod_eq, Nat.reducePow, Nat.reduceDiv, Nat.reduceMod, Nat.reduceEqDiff, decide_false, implies_true]

/-- A change within the parts of the field side. -/
theorem eq_of_within_fieldParts {s t : State} (w : Within fieldParts s t) :
    t = { s with field := t.field, toField := t.toField, toHost := t.toHost, outbox := t.outbox, mbx := t.mbx, now := t.now, frac := t.frac,
                 mono := t.mono } := by
  have h := w.same.symm
  cases s
  cases t
  simp only [blank, fieldParts, State.mk.injEq] at h ⊢
  simpa [Nat.testBit_eq_decide_div_mod_eq] using h

/-- A call word's effect: nothing but the record of its own task (R222). -/
def OwnTask (c : Nat) (s t : State) : Prop :=
  t = { s with tasks := t.tasks } ∧ t.tasks.length = s.tasks.length ∧ ∀ d, d ≠ c → t.task d = s.task d

theorem OwnTask.refl (c : Nat) (s : State) : OwnTask c s s := ⟨rfl, rfl, fun _ _ => rfl⟩

theorem OwnTask.trans {c : Nat} {s t u : State} (h : OwnTask c s t) (g : OwnTask c t u) : OwnTask c s u := by
  obtain ⟨h1, h2, h3⟩ := h
  obtain ⟨g1, g2, g3⟩ := g
  refine ⟨?_, g2.trans h2, fun d hd => (g3 d hd).trans (h3 d hd)⟩
  rw [g1, h1]

theorem OwnTask.setTask (c : Nat) (s : State) (t : Task) : OwnTask c s (s.setTask c t) :=
  ⟨rfl, by simp [State.setTask], fun _ hd => task_setTask_ne s t hd⟩

theorem OwnTask.writeEl (c : Nat) (s : State) (o : Opnd) (e : El) : OwnTask c s (s.writeEl c o e) := by
  unfold State.writeEl
  split
  · exact OwnTask.setTask c s _
  · exact OwnTask.setTask c s _
  · exact OwnTask.setTask c s _
  · exact OwnTask.setTask c s _
  · exact OwnTask.refl c s

theorem OwnTask.writeAll (c : Nat) : ∀ (os : List Opnd) (es : List El) (s : State), OwnTask c s (s.writeAll c os es)
  | [], _, s => OwnTask.refl c s
  | _ :: _, [], s => OwnTask.refl c s
  | o :: os, e :: es, s => (OwnTask.writeEl c s o e).trans (OwnTask.writeAll c os es _)

theorem OwnTask.outs (c : Nat) (k : Call) (n : Nat) (es : List El) (s : State) : OwnTask c s (s.outs c k n es) := OwnTask.writeAll c _ es s

theorem OwnTask.instWrite_outs (c a : Nat) (k : Call) (n : Nat) (bs : List Byte) (es : List El) (s : State) :
    OwnTask c s ((s.instWrite c a bs).outs c k n es) := (OwnTask.setTask c s _).trans (OwnTask.outs c k n es _)

/-- A block whose effect is its task's alone, run as a call. -/
theorem OwnTask.runBlock {c op : Nat} {f : Call → State → State} (hf : ∀ k s, OwnTask c s (f k s)) (s : State) :
    OwnTask c s (runBlock c op f s) := by
  unfold Machine.runBlock
  split
  · exact (hf _ s).trans (OwnTask.setTask c _ _)
  · exact OwnTask.refl c s

theorem OwnTask.runPure (c op : Nat) (f : Call → List El → El) (s : State) : OwnTask c s (runPure c op f s) :=
  OwnTask.runBlock (fun k s => OwnTask.outs c k _ _ s) s

theorem OwnTask.runJump (c op : Nat) (cond : State → Call → Bool) (s : State) : OwnTask c s (runJump c op cond s) := by
  unfold Machine.runJump
  split
  · exact OwnTask.setTask c s _
  · exact OwnTask.refl c s

theorem OwnTask.rocBlock (c : Nat) (k : Call) (s : State) : OwnTask c s (rocBlock c k s) := by
  unfold Machine.rocBlock
  dsimp only
  split
  · exact OwnTask.instWrite_outs c _ k _ _ _ s
  · split
    · exact OwnTask.refl c s
    · exact OwnTask.instWrite_outs c _ k _ _ _ s

/-- Every call word's effect is its own task's (R222). -/
theorem exec_ownTask {i : Instr} {c : Fin 9} (hi : i.callOf = some c) (s : State) : ∃ t, exec i s = .next t ∧ OwnTask c s t := by
  cases i <;> simp only [Instr.callOf, Option.some.injEq, reduceCtorEq] at hi <;> subst hi
  case jmp c => exact ⟨_, rfl, OwnTask.runJump ..⟩
  case jmpc c => exact ⟨_, rfl, OwnTask.runJump ..⟩
  case jmpcn c => exact ⟨_, rfl, OwnTask.runJump ..⟩
  case limitBlock c => exact ⟨_, rfl, OwnTask.runBlock (fun k s => OwnTask.outs c k _ _ s) s⟩
  case roc c => exact ⟨_, rfl, OwnTask.runBlock (OwnTask.rocBlock c) s⟩
  case ramp c | ton c | tof c | tpTimer c | ctu c | ctd c | ctud c | rTrig c | fTrig c | sr c | rs c | restartBlock c =>
    exact ⟨_, rfl, OwnTask.runBlock (fun k s => OwnTask.instWrite_outs c _ k _ _ _ s) s⟩
  all_goals exact ⟨_, rfl, OwnTask.runPure ..⟩

/-- Settles O60: a call word by its blocks, the other frames by the command's parts. -/
theorem whatCommandsLeaveAlone : Obligations.WhatCommandsLeaveAlone := by
  unfold Obligations.WhatCommandsLeaveAlone
  intro i s t c h
  refine ⟨fun hi => ?call, fun hi => ?field, fun hi a => ?store⟩
  case call =>
    obtain ⟨u, hu, own⟩ := exec_ownTask hi s
    have htu : u = t := Host.Outcome.next.inj (hu.symm.trans h)
    exact htu ▸ own
  case field =>
    have w := (exec_within i s t h).mono_mask (parts_of_onField i hi)
    exact ⟨w.regs_eq (by decide), w.mem_eq (by decide), w.tasks_eq (by decide), w.pending_eq, eq_of_within_fieldParts w⟩
  case store =>
    unfold State.byte
    rw [(exec_within i s t h).mem_eq (parts_of_not_mayStore i hi)]

end Sys2Proof.Proofs

/-! Block code (08): jumps, moves, logic, arithmetic, comparison, selection and the safety blocks (R222 to R228, R346). Each block is first
evaluated over the list of its inputs; `runPure_wroteQ` gives what its instruction does. -/

namespace Sys2Proof.Proofs
open Sys2Proof Sys2Proof.Machine Sys2Proof.Laws

/-- What an instruction answers whose block of one output in Q computes `e` from the inputs of its call. -/
theorem next_runPure_wroteQ {s : State} {c op : Nat} {k : Call} {f : Call → List El → El} {ins : List Opnd} {o : Opnd} {e : El}
    (h : s.callsQ c op k ins o) (he : f k (ins.map (fun a => s.readEl c a)) = e) :
    (Host.Outcome.next (runPure c op f s) : Result) = .next (s.wroteQ c k o e) := by
  rw [runPure_wroteQ h, he]

/-- The worst quality of operands is that of their elements. -/
theorem worst_eq_qWorst_quals (s : State) (c : Nat) (ins : List Opnd) : s.worst c ins = qWorst (quals (ins.map (fun o => s.readEl c o))) := by
  simp [State.worst, quals, Function.comp_def]

/-! ### Jumps -/

theorem cond_eq {s : State} {c : Nat} {k : Call} {o : Opnd} (h : k.ops = [o]) : s.cond c k = isTrue (s.readEl c o).v := by
  simp [State.cond, State.ins, h]

/-! ### Logic -/

theorem foldl_xor_eq (l : List Bool) (b : Bool) : l.foldl xor b = (b ^^ decide ((l.filter id).length % 2 = 1)) := by
  induction l generalizing b with
  | nil => simp
  | cons a l ih =>
    rw [List.foldl_cons, ih]
    have flip : decide (((l.filter id).length + 1) % 2 = 1) = !decide ((l.filter id).length % 2 = 1) := by
      rw [← decide_not]; exact decide_eq_decide.mpr (by omega)
    cases a
    · simp
    · simp only [List.filter_cons, id, if_true, List.length_cons, flip]
      cases b <;> cases decide ((l.filter id).length % 2 = 1) <;> rfl

/-- XOR of more than two inputs is their parity. -/
theorem foldl_xor_map {α : Type} (f : α → Bool) (l : List α) : (l.map f).foldl xor false = decide ((l.filter f).length % 2 = 1) := by
  rw [foldl_xor_eq, List.filter_map, List.length_map, Bool.false_xor]
  rfl

theorem logicBlock_eq (s : State) (c : Nat) (k : Call) (f : List Bool → Bool) (ins : List Opnd) :
    logicBlock f k (ins.map (fun o => s.readEl c o)) = ⟨boolVal (f (ins.map (fun o => isTrue (s.readEl c o).v))), s.worst c ins⟩ := by
  rw [worst_eq_qWorst_quals]
  simp [logicBlock, Function.comp_def]

/-- Settles O1: each block over its inputs. -/
theorem jumpsMovesAndLogicBlocks : Obligations.JumpsMovesAndLogicBlocks := by
  unfold Obligations.JumpsMovesAndLogicBlocks
  refine ⟨fun c s k o => ⟨fun h => ?jmp, fun h ho hn => ?jmpc, fun h ho hn => ?jmpcn⟩,
    fun c s k a b o => ⟨fun h => ?move, fun h => ?conv, fun h => ?qget, fun h => ?qset, fun h => ?qok⟩,
    fun c s k a ins o => ⟨fun h => ?and, fun h => ?or, fun h => ?xor, fun h => ?not⟩⟩
  case jmp => exact congrArg _ (runJump_eq h)
  case jmpc =>
    refine congrArg _ ((runJump_eq h).trans ?_)
    rw [cond_eq ho, hn]
    rfl
  case jmpcn =>
    refine congrArg _ ((runJump_eq h).trans ?_)
    rw [cond_eq ho, hn]
    cases isTrue (s.readEl c o).v <;> rfl
  case move => exact next_runPure_wroteQ h rfl
  case conv =>
    refine next_runPure_wroteQ h ?_
    obtain ⟨-, ho, -, -⟩ := h
    simp [convBlock, ho, inAt]
  case qget => exact next_runPure_wroteQ h rfl
  case qset => exact next_runPure_wroteQ h rfl
  case qok => exact next_runPure_wroteQ h rfl
  case and => exact next_runPure_wroteQ h ((logicBlock_eq ..).trans (by simp))
  case or => exact next_runPure_wroteQ h ((logicBlock_eq ..).trans (by simp))
  case xor => exact next_runPure_wroteQ h ((logicBlock_eq ..).trans (by rw [foldl_xor_map]))
  case not => exact next_runPure_wroteQ h ((logicBlock_eq ..).trans (by simp))

/-! ### Arithmetic (R227) -/

theorem qLower_false (r q : Nat) : qLower r false q = q := by simp [qLower]

/-- An exact integer result, clamped once. -/
theorem clampInt_el (t : Nat) (v : Int) (q : Nat) : (⟨(clampInt t v).1, qLower 1 (clampInt t v).2 q⟩ : El) = clamped t v q := rfl

theorem chainVal_int {t : Nat} (ht : tyReal t = false) (fi : Int → Int → Int) (fr : Fl → Fl → Raw) (a : Nat) (l : List Nat) :
    chainVal t fi fr (a :: l) = clampInt t ((l.map (tyInt t)).foldl fi (tyInt t a)) := by
  simp [chainVal, ht]

theorem chainVal_real {t : Nat} (ht : tyReal t = true) (fi : Int → Int → Int) (fr : Fl → Fl → Raw) (a : Nat) (l : List Nat) :
    chainVal t fi fr (a :: l) = realChain t fr (a, false) l := by
  simp [chainVal, ht]

theorem realChain_map {α : Type} (t : Nat) (f : Fl → Fl → Raw) (g : α → Nat) (l : List α) (acc : Nat × Bool) :
    realChain t f acc (l.map g) = l.foldl (fun r x => ((realStep t f r.1 (g x)).1, r.2 || (realStep t f r.1 (g x)).2)) acc := by
  induction l generalizing acc with
  | nil => rfl
  | cons x l ih => exact ih _

theorem arithBlock_eq (s : State) (c : Nat) (k : Call) (f : Nat → List Nat → Nat × Bool) (ins : List Opnd) :
    arithBlock f k (ins.map (fun o => s.readEl c o)) =
      ⟨(f k.ty (ins.map (fun o => (s.readEl c o).v))).1, qLower 1 (f k.ty (ins.map (fun o => (s.readEl c o).v))).2 (s.worst c ins)⟩ := by
  rw [worst_eq_qWorst_quals]
  simp [arithBlock, Function.comp_def]

/-- An arithmetic block that clamps the exact result `v`. -/
theorem arithBlock_clamped {s : State} {c : Nat} {k : Call} {f : Nat → List Nat → Nat × Bool} {ins : List Opnd} {v : Int}
    (h : f k.ty (ins.map (fun o => (s.readEl c o).v)) = clampInt k.ty v) :
    arithBlock f k (ins.map (fun o => s.readEl c o)) = clamped k.ty v (s.worst c ins) := by
  rw [arithBlock_eq, h, clampInt_el]

theorem ite_neg_eq_natAbs (x : Int) : (if x < 0 then -x else x) = (x.natAbs : Int) := by split <;> omega

/-- Settles O2: the exact result over all inputs, clamped once. -/
theorem integerArithmeticClampsOnce : Obligations.IntegerArithmeticClampsOnce := by
  unfold Obligations.IntegerArithmeticClampsOnce
  intro c s k a b ins o ht
  refine ⟨fun h => ?add, fun h => ?mul, fun h => ?sub, fun h => ?neg, fun h => ?abs⟩
  case add =>
    refine next_runPure_wroteQ h (arithBlock_clamped ?_)
    rw [List.map_cons, chainVal_int ht, foldl_add_sum, List.map_map, List.map_cons, List.sum_cons]
    rfl
  case mul =>
    refine next_runPure_wroteQ h (arithBlock_clamped ?_)
    rw [List.map_cons, chainVal_int ht, foldl_mul_prod, List.map_map, List.map_cons, List.prod_cons]
    rfl
  case sub => exact next_runPure_wroteQ h (arithBlock_clamped (chainVal_int ht ..))
  case neg =>
    refine next_runPure_wroteQ h (arithBlock_clamped ?_)
    simp [negVal, ht, State.intOf]
  case abs =>
    refine next_runPure_wroteQ h (arithBlock_clamped ?_)
    simp only [absVal, ht, ite_neg_eq_natAbs]
    rfl

/-- Settles O3: the chain of rounded steps, and the sign bit. -/
theorem realArithmeticRoundsEachStep : Obligations.RealArithmeticRoundsEachStep := by
  unfold Obligations.RealArithmeticRoundsEachStep
  intro c s k a b o ins ht
  refine ⟨fun h => ?add, fun h => ?mul, fun h => ?sub, fun h => ?neg, fun h => ?abs⟩
  case add =>
    refine next_runPure_wroteQ h ((arithBlock_eq ..).trans ?_)
    rw [List.map_cons, chainVal_real ht, realChain_map]
  case mul =>
    refine next_runPure_wroteQ h ((arithBlock_eq ..).trans ?_)
    rw [List.map_cons, chainVal_real ht, realChain_map]
  case sub =>
    refine next_runPure_wroteQ h ((arithBlock_eq ..).trans ?_)
    rw [List.map_cons, chainVal_real ht, realChain_map]
    simp
  case neg =>
    refine next_runPure_wroteQ h ((arithBlock_eq ..).trans ?_)
    simp [negVal, ht, qLower_false]
  case abs =>
    refine next_runPure_wroteQ h ((arithBlock_eq ..).trans ?_)
    simp [absVal, ht, qLower_false]

/-! ### Division (R227) -/

theorem qWorsen_false (r q : Nat) : qWorsen r false q = q := by simp [qWorsen]

/-- A division by zero is BAD with DIV_ZERO unless the inputs were BAD already. -/
theorem qWorsen_true (q : Nat) : qWorsen 4 true q = if qState q = 3 then q else qBad 4 := by
  unfold qWorsen
  by_cases h : qState q = 3 <;> simp [h]

theorem divBlock_eq (s : State) (c : Nat) (k : Call) (a b : Opnd) : divBlock k ([a, b].map (fun o => s.readEl c o)) =
    (let r := divVal k.ty (s.readEl c a).v (s.readEl c b).v
     ⟨r.1, qWorsen 4 r.2.2 (qLower 1 r.2.1 (s.worst c [a, b]))⟩) := rfl

/-- Settles O4: the quotient's branches, by the divisor. -/
theorem division : Obligations.Division := by
  unfold Obligations.Division
  intro c s k a b o
  refine ⟨fun ht h => ?real, fun ht h => ?int, fun ht h => ?mod⟩
  case real =>
    refine next_runPure_wroteQ h ((divBlock_eq ..).trans ?_)
    dsimp only
    by_cases hy : ((tyFmt k.ty).decode (s.readEl c b).v).m = 0
    · by_cases hx : ((tyFmt k.ty).decode (s.readEl c a).v).m = 0 <;> simp [divVal, ht, hy, hx, qLower_false, qWorsen_true]
    · simp [divVal, ht, hy, qWorsen_false]
  case int =>
    refine next_runPure_wroteQ h ((divBlock_eq ..).trans ?_)
    dsimp only
    by_cases hb : tyInt k.ty (s.readEl c b).v = 0
    · simp [divVal, ht, hb, State.intOf, divZero, qLower_false, qWorsen_true]
      rfl
    · simp [divVal, ht, hb, State.intOf, qWorsen_false, clampInt_el]
  case mod =>
    refine next_runPure_wroteQ h ?_
    by_cases hb : tyInt k.ty (s.readEl c b).v = 0
    · simp [modBlock, inAt, hb, State.intOf, qWorsen_true, worst_eq_qWorst_quals]
    · simp [modBlock, inAt, hb, State.intOf, qWorsen_false, worst_eq_qWorst_quals]

/-! ### Comparison and selection (R228) -/

theorem cmpBlock_eq (s : State) (c : Nat) (k : Call) (f : Nat → Nat → Nat → Bool) (a b : Opnd) :
    cmpBlock f k ([a, b].map (fun o => s.readEl c o)) = ⟨boolVal (f k.ty (s.readEl c a).v (s.readEl c b).v), s.worst c [a, b]⟩ := rfl

theorem ltVal_int {t : Nat} (ht : tyReal t = false) (a b : Nat) : ltVal t a b = decide (tyInt t a < tyInt t b) := by simp [ltVal, ht]

/-- The pick of a list is one of its elements, and every element is at most as good, for any order in which `better` is strict. -/
theorem foldl_pick_spec {better : Nat → Nat → Bool} {key : Nat → Int} (hb : ∀ x m, better x m = decide (key m < key x)) (l : List Nat) (a : Nat) :
    l.foldl (fun m x => if better x m then x else m) a ∈ a :: l ∧
      ∀ y ∈ a :: l, key y ≤ key (l.foldl (fun m x => if better x m then x else m) a) := by
  induction l generalizing a with
  | nil => simp
  | cons b l ih =>
    rw [List.foldl_cons]
    have hpick : ((if better b a then b else a) = a ∨ (if better b a then b else a) = b) ∧
        key a ≤ key (if better b a then b else a) ∧ key b ≤ key (if better b a then b else a) := by
      rw [hb]
      by_cases h : key a < key b
      · simp [h, le_of_lt h]
      · simp [h, not_lt.mp h]
    generalize (if better b a then b else a) = m at hpick ⊢
    obtain ⟨hab, ha, hb'⟩ := hpick
    obtain ⟨hm, hle⟩ := ih m
    have hself := hle m (List.mem_cons_self ..)
    refine ⟨?_, fun y hy => ?_⟩
    · simp only [List.mem_cons] at hm ⊢
      rcases hm with hm | hm
      · exact hab.elim (fun h => .inl (hm.trans h)) (fun h => .inr (.inl (hm.trans h)))
      · exact .inr (.inr hm)
    · simp only [List.mem_cons] at hy
      rcases hy with rfl | rfl | hy
      · exact ha.trans hself
      · exact hb'.trans hself
      · exact hle y (List.mem_cons_of_mem _ hy)

/-- The picked element of a list of operands. -/
theorem pickVal_spec {s : State} {c : Nat} {better : Nat → Nat → Bool} {key : Nat → Int} (hb : ∀ x m, better x m = decide (key m < key x))
    (a : Opnd) (ins : List Opnd) : ∃ x ∈ a :: ins, (∀ y ∈ a :: ins, key (s.readEl c y).v ≤ key (s.readEl c x).v) ∧
      pickVal better ((a :: ins).map (fun o => (s.readEl c o).v)) = (s.readEl c x).v := by
  obtain ⟨hm, hle⟩ := foldl_pick_spec hb (ins.map (fun o => (s.readEl c o).v)) (s.readEl c a).v
  rw [← List.map_cons (f := fun o => (s.readEl c o).v)] at hm hle
  obtain ⟨x, hx, hxe⟩ := List.mem_map.mp hm
  refine ⟨x, hx, fun y hy => ?_, hxe.symm⟩
  have := hle _ (List.mem_map_of_mem hy)
  rwa [← hxe] at this

/-- MUX's clamp of K. -/
theorem mux_index (k n : Int) (hn : 0 ≤ n) : (if k < 0 then 0 else if k > n then n else k) = min (max k 0) n := by
  split
  · omega
  · split <;> omega

theorem muxBlock_eq (s : State) (c : Nat) (k : Call) (g a : Opnd) (ins : List Opnd) :
    muxBlock k ((g :: a :: ins).map (fun o => s.readEl c o)) =
      (let j := (min (max (s.intOf c 2 g) 0) (ins.length : Int)).toNat
       let x := s.readEl c ((a :: ins).getD j a)
       ⟨x.v, qLower 5 (decide ((j : Int) ≠ s.intOf c 2 g)) (qWorst [(s.readEl c g).q, x.q])⟩) := by
  have hn : ((((g :: a :: ins).map (fun o => s.readEl c o)).length : Int) - 1 - 1) = ins.length := by simp
  have hj : ((min (max (s.intOf c 2 g) 0) (ins.length : Int)).toNat : Int) = min (max (s.intOf c 2 g) 0) (ins.length : Int) := by omega
  have hlt : (min (max (s.intOf c 2 g) 0) (ins.length : Int)).toNat < (a :: ins).length := by simp only [List.length_cons]; omega
  unfold muxBlock
  dsimp only
  rw [hn, mux_index _ _ (by omega)]
  have hx : inAt ((g :: a :: ins).map (fun o => s.readEl c o)) (1 + (min (max (s.intOf c 2 g) 0) (ins.length : Int)).toNat) =
      s.readEl c ((a :: ins).getD (min (max (s.intOf c 2 g) 0) (ins.length : Int)).toNat a) := by
    rw [List.getD_eq_getElem _ _ hlt]
    simp only [inAt, List.map_cons, Nat.add_comm 1, List.getD_cons_succ]
    exact (List.getD_eq_getElem (s.readEl c a :: ins.map fun o => s.readEl c o) _ (by simpa only [List.length_cons, List.length_map] using hlt)).trans (List.getElem_map (l := a :: ins) _)
  show (⟨(inAt _ (1 + (min (max (s.intOf c 2 g) 0) (ins.length : Int)).toNat)).v, _⟩ : El) = _
  rw [hj, ← hx]
  rfl

theorem limitVals_eq (s : State) (c t : Nat) (g a b : Opnd) : limitVals t ([g, a, b].map (fun o => s.readEl c o)) =
    (let mn := (s.readEl c g).v
     let x := (s.readEl c a).v
     let mx := (s.readEl c b).v
     let q := qLower 6 (ltVal t mx mn) (s.worst c [g, a, b])
     let out := if ltVal t mx mn then mx else if ltVal t x mn then mn else if ltVal t mx x then mx else x
     [⟨out, q⟩, ⟨boolVal (ltVal t mx mn || !eqVal t out x), q⟩]) := rfl

/-- Settles O5: each block over its inputs. -/
theorem comparisonsAndSelection : Obligations.ComparisonsAndSelection := by
  unfold Obligations.ComparisonsAndSelection
  refine ⟨fun c s k a b o => ⟨fun h => ?eq, fun h => ?ne, fun h => ?lt, fun h => ?gt, fun h => ?le, fun h => ?ge, fun ht => ltVal_int ht _ _,
      fun ht hb => ?eqInt, fun ht => ?eqBool⟩,
    fun c s k g a b o p ins => ⟨fun h => ?sel, fun h => ?mux, fun ht h => ?max, fun ht h => ?min, fun h => ?max2, fun h => ?min2,
      fun h ho hn => ?limit⟩⟩
  case eq => exact next_runPure_wroteQ h (cmpBlock_eq ..)
  case ne => exact next_runPure_wroteQ h (cmpBlock_eq ..)
  case lt => exact next_runPure_wroteQ h (cmpBlock_eq ..)
  case gt => exact next_runPure_wroteQ h (cmpBlock_eq ..)
  case le => exact next_runPure_wroteQ h (cmpBlock_eq ..)
  case ge => exact next_runPure_wroteQ h (cmpBlock_eq ..)
  case eqInt =>
    simp [eqVal, ht, hb, State.intOf]
    rfl
  case eqBool => simp [eqVal, ht, tyReal]
  case sel =>
    refine next_runPure_wroteQ h ?_
    simp only [selBlock, inAt, List.map_cons, List.getD_cons_zero, List.getD_cons_succ]
    split <;> rfl
  case mux => exact next_runPure_wroteQ h (muxBlock_eq ..)
  case max =>
    obtain ⟨x, hx, hle, hv⟩ := pickVal_spec (s := s) (c := c) (key := tyInt k.ty) (fun x m => ltVal_int ht m x) a ins
    refine ⟨x, hx, hle, next_runPure_wroteQ h ?_⟩
    rw [worst_eq_qWorst_quals, ← hv, List.map_map]
    rfl
  case min =>
    obtain ⟨x, hx, hle, hv⟩ := pickVal_spec (s := s) (c := c) (better := fun x m => ltVal k.ty x m) (key := fun v => -(tyInt k.ty v))
      (fun x m => by rw [ltVal_int ht]; exact decide_eq_decide.mpr (by omega)) a ins
    refine ⟨x, hx, fun y hy => by have := hle y hy; unfold State.intOf; omega, next_runPure_wroteQ h ?_⟩
    rw [worst_eq_qWorst_quals, ← hv, List.map_map]
    rfl
  case max2 => exact next_runPure_wroteQ h rfl
  case min2 => exact next_runPure_wroteQ h rfl
  case limit =>
    refine congrArg _ ((runBlock_eq h).trans ?_)
    rw [hn]
    unfold State.ins State.outs
    rw [ho]
    rfl

/-! ### Safety blocks (R346) -/

/-- Settles O6: each block over what its inputs count as. -/
theorem safetyBlocks : Obligations.SafetyBlocks := by
  unfold Obligations.SafetyBlocks
  intro c s k a b o ins
  refine ⟨fun h => ?sand, fun h => ?sor, fun h => ?sval, fun h => ?sge⟩
  case sand => exact next_runPure_wroteQ h (by simp [safeTrue, Function.comp_def])
  case sor => exact next_runPure_wroteQ h (by simp [safeTrue, Function.comp_def])
  case sval => exact next_runPure_wroteQ h (by simp [safeTrue])
  case sge => exact next_runPure_wroteQ h (by simp [sgeBlock, inAt])

/-! ### Timers (R231) -/

/-- The timer kept for a call, as an evaluation finds it: at first use nothing has run, and the previous input is `first`. -/
def timerAt (s : State) (c a : Nat) (first : Bool) : Timer :=
  let fl := s.instFlags c a
  ⟨if bit fl 0 then bit fl 1 else first, bit fl 0 && bit fl 2, bit fl 0 && bit fl 3, if bit fl 0 then tyInt 6 (s.instWord c (a + 16) 8) else 0⟩

/-- The time since the last evaluation of a call; none has passed at first use. -/
def timerDelta (s : State) (c a : Nat) : Int := if bit (s.instFlags c a) 0 then s.tau c - tyInt 6 (s.instWord c (a + 8) 8) else 0

theorem timerBlock_eq {c : Nat} {k : Call} {s : State} {first : Bool → Bool} {step : Bool → Int → Int → Timer → Timer} {i p : El}
    (h : s.ins c k 2 = [i, p]) :
    let pt := max (tyInt 6 p.v) 0
    let u := step (isTrue i.v) pt (timerDelta s c (8 * k.inst)) (timerAt s c (8 * k.inst) (first (isTrue i.v)))
    timerBlock c first step k s =
      (s.instWrite c (8 * k.inst) (inst24 (1 + 2 * b2n u.prev + 4 * b2n u.q + 8 * b2n u.run) (s.tau c) (tyOfInt 6 u.elapsed))).outs c k 2
        [⟨boolVal u.q, qWorst (quals [i, p])⟩, ⟨tyOfInt 6 (min u.elapsed pt), qWorst (quals [i, p])⟩] := by
  unfold timerBlock timerDelta timerAt Call.area
  rw [h]
  cases hu : bit (s.instFlags c (8 * k.inst)) 0
  · simp [hu, inAt]
  · simp [hu, inAt]

theorem tonStep_eq (x : Bool) (pt d : Int) (t : Timer) : tonStep x pt d t =
    (let el := if x && t.prev then satInt 64 (t.elapsed + d) else 0
     ⟨x, x && decide (pt ≤ el), false, el⟩) := by
  cases x <;> simp [tonStep, satAdd]

theorem tofStep_eq (x : Bool) (pt d : Int) (t : Timer) : tofStep x pt d t =
    (let run := !x && (t.prev || t.run)
     let el := if x || t.prev then 0 else if t.run then satInt 64 (t.elapsed + d) else t.elapsed
     ⟨x, if x then true else if run && decide (pt ≤ el) then false else t.q, run && !decide (pt ≤ el), el⟩) := by
  obtain ⟨prev, q, run, el⟩ := t
  cases x
  · cases prev
    · cases run
      · simp [tofStep]
      · by_cases h : pt ≤ satInt 64 (el + d) <;> simp [tofStep, satAdd, h]
    · by_cases h : pt ≤ 0 <;> simp [tofStep, h]
  · simp [tofStep]

theorem tpStep_eq (x : Bool) (pt d : Int) (t : Timer) : tpStep x pt d t =
    (let start := !t.run && x && !t.prev
     let el := if t.run then satInt 64 (t.elapsed + d) else if start then 0 else t.elapsed
     let run := if t.run then decide (el < pt) else start && decide (0 < pt)
     let on := if t.run then decide (el < pt) && t.q else if start then decide (0 < pt) else t.q
     ⟨x, on, run, if run || x then el else 0⟩) := by
  obtain ⟨prev, q, run, el⟩ := t
  cases run
  · cases x <;> cases prev <;> by_cases h : 0 < pt <;> simp [tpStep, h]
  · by_cases h : pt ≤ satInt 64 (el + d)
    · have : ¬ satInt 64 (el + d) < pt := by omega
      cases x <;> simp [tpStep, satAdd, h, this]
    · have : satInt 64 (el + d) < pt := by omega
      cases x <;> simp [tpStep, satAdd, h, this]

theorem ite_false_eq_and (a b : Bool) : (if a = true then b else false) = (a && b) := by cases a <;> rfl

/-- Settles O7: each timer's step from what the evaluation finds kept. -/
theorem timerBlocks : Obligations.TimerBlocks := by
  unfold Obligations.TimerBlocks
  intro c s k i p q e
  have hw : qWorst (quals [s.readEl c i, s.readEl c p]) = s.worst c [i, p] := rfl
  refine ⟨fun h => ?ton, fun h => ?tof, fun h => ?tp⟩
  case ton =>
    refine (next_runBlock_wroteAll h timerBlock_eq rfl).trans ?_
    rw [tonStep_eq]
    simp only [timerAt, timerDelta, hw, List.zip_cons_cons, List.zip_nil_right, ite_false_eq_and,
      Bool.and_assoc]
  case tof =>
    refine (next_runBlock_wroteAll h timerBlock_eq rfl).trans ?_
    rw [tofStep_eq]
    simp only [timerAt, timerDelta, hw, List.zip_cons_cons, List.zip_nil_right]
  case tp =>
    refine (next_runBlock_wroteAll h timerBlock_eq rfl).trans ?_
    rw [tpStep_eq]
    simp only [timerAt, timerDelta, hw, List.zip_cons_cons, List.zip_nil_right, ite_false_eq_and]

/-! ### Ramp and rate of change (R229, R230) -/

theorem toR64_five (v : Nat) : toR64 5 v = v := by
  unfold toR64
  rw [if_neg (by decide)]

/-- RAMP's next value from what is kept for the call: first use starts at TV. -/
def rampNext (s : State) (c a : Nat) (x up dn tv : Nat) (trk : Bool) : Nat :=
  let used := bit (s.instFlags c a) 0
  rampY (if used then s.instWord c (a + 16) 8 else tv) x up dn tv
    (secsSince (s.tau c) (if used then tyInt 6 (s.instWord c (a + 8) 8) else s.tau c)) trk

theorem rampBlock_eq {c : Nat} {k : Call} {s : State} {x up dn tr tv : El} (hk : k.ty = 5) (h : s.ins c k 5 = [x, up, dn, tr, tv]) :
    let r := rampNext s c (8 * k.inst) x.v up.v dn.v tv.v (isTrue tr.v)
    rampBlock c k s = (s.instWrite c (8 * k.inst) (inst24 1 (s.tau c) r)).outs c k 5
      [⟨r, (if isTrue tr.v || !bit (s.instFlags c (8 * k.inst)) 0 then tv else x).q⟩,
        ⟨boolVal (!(le64 x.v r && le64 r x.v)), qWorst (quals [x, up, dn, tr, tv])⟩] := by
  have hq (a b : Bool) : (if a = true ∨ ¬ b = true then tv.q else x.q) = (if a || !b then tv else x).q := by cases a <;> cases b <;> rfl
  unfold rampBlock rampNext Call.area
  simp only [h, hk, ofR64_five, toR64_five, ← hq, inAt, List.getD_cons_zero, List.getD_cons_succ]

/-- RAMP's next value in the order of R229: TRK, first use, then towards X from below or above. -/
theorem rampNext_eq (s : State) (c a x up dn tv : Nat) (trk : Bool) : rampNext s c a x up dn tv trk =
    (let d := secsSince (s.tau c) (tyInt 6 (s.instWord c (a + 8) 8))
     let y0 := s.instWord c (a + 16) 8
     if trk then tv
     else if !bit (s.instFlags c a) 0 then rampY tv x up dn tv (secsSince (s.tau c) (s.tau c)) false
     else if lt64 y0 x then min64 x (add64 y0 (mul64 (max64 up 0) d))
     else if lt64 x y0 then max64 x (sub64 y0 (mul64 (max64 dn 0) d))
     else y0) := by
  unfold rampNext
  cases trk
  · cases bit (s.instFlags c a) 0
    · simp only [Bool.false_eq_true, Bool.not_false, if_false, if_true]
    · simp only [rampY, Bool.false_eq_true, Bool.not_true, if_false, if_true]
  · simp only [rampY, if_true]

theorem rocBlock_first {c : Nat} {k : Call} {s : State} {x lim : El} (hk : k.ty = 5) (h : s.ins c k 2 = [x, lim])
    (hu : bit (s.instFlags c (8 * k.inst)) 0 = false) : rocBlock c k s = (s.instWrite c (8 * k.inst) (inst24 1 (s.tau c) x.v)).outs c k 2
      [⟨0, qWorst (quals [x, lim])⟩, ⟨0, qWorst (quals [x, lim])⟩] := by
  unfold rocBlock Call.area
  simp only [h, hk, hu, toR64_five, inAt, List.getD_cons_zero, Bool.false_eq_true, not_false_eq_true, if_true]

theorem rocBlock_still {c : Nat} {k : Call} {s : State} (hu : bit (s.instFlags c (8 * k.inst)) 0 = true)
    (ht : s.tau c ≤ tyInt 6 (s.instWord c ((8 * k.inst) + 8) 8)) : rocBlock c k s = s := by
  unfold rocBlock Call.area
  simp only [hu, ht, not_true_eq_false, if_false, if_true]

theorem rocBlock_rate {c : Nat} {k : Call} {s : State} {x lim : El} {rate : Nat} {sat : Bool} (hk : k.ty = 5) (h : s.ins c k 2 = [x, lim])
    (hu : bit (s.instFlags c (8 * k.inst)) 0 = true) (ht : tyInt 6 (s.instWord c (8 * k.inst + 8) 8) < s.tau c)
    (hr : rocRate 5 x.v (s.instWord c (8 * k.inst + 16) 8) (secsSince (s.tau c) (tyInt 6 (s.instWord c (8 * k.inst + 8) 8))) = (rate, sat)) :
    rocBlock c k s = (s.instWrite c (8 * k.inst)
        (inst24 (1 + 16 * min 8 (bits (s.instFlags c (8 * k.inst)) 4 4 + 1)) (s.tau c) x.v)).outs c k 2
      [⟨rate, qLower 1 sat (qWorst (quals [x, lim]))⟩,
        ⟨boolVal (decide (8 ≤ bits (s.instFlags c (8 * k.inst)) 4 4) && lt64 lim.v (abs64 rate)), qWorst (quals [x, lim])⟩] := by
  unfold rocBlock Call.area
  simp only [h, hk, hu, hr, toR64_five, inAt, List.getD_cons_zero, List.getD_cons_succ, not_le.mpr ht, not_true_eq_false, if_false]

/-- Settles O10: RAMP's next value, and ROC by first use, no time passed, time passed. -/
theorem rampAndRateBlocks : Obligations.RampAndRateBlocks := by
  unfold Obligations.RampAndRateBlocks
  intro c s k x up dn tr tv y b hk
  have hw5 : qWorst (quals [s.readEl c x, s.readEl c up, s.readEl c dn, s.readEl c tr, s.readEl c tv]) = s.worst c [x, up, dn, tr, tv] := rfl
  have hw2 : qWorst (quals [s.readEl c x, s.readEl c up]) = s.worst c [x, up] := rfl
  refine ⟨fun h => ?ramp, fun h hu => ?first, fun h hu ht => ?still, fun h hu ht => ?rate⟩
  case ramp =>
    refine (next_runBlock_wroteAll h (rampBlock_eq hk) rfl).trans ?_
    have hq (g : Bool) : (if g then s.readEl c tv else s.readEl c x) = s.readEl c (if g then tv else x) := by cases g <;> rfl
    simp only [rampNext_eq, hw5, hq, List.zip_cons_cons, List.zip_nil_right]
  case first =>
    refine (next_runBlock_wroteAll h (fun hi => rocBlock_first hk hi hu) rfl).trans ?_
    simp only [hw2, List.zip_cons_cons, List.zip_nil_right]
  case still =>
    obtain ⟨hn, -, hops⟩ := h
    refine congrArg _ ((runBlock_eq hn).trans ?_)
    rw [rocBlock_still hu ht, hops]
    rfl
  case rate =>
    exact next_runBlock_wroteAll h (fun hi => rocBlock_rate hk hi hu ht (rocRate_five ..)) rfl

end Sys2Proof.Proofs

/-! Reading registers back through the operations that write them: one rule per operation and reader, each with its side condition on
addresses and bit ranges, which `decide` closes for named registers. -/

namespace Sys2Proof.Proofs
open Sys2Proof Sys2Proof.Machine Sys2Proof.Laws

/-! ### Branches of a command's effect -/

theorem next_eq {a b : State} (h : a = b) : (Host.Outcome.next a : Result) = .next b := congrArg _ h

theorem next_pos {c : Prop} [Decidable c] {a b : State} (h : c) : (Host.Outcome.next (if c then a else b) : Result) = .next a :=
  congrArg _ (if_pos h)

theorem next_neg {c : Prop} [Decidable c] {a b : State} (h : ¬ c) : (Host.Outcome.next (if c then a else b) : Result) = .next b :=
  congrArg _ (if_neg h)

/-- A command outside `mayStore` keeps memory. -/
theorem exec_mem {i : Instr} {s t : State} (h : exec i s = .next t) (hi : i.mayStore = false) : t.mem = s.mem :=
  (exec_within i s t h).mem_eq (parts_of_not_mayStore i hi)

/-! ### Fields -/

/-- A value that fits its field reads back as written. -/
theorem fld_setFld_of_lt (s : State) {f : Field} {v : Nat} (h : v < 2 ^ f.width) (hw : f.lo + f.width ≤ 32) : (s.setFld f v).fld f = v :=
  (fld_setFld_same s f v hw).trans (Nat.mod_eq_of_lt h)

theorem fld_setFlag_addr (s : State) {f g : Field} (b : Bool) (h : f.addr ≠ g.addr) : (s.setFlag g b).fld f = s.fld f := fld_setFld_addr s _ h

theorem fld_setFlag_other (s : State) {f g : Field} (b : Bool) (h : f.lo + f.width ≤ 32) (d : g.lo + g.width ≤ f.lo ∨ f.lo + f.width ≤ g.lo) :
    (s.setFlag g b).fld f = s.fld f := fld_setFld_other s _ h d

theorem flag_setFlag_addr (s : State) {f g : Field} (b : Bool) (h : f.addr ≠ g.addr) : (s.setFlag g b).flag f = s.flag f :=
  flag_of_fld (fld_setFlag_addr s b h)

theorem flag_setFlag_other (s : State) {f g : Field} (b : Bool) (h : f.lo + f.width ≤ 32) (d : g.lo + g.width ≤ f.lo ∨ f.lo + f.width ≤ g.lo) :
    (s.setFlag g b).flag f = s.flag f := flag_of_fld (fld_setFlag_other s b h d)

theorem flag_setFld_other (s : State) {f g : Field} (v : Nat) (h : f.lo + f.width ≤ 32) (d : g.lo + g.width ≤ f.lo ∨ f.lo + f.width ≤ g.lo) :
    (s.setFld g v).flag f = s.flag f := flag_of_fld (fld_setFld_other s v h d)

theorem flag_setReg_ne (s : State) {f : Field} {a : Nat} (w : Word) (h : f.addr ≠ a) : (s.setReg a w).flag f = s.flag f :=
  flag_of_fld (fld_setReg_ne s w h)

/-- A field of CPM_STAT outside PAIR_IDLE, after an occurrence. -/
theorem raise_cpm_flag (s : State) {src lo hi : Nat} {f : Field} (hs : src < 256) (h : f.addr = Reg.CPM_STAT) (hw : f.lo + f.width ≤ 32)
    (d : f.lo + f.width ≤ 2 ∨ 5 ≤ f.lo) : (s.raise src lo hi).flag f = s.flag f := flag_of_fld (raise_cpm s hs h hw d)

/-- A saturating counter after one more count (R205). -/
theorem bumpOnly_fld (s : State) (f : Field) (h : f.lo + f.width ≤ 32) : (s.bumpOnly f).fld f = min f.max (s.fld f + 1) :=
  fld_setFld_of_lt s (by have := Nat.two_pow_pos f.width; unfold Field.max; omega) h

theorem bumpOnly_reg_ne (s : State) {f : Field} {a : Nat} (h : a ≠ f.addr) : (s.bumpOnly f).reg a = s.reg a := reg_setFld_ne s _ h

/-! ### Updates of a part beside the registers -/

theorem fld_of_regs {s t : State} (h : t.regs = s.regs) (f : Field) : t.fld f = s.fld f := fld_of_reg (by unfold State.reg; rw [h])

/-- An update of parts beside the registers keeps every register. -/
theorem reg_mk {x0 x1 x2 x3 x4 x5 x6 x7 x8 x9 x10 x11 x12 x13 x14 x15 x16 x17 x18 x19 x20 x21 x22 x23 x24 x25 x26 x27 x28 x29 x30 x31 x32 x33 x34 x35 x36 x37 x38} (s : State) (a : Nat) :
    (State.mk s.regs x0 x1 x2 x3 x4 x5 x6 x7 x8 x9 x10 x11 x12 x13 x14 x15 x16 x17 x18 x19 x20 x21 x22 x23 x24 x25 x26 x27 x28 x29 x30 x31 x32 x33 x34 x35 x36 x37 x38).reg a = s.reg a := rfl

theorem fld_mk {x0 x1 x2 x3 x4 x5 x6 x7 x8 x9 x10 x11 x12 x13 x14 x15 x16 x17 x18 x19 x20 x21 x22 x23 x24 x25 x26 x27 x28 x29 x30 x31 x32 x33 x34 x35 x36 x37 x38} (s : State) (f : Field) :
    (State.mk s.regs x0 x1 x2 x3 x4 x5 x6 x7 x8 x9 x10 x11 x12 x13 x14 x15 x16 x17 x18 x19 x20 x21 x22 x23 x24 x25 x26 x27 x28 x29 x30 x31 x32 x33 x34 x35 x36 x37 x38).fld f = s.fld f := rfl

theorem flag_mk {x0 x1 x2 x3 x4 x5 x6 x7 x8 x9 x10 x11 x12 x13 x14 x15 x16 x17 x18 x19 x20 x21 x22 x23 x24 x25 x26 x27 x28 x29 x30 x31 x32 x33 x34 x35 x36 x37 x38} (s : State) (f : Field) :
    (State.mk s.regs x0 x1 x2 x3 x4 x5 x6 x7 x8 x9 x10 x11 x12 x13 x14 x15 x16 x17 x18 x19 x20 x21 x22 x23 x24 x25 x26 x27 x28 x29 x30 x31 x32 x33 x34 x35 x36 x37 x38).flag f = s.flag f := rfl

theorem told_mk {x0 x1 x2 x3 x4 x5 x6 x7 x8 x9 x10 x11 x12 x13 x14 x15 x16 x17 x18 x19 x20 x21 x22 x23 x24 x25 x26 x27 x28 x29 x30 x31 x32 x33 x34 x35 x36 x37 x38} (s : State) (n lo hi : Nat) :
    (State.mk s.regs x0 x1 x2 x3 x4 x5 x6 x7 x8 x9 x10 x11 x12 x13 x14 x15 x16 x17 x18 x19 x20 x21 x22 x23 x24 x25 x26 x27 x28 x29 x30 x31 x32 x33 x34 x35 x36 x37 x38).told n lo hi ↔ s.told n lo hi := Iff.rfl

/-! ### Occurrences -/

/-- An occurrence tells its own detail (R122). -/
theorem raise_told (s : State) {src : Nat} (hs : src < 256) (hne : src ≠ 232) (lo hi : Nat) : (s.raise src lo hi).told src lo hi :=
  raise_info s hs hne lo hi

/-- What has been told stays so when another source occurs. -/
theorem told_raise_ne {s : State} {n src : Nat} (hs : src < 256) (hn : n < 256) (hne : n ≠ 232) (hd : n ≠ src) {lo hi lo' hi' : Nat} :
    (s.raise src lo' hi').told n lo hi ↔ s.told n lo hi := by
  unfold State.told
  rw [(raise_info_ne s hs hn hne hd lo' hi').1, (raise_info_ne s hs hn hne hd lo' hi').2]

/-- What has been told depends on the registers alone. -/
theorem told_of_regs {s t : State} (h : t.regs = s.regs) {n lo hi : Nat} : t.told n lo hi ↔ s.told n lo hi := by
  unfold State.told State.reg
  rw [h]

/-- A write of a register that is no event's detail keeps what has been told. -/
theorem told_setReg {s : State} {a : Nat} {w : Word} {n lo hi : Nat} (hn : n < 256) (h : a < 0x40010800 ∨ 0x40011000 ≤ a) :
    (s.setReg a w).told n lo hi ↔ s.told n lo hi := by
  unfold State.told
  rw [reg_setReg_ne _ _ (by unfold Reg.EVT_INFO_LO; omega), reg_setReg_ne _ _ (by unfold Reg.EVT_INFO_HI; omega)]

theorem told_setFld {s : State} {f : Field} {v n lo hi : Nat} (hn : n < 256) (h : f.addr < 0x40010800 ∨ 0x40011000 ≤ f.addr) :
    (s.setFld f v).told n lo hi ↔ s.told n lo hi := told_setReg hn h

theorem told_setFlag {s : State} {f : Field} {b : Bool} {n lo hi : Nat} (hn : n < 256) (h : f.addr < 0x40010800 ∨ 0x40011000 ≤ f.addr) :
    (s.setFlag f b).told n lo hi ↔ s.told n lo hi := told_setReg hn h

/-! ### What an occurrence leaves alone outside the registers -/

theorem raise_within (s : State) (src lo hi : Nat) : Within 1285 s (s.raise src lo hi) := State_raise_within rfl Within.refl

@[simp] theorem raise_mem (s : State) (src lo hi : Nat) : (s.raise src lo hi).mem = s.mem := (raise_within s src lo hi).mem_eq (by decide)
@[simp] theorem raise_now (s : State) (src lo hi : Nat) : (s.raise src lo hi).now = s.now := (raise_within s src lo hi).now_eq (by decide)
@[simp] theorem raise_frac (s : State) (src lo hi : Nat) : (s.raise src lo hi).frac = s.frac := (raise_within s src lo hi).frac_eq (by decide)
@[simp] theorem raise_mono (s : State) (src lo hi : Nat) : (s.raise src lo hi).mono = s.mono := (raise_within s src lo hi).mono_eq (by decide)
@[simp] theorem raise_rdata (s : State) (src lo hi : Nat) : (s.raise src lo hi).rdata = s.rdata := (raise_within s src lo hi).rdata_eq (by decide)
@[simp] theorem raise_busErr (s : State) (src lo hi : Nat) : (s.raise src lo hi).busErr = s.busErr := (raise_within s src lo hi).busErr_eq (by decide)
@[simp] theorem raise_pnl (s : State) (src lo hi : Nat) : (s.raise src lo hi).pnl = s.pnl := (raise_within s src lo hi).pnl_eq (by decide)
@[simp] theorem raise_que (s : State) (src lo hi : Nat) : (s.raise src lo hi).que = s.que := (raise_within s src lo hi).que_eq (by decide)
@[simp] theorem raise_mbx (s : State) (src lo hi : Nat) : (s.raise src lo hi).mbx = s.mbx := (raise_within s src lo hi).mbx_eq (by decide)
@[simp] theorem raise_locks (s : State) (src lo hi : Nat) : (s.raise src lo hi).locks = s.locks := (raise_within s src lo hi).locks_eq (by decide)
@[simp] theorem raise_img (s : State) (src lo hi : Nat) : (s.raise src lo hi).img = s.img := (raise_within s src lo hi).img_eq (by decide)
@[simp] theorem raise_imgAlt (s : State) (src lo hi : Nat) : (s.raise src lo hi).imgAlt = s.imgAlt := (raise_within s src lo hi).imgAlt_eq (by decide)
@[simp] theorem raise_load (s : State) (src lo hi : Nat) : (s.raise src lo hi).load = s.load := (raise_within s src lo hi).load_eq (by decide)
@[simp] theorem raise_g (s : State) (src lo hi : Nat) : (s.raise src lo hi).g = s.g := (raise_within s src lo hi).g_eq (by decide)
@[simp] theorem raise_changes (s : State) (src lo hi : Nat) : (s.raise src lo hi).changes = s.changes := (raise_within s src lo hi).changes_eq (by decide)
@[simp] theorem raise_routeLast (s : State) (src lo hi : Nat) : (s.raise src lo hi).routeLast = s.routeLast := (raise_within s src lo hi).routeLast_eq (by decide)
@[simp] theorem raise_tasks (s : State) (src lo hi : Nat) : (s.raise src lo hi).tasks = s.tasks := (raise_within s src lo hi).tasks_eq (by decide)
@[simp] theorem raise_views (s : State) (src lo hi : Nat) : (s.raise src lo hi).views = s.views := (raise_within s src lo hi).views_eq (by decide)
@[simp] theorem raise_can (s : State) (src lo hi : Nat) : (s.raise src lo hi).can = s.can := (raise_within s src lo hi).can_eq (by decide)
@[simp] theorem raise_rim (s : State) (src lo hi : Nat) : (s.raise src lo hi).rim = s.rim := (raise_within s src lo hi).rim_eq (by decide)
@[simp] theorem raise_field (s : State) (src lo hi : Nat) : (s.raise src lo hi).field = s.field := (raise_within s src lo hi).field_eq (by decide)
@[simp] theorem raise_trim (s : State) (src lo hi : Nat) : (s.raise src lo hi).trim = s.trim := (raise_within s src lo hi).trim_eq (by decide)
@[simp] theorem raise_saf (s : State) (src lo hi : Nat) : (s.raise src lo hi).saf = s.saf := (raise_within s src lo hi).saf_eq (by decide)
@[simp] theorem raise_stns (s : State) (src lo hi : Nat) : (s.raise src lo hi).stns = s.stns := (raise_within s src lo hi).stns_eq (by decide)
@[simp] theorem raise_escs (s : State) (src lo hi : Nat) : (s.raise src lo hi).escs = s.escs := (raise_within s src lo hi).escs_eq (by decide)
@[simp] theorem raise_loops (s : State) (src lo hi : Nat) : (s.raise src lo hi).loops = s.loops := (raise_within s src lo hi).loops_eq (by decide)
@[simp] theorem raise_rdl (s : State) (src lo hi : Nat) : (s.raise src lo hi).rdl = s.rdl := (raise_within s src lo hi).rdl_eq (by decide)
@[simp] theorem raise_net (s : State) (src lo hi : Nat) : (s.raise src lo hi).net = s.net := (raise_within s src lo hi).net_eq (by decide)
@[simp] theorem raise_ptp (s : State) (src lo hi : Nat) : (s.raise src lo hi).ptp = s.ptp := (raise_within s src lo hi).ptp_eq (by decide)
@[simp] theorem raise_hdp (s : State) (src lo hi : Nat) : (s.raise src lo hi).hdp = s.hdp := (raise_within s src lo hi).hdp_eq (by decide)
@[simp] theorem raise_ksap (s : State) (src lo hi : Nat) : (s.raise src lo hi).ksap = s.ksap := (raise_within s src lo hi).ksap_eq (by decide)
@[simp] theorem raise_toField (s : State) (src lo hi : Nat) : (s.raise src lo hi).toField = s.toField := (raise_within s src lo hi).toField_eq (by decide)
@[simp] theorem raise_toHost (s : State) (src lo hi : Nat) : (s.raise src lo hi).toHost = s.toHost := (raise_within s src lo hi).toHost_eq (by decide)
@[simp] theorem raise_outbox (s : State) (src lo hi : Nat) : (s.raise src lo hi).outbox = s.outbox := (raise_within s src lo hi).outbox_eq (by decide)
@[simp] theorem raise_freeCtr (s : State) (src lo hi : Nat) : (s.raise src lo hi).freeCtr = s.freeCtr := (raise_within s src lo hi).freeCtr_eq (by decide)

/-! ### Refused accesses (R99, R108) -/

theorem busError_reg (s : State) (m x : Nat) {a : Nat} (ha : eventTouches a = false) : (s.busError m x).reg a = s.reg a := by
  unfold State.busError
  rw [raise_reg _ (by decide) ha]
  rfl

theorem busError_told (s : State) (m x : Nat) : (s.busError m x).told 45 x m := raise_told _ (by decide) (by decide) _ _

theorem denyWrite_reg (s : State) (m : Master) (x : Nat) {a : Nat} (ha : eventTouches a = false) (h : a ≠ Reg.HDP_STAT) :
    (s.denyWrite m x).reg a = s.reg a := by
  unfold State.denyWrite
  split
  · rw [busError_reg _ _ _ ha]
    unfold State.hdpErr
    rw [raise_reg _ (by decide) ha]
    exact reg_setFlag_ne _ _ h
  · exact busError_reg _ _ _ ha

theorem denyWrite_told (s : State) (m : Master) (x : Nat) : (s.denyWrite m x).told 45 x m.num := by
  unfold State.denyWrite
  split
  · exact busError_told _ _ _
  · exact busError_told _ _ _

/-- A core pair may write registers at any time (R108). -/
theorem mayWriteRegs_of_isPair {s : State} {m : Master} (h : m.isPair = true) : s.mayWriteRegs m = true := by
  unfold State.mayWriteRegs
  rw [h]
  rfl

/-! ### Time passing -/

theorem cycles_regs (s : State) (n : Nat) : (s.cycles n).regs = s.regs := (cycles_within s n).regs_eq (by decide)

theorem toMono_within (s : State) (m : Nat) : Within 56 s (s.toMono m) := State_toMono_within rfl Within.refl

theorem toMono_regs (s : State) (m : Nat) : (s.toMono m).regs = s.regs := (toMono_within s m).regs_eq (by decide)

theorem toTime_within (s : State) (t : Nat) : Within 56 s (s.toTime t) := State_toTime_within rfl Within.refl

theorem toTime_regs (s : State) (t : Nat) : (s.toTime t).regs = s.regs := (toTime_within s t).regs_eq (by decide)

theorem toMono_fld (s : State) (m : Nat) (f : Field) : (s.toMono m).fld f = s.fld f := fld_of_regs (toMono_regs s m) f

theorem toTime_fld (s : State) (t : Nat) (f : Field) : (s.toTime t).fld f = s.fld f := fld_of_regs (toTime_regs s t) f

theorem toMono_flag (s : State) (m : Nat) (f : Field) : (s.toMono m).flag f = s.flag f := flag_of_fld (toMono_fld s m f)

theorem toTime_flag (s : State) (t : Nat) (f : Field) : (s.toTime t).flag f = s.flag f := flag_of_fld (toTime_fld s t f)

/-- A command bound to an elapsed instant happens at that instant or later. -/
theorem le_toMono_mono (s : State) (m : Nat) : m ≤ (s.toMono m).mono := by
  unfold State.toMono
  split
  · assumption
  · rw [cycles_mono]
    have := Nat.div_add_mod (m - s.mono + 10 - 1) 10
    have := Nat.mod_lt (m - s.mono + 10 - 1) (show 0 < 10 by decide)
    unfold ceilDiv
    omega

/-- A command bound to a PTP instant happens at that instant or later, once the time counter runs (R82). -/
theorem le_toTime_now (s : State) (t : Nat) (h : s.clockRuns) : t ≤ (s.toTime t).now := by
  obtain ⟨hl, ha⟩ := h
  unfold State.toTime
  split
  · assumption
  · rename_i hlt
    dsimp only
    rw [if_neg ha]
    have key := cycles_time s (ceilDiv ((t - s.now) * 2 ^ 28 - s.frac) (s.fld Reg.PTP_ADDEND_ADDEND)) hl
    have hfrac : (s.cycles (ceilDiv ((t - s.now) * 2 ^ 28 - s.frac) (s.fld Reg.PTP_ADDEND_ADDEND))).frac < 2 ^ 28 := by
      unfold State.cycles
      rw [if_pos hl]
      exact Nat.mod_lt _ (Nat.two_pow_pos 28)
    generalize s.fld Reg.PTP_ADDEND_ADDEND = a at *
    have hceil : (t - s.now) * 2 ^ 28 - s.frac ≤ ceilDiv ((t - s.now) * 2 ^ 28 - s.frac) a * a := by
      have hpos : 0 < a := Nat.pos_of_ne_zero ha
      generalize (t - s.now) * 2 ^ 28 - s.frac = x
      unfold ceilDiv
      have h1 := Nat.div_add_mod (x + a - 1) a
      have h2 := Nat.mod_lt (x + a - 1) hpos
      rw [Nat.mul_comm] at h1
      omega
    generalize ceilDiv ((t - s.now) * 2 ^ 28 - s.frac) a * a = y at *
    generalize (s.cycles _).now = n' at *
    generalize (s.cycles _).frac = f' at *
    omega

end Sys2Proof.Proofs

/-! Power, clocks and power states (02, 03). -/

namespace Sys2Proof.Proofs
open Sys2Proof Sys2Proof.Machine Sys2Proof.Laws

/-! ### The supply (R46, R50) -/

theorem vsup_lt (v : BitVec 10) : v.toNat < 2 ^ Reg.CPM_SUP_VSUP.width := v.isLt

/-- Settles O11: each command's writes, read back through its event. -/
theorem supplyBandsAreShown : Obligations.SupplyBandsAreShown := by
  unfold Obligations.SupplyBandsAreShown
  intro v pct s
  have hv := vsup_lt v
  refine ⟨⟨_, rfl, ?_⟩, fun h => ⟨_, if_neg (by omega), ?_⟩, fun h => if_pos h, ⟨_, rfl, ?_⟩, fun h => ⟨_, next_pos h, ?_⟩⟩
  · refine ⟨?_, ?_, ?_, raise_told _ (by decide) (by decide) _ _⟩
    · simp (disch := decide) [raise_fld, fld_setFlag_addr, fld_setFld_addr, State.vsup, fld_setFld_of_lt _ hv]
    · simp (disch := decide) [raise_cpm, fld_setFlag_addr, fld_setFld_of_lt]
    · simp (disch := decide) [raise_flag, flag_setFlag_same]
  · refine ⟨?_, ?_, ?_, raise_told _ (by decide) (by decide) _ _⟩
    · simp (disch := decide) [raise_fld, fld_setFlag_addr, fld_setFld_addr, State.vsup, fld_setFld_of_lt _ hv]
    · simp (disch := decide) [raise_cpm, fld_setFlag_addr, fld_setFld_of_lt]
    · simp (disch := decide) [raise_flag, flag_setFlag_same]
  · refine ⟨?_, ?_⟩
    · simp (disch := decide) [fld_setFld_addr, State.vsup, fld_setFld_of_lt _ hv]
    · simp (disch := decide) [fld_setFld_of_lt]
  · refine ⟨?_, rfl, rfl, rfl, raise_told _ (by decide) (by decide) _ _⟩
    simp (disch := decide) [↓fld_mk, raise_fld, fld_setFld_addr, fld_setFld_other, State.vsup, fld_setFld_of_lt _ hv]

/-! ### Clocks watched, the always-on domain, the dividers (R44, R76 to R78, R94, R95) -/

theorem slotCodeChange_eq {s : State} (code : BitVec 4) (h1 : s.cpm.phase ≠ .off) (h2 : s.cpm.phase ≠ .ready) : slotCodeChange code s =
    ((({ s with cpm := { s.cpm with slotNow := code.toNat } } : State).setFlag Reg.CPM_STAT_SLOT_CHG
      (decide (code.toNat ≠ s.fld Reg.CPM_STAT_SLOT))).raise 9 0 0) := if_neg (by simp [h1, h2])

theorem ioscTrim_small {s : State} {ppm : Int} (hs : s.trimSource = true) (hp : ppm.natAbs ≤ 100) :
    ioscTrim ppm s = (s.setFld Reg.CPM_TRIM_ERR_PPM (unsint 16 (satInt 16 ppm))).setFlag Reg.CPM_TRIM_TRIMMED true :=
  (if_pos hs).trans (if_pos hp)

/-- The trim moves by one step, and no end of its range is reached. -/
theorem ioscTrim_large {s : State} {ppm : Int} (hs : s.trimSource = true) (hp : 100 < ppm.natAbs) (h1 : 1 < s.fld Reg.CPM_TRIM_TRIM)
    (h2 : s.fld Reg.CPM_TRIM_TRIM < 1022) : ∃ u, (u = s.fld Reg.CPM_TRIM_TRIM + 1 ∨ u + 1 = s.fld Reg.CPM_TRIM_TRIM) ∧ u < 1024 ∧
      ioscTrim ppm s = ((s.setFld Reg.CPM_TRIM_ERR_PPM (unsint 16 (satInt 16 ppm))).setFlag Reg.CPM_TRIM_TRIMMED false).setFld
        Reg.CPM_TRIM_TRIM u := by
  have ht : ((s.setFld Reg.CPM_TRIM_ERR_PPM (unsint 16 (satInt 16 ppm))).setFlag Reg.CPM_TRIM_TRIMMED false).fld Reg.CPM_TRIM_TRIM =
      s.fld Reg.CPM_TRIM_TRIM := by simp (disch := decide) [fld_setFlag_other, fld_setFld_other]
  unfold ioscTrim
  dsimp only
  rw [if_pos hs, if_neg (by omega), ht]
  generalize s.fld Reg.CPM_TRIM_TRIM = n at h1 h2
  refine ⟨if decide (0 < ppm) = Config.trimUpFaster then n - 1 else min 1023 (n + 1), ?_, ?_, if_neg ?_⟩
  · split <;> omega
  · split <;> omega
  · split <;> omega

theorem fmStart_eq {s : State} {m : Master} {w : Word} (hm : m.isPair = true) (hw : w.getLsbD 24 = true) : fmStart m w s =
    (let t := ((((s.setFld Reg.CPM_FMCTRL_MEAS (wordField w 0 4)).setFld Reg.CPM_FMCTRL_REF (wordField w 4 4)).setFld
      Reg.CPM_FMCTRL_GATE (wordField w 8 16)).setFlag Reg.CPM_FMCTRL_BUSY true).setFlag Reg.CPM_FMCTRL_OVF false
     { t with cpm := { t.cpm with fm := some ⟨wordField w 0 4, wordField w 4 4, wordField w 8 16⟩ } }) :=
  (if_neg (fun h => h (mayWriteRegs_of_isPair hm))).trans (if_pos hw)

/-- Settles O12: each watch's writes, read back through its event. -/
theorem clockWatchesAndDividers : Obligations.ClockWatchesAndDividers := by
  unfold Obligations.ClockWatchesAndDividers
  refine ⟨fun s code ppm m w n => ⟨fun h1 h2 => ?slot, fun hs hp => ?small, fun hs hp h1 h2 => ?large, fun hx => ?xt32, fun hm hw => ?start,
    fun hb => ?done, ?save⟩, fun s m w => ?divider⟩
  case slot =>
    refine ⟨_, next_eq (slotCodeChange_eq code h1 h2), ?_, ?_, raise_told _ (by decide) (by decide) _ _⟩
    · simp (disch := decide) [raise_cpm_flag, flag_setFlag_same]
    · exact (congrArg Cpm.slotNow (raise_same _ _ _ _) : _)
  case small =>
    refine ⟨_, next_eq (ioscTrim_small hs hp), ?_, ?_⟩
    · simp (disch := decide) [flag_setFlag_same]
    · simp (disch := decide) [fld_setFlag_other, fld_setFld_other]
  case large =>
    obtain ⟨u, hu, hlt, he⟩ := ioscTrim_large hs hp h1 h2
    refine ⟨_, next_eq he, ?_, ?_⟩
    · simp (disch := decide) [flag_setFld_other, flag_setFlag_same]
    · rw [fld_setFld_of_lt _ hlt (by decide)]
      exact hu
  case xt32 =>
    refine ⟨_, next_neg (by simp [hx]), ?_, ?_, ?_, raise_told _ (by decide) (by decide) _ _⟩
    · simp (disch := decide) [raise_cpm_flag, flag_setFlag_addr, flag_setFlag_other, flag_setFlag_same]
    · simp (disch := decide) [raise_cpm_flag, flag_setFlag_addr, flag_setFlag_same]
    · simp (disch := decide) [raise_flag, flag_setFlag_same]
  case start =>
    refine ⟨_, next_eq (fmStart_eq hm hw), ?_, ?_, rfl⟩
    · rw [flag_mk]
      simp (disch := decide) [flag_setFlag_other, flag_setFlag_same]
    · rw [flag_mk]
      simp (disch := decide) [flag_setFlag_same]
  case done =>
    refine ⟨_, next_pos hb, ?_, ?_, ?_, raise_told _ (by decide) (by decide) _ _⟩
    · simp (disch := decide) [raise_flag, flag_setFlag_same]
    · have hlt : min 0xFFFFFFFF n < 2 ^ Reg.CPM_FMRES_COUNT.width := by show _ < 2 ^ 32; omega
      simp (disch := decide) [↓fld_mk, raise_fld, fld_setFlag_addr, fld_setFld_of_lt _ hlt]
    · simp (disch := decide) [↓flag_mk, raise_flag, flag_setFlag_other, flag_setFlag_same]
  case save =>
    refine ⟨_, rfl, ?_, ?_, ?_, exec_mem (i := .alwaysOnSave) rfl rfl⟩
    · exact (bumpOnly_fld _ _ (by decide)).trans (by rw [toMono_fld]; rfl)
    · exact (fld_setFld_addr _ _ (by decide)).trans (toMono_fld _ _ _)
    · exact (fld_setFld_addr _ _ (by decide)).trans (toMono_fld _ _ _)
  case divider =>
    have hset : ∀ a, a ≠ Reg.CPM_FAULT → (s.setFlag Reg.CPM_FAULT_DIVWR true).reg a = s.reg a := fun a ha => reg_setFlag_ne _ _ ha
    have hmay : (s.setFlag Reg.CPM_FAULT_DIVWR true).mayWriteRegs m = s.mayWriteRegs m := by
      unfold State.mayWriteRegs State.inHalt
      rw [fld_setFlag_addr _ _ (by decide)]
    refine ⟨clkdivWrite m w s, rfl, ?_⟩
    unfold clkdivWrite
    dsimp only
    rw [hmay]
    by_cases hm : s.mayWriteRegs m = true
    · rw [if_pos hm]
      exact ⟨flag_setFlag_same _ _ _ rfl (by decide), hset _ (by decide), fun h => by simp [hm] at h⟩
    · rw [if_neg hm]
      refine ⟨?_, (denyWrite_reg _ _ _ (by decide) (by decide)).trans (hset _ (by decide)), fun _ => denyWrite_told _ _ _⟩
      exact (flag_of_fld (fld_of_reg (denyWrite_reg _ _ _ (by decide) (by decide)))).trans (flag_setFlag_same _ _ _ rfl (by decide))

/-! ### Restarts (R92, R94, R468, R524) -/

/-- A read of a filtered store: the entries of a key stay or go together. -/
theorem Sparse.get_filter {α : Type} (d : Nat → α) (p : Nat → Bool) (k : Nat) : ∀ l : List (Nat × α),
    Sparse.get d (l.filter (fun e => p e.1)) k = if p k then Sparse.get d l k else d k
  | [] => by simp [Sparse.get]
  | (a, v) :: l => by
    rw [List.filter_cons]
    by_cases hk : a = k
    · subst hk
      cases hp : p a <;> simp [hp, Sparse.get, Sparse.get_filter d p a l]
    · cases hp : p a <;> simp [hk, Sparse.get, Sparse.get_filter d p k l]

/-- A restart keeps MRAM and loses the rest of memory (R94, R103). -/
theorem restart_byte (s : State) (c : RstCause) (a : Nat) : (s.restart c).byte a = if inMram a then s.byte a else 0 :=
  Sparse.get_filter memDefault inMram a s.mem

/-- The operating seconds survive a restart (R94). -/
theorem restart_opsec (s : State) (c : RstCause) : (s.restart c).fld Reg.CPM_OPSEC_OPSEC = s.fld Reg.CPM_OPSEC_OPSEC := by
  unfold State.restart
  dsimp only
  rw [fld_setFld_addr _ _ (by decide), fld_setFld_addr _ _ (by decide), fld_setFlag_addr _ _ (by decide), fld_setFld_addr _ _ (by decide),
    fld_setFld_addr _ _ (by decide)]
  exact congrArg (wordField · 0 32) (Sparse.get_filter regReset _ Reg.CPM_OPSEC s.regs)

theorem cpmCtrl_restart {s : State} {m : Master} {w : Word} (hm : m.isPair = true) (hk : wordField w 8 8 = 0xA5) (hw : w.getLsbD 0 = true) :
    cpmCtrl m w s = s.restart .swreq := by
  unfold cpmCtrl
  rw [if_neg (fun h => h (mayWriteRegs_of_isPair hm)), if_neg (fun h => h hk), if_pos hw]

theorem cpmCtrl_noKey {s : State} {m : Master} {w : Word} (hm : m.isPair = true) (hk : wordField w 8 8 ≠ 0xA5) : cpmCtrl m w s = s := by
  unfold cpmCtrl
  rw [if_neg (fun h => h (mayWriteRegs_of_isPair hm)), if_pos hk]

theorem recentRestarts_toMono (s : State) (m : Nat) : (s.toMono m).recentRestarts = s.recentRestarts := by
  unfold State.recentRestarts
  rw [toMono_fld, (toMono_within s m).cpm_eq (by decide)]

/-- The automatic restart, where its conditions hold. -/
theorem autoRestart_eq {s : State} {r : Nat} (hr : s.cpm.restartFrom = some r) (h : s.flag Reg.RDL_CFG_AUTORST = true ∧
    ¬ s.cpm.overrunStop = true ∧ s.recentRestarts.length < 3 ∧ s.inHalt = true ∧ (s.cpm.gaveUp = true ∨ s.fld Reg.CPM_STAT_SLOT = 1)) :
    ∃ x : State, r + 10000000000 ≤ x.mono ∧ x.recentRestarts = s.recentRestarts ∧ autoRestart s =
      ({ x with cpm := { x.cpm with autoRst := x.fld Reg.CPM_OPSEC_OPSEC :: x.recentRestarts } } : State).restart .auto := by
  unfold autoRestart
  rw [hr]
  exact ⟨_, le_toMono_mono s _, recentRestarts_toMono s _, if_pos h⟩

theorem autoRestart_not {s : State} {r : Nat} (hr : s.cpm.restartFrom = some r) (h : s.flag Reg.RDL_CFG_AUTORST = false ∨
    s.cpm.overrunStop = true ∨ 3 ≤ s.recentRestarts.length ∨ s.inHalt = false) : autoRestart s = s := by
  unfold autoRestart
  rw [hr]
  refine if_neg ?_
  rintro ⟨h1, h2, h3, h4, -⟩
  rcases h with h | h | h | h
  · simp [h] at h1
  · exact h2 h
  · omega
  · simp [h] at h4

/-- Settles O13: what `restart` keeps, and the conditions of the automatic one. -/
theorem restarts : Obligations.Restarts := by
  unfold Obligations.Restarts
  refine ⟨fun s m w hm => ⟨fun hk => ?noKey, fun hk hw => ?request⟩, fun s r hr => ⟨fun h1 h2 h3 h4 h5 => ?auto, fun h => ?not⟩⟩
  case noKey => exact ⟨next_eq (cpmCtrl_noKey hm hk), next_eq (cpmCtrl_noKey hm hk)⟩
  case request =>
    exact ⟨_, next_eq (cpmCtrl_restart hm hk hw), rfl, rfl, rfl, rfl, rfl, rfl, rfl, rfl, rfl, restart_opsec s _, restart_byte s _⟩
  case auto =>
    obtain ⟨x, hmono, hrec, hx⟩ := autoRestart_eq hr ⟨h1, by simp [h2], h3, h4, h5⟩
    exact ⟨_, next_eq hx, rfl, rfl, hmono, congrArg (·.length + 1) hrec⟩
  case not => exact next_eq (autoRestart_not hr h)

/-! ### IDLE and DOZE (R89 to R91) -/

theorem idleBit_fits {p : Nat} (h : p < 3) : (idleBit p).lo < 32 := by show 2 + p < 32; omega

theorem dozeEnter_eq {s : State} (h : s.cpm.phase = .run ∧ ¬ s.cpm.haltOnStop = true ∧ s.flag Reg.CPM_PSCFG_DOZE_EN = true ∧
    s.dozeOk = true ∧ s.fld Reg.CPM_STAT_PAIR_IDLE = 7) : dozeEnter s =
    (let t := (s.setFld Reg.CPM_STAT_PSTATE 1).setFlag Reg.CPM_STAT_PLL_LOCK false
     { t with cpm := { t.cpm with phase := .doze, waking := false } }) := if_pos h

/-- The wake keeps the phase: only time passes before the exit from DOZE starts. -/
theorem dozeWake_phase {s : State} (h : s.cpm.phase = .doze) : (dozeWake s).cpm.phase = .doze ∧ (dozeWake s).cpm.waking = true := by
  unfold dozeWake
  rw [if_pos h]
  refine ⟨?_, rfl⟩
  dsimp only
  split
  · rw [(toTime_within _ _).cpm_eq (by decide)]
    exact h
  · exact h

/-- Settles O14: each command's writes where its conditions hold. -/
theorem idleAndDoze : Obligations.IdleAndDoze := by
  unfold Obligations.IdleAndDoze
  refine ⟨fun s p => ⟨fun hb he => ?idle, fun hd => ?wake, fun hd hw => ?lock, fun hd => ?energy⟩, fun s => ⟨fun h1 h2 h3 h4 h5 => ?enter, fun h => ?stay⟩⟩
  case idle =>
    refine ⟨_, next_neg (by simp [hb, he]), flag_setFlag_same _ _ _ rfl (idleBit_fits p.isLt), fun a ha => ?_⟩
    exact reg_setFlag_ne _ _ ha
  case wake =>
    obtain ⟨hp, hw⟩ := dozeWake_phase hd
    exact ⟨_, rfl, hw, hp, (exec_within .dozeWake s _ rfl).mono⟩
  case lock =>
    refine ⟨_, next_pos ⟨hd, hw⟩, rfl, rfl, ?_, ?_⟩
    · exact (fld_setFlag_other _ _ (by decide) (by decide)).trans (fld_setFld_of_lt _ (by decide) (by decide))
    · exact flag_setFlag_same _ _ _ (by decide) (by decide)
  case energy => exact ⟨_, next_pos hd, rfl, rfl⟩
  case enter =>
    refine ⟨_, next_eq (dozeEnter_eq ⟨h1, by simp [h2], h3, h4, h5⟩), rfl, rfl, ?_, ?_⟩
    · exact (fld_setFlag_other _ _ (by decide) (by decide)).trans (fld_setFld_of_lt _ (by decide) (by decide))
    · exact flag_setFlag_same _ _ _ (by decide) (by decide)
  case stay =>
    refine next_neg ?_
    rintro ⟨-, -, h3, h4, h5⟩
    rcases h with h | h | h
    · simp [h] at h4
    · simp [h] at h3
    · exact h h5

end Sys2Proof.Proofs

/-! Memory errors and lockstep comparison (04, 17). -/

namespace Sys2Proof.Proofs
open Sys2Proof Sys2Proof.Machine Sys2Proof.Laws

/-! ### Statistics counters (R205) -/

/-- A counter with a sticky bit after one more count. -/
theorem bump_fld (s : State) {c f : Field} (hw : c.lo + c.width ≤ 32) (d : f.lo + f.width ≤ c.lo ∨ c.lo + c.width ≤ f.lo) :
    (s.bump c f).fld c = min c.max (s.fld c + 1) := by
  have hpos := Nat.two_pow_pos c.width
  unfold State.bump
  split
  · rename_i h
    rw [fld_setFld_of_lt _ (by unfold Field.max at h; omega) hw]
    omega
  · rename_i h
    rw [fld_setFlag_other _ _ hw d, fld_setFld_of_lt _ (by unfold Field.max; omega) hw]
    omega

theorem bump_fld_addr (s : State) {c f g : Field} (h1 : g.addr ≠ c.addr) (h2 : g.addr ≠ f.addr) : (s.bump c f).fld g = s.fld g :=
  fld_of_reg (bump_reg s h1 h2)

theorem bump_fld_other (s : State) {c f g : Field} (hw : g.lo + g.width ≤ 32) (d1 : c.lo + c.width ≤ g.lo ∨ g.lo + g.width ≤ c.lo)
    (d2 : f.lo + f.width ≤ g.lo ∨ g.lo + g.width ≤ f.lo) : (s.bump c f).fld g = s.fld g := by
  unfold State.bump
  split
  · exact fld_setFld_other _ _ hw d1
  · exact (fld_setFlag_other _ _ hw d2).trans (fld_setFld_other _ _ hw d1)

theorem bump_flag_addr (s : State) {c f g : Field} (h1 : g.addr ≠ c.addr) (h2 : g.addr ≠ f.addr) : (s.bump c f).flag g = s.flag g :=
  flag_of_fld (bump_fld_addr s h1 h2)

theorem bump_within (s : State) (c f : Field) : Within 1 s (s.bump c f) := State_bump_within rfl Within.refl

theorem bump_mem (s : State) (c f : Field) : (s.bump c f).mem = s.mem := (bump_within s c f).mem_eq (by decide)

/-! ### Memory errors (R101, R102, R104, R448) -/

theorem raise_phase (s : State) (src lo hi : Nat) : (s.raise src lo hi).cpm.phase = s.cpm.phase := (raise_same s src lo hi).phase

theorem raise_haltOnStop (s : State) (src lo hi : Nat) : (s.raise src lo hi).cpm.haltOnStop = s.cpm.haltOnStop := (raise_same s src lo hi).haltOnStop

theorem mramEcc_haltOnStop (s : State) (a m : Nat) (syn : BitVec 8) : (s.mramEcc a m (.uncorrectable syn)).cpm.haltOnStop = s.cpm.haltOnStop := by
  unfold State.mramEcc
  rw [raise_haltOnStop, bump_cpm]
  rfl

/-- The phase an uncorrectable error is judged in. -/
theorem sramEcc_phase (s : State) (a m : Nat) (syn : BitVec 8) :
    (((s.sramNote a m true syn).bump Reg.CMP_SUNC_COUNT Reg.CMP_SUNC_SAT).raise 41 a m).cpm.phase = s.cpm.phase := by
  rw [raise_phase, bump_cpm]
  rfl

/-- Without a running station an uncorrectable error is noted and counted, and has no other effect. -/
theorem sramEcc_idle {s : State} (a m : Nat) (syn : BitVec 8) (h1 : s.cpm.phase ≠ .run) (h2 : s.cpm.phase ≠ .doze) :
    s.sramEcc a m (.uncorrectable syn) = ((s.sramNote a m true syn).bump Reg.CMP_SUNC_COUNT Reg.CMP_SUNC_SAT).raise 41 a m :=
  unitFault_idle _ _ _ _ _ (by rwa [sramEcc_phase]) (by rwa [sramEcc_phase])

theorem sramEcc_halts {s : State} (a m : Nat) (syn : BitVec 8) (h : s.cpm.phase = .run) :
    (s.sramEcc a m (.uncorrectable syn)).cpm.haltOnStop = true :=
  unitFault_halts _ _ _ _ _ (.inl (by rwa [sramEcc_phase]))

/-- A word of a scrub pass that is not the last. -/
theorem execScrubRead_sram {s : State} {a : Nat} (e : Ecc) (h : inSram a = true) : execScrubRead a e false s = .next (s.sramEcc a 5 e) := by
  unfold execScrubRead
  simp [h]

theorem execScrubRead_last {s : State} {a : Nat} : execScrubRead a .clean true s =
    .next ((s.bump Reg.CMP_SCRUB_SPASS Reg.CMP_SCRUB_SAT).raise 42 0 0) := by
  unfold execScrubRead
  simp [State.sramEcc]

theorem execMramScrubRead_mram {s : State} {a pct : Nat} (e : Ecc) (h : inMram a = true) :
    execMramScrubRead a e pct s = .next ((s.mramEcc a 5 e).setFld Reg.CMP_SCRUB_MPCT (min 100 pct)) := by
  unfold execMramScrubRead
  simp [h]

/-- Settles O15: the note, the counter and the event of each finding. -/
theorem memoryErrorsAreCounted : Obligations.MemoryErrorsAreCounted := by
  unfold Obligations.MemoryErrorsAreCounted
  intro s a pct syn
  refine ⟨fun h => ⟨_, execScrubRead_sram _ h, ?corrected⟩, fun h h1 h2 => ⟨_, execScrubRead_sram _ h, ?uncorrectable⟩,
    fun h h1 => ⟨_, execScrubRead_sram _ h, sramEcc_halts _ _ _ h1⟩, ⟨_, execScrubRead_last, raise_told _ (by decide) (by decide) _ _, ?pass⟩,
    fun h => ⟨_, execMramScrubRead_mram _ h, ?mram⟩, fun h => ⟨_, execMramScrubRead_mram _ h, ?mramBad⟩⟩
  case corrected =>
    refine ⟨raise_told _ (by decide) (by decide) _ _, ?_, ?_, (raise_mem _ _ _ _).trans (bump_mem _ _ _)⟩
    · refine (raise_fld _ (by decide) (by decide)).trans ((bump_fld _ (by decide) (by decide)).trans ?_)
      rw [State.sramNote, fld_setReg_ne _ _ (by decide), fld_setReg_ne _ _ (by decide)]
      rfl
    · refine (raise_reg _ (by decide) (by decide)).trans ((bump_reg _ (by decide) (by decide)).trans ?_)
      exact (reg_setReg_ne _ _ (by decide)).trans (reg_setReg_same _ _ _)
  case uncorrectable =>
    rw [sramEcc_idle a 5 syn h1 h2]
    refine ⟨raise_told _ (by decide) (by decide) _ _, ?_⟩
    refine (raise_fld _ (by decide) (by decide)).trans ((bump_fld _ (by decide) (by decide)).trans ?_)
    rw [State.sramNote, fld_setReg_ne _ _ (by decide), fld_setReg_ne _ _ (by decide)]
    rfl
  case pass => exact (raise_fld _ (by decide) (by decide)).trans (bump_fld _ (by decide) (by decide))
  case mram =>
    refine ⟨(told_setFld (by decide) (by decide)).2 (raise_told _ (by decide) (by decide) _ _), ?_, fld_setFld_of_lt _ ?_ (by decide)⟩
    · refine (fld_setFld_addr _ _ (by decide)).trans ((raise_fld _ (by decide) (by decide)).trans ((bump_fld _ (by decide) (by decide)).trans ?_))
      rw [State.mramNote, fld_setReg_ne _ _ (by decide), fld_setReg_ne _ _ (by decide)]
      rfl
    · show min 100 pct < 2 ^ 7
      omega
  case mramBad =>
    exact ⟨(told_setFld (by decide) (by decide)).2 (raise_told _ (by decide) (by decide) _ _), mramEcc_haltOnStop s a 5 syn⟩

/-! ### Lockstep comparison (R440, R442, R444, R445) -/

/-- A register outside CMP_STAT keeps its value where pairs are stopped. -/
theorem stopPairs_reg {l a : Nat} (h : a ≠ Reg.CMP_STAT) : ∀ (ps : List Nat) (s : State), (s.stopPairs l ps).reg a = s.reg a
  | [], _ => rfl
  | p :: ps, s => by
    unfold State.stopPairs
    rw [stopPairs_reg h ps]
    split
    · rfl
    · exact reg_setFlag_ne _ _ h

theorem stopPairs_cpm (l : Nat) : ∀ (ps : List Nat) (s : State), (s.stopPairs l ps).cpm = s.cpm
  | [], _ => rfl
  | p :: ps, s => by
    unfold State.stopPairs
    rw [stopPairs_cpm l ps]
    split <;> rfl

/-- A pair marked failed stays so. -/
theorem stopPairs_keeps {l k : Nat} (hk : k < 32) : ∀ (ps : List Nat) (s : State), (∀ p ∈ ps, p < 32) → s.flag (failedBit k) = true →
    (s.stopPairs l ps).flag (failedBit k) = true
  | [], _, _, h => h
  | p :: ps, s, hl, h => by
    have hp := hl p (by simp)
    unfold State.stopPairs
    apply stopPairs_keeps hk ps _ (fun q hq => hl q (by simp [hq]))
    split
    · exact h
    · by_cases he : p = k
      · subst he
        exact flag_setFlag_same _ _ _ rfl hk
      · rw [flag_setFlag_other _ _ (by show k + 1 ≤ 32; omega) (by show p + 1 ≤ k ∨ k + 1 ≤ p; omega)]
        exact h

/-- A pair with a differing lane is marked failed. -/
theorem stopPairs_failed {l k : Nat} (hk : k < 32) (hb : bits l (8 * k) 8 ≠ 0) {ps : List Nat} (hl : ∀ p ∈ ps, p < 32) (h : k ∈ ps) (s : State) :
    (s.stopPairs l ps).flag (failedBit k) = true := by
  induction ps generalizing s with
  | nil => simp at h
  | cons p ps ih =>
    have hs : ∀ q ∈ ps, q < 32 := fun q hq => hl q (by simp [hq])
    unfold State.stopPairs
    rcases List.mem_cons.1 h with rfl | h
    · rw [if_neg hb]
      exact stopPairs_keeps hk ps _ hs (flag_setFlag_same _ _ _ rfl hk)
    · exact ih hs h _

/-- What a mismatch latches before the unit reacts. -/
def mismatchLatched (s : State) (l : Nat) (syn : BitVec 64) : State :=
  (((((s.stopPairs l [0, 1, 2]).setReg Reg.CMP_FIRST (BitVec.ofNat 32 (lowestLane l + 32))).setReg Reg.CMP_LANES (BitVec.ofNat 32 l)).setReg
    Reg.CMP_SYN_LO (syn.extractLsb' 0 32)).setReg Reg.CMP_SYN_HI (syn.extractLsb' 32 32)).raise 32 (lowestLane l + 32) l

theorem lockstepMismatch_eq {s : State} {lanes : BitVec 24} {syn : BitVec 64} (h : s.liveLanes lanes ≠ 0) :
    lockstepMismatch lanes syn s = (mismatchLatched s (s.liveLanes lanes) syn).unitFault 1 0 32 true := if_neg h

theorem mismatchLatched_phase (s : State) (l : Nat) (syn : BitVec 64) : (mismatchLatched s l syn).cpm.phase = s.cpm.phase := by
  unfold mismatchLatched
  rw [raise_phase]
  exact congrArg Cpm.phase (stopPairs_cpm l _ s)

theorem mismatchLatched_idle {s : State} {lanes : BitVec 24} {syn : BitVec 64} (h : s.liveLanes lanes ≠ 0) (h1 : s.cpm.phase ≠ .run)
    (h2 : s.cpm.phase ≠ .doze) : lockstepMismatch lanes syn s = mismatchLatched s (s.liveLanes lanes) syn :=
  (lockstepMismatch_eq h).trans (unitFault_idle _ _ _ _ _ (by rwa [mismatchLatched_phase]) (by rwa [mismatchLatched_phase]))

/-- A pair whose eight lanes pass its self-test runs again (R445). -/
theorem pairRestart_passes (s : State) {p : Nat} (hp : p < 32) (lanes : BitVec 24) (h : lanesOf lanes p = 255) :
    (s.pairRestart p lanes).flag (failedBit p) = false ∧ (s.pairRestart p lanes).told 34 (p + 256) 0 := by
  unfold State.pairRestart
  dsimp only
  have ht : eventTouches Reg.CMP_STAT = false := by decide
  refine ⟨?_, ?_⟩
  · rw [raise_flag _ (by decide) ht, flag_setFlag_same _ _ _ rfl hp]
    simp [h]
  · simpa [h, b2n] using raise_told _ (src := 34) (by decide) (by decide) (p + 256 * b2n (decide (lanesOf lanes p = 255))) 0

theorem cmpPairRestart_one {s : State} {w : Word} {lanes : BitVec 24} (hh : s.inHalt = true) (hk : wordField w 8 8 = 0x96) (h1 : w.getLsbD 1 = true)
    (h2 : w.getLsbD 2 = false) (hf : s.flag (failedBit 1) = true) : cmpPairRestart .pair0 w lanes s = s.pairRestart 1 lanes := by
  unfold cmpPairRestart
  rw [if_neg (fun h => h (mayWriteRegs_of_isPair rfl)), if_neg (by simp [hh, hk])]
  simp only [h1, h2, hf, and_self, if_true, Bool.false_eq_true, false_and, if_false]

/-- Settles O16: the latched lanes, the reaction of the unit, and the restarts of a pair. -/
theorem lockstepReactions : Obligations.LockstepReactions := by
  unfold Obligations.LockstepReactions
  intro s lanes syn w p
  refine ⟨fun h h1 h2 => ⟨_, next_eq (mismatchLatched_idle h h1 h2), ?latched⟩, fun h h1 => ⟨_, next_eq (lockstepMismatch_eq h), ?leaves⟩,
    fun h => ⟨_, next_neg (by simp [h]), ?parity⟩, fun hh hk h1 h2 hf hl => ⟨_, next_eq (cmpPairRestart_one hh hk h1 h2 hf), ?keyed⟩,
    fun hf hh hn hl => ⟨_, next_pos ⟨hf, hh, hn⟩, ?own⟩, fun hn => next_neg (by omega)⟩
  case latched =>
    generalize s.liveLanes lanes = l
    refine ⟨?_, ?_, ?_, ?_, fun hb => ?_, raise_told _ (by decide) (by decide) _ _⟩
    · refine (raise_reg _ (by decide) (by decide)).trans ?_
      rw [reg_setReg_ne _ _ (by decide), reg_setReg_ne _ _ (by decide), reg_setReg_ne _ _ (by decide), reg_setReg_same]
    · refine (raise_reg _ (by decide) (by decide)).trans ?_
      rw [reg_setReg_ne _ _ (by decide), reg_setReg_ne _ _ (by decide), reg_setReg_same]
    · refine (raise_reg _ (by decide) (by decide)).trans ?_
      rw [reg_setReg_ne _ _ (by decide), reg_setReg_same]
    · exact (raise_reg _ (by decide) (by decide)).trans (reg_setReg_same _ _ _)
    · have ht : eventTouches Reg.CMP_STAT = false := by decide
      refine (raise_flag _ (by decide) ht).trans ?_
      have hne : ∀ {a : Nat}, Reg.CMP_STAT ≠ a → (failedBit p).addr ≠ a := fun h => h
      rw [flag_setReg_ne _ _ (hne (by decide)), flag_setReg_ne _ _ (hne (by decide)), flag_setReg_ne _ _ (hne (by decide)), flag_setReg_ne _ _ (hne (by decide))]
      exact stopPairs_failed (by omega) hb (by decide) (by fin_cases p <;> decide) s
  case leaves => exact unitFault_halts _ _ _ _ _ (.inl (by rwa [mismatchLatched_phase]))
  case parity => exact ⟨bump_fld _ (by decide) (by decide), bump_cpm _ _ _, bump_mem _ _ _⟩
  case keyed => exact pairRestart_passes s (by decide) lanes hl
  case own => exact pairRestart_passes _ (by decide) lanes hl

end Sys2Proof.Proofs

/-! The queue unit's rounds and the event recorder (05, 19). -/

namespace Sys2Proof.Proofs
open Sys2Proof Sys2Proof.Machine Sys2Proof.Laws

/-! ### Rounds of the queue unit (R130 to R132, R137) -/

/-- The windows between the router's and the recorder's are outside what an occurrence touches. -/
theorem eventTouches_between {a : Nat} (h1 : 0x40011020 ≤ a) (h2 : a < 0x400A0000) : eventTouches a = false := by
  unfold eventTouches Reg.CPM_STAT Reg.EVR_STAT Reg.EVR_PEAK Reg.EVR_LOST
  simp only [Bool.or_eq_false_iff, Bool.and_eq_false_iff, decide_eq_false_iff_not]
  omega

theorem loseRound_reg (s : State) {k a : Nat} (ha : eventTouches a = false) (h1 : a ≠ Reg.QUE_STAT k) (h2 : a ≠ Reg.QUE_TRUMPS k) :
    (s.loseRound k).reg a = s.reg a := by
  unfold State.loseRound
  dsimp only
  split
  · rw [raise_reg _ (by decide) ha, bump_reg _ h2 h2, reg_setFld_ne _ _ h1, bumpOnly_reg_ne _ h1]
  · rw [reg_setFld_ne _ _ h1, bumpOnly_reg_ne _ h1]

/-- The registers that a queue's own rounds depend on. -/
def ofQueue (q a : Nat) : Prop := a = Reg.QUE_CFG q ∨ a = Reg.QUE_BASE q ∨ a = Reg.QUE_STAT q ∨ a = Reg.QUE_AGE_LIMIT

theorem losers_reg {q a : Nat} (hq : q < 64) (ha : ofQueue q a) : ∀ (l : List Nat) (s : State), (∀ k ∈ l, k ≠ q) →
    (l.foldl (fun (s : State) (k : Nat) => s.loseRound k) s).reg a = s.reg a
  | [], _, _ => rfl
  | k :: l, s, h => by
    have hk := h k (by simp)
    unfold ofQueue Reg.QUE_CFG Reg.QUE_BASE Reg.QUE_STAT Reg.QUE_AGE_LIMIT at ha
    rw [List.foldl_cons, losers_reg hq ha l _ (fun j hj => h j (by simp [hj]))]
    exact loseRound_reg s (eventTouches_between (by omega) (by omega)) (by unfold Reg.QUE_STAT; omega) (by unfold Reg.QUE_TRUMPS; omega)

theorem losers_within : ∀ (l : List Nat) (s : State), Within 1285 s (l.foldl (fun (s : State) (k : Nat) => s.loseRound k) s)
  | [], _ => Within.refl
  | k :: l, s => Within.trans (State_loseRound_within rfl Within.refl) (losers_within l (s.loseRound k))

/-- The state of a round once the losers have aged and the winner's descriptor has left the ring. -/
def roundServed (s : State) (q : Nat) : State :=
  (((List.range 64).filter (fun k => s.competes k && decide (k ≠ q))).foldl (fun (s : State) (k : Nat) => s.loseRound k) s).winRound q

theorem queRound_pair {s : State} {q : Nat} (egr : Nat) (h : s.winner = some q) (hc : s.fld (Reg.QUE_CFG_CONS q) < 3) : queRound egr s =
    ((roundServed s q).setReg (Reg.QUE_POP q) (BitVec.ofNat 32 (s.ringAddr q (s.qHead q)))).queAttn (s.fld (Reg.QUE_CFG_CONS q)) q := by
  unfold queRound
  rw [h]
  exact if_pos hc

theorem roundServed_que {s : State} {q : Nat} (hq : q < 64) :
    Sparse.get (fun _ => 0) (roundServed s q).que.head q = (s.qHead q + 1) % 2 ^ s.fld (Reg.QUE_CFG_SIZE q) ∧
      Sparse.get (fun _ => 63) (roundServed s q).que.ptr (s.eclass q) = q := by
  unfold roundServed
  have hne : ∀ k ∈ (List.range 64).filter (fun k => s.competes k && decide (k ≠ q)), k ≠ q := by simp
  generalize (List.range 64).filter _ = l at hne
  have hr : ∀ a, ofQueue q a → (l.foldl (fun (s : State) (k : Nat) => s.loseRound k) s).reg a = s.reg a := fun a ha => losers_reg hq ha l s hne
  have hque : (l.foldl (fun (s : State) (k : Nat) => s.loseRound k) s).que = s.que := (losers_within l s).que_eq (by decide)
  generalize l.foldl (fun (s : State) (k : Nat) => s.loseRound k) s = x at hr hque
  have hcls : x.eclass q = s.eclass q := by
    unfold State.eclass
    rw [fld_of_reg (hr _ (.inl rfl)), fld_of_reg (hr _ (.inr (.inr (.inl rfl)))), fld_of_reg (hr _ (.inr (.inr (.inr rfl))))]
  have hhead : x.qHead q = s.qHead q := by unfold State.qHead; rw [hque]
  have hsize : ∀ u v w, (((x.setFld (Reg.QUE_STAT_LEVEL q) u).setFld (Reg.QUE_STAT_AGE q) v).setFld (Reg.QUE_STAT_ECLASS q) w).fld (Reg.QUE_CFG_SIZE q) =
      s.fld (Reg.QUE_CFG_SIZE q) := by
    intro u v w
    have hn : (Reg.QUE_CFG_SIZE q).addr ≠ Reg.QUE_STAT q := by show Reg.QUE_CFG q ≠ _; unfold Reg.QUE_CFG Reg.QUE_STAT; omega
    rw [fld_setFld_addr _ _ hn, fld_setFld_addr _ _ hn, fld_setFld_addr _ _ hn]
    exact fld_of_reg (hr _ (.inl rfl))
  refine ⟨?_, ?_⟩
  · refine (Sparse.get_set_same _ _ _ _).trans ?_
    rw [hsize, hhead]
  · rw [← hcls]
    exact Sparse.get_set_same _ _ _ _

theorem roundServed_mem (s : State) (q : Nat) : (roundServed s q).mem = s.mem := by
  unfold roundServed
  exact ((State_winRound_within (k := 2049) rfl Within.refl).mem_eq (by decide)).trans ((losers_within _ s).mem_eq (by decide))

theorem queAttn_within (s : State) (p q : Nat) : Within 1285 s (s.queAttn p q) := State_queAttn_within rfl Within.refl

theorem doneEv_within (s : State) (q : Nat) (d : List Byte) : Within 1285 s (s.doneEv q d) := State_doneEv_within rfl Within.refl

theorem queRel_eq {s : State} {m : Master} {q : Nat} (hm : m.isPair = true) (h : s.reg (Reg.QUE_POP q) ≠ 0) :
    ∃ addr, queRel m q s = ((s.setReg (Reg.QUE_POP q) 0).doneEv q (s.bytes (s.reg (Reg.QUE_POP q)).toNat 16)).poolFree q addr := by
  have hpop : (s.reg (Reg.QUE_POP q)).toNat ≠ 0 := fun h0 => h (BitVec.eq_of_toNat_eq h0)
  have hrel : queRelease m q s = (s.setReg (Reg.QUE_POP q) 0).doneEv q (s.bytes (s.reg (Reg.QUE_POP q)).toNat 16) :=
    (if_neg (fun h => h (mayWriteRegs_of_isPair hm))).trans (if_neg h)
  rw [← hrel]
  exact ⟨_, if_pos ⟨mayWriteRegs_of_isPair hm, hpop⟩⟩

theorem poolFree_within (s : State) (q a : Nat) : Within 4194304 s (s.poolFree q a) := State_poolFree_within rfl Within.refl

theorem reg_of_regs {s t : State} (h : t.regs = s.regs) (a : Nat) : t.reg a = s.reg a := by unfold State.reg; rw [h]

theorem queBaseWrite_eq {s : State} {m : Master} {q : Nat} {w : Word} (hm : m.isPair = true) : queCfgWrite m q true w s =
    if s.queIdle q then s.setReg (Reg.QUE_BASE q) w else s.raise 68 (q + 256 * 5) m.num :=
  (if_neg (fun h => h (mayWriteRegs_of_isPair hm))).trans (if_pos rfl)

/-- Settles O20: the winner's delivery, the release, and the base of an idle queue. -/
theorem roundServesTheWinner : Obligations.RoundServesTheWinner := by
  unfold Obligations.RoundServesTheWinner
  intro s m q egr w
  have hpop : eventTouches (Reg.QUE_POP q) = false := eventTouches_between (by unfold Reg.QUE_POP; omega) (by unfold Reg.QUE_POP; omega)
  have hbase : eventTouches (Reg.QUE_BASE q) = false := eventTouches_between (by unfold Reg.QUE_BASE; omega) (by unfold Reg.QUE_BASE; omega)
  have hattn : Reg.QUE_POP q < 0x40020020 ∨ 0x40020038 ≤ Reg.QUE_POP q := by unfold Reg.QUE_POP; omega
  refine ⟨fun h hc => ⟨_, next_eq (queRound_pair egr h hc), ?served⟩, fun h => next_eq (by unfold queRound; rw [h]),
    fun hm h => ?released, fun hm h => ⟨_, next_eq ((queBaseWrite_eq hm).trans (if_pos h)), ?taken⟩,
    fun hm h => ⟨_, next_eq ((queBaseWrite_eq hm).trans (if_neg (by simp [h]))), ?kept⟩⟩
  case served =>
    obtain ⟨hhead, hptr⟩ := roundServed_que (s := s) q.isLt
    have hmem := roundServed_mem s q
    generalize roundServed s q = x at hhead hptr hmem
    refine ⟨?_, ?_, (queAttn_reg _ hc hpop hattn).trans (reg_setReg_same _ _ _), ?_⟩
    · rw [(queAttn_within _ _ _).que_eq (by decide)]
      exact hhead
    · rw [(queAttn_within _ _ _).que_eq (by decide)]
      exact hptr
    · exact ((queAttn_within _ _ _).mem_eq (by decide)).trans ((setReg_mem _ _ _).trans hmem)
  case released =>
    obtain ⟨addr, he⟩ := queRel_eq hm h
    refine ⟨_, next_eq he, ?_, ((poolFree_within _ _ _).mem_eq (by decide)).trans ((doneEv_within _ _ _).mem_eq (by decide))⟩
    rw [reg_of_regs ((poolFree_within _ _ _).regs_eq (by decide))]
    exact (doneEv_reg _ _ _ hpop hattn).trans (reg_setReg_same _ _ _)
  case taken => exact ⟨reg_setReg_same _ _ _, rfl⟩
  case kept => exact ⟨raise_reg _ (by decide) hbase, raise_told _ (by decide) (by decide) _ _⟩

end Sys2Proof.Proofs

/-! The event recorder (19). -/

namespace Sys2Proof.Proofs
open Sys2Proof Sys2Proof.Machine Sys2Proof.Laws

/-! ### Occurrences and the recorder's own status -/

/-- The router's part of an occurrence keeps every register outside the router but CPM_STAT. -/
theorem occur_reg_outside (s : State) {src lo hi a : Nat} (hs : src < 256) (ha : a < 0x40010400 ∨ 0x40011020 ≤ a) (hc : a ≠ Reg.CPM_STAT) :
    (s.occur src lo hi).reg a = s.reg a := by
  have n1 : a ≠ Reg.EVT_CNT src := by unfold Reg.EVT_CNT; omega
  have n2 : a ≠ Reg.EVT_INFO_LO src := by unfold Reg.EVT_INFO_LO; omega
  have n3 : a ≠ Reg.EVT_INFO_HI src := by unfold Reg.EVT_INFO_HI; omega
  have n4 : a ≠ Reg.EVT_PEND (src / 32) := by unfold Reg.EVT_PEND; omega
  have base : (((s.bump (Reg.EVT_CNT_COUNT src) (Reg.EVT_CNT_SAT src)).setReg (Reg.EVT_INFO_LO src) (BitVec.ofNat 32 lo)).setReg
      (Reg.EVT_INFO_HI src) (BitVec.ofNat 32 hi)).reg a = s.reg a := by
    rw [reg_setReg_ne _ _ n3, reg_setReg_ne _ _ n2, bump_reg _ (by exact n1) (by exact n1)]
  have idle : ∀ (t : State) (p : Nat), t.reg a = s.reg a → ((t.setPending src true).setFlag (idleBit p) false).reg a = s.reg a := by
    intro t p ht
    rw [reg_setFlag_ne _ _ (by exact hc)]
    unfold State.setPending
    rw [reg_setFld_ne _ _ (by exact n4), ht]
  unfold State.occur
  dsimp only
  split
  · split
    · exact idle _ _ base
    · exact idle _ _ base
  · exact base

/-- A field of EVR_STAT above the buffer's fill. -/
def recStatus (f : Field) : Prop := f.addr = Reg.EVR_STAT ∧ 7 ≤ f.lo ∧ f.lo + f.width ≤ 32

theorem showBuf_status (s : State) {f : Field} (h : recStatus f) : s.showBuf.fld f = s.fld f := by
  obtain ⟨ha, hl, hw⟩ := h
  unfold State.showBuf
  rw [fld_setFld_addr _ _ (by rw [ha]; decide), fld_setFld_other (g := Reg.EVR_STAT_BUF) _ _ hw (.inl hl)]

theorem recClaim_status (s : State) {cls src lo hi time flags : Nat} {l : Option Nat} {f : Field} (h : recStatus f) :
    (s.recClaim cls src lo hi time flags l).fld f = s.fld f := by
  unfold State.recClaim
  split
  · show State.fld (State.showBuf _) f = _
    rw [showBuf_status _ h]
    exact fld_of_reg (recEntry_reg _ _ _ _ _ _ _ _ _)
  · have hne : f.addr ≠ Reg.EVR_LOST := by rw [h.1]; decide
    have hb : (s.bump Reg.EVR_LOST_COUNT Reg.EVR_LOST_SAT).fld f = s.fld f := bump_fld_addr s hne hne
    dsimp only
    split
    · refine (fld_of_reg (occur_reg_outside _ (by decide) (by rw [h.1]; decide) (by rw [h.1]; decide))).trans ?_
      exact hb
    · exact hb

/-- An occurrence keeps the recorder's status but for its buffer's fill. -/
theorem raise_status (s : State) {src lo hi : Nat} {f : Field} (hs : src < 256) (h : recStatus f) : (s.raise src lo hi).fld f = s.fld f := by
  have ho : (s.occur src lo hi).fld f = s.fld f := fld_of_reg (occur_reg_outside s hs (by rw [h.1]; decide) (by rw [h.1]; decide))
  unfold State.raise State.recEvent
  split
  · show State.fld (if (s.occur src lo hi).recFree = true then _ else _) f = _
    split
    · exact (recClaim_status _ h).trans ho
    · exact (recClaim_status _ h).trans ho
  · exact ho

theorem raise_status_flag (s : State) {src lo hi : Nat} {f : Field} (hs : src < 256) (h : recStatus f) : (s.raise src lo hi).flag f = s.flag f :=
  flag_of_fld (raise_status s hs h)

theorem recStatus_clearing : recStatus Reg.EVR_STAT_CLEARING := ⟨rfl, by decide, by decide⟩
theorem recStatus_fill : recStatus Reg.EVR_STAT_FO_FILL := ⟨rfl, by decide, by decide⟩
theorem recStatus_stop : recStatus Reg.EVR_STAT_FO_STOP := ⟨rfl, by decide, by decide⟩
theorem recStatus_full : recStatus Reg.EVR_STAT_FO_FULL := ⟨rfl, by decide, by decide⟩

/-! ### A record in MRAM (R481, R484) -/

/-- A number read back from the middle of written bytes. -/
theorem rdLE_wrBytes_mid (s : State) (a n v : Nat) (pre post : List Byte) :
    (s.wrBytes a (pre ++ (leBytes n v ++ post))).rdLE (a + pre.length) n = v % 256 ^ n := by
  rw [← leNat_leBytes n v]
  unfold State.rdLE
  congr 1
  apply List.ext_getElem
  · simp [State.bytes, leBytes_length]
  · intro i h1 h2
    rw [leBytes_length] at h2
    have hi : pre.length + i < (pre ++ (leBytes n v ++ post)).length := by
      simp only [List.length_append, leBytes_length]; omega
    simp only [State.bytes, List.getElem_map, List.getElem_range]
    rw [Nat.add_assoc, byte_wrBytes_in _ _ _ _ hi]
    rw [List.getElem_append_right (by omega)]
    simp only [Nat.add_sub_cancel_left]
    rw [List.getElem_append_left]

theorem snap_length : ∀ l : List (Nat × Word), (l.flatMap (fun p => leBytes 4 p.1 ++ leBytes 4 p.2.toNat)).length = 8 * l.length
  | [] => rfl
  | p :: l => by
    rw [List.flatMap_cons, List.length_append, snap_length l, List.length_append, leBytes_length, leBytes_length, List.length_cons]
    omega

theorem body_length (e : RecEntry) (fo : Bool) (us : Nat) (h : e.snap.length ≤ 26) : (e.body fo us).length = 240 := by
  unfold RecEntry.body
  simp only [List.length_append, leBytes_length, List.length_replicate, snap_length]
  omega

/-- A record carries its sequence number at both ends. -/
theorem rdLE_record (s : State) (a seq us : Nat) (e : RecEntry) (fo : Bool) (h : e.snap.length ≤ 26) :
    (s.wrBytes a (e.record seq fo us)).rdLE a 4 = seq % 256 ^ 4 ∧ (s.wrBytes a (e.record seq fo us)).rdLE (a + 248) 4 = seq % 256 ^ 4 := by
  unfold RecEntry.record
  dsimp only
  generalize hc : leBytes 4 (crc32c (leBytes 4 seq ++ e.body fo us)) = c
  have hcl : c.length = 4 := by rw [← hc, leBytes_length]
  refine ⟨?_, ?_⟩
  · have := rdLE_wrBytes_mid s a 4 seq [] (e.body fo us ++ (c ++ (leBytes 4 seq ++ leBytes 4 0)))
    simpa only [List.nil_append, List.append_assoc, List.length_nil, Nat.add_zero] using this
  · have := rdLE_wrBytes_mid s a 4 seq (leBytes 4 seq ++ e.body fo us ++ c) (leBytes 4 0)
    rw [List.length_append, List.length_append, leBytes_length, body_length e fo us h, hcl] at this
    simpa only [List.append_assoc, Nat.reduceAdd] using this

theorem record_length (e : RecEntry) (seq us : Nat) (fo : Bool) (h : e.snap.length ≤ 26) : (e.record seq fo us).length = 256 := by
  unfold RecEntry.record
  simp only [List.length_append, leBytes_length, body_length e fo us h]

/-! ### Writing a record (R484, R490) -/

theorem recPlace_fill {s : State} (h : s.fld Reg.EVR_STAT_FO_FILL < 511) :
    s.recPlace 1 = (s.fld Reg.EVR_STAT_FO_FILL, s.setFld Reg.EVR_STAT_FO_FILL (s.fld Reg.EVR_STAT_FO_FILL + 1)) := by
  unfold State.recPlace
  rw [if_neg (fun h => absurd h.1 (by decide))]
  exact if_pos h

theorem recFreeze_off {s : State} (h : s.flag Reg.EVR_STAT_FO_STOP = false ∨ s.fld Reg.EVR_STAT_FO_FILL ≠ 511) : s.recFreeze = s := by
  unfold State.recFreeze
  refine if_neg ?_
  rintro ⟨h1, h2, -⟩
  rcases h with h | h
  · simp [h] at h1
  · exact h h2

/-- The registers after a record has gone to the next place of the first-out area. -/
def recordCounted (s : State) : State :=
  (s.setFld Reg.EVR_SEQ_NEXT (s.fld Reg.EVR_SEQ_NEXT + 1)).setFld Reg.EVR_STAT_FO_FILL (s.fld Reg.EVR_STAT_FO_FILL + 1)

theorem recordCounted_fill {s : State} (h : s.fld Reg.EVR_STAT_FO_FILL < 511) :
    (recordCounted s).fld Reg.EVR_STAT_FO_FILL = s.fld Reg.EVR_STAT_FO_FILL + 1 :=
  fld_setFld_of_lt _ (by show _ < 512; omega) (by decide)

theorem recordCounted_stop (s : State) : (recordCounted s).flag Reg.EVR_STAT_FO_STOP = s.flag Reg.EVR_STAT_FO_STOP :=
  (flag_setFld_other _ _ (by decide) (by decide)).trans (flag_setFld_addr _ _ (by decide))

theorem recPut_eq {s : State} {e : RecEntry} (hc : e.cls = 1) (h : s.fld Reg.EVR_STAT_FO_FILL < 511)
    (hf : s.flag Reg.EVR_STAT_FO_STOP = false ∨ s.fld Reg.EVR_STAT_FO_FILL ≠ 510) :
    s.recPut e = (recordCounted s).wrBytes (recAddr (s.fld Reg.EVR_STAT_FO_FILL))
      (e.record (s.fld Reg.EVR_SEQ_NEXT) (decide (s.fld Reg.EVR_STAT_FO_FILL < 512)) 0) := by
  have hfill : (s.setFld Reg.EVR_SEQ_NEXT (s.fld Reg.EVR_SEQ_NEXT + 1)).fld Reg.EVR_STAT_FO_FILL = s.fld Reg.EVR_STAT_FO_FILL :=
    fld_setFld_addr _ _ (by decide)
  have hkeep : ∀ a bs, ((recordCounted s).wrBytes a bs).recFreeze = (recordCounted s).wrBytes a bs := by
    intro a bs
    apply recFreeze_off
    rw [flag_of_fld (fld_of_regs (wrBytes_regs _ _ _) _), fld_of_regs (wrBytes_regs _ _ _), recordCounted_stop, recordCounted_fill h]
    exact hf.imp_right (fun hn => by omega)
  unfold State.recPut
  dsimp only
  rw [hc, recPlace_fill (by rw [hfill]; exact h), hfill]
  exact hkeep _ _

theorem recDone_eq {s : State} (rest : List RecEntry) (h : s.evr.lost = none) :
    s.recDone rest = ({ s with evr := { s.evr with buf := rest } } : State).showBuf := by
  unfold State.recDone State.recLoss
  have : (({ s with evr := { s.evr with buf := rest } } : State).showBuf).evr.lost = none := h
  rw [this]

theorem recNext_eq {s : State} {e : RecEntry} {rest : List RecEntry} (hb : s.evr.buf = e :: rest) : s.recNext = some (s.recPlace e.cls).1 := by
  unfold State.recNext
  rw [hb]
  rfl

/-- The buffer once its first entry has been written: the rest of it is shown, the loss note is as it was. -/
def bufferShown (s : State) (evr : Recorder) : State := ({ s with evr := evr } : State).showBuf

theorem bufferShown_evr (s : State) (evr : Recorder) : (bufferShown s evr).evr = evr := rfl

theorem bufferShown_mem (s : State) (evr : Recorder) : (bufferShown s evr).mem = s.mem := rfl

theorem bufferShown_reg (s : State) (evr : Recorder) {a : Nat} (h1 : a ≠ Reg.EVR_STAT) (h2 : a ≠ Reg.EVR_PEAK) :
    (bufferShown s evr).reg a = s.reg a := showBuf_reg _ h1 h2

theorem bufferShown_status (s : State) (evr : Recorder) {f : Field} (h : recStatus f) : (bufferShown s evr).fld f = s.fld f := showBuf_status _ h

/-- A record of class EVENT, written at its place. -/
theorem recordWrite_eq {s : State} {e : RecEntry} {rest : List RecEntry} (hb : s.evr.buf = e :: rest) (hcl : s.flag Reg.EVR_STAT_CLEARING = false)
    (hc : e.cls = 1) (h : s.fld Reg.EVR_STAT_FO_FILL < 511) (hl : s.evr.lost = none)
    (hf : s.flag Reg.EVR_STAT_FO_STOP = false ∨ s.fld Reg.EVR_STAT_FO_FILL ≠ 510) : recordWrite .clean s =
      bufferShown ((recordCounted s).wrBytes (recAddr (s.fld Reg.EVR_STAT_FO_FILL))
        (e.record (s.fld Reg.EVR_SEQ_NEXT) (decide (s.fld Reg.EVR_STAT_FO_FILL < 512)) 0)) { s.evr with buf := rest } := by
  unfold recordWrite
  rw [if_neg (by simp [hcl]), recNext_eq hb]
  show s.recWriteOne = _
  unfold State.recWriteOne
  rw [hb]
  show State.recHalt _ e.cls = _
  have hput := recPut_eq hc h hf
  have hlost : (s.recPut e).evr.lost = none := by rw [hput]; exact hl
  unfold State.recHalt
  rw [if_neg (by simp [hc]), recDone_eq rest hlost, hput]
  rfl

/-! ### ARM and CLEAR (R491, R492) -/

/-- The first-out area after it has been armed. -/
theorem arm_after (s : State) : s.arm.fld Reg.EVR_STAT_FO_FILL = 0 ∧ s.arm.flag Reg.EVR_STAT_FO_STOP = false ∧
    s.arm.flag Reg.EVR_STAT_FO_FULL = false ∧ s.arm.flag Reg.EVR_STAT_CLEARING = s.flag Reg.EVR_STAT_CLEARING := by
  unfold State.arm
  dsimp only
  refine ⟨?_, ?_, ?_, ?_⟩
  · rw [raise_status _ (by decide) recStatus_fill]
    simp (disch := decide) [fld_setFlag_other, fld_setFld_of_lt]
  · rw [raise_status_flag _ (by decide) recStatus_stop]
    simp (disch := decide) [flag_setFlag_other, flag_setFlag_same]
  · rw [raise_status_flag _ (by decide) recStatus_full]
    simp (disch := decide) [flag_setFlag_same]
  · rw [raise_status_flag _ (by decide) recStatus_clearing]
    simp (disch := decide) [flag_setFlag_other, flag_setFld_other, flag_setReg_ne]

theorem arm_armseq (s : State) : s.arm.reg Reg.EVR_ARMSEQ = s.reg Reg.EVR_SEQ := by
  unfold State.arm
  dsimp only
  rw [raise_reg _ (by decide) (by decide), reg_setFlag_ne _ _ (by decide), reg_setFlag_ne _ _ (by decide), reg_setFld_ne _ _ (by decide)]
  exact reg_setReg_same _ _ _

theorem arm_told (s : State) : s.arm.told 234 (s.reg Reg.EVR_SEQ).toNat 0 := by
  unfold State.arm
  dsimp only
  rw [reg_setFlag_ne _ _ (by decide), reg_setFlag_ne _ _ (by decide), reg_setFld_ne _ _ (by decide), reg_setReg_same]
  exact raise_told _ (by decide) (by decide) _ _

theorem arm_within (s : State) : Within 1285 s s.arm := State_arm_within rfl Within.refl

theorem evrCtrl_arm {s : State} {m : Master} {w : Word} (hm : m.isPair = true) (hk : wordField w 8 8 = 0xE7) (h0 : w.getLsbD 0 = true)
    (h1 : w.getLsbD 1 = false) : evrCtrl m w s = s.arm := by
  unfold evrCtrl
  rw [if_neg (fun h => h (mayWriteRegs_of_isPair hm)), if_neg (fun h => h hk)]
  simp only [h0, h1, if_true, Bool.false_eq_true, false_and, if_false]

theorem evrCtrl_clear {s : State} {m : Master} {w : Word} (hm : m.isPair = true) (hk : wordField w 8 8 = 0xE7) (h0 : w.getLsbD 0 = false) :
    evrCtrl m w s = if w.getLsbD 1 ∧ s.inHalt then (s.setReg Reg.EVR_CLRSEQ (s.reg Reg.EVR_SEQ)).setFlag Reg.EVR_STAT_CLEARING true else s := by
  unfold evrCtrl
  rw [if_neg (fun h => h (mayWriteRegs_of_isPair hm)), if_neg (fun h => h hk)]
  simp only [h0, Bool.false_eq_true, if_false]

theorem evrCtrl_noKey {s : State} {m : Master} {w : Word} (hm : m.isPair = true) (hk : wordField w 8 8 ≠ 0xE7) : evrCtrl m w s = s :=
  (if_neg (fun h => h (mayWriteRegs_of_isPair hm))).trans (if_pos hk)

theorem rdLE_congr {s t : State} {a n : Nat} (h : ∀ i < n, t.byte (a + i) = s.byte (a + i)) : t.rdLE a n = s.rdLE a n := by
  unfold State.rdLE State.bytes
  congr 1
  apply List.map_congr_left
  intro i hi
  exact h i (List.mem_range.1 hi)

theorem rdLE_wrLE_out (s : State) {a n v b m : Nat} (h : b + m ≤ a ∨ a + n ≤ b) : (s.wrLE a n v).rdLE b m = s.rdLE b m :=
  rdLE_congr fun i hi => byte_wrBytes_out s _ (by rw [leBytes_length]; omega)

/-- An emptied record reads 0 at its head and all ones at its end. -/
theorem emptyRecord_ends (s : State) (i : Nat) :
    (s.emptyRecord i).rdLE (recAddr i) 4 = 0 ∧ (s.emptyRecord i).rdLE (recAddr i + 248) 4 = 0xFFFFFFFF := by
  unfold State.emptyRecord
  refine ⟨?_, rdLE_wrLE _ _ _ _⟩
  rw [rdLE_wrLE_out _ (by omega), rdLE_wrLE, Nat.zero_mod]

theorem emptyRecord_out (s : State) {i b : Nat} (h : b + 4 ≤ recAddr i ∨ recAddr i + 252 ≤ b) : (s.emptyRecord i).rdLE b 4 = s.rdLE b 4 := by
  unfold State.emptyRecord
  rw [rdLE_wrLE_out _ (by omega), rdLE_wrLE_out _ (by omega)]

theorem emptyRecords_above {b : Nat} : ∀ (n : Nat) (s : State), recAddr n ≤ b → (s.emptyRecords n).rdLE b 4 = s.rdLE b 4
  | 0, _, _ => rfl
  | n + 1, s, h => by
    unfold recAddr at h
    unfold State.emptyRecords
    rw [emptyRecords_above n _ (by unfold recAddr; omega), emptyRecord_out _ (by unfold recAddr; omega)]

theorem emptyRecords_ends {i n : Nat} (h : i < n) (s : State) :
    (s.emptyRecords n).rdLE (recAddr i) 4 = 0 ∧ (s.emptyRecords n).rdLE (recAddr i + 248) 4 = 0xFFFFFFFF := by
  induction n generalizing s with
  | zero => omega
  | succ n ih =>
    unfold State.emptyRecords
    by_cases he : i = n
    · subst he
      rw [emptyRecords_above i _ (Nat.le_refl _), emptyRecords_above i _ (Nat.le_add_right _ _)]
      exact emptyRecord_ends s i
    · exact ih (by omega) _

/-- The end of an erasure, with the emptied memory named. -/
theorem evrClearEnd_eq {s : State} (h : s.flag Reg.EVR_STAT_CLEARING = true) :
    ∃ x : State, (∀ i < 8192, x.rdLE (recAddr i) 4 = 0 ∧ x.rdLE (recAddr i + 248) 4 = 0xFFFFFFFF) ∧
      evrClearEnd s = ((x.setFlag Reg.EVR_STAT_CLEARING false).arm).raise 233 0 0 :=
  ⟨s.emptyRecords 8192, fun _ hi => emptyRecords_ends hi s, if_pos h⟩

theorem rdLE_of_mem {s t : State} (h : t.mem = s.mem) (a n : Nat) : t.rdLE a n = s.rdLE a n := by
  unfold State.rdLE State.bytes State.byte
  rw [h]

/-! ### Software records and the window (R482, R488, R494) -/

theorem evrSwrec_eq {s : State} {m : Master} {w : Word} (hm : m.isPair = true) :
    evrSwrec m w s = s.recClaim 3 0 (wordField w 16 16) m.num s.now 0 (some (wordField w 0 4)) :=
  if_neg (fun h => h (mayWriteRegs_of_isPair hm))

theorem recEntry_evr (s : State) (c r lo hi t f : Nat) (l : Option Nat) : (s.recEntry c r lo hi t f l).1.evr = s.evr :=
  (State_recEntry_within1 (k := 4) rfl Within.refl).evr_eq (by decide)

theorem recClaim_within (s : State) (c r lo hi t f : Nat) (l : Option Nat) : Within 1285 s (s.recClaim c r lo hi t f l) :=
  State_recClaim_within rfl Within.refl

/-- A record claimed at the end of the buffer. -/
theorem recClaim_claimed {s : State} (h : s.recFree = true) (c r lo hi t f : Nat) (l : Option Nat) :
    (s.recClaim c r lo hi t f l).evr.buf = s.evr.buf ++ [(s.recEntry c r lo hi t f l).2] := by
  unfold State.recClaim
  rw [if_pos h]
  show (s.recEntry c r lo hi t f l).1.evr.buf ++ _ = _
  rw [recEntry_evr]

theorem occur_evr (s : State) (src lo hi : Nat) : (s.occur src lo hi).evr = s.evr :=
  (State_occur_within (k := 257) rfl Within.refl).evr_eq (by decide)

/-- A record dropped: the buffer stays, and the loss is noted. -/
theorem recClaim_dropped {s : State} (h : s.recFree = false) (c r lo hi t f : Nat) (l : Option Nat) :
    (s.recClaim c r lo hi t f l).evr.buf = s.evr.buf ∧ (s.recClaim c r lo hi t f l).evr.lost.isSome = true := by
  have hb : (s.bump Reg.EVR_LOST_COUNT Reg.EVR_LOST_SAT).evr = s.evr := (bump_within s _ _).evr_eq (by decide)
  have hbuf := congrArg Recorder.buf hb
  unfold State.recClaim
  rw [if_neg (by simp [h])]
  dsimp only
  split
  · rw [occur_evr]
    exact ⟨hbuf, rfl⟩
  · exact ⟨hbuf, rfl⟩

/-- The registers after a written record: the sequence number and the fill count on. -/
theorem recordCounted_seq {s : State} (h : s.fld Reg.EVR_SEQ_NEXT < 0xFFFFFFFF) :
    (recordCounted s).fld Reg.EVR_SEQ_NEXT = s.fld Reg.EVR_SEQ_NEXT + 1 :=
  (fld_setFld_addr _ _ (by decide)).trans (fld_setFld_of_lt _ (by show _ < 4294967296; omega) (by decide))

theorem byte_of_mem {s t : State} (h : t.mem = s.mem) (a : Nat) : t.byte a = s.byte a := by
  unfold State.byte
  rw [h]

theorem returned_ret (s : State) (m v : Nat) : (s.ret m v).returned m = BitVec.ofNat 32 v := Sparse.get_set_same _ _ _ _

/-- Settles O23: the writer's record, ARM and CLEAR, software records, and the window. -/
theorem recorder : Obligations.Recorder := by
  unfold Obligations.Recorder
  refine ⟨fun s e rest hb hcl => ⟨fun hc h hs hl hn hf => ?written, fun ecc h => by simp [hcl] at h⟩,
    fun s m w i hm => ⟨fun hk h0 h1 => ?arm, fun hk h0 h1 hh => ?clear, fun hk h0 hh => ?noHalt, fun hk => ⟨next_eq (evrCtrl_noKey hm hk),
      next_eq (evrCtrl_noKey hm hk)⟩, fun h => ?cleared⟩, fun s m w k hm => ⟨fun h => ?claimed, fun h => ?dropped, ?window⟩⟩
  case written =>
    obtain ⟨hhead, htail⟩ := rdLE_record (recordCounted s) (recAddr (s.fld Reg.EVR_STAT_FO_FILL)) (s.fld Reg.EVR_SEQ_NEXT) 0 e
      (decide (s.fld Reg.EVR_STAT_FO_FILL < 512)) hn
    have hseq : s.fld Reg.EVR_SEQ_NEXT % 256 ^ 4 = s.fld Reg.EVR_SEQ_NEXT := Nat.mod_eq_of_lt (Nat.lt_trans hs (by decide))
    refine ⟨_, next_eq (recordWrite_eq hb hcl hc h hl hf), congrArg Recorder.buf (bufferShown_evr _ _), ?_, ?_, ?_, ?_, fun a ha => ?_⟩
    · exact (rdLE_of_mem (bufferShown_mem _ _) _ _).trans (hhead.trans hseq)
    · exact (rdLE_of_mem (bufferShown_mem _ _) _ _).trans (htail.trans hseq)
    · exact (fld_of_reg (bufferShown_reg _ _ (by decide) (by decide))).trans ((fld_of_regs (wrBytes_regs _ _ _) _).trans (recordCounted_seq hs))
    · exact (bufferShown_status _ _ recStatus_fill).trans ((fld_of_regs (wrBytes_regs _ _ _) _).trans (recordCounted_fill h))
    · refine (byte_of_mem (bufferShown_mem _ _) _).trans ((byte_wrBytes_out _ _ (by rw [record_length e _ _ _ hn]; exact ha)).trans ?_)
      exact byte_of_mem ((setFld_mem _ _ _).trans (setFld_mem _ _ _)) a
  case arm =>
    obtain ⟨hfill, hstop, hfull, -⟩ := arm_after s
    exact ⟨_, next_eq (evrCtrl_arm hm hk h0 h1), hfill, hstop, hfull, arm_armseq s, arm_told s, (arm_within s).mem_eq (by decide)⟩
  case clear =>
    refine ⟨_, next_eq ((evrCtrl_clear hm hk h0).trans (if_pos ⟨h1, hh⟩)), flag_setFlag_same _ _ _ (by decide) (by decide), ?_, rfl⟩
    exact (reg_setFlag_ne _ _ (by decide)).trans (reg_setReg_same _ _ _)
  case noHalt => exact next_eq ((evrCtrl_clear hm hk h0).trans (if_neg (by simp [hh])))
  case cleared =>
    obtain ⟨x, hx, he⟩ := evrClearEnd_eq h
    obtain ⟨hfill, -, -, hclr⟩ := arm_after (x.setFlag Reg.EVR_STAT_CLEARING false)
    have hmem : (((x.setFlag Reg.EVR_STAT_CLEARING false).arm).raise 233 0 0).mem = x.mem :=
      (raise_mem _ _ _ _).trans (((arm_within _).mem_eq (by decide)).trans (setFlag_mem _ _ _))
    refine ⟨_, next_eq he, ?_, ?_, raise_told _ (by decide) (by decide) _ _, fun hi => ?_⟩
    · rw [raise_status_flag _ (by decide) recStatus_clearing, hclr]
      exact flag_setFlag_same _ _ _ (by decide) (by decide)
    · rw [raise_status _ (by decide) recStatus_fill, hfill]
    · rw [rdLE_of_mem hmem, rdLE_of_mem hmem]
      exact hx i hi
  case claimed =>
    exact ⟨_, _, next_eq (evrSwrec_eq hm), recClaim_claimed h _ _ _ _ _ _ _, rfl, rfl, rfl, rfl, (recClaim_within _ _ _ _ _ _ _ _).mem_eq (by decide)⟩
  case dropped => exact ⟨_, next_eq (evrSwrec_eq hm), recClaim_dropped h _ _ _ _ _ _ _⟩
  case window =>
    refine ⟨_, rfl, ?_⟩
    unfold evrWinRead
    dsimp only
    split
    · rename_i h
      rw [if_pos ⟨h.1, h.2.2⟩]
      exact ⟨returned_ret _ _ _, fld_setFld_same _ _ _ (by decide), rfl⟩
    · rename_i h
      rw [if_neg (fun hk => h ⟨hk.1, hm, hk.2⟩)]
      exact ⟨returned_ret _ _ _, rfl, rfl⟩

end Sys2Proof.Proofs

/-! Releases, commits, applies and views of the tasks (01, 04, 07, 18). -/

namespace Sys2Proof.Proofs
open Sys2Proof Sys2Proof.Machine Sys2Proof.Laws

/-! ### What an operation does to the table of tasks -/

theorem task_of_tasks {s t : State} (h : t.tasks = s.tasks) (c : Nat) : t.task c = s.task c := by
  unfold State.task
  rw [h]

theorem setTask_length (s : State) (c : Nat) (t : Task) : (s.setTask c t).tasks.length = s.tasks.length := List.length_set

/-- A task that differs from the reset one has a place in the table. -/
theorem lt_of_task_ne {s : State} {c : Nat} (h : s.task c ≠ Task.reset) : c < s.tasks.length := by
  by_contra hc
  exact h (by unfold State.task; rw [List.getD_eq_default _ _ (by omega)])

theorem lt_of_nextRel {s : State} {c t : Nat} (h : (s.task c).nextRel = some t) : c < s.tasks.length :=
  lt_of_task_ne fun h0 => by rw [h0] at h; cases h

theorem lt_of_latching {s : State} {c : Nat} (h : (s.task c).latching = true) : c < s.tasks.length :=
  lt_of_task_ne fun h0 => by rw [h0] at h; cases h

theorem lt_of_applyAt {s : State} {c a : Nat} (h : (s.task c).applyAt = some a) : c < s.tasks.length :=
  lt_of_task_ne fun h0 => by rw [h0] at h; cases h

/-- Every task of one state is related to the task of the same class in another, in tables of one length. -/
def TasksLike (R : Task → Task → Prop) (s t : State) : Prop := t.tasks.length = s.tasks.length ∧ ∀ c, R (s.task c) (t.task c)

theorem TasksLike.of_eq {R : Task → Task → Prop} (hR : ∀ k, R k k) {s t : State} (h : t.tasks = s.tasks) : TasksLike R s t :=
  ⟨by rw [h], fun c => by rw [task_of_tasks h]; exact hR _⟩

theorem TasksLike.trans {R : Task → Task → Prop} (hR : ∀ j k l, R j k → R k l → R j l) {s t u : State} (h : TasksLike R s t) (g : TasksLike R t u) :
    TasksLike R s u := ⟨g.1.trans h.1, fun c => hR _ _ _ (h.2 c) (g.2 c)⟩

theorem TasksLike.setTask {R : Task → Task → Prop} (hR : ∀ k, R k k) (s : State) {c : Nat} {x : Task} (h : R (s.task c) x) :
    TasksLike R s (s.setTask c x) := by
  refine ⟨setTask_length _ _ _, fun d => ?_⟩
  by_cases hd : d = c
  · subst hd
    by_cases hl : d < s.tasks.length
    · rw [task_setTask_same _ _ hl]
      exact h
    · have : s.setTask d x = s := by unfold State.setTask; rw [List.set_eq_of_length_le (by omega)]
      rw [this]
      exact hR _
  · rw [task_setTask_ne _ _ hd]
    exact hR _

/-! ### Applying Tricks (R22) -/

/-- Only what an apply sets differs. -/
def Applied (k k' : Task) : Prop := ∃ a b p q, k' = { k with applied := a, appliedTrick := b, applyAt := p, appliedAt := q }

theorem Applied.refl (k : Task) : Applied k k := ⟨_, _, _, _, rfl⟩

theorem Applied.trans (j k l : Task) : Applied j k → Applied k l → Applied j l := by
  rintro ⟨_, _, _, _, rfl⟩ ⟨_, _, _, _, rfl⟩
  exact ⟨_, _, _, _, rfl⟩

/-- A task after its committed Trick has applied at `a`. -/
def appliedAs (s : State) (c a : Nat) : Task :=
  { s.task c with applied := (s.task c).committed, appliedTrick := some (s.fld (Reg.IMG_TRICK_COMMITTED c)), applyAt := none, appliedAt := a }

theorem safApply_within (s : State) : Within 67108864 s s.safApply := State_safApply_within rfl Within.refl

theorem applyTrick_tasks (s : State) (c a : Nat) : (s.applyTrick c a).tasks = (s.setTask c (appliedAs s c a)).tasks := by
  unfold State.applyTrick
  dsimp only
  split
  · exact (safApply_within _).tasks_eq (by decide)
  · rfl

theorem applyTrick_regs (s : State) (c a : Nat) : (s.applyTrick c a).regs = (s.setFlag (Reg.IMG_TRICK_PENDING c) false).regs := by
  unfold State.applyTrick
  dsimp only
  split
  · exact (safApply_within _).regs_eq (by decide)
  · rfl

theorem applyTrick_applied (s : State) (c a : Nat) : TasksLike Applied s (s.applyTrick c a) := by
  have h : TasksLike Applied s (s.setTask c (appliedAs s c a)) := TasksLike.setTask Applied.refl s ⟨_, _, _, _, rfl⟩
  exact h.trans Applied.trans (TasksLike.of_eq Applied.refl (applyTrick_tasks s c a))

/-- One task's part of the applies that have come due. -/
def applyOne (t : Nat) (s : State) (c : Nat) : State :=
  match (s.task c).applyAt with
  | some a => if a ≤ t then s.applyTrick c a else s
  | none => s

theorem applyDue_eq (s : State) (t : Nat) : s.applyDue t = (List.range 9).foldl (applyOne t) s := rfl

theorem applyOne_cases (t : Nat) (s : State) (c : Nat) : (∃ a, applyOne t s c = s.applyTrick c a) ∨ applyOne t s c = s := by
  unfold applyOne
  split
  · split
    · exact .inl ⟨_, rfl⟩
    · exact .inr rfl
  · exact .inr rfl

theorem applies_applied (t : Nat) : ∀ (l : List Nat) (s : State), TasksLike Applied s (l.foldl (applyOne t) s)
  | [], s => TasksLike.of_eq Applied.refl rfl
  | c :: l, s => by
    refine TasksLike.trans Applied.trans ?_ (applies_applied t l (applyOne t s c))
    rcases applyOne_cases t s c with ⟨a, h⟩ | h
    · rw [h]
      exact applyTrick_applied s c a
    · rw [h]
      exact TasksLike.of_eq Applied.refl rfl

theorem applyDue_applied (s : State) (t : Nat) : TasksLike Applied s (s.applyDue t) := by
  rw [applyDue_eq]
  exact applies_applied t _ s

theorem applyDue_within (s : State) (t : Nat) : Within 68157441 s (s.applyDue t) := State_applyDue_within rfl Within.refl

/-! ### Releases and latches (R18, R189, R195) -/

/-- A task whose latch of the release at `t` is under way. -/
def LatchingAs (t p d : Nat) (k : Task) : Prop := k.latching = true ∧ k.tRel = t ∧ k.sysP = p ∧ k.deadline = d

theorem beginLatch_task (s : State) {c : Nat} (t p d : Nat) (h : c < s.tasks.length) : LatchingAs t p d ((s.beginLatch c t p d).task c) := by
  have : ∀ k : Task, k.latching = true → k.tRel = t → k.sysP = p → k.deadline = d → LatchingAs t p d ((s.setTask c k).task c) := by
    intro k h1 h2 h3 h4
    rw [task_setTask_same _ _ h]
    exact ⟨h1, h2, h3, h4⟩
  exact this _ rfl rfl rfl rfl

theorem beginLatch_length (s : State) (c t p d : Nat) : (s.beginLatch c t p d).tasks.length = s.tasks.length := setTask_length _ _ _

/-- The latch of a task's inputs keeps what its release set. -/
theorem latchTask_task {s : State} {c t p d : Nat} (q period : Nat) (hc : c < s.tasks.length) (h : LatchingAs t p d (s.task c)) :
    LatchingAs t p d ((s.latchTask c q period).task c) ∧ (s.latchTask c q period).tasks.length = s.tasks.length := by
  unfold State.latchTask
  extract_lets rs r y l k
  have hr : y.tasks = s.tasks := (State_latchRoutes_within2 (k := 525573) rfl Within.refl).tasks_eq (by decide)
  have hk : k = s.task c := task_of_tasks hr c
  clear_value r y l k
  refine ⟨?_, (setTask_length _ _ _).trans (congrArg List.length hr)⟩
  rw [task_setTask_same _ _ (by rw [hr]; exact hc), hk]
  exact h

theorem safLatch_tasks (s : State) (t p : Nat) : (s.safLatch t p).tasks = s.tasks := (State_safLatch_within (k := 336069893) rfl Within.refl).tasks_eq (by decide)

theorem latchOthers_tasks (s : State) (c t p : Nat) : (s.latchOthers c t p).tasks = s.tasks :=
  (State_latchOthers_within (k := 138937605) rfl Within.refl).tasks_eq (by decide)

theorem repairLoops_tasks (s : State) : s.repairLoops.tasks = s.tasks := (State_repairLoops_within (k := 138512695296) rfl Within.refl).tasks_eq (by decide)

theorem stnsAt_within (s : State) (t : Nat) : Within 402654469 s (s.stnsAt t) := State_stnsAt_within rfl Within.refl

/-- Before the latch, the applies and the stations of the instant leave the table its length. -/
theorem atRelease_length (s : State) (t : Nat) : (((s.toTime t).applyDue t).stnsAt t).tasks.length = s.tasks.length := by
  rw [(stnsAt_within _ _).tasks_eq (by decide), (applyDue_applied _ _).1, (toTime_within _ _).tasks_eq (by decide)]

/-- The task after its release. -/
theorem taskRelease_after {s : State} {c t : Nat} {r : TaskRec} (hn : (s.task c).nextRel = some t) (hr : s.taskRec c = some r)
    (h : ¬ (s.cpm.phase ≠ .run ∨ ¬ s.inControl ∨ (s.task c).latching ∨ (s.task c).executing ∨ s.heldBySwap t)) :
    LatchingAs t r.period (t + 1000 * r.period - 1000 * r.lout) ((taskRelease c s).task c) ∧
      ((taskRelease c s).task c).nextRel = some (t + 1000 * r.period) ∧ (taskRelease c s).flag Reg.IMG_STAT_RELEASING = true := by
  have hc := lt_of_nextRel hn
  unfold taskRelease
  rw [hn, hr]
  dsimp only
  rw [if_neg h]
  have h1 := atRelease_length s t
  generalize ((s.toTime t).applyDue t).stnsAt t = x1 at h1
  have hc1 : c < x1.tasks.length := by omega
  have h2 := beginLatch_task x1 t r.period (t + 1000 * r.period - 1000 * r.lout) hc1
  have l2 := beginLatch_length x1 c t r.period (t + 1000 * r.period - 1000 * r.lout)
  generalize x1.beginLatch c t r.period (t + 1000 * r.period - 1000 * r.lout) = x2 at h2 l2
  have h3 : (if c = x2.fld Reg.SAF_STAT_TASK then x2.safLatch t (1000 * r.period) else x2).tasks = x2.tasks := by
    split
    · exact safLatch_tasks _ _ _
    · rfl
  generalize (if c = x2.fld Reg.SAF_STAT_TASK then x2.safLatch t (1000 * r.period) else x2) = x3 at h3
  rw [← task_of_tasks h3 c] at h2
  have hc3 : c < x3.tasks.length := by rw [h3, l2]; exact hc1
  obtain ⟨h4, l4⟩ := latchTask_task t (1000 * r.period) hc3 h2
  generalize x3.latchTask c t (1000 * r.period) = x4 at h4 l4
  have h5 : (if c = 0 then (x4.latchOthers c t (1000 * r.period)).repairLoops else x4.latchOthers c t (1000 * r.period)).tasks = x4.tasks := by
    split
    · exact (repairLoops_tasks _).trans (latchOthers_tasks _ _ _ _)
    · exact latchOthers_tasks _ _ _ _
  generalize (if c = 0 then (x4.latchOthers c t (1000 * r.period)).repairLoops else x4.latchOthers c t (1000 * r.period)) = x5 at h5
  rw [← task_of_tasks h5 c] at h4
  have hc5 : c < x5.tasks.length := by rw [h5, l4]; exact hc3
  have htask : ∀ k : Task, ((x5.setTask c k).setFlag Reg.IMG_STAT_RELEASING true).task c = k := fun k => task_setTask_same _ _ hc5
  rw [htask]
  exact ⟨h4, rfl, flag_setFlag_same _ _ _ (by decide) (by decide)⟩

theorem fCycleStart_after {s : State} {t : Nat} {r : TaskRec} (hn : (s.task 8).nextRel = some t) (hr : s.taskRec 8 = some r)
    (h : ¬ (s.cpm.phase ≠ .run ∨ ¬ s.inControl ∨ (s.task 8).latching ∨ (s.task 8).executing ∨ s.heldBySwap t)) :
    ∃ p, LatchingAs t p (t + 1000000 * r.fwdog) ((fCycleStart s).task 8) ∧ ((fCycleStart s).task 8).nextRel = none ∧
      ((fCycleStart s).task 8).prevStart = t := by
  have hc := lt_of_nextRel hn
  unfold fCycleStart
  rw [hn, hr]
  dsimp only
  rw [if_neg h]
  have h1 := atRelease_length s t
  generalize ((s.toTime t).applyDue t).stnsAt t = x1 at h1
  have hc1 : 8 < x1.tasks.length := by omega
  generalize (if (x1.task 8).fresh = true then 0 else ((x1.task 8).appliedAt - (x1.task 8).prevStart) / 1000) = p
  generalize t + 1000000 * r.fwdog = d
  have h2 := beginLatch_task x1 t p d hc1
  have l2 := beginLatch_length x1 8 t p d
  generalize x1.beginLatch 8 t p d = x2 at h2 l2
  have hc2 : 8 < x2.tasks.length := by omega
  obtain ⟨h4, l4⟩ := latchTask_task t (x2.taskPeriod 0) hc2 h2
  generalize x2.latchTask 8 t (x2.taskPeriod 0) = x4 at h4 l4
  rw [task_setTask_same _ _ (by omega)]
  exact ⟨p, h4, rfl, rfl⟩

/-! ### Change sets and the start of execution (R20, R176) -/

/-- Only what a change set writes differs. -/
def Changed (k k' : Task) : Prop := ∃ v g l, k' = { k with v := v, gPend := g, lines := l }

theorem Changed.refl (k : Task) : Changed k k := ⟨_, _, _, rfl⟩

theorem Changed.trans (j k l : Task) : Changed j k → Changed k l → Changed j l := by
  rintro ⟨_, _, _, rfl⟩ ⟨_, _, _, rfl⟩
  exact ⟨_, _, _, rfl⟩

theorem setRecord_changed (s : State) (c : Nat) (e : ChgEntry) (v : Nat) : TasksLike Changed s (s.setRecord c e v) := by
  unfold State.setRecord
  dsimp only
  split
  · split
    · exact TasksLike.of_eq Changed.refl rfl
    · exact TasksLike.of_eq Changed.refl rfl
  · exact TasksLike.setTask Changed.refl s ⟨_, _, _, rfl⟩
  · exact TasksLike.setTask Changed.refl s ⟨_, _, _, rfl⟩
  · exact TasksLike.of_eq Changed.refl rfl

theorem setRecords_changed (c : Nat) : ∀ (es : List (ChgEntry × Nat)) (s : State),
    TasksLike Changed s (es.foldl (fun s p => s.setRecord c p.1 p.2) s)
  | [], _ => TasksLike.of_eq Changed.refl rfl
  | e :: es, s => (setRecord_changed s c e.1 e.2).trans Changed.trans (setRecords_changed c es _)

theorem addBatches_within : ∀ (bs : List Batch) (s : State), Within 536870912 s (bs.foldl (fun s b => s.addBatch b) s)
  | [], _ => Within.refl
  | _ :: bs, _ => Within.trans (State_addBatch_within rfl Within.refl) (addBatches_within bs _)

theorem applySet_changed (s : State) (c t trick setId : Nat) (recs : List (Nat × Nat)) : TasksLike Changed s (s.applySet c t trick setId recs) := by
  unfold State.applySet
  extract_lets all es x1 x2 x3
  have h1 : TasksLike Changed s x1 := setRecords_changed c es s
  have h2 : x2.tasks = x1.tasks := (addBatches_within _ _).tasks_eq (by decide)
  have h3 : x3.tasks = x2.tasks := rfl
  clear_value x1 x2 x3
  exact h1.trans Changed.trans (TasksLike.of_eq Changed.refl ((raise_tasks _ _ _ _).trans (h3.trans h2)))

theorem applySets_changed (c t trick : Nat) : ∀ (l : List ChangeSet) (s : State),
    TasksLike Changed s (l.foldl (fun s x => s.applySet c t trick x.setId x.recs) s)
  | [], _ => TasksLike.of_eq Changed.refl rfl
  | x :: l, s => (applySet_changed s c t trick x.setId x.recs).trans Changed.trans (applySets_changed c t trick l _)

theorem takeSets_changed (s : State) (c t trick : Nat) : TasksLike Changed s (s.takeSets c t trick) := by
  unfold State.takeSets
  extract_lets due x1 x2
  have h2 : TasksLike Changed s x2 := TasksLike.of_eq Changed.refl rfl
  clear_value x2
  exact h2.trans Changed.trans (applySets_changed c t trick due x2)

/-- A task that has begun to execute its release. -/
def ExecutingAs (entry at_ : Nat) (k : Task) : Prop := k.latching = false ∧ k.executing = true ∧ k.pc = entry ∧ k.latchedAt = at_

theorem showPreempt_tasks (s : State) (p : Nat) : (s.showPreempt p).tasks = s.tasks := (State_showPreempt_within (k := 1) rfl Within.refl).tasks_eq (by decide)

theorem beginRun_tasks {s : State} {c : Nat} {r : TaskRec} (hr : s.taskRec c = some r) : (s.beginRun c).tasks = (s.setTask c { s.task c with
    latching := false, executing := true, pc := r.entry / 4, latchedAt := s.mono, work := (s.task c).committed, gPend := [], lPend := [],
    lines := [], sets := [], begun := false }).tasks := by
  unfold State.beginRun
  rw [hr]
  exact showPreempt_tasks _ _

theorem directEntries_tasks (s : State) (t p : Nat) : (s.directEntries t p).2.tasks = s.tasks :=
  (State_directEntries_within2 (k := 525573) rfl Within.refl).tasks_eq (by decide)

theorem sendOut_tasks (s : State) (es : List OutEntry) : (s.sendOut es).tasks = s.tasks := (State_sendOut_within (k := 34359738368) rfl Within.refl).tasks_eq (by decide)

theorem tell_within (s : State) (m : Rolent) : Within 137438953472 s (s.tell m) := State_tell_within rfl Within.refl

theorem ExecutingAs.of_changed {e a : Nat} {k k' : Task} (h : ExecutingAs e a k) (g : Changed k k') : ExecutingAs e a k' := by
  obtain ⟨_, _, _, rfl⟩ := g
  exact h

/-- The task once its latch is complete. -/
theorem latchComplete_after {s : State} {c : Nat} {r : TaskRec} (h : (s.task c).latching = true) (hr : s.taskRec c = some r) :
    ExecutingAs (r.entry / 4) s.mono ((latchComplete c s).task c) := by
  have hc := lt_of_latching h
  unfold latchComplete
  extract_lets k att x1 x2 x3 k3 x4 q
  rw [if_neg (fun h0 => h0 h)]
  have t1 : x1.tasks = _ := beginRun_tasks hr
  have l1 : x1.tasks.length = s.tasks.length := by rw [t1]; exact setTask_length _ _ _
  have h1 : ExecutingAs (r.entry / 4) s.mono (x1.task c) := by
    rw [task_of_tasks t1, task_setTask_same _ _ hc]
    exact ⟨rfl, rfl, rfl, rfl⟩
  have t2 : x2.tasks = x1.tasks := by
    unfold x2
    split
    · exact (tell_within _ _).tasks_eq (by decide)
    · rfl
  have h3 : TasksLike Changed x1 x3 := (TasksLike.of_eq Changed.refl t2).trans Changed.trans (takeSets_changed x2 c k.tRel k.sysTrick)
  have h4 : ExecutingAs (r.entry / 4) s.mono (x4.task c) := by
    unfold x4
    rw [task_setTask_same _ _ (by rw [h3.1, l1]; exact hc)]
    have := h1.of_changed (h3.2 c)
    exact this
  have tq : q.2.tasks = x4.tasks := directEntries_tasks _ _ _
  clear_value x4 q
  split
  · rw [task_of_tasks (sendOut_tasks _ _), task_of_tasks tq]
    exact h4
  · exact h4

/-! ### The shadow's start (R461) -/

/-- A release that is shadowed from an INPUT message. -/
def ShadowOf (m : InputMsg) (next : Nat) (k : Task) : Prop :=
  k.shadow = true ∧ k.input = m.image ∧ k.tRel = m.tRel ∧ k.nextRel = some next

theorem ShadowOf.of_changed {m : InputMsg} {n : Nat} {k k' : Task} (h : ShadowOf m n k) (g : Changed k k') : ShadowOf m n k' := by
  obtain ⟨_, _, _, rfl⟩ := g
  exact h

theorem inputSets_changed (c t trick : Nat) : ∀ (l : List (Nat × List (Nat × Nat))) (s : State),
    TasksLike Changed s (l.foldl (fun s x => (s.journalAppend c x.1 x.2).applySet c t trick x.1 x.2) s)
  | [], _ => TasksLike.of_eq Changed.refl rfl
  | x :: l, s => by
    have h1 : (s.journalAppend c x.1 x.2).tasks = s.tasks := rfl
    have h2 := (TasksLike.of_eq Changed.refl h1).trans Changed.trans (applySet_changed (s.journalAppend c x.1 x.2) c t trick x.1 x.2)
    exact h2.trans Changed.trans (inputSets_changed c t trick l _)

theorem inputBatches_within (t : Nat) : ∀ (l : List (Nat × List (Nat × Nat))) (s : State), Within 536870912 s
    (l.foldl (fun s x => s.addBatch ⟨x.1, 1, 0, t, x.2.map (fun w => (w.1, leBytes 4 w.2))⟩) s)
  | [], _ => Within.refl
  | _ :: l, _ => Within.trans (State_addBatch_within rfl Within.refl) (inputBatches_within t l _)

theorem taskPeriod_of_img {s t : State} (h : t.img = s.img) (c : Nat) : t.taskPeriod c = s.taskPeriod c := by
  unfold State.taskPeriod State.taskRec
  rw [h]

/-- The task that begins to execute keeps what the message set. -/
theorem beginRun_shadow {s : State} {c n : Nat} {m : InputMsg} (hc : c < s.tasks.length) (h : ShadowOf m n (s.task c)) :
    ShadowOf m n ((s.beginRun c).task c) ∧ ((s.beginRun c).task c).executing = true ∧ (s.beginRun c).tasks.length = s.tasks.length := by
  unfold State.beginRun
  extract_lets entry k x
  have hx : x.task c = _ := task_setTask_same _ _ hc
  have hl : x.tasks.length = s.tasks.length := setTask_length _ _ _
  rw [task_of_tasks (showPreempt_tasks _ _), hx, showPreempt_tasks]
  exact ⟨h, rfl, hl⟩

theorem inputTrick_after {s : State} {m : InputMsg} (hs : s.sized) (h1 : s.shadows m.task = true) (h2 : m.task < 8)
    (h3 : (s.task m.task).executing = false) (h4 : m.trick = (s.fld (Reg.IMG_TRICK_COMMITTED m.task) + 1) % 2 ^ 24) :
    ShadowOf m (m.tRel + s.taskPeriod m.task) ((inputTrick m s).task m.task) ∧ ((inputTrick m s).task m.task).executing = true := by
  have hrep : ¬ (s.isShadow = true ∧ s.rdl.repair.contains m.task = true) := by
    rintro ⟨-, h⟩
    unfold State.shadows at h1
    rw [h] at h1
    simp at h1
  have hc : m.task < s.tasks.length := by have := hs.1; omega
  unfold inputTrick
  extract_lets c k next y1 r1 k1 y2 p lout x1 x2 k2 x3 x4 x5 x6 q
  have l1 : y1.tasks.length = s.tasks.length := setTask_length _ _ _
  have l2 : y2.tasks.length = s.tasks.length := by
    unfold y2
    rw [(stnsAt_within _ _).tasks_eq (by decide), (applyDue_applied _ _).1]
    exact (setTask_length _ _ _).trans l1
  have hp : p = s.taskPeriod c := by
    apply taskPeriod_of_img
    unfold y2
    rw [(stnsAt_within _ _).img_eq (by decide), (applyDue_within _ _).img_eq (by decide)]
    rfl
  have hb : LatchingAs m.tRel m.sysP (m.tRel + p - lout) (x1.task c) := beginLatch_task y2 _ _ _ (by rw [l2]; exact hc)
  have lx1 : x1.tasks.length = s.tasks.length := (beginLatch_length _ _ _ _ _).trans l2
  have t2 : x2.tasks = x1.tasks := by
    unfold x2
    split
    · exact safLatch_tasks _ _ _
    · rfl
  have hx2 : c < x2.tasks.length := by rw [t2, lx1]; exact hc
  have h2rel : (x2.task c).tRel = m.tRel := by rw [task_of_tasks t2]; exact hb.2.1
  have h3s : ShadowOf m (m.tRel + p) (x3.task c) ∧ x3.tasks.length = s.tasks.length := by
    unfold x3
    rw [task_of_tasks (latchOthers_tasks _ _ _ _), latchOthers_tasks, task_setTask_same _ _ hx2, setTask_length]
    exact ⟨⟨rfl, rfl, h2rel, rfl⟩, by rw [t2, lx1]⟩
  have hrun := beginRun_shadow (by rw [h3s.2]; exact hc) h3s.1
  have h5 : TasksLike Changed x4 x5 := inputSets_changed c m.tRel m.trick m.sets x4
  have t6 : x6.tasks = x5.tasks := (inputBatches_within _ _ _).tasks_eq (by decide)
  have tq : q.2.tasks = x6.tasks := directEntries_tasks _ _ _
  have hend : ∀ u : State, u.tasks = x6.tasks → ShadowOf m (m.tRel + s.taskPeriod m.task) (u.task m.task) ∧ (u.task m.task).executing = true := by
    intro u hu
    rw [task_of_tasks (hu.trans t6)]
    refine ⟨hp ▸ hrun.1.of_changed (h5.2 c), ?_⟩
    obtain ⟨_, _, _, hk⟩ := h5.2 c
    rw [show x5.task m.task = _ from hk]
    exact hrun.2.1
  clear_value x1 x2 x3 x4 x5 x6 q y1 y2
  rw [if_neg hrep, if_neg (by rintro (h | h); exacts [h h1, by omega]), if_neg (by rintro (h | h); exacts [h h4, Bool.false_ne_true (h3.symm.trans h)])]
  split
  · exact hend _ ((sendOut_tasks _ _).trans tq)
  · exact hend _ rfl

/-- A unit in control and in RUN holds no release back. -/
theorem release_free {s : State} {c t : Nat} (h1 : s.cpm.phase = .run) (h2 : s.inControl = true) (h3 : (s.task c).latching = false)
    (h4 : (s.task c).executing = false) (h5 : s.heldBySwap t = false) :
    ¬ (s.cpm.phase ≠ .run ∨ ¬ s.inControl ∨ (s.task c).latching ∨ (s.task c).executing ∨ s.heldBySwap t) := by
  simp [h1, h2, h3, h4, h5]

/-- Settles O24: the task's record after each command. -/
theorem releaseAndLatch : Obligations.ReleaseAndLatch := by
  unfold Obligations.ReleaseAndLatch
  intro s c d t r m
  refine ⟨fun hn hr h1 h2 h3 h4 h5 => ⟨_, rfl, ?release⟩, fun h hr => ⟨_, rfl, ?latched⟩, fun hn hr h1 h2 h3 h4 h5 => ⟨_, rfl, ?cycle⟩,
    fun hs h1 h2 h3 h4 => ⟨_, rfl, ?shadow⟩⟩
  case release =>
    obtain ⟨⟨hl, ht, hp, hd⟩, hnext, hrel⟩ := taskRelease_after hn hr (release_free h1 h2 h3 h4 h5)
    exact ⟨hl, ht, hnext, hd, hp, hrel, exec_mem (i := .taskRelease c) rfl rfl⟩
  case latched =>
    obtain ⟨hl, he, hp, ha⟩ := latchComplete_after h hr
    exact ⟨hl, he, hp, ha⟩
  case cycle =>
    obtain ⟨p, ⟨hl, ht, -, hd⟩, hnext, hprev⟩ := fCycleStart_after hn hr (release_free h1 h2 h3 h4 h5)
    exact ⟨hl, ht, hnext, hprev, hd⟩
  case shadow =>
    obtain ⟨⟨hs, hi, ht, hnext⟩, he⟩ := inputTrick_after hs h1 h2 h3 h4
    exact ⟨he, hs, hi, ht, hnext⟩

end Sys2Proof.Proofs

/-! Commits, applies, overruns, views and retained data (04, 07). -/

namespace Sys2Proof.Proofs
open Sys2Proof Sys2Proof.Machine Sys2Proof.Laws

/-! ### The commit (R189, R215, R222) -/

theorem mirrors_of_mirror {s : State} {c : Nat} (h : s.rdl.mirror.contains c = false) : s.mirrors c = false := by
  unfold State.mirrors
  rw [h, Bool.and_false]

theorem shadows_of_mirror {s : State} {c : Nat} (h : s.rdl.mirror.contains c = false) : s.shadows c = false := by
  unfold State.shadows
  rw [h, Bool.and_false, Bool.false_and]

/-- A task that is not mirrored tells the partner at most a repair. -/
theorem commitMirror_within {s : State} {c : Nat} (h : s.rdl.mirror.contains c = false) : Within 138512695296 s (s.commitMirror c) := by
  unfold State.commitMirror
  extract_lets k r1 x1 r2 size
  have hm : x1.rdl.mirror.contains c = false := by
    unfold x1
    split
    · exact h
    · exact h
  have h1 : Within 138512695296 s x1 := by
    unfold x1
    split
    · exact Within.set_rdl (by decide) Within.refl
    · exact Within.refl
  clear_value x1
  rw [mirrors_of_mirror hm]
  split
  · rename_i h8
    have h9 : x1.mirrors 8 = false := mirrors_of_mirror (h8 ▸ hm)
    rw [h9]
    exact h1
  · split
    · exact State_tell_within (by decide) (Within.set_rdl (by decide) h1)
    · unfold State.digest
      rw [if_pos (by rw [mirrors_of_mirror hm, shadows_of_mirror hm]; decide)]
      exact h1

/-- A task after the commit of its release. -/
def CommittedAs (work : List Host.Cell) (apply : Nat) (k : Task) : Prop := k.executing = false ∧ k.committed = work ∧ k.applyAt = some apply

theorem commitTrick_after {s : State} {c : Nat} (a : Nat) (hc : c < s.tasks.length) :
    CommittedAs (s.task c).work a ((s.commitTrick c a).task c) ∧ (s.commitTrick c a).g = ovApply s.g (s.task c).gPend ∧
      (s.commitTrick c a).tasks.length = s.tasks.length := by
  unfold State.commitTrick
  extract_lets k x1 x2 x3
  have l1 : x1.tasks.length = s.tasks.length := rfl
  have h2 : CommittedAs (s.task c).work a (x2.task c) := by
    unfold x2
    rw [task_setTask_same _ _ (by rw [l1]; exact hc)]
    exact ⟨rfl, rfl, rfl⟩
  have l2 : x2.tasks.length = s.tasks.length := (setTask_length _ _ _).trans l1
  have g2 : x2.g = ovApply s.g (s.task c).gPend := rfl
  have t3 : x3.tasks = x2.tasks := rfl
  have g3 : x3.g = x2.g := rfl
  clear_value x1 x2 x3
  have hw := State_showPreempt_within (k := 1) (a1 := x3.taskPair c) rfl
    (Within.refl (s := (x3.setFlag (Reg.IMG_TASK_RUNNING c) false).setFlag (Reg.IMG_TASK_PREEMPTED c) false))
  have t4 := (hw.tasks_eq (by decide)).trans t3
  rw [task_of_tasks t4, hw.g_eq (by decide), t4]
  exact ⟨h2, g3.trans g2, l2⟩

theorem commit_after {s : State} {c : Nat} (hc : c < s.tasks.length) (hm : s.rdl.mirror.contains c = false) :
    CommittedAs (s.task c).work (s.applyInstant c) ((s.commit c).task c) ∧ (s.commit c).g = ovApply s.g (s.task c).gPend ∧ (s.commit c).mem = s.mem := by
  unfold State.commit
  extract_lets apply period t x1 x2 q e x3 x4 k
  have w1 : Within 605029637 s x1 := Within.trans ((applyDue_within s s.now).mono_mask (by decide)) (State_commitStats_within (by decide) Within.refl)
  have t1 : TasksLike Applied s x1 :=
    (applyDue_applied s s.now).trans Applied.trans (TasksLike.of_eq Applied.refl ((State_commitStats_within (k := 1285) rfl Within.refl).tasks_eq (by decide)))
  have wl : Within 605029637 s (x1.commitLoops c apply) := State_commitLoops_within (by decide) w1
  have tl : (x1.commitLoops c apply).tasks = x1.tasks := (State_commitLoops_within (k := 536870912) rfl Within.refl).tasks_eq (by decide)
  have hct := commitTrick_after (s := x1.commitLoops c apply) apply (by rw [tl, t1.1]; exact hc)
  have hwork : ((x1.commitLoops c apply).task c).work = (s.task c).work ∧ ((x1.commitLoops c apply).task c).gPend = (s.task c).gPend := by
    obtain ⟨_, _, _, _, hk⟩ := t1.2 c
    rw [task_of_tasks tl, hk]
    exact ⟨rfl, rfl⟩
  rw [hwork.1, hwork.2, wl.g_eq (by decide)] at hct
  obtain ⟨hk, hg, hlen⟩ := hct
  rw [tl, t1.1] at hlen
  have wc : Within 605160709 s ((x1.commitLoops c apply).commitTrick c apply) := State_commitTrick_within (by decide) (wl.mono_mask (by decide))
  have wv : Within 2098437 ((x1.commitLoops c apply).commitTrick c apply) x2 := State_viewCommits_within (by decide) Within.refl
  have w2 : Within 607257861 s x2 := Within.trans (wc.mono_mask (by decide)) (wv.mono_mask (by decide))
  have wq : Within 172273177861 x2 q.2 := by
    unfold q
    clear_value x2
    split
    · exact State_safCommit_within2 (by decide) Within.refl
    · exact Within.refl
  have w3 : Within 172273177861 x2 (x3.canForms c apply period) :=
    State_canForms_within (by decide) (State_stnOuts_within (by decide) (State_sendOut_within (by decide) (State_taskEntries_within2 (by decide) wq)))
  have wm := commitMirror_within (s := x3.canForms c apply period) (c := c) (by
    rw [w3.rdl_eq (by decide), w2.rdl_eq (by decide)]
    exact hm)
  have t4 : x4.tasks = ((x1.commitLoops c apply).commitTrick c apply).tasks :=
    (wm.tasks_eq (by decide)).trans ((w3.tasks_eq (by decide)).trans (wv.tasks_eq (by decide)))
  have g4 : x4.g = ovApply s.g (s.task c).gPend :=
    (wm.g_eq (by decide)).trans ((w3.g_eq (by decide)).trans ((wv.g_eq (by decide)).trans hg))
  have m4 : x4.mem = s.mem := (wm.mem_eq (by decide)).trans ((w3.mem_eq (by decide)).trans (w2.mem_eq (by decide)))
  rw [← task_of_tasks t4 c] at hk
  have l4 : x4.tasks.length = s.tasks.length := by rw [t4, hlen]
  clear_value x4
  split
  · rename_i h8
    subst h8
    rw [task_setTask_same _ _ (by rw [l4]; exact hc)]
    exact ⟨hk, g4, m4⟩
  · exact ⟨hk, g4, m4⟩

theorem endWord_none {s : State} {c : Nat} (h : s.nextCall c 1 = none) : endWord c s = s := by
  unfold endWord
  rw [h]

theorem endWord_commit {s : State} {c : Nat} {k : Call} (h : s.nextCall c 1 = some k) (hd : (s.task c).deadline = 0 ∨ s.now < (s.task c).deadline) :
    endWord c s = s.commit c := by
  unfold endWord
  rw [h]
  refine if_neg ?_
  rintro ⟨h1, h2, -⟩
  omega

/-! ### Applies and overruns (R22, R196, R200, R201) -/

theorem trickApply_after {s : State} {c a : Nat} (h : (s.task c).applyAt = some a) :
    ((trickApply c s).task c).applied = (s.task c).committed ∧
      ((trickApply c s).task c).appliedTrick = some (s.fld (Reg.IMG_TRICK_COMMITTED c)) ∧ ((trickApply c s).task c).applyAt = none ∧
      ((trickApply c s).task c).appliedAt = a ∧ (trickApply c s).flag (Reg.IMG_TRICK_PENDING c) = false := by
  have hc := lt_of_applyAt h
  unfold trickApply
  rw [h]
  have ht := (toTime_within s a).tasks_eq (by decide)
  have hf := toTime_fld s a (Reg.IMG_TRICK_COMMITTED c)
  dsimp only
  generalize s.toTime a = x at ht hf
  have hk : (x.applyTrick c a).task c = appliedAs x c a :=
    (task_of_tasks (applyTrick_tasks x c a) c).trans (task_setTask_same _ _ (by rw [ht]; exact hc))
  rw [hk]
  refine ⟨congrArg Task.committed (task_of_tasks ht c), congrArg some hf, rfl, rfl, ?_⟩
  rw [flag_of_fld (fld_of_regs (applyTrick_regs x c a) _)]
  exact flag_setFlag_same _ _ _ rfl (show 24 < 32 by decide)

/-- An overrun of a task of a unit that is alone stops the station. -/
theorem overrun_solo {s : State} {c : Nat} (h : s.fld Reg.RDL_STAT_ROLE = 1) : ∃ x : State, s.overrun c = x.stationStop 1 96 := by
  have hs : ¬ s.isShadow = true := by unfold State.isShadow; simp [h]
  unfold State.overrun
  rw [if_neg hs, if_neg (by rw [h]; exact fun h => absurd h.1 (by decide))]
  exact ⟨_, rfl⟩

theorem taskOverrun_solo {s : State} {c : Nat} (h : (s.task c).open_ = true) (hr : s.fld Reg.RDL_STAT_ROLE = 1) :
    ∃ x : State, taskOverrun c s = x.stationStop 1 96 := by
  obtain ⟨x, hx⟩ := overrun_solo (s := s.toTime (s.task c).deadline) (c := c) ((toTime_fld _ _ _).trans hr)
  exact ⟨x, (if_pos h).trans hx⟩

theorem fWatchdog_stops {s : State} (h : (s.task 8).open_ = true) : ∃ x : State, fWatchdog s = x.stationStop 1 96 :=
  ⟨_, if_pos h⟩

/-- Settles O25: commit, apply and the two deadlines. -/
theorem commitApplyOverrun : Obligations.CommitApplyOverrun := by
  unfold Obligations.CommitApplyOverrun
  intro s c p k a
  refine ⟨fun hk hd hm => ?commit, fun h => next_eq (endWord_none h), fun h => ?apply, fun h hr => ?overrun,
    fun h => next_neg (by simp [h]), fun h => ?watchdog⟩
  case commit =>
    obtain ⟨⟨he, hw, ha⟩, hg, hmem⟩ := commit_after (nextCall_lt hk) hm
    exact ⟨_, next_eq (endWord_commit hk hd), he, hw, ha, hg, hmem⟩
  case apply =>
    obtain ⟨h1, h2, h3, h4, h5⟩ := trickApply_after h
    exact ⟨_, rfl, h1, h2, h3, h4, h5, exec_mem (i := .trickApply c) rfl rfl⟩
  case overrun =>
    obtain ⟨x, hx⟩ := taskOverrun_solo h hr
    exact ⟨_, next_eq hx, stationStop_after x 1 96⟩
  case watchdog =>
    obtain ⟨x, hx⟩ := fWatchdog_stops h
    exact ⟨_, next_eq hx, stationStop_after x 1 96⟩

/-! ### Views (R197, R198, R208) -/

theorem viewShow_state (s : State) (v : Nat) : (s.viewShow v).fld (Reg.IMG_VIEW_STAT_STATE v) = s.fld (Reg.IMG_VIEW_STAT_STATE v) := by
  have hw : (Reg.IMG_VIEW_STAT_STATE v).lo + (Reg.IMG_VIEW_STAT_STATE v).width ≤ 32 := show 2 ≤ 32 by decide
  have hd : (Reg.IMG_VIEW_STAT_TRICK v).lo + (Reg.IMG_VIEW_STAT_TRICK v).width ≤ (Reg.IMG_VIEW_STAT_STATE v).lo ∨
      (Reg.IMG_VIEW_STAT_STATE v).lo + (Reg.IMG_VIEW_STAT_STATE v).width ≤ (Reg.IMG_VIEW_STAT_TRICK v).lo := .inr (show 2 ≤ 8 by decide)
  unfold State.viewShow
  dsimp only
  split
  · exact fld_setFld_other _ _ hw hd
  · exact fld_setFld_other _ _ hw hd

theorem viewShow_within (s : State) (v : Nat) : Within 1 s (s.viewShow v) := State_viewShow_within rfl Within.refl

theorem applyOne_enabled (t : Nat) (s : State) (d c : Nat) : (applyOne t s d).flag (Reg.IMG_TASK_EN c) = s.flag (Reg.IMG_TASK_EN c) := by
  rcases applyOne_cases t s d with ⟨a, h⟩ | h
  · rw [h, flag_of_fld (fld_of_regs (applyTrick_regs s d a) _)]
    exact flag_setFlag_addr _ _ (by show Reg.IMG_TASK c ≠ Reg.IMG_TRICK d; unfold Reg.IMG_TASK Reg.IMG_TRICK; omega)
  · rw [h]

/-- Applies leave which tasks are enabled as it is. -/
theorem applyDue_enabled (s : State) (t c : Nat) : (s.applyDue t).flag (Reg.IMG_TASK_EN c) = s.flag (Reg.IMG_TASK_EN c) := by
  have key : ∀ (l : List Nat) (s : State), (l.foldl (applyOne t) s).flag (Reg.IMG_TASK_EN c) = s.flag (Reg.IMG_TASK_EN c) := by
    intro l
    induction l with
    | nil => exact fun _ => rfl
    | cons d l ih => exact fun s => (ih _).trans (applyOne_enabled t s d c)
  exact key _ s

/-- The pins of a view opened on a mask. -/
def viewPins (s : State) (mask : Nat) : List (Nat × Nat × List Host.Cell) :=
  ((List.range 9).filter (fun c => bit mask c && s.flag (Reg.IMG_TASK_EN c))).map (fun c => (c, (s.task c).appliedTrick.getD 0, (s.task c).applied))

theorem viewOpen_after (s : State) (v mask : Nat) : (s.viewOpen v mask).fld (Reg.IMG_VIEW_STAT_STATE v) = 1 ∧
    (s.viewOpen v mask).views = s.views.set v ⟨viewPins (s.applyDue s.now) mask, []⟩ ∧ (s.viewOpen v mask).tasks = (s.applyDue s.now).tasks := by
  have hv : (s.applyDue s.now).views = s.views := (applyDue_within s s.now).views_eq (by decide)
  unfold State.viewOpen
  dsimp only
  generalize s.applyDue s.now = x at hv
  rw [viewShow_state, (viewShow_within _ _).views_eq (by decide), (viewShow_within _ _).tasks_eq (by decide)]
  refine ⟨?_, congrArg (fun l => l.set v ⟨viewPins x mask, []⟩) hv, rfl⟩
  refine (fld_setFld_other _ _ (show 0 + 2 ≤ 32 by decide) (.inr (show 0 + 2 ≤ 4 by decide))).trans ?_
  exact fld_setFld_of_lt _ (show 1 < 2 ^ 2 by decide) (show 0 + 2 ≤ 32 by decide)

theorem viewClose_after (s : State) (v : Nat) : (s.viewClose v).fld (Reg.IMG_VIEW_STAT_STATE v) = 0 ∧
    (s.viewClose v).views = s.views.set v ⟨[], []⟩ ∧ (s.viewClose v).tasks = s.tasks := by
  unfold State.viewClose
  dsimp only
  rw [viewShow_state, (viewShow_within _ _).views_eq (by decide), (viewShow_within _ _).tasks_eq (by decide)]
  refine ⟨?_, rfl, rfl⟩
  refine (fld_setFld_other _ _ (show 0 + 2 ≤ 32 by decide) (.inr (show 0 + 2 ≤ 4 by decide))).trans ?_
  exact fld_setFld_of_lt _ (show 0 < 2 ^ 2 by decide) (show 0 + 2 ≤ 32 by decide)

theorem viewCtrl_open {s : State} {m : Master} {v : Nat} {w : Word} (hm : m.isPair = true) (h : wordField w 0 9 ≠ 0) :
    viewCtrl m v w s = s.viewOpen v (wordField w 0 9) := (if_neg (fun h => h (mayWriteRegs_of_isPair hm))).trans (if_neg h)

theorem viewCtrl_close {s : State} {m : Master} {v : Nat} {w : Word} (hm : m.isPair = true) (h : wordField w 0 9 = 0) :
    viewCtrl m v w s = s.viewClose v := (if_neg (fun h => h (mayWriteRegs_of_isPair hm))).trans (if_pos h)

theorem viewDataRead_pair {s : State} {m : Master} {v : Nat} (hm : m.isPair = true) : viewDataRead m v s =
    (s.ret m.num (s.viewData v)).setFld (Reg.IMG_VIEW_ADDR_OFFSET v) (s.fld (Reg.IMG_VIEW_ADDR_OFFSET v) + 4) := if_pos hm

/-! ### Retained variables (R105) -/

theorem gBytes_of_eq {s t : State} (h1 : t.img = s.img) (h2 : t.g = s.g) : t.gBytes = s.gBytes := by
  unfold State.gBytes
  rw [h1, h2]

/-- A bank's header of 1,024 bytes for sequence number `seq`, time `t`, data length `n` and check value `c`. -/
def bankHead (seq t n c : Nat) : List Byte :=
  leBytes 4 seq ++ leBytes 8 (secOf t) ++ leBytes 4 (nsOf t) ++ leBytes 4 n ++ leBytes 4 c ++ List.replicate 1000 0

theorem bankHead_length (seq t n c : Nat) : (bankHead seq t n c).length = 1024 := by
  unfold bankHead
  simp only [List.length_append, leBytes_length, List.length_replicate]

theorem bytes_congr {s t : State} {a n : Nat} (h : ∀ i < n, t.byte (a + i) = s.byte (a + i)) : t.bytes a n = s.bytes a n := by
  unfold State.bytes
  apply List.map_congr_left
  intro i hi
  exact h i (List.mem_range.1 hi)

/-- A bank after its header and data have been written at `b`. -/
theorem bank_after (s : State) (b seq t c : Nat) (d : List Byte) :
    ((s.wrBytes (b + 1024) d).wrBytes b (bankHead seq t d.length c)).rdLE b 4 = seq % 256 ^ 4 ∧
      ((s.wrBytes (b + 1024) d).wrBytes b (bankHead seq t d.length c)).rdLE (b + 16) 4 = d.length % 256 ^ 4 ∧
      ((s.wrBytes (b + 1024) d).wrBytes b (bankHead seq t d.length c)).bytes (b + 1024) d.length = d ∧
      ∀ x, (x < b ∨ b + 1024 + d.length ≤ x) → ((s.wrBytes (b + 1024) d).wrBytes b (bankHead seq t d.length c)).byte x = s.byte x := by
  have hl := bankHead_length seq t d.length c
  refine ⟨?_, ?_, ?_, fun x hx => ?_⟩
  · have := rdLE_wrBytes_mid (s.wrBytes (b + 1024) d) b 4 seq []
      (leBytes 8 (secOf t) ++ (leBytes 4 (nsOf t) ++ (leBytes 4 d.length ++ (leBytes 4 c ++ List.replicate 1000 0))))
    unfold bankHead
    simpa only [List.nil_append, List.append_assoc, List.length_nil, Nat.add_zero] using this
  · have := rdLE_wrBytes_mid (s.wrBytes (b + 1024) d) b 4 d.length (leBytes 4 seq ++ leBytes 8 (secOf t) ++ leBytes 4 (nsOf t))
      (leBytes 4 c ++ List.replicate 1000 0)
    unfold bankHead
    simpa only [List.append_assoc, List.length_append, leBytes_length, Nat.reduceAdd] using this
  · refine Eq.trans ?_ (bytes_wrBytes_same s (b + 1024) d)
    exact bytes_congr fun i _ => byte_wrBytes_out _ _ (by omega)
  · rw [byte_wrBytes_out _ _ (by omega), byte_wrBytes_out _ _ (by omega)]

theorem snapshotG_after (s : State) (t : Nat) : (s.snapshotG t).cpm.bankSeq = (s.cpm.bankSeq + 1) % 2 ^ 32 ∧
    (s.snapshotG t).rdLE (bankAddr ((s.cpm.bankSeq + 1) % 2)) 4 = (s.cpm.bankSeq + 1) % 2 ^ 32 ∧
    (s.snapshotG t).rdLE (bankAddr ((s.cpm.bankSeq + 1) % 2) + 16) 4 = s.gBytes.length % 2 ^ 32 ∧
    (s.snapshotG t).bytes (bankAddr ((s.cpm.bankSeq + 1) % 2) + 1024) s.gBytes.length = s.gBytes ∧
    ∀ x, (x < bankAddr ((s.cpm.bankSeq + 1) % 2) ∨ bankAddr ((s.cpm.bankSeq + 1) % 2) + 1024 + s.gBytes.length ≤ x) →
      (s.snapshotG t).byte x = s.byte x := by
  unfold State.snapshotG
  extract_lets k seq d head zeros x1 x2 c
  have hx : x2 = (s.wrBytes (bankAddr k + 1024) d).wrBytes (bankAddr k) (bankHead seq t d.length (crc32c (head ++ zeros ++ d))) := rfl
  obtain ⟨h1, h2, h3, h4⟩ := bank_after s (bankAddr k) seq t (crc32c (head ++ zeros ++ d)) d
  rw [← hx] at h1 h2 h3 h4
  clear_value x2
  have e : (256 : Nat) ^ 4 = 2 ^ 32 := by norm_num
  rw [e] at h1 h2
  have hmem : ({ x2 with cpm := { c with bankSeq := seq } } : State).mem = x2.mem := rfl
  exact ⟨rfl, (rdLE_of_mem hmem _ _).trans (h1.trans (Nat.mod_mod _ _)), (rdLE_of_mem hmem _ _).trans h2,
    (bytes_congr fun i _ => byte_of_mem hmem _).trans h3, fun x hx => (byte_of_mem hmem x).trans (h4 x hx)⟩

theorem retainSnapshot_eq {s : State} {n : Nat} (h : (s.task 0).nextRel = some n) : ∃ t, retainSnapshot s = (s.toTime t).snapshotG t := by
  unfold retainSnapshot
  rw [if_neg (by rw [h]; exact Bool.false_ne_true)]
  exact ⟨_, rfl⟩

/-- Settles O26: the view's pins and window, and the bank of the snapshot. -/
theorem viewsAndRetainedData : Obligations.ViewsAndRetainedData := by
  unfold Obligations.ViewsAndRetainedData
  intro s m v w n hs hm
  have hlen : v.val < s.views.length := by rw [hs.2.1]; exact v.isLt
  refine ⟨fun h => ⟨_, next_eq (viewCtrl_open hm h), ?opened⟩, fun h => ⟨_, next_eq (viewCtrl_close hm h), ?closed⟩,
    ⟨_, next_eq (viewDataRead_pair hm), returned_ret _ _ _, fld_setFld_same _ _ _ (show 0 + 16 ≤ 32 by decide), rfl, rfl⟩, fun h => ?snapshot⟩
  case opened =>
    obtain ⟨hstate, hviews, htasks⟩ := viewOpen_after s v (wordField w 0 9)
    refine ⟨hstate, fun c hc hb he => ?_, fun u hu => ?_, exec_mem (i := .viewOpen m v w) (next_eq (viewCtrl_open hm h)) rfl⟩
    · rw [hviews, task_of_tasks htasks]
      have hpin : ((s.views.set v ⟨viewPins (s.applyDue s.now) (wordField w 0 9), []⟩).getD v ⟨[], []⟩) =
          ⟨viewPins (s.applyDue s.now) (wordField w 0 9), []⟩ := by simp [hlen]
      rw [hpin]
      exact List.mem_map.2 ⟨c, List.mem_filter.2 ⟨List.mem_range.2 hc, by rw [hb, applyDue_enabled, he]; rfl⟩, rfl⟩
    · rw [hviews]
      simp [List.getD_eq_getElem?_getD, List.getElem?_set_ne (Ne.symm hu)]
  case closed =>
    obtain ⟨hstate, hviews, htasks⟩ := viewClose_after s v
    refine ⟨hstate, ?_, htasks, exec_mem (i := .viewClose m v w) (next_eq (viewCtrl_close hm h)) rfl⟩
    rw [hviews]
    simp [hlen]
  case snapshot =>
    obtain ⟨t, ht⟩ := retainSnapshot_eq h
    have hc := (toTime_within s t).cpm_eq (by decide)
    have hg := gBytes_of_eq ((toTime_within s t).img_eq (by decide)) ((toTime_within s t).g_eq (by decide))
    have hmem := (toTime_within s t).mem_eq (by decide)
    have := snapshotG_after (s.toTime t) t
    rw [hc, hg] at this
    obtain ⟨h1, h2, h3, h4, h5⟩ := this
    exact ⟨_, next_eq ht, h1, h2, h3, h4, fun x hx => (h5 x hx).trans (byte_of_mem hmem x)⟩

end Sys2Proof.Proofs

/-! Safety functions: two statements that a table with two functions of one number refutes (13). -/

namespace Sys2Proof.Proofs
open Sys2Proof Sys2Proof.Machine Sys2Proof.Laws

/-! ### A field side with two functions of one number -/

/-- A function at rest. -/
def plainFn (num ty : Nat) (param : List Byte) : FieldFn :=
  { num := num, ty := ty, param := param, value := false, code := 0, detail := 0, latch := false, joint := false, probation := false, seenA := false,
    seenB := false, discAt := none, firstCh := 0, demand := true, turnAt := 0, wait := false, pulseA := false, pulseB := false, lowA := 0, lowB := 0,
    highA := 0, highB := 0 }

/-- A field side that runs armed, with channel 0 free to drive and the given functions and message. -/
def armedField (x : Chan) (fns : List FieldFn) (mail : List (Nat × List Byte)) : State :=
  { State.reset with now := 40000000, field := { FieldSide.reset with up := true, hold := false, armed := true, chans := [x], fns := fns, mail := mail } }

/-- Function 0 drives channel 0; of the two functions numbered 5, the first is no SOUT and the second waits to drive channel 0. -/
def sharedNumber : State :=
  armedField { Chan.reset with cfg := [0, 8], safe := false }
    [plainFn 5 1 [], { plainFn 0 3 [0, 0, 255] with value := true }, plainFn 5 3 [0, 0, 255]] []

/-- The function whose off-pulse begins. -/
def pulsedFn : FieldFn := { plainFn 0 3 [0, 0, 255] with value := true }

/-- When the pulse begins the second function 5 is energised and takes the first one's place, before function 0: channel 0 is on. -/
theorem sharedNumber_on : ((offPulse 0 sharedNumber).chan 0).on = true := by decide +kernel

/-- Refutes O27: with two functions of one number, the channel whose off-pulse begins can be switched on by the other. -/
theorem not_testPulsesAndOffPulses : ¬ Obligations.TestPulsesAndOffPulses := by
  unfold Obligations.TestPulsesAndOffPulses
  intro h
  obtain ⟨-, -, -, -, -, hoff, -⟩ := h sharedNumber 0 pulsedFn false 0 0
  obtain ⟨t, ht, hon, -⟩ := hoff (by decide) (by decide) (by decide) (by decide)
  have he : offPulse 0 sharedNumber = t := Host.Outcome.next.inj ht
  rw [← he] at hon
  exact Bool.false_ne_true (hon.symm.trans sharedNumber_on)

/-- Two functions numbered 0: the first, no SOUT, is named by the reset; the second is a SOUT whose feedback contact (channel 1) reads FALSE. -/
def sharedReset : State :=
  armedField { Chan.reset with safe := false } [plainFn 0 1 [], plainFn 0 3 [0, 0, 1]] [(18, [0x21, 0, 0, 0, 1])]

/-- The reset puts the second function in the first one's place, and settling the outputs latches it. -/
theorem sharedReset_latched : ((safReset sharedReset).fieldFn 0).any (fun g => g.latch) = true := by decide +kernel

/-- Refutes O28: with two functions of one number, a reset of the first can end with the second one's fault latched under that number. -/
theorem not_safetyFunctionsLatchAndReset : ¬ Obligations.SafetyFunctionsLatchAndReset := by
  unfold Obligations.SafetyFunctionsLatchAndReset
  intro h
  obtain ⟨-, -, -, -, -, -, hreset, -⟩ := h sharedReset 0 (plainFn 0 1 []) (HostFn.start ⟨0, 0, 0, []⟩) [0x21, 0, 0, 0, 1] 0 0 0
  obtain ⟨t, g, ht, hg, hl, -⟩ := hreset (by decide) (by decide) (by decide) (by decide) (by decide)
  have he : safReset sharedReset = t := Host.Outcome.next.inj ht
  have hfn : (safReset sharedReset).fieldFn 0 = some g := he ▸ hg
  have hlatched := sharedReset_latched
  rw [hfn] at hlatched
  exact Bool.false_ne_true (hl.symm.trans hlatched)

end Sys2Proof.Proofs

/-! The loop engine's parameter port (10). -/

namespace Sys2Proof.Proofs
open Sys2Proof Sys2Proof.Machine Sys2Proof.Laws

/-! ### GO (R275) -/

/-- The registers that show a GO: the list and its length. -/
def ppShown (s : State) (w : Word) : State := (s.setFld Reg.LPE_PP_CTRL_COUNT (wordField w 0 7)).setFld Reg.LPE_PP_CTRL_LIST (wordField w 8 2)

theorem ppShown_reg (s : State) (w : Word) {a : Nat} (h : a ≠ Reg.LPE_PP_CTRL) : (ppShown s w).reg a = s.reg a :=
  (reg_setFld_ne _ _ h).trans (reg_setFld_ne _ _ h)

theorem inControl_of_reg {s t : State} (h : t.reg Reg.RDL_STAT = s.reg Reg.RDL_STAT) : t.inControl = s.inControl := by
  unfold State.inControl
  rw [fld_of_reg (s := s) (t := t) (f := Reg.RDL_STAT_ROLE) h]

theorem ppGo_start {s : State} {m : Master} {w : Word} (hm : m.isPair = true) (h10 : w.getLsbD 10 = true) (hb : s.flag Reg.LPE_PP_STAT_BUSY = false)
    (hc : s.inControl = true) (he : bit (s.fld Reg.LPE_PP_CFG_EN) (wordField w 8 2) = true) (h1 : 1 ≤ wordField w 0 7) (h2 : wordField w 0 7 ≤ 64) :
    ∃ x : State, x = ((ppShown s w).setFld Reg.LPE_PP_STAT_ERR 0).setFld Reg.LPE_PP_STAT_REFUSED 0 ∧ ppGo m w s =
      ({ x with loops := { x.loops with pp := some ⟨wordField w 8 2, wordField w 0 7, false, 0, 0⟩ } } : State).setFlag Reg.LPE_PP_STAT_BUSY true := by
  refine ⟨_, rfl, ?_⟩
  have hb' : (ppShown s w).flag Reg.LPE_PP_STAT_BUSY = false := (flag_of_fld (fld_of_reg (ppShown_reg s w (by decide)))).trans hb
  have hc' : (((ppShown s w).setFld Reg.LPE_PP_STAT_ERR 0).setFld Reg.LPE_PP_STAT_REFUSED 0).inControl = true := by
    rw [inControl_of_reg ((reg_setFld_ne _ _ (by decide)).trans ((reg_setFld_ne _ _ (by decide)).trans (ppShown_reg s w (by decide)))), hc]
  have he' : bit ((((ppShown s w).setFld Reg.LPE_PP_STAT_ERR 0).setFld Reg.LPE_PP_STAT_REFUSED 0).fld Reg.LPE_PP_CFG_EN) (wordField w 8 2) = true := by
    refine (congrArg (fun v => bit v (wordField w 8 2)) ?_).trans he
    exact (fld_setFld_addr _ _ (by decide)).trans ((fld_setFld_addr _ _ (by decide)).trans (fld_of_reg (ppShown_reg s w (by decide))))
  unfold ppGo
  rw [if_neg (fun h => h (mayWriteRegs_of_isPair hm))]
  show (if ¬ w.getLsbD 10 = true then ppShown s w else if (ppShown s w).flag Reg.LPE_PP_STAT_BUSY = true then _ else _) = _
  rw [if_neg (fun h => h h10), if_neg (by rw [hb']; exact Bool.false_ne_true)]
  exact (if_neg (fun h => h hc')).trans ((if_neg (fun h => h he')).trans (if_neg (by omega)))

theorem ppGo_busy {s : State} {m : Master} {w : Word} (hm : m.isPair = true) (h10 : w.getLsbD 10 = true) (hb : s.flag Reg.LPE_PP_STAT_BUSY = true) :
    ppGo m w s = (ppShown s w).setFld Reg.LPE_PP_STAT_ERR 4 := by
  have hb' : (ppShown s w).flag Reg.LPE_PP_STAT_BUSY = true := (flag_of_fld (fld_of_reg (ppShown_reg s w (by decide)))).trans hb
  unfold ppGo
  rw [if_neg (fun h => h (mayWriteRegs_of_isPair hm))]
  show (if ¬ w.getLsbD 10 = true then ppShown s w else if (ppShown s w).flag Reg.LPE_PP_STAT_BUSY = true then _ else _) = _
  rw [if_neg (fun h => h h10), if_pos hb']
  rfl

/-! ### The list's lock (R275, R147) -/

/-- The token's holder or one after it: the only attempting master wins. -/
theorem tieWinner_one (token : Nat) {m : Nat} (h : m < 5) : tieWinner token [m] = some m := by
  have key : ∀ t < 5, ((List.range 5).map (fun i => (t + i) % 5)).find? (fun k => [m].contains k) = some m := by
    interval_cases m <;> decide
  have hmod : (List.range 5).map (fun i => (token + i) % 5) = (List.range 5).map (fun i => (token % 5 + i) % 5) := by
    apply List.map_congr_left
    intro i _
    rw [Nat.mod_add_mod]
  unfold tieWinner
  rw [hmod]
  exact key _ (Nat.mod_lt _ (by decide))

/-- The parameter port is master 4 of the locks. -/
def ppGranted (s : State) (n : Nat) : State := (s.lockGrant n 4).ret 4 0

theorem lockOwner_grant (s : State) (n m : Nat) (h : m < 7) : (s.lockGrant n m).lockOwner n = m + 1 :=
  fld_setFld_of_lt s (show m + 1 < 8 by omega) (show 0 + 3 ≤ 32 by decide)

theorem lockAttempt_granted {s : State} {n : Nat} (h : s.lockOwner n = 0) : lockAttempt n [4] s = ppGranted s n := by
  have ho : (s.lockGrant n 4).lockOwner n = 5 := lockOwner_grant s n 4 (by decide)
  unfold lockAttempt
  rw [if_pos h, tieWinner_one _ (by decide)]
  dsimp only
  rw [if_neg (by decide)]
  unfold State.lockAnswer
  dsimp only
  rw [ho]
  rfl

theorem lockAttempt_held {s : State} {n : Nat} (h : s.lockOwner n ≠ 0) : ∃ v, lockAttempt n [4] s = s.ret 4 v := by
  unfold lockAttempt
  rw [if_neg h]
  exact ⟨_, rfl⟩

/-- The batches of a copied list leave the transaction, the registers and memory as they are. -/
theorem addBatches_pp (f : Nat → Batch) : ∀ (l : List Nat) (s : State), (l.foldl (fun s k => s.addBatch (f k)) s).loops.pp = s.loops.pp ∧
    (l.foldl (fun s k => s.addBatch (f k)) s).regs = s.regs ∧ (l.foldl (fun s k => s.addBatch (f k)) s).mem = s.mem
  | [], _ => ⟨rfl, rfl, rfl⟩
  | k :: l, s => addBatches_pp f l (s.addBatch (f k))

theorem ppRecord_of_eq {s t : State} (h1 : t.mem = s.mem) (h2 : t.img = s.img) (a : Nat) : t.ppRecord a = s.ppRecord a := by
  have hb : ∀ x n, t.bytes x n = s.bytes x n := fun x n => bytes_congr fun i _ => byte_of_mem h1 _
  unfold State.ppRecord State.rdLE State.loopRecs
  simp only [hb, h2]

theorem lockOwner_of_regs {s t : State} (h : t.regs = s.regs) (n : Nat) : t.lockOwner n = s.lockOwner n := fld_of_regs h _

/-- A list whose lock is free is copied, its records checked, and the lock freed. -/
theorem ppLock_copies {s : State} {r : PpRun} (hp : s.loops.pp = some r) (hc : r.copied = false)
    (ho : s.lockOwner (s.fld ⟨Reg.LPE_PP_CFG, 5 * r.list, 5⟩) = 0) (hl : r.list < 4)
    (hv : ∀ k, k < r.count → (s.ppRecord ((s.reg (Reg.LPE_PP_ADDR r.list)).toNat + 8 * k)).2.2.2 = true) :
    ∃ x, (ppLock s).loops.pp = some x ∧ x.copied = true ∧ x.list = r.list ∧ x.count = r.count ∧
      (ppLock s).lockOwner (s.fld ⟨Reg.LPE_PP_CFG, 5 * r.list, 5⟩) = 0 ∧ (ppLock s).mem = s.mem := by
  generalize hn : s.fld ⟨Reg.LPE_PP_CFG, 5 * r.list, 5⟩ = n at ho
  have hn32 : n < 32 := by rw [← hn]; exact fld_lt s _
  have hreg : (ppGranted s n).reg (Reg.LPE_PP_ADDR r.list) = s.reg (Reg.LPE_PP_ADDR r.list) :=
    reg_setFld_ne _ _ (by show Reg.LPE_PP_ADDR r.list ≠ Reg.LCK_PEEK n; unfold Reg.LPE_PP_ADDR Reg.LCK_PEEK; omega)
  have hrec : ∀ a, (ppGranted s n).ppRecord a = s.ppRecord a := ppRecord_of_eq rfl rfl
  have hown : (ppGranted s n).lockOwner n = 5 := lockOwner_grant s n 4 (by decide)
  have hpp : (ppGranted s n).loops = s.loops := rfl
  have hmem : (ppGranted s n).mem = s.mem := rfl
  unfold ppLock
  rw [hp]
  dsimp only
  rw [if_neg (by rw [hc]; exact Bool.false_ne_true), hn, lockAttempt_granted ho, if_neg (fun h => h hown), hreg]
  generalize ppGranted s n = g at hrec hpp hmem hown
  have hall : ((List.range r.count).map (fun k => g.ppRecord ((s.reg (Reg.LPE_PP_ADDR r.list)).toNat + 8 * k))).any (fun x => !x.2.2.2) = false := by
    rw [List.any_eq_false]
    intro x hx
    obtain ⟨k, hk, rfl⟩ := List.mem_map.1 hx
    rw [hrec, hv k (List.mem_range.1 hk)]
    decide
  rw [if_neg (by rw [hall]; exact Bool.false_ne_true)]
  obtain ⟨h1, h2, h3⟩ := addBatches_pp (fun k => ⟨k, 1, 0, (g.lockFree n).t0After ((g.lockFree n).now + 50000),
    (((List.range r.count).map (fun k => g.ppRecord ((s.reg (Reg.LPE_PP_ADDR r.list)).toNat + 8 * k))).filter (fun x => decide (x.1 = k))).map
      (fun x => (x.2.1, x.2.2.1))⟩)
    (dedup (((List.range r.count).map (fun k => g.ppRecord ((s.reg (Reg.LPE_PP_ADDR r.list)).toNat + 8 * k))).map (·.1)).reverse).reverse
    { g.lockFree n with loops := { (g.lockFree n).loops with pp := some { r with copied := true, left :=
      (dedup (((List.range r.count).map (fun k => g.ppRecord ((s.reg (Reg.LPE_PP_ADDR r.list)).toNat + 8 * k))).map (·.1)).reverse).reverse.length } } }
  refine ⟨_, h1, rfl, rfl, rfl, (lockOwner_of_regs h2 n).trans ?_, h3.trans hmem⟩
  exact fld_setFld_of_lt g (show 0 < 8 by decide) (show 0 + 3 ≤ 32 by decide)

theorem ppLock_waits {s : State} {r : PpRun} (hp : s.loops.pp = some r) (hc : r.copied = false)
    (h0 : s.lockOwner (s.fld ⟨Reg.LPE_PP_CFG, 5 * r.list, 5⟩) ≠ 0) (h5 : s.lockOwner (s.fld ⟨Reg.LPE_PP_CFG, 5 * r.list, 5⟩) ≠ 5) :
    ∃ v, ppLock s = s.ret 4 v := by
  obtain ⟨v, hv⟩ := lockAttempt_held h0
  refine ⟨v, ?_⟩
  unfold ppLock
  rw [hp]
  dsimp only
  rw [if_neg (by rw [hc]; exact Bool.false_ne_true), hv]
  exact if_pos h5

theorem rgndataRead_pair {s : State} {m : Master} (hm : m.isPair = true) :
    rgndataRead m s = (s.ret m.num s.rgnWord).setFld Reg.LPE_RGNSEL_WORD (s.fld Reg.LPE_RGNSEL_WORD + 1) := if_pos hm

/-- Settles O30: GO, the copy under the lock, and the window of the region tables. -/
theorem parameterPort : Obligations.ParameterPort := by
  unfold Obligations.ParameterPort
  intro s m w r hm
  refine ⟨fun h10 hb hc he h1 h2 => ?go, fun h10 hb => ⟨_, next_eq (ppGo_busy hm h10 hb), rfl, ?busy⟩, fun hp hc ho hl hv => ?copies,
    fun hp hc _ h0 h5 => ?waits, ⟨_, next_eq (rgndataRead_pair hm), returned_ret _ _ _, fld_setFld_same _ _ _ (by decide), rfl⟩⟩
  case go =>
    obtain ⟨x, hx, hgo⟩ := ppGo_start hm h10 hb hc he h1 h2
    refine ⟨_, next_eq hgo, rfl, flag_setFlag_same _ _ _ (by decide) (by decide), ?_, ?_, by rw [hx]; rfl⟩
    · rw [fld_setFlag_other _ _ (by decide) (by decide), fld_mk, hx, fld_setFld_other _ _ (by decide) (by decide)]
      exact fld_setFld_of_lt _ (by decide) (by decide)
    · rw [fld_setFlag_other _ _ (by decide) (by decide), fld_mk, hx]
      exact fld_setFld_of_lt _ (by decide) (by decide)
  case busy =>
    refine ⟨?_, fld_setFld_of_lt _ (by decide) (by decide)⟩
    rw [flag_setFld_other _ _ (by decide) (by decide)]
    exact (flag_of_fld (fld_of_reg (ppShown_reg s w (by decide)))).trans hb
  case copies =>
    obtain ⟨x, h1, h2, h3, h4, h5, h6⟩ := ppLock_copies hp hc ho hl hv
    exact ⟨_, x, rfl, h1, h2, h3, h4, h5, h6⟩
  case waits =>
    obtain ⟨v, hv⟩ := ppLock_waits hp hc h0 h5
    exact ⟨_, next_eq hv, rfl, rfl⟩

end Sys2Proof.Proofs

/-! The field half's channels (11): what judging and settling leave as they are, rounds and samples, protections. -/

namespace Sys2Proof.Proofs
open Sys2Proof Sys2Proof.Machine Sys2Proof.Laws

/-! ### Commands of the field side -/

theorem exec_field_regs {i : Instr} {s t : State} (h : exec i s = .next t) (hi : i.onField = true) : t.regs = s.regs :=
  ((exec_within i s t h).mono_mask (parts_of_onField i hi)).regs_eq (by decide)

theorem exec_field_mem {i : Instr} {s t : State} (h : exec i s = .next t) (hi : i.onField = true) : t.mem = s.mem :=
  ((exec_within i s t h).mono_mask (parts_of_onField i hi)).mem_eq (by decide)

/-! ### Channels and groups read back -/

theorem chan_setChan_same {s : State} {c : Nat} (x : Chan) (h : c < s.field.chans.length) : (s.setChan c x).chan c = x := by
  unfold State.chan State.setChan
  exact (List.getD_eq_getElem _ _ (by simpa using h)).trans (by simp)

theorem chan_setChan_ne {s : State} {c k : Nat} (x : Chan) (h : k ≠ c) : (s.setChan c x).chan k = s.chan k := by
  unfold State.chan State.setChan
  simp [List.getD_eq_getElem?_getD, List.getElem?_set_ne (Ne.symm h)]

/-- A channel that is not as at reset is one of the list. -/
theorem chan_lt {s : State} {c : Nat} (h : s.chan c ≠ Chan.reset) : c < s.field.chans.length := by
  by_contra hc
  exact h (List.getD_eq_default _ _ (Nat.le_of_not_lt hc))

theorem chan_lt_of_kind {s : State} {c k : Nat} (h : (s.chan c).kind = k) (hk : k ≠ 0) : c < s.field.chans.length :=
  chan_lt fun e => hk (by rw [← h, e]; rfl)

theorem grp_setGrp_same {s : State} {g : Nat} (x : Group) (h : g < s.field.grps.length) : (s.setGrp g x).grp g = x := by
  unfold State.grp State.setGrp
  exact (List.getD_eq_getElem _ _ (by simpa using h)).trans (by simp)

theorem grp_lt {s : State} {g : Nat} (h : s.grp g ≠ Group.reset) : g < s.field.grps.length := by
  by_contra hc
  exact h (List.getD_eq_default _ _ (Nat.le_of_not_lt hc))

theorem chan_of_field {s t : State} (h : t.field = s.field) (c : Nat) : t.chan c = s.chan c := by unfold State.chan; rw [h]
theorem grp_of_field {s t : State} (h : t.field = s.field) (g : Nat) : t.grp g = s.grp g := by unfold State.grp; rw [h]

theorem toTime_field (s : State) (n : Nat) : (s.toTime n).field = s.field := (State_toTime_within (k := 56) rfl Within.refl).field_eq (by decide)
theorem toTime_mem (s : State) (n : Nat) : (s.toTime n).mem = s.mem := (State_toTime_within (k := 56) rfl Within.refl).mem_eq (by decide)
theorem toMono_field (s : State) (n : Nat) : (s.toMono n).field = s.field := (State_toMono_within (k := 56) rfl Within.refl).field_eq (by decide)
theorem toMono_mem (s : State) (n : Nat) : (s.toMono n).mem = s.mem := (State_toMono_within (k := 56) rfl Within.refl).mem_eq (by decide)

/-! ### What judging changes of the field half -/

/-- Only channels, functions and events changed, and no event was taken back. -/
structure Judged (s t : State) : Prop where
  rest : t.field = { s.field with chans := t.field.chans, fns := t.field.fns, events := t.field.events }
  events : s.field.events <+: t.field.events

theorem Judged.refl {s : State} : Judged s s := ⟨rfl, List.prefix_refl _⟩

theorem Judged.of_field {s t : State} (h : t.field = s.field) : Judged s t := ⟨by rw [h], by rw [h]⟩

theorem Judged.trans {s t u : State} (h : Judged s t) (g : Judged t u) : Judged s u := by
  refine ⟨?_, h.events.trans g.events⟩
  rw [g.rest, h.rest]

theorem Judged.ite {s t u : State} {c : Prop} [Decidable c] (h : c → Judged s t) (g : ¬ c → Judged s u) : Judged s (if c then t else u) := by
  split
  · exact h ‹_›
  · exact g ‹_›

theorem Judged.foldl {α : Type} {f : State → α → State} (hf : ∀ s a, Judged s (f s a)) : ∀ (l : List α) (s : State), Judged s (l.foldl f s)
  | [], _ => .refl
  | a :: l, s => (hf s a).trans (Judged.foldl hf l (f s a))

theorem fev_judged (s : State) (a b c : Nat) : Judged s (s.fev a b c) := ⟨rfl, List.prefix_append _ _⟩
theorem setChan_judged (s : State) (c : Nat) (x : Chan) : Judged s (s.setChan c x) := ⟨rfl, List.prefix_refl _⟩
theorem modChan_judged (s : State) (c : Nat) (f : Chan → Chan) : Judged s (s.modChan c f) := setChan_judged _ _ _
theorem setFn_judged (s : State) (f : FieldFn) : Judged s (s.setFn f) := ⟨rfl, List.prefix_refl _⟩

theorem Judged.round {s t : State} (h : Judged s t) : t.field.round = s.field.round := by rw [h.rest]
theorem Judged.grp {s t : State} (h : Judged s t) (g : Nat) : t.grp g = s.grp g := by unfold State.grp; rw [h.rest]
theorem Judged.mem_events {s t : State} (h : Judged s t) {e : FieldEvent} (he : e ∈ s.field.events) : e ∈ t.field.events := h.events.subset he

theorem fnLatch_judged (s : State) (n code detail : Nat) : Judged s (s.fnLatch n code detail) := by
  unfold State.fnLatch
  split
  · exact .ite (fun _ => .refl) fun _ => .ite (fun _ => ((setFn_judged _ _).trans (fev_judged _ _ _ _)).trans (fev_judged _ _ _ _))
      (fun _ => (setFn_judged _ _).trans (fev_judged _ _ _ _))
  · exact .refl

theorem settleFn_judged (s : State) (f : FieldFn) : Judged s (s.settleFn f) := by
  unfold State.settleFn
  exact .ite (fun _ => .refl) fun _ => .ite (fun _ => fnLatch_judged _ _ _ _) fun _ => setFn_judged _ _

theorem settleChan_judged (s : State) (c : Nat) : Judged s (s.settleChan c) := by
  unfold State.settleChan
  exact .ite (fun _ => .refl) fun _ => setChan_judged _ _ _

theorem settle_judged (s : State) : Judged s s.settle :=
  (Judged.foldl settleFn_judged _ _).trans (Judged.foldl settleChan_judged _ _)

theorem tsFail_judged (s : State) (c : Nat) : Judged s (s.tsFail c) := by
  unfold State.tsFail
  refine .trans ?_ (settle_judged _)
  exact .trans (modChan_judged s c _) (.foldl (fun t (f : FieldFn) => fnLatch_judged t f.num 4 c) _ _)

theorem sinRound_judged (s : State) (f : FieldFn) : Judged s (s.sinRound f) := by
  unfold State.sinRound
  extract_lets
  exact .ite (fun _ => setFn_judged _ _) fun _ => .ite (fun _ => setFn_judged _ _) fun _ => setFn_judged _ _

/-! #### The slots of a round -/

theorem checkVt_judged (s : State) (c : Nat) (vt : Int) : Judged s (s.checkVt c vt) := by
  unfold State.checkVt
  split
  · exact modChan_judged _ _ _
  · exact modChan_judged _ _ _
  · exact .refl

theorem aiRound_judged (s : State) (c : Nat) (m : Meas) : Judged s (s.aiRound c m) := by
  unfold State.aiRound
  extract_lets x z lim roc s1 s2
  clear_value z
  have h2 : Judged s s2 := .ite (fun _ => (setChan_judged _ _ _).trans (fev_judged _ _ _ _)) fun _ => setChan_judged _ _ _
  clear_value s2
  split
  · exact .ite (fun _ => h2.trans (fev_judged _ _ _ _)) fun _ => h2
  · exact h2

theorem aoRound_judged (s : State) (c : Nat) (m : Meas) : Judged s (s.aoRound c m) := by
  unfold State.aoRound
  exact .ite (fun _ => setChan_judged _ _ _) fun _ => setChan_judged _ _ _

theorem soRound_judged (s : State) (c : Nat) (m : Meas) : Judged s (s.soRound c m) := by
  unfold State.soRound
  dsimp only
  split
  · exact .refl
  · refine .ite (fun _ => .refl) fun _ => .ite (fun _ => ?_) fun _ => .ite (fun _ => ?_) fun _ => ?_
    · exact (setFn_judged _ _).trans (fnLatch_judged _ _ _ _)
    · exact (setFn_judged _ _).trans (fnLatch_judged _ _ _ _)
    · exact setFn_judged _ _

theorem slotJudge_judged (s : State) (c t : Nat) (m : Meas) : Judged s (s.slotJudge c t m) := by
  unfold State.slotJudge
  extract_lets s1
  have h1 : Judged s s1 := .ite (fun _ => .refl) fun _ => checkVt_judged _ _ _
  clear_value s1
  split
  · exact h1.trans (modChan_judged _ _ _)
  · exact h1.trans (setChan_judged _ _ _)
  · exact h1.trans (aiRound_judged _ _ _)
  · exact h1.trans (aoRound_judged _ _ _)
  · exact h1.trans (setChan_judged _ _ _)
  · exact h1.trans (soRound_judged _ _ _)
  · exact h1

theorem slot_judged (s : State) (r c : Nat) (m : Meas) : Judged s (s.slot r c m) :=
  .ite (fun _ => (modChan_judged _ _ _).trans (fev_judged _ _ _ _)) fun _ => (slotJudge_judged _ _ _ _).trans (modChan_judged _ _ _)

theorem slots_judged (r : Nat) : ∀ (c : Nat) (ms : List Meas) (s : State), Judged s (s.slots r c ms)
  | _, [], _ => .refl
  | c, m :: ms, s => (slot_judged s r c m).trans (slots_judged r (c + 1) ms _)

/-! ### A round closes one input frame (R283, R301) -/

/-- The round begins. -/
def roundBegun (s : State) (r : Nat) : State := { s.toTime (r + 100000) with field := { (s.toTime (r + 100000)).field with round := some r } }

/-- The groups' part of a round. -/
def groupsRound (s : State) (lpA lpB : Nat) (ambient : Int) : State := (s.grpRound 0 lpA ambient).grpRound 1 lpB ambient

/-- The input pairs' part of a round. -/
def pairsRound (s : State) : State := (s.field.fns.filter (fun f => f.ty = 1)).foldl (fun s f => s.sinRound f) s

/-- What the round's frame is closed over. -/
def roundJudged (lpA lpB : Nat) (ambient : Int) (ms : List Meas) (s : State) : State :=
  (pairsRound (groupsRound ((roundBegun s s.nextRound).slots s.nextRound 0 (ms.take 64)) lpA lpB ambient)).settle

theorem channelRound_up {s : State} (h : s.field.up = true) (lpA lpB : Nat) (ambient : Int) (ms : List Meas) :
    channelRound lpA lpB ambient ms s = (roundJudged lpA lpB ambient ms s).closeFrame s.nextRound := if_pos h

theorem pairsRound_judged (s : State) : Judged s (pairsRound s) := .foldl sinRound_judged _ _

theorem groupsRound_round (s : State) (lpA lpB : Nat) (ambient : Int) : (groupsRound s lpA lpB ambient).field.round = s.field.round := rfl

theorem roundJudged_round (lpA lpB : Nat) (ambient : Int) (ms : List Meas) (s : State) :
    (roundJudged lpA lpB ambient ms s).field.round = some s.nextRound := by
  unfold roundJudged
  rw [(settle_judged _).round, (pairsRound_judged _).round, groupsRound_round, (slots_judged _ _ _ _).round]
  rfl

theorem roundBegun_within (s : State) (r : Nat) : Within 16777272 s (roundBegun s r) := Within.set_field rfl (State_toTime_within rfl .refl)

theorem groupsRound_within {s t : State} (lpA lpB : Nat) (ambient : Int) (h : Within 16777272 s t) :
    Within 16777272 s (groupsRound t lpA lpB ambient) := State_grpRound_within rfl (State_grpRound_within rfl h)

theorem pairsRound_within {s t : State} (h : Within 16777272 s t) : Within 16777272 s (pairsRound t) :=
  Within.foldl (fun _ _ h => State_sinRound_within rfl h) _ h

theorem roundJudged_toHost (lpA lpB : Nat) (ambient : Int) (ms : List Meas) (s : State) : (roundJudged lpA lpB ambient ms s).toHost = s.toHost :=
  (State_settle_within rfl (pairsRound_within (groupsRound_within _ _ _ (State_slots_within rfl (roundBegun_within s _))))).toHost_eq (by decide)

/-- The input frame that a round closes. -/
def closedFrame (s : State) (r : Nat) : RimIn :=
  ⟨r, (List.range 64).map (fun c => s.chIn c), s.field.grps.map Group.word, s.field.fns.map (fun f => (f.num, s.fnWord f, s.fnVals f)),
    s.fieldStat, s.field.events⟩

theorem closeFrame_toHost (s : State) (r : Nat) : (s.closeFrame r).toHost = s.toHost ++ [.inp (closedFrame s r)] := rfl

theorem closeFrame_round (s : State) (r : Nat) : (s.closeFrame r).field.round = s.field.round := rfl
theorem closeFrame_events (s : State) (r : Nat) : (s.closeFrame r).field.events = [] := rfl

/-! ### Samples and edges (R287, R288) -/

theorem checkVt_chan (s : State) (c : Nat) (vt : Int) (hc : c < s.field.chans.length) :
    ∃ b g, (s.checkVt c vt).chan c = { s.chan c with bad := b, good := g } := by
  unfold State.checkVt
  split
  · exact ⟨_, _, chan_setChan_same _ hc⟩
  · exact ⟨_, _, chan_setChan_same _ hc⟩
  · exact ⟨_, _, rfl⟩

theorem checkVt_chan_ne (s : State) {c k : Nat} (vt : Int) (h : k ≠ c) : (s.checkVt c vt).chan k = s.chan k := by
  unfold State.checkVt
  split
  · exact chan_setChan_ne _ h
  · exact chan_setChan_ne _ h
  · rfl

theorem checkVt_length (s : State) (c : Nat) (vt : Int) : (s.checkVt c vt).field.chans.length = s.field.chans.length := by
  unfold State.checkVt
  split
  · exact List.length_set ..
  · exact List.length_set ..
  · rfl

/-- The end of the next sampling window of a DI. -/
def diWindow (s : State) (c : Nat) : Nat := gridNext (s.chan c).diPeriod 16000 (max s.now ((s.chan c).di.last + 1))

theorem diSample_eq {s : State} {c : Nat} (hk : (s.chan c).kind = 1) (hu : s.field.up = true) (hp : (s.chan c).prot = false) (level : Bool) (vt : Int) :
    diSample c level vt s = ((s.toTime (diWindow s c)).checkVt c vt).modChan c
      (fun x => { x with di := x.di.sample level (diWindow s c) (1000 * x.p32 4) }) := by
  unfold diSample
  dsimp only
  rw [if_pos ⟨hk, hu⟩, if_neg (by rw [hp]; exact Bool.false_ne_true)]
  rfl

theorem diSample_chan {s : State} {c : Nat} (hk : (s.chan c).kind = 1) (hu : s.field.up = true) (hp : (s.chan c).prot = false) (level : Bool) (vt : Int) :
    ((diSample c level vt s).chan c).di = (s.chan c).di.sample level (diWindow s c) (1000 * (s.chan c).p32 4) ∧
      ∀ k, k ≠ c → (diSample c level vt s).chan k = s.chan k := by
  have hf := toTime_field s (diWindow s c)
  have hc : c < (s.toTime (diWindow s c)).field.chans.length := by rw [hf]; exact chan_lt_of_kind hk (by decide)
  have hx := chan_of_field hf
  rw [diSample_eq hk hu hp]
  generalize s.toTime (diWindow s c) = t at hc hx
  constructor
  · obtain ⟨b, g, hbg⟩ := checkVt_chan t c vt hc
    refine (congrArg Chan.di (chan_setChan_same _ (by rw [checkVt_length]; exact hc))).trans ?_
    rw [hbg, hx]
    rfl
  · intro k hkc
    exact (chan_setChan_ne _ hkc).trans ((checkVt_chan_ne t vt hkc).trans (hx k))

/-- An FI after an edge. -/
def fiAfter (x : Chan) (level : Bool) (n : Nat) : Chan :=
  if x.selects level then { x with level := level, edges := n :: x.edges, edgeSeq := (x.edgeSeq + 1) % 2 ^ 32 } else { x with level := level }

theorem fiEdge_eq {s : State} {c : Nat} {level : Bool} (hk : (s.chan c).kind = 2) (hu : s.field.up = true) (hp : (s.chan c).prot = false)
    (hl : level ≠ (s.chan c).level) (n : Nat) : fiEdge c level n s = (s.toTime (n + 1000)).setChan c (fiAfter (s.chan c) level n) := by
  unfold fiEdge fiAfter
  dsimp only
  rw [if_pos ⟨hk, hu, by rw [hp]; exact Bool.false_ne_true, hl⟩]

/-- Settles O31: the round's frame, a DI's sample and an FI's edge. -/
theorem roundsAndSamples : Obligations.RoundsAndSamples := by
  unfold Obligations.RoundsAndSamples
  intro s c lpA lpB amb vt ms level n
  refine ⟨fun hu => ?round, fun hu => next_eq (if_neg (by rw [hu]; exact Bool.false_ne_true)), fun hk hu hp => ?sample, fun hk hu hp hl => ?edge⟩
  case round =>
    have he : exec (.channelRound lpA lpB amb ms) s = .next (channelRound lpA.toNat lpB.toNat amb ms s) := rfl
    have hr := channelRound_up hu lpA.toNat lpB.toNat amb ms
    refine ⟨_, closedFrame (roundJudged lpA.toNat lpB.toNat amb ms s) s.nextRound, he, ?_, ?_, rfl, ?_, ?_, exec_field_regs he rfl, exec_field_mem he rfl⟩
    · rw [hr, closeFrame_round, roundJudged_round]
    · rw [hr, closeFrame_toHost, roundJudged_toHost]
    · exact (List.length_map _).trans List.length_range
    · rw [hr, closeFrame_events]
  case sample =>
    have he : exec (.diSampleWindow c level vt) s = .next (diSample c level vt s) := rfl
    obtain ⟨h1, h2⟩ := diSample_chan hk hu hp level vt
    exact ⟨_, he, h1, h2, exec_field_regs he rfl, exec_field_mem he rfl⟩
  case edge =>
    have hf := toTime_field s (n + 1000)
    have hc : c.val < (s.toTime (n + 1000)).field.chans.length := by rw [hf]; exact chan_lt_of_kind hk (by decide)
    refine ⟨_, next_eq (fiEdge_eq hk hu hp hl n), ?_, ?_, ?_, fun k hkc => (chan_setChan_ne _ hkc).trans (chan_of_field hf k), toTime_regs _ _, toTime_mem _ _⟩
    all_goals
      rw [chan_setChan_same _ hc]
      unfold fiAfter
      split <;> rfl

/-! ### What settling the outputs leaves of the channels -/

/-- A channel after another: its switch and the instants it turned may have changed. -/
def SwitchOnly (x y : Chan) : Prop := y = { x with on := y.on, onAt := y.onAt, offAt := y.offAt }

theorem SwitchOnly.trans {x y z : Chan} (h : SwitchOnly x y) (g : SwitchOnly y z) : SwitchOnly x z := by
  unfold SwitchOnly at *
  rw [g, h]

theorem chan_ite {p : Prop} [Decidable p] {t u : State} {c : Nat} {x : Chan} (h : p → t.chan c = x) (g : ¬ p → u.chan c = x) :
    (if p then t else u).chan c = x := by
  split
  · exact h ‹_›
  · exact g ‹_›

theorem fnLatch_chan (s : State) (n code detail c : Nat) : (s.fnLatch n code detail).chan c = s.chan c := by
  unfold State.fnLatch
  split
  · exact chan_ite (fun _ => rfl) fun _ => chan_ite (fun _ => rfl) fun _ => rfl
  · rfl

theorem settleFn_chan (s : State) (f : FieldFn) (c : Nat) : (s.settleFn f).chan c = s.chan c := by
  unfold State.settleFn
  exact chan_ite (fun _ => rfl) fun _ => chan_ite (fun _ => fnLatch_chan _ _ _ _ _) fun _ => rfl

theorem foldl_chan {α : Type} {f : State → α → State} {c : Nat} (hf : ∀ s a, (f s a).chan c = s.chan c) :
    ∀ (l : List α) (s : State), (l.foldl f s).chan c = s.chan c
  | [], _ => rfl
  | a :: l, s => (foldl_chan hf l (f s a)).trans (hf s a)

theorem settleChan_chan (s : State) (k c : Nat) : SwitchOnly (s.chan c) ((s.settleChan k).chan c) := by
  unfold State.settleChan
  dsimp only
  split
  · rfl
  · by_cases h : c = k
    · subst h
      by_cases hc : c < s.field.chans.length
      · rw [chan_setChan_same _ hc]
        rfl
      · have hs : ∀ x, (s.setChan c x).chan c = s.chan c := fun x => by
          unfold State.chan State.setChan
          rw [List.getD_eq_default _ _ (by simpa using hc), List.getD_eq_default _ _ (by simpa using hc)]
        rw [hs]
        rfl
    · rw [chan_setChan_ne _ h]
      rfl

theorem settleChans_chan (c : Nat) : ∀ (l : List Nat) (s : State), SwitchOnly (s.chan c) ((l.foldl (fun s c => s.settleChan c) s).chan c)
  | [], _ => rfl
  | k :: l, s => (settleChan_chan s k c).trans (settleChans_chan c l (s.settleChan k))

/-- The functions settled first. -/
def settledFns (s : State) : State := (s.field.fns.filter (fun f => f.ty = 3)).foldl (fun s f => s.settleFn f) s

theorem settledFns_chan (s : State) (c : Nat) : (settledFns s).chan c = s.chan c := foldl_chan (fun s f => settleFn_chan s f c) _ _

theorem settle_eq (s : State) : s.settle = (List.range 64).foldl (fun s c => s.settleChan c) (settledFns s) := rfl

theorem settle_chan (s : State) (c : Nat) : SwitchOnly (s.chan c) (s.settle.chan c) := by
  have h := settleChans_chan c (List.range 64) (settledFns s)
  rw [settledFns_chan] at h
  exact h

/-- Of a channel settling changes only the switch: any part of it that does not depend on the switch is as before. -/
theorem settle_chan_part {α : Type} {p : Chan → α} (hp : ∀ (x : Chan) b i j, p { x with on := b, onAt := i, offAt := j } = p x) (s : State) (c : Nat) :
    p (s.settle.chan c) = p (s.chan c) := (congrArg p (settle_chan s c)).trans (hp _ _ _ _)

/-! ### A channel that its protection holds off -/

/-- Protective state, or switched off by its limit. -/
def Chan.heldOff (x : Chan) : Prop := x.prot = true ∨ (x.short = true ∧ (x.kind = 3 ∨ x.kind = 7 ∨ x.kind = 8))

theorem stageFree_of_prot {s : State} {c : Nat} (h : (s.chan c).prot = true) : s.stageFree c = false := by
  unfold State.stageFree
  rw [h]
  simp

theorem wantOn_of_heldOff {s : State} {c : Nat} (h : Chan.heldOff (s.chan c)) : s.wantOn c = false := by
  unfold State.wantOn
  dsimp only
  rcases h with hp | ⟨hs, hk | hk | hk⟩
  · rw [stageFree_of_prot hp]
    split
    · rfl
    · rfl
    · rfl
    · split <;> simp
    · rfl
  · simp [hk, hs]
  · simp [hk, hs]
  · simp only [hk, hs]
    split <;> simp

theorem heldOff_of_switchOnly {x y : Chan} (h : SwitchOnly x y) (hx : Chan.heldOff x) : Chan.heldOff y := by
  rw [h]
  exact hx

theorem settleChan_off {s : State} {c : Nat} (h : Chan.heldOff (s.chan c)) : ((s.settleChan c).chan c).on = false := by
  have hw := wantOn_of_heldOff h
  have hc : c < s.field.chans.length := chan_lt fun e => by
    rw [e] at h
    rcases h with h | ⟨h, -⟩ <;> exact Bool.false_ne_true h
  unfold State.settleChan
  dsimp only
  rw [hw]
  split
  · exact Eq.symm ‹_›
  · rw [chan_setChan_same _ hc]

theorem settleChan_keeps_off {s : State} {c : Nat} (k : Nat) (h : Chan.heldOff (s.chan c)) (ho : (s.chan c).on = false) :
    ((s.settleChan k).chan c).on = false := by
  by_cases hk : c = k
  · subst hk
    exact settleChan_off h
  · unfold State.settleChan
    dsimp only
    split
    · exact ho
    · rw [chan_setChan_ne _ hk, ho]

theorem settleChans_keep_off {c : Nat} : ∀ (l : List Nat) {s : State}, Chan.heldOff (s.chan c) → (s.chan c).on = false →
    ((l.foldl (fun s c => s.settleChan c) s).chan c).on = false
  | [], _, _, ho => ho
  | k :: l, s, h, ho => settleChans_keep_off l (heldOff_of_switchOnly (settleChan_chan s k c) h) (settleChan_keeps_off k h ho)

theorem settleChans_off {c : Nat} : ∀ (l : List Nat) {s : State}, c ∈ l → Chan.heldOff (s.chan c) →
    ((l.foldl (fun s c => s.settleChan c) s).chan c).on = false
  | [], _, hm, _ => absurd hm (List.not_mem_nil)
  | k :: l, s, hm, h => by
    have h' := heldOff_of_switchOnly (settleChan_chan s k c) h
    by_cases hk : c = k
    · subst hk
      exact settleChans_keep_off l h' (settleChan_off h)
    · exact settleChans_off l ((List.mem_cons.1 hm).resolve_left hk) h'

theorem settle_off {s : State} {c : Nat} (hc : c < 64) (h : Chan.heldOff (s.chan c)) : (s.settle.chan c).on = false := by
  rw [settle_eq]
  exact settleChans_off _ (List.mem_range.2 hc) (by rw [settledFns_chan]; exact h)

/-! ### Protections (R291 to R296) -/

theorem tsFail_chan (s : State) {c : Nat} (hc : c < s.field.chans.length) : SwitchOnly { s.chan c with tsFault := true } ((s.tsFail c).chan c) := by
  unfold State.tsFail
  dsimp only
  have h := settle_chan ((State.fedBy (s.modChan c (fun x => { x with tsFault := true })) c).foldl (fun s f => s.fnLatch f.num 4 c)
    (s.modChan c (fun x => { x with tsFault := true }))) c
  rw [foldl_chan (fun s (f : FieldFn) => fnLatch_chan s f.num 4 c c) _ _] at h
  rw [show ((s.modChan c (fun x => { x with tsFault := true })).chan c) = { s.chan c with tsFault := true } from chan_setChan_same _ hc] at h
  exact h

/-- What a protective switch-off leaves of the channel before its outputs settle. -/
def shortened (x : Chan) (now : Nat) (latch : Bool) : Chan :=
  { x with short := true, shortAt := now, tryAt := none, latched := x.latched || latch, sawFalse := false }

/-- The state with the switch-off noted and told. -/
def shortTold (s : State) (c : Nat) (thermal latch : Bool) : State :=
  let s1 := (s.setChan c (shortened (s.chan c) s.now latch)).fev 136 (c + 256 * b2n thermal) 0
  if latch then s1.fev 139 c 0 else s1

theorem shortTold_chan {s : State} {c : Nat} (hc : c < s.field.chans.length) (thermal latch : Bool) :
    (shortTold s c thermal latch).chan c = shortened (s.chan c) s.now latch := by
  unfold shortTold
  dsimp only
  split <;> exact chan_setChan_same _ hc

theorem shortTold_event (s : State) (c : Nat) (thermal latch : Bool) :
    ⟨136, c + 256 * b2n thermal, 0, s.now⟩ ∈ (shortTold s c thermal latch).field.events := by
  have h : (⟨136, c + 256 * b2n thermal, 0, s.now⟩ : FieldEvent) ∈
      ((s.setChan c (shortened (s.chan c) s.now latch)).fev 136 (c + 256 * b2n thermal) 0).field.events :=
    List.mem_append_right _ (List.mem_singleton.2 rfl)
  unfold shortTold
  dsimp only
  split
  · exact List.mem_append_left _ h
  · exact h

theorem doShort_eq {s : State} {c : Nat} (hk : (s.chan c).kind = 3 ∨ (s.chan c).kind = 7 ∨ (s.chan c).kind = 8) (ho : (s.chan c).on = true) (b : Bool) :
    ∃ latch, doShort c b s = (if (s.chan c).kind = 7 then (shortTold s c b latch).tsFail c else shortTold s c b latch).settle := by
  unfold doShort
  dsimp only
  rw [if_pos ⟨hk, ho⟩]
  exact ⟨_, rfl⟩

theorem doShort_after {s : State} {c : Nat} (h64 : c < 64) (hk : (s.chan c).kind = 3 ∨ (s.chan c).kind = 7 ∨ (s.chan c).kind = 8)
    (ho : (s.chan c).on = true) (b : Bool) : ((doShort c b s).chan c).short = true ∧ ((doShort c b s).chan c).shortAt = s.now ∧
      ((doShort c b s).chan c).on = false ∧ ⟨136, c + 256 * b2n b, 0, s.now⟩ ∈ (doShort c b s).field.events := by
  have hc : c < s.field.chans.length := by rcases hk with h | h | h <;> exact chan_lt_of_kind h (by decide)
  obtain ⟨latch, he⟩ := doShort_eq hk ho b
  have hx := shortTold_chan hc b latch
  have hev := shortTold_event s c b latch
  have hlen : (shortTold s c b latch).field.chans.length = s.field.chans.length := by
    unfold shortTold
    dsimp only
    split <;> exact List.length_set ..
  rw [he]
  generalize shortTold s c b latch = t at hx hev hlen
  have key : ∀ u : State, (∃ tf, SwitchOnly { t.chan c with tsFault := tf } (u.chan c)) → Judged t u →
      (u.settle.chan c).short = true ∧ (u.settle.chan c).shortAt = s.now ∧ (u.settle.chan c).on = false ∧
        ⟨136, c + 256 * b2n b, 0, s.now⟩ ∈ u.settle.field.events := by
    intro u ⟨tf, hu⟩ hj
    have hsh : (u.chan c).short = true := by rw [hu, hx]; rfl
    refine ⟨(settle_chan_part (fun _ _ _ _ => rfl) u c).trans hsh, (settle_chan_part (fun _ _ _ _ => rfl) u c).trans (by rw [hu, hx]; rfl),
      settle_off h64 (Or.inr ⟨hsh, ?_⟩), (hj.trans (settle_judged u)).mem_events hev⟩
    rw [hu, hx]
    exact hk
  split
  · exact key _ ⟨true, tsFail_chan t (by rw [hlen]; exact hc)⟩ (tsFail_judged _ _)
  · exact key _ ⟨_, rfl⟩ .refl

theorem doRestart_do {s : State} {c : Nat} (hk : (s.chan c).kind = 3) (hs : (s.chan c).short = true) (hl : (s.chan c).latched = false)
    (hw : (s.chan c).doWant = true) (hm : s.lpMissing c = false) :
    ((doRestart c s).chan c).short = false ∧ ((doRestart c s).chan c).retry = (s.chan c).retry + 1 := by
  have hf := toTime_field s ((s.chan c).shortAt + 1000000000)
  have hc : c < (s.toTime ((s.chan c).shortAt + 1000000000)).field.chans.length := by rw [hf]; exact chan_lt_of_kind hk (by decide)
  have hx := chan_of_field hf c
  unfold doRestart
  dsimp only
  rw [if_pos ⟨hk, hs, by rw [hl]; exact Bool.false_ne_true, hw, by rw [hm]; exact Bool.false_ne_true⟩]
  generalize s.toTime ((s.chan c).shortAt + 1000000000) = t at hc hx
  refine ⟨(settle_chan_part (fun _ _ _ _ => rfl) _ c).trans (congrArg Chan.short (chan_setChan_same _ hc)),
    (settle_chan_part (fun _ _ _ _ => rfl) _ c).trans ((congrArg Chan.retry (chan_setChan_same _ hc)).trans ?_)⟩
  rw [hx]

theorem doRestart_so {s : State} {c : Nat} (hk : (s.chan c).kind = 8) (hs : (s.chan c).short = true) : ((doRestart c s).chan c).short = false := by
  have hf := toTime_field s ((s.chan c).shortAt + 1000000000)
  have hc : c < (s.toTime ((s.chan c).shortAt + 1000000000)).field.chans.length := by rw [hf]; exact chan_lt_of_kind hk (by decide)
  unfold doRestart
  dsimp only
  rw [if_neg (fun h => absurd (hk.symm.trans h.1) (by decide)), if_pos ⟨hk, hs⟩]
  exact (settle_chan_part (fun _ _ _ _ => rfl) _ c).trans (congrArg Chan.short (chan_setChan_same _ hc))

theorem doRestart_latched {s : State} {c : Nat} (hk : (s.chan c).kind = 3) (hl : (s.chan c).latched = true) : doRestart c s = s := by
  unfold doRestart
  dsimp only
  rw [if_neg (fun h => h.2.2.1 hl), if_neg (fun h => absurd (hk.symm.trans h.1) (by decide))]

theorem doOpenLoad_eq {s : State} {c : Nat} (hk : (s.chan c).kind = 3) (hp : (s.chan c).p8 0 = 1) (ho : (s.chan c).openSet = false)
    (hr : 10 * (s.chan c).p16 2 ≤ (s.chan c).openRun) : doOpenLoad c s = (s.setChan c { s.chan c with openSet := true }).fev 137 c 0 :=
  if_pos ⟨hk, hp, by rw [ho]; exact Bool.false_ne_true, hr⟩

theorem doForeign_eq {s : State} {c : Nat} (hk : (s.chan c).kind = 3) (hr : 10 ≤ (s.chan c).forRun) (hl : (s.chan c).forLevel ≠ (s.chan c).foreign) :
    doForeign c s = if (s.chan c).forLevel then (s.setChan c { s.chan c with foreign := (s.chan c).forLevel }).fev 138 c 0
      else s.setChan c { s.chan c with foreign := (s.chan c).forLevel } := if_pos ⟨hk, hr, hl⟩

/-! #### L+ and the groups -/

theorem lpEdge_grp (s : State) (g old new k : Nat) : (s.lpEdge g old new).grp k = s.grp k := by
  have hm : ∀ (l : List Nat) (s : State), Judged s (l.foldl (fun s i => s.modChan (32 * g + i) Chan.lpBack) s) :=
    Judged.foldl fun s i => modChan_judged _ _ _
  unfold State.lpEdge
  split
  · exact (hm _ _).grp _
  · split <;> rfl

theorem lplusChange_eq {s : State} {g : Nat} (h : (s.grp g).lpNext ≠ (s.grp g).lpst) : lplusChange g s =
    (((s.setGrp g { s.grp g with lpst := (s.grp g).lpNext }).lpEdge g (s.grp g).lpst (s.grp g).lpNext).fev (133 + g) (s.grp g).lpNext
      (s.grp g).vlp).settle := if_neg h

theorem lpEdge_now (s : State) (g old new : Nat) : (s.lpEdge g old new).now = s.now :=
  (State_lpEdge_within (k := 16777216) rfl .refl).now_eq (by decide)

theorem lplusChange_after {s : State} {g : Nat} (h : (s.grp g).lpNext ≠ (s.grp g).lpst) : ((lplusChange g s).grp g).lpst = (s.grp g).lpNext ∧
    ⟨133 + g, (s.grp g).lpNext, (s.grp g).vlp, s.now⟩ ∈ (lplusChange g s).field.events := by
  have hg : g < s.field.grps.length := grp_lt fun e => h (by rw [e]; rfl)
  rw [lplusChange_eq h]
  constructor
  · rw [(settle_judged _).grp]
    refine congrArg Group.lpst ((lpEdge_grp _ _ _ _ g).trans (grp_setGrp_same _ hg))
  · refine (settle_judged _).mem_events (List.mem_append_right _ (List.mem_singleton.2 ?_))
    rw [lpEdge_now]
    rfl

theorem groupOverload_eq {s : State} {g : Nat} (ho : (s.grp g).overload = false) (hr : 1000 ≤ (s.grp g).ovrRun) :
    groupOverload g s = (s.setGrp g { s.grp g with overload := true }).fev 143 g (s.grp g).ido :=
  if_pos ⟨by rw [ho]; exact Bool.false_ne_true, hr⟩

/-! #### The protective state -/

/-- The channel in its protective state, told. -/
def protTold (s : State) (c : Nat) : State := (s.setChan c { s.chan c with prot := true, good := 0 }).fev 135 c (unsint 32 (s.chan c).vt)

theorem protEnter_eq {s : State} {c : Nat} (hp : (s.chan c).prot = false) (hb : 3 ≤ (s.chan c).bad) : protEnter c s =
    ((((protTold s c).field.fns.filter (fun f => f.has c || (decide (f.ty = 3) && decide (f.fbCh = c)))).foldl
      (fun s f => s.fnLatch f.num 5 c) (protTold s c)).settle) := if_pos ⟨by rw [hp]; exact Bool.false_ne_true, hb⟩

theorem protEnter_after {s : State} {c : Nat} (h64 : c < 64) (hp : (s.chan c).prot = false) (hb : 3 ≤ (s.chan c).bad) :
    ((protEnter c s).chan c).prot = true ∧ ((protEnter c s).chan c).on = false ∧
      ⟨135, c, unsint 32 (s.chan c).vt, s.now⟩ ∈ (protEnter c s).field.events := by
  have hc : c < s.field.chans.length := chan_lt fun e => absurd hb (by rw [e]; decide)
  have hx : ((protTold s c).chan c).prot = true := congrArg Chan.prot (chan_setChan_same _ hc)
  have hl := fun (l : List FieldFn) => foldl_chan (fun s (f : FieldFn) => fnLatch_chan s f.num 5 c c) l (protTold s c)
  have hj := fun (l : List FieldFn) => Judged.foldl (fun s (f : FieldFn) => fnLatch_judged s f.num 5 c) l (protTold s c)
  have hev : (⟨135, c, unsint 32 (s.chan c).vt, s.now⟩ : FieldEvent) ∈ (protTold s c).field.events :=
    List.mem_append_right _ (List.mem_singleton.2 rfl)
  rw [protEnter_eq hp hb]
  refine ⟨(settle_chan_part (fun _ _ _ _ => rfl) _ c).trans (by rw [hl]; exact hx), settle_off h64 (Or.inl (by rw [hl]; exact hx)),
    ((hj _).trans (settle_judged _)).mem_events hev⟩

theorem protExit_eq {s : State} {c : Nat} (hp : (s.chan c).prot = true) (hg : 1000 ≤ (s.chan c).good) :
    protExit c s = (s.setChan c { (s.chan c).firstUse with prot := false }).settle := if_pos ⟨hp, hg⟩

/-- Settles O32: each protection sets its flag, tells its event, and settles the outputs. -/
theorem channelProtection : Obligations.ChannelProtection := by
  unfold Obligations.ChannelProtection
  intro s c g b
  have told : ∀ {e : FieldEvent} {l : List FieldEvent}, e ∈ l ++ [e] := List.mem_append_right _ (List.mem_singleton.2 rfl)
  refine ⟨fun hk ho => ?short, fun hk hs hl hw hm => ?restart, fun hk hs => ⟨_, rfl, doRestart_so hk hs⟩, fun hk hl => next_eq (doRestart_latched hk hl),
    fun hk hp ho hr => ?openLoad, fun hk hr hl => ?foreign, fun h => ?lplus, fun ho hr => ?overload, fun hp hb => ?enter, fun hp hg => ?leave⟩
  case short =>
    have he : exec (.doShortSwitchoff c b) s = .next (doShort c b s) := rfl
    obtain ⟨h1, h2, h3, h4⟩ := doShort_after c.isLt hk ho b
    exact ⟨_, he, h1, h2, h3, h4, exec_field_regs he rfl⟩
  case restart =>
    have he : exec (.doRestartAttempt c) s = .next (doRestart c s) := rfl
    obtain ⟨h1, h2⟩ := doRestart_do hk hs hl hw hm
    exact ⟨_, he, h1, h2, exec_field_regs he rfl⟩
  case openLoad =>
    exact ⟨_, next_eq (doOpenLoad_eq hk hp ho hr), congrArg Chan.openSet (chan_setChan_same _ (chan_lt_of_kind hk (by decide))), told⟩
  case foreign =>
    have hc := chan_lt_of_kind hk (by decide)
    refine ⟨_, next_eq (doForeign_eq hk hr hl), ?_, fun h => ?_⟩
    · split <;> exact congrArg Chan.foreign (chan_setChan_same _ hc)
    · rw [if_pos h]
      exact told
  case lplus =>
    have he : exec (.lplusStateChange g) s = .next (lplusChange g s) := rfl
    obtain ⟨h1, h2⟩ := lplusChange_after h
    exact ⟨_, he, h1, h2, exec_field_regs he rfl⟩
  case overload =>
    have hg : g.val < s.field.grps.length := grp_lt fun e => absurd hr (by rw [e]; decide)
    exact ⟨_, next_eq (groupOverload_eq ho hr), congrArg Group.overload (grp_setGrp_same _ hg), told, rfl⟩
  case enter =>
    have he : exec (.protectiveStateEnter c) s = .next (protEnter c s) := rfl
    obtain ⟨h1, h2, h3⟩ := protEnter_after c.isLt hp hb
    exact ⟨_, he, h1, h2, h3, exec_field_regs he rfl⟩
  case leave =>
    have hc : c.val < s.field.chans.length := chan_lt fun e => absurd hg (by rw [e]; decide)
    have he : exec (.protectiveStateExit c) s = .next (protExit c s) := rfl
    have hx := chan_setChan_same { (s.chan c).firstUse with prot := false } hc
    refine ⟨_, he, ?_, ?_, ?_, exec_field_regs he rfl⟩
    · rw [protExit_eq hp hg]
      exact (settle_chan_part (fun _ _ _ _ => rfl) _ c).trans (by rw [hx])
    · rw [protExit_eq hp hg]
      exact (settle_chan_part (fun _ _ _ _ => rfl) _ c).trans (by rw [hx]; rfl)
    · rw [protExit_eq hp hg]
      exact (settle_chan_part (fun _ _ _ _ => rfl) _ c).trans (by rw [hx]; rfl)

end Sys2Proof.Proofs

/-! Analogue alarms and trim sessions (12). -/

namespace Sys2Proof.Proofs
open Sys2Proof Sys2Proof.Machine Sys2Proof.Laws

/-! ### Alarms (R315, R320, R321) -/

theorem txsLimit_eq {s : State} {c : Nat} (hk : (s.chan c).kind = 4) (hp : (s.chan c).p8 0 = 1) (ht : (s.chan c).txsOff = none)
    (hr : 1000 ≤ (s.chan c).limRun) : txsLimit c s = (s.setChan c { s.chan c with txsOff := some s.mono, limRun := 0 }).fev 147 c 0 :=
  if_pos ⟨hk, hp, ht, hr⟩

theorem txsRestart_eq {s : State} {c u : Nat} (h : (s.chan c).txsOff = some u) :
    txsRestart c s = (s.toMono (u + 10000000000)).modChan c (fun x => { x with txsOff := none, limRun := 0 }) := by
  unfold txsRestart
  rw [h]

theorem txsRestart_none {s : State} {c : Nat} (h : (s.chan c).txsOff = none) : txsRestart c s = s := by
  unfold txsRestart
  rw [h]

theorem modChan_mono (s : State) (c : Nat) (f : Chan → Chan) : (s.modChan c f).mono = s.mono := rfl
theorem modChan_regs (s : State) (c : Nat) (f : Chan → Chan) : (s.modChan c f).regs = s.regs := rfl

theorem modChan_chan_same {s : State} {c : Nat} (f : Chan → Chan) (h : c < s.field.chans.length) : (s.modChan c f).chan c = f (s.chan c) :=
  chan_setChan_same _ h

theorem modChan_chan_ne {s : State} {c k : Nat} (f : Chan → Chan) (h : k ≠ c) : (s.modChan c f).chan k = s.chan k := chan_setChan_ne _ h

theorem aoComplAlarm_eq {s : State} {c : Nat} (hk : (s.chan c).kind = 5) (hc : (s.chan c).compl = true) (ht : (s.chan c).complTold = false)
    (hr : 1000 ≤ (s.chan c).complRun) : aoComplAlarm c s = (s.setChan c { s.chan c with complTold := true }).fev 145 c ((s.chan c).amp / 10) :=
  if_pos ⟨hk, hc, by rw [ht]; exact Bool.false_ne_true, hr⟩

theorem aoOpen_eq {s : State} {c : Nat} (hk : (s.chan c).kind = 5) (ho : (s.chan c).aoOpen = false) (hr : 1000 ≤ (s.chan c).aoRun) :
    aoOpen c s = (s.setChan c { s.chan c with aoOpen := true }).fev 146 c 0 := if_pos ⟨hk, by rw [ho]; exact Bool.false_ne_true, hr⟩

/-- Settles O33: each alarm's flag and event, and the supply's retry. -/
theorem analogueAlarms : Obligations.AnalogueAlarms := by
  unfold Obligations.AnalogueAlarms
  intro s c u
  have told : ∀ {e : FieldEvent} {l : List FieldEvent}, e ∈ l ++ [e] := List.mem_append_right _ (List.mem_singleton.2 rfl)
  refine ⟨fun hk hp ht hr => ?limit, fun h => ?restart, fun h => next_eq (txsRestart_none h), fun hk hc ht hr => ?compl, fun hk ho hr => ?opened⟩
  case limit => exact ⟨_, next_eq (txsLimit_eq hk hp ht hr), congrArg Chan.txsOff (chan_setChan_same _ (chan_lt_of_kind hk (by decide))), told, rfl⟩
  case restart =>
    have hf := toMono_field s (u + 10000000000)
    have hc : c.val < (s.toMono (u + 10000000000)).field.chans.length := by
      rw [hf]
      exact chan_lt fun e => by rw [e] at h; cases h
    refine ⟨_, next_eq (txsRestart_eq h), ?_, ?_, ?_⟩
    · rw [modChan_chan_same _ hc]
    · rw [modChan_mono]
      exact le_toMono_mono _ _
    · rw [modChan_regs, toMono_regs]
  case compl => exact ⟨_, next_eq (aoComplAlarm_eq hk hc ht hr), congrArg Chan.complTold (chan_setChan_same _ (chan_lt_of_kind hk (by decide))), told⟩
  case opened => exact ⟨_, next_eq (aoOpen_eq hk ho hr), congrArg Chan.aoOpen (chan_setChan_same _ (chan_lt_of_kind hk (by decide))), told⟩

/-! ### A trim session (R323) -/

theorem settle_within (s : State) : Within 16777216 s s.settle := State_settle_within rfl .refl

/-- The registers that show a command: its channel and point. -/
def trimShown (s : State) (w : Word) : State := (s.setFld Reg.CHN_TRIM_CTRL_CH (wordField w 0 6)).setFld Reg.CHN_TRIM_CTRL_POINT (wordField w 8 2)

theorem trimShown_reg (s : State) (w : Word) {a : Nat} (h : a ≠ Reg.CHN_TRIM_CTRL) : (trimShown s w).reg a = s.reg a :=
  (reg_setFld_ne _ _ h).trans (reg_setFld_ne _ _ h)

theorem trimShown_inHalt (s : State) (w : Word) : (trimShown s w).inHalt = s.inHalt := by
  unfold State.inHalt
  rw [fld_of_reg (trimShown_reg s w (by decide))]

theorem trimShown_trimState (s : State) (w : Word) (c : Nat) (b : Bool) : (trimShown s w).trimState c b = s.trimState c b := by
  unfold State.trimState
  rw [trimShown_inHalt]
  rfl

theorem trimCtrl_noKey {m : Master} {w : Word} (hm : m.isPair = true) (hk : wordField w 24 8 ≠ 0x5A) (b : Bool) (s : State) : trimCtrl m w b s = s := by
  unfold trimCtrl
  rw [if_neg (fun h => h (mayWriteRegs_of_isPair hm)), if_pos hk]

/-- With its key a command acts by its operation code. -/
theorem trimCtrl_key {m : Master} {w : Word} (hm : m.isPair = true) (hk : wordField w 24 8 = 0x5A) (b : Bool) (s : State) :
    trimCtrl m w b s = match wordField w 16 3 with
      | 1 => (trimShown s w).trimDrive (wordField w 0 6) (wordField w 8 2)
      | 2 => (trimShown s w).trimCommit (wordField w 0 6) b
      | 3 => if (trimShown s w).trimState (wordField w 0 6) true then (trimShown s w).trimEnd.trimResult (wordField w 0 6) 1 false
          else (trimShown s w).trimResult (wordField w 0 6) 2 true
      | 4 => (trimShown s w).trimClear (wordField w 0 6) b
      | _ => trimShown s w := by
  unfold trimCtrl
  rw [if_neg (fun h => h (mayWriteRegs_of_isPair hm)), if_neg (fun h => h hk)]
  rfl

/-! #### The result (CHN_TRIM_STAT) -/

theorem trimResult_within (s : State) (c r : Nat) (e : Bool) : Within 1285 s (s.trimResult c r e) := State_trimResult_within rfl .refl

theorem trimResult_fld (s : State) (c r : Nat) (e : Bool) {f : Field} (hf : eventTouches f.addr = false) :
    (s.trimResult c r e).fld f = ((s.setFld Reg.CHN_TRIM_STAT_CH c).setFld Reg.CHN_TRIM_STAT_RESULT r).fld f := by
  unfold State.trimResult
  dsimp only
  split
  · exact raise_fld _ (by decide) hf
  · rfl

theorem trimResult_result (s : State) (c : Nat) {r : Nat} (e : Bool) (h : r < 8) : (s.trimResult c r e).fld Reg.CHN_TRIM_STAT_RESULT = r :=
  (trimResult_fld s c r e (by decide)).trans (fld_setFld_of_lt _ h (by decide))

theorem trimResult_driven (s : State) (c r : Nat) (e : Bool) : (s.trimResult c r e).fld Reg.CHN_TRIM_STAT_DRIVEN = s.fld Reg.CHN_TRIM_STAT_DRIVEN :=
  (trimResult_fld s c r e (by decide)).trans
    ((fld_setFld_other _ _ (by decide) (by decide)).trans (fld_setFld_other _ _ (by decide) (by decide)))

theorem trimResult_active (s : State) (c r : Nat) (e : Bool) : (s.trimResult c r e).flag Reg.CHN_TRIM_STAT_ACTIVE = s.flag Reg.CHN_TRIM_STAT_ACTIVE :=
  flag_of_fld ((trimResult_fld s c r e (by decide)).trans
    ((fld_setFld_other _ _ (by decide) (by decide)).trans (fld_setFld_other _ _ (by decide) (by decide))))

/-! #### DRIVE, COMMIT, END, CLEAR -/

theorem trimState_none {s : State} {c : Nat} (hh : s.inHalt = true) (hk : s.hostKind c = 5) (ht : s.trim = none) (b : Bool) :
    s.trimState c b = !b := by
  unfold State.trimState
  rw [hh, hk, ht]
  rfl

theorem trimState_some {s : State} {c : Nat} {x : TrimSession} (hh : s.inHalt = true) (hk : s.hostKind c = 5) (ht : s.trim = some x) (hx : x.ch = c)
    (b : Bool) : s.trimState c b = true := by
  unfold State.trimState
  rw [hh, hk, ht]
  simp [hx]

/-- The session opened by a first DRIVE, shown. -/
def trimOpened (s : State) (c point : Nat) : State :=
  (({ s with trim := some ⟨c, point, s.mono⟩ } : State).setFlag Reg.CHN_TRIM_STAT_ACTIVE true).setFld Reg.CHN_TRIM_STAT_DRIVEN point

theorem trimDrive_first {s : State} {c point : Nat} (hs : s.trimState c false = true) (hp : point = 1 ∨ point = 2) (ht : s.trim = none) :
    s.trimDrive c point = (((trimOpened s c point).modChan c (fun x => { x with drive := point })).settle).trimResult c 1 false := by
  unfold State.trimDrive
  rw [if_neg (fun h => h hs), if_neg (by omega)]
  dsimp only
  rw [ht]
  dsimp only
  rw [Nat.zero_or]
  rfl

theorem trimDrive_after {s : State} {c point : Nat} (hs : s.trimState c false = true) (hp : point = 1 ∨ point = 2) (ht : s.trim = none) :
    (s.trimDrive c point).trim = some ⟨c, point, s.mono⟩ ∧ (s.trimDrive c point).flag Reg.CHN_TRIM_STAT_ACTIVE = true ∧
      (s.trimDrive c point).fld Reg.CHN_TRIM_STAT_DRIVEN = point ∧ (s.trimDrive c point).fld Reg.CHN_TRIM_STAT_RESULT = 1 ∧
      (s.trimDrive c point).mem = s.mem := by
  have hw := settle_within ((trimOpened s c point).modChan c (fun x => { x with drive := point }))
  have hregs : (((trimOpened s c point).modChan c (fun x => { x with drive := point })).settle).regs = (trimOpened s c point).regs :=
    (hw.regs_eq (by decide)).trans (modChan_regs _ _ _)
  rw [trimDrive_first hs hp ht]
  refine ⟨((trimResult_within _ _ _ _).trim_eq (by decide)).trans (hw.trim_eq (by decide)), ?_, ?_, trimResult_result _ _ _ (by decide),
    ((trimResult_within _ _ _ _).mem_eq (by decide)).trans (hw.mem_eq (by decide))⟩
  · rw [trimResult_active, flag_of_fld (fld_of_regs hregs _)]
    exact (flag_setFld_other _ _ (by decide) (by decide)).trans (flag_setFlag_same _ _ _ (by decide) (by decide))
  · rw [trimResult_driven, fld_of_regs hregs]
    exact fld_setFld_of_lt _ (by rcases hp with rfl | rfl <;> decide) (by decide)

theorem copyWrite_within (s : State) (a : Nat) (ok : List Byte → Bool) (body : List Byte) : Within 2 s (s.copyWrite a ok body) :=
  State_copyWrite_within rfl .refl

theorem trimWrite_toField (s : State) (c m4 m20 : Nat) : (s.trimWrite c m4 m20).toField = s.toField ++ [.trim c m4 m20] :=
  congrArg (· ++ [RimFrame.trim c m4 m20]) ((copyWrite_within s _ _ _).toField_eq (by decide))

theorem trimWrite_trim (s : State) (c m4 m20 : Nat) : (s.trimWrite c m4 m20).trim = s.trim :=
  (copyWrite_within s (trimAt c) trimGood (leBytes 4 m4 ++ leBytes 4 m20 ++ leBytes 4 0 ++ leBytes 8 (secOf s.now))).trim_eq (by decide)

/-- A record written and sent, and its result. -/
theorem trimWritten {s : State} {c m4 m20 : Nat} : ((s.trimWrite c m4 m20).trimResult c 1 true).fld Reg.CHN_TRIM_STAT_RESULT = 1 ∧
    .trim c m4 m20 ∈ ((s.trimWrite c m4 m20).trimResult c 1 true).toField ∧ ((s.trimWrite c m4 m20).trimResult c 1 true).trim = s.trim := by
  refine ⟨trimResult_result _ _ _ (by decide), ?_, ((trimResult_within _ _ _ _).trim_eq (by decide)).trans (trimWrite_trim _ _ _ _)⟩
  rw [(trimResult_within _ _ _ _).toField_eq (by decide), trimWrite_toField]
  exact List.mem_append_right _ (List.mem_singleton.2 rfl)

theorem trimCommit_good {s : State} {c : Nat} (hs : s.trimState c true = true) (hd : s.fld Reg.CHN_TRIM_STAT_DRIVEN = 3)
    (hr : trimRange (s.reg Reg.CHN_TRIM_M4).toNat (s.reg Reg.CHN_TRIM_M20).toNat = true) :
    s.trimCommit c true = (s.trimWrite c (s.reg Reg.CHN_TRIM_M4).toNat (s.reg Reg.CHN_TRIM_M20).toNat).trimResult c 1 true := by
  unfold State.trimCommit
  dsimp only
  rw [if_neg (fun h => h hs), if_neg (fun h => h hd), if_neg (fun h => h hr), if_neg (fun h => h rfl)]

/-- A COMMIT without a session, or before both points were driven, is refused. -/
theorem trimCommit_refused {s : State} {c : Nat} (h : s.trim = none ∨ s.fld Reg.CHN_TRIM_STAT_DRIVEN ≠ 3) (b : Bool) :
    ∃ r, r ≠ 1 ∧ r < 8 ∧ s.trimCommit c b = s.trimResult c r true := by
  unfold State.trimCommit
  dsimp only
  by_cases hs : s.trimState c true = true
  · have hd : s.fld Reg.CHN_TRIM_STAT_DRIVEN ≠ 3 := by
      refine h.resolve_left fun hn => ?_
      unfold State.trimState at hs
      rw [hn] at hs
      simp at hs
    exact ⟨4, by decide, by decide, by rw [if_neg (fun h => h hs), if_pos hd]⟩
  · exact ⟨2, by decide, by decide, by rw [if_pos hs]⟩

theorem trimClear_good {s : State} {c : Nat} (hs : s.trimState c false = true) :
    s.trimClear c true = (s.trimWrite c 0x40800000 0x41A00000).trimResult c 1 true := by
  unfold State.trimClear
  rw [if_neg (fun h => h hs), if_neg (fun h => h rfl)]

/-- The registers and session of a session that has ended. -/
def trimClosed (s : State) : State :=
  (({ s with trim := none } : State).setFlag Reg.CHN_TRIM_STAT_ACTIVE false).setFld Reg.CHN_TRIM_STAT_DRIVEN 0

theorem trimEnd_eq {s : State} {x : TrimSession} (h : s.trim = some x) :
    s.trimEnd = ((trimClosed s).modChan x.ch (fun y => { y with drive := 0 })).settle := by
  unfold State.trimEnd
  rw [h]
  rfl

theorem trimEnd_after {s : State} {x : TrimSession} (h : s.trim = some x) : s.trimEnd.trim = none ∧ s.trimEnd.flag Reg.CHN_TRIM_STAT_ACTIVE = false ∧
    s.trimEnd.mono = s.mono := by
  have hw := settle_within ((trimClosed s).modChan x.ch (fun y => { y with drive := 0 }))
  rw [trimEnd_eq h]
  refine ⟨hw.trim_eq (by decide), ?_, hw.mono_eq (by decide)⟩
  rw [flag_of_fld (fld_of_regs ((hw.regs_eq (by decide)).trans (modChan_regs _ _ _)) _)]
  exact (flag_setFld_other _ _ (by decide) (by decide)).trans (flag_setFlag_same _ _ _ (by decide) (by decide))

theorem trimTimeout_eq {s : State} {x : TrimSession} (h : s.trim = some x) : trimTimeout s = (s.toMono (x.at_ + 300000000000)).trimEnd := by
  unfold trimTimeout
  rw [h]

theorem toMono_trim (s : State) (n : Nat) : (s.toMono n).trim = s.trim := (toMono_within s n).trim_eq (by decide)

/-- Settles O34: the key, and each operation in a session of its channel. -/
theorem trimSessionRules : Obligations.TrimSessionRules := by
  unfold Obligations.TrimSessionRules
  intro s m w b x hm
  dsimp only
  refine ⟨⟨fun hk => ?noKey, fun hk hh hkind => ⟨fun hop hp ht => ?drive, fun hop ht hx hd hr hb => ?commit, fun hop h => ?refused,
    fun hop ht hx => ?ended, fun hop ht hb => ?clear⟩⟩, fun ht => ?timeout⟩
  case noKey =>
    have h := next_eq (trimCtrl_noKey hm hk b s)
    exact ⟨h, h, h, h⟩
  case timeout =>
    obtain ⟨h1, h2, h3⟩ := trimEnd_after ((toMono_trim s (x.at_ + 300000000000)).trans ht)
    refine ⟨_, next_eq (trimTimeout_eq ht), h1, h2, ?_⟩
    rw [h3]
    exact le_toMono_mono _ _
  all_goals
    have hcmd := trimCtrl_key hm hk b s
    rw [hop] at hcmd
    have hh' := (trimShown_inHalt s w).trans hh
    have hkind' : (trimShown s w).hostKind (wordField w 0 6) = 5 := hkind
    have hdriven : (trimShown s w).fld Reg.CHN_TRIM_STAT_DRIVEN = s.fld Reg.CHN_TRIM_STAT_DRIVEN := fld_of_reg (trimShown_reg s w (by decide))
  case drive =>
    obtain ⟨h1, h2, h3, h4, h5⟩ := trimDrive_after (trimState_none hh' hkind' ht false) hp ht
    exact ⟨_, next_eq hcmd, h1, h2, h3, h4, h5⟩
  case commit =>
    have hm4 := trimShown_reg s w (a := Reg.CHN_TRIM_M4) (by decide)
    have hm20 := trimShown_reg s w (a := Reg.CHN_TRIM_M20) (by decide)
    subst hb
    rw [trimCommit_good (trimState_some hh' hkind' ht hx true) (hdriven.trans hd) (by rw [hm4, hm20]; exact hr), hm4, hm20] at hcmd
    obtain ⟨h1, h2, h3⟩ := trimWritten (s := trimShown s w) (c := wordField w 0 6) (m4 := (s.reg Reg.CHN_TRIM_M4).toNat)
      (m20 := (s.reg Reg.CHN_TRIM_M20).toNat)
    exact ⟨_, next_eq hcmd, h1, h2, h3⟩
  case refused =>
    obtain ⟨r, hr, hlt, he⟩ := trimCommit_refused (s := trimShown s w) (c := wordField w 0 6) (by rw [hdriven]; exact h) b
    refine ⟨_, next_eq (hcmd.trans he), ?_, (trimResult_within _ _ _ _).toField_eq (by decide), (trimResult_within _ _ _ _).mem_eq (by decide)⟩
    rw [trimResult_result _ _ _ hlt]
    exact hr
  case ended =>
    rw [if_pos (trimState_some hh' hkind' ht hx true)] at hcmd
    obtain ⟨h1, h2, -⟩ := trimEnd_after (s := trimShown s w) ht
    exact ⟨_, next_eq hcmd, ((trimResult_within _ _ _ _).trim_eq (by decide)).trans h1, (trimResult_active _ _ _ _).trans h2,
      trimResult_result _ _ _ (by decide)⟩
  case clear =>
    subst hb
    rw [trimClear_good (trimState_none hh' hkind' ht false)] at hcmd
    obtain ⟨h1, h2, -⟩ := trimWritten (s := trimShown s w) (c := wordField w 0 6) (m4 := 0x40800000) (m20 := 0x41A00000)
    exact ⟨_, next_eq hcmd, h1, h2⟩

end Sys2Proof.Proofs

/-! HART records, their pushes and the scans (12). -/

namespace Sys2Proof.Proofs
open Sys2Proof Sys2Proof.Machine Sys2Proof.Laws

/-! ### Records (R330, R332) -/

theorem hartRecord_free {s : State} {r : HartRec} (h : s.field.records.length < 64) : (s.hartRecord r).field.records = s.field.records ++ [r] := by
  unfold State.hartRecord
  rw [if_pos h]

/-- The transactions and requests of every channel are as they were. -/
structure HartKept (s t : State) : Prop where
  len : t.field.chans.length = s.field.chans.length
  run : ∀ k, (t.chan k).hart.run = (s.chan k).hart.run
  fifo : ∀ k, (t.chan k).hart.fifo = (s.chan k).hart.fifo

theorem HartKept.refl {s : State} : HartKept s s := ⟨rfl, fun _ => rfl, fun _ => rfl⟩

theorem HartKept.trans {s t u : State} (h : HartKept s t) (g : HartKept t u) : HartKept s u :=
  ⟨g.len.trans h.len, fun k => (g.run k).trans (h.run k), fun k => (g.fifo k).trans (h.fifo k)⟩

theorem modChan_hartKept (s : State) (c : Nat) {f : Chan → Chan} (hr : ∀ x, (f x).hart.run = x.hart.run) (hf : ∀ x, (f x).hart.fifo = x.hart.fifo) :
    HartKept s (s.modChan c f) := by
  have key : ∀ {α : Type} (p : Chan → α), (∀ x, p (f x) = p x) → ∀ k, p ((s.modChan c f).chan k) = p (s.chan k) := by
    intro α p hp k
    by_cases hk : k = c
    · subst hk
      by_cases hl : k < s.field.chans.length
      · rw [modChan_chan_same _ hl, hp]
      · refine congrArg p ?_
        unfold State.modChan State.setChan State.chan
        rw [List.getD_eq_default _ _ (by simpa using hl), List.getD_eq_default _ _ (by simpa using hl)]
    · rw [modChan_chan_ne _ hk]
  exact ⟨List.length_set .., key (fun x => x.hart.run) hr, key (fun x => x.hart.fifo) hf⟩

theorem hartLose_kept (s : State) (c tag : Nat) : HartKept s (s.hartLose c tag) :=
  (modChan_hartKept s c (f := fun x => x.setHart (fun h => { h with lost := min 15 (h.lost + 1) })) (fun _ => rfl) (fun _ => rfl)).trans
    ⟨rfl, fun _ => rfl, fun _ => rfl⟩

theorem hartRecord_kept (s : State) (r : HartRec) : HartKept s (s.hartRecord r) := by
  unfold State.hartRecord
  split
  · exact ⟨rfl, fun _ => rfl, fun _ => rfl⟩
  · exact hartLose_kept _ _ _

theorem hartEnd_kept (s : State) (c : Nat) (q : HartReq) (status n : Nat) (frame : List Byte) (t : Nat) : HartKept s (s.hartEnd c q status n frame t) := by
  unfold State.hartEnd
  split
  · exact .refl
  · exact hartRecord_kept _ _

theorem hartDrop_kept (c status : Nat) : ∀ (l : List HartReq) (s : State), HartKept s (s.hartDrop c status l)
  | [], _ => .refl
  | q :: l, s => (hartEnd_kept s c q status 0 [] s.now).trans (hartDrop_kept c status l _)

/-! ### Cancelling (R335) -/

/-- No transaction runs on the channel and no request waits. -/
def HartQuiet (s : State) (c : Nat) : Prop := (s.chan c).hart.run = none ∧ (s.chan c).hart.fifo = []

theorem HartKept.quiet {s t : State} (h : HartKept s t) {c : Nat} (q : HartQuiet s c) : HartQuiet t c := ⟨(h.run c).trans q.1, (h.fifo c).trans q.2⟩

/-- The channel's transaction and requests are taken away. -/
def hartCleared (s : State) (c : Nat) : State := s.modChan c (fun x => x.setHart (fun h => { h with run := none, fifo := [] }))

theorem hartCancel_kept (s : State) (c : Nat) : HartKept (hartCleared s c) (s.hartCancel c) := by
  unfold State.hartCancel
  dsimp only
  refine HartKept.trans ?_ (hartDrop_kept _ _ _ _)
  split
  · exact hartEnd_kept _ _ _ _ _ _ _
  · exact .refl

theorem hartCleared_quiet {s : State} {c : Nat} (h : c < s.field.chans.length) : HartQuiet (hartCleared s c) c := by
  have := modChan_chan_same (s := s) (c := c) (fun x => x.setHart (fun h => { h with run := none, fifo := [] })) h
  exact ⟨congrArg (fun x => x.hart.run) this, congrArg (fun x => x.hart.fifo) this⟩

theorem hartCleared_keeps_quiet {s : State} {c k : Nat} (h : HartQuiet s k) : HartQuiet (hartCleared s c) k := by
  by_cases hk : k = c
  · subst hk
    by_cases hl : k < s.field.chans.length
    · exact hartCleared_quiet hl
    · unfold HartQuiet hartCleared State.modChan State.setChan State.chan
      rw [List.getD_eq_default _ _ (by simpa using hl)]
      exact ⟨rfl, rfl⟩
  · have := modChan_chan_ne (s := s) (fun x => x.setHart (fun h => { h with run := none, fifo := [] })) hk
    exact ⟨(congrArg (fun x => x.hart.run) this).trans h.1, (congrArg (fun x => x.hart.fifo) this).trans h.2⟩

theorem hartCancels_keep_quiet {c : Nat} : ∀ (l : List Nat) {s : State}, HartQuiet s c → HartQuiet (l.foldl (fun s c => s.hartCancel c) s) c
  | [], _, h => h
  | k :: l, s, h => hartCancels_keep_quiet l ((hartCancel_kept s k).quiet (hartCleared_keeps_quiet h))

theorem hartCancels_quiet {c : Nat} : ∀ (l : List Nat) {s : State}, c ∈ l → c < s.field.chans.length →
    HartQuiet (l.foldl (fun s c => s.hartCancel c) s) c
  | [], _, hm, _ => absurd hm List.not_mem_nil
  | k :: l, s, hm, hl => by
    by_cases hk : c = k
    · subst hk
      exact hartCancels_keep_quiet l ((hartCancel_kept s c).quiet (hartCleared_quiet hl))
    · refine hartCancels_quiet l ((List.mem_cons.1 hm).resolve_left hk) ?_
      rw [(hartCancel_kept s k).len]
      simpa [hartCleared, State.modChan, State.setChan] using hl

theorem mem_maskChannels {mask c : Nat} (h : c < 64) (hb : bit mask c = true) : c ∈ (List.range 64).filter (fun c => bit mask c) :=
  List.mem_filter.2 ⟨List.mem_range.2 h, hb⟩

/-! ### Messages of Pair F leave the channels and records as they are -/

theorem fieldPost_chans (s : State) (b : Nat) (m : List Byte) : (s.fieldPost b m).field.chans = s.field.chans := by
  unfold State.fieldPost
  split <;> rfl

theorem fieldPost_records (s : State) (b : Nat) (m : List Byte) : (s.fieldPost b m).field.records = s.field.records := by
  unfold State.fieldPost
  split <;> rfl

theorem fieldPost_within (s : State) (b : Nat) (m : List Byte) : Within 68736258048 s (s.fieldPost b m) := State_fieldPost_within rfl .refl

theorem cancelDone_chans (s : State) : s.cancelDone.field.chans = s.field.chans := by
  unfold State.cancelDone
  split
  · split
    · rfl
    · exact fieldPost_chans _ _ _
  · rfl

theorem cancelDone_records (s : State) : s.cancelDone.field.records = s.field.records := by
  unfold State.cancelDone
  split
  · split
    · rfl
    · exact fieldPost_records _ _ _
  · rfl

theorem hartPop_records (s : State) (rest : List HartRec) : (s.hartPop rest).field.records = rest := cancelDone_records _

theorem hartPop_within (s : State) (rest : List HartRec) : Within 68736258048 s (s.hartPop rest) := State_hartPop_within rfl .refl

theorem chan_of_chans {s t : State} (h : t.field.chans = s.field.chans) (c : Nat) : t.chan c = s.chan c := by unfold State.chan; rw [h]

/-! ### Pushes (R332) -/

theorem hartPushTo_field (s : State) (q : Nat) (r : HartRec) : (s.hartPushTo q r).field = s.field := by
  have h : Within 274877908231 s (s.hartPushTo q r) := State_hartPushTo_within rfl .refl
  exact h.field_eq (by decide)

theorem hartPush_room {s : State} {r : HartRec} {rest : List HartRec} {a q : Nat} (hr : s.field.records = r :: rest) (hq : s.hartQueues = some (a, q))
    (he : s.flag (Reg.QUE_CFG_EN q) = true) (hp : s.fld (Reg.QUE_CFG_PROD q) = hartPort)
    (hl : s.fld (Reg.QUE_STAT_LEVEL q) < 2 ^ s.fld (Reg.QUE_CFG_SIZE q)) : hartPush s = (s.hartPop rest).hartPushTo q r := by
  unfold hartPush
  rw [hr, hq]
  dsimp only
  rw [if_pos ⟨he, hp⟩, if_neg (Nat.not_le_of_lt hl)]

theorem hartPush_full {s : State} {r : HartRec} {rest : List HartRec} {a q : Nat} (hr : s.field.records = r :: rest) (hq : s.hartQueues = some (a, q))
    (he : s.flag (Reg.QUE_CFG_EN q) = true) (hp : s.fld (Reg.QUE_CFG_PROD q) = hartPort)
    (hl : 2 ^ s.fld (Reg.QUE_CFG_SIZE q) ≤ s.fld (Reg.QUE_STAT_LEVEL q)) : hartPush s = s.pushRefuse hardwareMaster q 2 := by
  unfold hartPush
  rw [hr, hq]
  dsimp only
  rw [if_pos ⟨he, hp⟩, if_pos hl]

theorem hartDiscard_eq {s : State} {r : HartRec} {rest : List HartRec} (h : s.field.records = r :: rest) :
    hartDiscard s = ((s.toMono (r.since + 100000000)).hartPop rest).hartLose r.ch r.tag := by
  unfold hartDiscard
  rw [h]

theorem hartLose_records (s : State) (c tag : Nat) : (s.hartLose c tag).field.records = s.field.records := rfl

theorem hartLose_mono (s : State) (c tag : Nat) : (s.hartLose c tag).mono = s.mono := rfl

/-! ### Scans (R334, R335) -/

theorem kind_of_hartEn {x : Chan} (h : x.hartEn = true) : x ≠ Chan.reset := fun e => by
  rw [e] at h
  exact absurd h (by decide)

/-- A scan request joins the channel's requests, and its next one counts from now. -/
def scanJoined (x : Chan) (now : Nat) : Chan :=
  x.setHart (fun h => { h with scanAt := now, fifo := h.fifo ++ [⟨true, 0, x.hartRetry, x.scanFrame⟩] })

theorem hartScanDue_eq {s : State} {c : Nat} (he : (s.chan c).hartEn = true) (hs : 0 < (s.chan c).scanS) (hu : (s.chan c).hart.suspended = false)
    (hp : s.chPartner c = false) : ∃ t, t = s.toMono ((s.chan c).hart.scanAt + 1000000000 * (s.chan c).scanS) ∧
      hartScanDue c s = t.modChan c (fun x => scanJoined x t.mono) :=
  ⟨_, rfl, if_pos ⟨he, hs, by rw [hu]; exact Bool.false_ne_true, by rw [hp]; exact Bool.false_ne_true⟩⟩

/-- Scanning is suspended or resumed on a channel. -/
def suspend (off : Bool) (x : Chan) : Chan := x.setHart (fun h => { h with suspended := off })

theorem suspends_len (off : Bool) : ∀ (l : List Nat) (s : State),
    (l.foldl (fun s c => s.modChan c (suspend off)) s).field.chans.length = s.field.chans.length
  | [], _ => rfl
  | k :: l, s => (suspends_len off l (s.modChan k (suspend off))).trans (List.length_set ..)

theorem suspends_keep (off : Bool) {c : Nat} : ∀ (l : List Nat) {s : State}, c < s.field.chans.length → (s.chan c).hart.suspended = off →
    ((l.foldl (fun s c => s.modChan c (suspend off)) s).chan c).hart.suspended = off
  | [], _, _, h => h
  | k :: l, s, hl, h => by
    refine suspends_keep off l (s := s.modChan k (suspend off)) (by simpa [State.modChan, State.setChan] using hl) ?_
    by_cases hk : c = k
    · subst hk
      rw [modChan_chan_same _ hl]
      rfl
    · rw [modChan_chan_ne _ hk]
      exact h

theorem suspends_set (off : Bool) {c : Nat} : ∀ (l : List Nat) {s : State}, c ∈ l → c < s.field.chans.length →
    ((l.foldl (fun s c => s.modChan c (suspend off)) s).chan c).hart.suspended = off
  | [], _, hm, _ => absurd hm List.not_mem_nil
  | k :: l, s, hm, hl => by
    have hl' : c < (s.modChan k (suspend off)).field.chans.length := by simpa [State.modChan, State.setChan] using hl
    by_cases hk : c = k
    · subst hk
      exact suspends_keep off l hl' (by rw [modChan_chan_same _ hl]; rfl)
    · exact suspends_set off l ((List.mem_cons.1 hm).resolve_left hk) hl'

theorem hartScanMsg_eq {s : State} {m : List Byte} (h : s.fieldMsg 17 0x11 = some m) :
    hartScanMsg s = (((List.range 64).filter (fun c => bit (leNat (slice m 4 8)) c)).foldl
      (fun s c => s.modChan c (suspend (decide (u8 m 12 = 0)))) s).fieldTake 17 := by
  unfold hartScanMsg
  rw [h]
  rfl

/-- The mask whose cancelling is to be reported. -/
def cancelAsked (s : State) (mask : Nat) : State := { s with field := { s.field with cancel := some mask } }

theorem hartCancelMsg_eq {s : State} {m : List Byte} (h : s.fieldMsg 17 0x10 = some m) :
    hartCancelMsg s = (cancelAsked ((s.hartCancelMask (leNat (slice m 4 8))).fieldTake 17) (leNat (slice m 4 8))).cancelDone := by
  unfold hartCancelMsg
  rw [h]
  rfl

/-- Settles O36: records made, pushed and discarded, and the scans. -/
theorem hartRecordsAndScans : Obligations.HartRecordsAndScans := by
  unfold Obligations.HartRecordsAndScans
  intro s c frame m r rest a q n hz
  have hlen : c.val < s.field.chans.length := by rw [hz.2.2.2.1]; exact c.isLt
  refine ⟨fun he hb hp hl => ?listen, fun he hr hp hl => ?burst, fun hr hq hen hp => ⟨fun hl => ?room, fun hl => ?full⟩, fun hr => ?discard,
    fun he hs hu hp => ?due, fun hm hb => ?scan, fun hm hb => ?cancel⟩
  case listen => exact ⟨_, next_eq (if_pos ⟨he, hb, by rw [hp]; exact Bool.false_ne_true⟩), hartRecord_free hl⟩
  case burst => exact ⟨_, next_eq (if_pos ⟨he, hr, by rw [hp]; exact Bool.false_ne_true⟩), hartRecord_free hl⟩
  case room => exact ⟨_, next_eq (hartPush_room hr hq hen hp hl), by rw [hartPushTo_field, hartPop_records]⟩
  case full =>
    have hw : Within 1285 s (s.pushRefuse hardwareMaster q 2) := State_pushRefuse_within rfl .refl
    refine ⟨_, next_eq (hartPush_full hr hq hen hp hl), hw.field_eq (by decide), ?_, hw.mem_eq (by decide)⟩
    exact raise_told _ (by decide) (by decide) _ _
  case discard =>
    have he : exec .hartRecordDiscard s = .next (hartDiscard s) := rfl
    refine ⟨_, he, ?_, ?_, exec_field_regs he rfl⟩
    · rw [hartDiscard_eq hr, hartLose_records, hartPop_records]
    · rw [hartDiscard_eq hr, hartLose_mono]
      exact Nat.le_trans (le_toMono_mono s _) (hartPop_within _ rest).mono
  case due =>
    obtain ⟨t, ht, hd⟩ := hartScanDue_eq he hs hu hp
    have hf : t.field = s.field := by rw [ht]; exact toMono_field _ _
    have hx := modChan_chan_same (s := t) (c := c.val) (fun x => scanJoined x t.mono) (by rw [hf]; exact hlen)
    refine ⟨_, next_eq hd, ?_, ?_, ?_⟩
    · rw [hx]
      rfl
    · rw [modChan_regs, ht, toMono_regs]
    · rw [hx, chan_of_field hf]
      rfl
  case scan =>
    have he : exec .hartScan s = .next (hartScanMsg s) := rfl
    refine ⟨_, he, ?_, exec_field_regs he rfl⟩
    rw [hartScanMsg_eq hm]
    exact suspends_set _ _ (mem_maskChannels c.isLt hb) hlen
  case cancel =>
    have he : exec .hartCancel s = .next (hartCancelMsg s) := rfl
    have hq : HartQuiet (s.hartCancelMask (leNat (slice m 4 8))) c := hartCancels_quiet _ (mem_maskChannels c.isLt hb) hlen
    have hx : (hartCancelMsg s).chan c = (s.hartCancelMask (leNat (slice m 4 8))).chan c := by
      rw [hartCancelMsg_eq hm]
      exact chan_of_chans (cancelDone_chans _) c
    exact ⟨_, he, by rw [hx]; exact hq.1, by rw [hx]; exact hq.2, exec_field_regs he rfl⟩

end Sys2Proof.Proofs

/-! Frames that arrive at the field half, its safe states, group modes and restarts (11). -/

namespace Sys2Proof.Proofs
open Sys2Proof Sys2Proof.Machine Sys2Proof.Laws

/-! ### Parts of the field half that judging keeps -/

/-- A part of the field half beside channels, functions and events is as before. -/
theorem Judged.part {α : Type} {s t : State} (h : Judged s t) (p : FieldSide → α)
    (hp : ∀ (f : FieldSide) a b e, p { f with chans := a, fns := b, events := e } = p f) : p t.field = p s.field := by
  rw [h.rest, hp]

theorem soutApply_judged (s : State) (e : OutEntry) : Judged s (s.soutApply e) := by
  unfold State.soutApply
  split
  · exact .ite (fun _ => fnLatch_judged _ _ _ _) fun _ => ((setFn_judged _ _).trans (modChan_judged _ _ _)).trans (modChan_judged _ _ _)
  · exact .refl

theorem entryApply_judged (s : State) (e : OutEntry) : Judged s (s.entryApply e) := by
  unfold State.entryApply
  refine .ite (fun _ => .refl) fun _ => ?_
  split
  · exact (modChan_judged _ _ _).trans (settle_judged _)
  · exact (modChan_judged _ _ _).trans (settle_judged _)
  · exact (soutApply_judged _ _).trans (settle_judged _)
  · exact .refl

theorem entryStore_judged (s : State) (e : OutEntry) : Judged s (s.entryStore e) := by
  unfold State.entryStore
  exact .ite (fun _ => (fev_judged _ _ _ _).trans (entryApply_judged _ _)) fun _ => .ite (fun _ => setChan_judged _ _ _) fun _ => fev_judged _ _ _ _

/-! ### Channels changed all at once -/

/-- Every channel changed by one function. -/
def mapChans (s : State) (f : Chan → Chan) : State := { s with field := { s.field with chans := s.field.chans.map f } }

theorem mapChans_chan {s : State} {c : Nat} (f : Chan → Chan) (h : c < s.field.chans.length) : (mapChans s f).chan c = f (s.chan c) := by
  unfold mapChans State.chan
  rw [List.getD_eq_getElem _ _ (by simpa using h), List.getElem_map, List.getD_eq_getElem _ _ h]

theorem mapChans_judged (s : State) (f : Chan → Chan) : Judged s (mapChans s f) := ⟨rfl, List.prefix_refl _⟩

/-- An output put in its safe state. -/
def madeSafe (x : Chan) : Chan := if isOutput x.kind then { x with safe := true } else x

theorem allSafe_eq (s : State) : s.allSafe = (mapChans s madeSafe).settle := rfl

theorem allSafe_judged (s : State) : Judged s s.allSafe := (mapChans_judged s madeSafe).trans (settle_judged _)

theorem allSafe_safe {s : State} {c : Nat} (h : c < s.field.chans.length) (hk : isOutput (s.chan c).kind = true) : (s.allSafe.chan c).safe = true := by
  rw [allSafe_eq]
  refine (settle_chan_part (fun _ _ _ _ => rfl) _ c).trans ?_
  rw [mapChans_chan _ h]
  unfold madeSafe
  rw [if_pos hk]

theorem allSafe_pend {s : State} {c : Nat} (h : c < s.field.chans.length) : (s.allSafe.chan c).pend = (s.chan c).pend := by
  rw [allSafe_eq]
  refine (settle_chan_part (fun _ _ _ _ => rfl) _ c).trans ?_
  rw [mapChans_chan _ h]
  unfold madeSafe
  split <;> rfl

/-! ### Frames off the Rim -/

/-- A frame taken off the Rim. -/
def frameTaken (s : State) (f : RimFrame) : State := { s with toField := s.toField.erase f }

theorem rimTake_eq {s : State} {p : RimFrame → Bool} {f : RimFrame} (h : s.toField.find? p = some f) : s.rimTake p = some (f, frameTaken s f) := by
  unfold State.rimTake
  rw [h]
  rfl

/-! #### OUT and KEEP -/

theorem rimOutFrame_whole {s : State} {es : List OutEntry} (h : s.toField.find? RimFrame.isOut = some (.out es)) (hu : s.field.up = true) :
    rimOutFrame .whole s = es.foldl (fun s e => s.entryStore e) (frameTaken s (.out es)).kickWdog := by
  unfold rimOutFrame
  rw [rimTake_eq h]
  dsimp only
  rw [if_neg (fun h => h hu), if_neg (by decide)]
  rfl

theorem rimOutFrame_crcFail {s : State} {es : List OutEntry} (h : s.toField.find? RimFrame.isOut = some (.out es)) (hu : s.field.up = true) :
    rimOutFrame .crcFail s = (frameTaken s (.out es)).rimError 0x01 := by
  unfold rimOutFrame
  rw [rimTake_eq h]
  dsimp only
  rw [if_neg (fun h => h hu), if_pos rfl]

theorem rimKeepFrame_whole {s : State} (h : s.toField.find? RimFrame.isKeep = some .keep) (hu : s.field.up = true) :
    rimKeepFrame .whole s = (frameTaken s .keep).kickWdog := by
  unfold rimKeepFrame
  rw [rimTake_eq h]
  dsimp only
  rw [if_neg (fun h => h hu), if_neg (by decide)]
  rfl

theorem rimKeepFrame_crcFail {s : State} (h : s.toField.find? RimFrame.isKeep = some .keep) (hu : s.field.up = true) :
    rimKeepFrame .crcFail s = (frameTaken s .keep).rimError 0x02 := by
  unfold rimKeepFrame
  rw [rimTake_eq h]
  dsimp only
  rw [if_neg (fun h => h hu), if_pos rfl]

theorem entryStores_within {s t : State} (h : Within 16777216 s t) (es : List OutEntry) :
    Within 16777216 s (es.foldl (fun s e => s.entryStore e) t) := Within.foldl (fun _ _ h => State_entryStore_within rfl h) es h

theorem entryStore_first {s : State} {e : OutEntry} (ht : s.now ≤ e.apply) (hc : e.ch < s.field.chans.length) (hp : (s.chan e.ch).pend = []) :
    ((s.entryStore e).chan e.ch).pend = [e] := by
  unfold State.entryStore
  dsimp only
  rw [if_neg (Nat.not_lt.2 ht), if_pos (Or.inr (by rw [hp]; decide)), chan_setChan_same _ hc, hp]
  rfl

/-! #### CFG (R280, R306) -/

/-- The record of a channel in a CHANNELS section's records. -/
def recordOf (recs : List (List Byte)) (c : Nat) : List Byte := (recs.find? (fun b => decide (u8 b 0 = c))).getD []

theorem cfgChan_same {s : State} {recs : List (List Byte)} {c : Nat} (h : c < s.field.chans.length) :
    ((s.cfgChan recs c).chan c).cfg = recordOf recs c := by
  unfold State.cfgChan
  dsimp only
  split
  · assumption
  · rw [chan_setChan_same _ h]
    rfl

theorem cfgChan_ne {s : State} {recs : List (List Byte)} {c k : Nat} (h : k ≠ c) : (s.cfgChan recs c).chan k = s.chan k := by
  unfold State.cfgChan
  dsimp only
  split
  · rfl
  · exact chan_setChan_ne _ h

theorem cfgChan_judged (s : State) (recs : List (List Byte)) (c : Nat) : Judged s (s.cfgChan recs c) := .ite (fun _ => .refl) fun _ => setChan_judged _ _ _

theorem cfgChan_length (s : State) (recs : List (List Byte)) (c : Nat) : (s.cfgChan recs c).field.chans.length = s.field.chans.length := by
  unfold State.cfgChan
  dsimp only
  split
  · rfl
  · exact List.length_set ..

theorem cfgChans_keep {recs : List (List Byte)} {c : Nat} : ∀ (l : List Nat) {s : State}, c < s.field.chans.length →
    (s.chan c).cfg = recordOf recs c → ((l.foldl (fun s c => s.cfgChan recs c) s).chan c).cfg = recordOf recs c
  | [], _, _, h => h
  | k :: l, s, hl, h => by
    refine cfgChans_keep l (s := s.cfgChan recs k) (by rw [cfgChan_length]; exact hl) ?_
    by_cases hk : c = k
    · subst hk
      exact cfgChan_same hl
    · rw [cfgChan_ne hk, h]

theorem cfgChans_set {recs : List (List Byte)} {c : Nat} : ∀ (l : List Nat) {s : State}, c ∈ l → c < s.field.chans.length →
    ((l.foldl (fun s c => s.cfgChan recs c) s).chan c).cfg = recordOf recs c
  | [], _, hm, _ => absurd hm List.not_mem_nil
  | k :: l, s, hm, hl => by
    have hl' : c < (s.cfgChan recs k).field.chans.length := by rw [cfgChan_length]; exact hl
    by_cases hk : c = k
    · subst hk
      exact cfgChans_keep l hl' (cfgChan_same hl)
    · exact cfgChans_set l ((List.mem_cons.1 hm).resolve_left hk) hl'

/-- The field half with a configuration's own fields taken over. -/
def cfgTaken (s : State) (safety : List Byte) (chk wdog slot : Nat) : State :=
  { s with field := { s.field with
      safety := safety
      fns := if safety = s.field.safety ∧ s.field.fns ≠ [] then s.field.fns else fieldFnsOf safety (decide (s.field.cause ≠ 0))
      chk := chk, wdogUs := wdog, slot := slot } }

theorem rimCfgFrame_cfg {s : State} {cs sf : List Byte} {chk wdog slot : Nat} (h : s.toField.find? RimFrame.isCfg = some (.cfg cs sf chk wdog slot))
    (hu : s.field.up = true) : rimCfgFrame s = ((List.range 64).foldl (fun s c => s.cfgChan (recordsAt cs 4 32 (u32 cs 0)) c)
      (cfgTaken (frameTaken s (.cfg cs sf chk wdog slot)) sf chk wdog slot)).settle := by
  unfold rimCfgFrame
  rw [rimTake_eq h]
  dsimp only
  rw [if_neg (fun h => h hu)]
  rfl

theorem rimCfgFrame_trim {s : State} {c m4 m20 : Nat} (h : s.toField.find? RimFrame.isCfg = some (.trim c m4 m20)) (hu : s.field.up = true) :
    rimCfgFrame s = (frameTaken s (.trim c m4 m20)).modChan c (fun x => { x with m4 := m4, m20 := m20, trimmed := true }) := by
  unfold rimCfgFrame
  rw [rimTake_eq h]
  exact if_neg (fun h => h hu)

/-! #### SAFE, CTRL and HO -/

/-- The hold is set, with the field half disarmed. -/
def holdSet (s : State) : State := { s with field := { s.field with hold := true, armed := false } }

theorem rimSafeFrame_set {s : State} (h : s.toField.find? RimFrame.isSafe = some (.safe true)) (hu : s.field.up = true) :
    rimSafeFrame s = (holdSet (frameTaken s (.safe true))).allSafe := by
  unfold rimSafeFrame
  rw [rimTake_eq h]
  dsimp only
  rw [if_neg (fun h => h hu), if_pos rfl]
  rfl

/-- The hold is lifted. -/
def holdLifted (s : State) : State := { s with field := { s.field with hold := false } }

theorem rimSafeFrame_lift {s : State} (h : s.toField.find? RimFrame.isSafe = some (.safe false)) (hu : s.field.up = true) :
    rimSafeFrame s = holdLifted (frameTaken s (.safe false)) := by
  unfold rimSafeFrame
  rw [rimTake_eq h]
  dsimp only
  rw [if_neg (fun h => h hu), if_neg Bool.false_ne_true]
  rfl

/-- A message joins Pair F's mail. -/
def mailed (s : State) (b : Nat) (msg : List Word) : State :=
  { s with field := { s.field with mail := s.field.mail ++ [(b, msg.flatMap (fun w => leBytes 4 w.toNat))] } }

theorem rimCtrlFrame_post {s : State} {b : Nat} {h : Word} {msg : List Word} (hf : s.toField.find? RimFrame.isCtrl = some (.ctrlPost b h msg))
    (hu : s.field.up = true) : rimCtrlFrame s = mailed (frameTaken s (.ctrlPost b h msg)) b msg := by
  unfold rimCtrlFrame
  rw [if_neg (fun h => h hu), rimTake_eq hf]
  rfl

theorem rimCtrlFrame_take {s : State} {b : Nat} (hf : s.toField.find? RimFrame.isCtrl = some (.ctrlTake b)) (hu : s.field.up = true) :
    rimCtrlFrame s = (frameTaken s (.ctrlTake b)).fieldFree b := by
  unfold rimCtrlFrame
  rw [if_neg (fun h => h hu), rimTake_eq hf]

/-- Without a message that waits, a take only empties the mailbox. -/
theorem fieldFree_none {s : State} {b : Nat} (h : s.field.out.find? (fun o => o.1 = b) = none) :
    b ∉ (s.fieldFree b).mbx.fieldFull ∧ (s.fieldFree b).field = s.field := by
  unfold State.fieldFree
  dsimp only
  rw [h]
  exact ⟨fun hm => absurd rfl (of_decide_eq_true (List.mem_filter.1 hm).2), rfl⟩

/-! ### Group modes (R308, R309, R336) -/

/-- Only channels, events and records changed. -/
def HartOnly (s t : State) : Prop :=
  t.field = { s.field with chans := t.field.chans, events := t.field.events, records := t.field.records }

theorem HartOnly.refl {s : State} : HartOnly s s := rfl

theorem HartOnly.trans {s t u : State} (h : HartOnly s t) (g : HartOnly t u) : HartOnly s u := by
  unfold HartOnly at *
  rw [g, h]

theorem HartOnly.foldl {α : Type} {f : State → α → State} (hf : ∀ s a, HartOnly s (f s a)) : ∀ (l : List α) (s : State), HartOnly s (l.foldl f s)
  | [], _ => .refl
  | a :: l, s => (hf s a).trans (HartOnly.foldl hf l (f s a))

theorem hartRecord_only (s : State) (r : HartRec) : HartOnly s (s.hartRecord r) := by
  unfold State.hartRecord
  split
  · rfl
  · rfl

theorem hartEnd_only (s : State) (c : Nat) (q : HartReq) (status n : Nat) (frame : List Byte) (t : Nat) : HartOnly s (s.hartEnd c q status n frame t) := by
  unfold State.hartEnd
  split
  · rfl
  · exact hartRecord_only _ _

theorem hartDrop_only (c status : Nat) : ∀ (l : List HartReq) (s : State), HartOnly s (s.hartDrop c status l)
  | [], _ => .refl
  | q :: l, s => (hartEnd_only s c q status 0 [] s.now).trans (hartDrop_only c status l _)

theorem hartCancel_only (s : State) (c : Nat) : HartOnly s (s.hartCancel c) := by
  have h0 : HartOnly s (hartCleared s c) := rfl
  unfold State.hartCancel
  dsimp only
  refine HartOnly.trans ?_ (hartDrop_only _ _ _ _)
  split
  · exact h0.trans (hartEnd_only _ _ _ _ _ _ _)
  · exact h0

theorem hartCancelMask_only (s : State) (mask : Nat) : HartOnly s (s.hartCancelMask mask) := HartOnly.foldl hartCancel_only _ _

/-- A group takes a mode. -/
def groupTakes (mode : Nat) (s : State) (g : Nat) : State :=
  let s := s.modGrp g (fun x => { x with partner := decide (mode = 1) })
  if mode = 1 then s.hartCancelMask (0xFFFFFFFF * 2 ^ (32 * g)) else s

theorem groupTakes_grps (mode : Nat) (s : State) (g : Nat) :
    (groupTakes mode s g).field.grps = s.field.grps.set g { s.grp g with partner := decide (mode = 1) } := by
  unfold groupTakes
  dsimp only
  split
  · rw [hartCancelMask_only]
    rfl
  · rfl

theorem groupTakes_rest (mode : Nat) (s : State) (g : Nat) : (groupTakes mode s g).field.take = s.field.take ∧
    (groupTakes mode s g).field.modeReq = s.field.modeReq := by
  unfold groupTakes
  dsimp only
  split
  · rw [hartCancelMask_only]
    exact ⟨rfl, rfl⟩
  · exact ⟨rfl, rfl⟩

theorem groupTakes_len (mode : Nat) (s : State) (g : Nat) : (groupTakes mode s g).field.grps.length = s.field.grps.length := by
  rw [groupTakes_grps, List.length_set]

theorem groupTakes_same {mode : Nat} {s : State} {g : Nat} (h : g < s.field.grps.length) :
    ((groupTakes mode s g).grp g).partner = decide (mode = 1) := by
  unfold State.grp
  rw [groupTakes_grps, List.getD_eq_getElem _ _ (by simpa using h), List.getElem_set_self]

theorem groupTakes_ne {mode : Nat} {s : State} {g k : Nat} (h : k ≠ g) : (groupTakes mode s g).grp k = s.grp k := by
  have hg := groupTakes_grps mode s g
  unfold State.grp at *
  rw [hg]
  simp [List.getD_eq_getElem?_getD, List.getElem?_set_ne (Ne.symm h)]

theorem groupsTake_rest (mode : Nat) : ∀ (l : List Nat) (s : State), (l.foldl (groupTakes mode) s).field.take = s.field.take ∧
    (l.foldl (groupTakes mode) s).field.modeReq = s.field.modeReq
  | [], _ => ⟨rfl, rfl⟩
  | g :: l, s => ⟨(groupsTake_rest mode l _).1.trans (groupTakes_rest mode s g).1, (groupsTake_rest mode l _).2.trans (groupTakes_rest mode s g).2⟩

theorem groupsTake_keep {mode g : Nat} : ∀ (l : List Nat) {s : State}, g < s.field.grps.length → (s.grp g).partner = decide (mode = 1) →
    ((l.foldl (groupTakes mode) s).grp g).partner = decide (mode = 1)
  | [], _, _, h => h
  | k :: l, s, hl, h => by
    refine groupsTake_keep l (s := groupTakes mode s k) (by rw [groupTakes_len]; exact hl) ?_
    by_cases hk : g = k
    · subst hk
      exact groupTakes_same hl
    · rw [groupTakes_ne hk, h]

theorem groupsTake_set {mode g : Nat} : ∀ (l : List Nat) {s : State}, g ∈ l → g < s.field.grps.length →
    ((l.foldl (groupTakes mode) s).grp g).partner = decide (mode = 1)
  | [], _, hm, _ => absurd hm List.not_mem_nil
  | k :: l, s, hm, hl => by
    have hl' : g < (groupTakes mode s k).field.grps.length := by rw [groupTakes_len]; exact hl
    by_cases hk : g = k
    · subst hk
      exact groupsTake_keep l hl' (groupTakes_same hl)
    · exact groupsTake_set l ((List.mem_cons.1 hm).resolve_left hk) hl'

theorem setMode_eq (s : State) (mask mode : Nat) : s.setMode mask mode = (([0, 1].filter (fun g => bit mask g)).foldl (groupTakes mode) s).settle := rfl

theorem setMode_rest (s : State) (mask mode : Nat) : (s.setMode mask mode).field.take = s.field.take ∧
    (s.setMode mask mode).field.modeReq = s.field.modeReq := by
  have h := groupsTake_rest mode ([0, 1].filter (fun g => bit mask g)) s
  rw [setMode_eq]
  exact ⟨((settle_judged _).part (·.take) (fun _ _ _ _ => rfl)).trans h.1, ((settle_judged _).part (·.modeReq) (fun _ _ _ _ => rfl)).trans h.2⟩

theorem setMode_partner {s : State} {mask mode : Nat} {g : Fin 2} (hl : s.field.grps.length = 2) (hb : bit mask g.val = true) :
    ((s.setMode mask mode).grp g.val).partner = decide (mode = 1) := by
  rw [setMode_eq, (settle_judged _).grp]
  refine groupsTake_set _ (List.mem_filter.2 ⟨?_, hb⟩) (by rw [hl]; exact g.isLt)
  have hg : g.val = 0 ∨ g.val = 1 := by omega
  rcases hg with hg | hg <;> simp [hg]

theorem setMode_within (s : State) (mask mode : Nat) : Within 16777216 s (s.setMode mask mode) := State_setMode_within rfl .refl

/-! #### HO (R309, R468) -/

/-- The partner's take line noted. -/
def takeNoted (s : State) (x : Bool) : State := { s with field := { s.field with take := x } }

/-- The groups forced into partner mode, and told, where the line has just been asserted; else the outputs settle. -/
def takeActed (s : State) (x was : Bool) : State := if x ∧ ¬ was then (s.setMode 3 1).fev 142 (3 + 256) 0 else s.settle

/-- A channel without pending entries. -/
def noPend (x : Chan) : Chan := { x with pend := [] }

theorem rimHoFrame_eq {s : State} {x g : Bool} (h : s.toField.find? RimFrame.isHo = some (.ho x g)) (hu : s.field.up = true) :
    rimHoFrame s = if g then mapChans (takeActed (takeNoted (frameTaken s (.ho x g)) x) x s.field.take) noPend
      else takeActed (takeNoted (frameTaken s (.ho x g)) x) x s.field.take := by
  unfold rimHoFrame
  rw [rimTake_eq h]
  exact if_neg (fun h => h hu)

theorem fev_take (s : State) (a b c : Nat) : (s.fev a b c).field.take = s.field.take := rfl
theorem fev_grp (s : State) (a b c g : Nat) : (s.fev a b c).grp g = s.grp g := rfl
theorem fev_told (s : State) (a b c : Nat) : ⟨a, b, c, s.now⟩ ∈ (s.fev a b c).field.events := List.mem_append_right _ (List.mem_singleton.2 rfl)

theorem takeActed_take (s : State) (x was : Bool) : (takeActed s x was).field.take = s.field.take := by
  unfold takeActed
  split
  · rw [fev_take]
    exact (setMode_rest s 3 1).1
  · exact (settle_judged _).part (·.take) (fun _ _ _ _ => rfl)

theorem takeActed_asserted {s : State} {x was : Bool} (hl : s.field.grps.length = 2) (hx : x = true) (hw : was = false) :
    ((takeActed s x was).grp 0).partner = true ∧ ((takeActed s x was).grp 1).partner = true ∧
      ⟨142, 259, 0, s.now⟩ ∈ (takeActed s x was).field.events := by
  unfold takeActed
  rw [if_pos ⟨hx, by rw [hw]; exact Bool.false_ne_true⟩]
  have hnow := (setMode_within s 3 1).now_eq (by decide)
  have h0 := setMode_partner (s := s) (mask := 3) (mode := 1) (g := 0) hl (by decide)
  have h1 := setMode_partner (s := s) (mask := 3) (mode := 1) (g := 1) hl (by decide)
  rw [fev_grp, fev_grp, ← hnow]
  exact ⟨h0, h1, fev_told _ _ _ _⟩

theorem takeActed_within (s : State) (x was : Bool) : Within 16777216 s (takeActed s x was) :=
  .ite (fun _ => State_fev_within rfl (State_setMode_within rfl .refl)) fun _ => State_settle_within rfl .refl

/-! #### An entry's instant (R300, R303) -/

theorem fieldEntryApply_eq {s : State} {c : Nat} {e : OutEntry} {es : List OutEntry} (h : (s.chan c).pend = e :: es) :
    fieldEntryApply c s = ((s.toTime e.apply).modChan c (fun x => { x with pend := es })).entryApply e := by
  unfold fieldEntryApply
  rw [h]

theorem entryApply_held {s : State} {e : OutEntry} (h : s.field.hold = true) : s.entryApply e = s := if_pos (Or.inl h)

theorem doApply_parts (x : Chan) (v now : Nat) : (x.doApply v now).cmd = v ∧ (x.doApply v now).safe = false ∧ (x.doApply v now).pend = x.pend := by
  unfold Chan.doApply
  dsimp only
  split
  · exact ⟨rfl, rfl, rfl⟩
  · split <;> exact ⟨rfl, rfl, rfl⟩

/-- An entry for a DO or an AO that is not held gives its channel the value. -/
theorem entryApply_output {s : State} {e : OutEntry} (hc : e.ch < s.field.chans.length) (hh : s.field.hold = false) (hw : s.field.wdog = false)
    (hk : (s.chan e.ch).kind = 3 ∨ (s.chan e.ch).kind = 5) : ((s.entryApply e).chan e.ch).cmd = e.value ∧
      ((s.entryApply e).chan e.ch).safe = false ∧ ((s.entryApply e).chan e.ch).pend = (s.chan e.ch).pend := by
  have hn : ¬ (s.field.hold = true ∨ s.field.wdog = true) := by rw [hh, hw]; simp
  unfold State.entryApply
  rw [if_neg hn]
  rcases hk with hk | hk
  · rw [hk]
    have hx := modChan_chan_same (s := s) (fun x => x.doApply e.value s.now) hc
    obtain ⟨h1, h2, h3⟩ := doApply_parts (s.chan e.ch) e.value s.now
    exact ⟨(settle_chan_part (fun _ _ _ _ => rfl) _ _).trans (by rw [hx]; exact h1),
      (settle_chan_part (fun _ _ _ _ => rfl) _ _).trans (by rw [hx]; exact h2), (settle_chan_part (fun _ _ _ _ => rfl) _ _).trans (by rw [hx]; exact h3)⟩
  · rw [hk]
    have hx := modChan_chan_same (s := s) (fun x => { x with cmd := e.value, cmdQ := e.q, half := decide (e.sub = 0x38), safe := false }) hc
    exact ⟨(settle_chan_part (fun _ _ _ _ => rfl) _ _).trans (by rw [hx]), (settle_chan_part (fun _ _ _ _ => rfl) _ _).trans (by rw [hx]),
      (settle_chan_part (fun _ _ _ _ => rfl) _ _).trans (by rw [hx])⟩

/-- Settles O37: each frame type's effect on the field half, and an entry's instant. -/
theorem fieldReceivesFrames : Obligations.FieldReceivesFrames := by
  unfold Obligations.FieldReceivesFrames
  intro s c e es b chk wdog slot m4 m20 h msg cs sf x g hz hu
  have hlen : s.field.chans.length = 64 := hz.2.2.2.1
  have hc : c.val < s.field.chans.length := by rw [hlen]; exact c.isLt
  have told : ∀ {e : FieldEvent} {l : List FieldEvent}, e ∈ l ++ [e] := List.mem_append_right _ (List.mem_singleton.2 rfl)
  refine ⟨fun hf => ⟨?out, _, next_eq (rimOutFrame_crcFail hf hu), rfl, rfl, told⟩,
    fun hf => ⟨⟨_, next_eq (rimKeepFrame_whole hf hu), rfl, rfl, rfl⟩, _, next_eq (rimKeepFrame_crcFail hf hu), rfl, rfl⟩,
    fun hf => ⟨_, next_eq (rimCtrlFrame_post hf hu), rfl, rfl⟩, fun hf hn => ?take, fun hf => ?cfg, fun hf => ?trim, fun hf => ?safe,
    fun hf => ⟨_, next_eq (rimSafeFrame_lift hf hu), rfl, rfl⟩, fun hf => ?ho, fun hp he => ⟨fun hh hw hk => ?apply, fun hh => ?held⟩⟩
  case out =>
    have hj : Judged (frameTaken s (.out es)).kickWdog (es.foldl (fun s e => s.entryStore e) (frameTaken s (.out es)).kickWdog) :=
      Judged.foldl entryStore_judged _ _
    have hw := entryStores_within (s := (frameTaken s (.out es)).kickWdog) .refl es
    refine ⟨_, next_eq (rimOutFrame_whole hf hu), hj.part (·.wdogAt) (fun _ _ _ _ => rfl), hj.part (·.wdog) (fun _ _ _ _ => rfl),
      hw.toField_eq (by decide), hw.regs_eq (by decide), ?_⟩
    rintro rfl ht hch hpend
    exact entryStore_first (s := (frameTaken s (.out [e])).kickWdog) ht (by rw [show (frameTaken s (.out [e])).kickWdog.field.chans.length = 64 from hlen]; exact hch) hpend
  case take =>
    obtain ⟨h1, h2⟩ := fieldFree_none (s := frameTaken s (.ctrlTake b)) hn
    exact ⟨_, next_eq (rimCtrlFrame_take hf hu), h1, h2⟩
  case cfg =>
    have he : exec .rimCfgFrame s = .next (rimCfgFrame s) := rfl
    have hj : ∀ t : State, Judged t ((List.range 64).foldl (fun s c => s.cfgChan (recordsAt cs 4 32 (u32 cs 0)) c) t).settle := fun t =>
      (Judged.foldl (fun s c => cfgChan_judged s _ c) _ _).trans (settle_judged _)
    refine ⟨_, he, ?_, ?_, ?_, ?_, exec_field_regs he rfl, ?_⟩
    all_goals rw [rimCfgFrame_cfg hf hu]
    · exact (hj _).part (·.chk) (fun _ _ _ _ => rfl)
    · exact (hj _).part (·.wdogUs) (fun _ _ _ _ => rfl)
    · exact (hj _).part (·.slot) (fun _ _ _ _ => rfl)
    · exact (hj _).part (·.safety) (fun _ _ _ _ => rfl)
    · refine (settle_chan_part (fun _ _ _ _ => rfl) _ _).trans (cfgChans_set _ (List.mem_range.2 c.isLt) ?_)
      exact hc
  case trim =>
    have hx := modChan_chan_same (s := frameTaken s (.trim c m4 m20)) (fun x => { x with m4 := m4, m20 := m20, trimmed := true }) hc
    exact ⟨_, next_eq (rimCfgFrame_trim hf hu), by rw [hx], by rw [hx], by rw [hx], fun k hk => modChan_chan_ne _ hk⟩
  case safe =>
    have he : exec .rimSafeFrame s = .next (rimSafeFrame s) := rfl
    refine ⟨_, he, ?_, ?_, fun hk => ?_, exec_field_regs he rfl⟩
    all_goals rw [rimSafeFrame_set hf hu]
    · exact (allSafe_judged _).part (·.hold) (fun _ _ _ _ => rfl)
    · exact (allSafe_judged _).part (·.armed) (fun _ _ _ _ => rfl)
    · exact allSafe_safe (s := holdSet (frameTaken s (.safe true))) hc hk
  case ho =>
    have hact := takeActed_take (takeNoted (frameTaken s (.ho x g)) x) x s.field.take
    refine ⟨_, next_eq (rimHoFrame_eq hf hu), ?_, fun hx hw => ?_, fun hg => ?_⟩
    · split
      · exact hact
      · exact hact
    · have h := takeActed_asserted (s := takeNoted (frameTaken s (.ho x g)) x) hz.2.2.2.2 hx hw
      split
      · exact h
      · exact h
    · rw [if_pos hg, mapChans_chan _ ?_]
      · rfl
      · have hsz := (takeActed_within (takeNoted (frameTaken s (.ho x g)) x) x s.field.take).sized hz
        rw [hsz.2.2.2.1]
        exact c.isLt
  case apply =>
    have hff := toTime_field s e.apply
    have hx := modChan_chan_same (s := s.toTime e.apply) (fun x => { x with pend := es }) (by rw [hff]; exact hc)
    have hcl : c.val < ((s.toTime e.apply).modChan c (fun x => { x with pend := es })).field.chans.length := by
      show c.val < (List.set _ _ _).length
      rw [List.length_set, hff]
      exact hc
    have hhold : ((s.toTime e.apply).modChan c (fun x => { x with pend := es })).field.hold = false := (congrArg FieldSide.hold hff).trans hh
    have hwdog : ((s.toTime e.apply).modChan c (fun x => { x with pend := es })).field.wdog = false := (congrArg FieldSide.wdog hff).trans hw
    have hex : exec (.fieldEntryApply c) s = .next (fieldEntryApply c s) := rfl
    rw [chan_of_field hff] at hx
    rw [← he] at hx hcl hhold hwdog hk
    obtain ⟨h1, h2, h3⟩ := entryApply_output hcl hhold hwdog (by rw [hx]; exact hk)
    rw [hx, he] at h3
    rw [he] at h1 h2
    refine ⟨_, hex, ?_, ?_, ?_, exec_field_regs hex rfl⟩
    all_goals rw [fieldEntryApply_eq hp]
    · exact h1
    · exact h2
    · exact h3
  case held =>
    have hff := toTime_field s e.apply
    have hx := modChan_chan_same (s := s.toTime e.apply) (fun x => { x with pend := es }) (by rw [hff]; exact hc)
    refine ⟨_, next_eq ((fieldEntryApply_eq hp).trans (entryApply_held ((congrArg FieldSide.hold hff).trans hh))), ?_, ?_⟩
    · rw [hx, chan_of_field hff]
    · rw [hx]

end Sys2Proof.Proofs

/-! The field half's watchdog, restarts and control messages, and the host half's safe-state request and KEEP frames (11). -/

namespace Sys2Proof.Proofs
open Sys2Proof Sys2Proof.Machine Sys2Proof.Laws

/-! ### The watchdog (R303) -/

/-- The watchdog expired: nothing pends any more. -/
def wdogExpired (s : State) : State :=
  { s with field := { s.field with wdog := true, chans := s.field.chans.map (fun (x : Chan) => { x with pend := [] }) } }

theorem wdogExpiry_eq {s : State} (hu : s.field.up = true) (hw : s.field.wdog = false) :
    wdogExpiry s = (wdogExpired (s.toMono (s.field.wdogAt + 1000 * s.field.wdogUs))).allSafe.fev 132 0 0 :=
  if_pos ⟨hu, by rw [hw]; exact Bool.false_ne_true⟩

theorem wdogExpired_chan {s : State} {c : Nat} (h : c < s.field.chans.length) : (wdogExpired s).chan c = noPend (s.chan c) := mapChans_chan noPend h

theorem fev_chan (s : State) (a b d c : Nat) : (s.fev a b d).chan c = s.chan c := rfl
theorem fev_mono (s : State) (a b d : Nat) : (s.fev a b d).mono = s.mono := rfl
theorem fev_now (s : State) (a b d : Nat) : (s.fev a b d).now = s.now := rfl
theorem fev_wdog (s : State) (a b d : Nat) : (s.fev a b d).field.wdog = s.field.wdog := rfl

theorem allSafe_within (s : State) : Within 16777216 s s.allSafe := State_allSafe_within rfl .refl

theorem wdogExpired_length (s : State) : (wdogExpired s).field.chans.length = s.field.chans.length := List.length_map _

/-! ### The safe-state request and its release (R304) -/

/-- The request sent, with both halves shown as disarmed. -/
def disarmed (s : State) : State := ((s.rimSend (.safe true)).setFlag Reg.SAF_STAT_ARMED false).setFlag Reg.SAF_STAT_FARMED false

theorem safeRequest_eq (s : State) : s.safeRequest = if s.flag Reg.SAF_STAT_ARMED || s.flag Reg.SAF_STAT_FARMED
    then (disarmed s).raise 168 ((disarmed s).reg Reg.SAF_STAT).toNat 0 else disarmed s := rfl

theorem safeRequest_flag (s : State) {f : Field} (h : eventTouches f.addr = false) : s.safeRequest.flag f = (disarmed s).flag f := by
  rw [safeRequest_eq]
  split
  · exact raise_flag _ (by decide) h
  · rfl

theorem disarmed_armed (s : State) : (disarmed s).flag Reg.SAF_STAT_ARMED = false :=
  (flag_setFlag_other _ _ (by decide) (by decide)).trans (flag_setFlag_same _ _ _ (by decide) (by decide))

theorem disarmed_farmed (s : State) : (disarmed s).flag Reg.SAF_STAT_FARMED = false := flag_setFlag_same _ _ _ (by decide) (by decide)

theorem safeRequest_toField (s : State) : s.safeRequest.toField = s.toField ++ [.safe true] := by
  rw [safeRequest_eq]
  split
  · rw [raise_toField]
    rfl
  · rfl

theorem safeRequest_mem (s : State) : s.safeRequest.mem = s.mem :=
  (State_safeRequest_within (k := 34359739653) rfl .refl).mem_eq (by decide)

theorem safeRequest_inHalt (s : State) : s.safeRequest.inHalt = s.inHalt := by
  have hd : (disarmed s).fld Reg.CPM_STAT_PSTATE = s.fld Reg.CPM_STAT_PSTATE :=
    (fld_setFlag_addr _ _ (by decide)).trans (fld_setFlag_addr _ _ (by decide))
  unfold State.inHalt
  rw [safeRequest_eq]
  split
  · rw [raise_cpm _ (by decide) rfl (by decide) (by decide), hd]
  · rw [hd]

theorem safeRequest_haltOnStop (s : State) : s.safeRequest.cpm.haltOnStop = s.cpm.haltOnStop := by
  rw [safeRequest_eq]
  split
  · exact raise_haltOnStop _ _ _ _
  · rfl

theorem chnCtrl_noKey {m : Master} {w : Word} (hm : m.isPair = true) (hk : wordField w 8 8 ≠ 0x5A) (s : State) : chnCtrl m w s = s := by
  unfold chnCtrl
  rw [if_neg (fun h => h (mayWriteRegs_of_isPair hm)), if_pos hk]

theorem chnCtrl_request {m : Master} {w : Word} (hm : m.isPair = true) (hk : wordField w 8 8 = 0x5A) (h0 : w.getLsbD 0 = true) (s : State) :
    chnCtrl m w s = if s.safeRequest.inHalt ∨ s.safeRequest.cpm.haltOnStop then s.safeRequest
      else { s.safeRequest with rim := { s.safeRequest.rim with reqHold := true } } := by
  unfold chnCtrl
  rw [if_neg (fun h => h (mayWriteRegs_of_isPair hm)), if_neg (fun h => h hk), if_pos h0]

theorem chnCtrl_release {m : Master} {w : Word} (hm : m.isPair = true) (hk : wordField w 8 8 = 0x5A) (h0 : w.getLsbD 0 = false)
    (h1 : w.getLsbD 1 = true) (s : State) :
    chnCtrl m w s = if s.rim.reqHold ∧ s.inControl ∧ s.cpm.phase = .run ∧ ¬ s.cpm.haltOnStop
      then ({ s with rim := { s.rim with reqHold := false } } : State).rimSend (.safe false) else s := by
  unfold chnCtrl
  rw [if_neg (fun h => h (mayWriteRegs_of_isPair hm)), if_neg (fun h => h hk), if_neg (by rw [h0]; exact Bool.false_ne_true)]
  simp only [h1, true_and]

/-! ### Field restarts (R306, R307) -/

theorem fieldRestart_eq {s : State} (h : s.field.up = true) (k : Nat) : fieldRestart k s = (domainReset 3 s).fieldDown k := if_pos h

theorem fieldDown_chan (s : State) (k c : Nat) : (s.fieldDown k).chan c = Chan.reset := by
  show (List.replicate 64 Chan.reset).getD c Chan.reset = Chan.reset
  by_cases h : c < 64
  · rw [List.getD_eq_getElem _ _ (by simpa using h), List.getElem_replicate]
  · exact List.getD_eq_default _ _ (by simpa using h)

theorem fieldDown_field (s : State) (k : Nat) : (s.fieldDown k).field.up = false ∧ (s.fieldDown k).field.cause = k ∧
    (s.fieldDown k).field.downAt = s.mono ∧ (s.fieldDown k).field.hold = true := ⟨rfl, rfl, rfl, rfl⟩

theorem domainReset_mono (d : Nat) (s : State) : (domainReset d s).mono = s.mono :=
  (domainReset_within (k := 34359753989) rfl .refl).mono_eq (by decide)

theorem domainReset_mem (d : Nat) (s : State) : (domainReset d s).mem = s.mem :=
  (domainReset_within (k := 34359753989) rfl .refl).mem_eq (by decide)

theorem fieldPost_free {s : State} {b : Nat} (h : s.mbx.fieldFull.contains b = false) (msg : List Byte) : s.fieldPost b msg = s.fieldSend b msg :=
  if_neg (by rw [h]; exact Bool.false_ne_true)

theorem fieldSend_sent (s : State) (b : Nat) (msg : List Byte) : ∃ h, .ctrlPost b h (msgWords msg) ∈ (s.fieldSend b msg).toHost :=
  ⟨_, List.mem_append_right _ (List.mem_singleton.2 rfl)⟩

/-- The field side running again. -/
def fieldRunning (s : State) : State := { s with field := { s.field with up := true, wdogAt := s.mono } }

theorem fieldComplete_eq {s : State} (h : s.field.up = false) : fieldComplete s =
    (fieldRunning s).fieldPost 20 ([0x82] ++ leBytes 1 ((fieldRunning s).fld Reg.MBX_GEN_GENF) ++ leBytes 1 s.field.cause ++ [0]) :=
  if_neg (by rw [h]; exact Bool.false_ne_true)

/-! ### Control messages (R307 to R309) -/

/-- A latched channel released. -/
def unlatched (x : Chan) : Chan := { x with latched := false, sawFalse := false, retry := 0 }

theorem chClear_eq {s : State} {b : List Byte} (h : s.fieldMsg 16 0x01 = some b) :
    chClear s = ((((List.range 64).filter (fun c => bit (leNat (slice b 4 8)) c)).foldl (fun s c => s.modChan c unlatched) s).settle).fieldTake 16 := by
  unfold chClear
  rw [h]
  rfl

/-- A part that the change leaves at one value has it on every channel of the list. -/
theorem modChans_part {α : Type} {f : Chan → Chan} {p : Chan → α} {v : α} (hf : ∀ x, p (f x) = v) {c : Nat} :
    ∀ (l : List Nat) {s : State}, c < s.field.chans.length → (c ∈ l ∨ p (s.chan c) = v) →
      p ((l.foldl (fun s c => s.modChan c f) s).chan c) = v
  | [], _, _, h => h.resolve_left List.not_mem_nil
  | k :: l, s, hl, h => by
    refine modChans_part hf l (s := s.modChan k f) (by simpa [State.modChan, State.setChan] using hl) ?_
    by_cases hk : c = k
    · subst hk
      exact Or.inr (by rw [modChan_chan_same _ hl, hf])
    · rw [modChan_chan_ne _ hk]
      exact h.imp_left fun hm => (List.mem_cons.1 hm).resolve_left hk

theorem fieldTake_chan (s : State) (b c : Nat) : (s.fieldTake b).chan c = s.chan c := rfl

theorem chClear_part {α : Type} {p : Chan → α} {v : α} (hp : ∀ (x : Chan) b i j, p { x with on := b, onAt := i, offAt := j } = p x)
    (hf : ∀ x, p (unlatched x) = v) {s : State} {c : Nat} {b : List Byte} (h : s.fieldMsg 16 0x01 = some b) (h64 : c < 64)
    (hl : c < s.field.chans.length) (hb : bit (leNat (slice b 4 8)) c = true) : p ((chClear s).chan c) = v := by
  rw [chClear_eq h, fieldTake_chan]
  exact (settle_chan_part hp _ c).trans (modChans_part hf _ hl (Or.inl (mem_maskChannels h64 hb)))

theorem groupMode_accepted {s : State} {b : List Byte} (h : s.fieldMsg 16 0x02 = some b) (hs : s.field.slot = 2 ∨ s.field.slot = 3)
    (hm : u8 b 2 ≠ 0 ∨ s.field.take = false) : groupMode s =
      { s with field := { s.field with modeReq := some (u8 b 1, u8 b 2, wireTime s.now (u32 b 4) (u32 b 8)) } } := by
  unfold groupMode
  rw [h]
  dsimp only
  rw [if_neg (by omega), if_neg (fun hc => hm.elim (fun h => h hc.1) (fun h => Bool.false_ne_true (h.symm.trans hc.2)))]

theorem groupMode_refused {s : State} {b : List Byte} (h : s.fieldMsg 16 0x02 = some b) (h2 : s.field.slot ≠ 2) (h3 : s.field.slot ≠ 3) :
    groupMode s = (s.fieldTake 16).modeDone (u8 b 1) (u8 b 2) 1 s.now := by
  unfold groupMode
  rw [h]
  dsimp only
  rw [if_pos ⟨h2, h3⟩]

theorem modeDone_free {s : State} (h : s.mbx.fieldFull.contains 20 = false) (mask mode status t : Nat) : s.modeDone mask mode status t =
    s.fieldSend 20 ([0x81] ++ leBytes 1 mask ++ leBytes 1 mode ++ leBytes 1 status ++ leBytes 4 (secOf t) ++ leBytes 4 (nsOf t)) :=
  fieldPost_free h _

theorem fieldPost_grps (s : State) (b : Nat) (m : List Byte) : (s.fieldPost b m).field.grps = s.field.grps ∧
    (s.fieldPost b m).field.modeReq = s.field.modeReq := by
  unfold State.fieldPost
  split <;> exact ⟨rfl, rfl⟩

theorem modeDone_grps (s : State) (mask mode status t : Nat) : (s.modeDone mask mode status t).field.grps = s.field.grps ∧
    (s.modeDone mask mode status t).field.modeReq = s.field.modeReq := fieldPost_grps _ _ _

/-- The request taken up. -/
def modeTaken (s : State) (t : Nat) : State :=
  ({ s.toTime t with field := { (s.toTime t).field with modeReq := none } } : State).fieldTake 16

theorem modeTaken_field (s : State) (t : Nat) : (modeTaken s t).field =
    { s.field with modeReq := none, mail := s.field.mail.filter (fun e => decide (e.1 ≠ 16)) } := by
  unfold modeTaken State.fieldTake
  rw [toTime_field]

/-- The groups change mode and MODE_DONE answers, unless the partner's take line forbids normal mode. -/
def modeActed (s : State) (mask mode : Nat) : State :=
  if mode = 0 ∧ s.field.take then s.modeDone mask mode 2 s.now else (s.setMode mask mode).modeDone mask mode 0 s.now

theorem groupModeApply_acts {s : State} {mask mode t : Nat} (h : s.field.modeReq = some (mask, mode, t)) :
    groupModeApply s = modeActed (modeTaken s t) mask mode := by
  unfold groupModeApply
  rw [h]
  rfl

theorem groupModeApply_eq {s : State} {mask mode t : Nat} (h : s.field.modeReq = some (mask, mode, t)) (hm : mode ≠ 0 ∨ s.field.take = false) :
    groupModeApply s = ((modeTaken s t).setMode mask mode).modeDone mask mode 0 (modeTaken s t).now := by
  have ht : (modeTaken s t).field.take = s.field.take := by rw [modeTaken_field]
  rw [groupModeApply_acts h]
  unfold modeActed
  rw [ht, if_neg fun hc => hm.elim (fun h => h hc.1) (fun h => Bool.false_ne_true (h.symm.trans hc.2))]

theorem runGrant_eq {s : State} {b : List Byte} (h : s.fieldMsg 16 0x03 = some b) :
    runGrant s = ({ s with field := { s.field with hold := false, granted := true } } : State).fieldTake 16 := by
  unfold runGrant
  rw [h]

/-! ### KEEP (R298) -/

/-- The next round's start after the last one for which KEEP was queued. -/
def keepInstant (s : State) : Nat := gridNext 100000 0 (max s.now (s.rim.keepAt + 1))

theorem keepSend_eq {s : State} (h : s.rimSends = true) : keepSend s =
    ({ s.toTime (keepInstant s) with rim := { (s.toTime (keepInstant s)).rim with keepAt := keepInstant s } } : State).rimSend .keep := by
  unfold keepSend keepInstant
  rw [if_pos h]

theorem toTime_toField (s : State) (t : Nat) : (s.toTime t).toField = s.toField := (toTime_within s t).toField_eq (by decide)

/-- Settles O38: each message of the field half's control, and the host half's part. -/
theorem fieldSafeStatesAndControl : Obligations.FieldSafeStatesAndControl := by
  unfold Obligations.FieldSafeStatesAndControl
  intro s m w c g k b mask mode u hm hz
  have hlen : s.field.chans.length = 64 := hz.2.2.2.1
  have hc : c.val < s.field.chans.length := by rw [hlen]; exact c.isLt
  have isFalse : ∀ {p : Bool}, p = false → ¬ p = true := fun h => by rw [h]; exact Bool.false_ne_true
  refine ⟨fun hu hw => ?wdog, fun hk h0 => ?request, fun hk => ⟨next_eq (chnCtrl_noKey hm hk s), next_eq (chnCtrl_noKey hm hk s)⟩,
    fun hk h0 h1 => ⟨fun hr hi hp hs => ?release, fun h => ?noRelease⟩, fun hu => ?restart, fun hu => next_eq (if_neg (isFalse hu)),
    fun hu hp hb => ?complete, fun h hb => ?clear, fun h hs hm => ⟨_, next_eq (groupMode_accepted h hs hm), rfl, rfl⟩, fun h h2 h3 hb => ?refused,
    fun h hm => ?modeApply, fun h => ⟨_, next_eq (runGrant_eq h), rfl, rfl, rfl, rfl⟩, fun h => ?keep⟩
  case wdog =>
    have he : exec .safeStateWatchdogExpiry s = .next (wdogExpiry s) := rfl
    have hf := toMono_field s (s.field.wdogAt + 1000 * s.field.wdogUs)
    have hm := le_toMono_mono s (s.field.wdogAt + 1000 * s.field.wdogUs)
    have hcl : c.val < (wdogExpired (s.toMono (s.field.wdogAt + 1000 * s.field.wdogUs))).field.chans.length := by
      rw [wdogExpired_length, hf]
      exact hc
    have hx := wdogExpired_chan (s := s.toMono (s.field.wdogAt + 1000 * s.field.wdogUs)) (c := c.val) (by rw [hf]; exact hc)
    have hmono : (wdogExpired (s.toMono (s.field.wdogAt + 1000 * s.field.wdogUs))).allSafe.mono = (s.toMono (s.field.wdogAt + 1000 * s.field.wdogUs)).mono :=
      (allSafe_within _).mono_eq (by decide)
    refine ⟨_, he, ?_, ?_, fun hk => ?_, ?_, ?_, exec_field_regs he rfl⟩
    all_goals rw [wdogExpiry_eq hu hw]
    · rw [fev_wdog]
      exact (allSafe_judged _).part (·.wdog) (fun _ _ _ _ => rfl)
    · rw [fev_chan, allSafe_pend hcl, hx]
      rfl
    · rw [fev_chan]
      refine allSafe_safe hcl ?_
      rw [hx, chan_of_field hf]
      exact hk
    · rw [fev_now]
      exact fev_told _ _ _ _
    · rw [fev_mono, hmono]
      exact hm
  case request =>
    refine ⟨_, next_eq (chnCtrl_request hm hk h0 s), ?_, ?_, ?_, fun hh hs => ?_, ?_⟩
    · split
      · exact (safeRequest_flag s (by decide)).trans (disarmed_armed s)
      · exact (safeRequest_flag s (by decide)).trans (disarmed_armed s)
    · split
      · exact (safeRequest_flag s (by decide)).trans (disarmed_farmed s)
      · exact (safeRequest_flag s (by decide)).trans (disarmed_farmed s)
    · split <;> exact safeRequest_toField s
    · rw [if_neg (by rw [safeRequest_inHalt, safeRequest_haltOnStop, hh, hs]; simp)]
    · split <;> exact safeRequest_mem s
  case release =>
    exact ⟨_, next_eq ((chnCtrl_release hm hk h0 h1 s).trans (if_pos ⟨hr, hi, hp, isFalse hs⟩)), rfl, rfl, rfl⟩
  case noRelease =>
    refine next_eq ((chnCtrl_release hm hk h0 h1 s).trans (if_neg fun hn => ?_))
    obtain ⟨hr, hi, hp, -⟩ := hn
    rcases h with h | h | h
    · exact isFalse h hr
    · exact isFalse h hi
    · exact h hp
  case restart =>
    obtain ⟨h1, h2, h3, h4⟩ := fieldDown_field (domainReset 3 s) k.val
    exact ⟨_, next_eq (fieldRestart_eq hu k.val), h1, h2, h3.trans (domainReset_mono 3 s), fieldDown_chan _ _ _, h4, domainReset_mem 3 s⟩
  case complete =>
    refine ⟨_, _, next_eq ((if_neg hp).trans ((fieldComplete_eq hu).trans (fieldPost_free ?_ _))), rfl, rfl, rfl⟩
    exact hb
  case clear =>
    have he : exec .chClear s = .next (chClear s) := rfl
    exact ⟨_, he, chClear_part (fun _ _ _ _ => rfl) (fun _ => rfl) h c.isLt hc hb, chClear_part (fun _ _ _ _ => rfl) (fun _ => rfl) h c.isLt hc hb,
      exec_field_regs he rfl⟩
  case refused =>
    obtain ⟨hd, hsent⟩ := fieldSend_sent (s.fieldTake 16) 20
      ([0x81] ++ leBytes 1 (u8 b 1) ++ leBytes 1 (u8 b 2) ++ leBytes 1 1 ++ leBytes 4 (secOf s.now) ++ leBytes 4 (nsOf s.now))
    exact ⟨_, hd, next_eq ((groupMode_refused h h2 h3).trans (modeDone_free (s := s.fieldTake 16) hb _ _ _ _)), rfl, rfl, hsent⟩
  case modeApply =>
    have he : exec .groupModeApply s = .next (groupModeApply s) := rfl
    have hf := modeTaken_field s u
    have hg : (modeTaken s u).field.grps.length = 2 := by rw [hf]; exact hz.2.2.2.2
    have hr := (setMode_rest (modeTaken s u) mask mode).2
    have hd := modeDone_grps ((modeTaken s u).setMode mask mode) mask mode 0 (modeTaken s u).now
    refine ⟨_, he, ?_, fun hb => ?_, exec_field_regs he rfl⟩
    all_goals rw [groupModeApply_eq h hm]
    · rw [hd.2, hr, hf]
    · have hp := setMode_partner (g := g) hg hb (mode := mode)
      unfold State.grp at hp ⊢
      rw [hd.1]
      exact hp
  case keep =>
    refine ⟨_, next_eq (keepSend_eq h), ?_, toTime_regs s (keepInstant s), toTime_mem s (keepInstant s)⟩
    exact congrArg (· ++ _) (toTime_toField s (keepInstant s))

end Sys2Proof.Proofs

/-! The CAN ports: their error counters, receiving and transmitting, time-triggered cycles (15). -/

namespace Sys2Proof.Proofs
open Sys2Proof Sys2Proof.Machine Sys2Proof.Laws

/-! ### A port read back -/

theorem canPort_setCan_same {s : State} {n : Nat} (p : CanPort) (h : n < s.can.length) : (s.setCan n p).canPort n = p := by
  unfold State.canPort State.setCan
  exact (List.getD_eq_getElem _ _ (by simpa using h)).trans (by simp)

theorem canPort_setCan_ne {s : State} {n k : Nat} (p : CanPort) (h : k ≠ n) : (s.setCan n p).canPort k = s.canPort k := by
  unfold State.canPort State.setCan
  simp [List.getD_eq_getElem?_getD, List.getElem?_set_ne (Ne.symm h)]

theorem canPort_of_can {s t : State} (h : t.can = s.can) (n : Nat) : t.canPort n = s.canPort n := by unfold State.canPort; rw [h]

theorem can_lt {s : State} (hz : s.sized) (n : Fin 4) : n.val < s.can.length := by
  rw [hz.2.2.1]
  exact n.isLt

/-- A register of the ports' window is none that events touch. -/
theorem canWindow_quiet {a : Nat} (h1 : 0x40070000 ≤ a) (h2 : a < 0x40080000) : eventTouches a = false :=
  eventTouches_between (by omega) (by omega)

theorem canErr_quiet (n : Fin 4) : eventTouches (Reg.CAN_ERR n) = false := canWindow_quiet (by unfold Reg.CAN_ERR; omega) (by unfold Reg.CAN_ERR; omega)

theorem canStat_quiet (n : Fin 4) : eventTouches (Reg.CAN_STAT n) = false :=
  canWindow_quiet (by unfold Reg.CAN_STAT; omega) (by unfold Reg.CAN_STAT; omega)

theorem canSrc_lt (n : Fin 4) {i : Nat} (h : i < 8) : canSrc n i < 208 := by unfold canSrc; omega

/-- A source of a port tells its own detail. -/
theorem canRaise_told (s : State) (n : Fin 4) {i : Nat} (h : i < 8) (lo hi : Nat) : (s.raise (canSrc n i) lo hi).told (canSrc n i) lo hi :=
  raise_told s (Nat.lt_trans (canSrc_lt n h) (by decide)) (Nat.ne_of_lt (Nat.lt_trans (canSrc_lt n h) (by decide))) lo hi

theorem canRaise_reg (s : State) (n : Fin 4) {i : Nat} (h : i < 8) (lo hi : Nat) {a : Nat} (ha : eventTouches a = false) :
    (s.raise (canSrc n i) lo hi).reg a = s.reg a := raise_reg s (Nat.lt_trans (canSrc_lt n h) (by decide)) ha

/-! ### The error counters short of bus-off (R414) -/

/-- The counters and the error state stored. -/
def errShown (s : State) (n tec rec : Nat) : State :=
  (((s.setFld (Reg.CAN_ERR_TEC n) (min 255 tec)).setFld (Reg.CAN_ERR_REC n) (min 255 rec)).setFlag (Reg.CAN_ERR_EPASS n)
    (decide (128 ≤ tec) || decide (128 ≤ rec))).setFld (Reg.CAN_STAT_EST n) (b2n (decide (128 ≤ tec) || decide (128 ≤ rec)))

theorem canSetErr_low (s : State) (n : Nat) {tec : Nat} (rec : Nat) (h : tec ≤ 255) : s.canSetErr n tec rec = errShown s n tec rec ∨
    ∃ v, s.canSetErr n tec rec = (errShown s n tec rec).raise (canSrc n 3) v 0 := by
  unfold State.canSetErr
  extract_lets was s1 pass s2 s3
  rw [if_neg (Nat.not_lt.2 h)]
  split
  · exact Or.inr ⟨_, rfl⟩
  · exact Or.inl rfl

theorem errShown_within (s : State) (n tec rec : Nat) : Within 1285 s (errShown s n tec rec) :=
  State_setFld_within rfl (State_setFlag_within rfl (State_setFld_within rfl (State_setFld_within rfl .refl)))

theorem canSetErr_within (s : State) (n : Nat) {tec : Nat} (rec : Nat) (h : tec ≤ 255) : Within 1285 s (s.canSetErr n tec rec) := by
  rcases canSetErr_low s n rec h with he | ⟨v, he⟩
  · rw [he]
    exact errShown_within _ _ _ _
  · rw [he]
    exact State_raise_within rfl (errShown_within _ _ _ _)

theorem errShown_reg (s : State) (n tec rec : Nat) {a : Nat} (h1 : a ≠ Reg.CAN_ERR n) (h2 : a ≠ Reg.CAN_STAT n) :
    (errShown s n tec rec).reg a = s.reg a :=
  (reg_setFld_ne _ _ h2).trans ((reg_setFlag_ne _ _ h1).trans ((reg_setFld_ne _ _ h1).trans (reg_setFld_ne _ _ h1)))

theorem canSetErr_reg (s : State) (n : Fin 4) {tec : Nat} (rec : Nat) (h : tec ≤ 255) {a : Nat} (ha : eventTouches a = false) :
    (s.canSetErr n tec rec).reg a = (errShown s n tec rec).reg a := by
  rcases canSetErr_low s n rec h with he | ⟨v, he⟩
  · rw [he]
  · rw [he, canRaise_reg _ n (by decide) _ _ ha]

theorem canErr_ne_canStat (n : Nat) : Reg.CAN_ERR n ≠ Reg.CAN_STAT n := by
  unfold Reg.CAN_ERR Reg.CAN_STAT
  omega

theorem canSetErr_tec (s : State) (n : Fin 4) {tec : Nat} (rec : Nat) (h : tec ≤ 255) :
    (s.canSetErr n tec rec).fld (Reg.CAN_ERR_TEC n) = tec := by
  rw [fld_of_reg (canSetErr_reg s n rec h (canErr_quiet n))]
  unfold errShown
  rw [fld_setFld_addr _ _ (canErr_ne_canStat n), fld_setFlag_other _ _ (show 0 + 8 ≤ 32 by decide) (Or.inr (show 0 + 8 ≤ 16 by decide)),
    fld_setFld_other _ _ (show 0 + 8 ≤ 32 by decide) (Or.inr (show 0 + 8 ≤ 8 by decide)), Nat.min_eq_right h]
  exact fld_setFld_of_lt _ (show tec < 256 by omega) (show 0 + 8 ≤ 32 by decide)

theorem canSetErr_rec (s : State) (n : Fin 4) {tec : Nat} (rec : Nat) (h : tec ≤ 255) :
    (s.canSetErr n tec rec).fld (Reg.CAN_ERR_REC n) = min 255 rec := by
  rw [fld_of_reg (canSetErr_reg s n rec h (canErr_quiet n))]
  unfold errShown
  rw [fld_setFld_addr _ _ (canErr_ne_canStat n), fld_setFlag_other _ _ (show 8 + 8 ≤ 32 by decide) (Or.inr (show 8 + 8 ≤ 16 by decide))]
  exact fld_setFld_of_lt _ (show min 255 rec < 256 by omega) (show 8 + 8 ≤ 32 by decide)

theorem tec_le (s : State) (n : Nat) : s.fld (Reg.CAN_ERR_TEC n) ≤ 255 := Nat.le_of_lt_succ (fld_lt s (Reg.CAN_ERR_TEC n))

/-- Counting by type leaves the counters of R414. -/
theorem canCount_reg (s : State) (n : Nat) (kind : CanErr) {a : Nat} (h0 : a ≠ Reg.CAN_ECNT0 n) (h1 : a ≠ Reg.CAN_ECNT1 n) :
    (s.canCount n kind).reg a = s.reg a := by
  cases kind
  case crc => exact bump_reg _ h1 h1
  all_goals exact bump_reg _ h0 h1

theorem canErr_ne_counts (n : Nat) : Reg.CAN_ERR n ≠ Reg.CAN_ECNT0 n ∧ Reg.CAN_ERR n ≠ Reg.CAN_ECNT1 n := by
  unfold Reg.CAN_ERR Reg.CAN_ECNT0 Reg.CAN_ECNT1
  omega

theorem canCount_within (s : State) (n : Nat) (kind : CanErr) : Within 1 s (s.canCount n kind) := State_canCount_within rfl .refl

/-! ### Receiving (R405 to R408, R414) -/

/-- What a good receipt does to the error counters: never bus-off. -/
theorem canRxGood_within (s : State) (n : Nat) : Within 274877908229 s (s.canRxGood n) := by
  unfold State.canRxGood
  dsimp only
  refine .ite (fun _ => .refl) fun _ => .ite (fun _ => ?_) fun _ => ?_
  · exact (canSetErr_within s n _ (tec_le s n)).mono_mask rfl
  · exact (State_draw_within (k := 274877908229) rfl .refl).trans ((canSetErr_within s.draw n _ (tec_le s n)).mono_mask rfl)

theorem canReference_within (s : State) (n : Nat) (r : CanPortRec) (x : CanFrame) : Within 4195589 s (s.canReference n r x) :=
  State_canReference_within rfl .refl

/-- A reference leaves the received frames of the high-priority buffer. -/
theorem canReference_hp (s : State) (n : Fin 4) (hz : s.sized) (r : CanPortRec) (x : CanFrame) :
    ((s.canReference n r x).canPort n).hp = (s.canPort n).hp := by
  have hc := can_lt hz n
  have key : ∀ t : State, t.can = s.can → ∀ l q, ((t.setCan n { s.canPort n with lastRef := l, syncLost := q }).canPort n).hp = (s.canPort n).hp := by
    intro t ht l q
    rw [canPort_setCan_same _ (by rw [ht]; exact hc)]
  unfold State.canReference
  split
  · rfl
  · split
    · rw [canPort_of_can (raise_can _ _ _ _)]
    · split
      · dsimp only
        split
        · rw [canPort_of_can (raise_can _ _ _ _)]
          exact key _ rfl _ _
        · exact key _ rfl _ _
      · rfl

/-- The state in which a valid frame finds its filter. -/
def rxJudged (s : State) (n : Nat) (r : CanPortRec) (x : CanFrame) : State := (s.canRxGood n).canReference n r x

theorem rxJudged_within (s : State) (n : Nat) (r : CanPortRec) (x : CanFrame) : Within 274882102533 s (rxJudged s n r x) :=
  ((canRxGood_within s n).mono_mask rfl).trans ((canReference_within _ n r x).mono_mask rfl)

/-- What the first matching filter does with the frame (R405). -/
def filtered (s : State) (n : Nat) (r : CanPortRec) (x : CanFrame) (esi : Bool) (i : Nat) (f : CanFilter) (sof : Nat) : State :=
  match f.target with
  | 0 => s.canObject n f.obj x sof
  | 1 => s.canFifo n r x (2 * b2n esi + 4 * b2n false) i sof
  | 2 => s.canHiPri n ⟨x, esi, i, sof⟩
  | _ => s

theorem filtered_object (s : State) (n : Nat) (r : CanPortRec) (x : CanFrame) (esi : Bool) (i : Nat) {f : CanFilter} (h : f.target = 0) (sof : Nat) :
    filtered s n r x esi i f sof = s.canObject n f.obj x sof := by
  simp only [filtered, h]

theorem filtered_buffer (s : State) (n : Nat) (r : CanPortRec) (x : CanFrame) (esi : Bool) (i : Nat) {f : CanFilter} (h : f.target = 2) (sof : Nat) :
    filtered s n r x esi i f sof = s.canHiPri n ⟨x, esi, i, sof⟩ := by
  simp only [filtered, h]

theorem canReceive_takes {s : State} {n : Nat} {x : CanFrame} {r : CanPortRec} {i : Nat} {f : CanFilter} (ho : s.canOn n = true)
    (he : s.fld (Reg.CAN_STAT_EST n) ≠ 2) (hr : s.canPortRec n = some r) (hfd : x.fd = false) (hm : s.canMatch n x = some (i, f)) (esi : Bool) (sof : Nat) :
    s.canReceive n x esi false sof = filtered (rxJudged s n r x) n r x esi i f sof := by
  have hm' : (rxJudged s n r x).canMatch n x = some (i, f) := by
    unfold State.canMatch
    rw [(rxJudged_within s n r x).img_eq (by decide)]
    exact hm
  unfold rxJudged at hm' ⊢
  unfold State.canReceive
  rw [hr]
  dsimp only
  rw [if_neg (by rw [ho]; exact fun h => h.elim (fun h => h rfl) he), if_neg (by rw [hfd]; exact fun h => Bool.false_ne_true h.1), hm']
  dsimp only
  exact if_neg (fun h => Bool.false_ne_true h.1)

theorem escFromCan_within (s : State) (n o : Nat) (d : List Byte) : Within 268436741 s (s.escFromCan n o d) := State_escFromCan_within rfl .refl

/-- The PDUs that a received frame carries change neither the ports nor memory. -/
theorem canFrame_within (n : Nat) (x : CanFrame) (esi remote : Bool) (sof : Nat) (s : State) :
    Within 268436741 (s.canReceive n x esi remote sof) (canFrame n x esi remote sof s) := by
  unfold canFrame
  dsimp only
  split
  · exact .ite (fun _ => escFromCan_within _ _ _ _) fun _ => .refl
  · exact .refl

theorem canFrame_noObject {s : State} {n : Nat} {x : CanFrame} {i : Nat} {f : CanFilter} (hm : s.canMatch n x = some (i, f)) (ht : f.target ≠ 0)
    (esi remote : Bool) (sof : Nat) : canFrame n x esi remote sof s = s.canReceive n x esi remote sof := by
  have h : s.canTarget n x remote = none := by
    unfold State.canTarget
    rw [hm]
    exact if_neg fun h => ht h.1
  unfold canFrame
  rw [h]

theorem canObject_takes {s : State} {n o : Nat} {c : CanObj} {x : CanFrame} (hc : s.canObj n o = some c) (hl : c.len ≤ x.data.length) (sof : Nat) :
    s.canObject n o x sof = s.setCan n { s.canPort n with rx := ⟨o, sof, s.now, x.data.take c.len⟩ ::
      (((s.canPort n).rx.filter (fun r => decide (r.obj = o))).take 1 ++ (s.canPort n).rx.filter (fun r => decide (r.obj ≠ o))) } := by
  unfold State.canObject
  rw [hc]
  exact if_neg (Nat.not_lt.2 hl)

theorem canHpShow_within (s : State) (n : Nat) : Within 1 s (s.canHpShow n) := State_canHpShow_within rfl .refl

theorem canHiPri_free {s : State} {n : Nat} (h : CanHp) (hl : (s.canPort n).hp.length < 4) : s.canHiPri n h =
    ((s.setCan n { s.canPort n with hp := (s.canPort n).hp ++ [h] }).canHpShow n).raise (canSrc n 0) (canIdWord h.frame)
      (h.frame.data.length + 128 * b2n h.esi + 256 * h.filter) := if_neg (Nat.not_le_of_lt hl)

theorem canFrame_off {s : State} {n : Nat} (h : s.canOn n = false) (x : CanFrame) (esi remote : Bool) (sof : Nat) :
    canFrame n x esi remote sof s = s := by
  have hr : s.canReceive n x esi remote sof = s := by
    unfold State.canReceive
    split
    · rfl
    · exact if_pos (Or.inl (by rw [h]; exact Bool.false_ne_true))
  unfold canFrame
  dsimp only
  rw [hr, h, Bool.false_and, Bool.false_and]
  split <;> rfl

theorem canHpPop_eq {m : Master} (hm : m.isPair = true) (n : Nat) (s : State) :
    canHpPop m n s = (s.setCan n { s.canPort n with hp := (s.canPort n).hp.drop 1 }).canHpShow n :=
  if_neg fun h => h (mayWriteRegs_of_isPair hm)

theorem rxJudged_hp (s : State) (n : Fin 4) (hz : s.sized) (r : CanPortRec) (x : CanFrame) :
    ((rxJudged s n r x).canPort n).hp = (s.canPort n).hp := by
  have hw := canRxGood_within s n
  exact (canReference_hp _ n (hw.sized hz) r x).trans (congrArg CanPort.hp (canPort_of_can (hw.can_eq (by decide)) n))

/-- Settles O41: a frame for an object, one for the high-priority buffer, a pop, and an error. -/
theorem canReceives : Obligations.CanReceives := by
  unfold Obligations.CanReceives
  intro s n m x esi sof i f r o kind heavy hz
  refine ⟨fun ho he hr hfd hmt => ⟨fun ht hc hl => ?object, fun ht hl => ?buffer⟩, fun ho => next_eq (canFrame_off ho x esi false sof),
    fun hm => ?pop, fun ho he => ?error, fun ho => ?off⟩
  case object =>
    have hj := rxJudged_within s n r x
    have hrec := (canReceive_takes ho he hr hfd hmt esi sof).trans (filtered_object _ n r x esi i ht sof)
    have hcan : (rxJudged s n r x).canObj n f.obj = some o := by
      unfold State.canObj
      rw [hj.img_eq (by decide)]
      exact hc
    have hrec' := hrec.trans (canObject_takes hcan hl sof)
    have hw := canFrame_within n x esi false sof s
    refine ⟨_, rfl, ?_, ?_⟩
    · rw [canPort_of_can (hw.can_eq (by decide)), hrec', canPort_setCan_same _ (can_lt (hj.sized hz) n), ← hj.now_eq (by decide)]
      rfl
    · rw [hw.mem_eq (by decide), hrec']
      exact hj.mem_eq (by decide)
  case buffer =>
    have hj := rxJudged_within s n r x
    have hp := rxJudged_hp s n hz r x
    have hrec := (canReceive_takes ho he hr hfd hmt esi sof).trans (filtered_buffer _ n r x esi i ht sof)
    have hrec' := hrec.trans (canHiPri_free ⟨x, esi, i, sof⟩ (by rw [hp]; exact hl))
    have hall := (canFrame_noObject hmt (by rw [ht]; decide) esi false sof).trans hrec'
    refine ⟨_, next_eq hall, ?_, canRaise_told _ n (by decide) _ _, ?_⟩
    · rw [canPort_of_can (raise_can _ _ _ _), canPort_of_can ((canHpShow_within _ _).can_eq (by decide)),
        canPort_setCan_same _ (can_lt (hj.sized hz) n), hp]
    · rw [raise_mem, (canHpShow_within _ _).mem_eq (by decide)]
      exact hj.mem_eq (by decide)
  case pop =>
    have hshow := canHpShow_within (s.setCan n { s.canPort n with hp := (s.canPort n).hp.drop 1 }) n
    refine ⟨_, next_eq (canHpPop_eq hm n s), ?_, fun k hk => ?_, hshow.mem_eq (by decide)⟩
    · rw [canPort_of_can (hshow.can_eq (by decide)), canPort_setCan_same _ (can_lt hz n)]
    · rw [canPort_of_can (hshow.can_eq (by decide)), canPort_setCan_ne _ hk]
  case error =>
    refine ⟨_, next_pos ⟨ho, he⟩, canSetErr_rec _ n _ (tec_le s n), canSetErr_tec _ n _ (tec_le s n), ?_⟩
    exact ((canSetErr_within _ n _ (tec_le s n)).can_eq (by decide)).trans ((canCount_within s n kind).can_eq (by decide))
  case off => exact next_neg fun h => Bool.false_ne_true (ho.symm.trans h.1)

end Sys2Proof.Proofs

/-! The CAN ports transmitting (15). -/

namespace Sys2Proof.Proofs
open Sys2Proof Sys2Proof.Machine Sys2Proof.Laws

/-! ### Starting a frame (R409) -/

theorem canTxStart_eq {s : State} {n : Nat} {x : CanTx} (hm : s.canMaySend n = true) (hf : firstOffer (s.canOffers n) = some x) :
    canTxStart n s = s.canStart n x := by
  unfold canTxStart
  rw [if_pos hm, hf]

theorem canStart_port {s : State} {n : Nat} (h : n < s.can.length) (x : CanTx) : (s.canStart n x).canPort n =
    { s.canPort n with onBus := some x, onBusAt := s.now, pend := (s.canPort n).pend.filter (fun u => decide (u.obj ≠ x.obj)) } :=
  canPort_setCan_same _ h

theorem canMaySend_onBus {s : State} {n : Nat} (h : s.canMaySend n = true) : (s.canPort n).onBus = none := by
  unfold State.canMaySend at h
  simp only [Bool.and_eq_true] at h
  exact Option.isNone_iff_eq_none.1 h.2

/-! ### What the end of a frame leaves of the error counters -/

/-- A register that nothing at the end of a frame touches but the error counters' own update. -/
structure EndQuiet (n a : Nat) : Prop where
  event : eventTouches a = false
  attn : 0x40020038 ≤ a
  txFail : a ≠ Reg.CAN_TXFAIL n
  pend : ∀ o, a ≠ Reg.CAN_OBJ n o

theorem canErr_endQuiet (n : Fin 4) : EndQuiet n (Reg.CAN_ERR n) :=
  ⟨canErr_quiet n, by unfold Reg.CAN_ERR; omega, by unfold Reg.CAN_ERR Reg.CAN_TXFAIL; omega, fun o => by unfold Reg.CAN_ERR Reg.CAN_OBJ; omega⟩

theorem canShowPend_reg {n a : Nat} (h : EndQuiet n a) (s : State) (o : Nat) : (s.canShowPend n o).reg a = s.reg a := by
  unfold State.canShowPend
  split
  · exact reg_setFlag_ne _ _ (h.pend o)
  · rfl

theorem canQueueDone_reg {n a : Nat} (h : EndQuiet n a) (s : State) (result sof : Nat) : (s.canQueueDone n result sof).reg a = s.reg a := by
  unfold State.canQueueDone
  split
  · rfl
  · dsimp only
    rw [doneEv_reg _ _ _ h.event (Or.inr h.attn)]
    show (if decide (sof = 0) = true then s.draw else s).reg a = s.reg a
    split <;> rfl

theorem canTxFail_eq {s : State} {n : Nat} {t : CanTx} (h : t.obj ≠ 254) (cause : Nat) : s.canTxFail n t cause =
    (((s.setFld (Reg.CAN_TXFAIL_SRC n) t.obj).setFld (Reg.CAN_TXFAIL_CAUSE n) cause).bump (Reg.CAN_TXFAIL_COUNT n) (Reg.CAN_TXFAIL_SAT n)).raise
      (canSrc n 2) (t.obj + 256 * cause) (canIdWord t.frame) := if_neg h

theorem canTxFail_reg {n : Fin 4} {a : Nat} (h : EndQuiet n a) (s : State) (t : CanTx) (cause : Nat) : (s.canTxFail n t cause).reg a = s.reg a := by
  by_cases h254 : t.obj = 254
  · unfold State.canTxFail
    rw [if_pos h254]
  · rw [canTxFail_eq h254, canRaise_reg _ n (by decide) _ _ h.event, bump_reg _ h.txFail h.txFail, reg_setFld_ne _ _ h.txFail,
      reg_setFld_ne _ _ h.txFail]

theorem canFail_reg {n : Fin 4} {a : Nat} (h : EndQuiet n a) (s : State) (t : CanTx) (cause sof : Nat) : (s.canFail n t cause sof).reg a = s.reg a := by
  unfold State.canFail
  extract_lets s1 s2
  have h1 : s1.reg a = s.reg a := by
    unfold s1
    split
    · exact canTxFail_reg h _ _ _
    · rfl
  have h2 : s2.reg a = s1.reg a := by
    unfold s2
    split
    · exact canQueueDone_reg h _ _ _
    · rfl
  rw [canShowPend_reg h, h2, h1]

theorem canRetry_regs (s : State) (n : Nat) (t : CanTx) : (s.canRetry n t).regs = s.regs :=
  (State_canRetry_within (k := 4194304) rfl .refl).regs_eq (by decide)

theorem reg_of_regs_eq {s t : State} (h : t.regs = s.regs) (a : Nat) : t.reg a = s.reg a := by unfold State.reg; rw [h]

theorem canTxFailed_reg {n : Fin 4} {a : Nat} (h : EndQuiet n a) (s : State) (t : CanTx) (cause sof : Nat) :
    (s.canTxFailed n t cause sof).reg a = s.reg a := by
  unfold State.canTxFailed
  split
  · exact canFail_reg h _ _ _ _
  · rw [canShowPend_reg h, reg_of_regs_eq (canRetry_regs _ _ _)]

/-! ### What it leaves of the port -/

theorem canFail_can (s : State) (n : Nat) (t : CanTx) (cause sof : Nat) : (s.canFail n t cause sof).can = s.can :=
  (State_canFail_within (k := 274877910279) rfl .refl).can_eq (by decide)

theorem canShowPend_can (s : State) (n o : Nat) : (s.canShowPend n o).can = s.can := (State_canShowPend_within (k := 1) rfl .refl).can_eq (by decide)

theorem canRetry_onBus {s : State} {n : Nat} (h : n < s.can.length) (t : CanTx) : ((s.canRetry n t).canPort n).onBus = (s.canPort n).onBus := by
  unfold State.canRetry
  dsimp only
  split
  · rw [canPort_setCan_same _ h]
  · rfl

theorem canTxFailed_onBus {s : State} {n : Nat} (h : n < s.can.length) (t : CanTx) (cause sof : Nat) :
    ((s.canTxFailed n t cause sof).canPort n).onBus = (s.canPort n).onBus := by
  unfold State.canTxFailed
  split
  · rw [canPort_of_can (canFail_can _ _ _ _ _)]
  · rw [canPort_of_can (canShowPend_can _ _ _), canRetry_onBus h]

/-- A frame that is retried waits again, unless a newer one of its object does. -/
theorem canRetry_pend {s : State} {n : Nat} (h : n < s.can.length) {t : CanTx} (ho : t.obj < 255) :
    ∃ y ∈ ((s.canRetry n t).canPort n).pend, y.obj = t.obj := by
  unfold State.canRetry
  dsimp only
  by_cases ha : (s.canPort n).pend.any (fun u => decide (u.obj = t.obj)) = true
  · rw [if_neg fun hc => hc.2 ha]
    obtain ⟨y, hy, he⟩ := List.any_eq_true.1 ha
    exact ⟨y, hy, of_decide_eq_true he⟩
  · rw [if_pos ⟨ho, ha⟩, canPort_setCan_same _ h]
    exact ⟨t, List.mem_append_right _ (List.mem_singleton.2 rfl), rfl⟩

/-! ### The end of the frame on the bus (R410, R411, R414) -/

/-- The bus is free again. -/
def busFreed (s : State) (n : Nat) : State := s.setCan n { s.canPort n with onBus := none }

theorem busFreed_onBus {s : State} {n : Nat} (h : n < s.can.length) : ((busFreed s n).canPort n).onBus = none := by
  unfold busFreed
  rw [canPort_setCan_same _ h]

theorem busFreed_length (s : State) (n : Nat) : (busFreed s n).can.length = s.can.length := List.length_set ..

/-- A frame sent: it is out, and TEC counts down. -/
def frameSent (s : State) (n : Nat) (x : CanTx) : State :=
  let s := s.send (.can n x.frame.ide x.frame.id x.frame.fd x.frame.brs x.frame.data)
  s.canSetErr n (s.fld (Reg.CAN_ERR_TEC n) - 1) (s.fld (Reg.CAN_ERR_REC n))

/-- What follows a frame sent: its descriptor, the cycle and the object's flag. -/
def sentDone (s : State) (n : Nat) (x : CanTx) (sof : Nat) : State :=
  let s := if x.obj = 255 then s.canQueueDone n 1 sof else s
  let s := if x.obj = 254 then s.setFld (Reg.CAN_TT_CYCSEQ n) (u8 x.frame.data 0) else s
  s.canShowPend n x.obj

theorem canTxEnd_sent {s : State} {n : Nat} {x : CanTx} (h : (s.canPort n).onBus = some x) :
    canTxEnd n (.sent none) s = sentDone (frameSent (busFreed s n) n x) n x (s.canPort n).onBusAt := by
  unfold canTxEnd
  dsimp only
  rw [h]
  dsimp only
  rw [ite_self]
  rfl

theorem canTxEnd_arbLost {s : State} {n : Nat} {x : CanTx} (h : (s.canPort n).onBus = some x) :
    canTxEnd n .arbLost s = (busFreed s n).canTxFailed n x 2 (s.canPort n).onBusAt := by
  unfold canTxEnd
  dsimp only
  rw [h]
  rfl

theorem canTxEnd_error {s : State} {n : Nat} {x : CanTx} (h : (s.canPort n).onBus = some x) (kind : CanErr) :
    canTxEnd n (.error kind false) s = (((busFreed s n).canCount n kind).canTxFailed n x 3 (s.canPort n).onBusAt).canTxErr n false := by
  unfold canTxEnd
  dsimp only
  rw [h]
  rfl

theorem canTt_ne_canErr (n : Nat) : Reg.CAN_ERR n ≠ Reg.CAN_TT n := by
  unfold Reg.CAN_ERR Reg.CAN_TT
  omega

theorem sentDone_errReg (s : State) (n : Fin 4) (x : CanTx) (sof : Nat) : (sentDone s n x sof).reg (Reg.CAN_ERR n) = s.reg (Reg.CAN_ERR n) := by
  have hq := canErr_endQuiet n
  unfold sentDone
  extract_lets s1 s2
  have h1 : s1.reg (Reg.CAN_ERR n) = s.reg (Reg.CAN_ERR n) := by
    unfold s1
    split
    · exact canQueueDone_reg hq _ _ _
    · rfl
  have h2 : s2.reg (Reg.CAN_ERR n) = s1.reg (Reg.CAN_ERR n) := by
    unfold s2
    split
    · exact reg_setFld_ne _ _ (canTt_ne_canErr n)
    · rfl
  rw [canShowPend_reg hq, h2, h1]

theorem sentDone_within (s : State) (n : Nat) (x : CanTx) (sof : Nat) : Within 274877910279 s (sentDone s n x sof) := by
  unfold sentDone
  exact State_canShowPend_within rfl (.ite (fun _ => State_setFld_within rfl (.ite (fun _ => State_canQueueDone_within rfl .refl) fun _ => .refl))
    fun _ => .ite (fun _ => State_canQueueDone_within rfl .refl) fun _ => .refl)

theorem pred_tec_le (s : State) (n : Nat) : s.fld (Reg.CAN_ERR_TEC n) - 1 ≤ 255 := Nat.le_trans (Nat.sub_le _ _) (tec_le s n)

theorem frameSent_within (s : State) (n : Nat) (x : CanTx) : Within 1285 (s.send (.can n x.frame.ide x.frame.id x.frame.fd x.frame.brs x.frame.data))
    (frameSent s n x) := canSetErr_within _ n _ (pred_tec_le _ n)

theorem canTxEnd_sent_after {s : State} {n : Fin 4} {x : CanTx} (hz : s.sized) (h : (s.canPort n).onBus = some x) :
    ((canTxEnd n (.sent none) s).canPort n).onBus = none ∧
      (canTxEnd n (.sent none) s).outbox = s.outbox ++ [.can n x.frame.ide x.frame.id x.frame.fd x.frame.brs x.frame.data] ∧
      (canTxEnd n (.sent none) s).fld (Reg.CAN_ERR_TEC n) = s.fld (Reg.CAN_ERR_TEC n) - 1 := by
  have hd := sentDone_within (frameSent (busFreed s n) n x) n x (s.canPort n).onBusAt
  have hf := frameSent_within (busFreed s n) n x
  have htec : (frameSent (busFreed s n) n x).fld (Reg.CAN_ERR_TEC n) = s.fld (Reg.CAN_ERR_TEC n) - 1 := canSetErr_tec _ n _ (pred_tec_le _ n)
  rw [canTxEnd_sent h]
  refine ⟨?_, (hd.outbox_eq (by decide)).trans (hf.outbox_eq (by decide)), (fld_of_reg (sentDone_errReg _ n x _)).trans htec⟩
  rw [canPort_of_can (hd.can_eq (by decide)), canPort_of_can (hf.can_eq (by decide))]
  exact busFreed_onBus (can_lt hz n)

theorem canTxEnd_arbLost_after {s : State} {n : Fin 4} {x : CanTx} (hz : s.sized) (h : (s.canPort n).onBus = some x) (h1 : x.oneShot = false)
    (ho : x.obj < 255) : ((canTxEnd n .arbLost s).canPort n).onBus = none ∧ (∃ y ∈ ((canTxEnd n .arbLost s).canPort n).pend, y.obj = x.obj) ∧
      (canTxEnd n .arbLost s).fld (Reg.CAN_ERR_TEC n) = s.fld (Reg.CAN_ERR_TEC n) := by
  have hl : n.val < (busFreed s n).can.length := by rw [busFreed_length]; exact can_lt hz n
  rw [canTxEnd_arbLost h]
  refine ⟨(canTxFailed_onBus hl x 2 _).trans (busFreed_onBus (can_lt hz n)), ?_, fld_of_reg (canTxFailed_reg (canErr_endQuiet n) _ _ _ _)⟩
  unfold State.canTxFailed
  rw [if_neg (by rw [h1]; exact Bool.false_ne_true), canPort_of_can (canShowPend_can _ _ _)]
  exact canRetry_pend hl ho

theorem canTxEnd_error_after {s : State} {n : Fin 4} {x : CanTx} (hz : s.sized) (h : (s.canPort n).onBus = some x) (kind : CanErr)
    (ht : s.fld (Reg.CAN_ERR_TEC n) < 248) : ((canTxEnd n (.error kind false) s).canPort n).onBus = none ∧
      (canTxEnd n (.error kind false) s).fld (Reg.CAN_ERR_TEC n) = s.fld (Reg.CAN_ERR_TEC n) + 8 := by
  have hcount := canCount_within (busFreed s n) n kind
  have hl : n.val < ((busFreed s n).canCount n kind).can.length := by
    rw [hcount.can_eq (by decide), busFreed_length]
    exact can_lt hz n
  have htec : (((busFreed s n).canCount n kind).canTxFailed n x 3 (s.canPort n).onBusAt).fld (Reg.CAN_ERR_TEC n) = s.fld (Reg.CAN_ERR_TEC n) :=
    fld_of_reg ((canTxFailed_reg (canErr_endQuiet n) _ _ _ _).trans (canCount_reg _ _ _ (canErr_ne_counts n).1 (canErr_ne_counts n).2))
  have honBus := (canTxFailed_onBus hl x 3 (s.canPort n).onBusAt).trans
    ((congrArg CanPort.onBus (canPort_of_can (hcount.can_eq (by decide)) n)).trans (busFreed_onBus (can_lt hz n)))
  rw [canTxEnd_error h]
  generalize ((busFreed s n).canCount n kind).canTxFailed n x 3 (s.canPort n).onBusAt = t at htec honBus
  have hle : t.fld (Reg.CAN_ERR_TEC n) + 8 ≤ 255 := by omega
  refine ⟨?_, (canSetErr_tec t n _ hle).trans (by rw [htec])⟩
  exact (congrArg CanPort.onBus (canPort_of_can ((canSetErr_within t n _ hle).can_eq (by decide)) n)).trans honBus

/-! ### Recovery, and the time master (R414 to R417) -/

theorem canRecover_eq {m : Master} {n : Nat} {w : Word} (hm : m.isPair = true) (hk : wordField w 8 8 = 0xC5) (h0 : wordField w 0 1 = 1) (s : State) :
    canRecover m n w s = if s.fld (Reg.CAN_STAT_EST n) = 2 then s.setCan n { s.canPort n with recovering := true } else s := by
  unfold canRecover
  rw [if_neg (fun h => h (mayWriteRegs_of_isPair hm))]
  simp only [hk, h0, true_and]

/-- Recovery complete, both counters at 0. -/
def busOnShown (s : State) (n : Nat) : State :=
  ((s.setCan n { s.canPort n with recovering := false }).setReg (Reg.CAN_ERR n) 0).setFld (Reg.CAN_STAT_EST n) 0

theorem canBusOn_eq {s : State} {n : Nat} (hr : (s.canPort n).recovering = true) (ho : s.canOn n = true) :
    canBusOn n s = (busOnShown s n).raise (canSrc n 5) 0 0 := if_pos ⟨hr, ho⟩

/-- The reference's cycle taken up at its instant. -/
def cycleBegun (s : State) (n u : Nat) : State := (s.toTime u).setCan n { s.canPort n with nextRef := some (u + 1), cycleRef := u }

theorem ttReference_eq {s : State} {n : Nat} {r : CanPortRec} {u k : Nat} (hr : s.canPortRec n = some r) (hmode : r.mode = 2)
    (hs : s.canMaySend n = true) (ha : s.refAfter n ((s.canPort n).nextRef.getD s.now) = some (u, k)) (late : Bool) :
    ttReference n late s = if late then (((cycleBegun s n u).canStart n ⟨254, refFrame r.refId k u, true⟩).bump (Reg.CAN_TT_LATE n)
        (Reg.CAN_TT_SAT n)).raise (canSrc n 7) 0 0
      else (cycleBegun s n u).canStart n ⟨254, refFrame r.refId k u, true⟩ := by
  unfold ttReference
  rw [hr, ha]
  dsimp only
  rw [if_neg fun h => h.elim (fun h => h hs) (fun h => h hmode)]
  rfl

theorem toTime_can (s : State) (t : Nat) : (s.toTime t).can = s.can := (toTime_within s t).can_eq (by decide)

theorem cycleBegun_started {s : State} {n : Nat} (h : n < s.can.length) (u : Nat) (x : CanTx) :
    (((cycleBegun s n u).canStart n x).canPort n).onBus = some x ∧ (((cycleBegun s n u).canStart n x).canPort n).cycleRef = u ∧
      (((cycleBegun s n u).canStart n x).canPort n).nextRef = some (u + 1) := by
  have hp : (cycleBegun s n u).canPort n = { s.canPort n with nextRef := some (u + 1), cycleRef := u } :=
    canPort_setCan_same _ (by rw [toTime_can]; exact h)
  have hl : n < (cycleBegun s n u).can.length := by
    show n < (List.set _ _ _).length
    rw [List.length_set, toTime_can]
    exact h
  rw [canStart_port hl, hp]
  exact ⟨rfl, rfl, rfl⟩

/-- The instant a window opens. -/
def windowOpened (s : State) (n : Nat) (oc : CanObj) : State := s.toTime ((s.canPort n).cycleRef + 1000 * oc.winStart)

/-- A frame whose window passed waits no longer. -/
def windowMissed (s : State) (n o : Nat) : State :=
  s.setCan n { s.canPort n with pend := (s.canPort n).pend.filter (fun u => decide (u.obj ≠ o)) }

theorem ttWindow_eq {s : State} {n o : Nat} {oc : CanObj} {x : CanTx} (hc : s.canObj n o = some oc)
    (hp : (s.canPort n).pend.find? (fun y => decide (y.obj = o)) = some x) (hs : s.canMaySend n = true) (hmode : s.fld (Reg.CAN_STAT_MODE n) = 2)
    (started : Bool) : ttWindow n o started s = if started then (windowOpened s n oc).canStart n x
      else (windowMissed (windowOpened s n oc) n o).canFail n x 2 0 := by
  unfold ttWindow
  rw [hc, hp]
  dsimp only
  rw [if_neg fun h => h.elim (fun h => h hs) (fun h => h hmode)]
  rfl

/-- The failure of a one-shot object frame is told. -/
theorem canFail_told (s : State) (n : Fin 4) {x : CanTx} (h : x.obj < 128) (h1 : x.oneShot = true) (cause sof : Nat) :
    (s.canFail n x cause sof).told (canSrc n 2) (x.obj + 256 * cause) (canIdWord x.frame) := by
  unfold State.canFail
  rw [if_pos h1]
  dsimp only
  rw [if_neg (by omega), canTxFail_eq (by omega)]
  unfold State.canShowPend
  rw [if_pos h]
  refine (told_setFlag (Nat.lt_trans (canSrc_lt n (by decide)) (by decide)) (Or.inr ?_)).2 (canRaise_told _ n (by decide) _ _)
  show 0x40011000 ≤ Reg.CAN_OBJ n x.obj
  unfold Reg.CAN_OBJ
  omega

/-- The loss of the reference after its second. -/
def syncLostShown (s : State) (n : Nat) : State :=
  ((s.toMono ((s.canPort n).lastRef + 1000000000)).setFlag (Reg.CAN_STAT_SYNC n) false).setCan n { s.canPort n with syncLost := true }

theorem ttcanSyncLoss_eq {s : State} {n : Nat} (h3 : s.fld (Reg.CAN_STAT_MODE n) = 3) (hs : s.flag (Reg.CAN_STAT_SYNC n) = true) :
    ttcanSyncLoss n s = (syncLostShown s n).raise (canSrc n 7) 2 0 := if_pos ⟨h3, hs⟩

theorem setCan_regs (s : State) (n : Nat) (p : CanPort) : (s.setCan n p).regs = s.regs := rfl
theorem setCan_mono (s : State) (n : Nat) (p : CanPort) : (s.setCan n p).mono = s.mono := rfl

theorem setFlag_mono (s : State) (f : Field) (b : Bool) : (s.setFlag f b).mono = s.mono :=
  (State_setFlag_within (k := 1) rfl .refl).mono_eq (by decide)

theorem syncLostShown_sync (s : State) (n : Nat) : (syncLostShown s n).flag (Reg.CAN_STAT_SYNC n) = false :=
  (flag_of_fld (fld_of_regs (setCan_regs _ _ _) _)).trans (flag_setFlag_same _ _ _ rfl (show 6 + 1 ≤ 32 by decide))

theorem syncLostShown_mono (s : State) (n : Nat) : (syncLostShown s n).mono = (s.toMono ((s.canPort n).lastRef + 1000000000)).mono :=
  (setCan_mono _ _ _).trans (setFlag_mono _ _ _)

/-- Settles O42: starts, ends, recovery, and the time-triggered cycle. -/
theorem canTransmits : Obligations.CanTransmits := by
  unfold Obligations.CanTransmits
  intro s n m w x r o oc u k kind late hz
  have hl := can_lt hz n
  refine ⟨fun hs hf => ?start, fun hs => next_eq (if_neg (by rw [hs]; exact Bool.false_ne_true)), fun hb => ⟨?sent, fun h1 ho => ?lost, fun ht => ?error⟩,
    fun hm hk h0 => ⟨fun h2 => ?recover, fun h2 => next_eq ((canRecover_eq hm hk h0 s).trans (if_neg h2))⟩, fun hr ho => ?busOn,
    fun hr hmode hs ha => ?reference, fun hc hp hs hmode => ⟨?window, ?missed⟩, fun h3 hs => ?syncLoss⟩
  case start =>
    have hp := canStart_port hl x
    exact ⟨_, next_eq (canTxStart_eq hs hf), by rw [hp], by rw [hp], rfl, rfl⟩
  case sent => exact ⟨_, rfl, canTxEnd_sent_after hz hb⟩
  case lost => exact ⟨_, rfl, canTxEnd_arbLost_after hz hb h1 ho⟩
  case error => exact ⟨_, rfl, canTxEnd_error_after hz hb kind ht⟩
  case recover =>
    exact ⟨_, next_eq ((canRecover_eq hm hk h0 s).trans (if_pos h2)), by rw [canPort_setCan_same _ hl], rfl⟩
  case busOn =>
    refine ⟨_, next_eq (canBusOn_eq hr ho), ?_, ?_, ?_, canRaise_told _ n (by decide) _ _⟩
    · rw [canPort_of_can (raise_can _ _ _ _)]
      exact congrArg CanPort.recovering (canPort_setCan_same _ hl)
    · rw [canRaise_reg _ n (by decide) _ _ (canErr_quiet n)]
      exact (reg_setFld_ne _ _ (canErr_ne_canStat n)).trans (reg_setReg_same _ _ _)
    · rw [fld_of_reg (canRaise_reg _ n (by decide) _ _ (canStat_quiet n))]
      exact fld_setFld_of_lt _ (show 0 < 4 by decide) (show 4 + 2 ≤ 32 by decide)
  case reference =>
    obtain ⟨h1, h2, h3⟩ := cycleBegun_started hl u ⟨254, refFrame r.refId k u, true⟩
    refine ⟨_, next_eq (ttReference_eq hr hmode hs ha late), ?_⟩
    cases late
    · exact ⟨h1, h2, h3, fun h => absurd h Bool.false_ne_true⟩
    · have hcan : ∀ t : State, ((t.bump (Reg.CAN_TT_LATE n) (Reg.CAN_TT_SAT n)).raise (canSrc n 7) 0 0).can = t.can := fun t =>
        (raise_can _ _ _ _).trans ((bump_within t _ _).can_eq (by decide))
      rw [if_pos rfl, canPort_of_can (hcan _)]
      exact ⟨h1, h2, h3, fun _ => canRaise_told _ n (by decide) _ _⟩
  case window =>
    refine ⟨_, next_eq ((ttWindow_eq hc hp hs hmode true).trans (if_pos rfl)), ?_⟩
    rw [canStart_port (by unfold windowOpened; rw [toTime_can]; exact hl)]
  case missed =>
    have hcan : (windowOpened s n oc).can = s.can := toTime_can _ _
    have hx : x.obj = o.val := by simpa using List.find?_some hp
    refine ⟨_, next_eq ((ttWindow_eq hc hp hs hmode false).trans (if_neg Bool.false_ne_true)), ?_, ?_, fun h1 => ?_⟩
    · rw [canPort_of_can (canFail_can _ _ _ _ _)]
      unfold windowMissed
      rw [canPort_setCan_same _ (by rw [hcan]; exact hl), canPort_of_can hcan]
      exact canMaySend_onBus hs
    · rw [canPort_of_can (canFail_can _ _ _ _ _)]
      unfold windowMissed
      rw [canPort_setCan_same _ (by rw [hcan]; exact hl)]
      intro y hy
      exact of_decide_eq_true (List.mem_filter.1 hy).2
    · have h := canFail_told (windowMissed (windowOpened s n oc) n o) n (x := x) (by rw [hx]; exact o.isLt) h1 2 0
      rw [hx] at h
      exact h
  case syncLoss =>
    refine ⟨_, next_eq (ttcanSyncLoss_eq h3 hs), ?_, canRaise_told _ n (by decide) _ _, ?_⟩
    · rw [flag_of_fld (fld_of_reg (canRaise_reg _ n (by decide) _ _ (canStat_quiet n)))]
      exact syncLostShown_sync s n
    · rw [raise_mono, syncLostShown_mono]
      exact le_toMono_mono _ _

end Sys2Proof.Proofs

/-! PTP: the clock as a follower and as a master (16). -/

namespace Sys2Proof.Proofs
open Sys2Proof Sys2Proof.Machine Sys2Proof.Laws

/-! ### The addend and steps (R431, R432) -/

/-- An addend clamped to ±250 ppm. -/
def clampAddend (v : Nat) : Nat := max 0x9FF5C290 (min 0xA00A3D70 v)

theorem setAddend_eq (s : State) (v : Nat) : s.setAddend v = if clampAddend v = v then s.setFld Reg.PTP_ADDEND_ADDEND (clampAddend v)
    else ((s.setFld Reg.PTP_ADDEND_ADDEND (clampAddend v)).setFlag Reg.PTP_STAT_ADDCLAMP true).raise 216 0 0 := rfl

theorem clampAddend_lt (v : Nat) : clampAddend v < 2 ^ 32 := by
  unfold clampAddend
  omega

theorem clampAddend_eq_self {v : Nat} : clampAddend v = v ↔ 0x9FF5C290 ≤ v ∧ v ≤ 0xA00A3D70 := by
  unfold clampAddend
  omega

theorem setAddend_within (s : State) (v : Nat) : Within 1285 s (s.setAddend v) := State_setAddend_within rfl .refl

theorem setAddend_addend (s : State) (v : Nat) : (s.setAddend v).fld Reg.PTP_ADDEND_ADDEND = clampAddend v := by
  have h : (s.setFld Reg.PTP_ADDEND_ADDEND (clampAddend v)).fld Reg.PTP_ADDEND_ADDEND = clampAddend v :=
    fld_setFld_of_lt s (clampAddend_lt v) (by decide)
  rw [setAddend_eq]
  split
  · exact h
  · rw [raise_fld _ (by decide) (by decide), fld_setFlag_addr _ _ (by decide)]
    exact h

theorem setAddend_clamped {s : State} {v : Nat} (h : clampAddend v ≠ v) :
    (s.setAddend v).flag Reg.PTP_STAT_ADDCLAMP = true ∧ (s.setAddend v).told 216 0 0 := by
  rw [setAddend_eq, if_neg h]
  refine ⟨?_, raise_told _ (by decide) (by decide) _ _⟩
  rw [raise_flag _ (by decide) (by decide)]
  exact flag_setFlag_same _ _ _ (by decide) (by decide)

theorem setAddend_kept {s : State} {v : Nat} (h : clampAddend v = v) :
    (s.setAddend v).flag Reg.PTP_STAT_ADDCLAMP = s.flag Reg.PTP_STAT_ADDCLAMP := by
  rw [setAddend_eq, if_pos h]
  exact flag_of_fld (fld_setFld_addr _ _ (by decide))

/-- A field of PTP_STAT beside ADDCLAMP, and a register that is neither it nor the addend, is as before. -/
theorem setAddend_fld (s : State) (v : Nat) {f : Field} (hq : eventTouches f.addr = false) (ha : f.addr ≠ Reg.PTP_ADDEND)
    (hw : f.lo + f.width ≤ 32) (hd : f.addr = Reg.PTP_STAT → f.lo + f.width ≤ 5 ∨ 6 ≤ f.lo) : (s.setAddend v).fld f = s.fld f := by
  rw [setAddend_eq]
  split
  · exact fld_setFld_addr _ _ ha
  · rw [raise_fld _ (by decide) hq]
    refine Eq.trans ?_ (fld_setFld_addr (g := Reg.PTP_ADDEND_ADDEND) s (clampAddend v) ha)
    by_cases hs : f.addr = Reg.PTP_STAT
    · have hf : f = ⟨Reg.PTP_STAT, f.lo, f.width⟩ := by rw [← hs]
      rw [hf]
      exact fld_setFlag_other _ _ hw (hd hs).symm
    · exact fld_setFlag_addr _ _ hs

theorem setAddend_told {s : State} {n lo hi : Nat} (v : Nat) (hn : n < 256) (h232 : n ≠ 232) (h216 : n ≠ 216) (h : s.told n lo hi) :
    (s.setAddend v).told n lo hi := by
  rw [setAddend_eq]
  split
  · exact (told_setFld hn (by decide)).2 h
  · exact (told_raise_ne (by decide) hn h232 h216).2 ((told_setFlag hn (by decide)).2 ((told_setFld hn (by decide)).2 h))

theorem ptpStep_noKey {m : Master} {w : Word} (hm : m.isPair = true) (hk : wordField w 8 8 ≠ 0x3C) (s : State) : ptpStep m w s = s := by
  unfold ptpStep
  rw [if_neg (fun h => h (mayWriteRegs_of_isPair hm)), if_pos (Or.inl hk)]

theorem ptpStep_key {m : Master} {w : Word} (hm : m.isPair = true) (hk : wordField w 8 8 = 0x3C) (h0 : w.getLsbD 0 = true) (s : State) :
    ptpStep m w s = if s.cpm.phase = .run ∨ s.cpm.phase = .doze then (s.setFlag Reg.PTP_STAT_STEPREJ true).raise 214 0 0
      else s.stepTime (1000000000 * sint 32 (s.fld Reg.PTP_ADJ_S_SEC) + sint 32 (s.fld Reg.PTP_ADJ_NS_NS)) := by
  unfold ptpStep
  rw [if_neg (fun h => h (mayWriteRegs_of_isPair hm)), if_neg (fun h => h.elim (fun h => h hk) (fun h => h h0))]

/-! ### The lock state (R434) -/

/-- The clock's own part as before but for the servo's runs. -/
def RunsOnly (p q : Ptp) : Prop := q = { p with inRun := q.inRun, outRun := q.outRun }

theorem RunsOnly.refl {p : Ptp} : RunsOnly p p := rfl

theorem RunsOnly.trans {p q r : Ptp} (h : RunsOnly p q) (g : RunsOnly q r) : RunsOnly p r := by
  unfold RunsOnly at *
  rw [g, h]

/-- The new state stored, with its TRACE. -/
def stateShown (s : State) (st : Nat) : State :=
  if (s.setFld Reg.PTP_STAT_STATE st).follows then s.setFld Reg.PTP_STAT_STATE st else (s.setFld Reg.PTP_STAT_STATE st).ownTrace

/-- The servo's runs begin again. -/
def runsCleared (s : State) : State := { s with ptp := { s.ptp with inRun := 0, outRun := 0 } }

/-- A change of the lock state told. -/
def stateTold (s : State) (st : Nat) : State := (runsCleared (stateShown s st)).raise 212 (s.fld Reg.PTP_STAT_STATE + 256 * st) 0

theorem ptpState_same {s : State} {st : Nat} (h : s.fld Reg.PTP_STAT_STATE = st) : s.ptpState st = s := if_pos h

theorem ptpState_changed {s : State} {st : Nat} (h : s.fld Reg.PTP_STAT_STATE ≠ st) :
    s.ptpState st = if st = 5 then (stateTold s st).raise 214 0 0 else stateTold s st := if_neg h

theorem stateShown_state (s : State) {st : Nat} (h : st < 8) : (stateShown s st).fld Reg.PTP_STAT_STATE = st := by
  have hs : (s.setFld Reg.PTP_STAT_STATE st).fld Reg.PTP_STAT_STATE = st := fld_setFld_of_lt _ h (by decide)
  unfold stateShown
  split
  · exact hs
  · exact (fld_setFlag_other _ _ (by decide) (by decide)).trans hs

theorem stateShown_reg (s : State) (st : Nat) {a : Nat} (h : a ≠ Reg.PTP_STAT) : (stateShown s st).reg a = s.reg a := by
  unfold stateShown
  split
  · exact reg_setFld_ne _ _ h
  · exact (reg_setFlag_ne _ _ h).trans (reg_setFld_ne _ _ h)

theorem stateShown_ptp (s : State) (st : Nat) : (stateShown s st).ptp = s.ptp := by
  unfold stateShown
  split <;> rfl

theorem runsCleared_regs (s : State) : (runsCleared s).regs = s.regs := rfl

theorem stateTold_state (s : State) {st : Nat} (h : st < 8) : (stateTold s st).fld Reg.PTP_STAT_STATE = st := by
  unfold stateTold
  rw [raise_fld _ (by decide) (by decide), fld_of_regs (runsCleared_regs _), stateShown_state s h]

theorem stateTold_reg (s : State) (st : Nat) {a : Nat} (hq : eventTouches a = false) (h : a ≠ Reg.PTP_STAT) : (stateTold s st).reg a = s.reg a := by
  unfold stateTold
  rw [raise_reg _ (by decide) hq, reg_of_regs_eq (runsCleared_regs _), stateShown_reg s st h]

theorem stateTold_runs (s : State) (st : Nat) : RunsOnly s.ptp (stateTold s st).ptp := by
  unfold stateTold
  rw [raise_ptp, ← stateShown_ptp s st]
  rfl

theorem ptpState_state (s : State) {st : Nat} (h : st < 8) : (s.ptpState st).fld Reg.PTP_STAT_STATE = st := by
  by_cases hs : s.fld Reg.PTP_STAT_STATE = st
  · rw [ptpState_same hs, hs]
  · rw [ptpState_changed hs]
    split
    · rw [raise_fld _ (by decide) (by decide), stateTold_state s h]
    · exact stateTold_state s h

theorem ptpState_reg (s : State) (st : Nat) {a : Nat} (hq : eventTouches a = false) (h : a ≠ Reg.PTP_STAT) : (s.ptpState st).reg a = s.reg a := by
  by_cases hs : s.fld Reg.PTP_STAT_STATE = st
  · rw [ptpState_same hs]
  · rw [ptpState_changed hs]
    split
    · rw [raise_reg _ (by decide) hq, stateTold_reg s st hq h]
    · exact stateTold_reg s st hq h

theorem ptpState_runs (s : State) (st : Nat) : RunsOnly s.ptp (s.ptpState st).ptp := by
  by_cases hs : s.fld Reg.PTP_STAT_STATE = st
  · rw [ptpState_same hs]
    exact .refl
  · rw [ptpState_changed hs]
    split
    · rw [raise_ptp]
      exact stateTold_runs s st
    · exact stateTold_runs s st

theorem ptpState_told {s : State} {st : Nat} (hs : s.fld Reg.PTP_STAT_STATE ≠ st) (h5 : st ≠ 5) :
    (s.ptpState st).told 212 (s.fld Reg.PTP_STAT_STATE + 256 * st) 0 := by
  rw [ptpState_changed hs, if_neg h5]
  exact raise_told _ (by decide) (by decide) _ _

theorem ptpState_within (s : State) (st : Nat) : Within 4294968581 s (s.ptpState st) := State_ptpState_within rfl .refl

/-! ### The servo's work at a Sync (R432, R434) -/

/-- Registers other than PTP_STAT, and the clock beside its runs, are as before. -/
structure LockKept (s t : State) : Prop where
  reg : ∀ a, eventTouches a = false → a ≠ Reg.PTP_STAT → t.reg a = s.reg a
  ptp : RunsOnly s.ptp t.ptp

theorem LockKept.refl {s : State} : LockKept s s := ⟨fun _ _ _ => rfl, .refl⟩

theorem LockKept.trans {s t u : State} (h : LockKept s t) (g : LockKept t u) : LockKept s u :=
  ⟨fun a hq ha => (g.reg a hq ha).trans (h.reg a hq ha), h.ptp.trans g.ptp⟩

theorem LockKept.ite {s t u : State} {c : Prop} [Decidable c] (h : LockKept s t) (g : LockKept s u) : LockKept s (if c then t else u) := by
  split
  · exact h
  · exact g

theorem ptpState_kept (s : State) (st : Nat) : LockKept s (s.ptpState st) := ⟨fun _ hq ha => ptpState_reg s st hq ha, ptpState_runs s st⟩

theorem lockStep_kept (s : State) (ofs : Int) : LockKept s (s.lockStep ofs) := by
  have hin : ∀ (t : State) n, LockKept t { t with ptp := { t.ptp with inRun := n } } := fun _ _ => ⟨fun _ _ _ => rfl, rfl⟩
  have hout : ∀ (t : State) n, LockKept t { t with ptp := { t.ptp with outRun := n } } := fun _ _ => ⟨fun _ _ _ => rfl, rfl⟩
  unfold State.lockStep
  extract_lets a s1
  have h1 : LockKept s s1 := .ite (ptpState_kept _ _) .refl
  clear_value s1
  refine h1.trans (.ite (.ite (ptpState_kept _ _) (.ite (ptpState_kept _ _) (hin _ _))) (.ite (.ite (ptpState_kept _ _) (hout _ _)) .refl))

/-- Sixteen offsets within the limit in a row lock the clock. -/
theorem lockStep_locks {s : State} {ofs : Int} (h1 : s.fld Reg.PTP_STAT_STATE = 1) (hr : s.ptp.inRun = 15) (hl : ofs.natAbs ≤ s.lockNs)
    (hm : ofs.natAbs ≤ 100000000) : s.lockStep ofs = s.ptpState 2 := by
  unfold State.lockStep
  dsimp only
  have h3 : ¬ s.fld Reg.PTP_STAT_STATE = 3 := h1 ▸ by decide
  rw [if_neg h3, if_pos h1, if_neg (fun h => Nat.not_lt.2 hm h.1), if_pos hl, hr, if_pos (by decide)]

/-- The servo leaves every register but the addend and its clamp flag, and what has been told. -/
theorem servo_cases (s : State) (ofs : Int) : (∃ d, s.servo ofs = s.stepTime d) ∨ s.servo ofs = s ∨ ∃ v, s.servo ofs = s.draw.setAddend v := by
  unfold State.servo
  split
  · exact Or.inr (Or.inl rfl)
  · split
    · split
      · exact Or.inl ⟨_, rfl⟩
      · exact Or.inr (Or.inl rfl)
    · split
      · exact Or.inr (Or.inr ⟨_, rfl⟩)
      · exact Or.inr (Or.inl rfl)

theorem servo_fld (s : State) (ofs : Int) {f : Field} (hq : eventTouches f.addr = false) (ha : f.addr ≠ Reg.PTP_ADDEND)
    (hw : f.lo + f.width ≤ 32) (hd : f.addr = Reg.PTP_STAT → f.lo + f.width ≤ 5 ∨ 6 ≤ f.lo) : (s.servo ofs).fld f = s.fld f := by
  rcases servo_cases s ofs with ⟨d, h⟩ | h | ⟨v, h⟩
  · rw [h]
    rfl
  · rw [h]
  · rw [h]
    exact setAddend_fld s.draw v hq ha hw hd

theorem servo_told {s : State} (ofs : Int) {lo hi : Nat} (ht : s.told 212 lo hi) : (s.servo ofs).told 212 lo hi := by
  rcases servo_cases s ofs with ⟨d, h⟩ | h | ⟨v, h⟩
  · rw [h]
    exact ht
  · rw [h]
    exact ht
  · rw [h]
    exact setAddend_told (s := s.draw) v (by decide) (by decide) (by decide) ht

theorem servo_within (s : State) (ofs : Int) : Within 274877908237 s (s.servo ofs) := State_servo_within rfl .refl

/-- The offset of a Sync's stamps, in ns. -/
def syncOfs (s : State) (t1 t2 : Int) : Int := (t2 - t1) / 65536 - s.fld Reg.PTP_MPD_MPD

/-- The stamps and their offset noted. -/
def offsetNoted (s : State) (t1 t2 : Int) : State :=
  let s1 := ({ s with ptp := { s.ptp with sync := some (t1, t2) } } : State).setFld Reg.PTP_OFFSET_OFS (unsint 32 (satInt 32 (syncOfs s t1 t2)))
  { s1 with ptp := { s1.ptp with startRun := if (syncOfs s t1 t2).natAbs ≤ 1000 then s1.ptp.startRun + 1 else 0 } }

theorem syncOffset_eq (s : State) (t1 t2 : Int) :
    s.syncOffset t1 t2 = ((offsetNoted s t1 t2).lockStep (syncOfs s t1 t2)).servo (syncOfs s t1 t2) := rfl

theorem offsetNoted_regs (s : State) (t1 t2 : Int) : (offsetNoted s t1 t2).regs =
    (s.setFld Reg.PTP_OFFSET_OFS (unsint 32 (satInt 32 (syncOfs s t1 t2)))).regs := rfl

theorem offsetNoted_ptp (s : State) (t1 t2 : Int) : (offsetNoted s t1 t2).ptp =
    { s.ptp with sync := some (t1, t2), startRun := if (syncOfs s t1 t2).natAbs ≤ 1000 then s.ptp.startRun + 1 else 0 } := rfl

theorem unsint_lt (x : Int) : unsint 32 x < 2 ^ 32 := by
  unfold unsint
  omega

theorem syncOffset_offset (s : State) (t1 t2 : Int) :
    (s.syncOffset t1 t2).fld Reg.PTP_OFFSET_OFS = unsint 32 (satInt 32 (syncOfs s t1 t2)) := by
  rw [syncOffset_eq, servo_fld _ _ (by decide) (by decide) (by decide) (by decide),
    fld_of_reg ((lockStep_kept _ _).reg _ (by decide) (by decide)), fld_of_regs (offsetNoted_regs _ _ _)]
  exact fld_setFld_of_lt _ (unsint_lt _) (by decide)

theorem syncOffset_ptp (s : State) (t1 t2 : Int) : (s.syncOffset t1 t2).ptp.sync = some (t1, t2) ∧ (s.syncOffset t1 t2).ptp.twoStep = s.ptp.twoStep := by
  have h := (lockStep_kept (offsetNoted s t1 t2) (syncOfs s t1 t2)).ptp
  rw [syncOffset_eq, (servo_within _ _).ptp_eq (by decide), h, offsetNoted_ptp]
  exact ⟨rfl, rfl⟩

theorem syncOffset_mem (s : State) (t1 t2 : Int) : (s.syncOffset t1 t2).mem = s.mem :=
  (State_syncOffset_within (k := 279172875533) rfl .refl).mem_eq (by decide)

theorem syncOffset_locks {s : State} {t1 t2 : Int} (h1 : s.fld Reg.PTP_STAT_STATE = 1) (hr : s.ptp.inRun = 15)
    (hl : (syncOfs s t1 t2).natAbs ≤ s.lockNs) (hm : (syncOfs s t1 t2).natAbs ≤ 100000000) :
    (s.syncOffset t1 t2).fld Reg.PTP_STAT_STATE = 2 ∧ (s.syncOffset t1 t2).told 212 513 0 := by
  have h1' : (offsetNoted s t1 t2).fld Reg.PTP_STAT_STATE = 1 := by
    rw [fld_of_regs (offsetNoted_regs _ _ _), fld_setFld_addr _ _ (by decide), h1]
  have hlock : (offsetNoted s t1 t2).lockStep (syncOfs s t1 t2) = (offsetNoted s t1 t2).ptpState 2 := lockStep_locks h1' hr hl hm
  have ht := ptpState_told (s := offsetNoted s t1 t2) (st := 2) (by rw [h1']; decide) (by decide)
  rw [h1'] at ht
  rw [syncOffset_eq, hlock]
  refine ⟨?_, servo_told _ ht⟩
  rw [servo_fld _ _ (by decide) (by decide) (by decide) (by decide), ptpState_state _ (by decide)]

/-! ### Sync, Follow_Up, Delay_Resp (R432, R433) -/

/-- A Sync's arrival noted. -/
def syncNoted (s : State) (x : PtpSync) (two : Option (Nat × Int × Int)) : State :=
  { s with ptp := { s.ptp with syncAt := s.mono, syncInt := logNs x.logInt, twoStep := two } }

theorem ptpSync_acts {s : State} {x : PtpSync} (hm : s.ptpMode ≠ 0) (hs : s.ptp.sel = some x.src) (h4 : s.fld Reg.PTP_STAT_STATE ≠ 4) :
    ptpSync x s = if x.twoStep then syncNoted s x (some (x.seq, 4096 * s.ingressTime x.port.val x.boundary, x.corr))
      else (syncNoted s x none).syncOffset (65536 * x.origin + x.corr) (4096 * s.ingressTime x.port.val x.boundary) :=
  if_neg fun h => h.elim hm fun h => h.elim (fun h => h hs) h4

theorem ptpFollowUp_eq {s : State} {src n orig : Nat} {t2 c corr : Int} (hm : s.ptpMode ≠ 0) (hs : s.ptp.sel = some src)
    (h2 : s.ptp.twoStep = some (n, t2, c)) : ptpFollowUp src n orig corr s =
      ({ s with ptp := { s.ptp with twoStep := none } } : State).syncOffset (65536 * orig + c + corr) t2 := by
  unfold ptpFollowUp
  rw [h2]
  exact if_neg fun h => h.elim hm fun h => h.elim (fun h => h hs) (fun h => h rfl)

theorem ptpDelayResp_eq {s : State} {src n orig : Nat} {t1 t2 t3 corr : Int} (hm : s.ptpMode ≠ 0) (hs : s.ptp.sel = some src)
    (hy : s.ptp.sync = some (t1, t2)) (hq : s.ptp.req = some (n, t3)) : ptpDelayResp src n orig corr s =
      ({ s with ptp := { s.ptp with req := none } } : State).setFld Reg.PTP_MPD_MPD
        (min 0xFFFFFFFF (((t2 - t1) + (65536 * (orig : Int) - corr - t3)) / 2 / 65536).toNat) := by
  unfold ptpDelayResp
  rw [hy, hq]
  exact if_neg fun h => h.elim hm fun h => h.elim (fun h => h hs) (fun h => h rfl)

/-! ### Announce (R434) -/

theorem setGm_foreign (s : State) (gm : Nat) : (s.setGm gm).ptp.foreign = s.ptp.foreign ∧ (s.setGm gm).ptp.sel = s.ptp.sel := by
  unfold State.setGm
  split
  · exact ⟨rfl, rfl⟩
  · rw [raise_ptp]
    exact ⟨rfl, rfl⟩

theorem ptpState_foreign (s : State) (st : Nat) : (s.ptpState st).ptp.foreign = s.ptp.foreign ∧ (s.ptpState st).ptp.sel = s.ptp.sel := by
  rw [ptpState_runs s st]
  exact ⟨rfl, rfl⟩

theorem bmca_foreign (s : State) : s.bmca.ptp.foreign = s.ptp.foreign := by
  have ite : ∀ {c : Prop} [Decidable c] {t u : State} {l}, t.ptp.foreign = l → u.ptp.foreign = l → (if c then t else u).ptp.foreign = l := by
    intro c _ t u l ht hu
    split
    · exact ht
    · exact hu
  unfold State.bmca
  split
  · rfl
  · exact ite (ite (setGm_foreign _ _).1 ((ptpState_foreign _ _).1.trans (setGm_foreign _ _).1))
      (ite ((ptpState_foreign _ _).1.trans (setGm_foreign _ _).1) (setGm_foreign _ _).1)

theorem bmca_within (s : State) : Within 4294968581 s s.bmca := State_bmca_within rfl .refl

/-- An Announce kept, with the sender's last one before it. -/
def announceKept (s : State) (a : PtpAnnounce) : State :=
  { s with ptp := { s.ptp with foreign := ⟨a, s.mono, (s.ptp.foreign.find? (fun f => decide (f.ann.src = a.src))).map (fun f => f.last)⟩ ::
      (s.ptp.foreign.filter (fun f => decide (f.ann.src ≠ a.src))).take 4 } }

theorem ptpAnnounce_eq {s : State} {a : PtpAnnounce} (hm : s.ptpMode ≠ 0) (hs : a.steps < 255) (hi : a.src / 65536 ≠ s.clockId) :
    ptpAnnounce a s = (announceKept s a).bmca :=
  if_neg fun h => h.elim hm fun h => h.elim (fun h => Nat.not_le_of_lt hs h) hi

/-- Without a foreign master there is none to select. -/
theorem bmca_none {s : State} (h : s.ptp.foreign = []) : s.bmca = s := by
  unfold State.bmca
  rw [h]
  rfl

/-- The instant of the Announce timeout. -/
def announceLimit (s : State) : Nat :=
  s.ptp.annAt + s.ptpByte 7 * logNs (match s.ptp.foreign.find? (fun f => s.ptp.sel = some f.ann.src) with
    | some f => f.ann.logInt | none => sint 8 (s.ptpByte 6))

/-- No master selected any more, and those timed out forgotten. -/
def masterLost (s : State) (t : Nat) : State :=
  { s.toMono t with ptp := { (s.toMono t).ptp with sel := none, annAt := (s.toMono t).mono, foreign := (s.toMono t).ptp.foreign.filter (fun f => (s.toMono t).qualified f) } }

/-- What a clock without a selected master becomes. -/
def lostBecomes (s : State) : State :=
  if s.fld Reg.PTP_STAT_STATE = 5 then s
  else if (s.ptpState 0).bmca.ptp.sel.isNone ∧ (s.ptpState 0).bmca.ptpMode = 2 then
    ((s.ptpState 0).bmca.setGm (s.ptpState 0).bmca.clockId).ptpState 4
  else (s.ptpState 0).bmca

theorem ptpAnnounceTimeout_eq {s : State} (hm : s.ptpMode ≠ 0) (h4 : s.fld Reg.PTP_STAT_STATE ≠ 4) :
    ptpAnnounceTimeout s = lostBecomes (masterLost s (announceLimit s)) := by
  unfold ptpAnnounceTimeout
  rw [if_neg fun h => h.elim hm h4]
  rfl

theorem ptpMode_of {s t : State} (h1 : t.img = s.img) (h2 : t.ptp.ended = s.ptp.ended) : t.ptpMode = s.ptpMode := by
  unfold State.ptpMode State.ptpTag
  rw [h1, h2]

theorem setGm_within (s : State) (gm : Nat) : Within 4294968581 s (s.setGm gm) := State_setGm_within rfl .refl

theorem ptpState_ended (s : State) (st : Nat) : (s.ptpState st).ptp.ended = s.ptp.ended := by rw [ptpState_runs s st]

theorem lostBecomes_within (s : State) : Within 4294968581 s (lostBecomes s) :=
  .ite (fun _ => .refl) fun _ => .ite (fun _ => State_ptpState_within rfl (State_setGm_within rfl (State_bmca_within rfl (State_ptpState_within rfl .refl))))
    fun _ => State_bmca_within rfl (State_ptpState_within rfl .refl)

/-- With no foreign master left the clock becomes its own master where it may, else it is unlocked. -/
theorem lostBecomes_alone {s : State} (h5 : s.fld Reg.PTP_STAT_STATE ≠ 5) (hf : s.ptp.foreign = []) (hs : s.ptp.sel = none) :
    (lostBecomes s).ptp.sel = none ∧ (lostBecomes s).fld Reg.PTP_STAT_STATE = if s.ptpMode = 2 then 4 else 0 := by
  obtain ⟨hf0, hs0⟩ := ptpState_foreign s 0
  have hb : (s.ptpState 0).bmca = s.ptpState 0 := bmca_none (hf0.trans hf)
  have hmode : (s.ptpState 0).ptpMode = s.ptpMode := ptpMode_of ((ptpState_within s 0).img_eq (by decide)) (ptpState_ended s 0)
  unfold lostBecomes
  rw [if_neg h5, hb, hmode]
  by_cases h2 : s.ptpMode = 2
  · rw [if_pos ⟨by rw [hs0, hs]; rfl, h2⟩, if_pos h2]
    exact ⟨(ptpState_foreign _ _).2.trans ((setGm_foreign _ _).2.trans (hs0.trans hs)), ptpState_state _ (by decide)⟩
  · rw [if_neg fun h => h2 h.2, if_neg h2]
    exact ⟨hs0.trans hs, ptpState_state _ (by decide)⟩

theorem masterLost_regs (s : State) (t : Nat) : (masterLost s t).regs = s.regs := toMono_regs s t
theorem toMono_ptp (s : State) (n : Nat) : (s.toMono n).ptp = s.ptp := (toMono_within s n).ptp_eq (by decide)
theorem toMono_img (s : State) (n : Nat) : (s.toMono n).img = s.img := (toMono_within s n).img_eq (by decide)

theorem masterLost_foreign {s : State} (h : s.ptp.foreign = []) (t : Nat) : (masterLost s t).ptp.foreign = [] := by
  have h' : (s.toMono t).ptp.foreign = [] := by rw [toMono_ptp, h]
  unfold masterLost
  generalize s.toMono t = u at h'
  show u.ptp.foreign.filter _ = []
  rw [h']
  rfl

theorem masterLost_mode (s : State) (t : Nat) : (masterLost s t).ptpMode = s.ptpMode := by
  have h := ptpMode_of (toMono_img s t) (congrArg Ptp.ended (toMono_ptp s t))
  unfold masterLost
  generalize s.toMono t = u at h
  exact h

/-! ### Messages sent (R427, R430) -/

theorem ptpDelayReq_eq {s : State} (hm : s.ptpMode ≠ 0) (hs : s.ptp.sel.isSome = true) (h4 : s.fld Reg.PTP_STAT_STATE ≠ 4) (bd : Nat) (lost : Bool) :
    ∃ u : State, Within 137438953472 s u ∧ ptpDelayReq bd lost s =
      (({ u with ptp := { u.ptp with seqDelay := (s.ptp.seqDelay + 1) % 65536, req := if lost then none else some (s.ptp.seqDelay, 4096 * s.egressTime 0 bd) } } :
        State)).tsLost 0 true lost := by
  refine ⟨s.hostSend 0 (s.ptpFrame true (s.ptpHeader 1 44 s.ptp.seqDelay 1 0x7F ++ ptpStamp 0)), State_hostSend_within rfl .refl, ?_⟩
  refine if_neg fun h => h.elim hm fun h => h.elim (fun h => ?_) h4
  rw [Option.isNone_iff_eq_none.1 h] at hs
  exact Bool.false_ne_true hs

theorem tsLost_ptp (s : State) (p : Nat) (e lost : Bool) : (s.tsLost p e lost).ptp = s.ptp := by
  unfold State.tsLost
  split
  · exact raise_ptp _ _ _ _
  · rfl

theorem tsLost_mem (s : State) (p : Nat) (e lost : Bool) : (s.tsLost p e lost).mem = s.mem := by
  unfold State.tsLost
  split
  · exact raise_mem _ _ _ _
  · rfl

theorem tsLost_told (s : State) (p : Nat) (e : Bool) : (s.tsLost p e true).told 215 (p + 256 * b2n e) 0 := raise_told _ (by decide) (by decide) _ _

theorem sends_outbox (b : List Byte) : ∀ (l : List Nat) (s : State), (l.foldl (fun s q => s.send (.eth q b)) s).outbox = s.outbox ++ l.map (fun q => .eth q b)
  | [], s => (List.append_nil _).symm
  | q :: l, s => (sends_outbox b l _).trans (by simp [State.send])

/-- A frame of the host goes out of every port of the ring that passes it. -/
theorem hostSend_ring {s : State} {q : Nat} (b : List Byte) (hq : q < 2) (hp : s.passes 3 q = true) : .eth q b ∈ (s.hostSend 0 b).outbox := by
  unfold State.hostSend
  rw [if_neg (by decide), sends_outbox]
  exact List.mem_append_right _ (List.mem_map.2 ⟨q, List.mem_filter.2 ⟨List.mem_range.2 hq, hp⟩, rfl⟩)

theorem hostSend_within (s : State) (p : Nat) (b : List Byte) : Within 137438953472 s (s.hostSend p b) := State_hostSend_within rfl .refl

theorem ptpSyncSend_eq {s : State} (hm : s.ptpMode ≠ 0) (h4 : s.fld Reg.PTP_STAT_STATE = 4) (bd : Nat) : ∃ f, ptpSyncSend bd s =
    { s.hostSend 0 f with ptp := { (s.hostSend 0 f).ptp with seqSync := (s.ptp.seqSync + 1) % 65536 } } :=
  ⟨_, if_neg fun h => h.elim hm fun h => h h4⟩

theorem ptpAnnounceSend_eq {s : State} (hm : s.ptpMode ≠ 0) (h4 : s.fld Reg.PTP_STAT_STATE = 4) : ∃ f, ptpAnnounceSend s =
    { s.hostSend 0 f with ptp := { (s.hostSend 0 f).ptp with seqAnn := (s.ptp.seqAnn + 1) % 65536 } } :=
  ⟨_, if_neg fun h => h.elim hm fun h => h h4⟩

/-- Settles O44: the clock as a follower, its base under software, and the clock as a master. -/
theorem preciseTime : Obligations.PreciseTime := by
  unfold Obligations.PreciseTime
  constructor
  · intro s x a src n orig corr c t1 t2 t3 lost bd hm
    refine ⟨fun hs h4 => ⟨fun h2 => ?twoStep, fun h2 => ?oneStep⟩, fun hs => next_eq (if_pos (Or.inr (Or.inl hs))), fun hs h2 => ?followUp,
      fun hsteps hi => ?announce, fun hi => next_eq (if_pos (Or.inr (Or.inr hi))), fun h4 h5 hf => ?noAnnounce, fun h2 => ?noSync,
      fun hy hq hs => ?delayResp, fun hs h4 => ?delayReq⟩
    case twoStep => exact ⟨_, next_eq ((ptpSync_acts hm hs h4).trans (if_pos h2)), rfl, rfl, rfl⟩
    case oneStep =>
      have he := (ptpSync_acts hm hs h4).trans (if_neg (by rw [h2]; exact Bool.false_ne_true))
      exact ⟨_, next_eq he, (syncOffset_ptp _ _ _).1, syncOffset_offset _ _ _, syncOffset_mem _ _ _,
        fun h1 hr hl hmax => syncOffset_locks (s := syncNoted s x none) h1 hr hl hmax⟩
    case followUp =>
      obtain ⟨h1, h3⟩ := syncOffset_ptp ({ s with ptp := { s.ptp with twoStep := none } } : State) (65536 * orig + c + corr) t2
      exact ⟨_, next_eq (ptpFollowUp_eq hm hs h2), h3, h1, syncOffset_mem _ _ _⟩
    case announce =>
      refine ⟨_, next_eq (ptpAnnounce_eq hm hsteps hi), ?_, (bmca_within _).mem_eq (by decide)⟩
      rw [bmca_foreign]
      exact ⟨_, List.mem_cons_self, rfl, rfl⟩
    case noAnnounce =>
      have hst : (masterLost s (announceLimit s)).fld Reg.PTP_STAT_STATE = s.fld Reg.PTP_STAT_STATE := fld_of_regs (masterLost_regs _ _) _
      obtain ⟨h1, h2⟩ := lostBecomes_alone (by rw [hst]; exact h5) (masterLost_foreign hf (announceLimit s)) rfl
      rw [masterLost_mode] at h2
      exact ⟨_, next_eq (ptpAnnounceTimeout_eq hm h4), h1, h2, ((lostBecomes_within _).mem_eq (by decide)).trans (toMono_mem s (announceLimit s))⟩
    case noSync =>
      have hst := (toMono_fld s (s.ptp.syncAt + 4 * s.ptp.syncInt) Reg.PTP_STAT_STATE).trans h2
      have ht := ptpState_told (s := s.toMono (s.ptp.syncAt + 4 * s.ptp.syncInt)) (st := 3) (by rw [hst]; decide) (by decide)
      have hw := ptpState_within (s.toMono (s.ptp.syncAt + 4 * s.ptp.syncInt)) 3
      rw [hst] at ht
      refine ⟨_, next_eq (if_pos h2), ptpState_state _ (by decide), ht, ?_, (hw.mem_eq (by decide)).trans (toMono_mem _ _)⟩
      rw [hw.mono_eq (by decide)]
      exact le_toMono_mono _ _
    case delayResp =>
      refine ⟨_, next_eq (ptpDelayResp_eq hm hs hy hq), rfl, rfl, fld_setFld_of_lt _ ?_ (by decide)⟩
      exact Nat.lt_of_le_of_lt (Nat.min_le_left _ _) (by decide)
    case delayReq =>
      obtain ⟨u, hu, he⟩ := ptpDelayReq_eq hm hs h4 bd lost
      refine ⟨_, next_eq he, by rw [tsLost_ptp], by rw [tsLost_ptp], ?_, ?_⟩
      · rintro rfl
        exact tsLost_told _ 0 true
      · rw [tsLost_mem]
        exact hu.mem_eq (by decide)
  · intro s m w bd q hm
    refine ⟨?addend, fun hk h0 hp => ?refused, fun hk h0 hr hd => ?stepped, fun hk => next_eq (ptpStep_noKey hm hk s), fun hmode h4 => ⟨?sync, ?announce⟩,
      fun h4 => ⟨next_eq (if_pos (Or.inr h4)), next_eq (if_pos (Or.inr h4))⟩⟩
    case addend =>
      refine ⟨_, next_eq (if_pos (mayWriteRegs_of_isPair hm)), setAddend_addend s w.toNat, (setAddend_within _ _).mem_eq (by decide),
        fun h => setAddend_clamped fun he => ?_, fun h1 h2 => setAddend_kept (clampAddend_eq_self.2 ⟨h1, h2⟩)⟩
      obtain ⟨h1, h2⟩ := clampAddend_eq_self.1 he
      omega
    case refused =>
      refine ⟨_, next_eq ((ptpStep_key hm hk h0 s).trans (if_pos hp)), ?_, raise_told _ (by decide) (by decide) _ _, ?_⟩
      · rw [raise_flag _ (by decide) (by decide)]
        exact flag_setFlag_same _ _ _ (by decide) (by decide)
      · rw [raise_now]
        rfl
    case stepped => exact ⟨_, next_eq ((ptpStep_key hm hk h0 s).trans (if_neg fun h => h.elim hr hd)), rfl, rfl, rfl⟩
    case sync =>
      obtain ⟨f, he⟩ := ptpSyncSend_eq hmode h4 bd
      have hw := hostSend_within s 0 f
      have hptp : (s.hostSend 0 f).ptp.seqAnn = s.ptp.seqAnn := congrArg Ptp.seqAnn (hw.ptp_eq (by decide))
      exact ⟨_, f, next_eq he, rfl, hptp, hw.regs_eq (by decide), fun hq hp => hostSend_ring f hq hp⟩
    case announce =>
      obtain ⟨f, he⟩ := ptpAnnounceSend_eq hmode h4
      have hw := hostSend_within s 0 f
      have hptp : (s.hostSend 0 f).ptp.seqSync = s.ptp.seqSync := congrArg Ptp.seqSync (hw.ptp_eq (by decide))
      exact ⟨_, f, next_eq he, rfl, hptp, hw.regs_eq (by decide), fun hq hp => hostSend_ring f hq hp⟩

end Sys2Proof.Proofs

/-! The host data port (04, R109, R110): single accesses and bursts. -/

namespace Sys2Proof.Proofs
open Sys2Proof Sys2Proof.Machine Sys2Proof.Laws

/-! ### The rules of an access -/

/-- A range's check rests on the range and on whether the station is in HALT. -/
theorem portCheck_congr {s t : State} (h : t.inHalt = s.inHalt) (a n z : Nat) (wr : Bool) : t.portCheck a n z wr = s.portCheck a n z wr := by
  have hm : t.portMayWrite a = s.portMayWrite a := by
    unfold State.portMayWrite
    rw [h]
  unfold State.portCheck
  rw [hm]

theorem inHalt_of_fld {s t : State} (h : t.fld Reg.CPM_STAT_PSTATE = s.fld Reg.CPM_STAT_PSTATE) : t.inHalt = s.inHalt := by
  unfold State.inHalt
  rw [h]

theorem memEcc_clean (s : State) (a m : Nat) : s.memEcc a m .clean = s := by
  unfold State.memEcc
  split
  · rfl
  · split <;> rfl

theorem portStops_clean (a z : Nat) (wr : Bool) : portStops a z wr .clean = false := rfl

theorem portFinds_clean (z : Nat) (wr : Bool) : portFinds z wr .clean = .clean := by
  unfold portFinds
  split <;> rfl

/-- The bits of HDP_STAT that show errors lie between DONE and XFER. -/
theorem errField_place (e : PortErr) : e.field.addr = Reg.HDP_STAT ∧ e.field.width = 1 ∧ 2 ≤ e.field.lo ∧ e.field.lo ≤ 5 := by
  cases e <;> decide

theorem busError_flag (s : State) (m x : Nat) {f : Field} (hf : f.addr = Reg.HDP_STAT) : (s.busError m x).flag f = s.flag f :=
  flag_of_fld (fld_of_reg (busError_reg _ _ _ (by rw [hf]; decide)))

theorem busError_hdpTold {s : State} (m x : Nat) (h : s.told 13 0 0) : (s.busError m x).told 13 0 0 :=
  (told_raise_ne (by decide) (by decide) (by decide) (by decide)).2 h

theorem hdpErr_flag (s : State) (e : PortErr) : (s.hdpErr e.field).flag e.field = true := by
  obtain ⟨ha, hw, _, hl⟩ := errField_place e
  unfold State.hdpErr
  rw [raise_flag _ (by decide) (by rw [ha]; decide)]
  exact flag_setFlag_same _ _ _ hw (by omega)

theorem hdpErr_told (s : State) (f : Field) : (s.hdpErr f).told 13 0 0 := raise_told _ (by decide) (by decide) _ _

theorem hdpErr_reg (s : State) (e : PortErr) {x : Nat} (hq : eventTouches x = false) (hx : x ≠ Reg.HDP_STAT) : (s.hdpErr e.field).reg x = s.reg x := by
  obtain ⟨ha, _⟩ := errField_place e
  unfold State.hdpErr
  rw [raise_reg _ (by decide) hq]
  exact reg_setFlag_ne _ _ (by rwa [ha])

/-- An access that is not performed shows its error, tells EV_HDP_ERR and leaves the port's other registers. -/
theorem portFail_after (s : State) (e : PortErr) (a : Nat) : (s.portFail e a).flag e.field = true ∧ (s.portFail e a).told 13 0 0 ∧
    ∀ x, eventTouches x = false → x ≠ Reg.HDP_STAT → (s.portFail e a).reg x = s.reg x := by
  unfold State.portFail
  dsimp only
  split
  · exact ⟨(busError_flag _ _ _ (errField_place e).1).trans (hdpErr_flag s e), busError_hdpTold _ _ (hdpErr_told s _),
      fun x hq hx => (busError_reg _ _ _ hq).trans (hdpErr_reg s e hq hx)⟩
  · exact ⟨hdpErr_flag s e, hdpErr_told s _, fun x hq hx => hdpErr_reg s e hq hx⟩

theorem hdpFail_after (s : State) (e : PortErr) (a : Nat) : (s.hdpFail e a).flag e.field = true ∧ (s.hdpFail e a).told 13 0 0 ∧
    ∀ x, eventTouches x = false → x ≠ Reg.HDP_STAT → (s.hdpFail e a).reg x = s.reg x := by
  obtain ⟨hf, ht, hr⟩ := portFail_after s e a
  unfold State.hdpFail
  dsimp only
  split
  · exact ⟨(busError_flag _ _ _ (errField_place e).1).trans hf, busError_hdpTold _ _ ht, fun x hq hx => (busError_reg _ _ _ hq).trans (hr x hq hx)⟩
  · exact ⟨hf, ht, hr⟩

theorem portFail_within (s : State) (e : PortErr) (a : Nat) : Within 1413 s (s.portFail e a) := State_portFail_within rfl .refl

theorem hdpFail_within (s : State) (e : PortErr) (a : Nat) : Within 1413 s (s.hdpFail e a) := State_hdpFail_within rfl .refl

theorem portRead_memory (s : State) {a : Nat} (z : Nat) (h : isWindow a = false) :
    s.portRead a z = (s, (List.range z).map (fun i => s.busByte (a + i))) := if_neg (by simp [h])

theorem portWrite_memory (s : State) {a : Nat} (bs : List Byte) (h : isWindow a = false) : s.portWrite a bs = s.wrBytes a bs := if_neg (by simp [h])

/-! ### Single accesses (R109) -/

/-- Where HDP_ADDR stands after a performed access. -/
def nextAddr (s : State) : Nat :=
  if s.flag Reg.HDP_CTRL_INC then (s.fld Reg.HDP_ADDR_ADDR + s.hdpSize) % 2 ^ 32 else s.fld Reg.HDP_ADDR_ADDR

theorem hdpAdvance_addr (s : State) : s.hdpAdvance.fld Reg.HDP_ADDR_ADDR = nextAddr s := by
  unfold State.hdpAdvance nextAddr
  split
  · exact fld_setFld_same s Reg.HDP_ADDR_ADDR (s.fld Reg.HDP_ADDR_ADDR + s.hdpSize) (by decide)
  · rfl

theorem hdpAdvance_mem (s : State) : s.hdpAdvance.mem = s.mem := by
  unfold State.hdpAdvance
  split <;> rfl

/-- The place of the next access rests on HDP_ADDR and HDP_CTRL. -/
theorem nextAddr_congr {s t : State} (h1 : t.reg Reg.HDP_ADDR = s.reg Reg.HDP_ADDR) (h2 : t.reg Reg.HDP_CTRL = s.reg Reg.HDP_CTRL) :
    nextAddr t = nextAddr s := by
  have hi : t.flag Reg.HDP_CTRL_INC = s.flag Reg.HDP_CTRL_INC := flag_of_fld (fld_of_reg h2)
  have ha : t.fld Reg.HDP_ADDR_ADDR = s.fld Reg.HDP_ADDR_ADDR := fld_of_reg h1
  have hz : t.hdpSize = s.hdpSize := congrArg (2 ^ ·) (fld_of_reg (f := Reg.HDP_CTRL_SIZE) h2)
  unfold nextAddr
  rw [hi, ha, hz]

/-- What a performed read leaves before HDP_ADDR moves on: the data in HDP_DATA and, for 8 bytes, HDP_DATAH. -/
def dataShown (s : State) (v : Nat) : State :=
  if s.hdpSize = 8 then (s.setReg Reg.HDP_DATA (BitVec.ofNat 32 v)).setReg Reg.HDP_DATAH (BitVec.ofNat 32 (v / 2 ^ 32))
  else s.setReg Reg.HDP_DATA (BitVec.ofNat 32 v)

theorem dataShown_reg (s : State) (v : Nat) {x : Nat} (h1 : x ≠ Reg.HDP_DATA) (h2 : x ≠ Reg.HDP_DATAH) : (dataShown s v).reg x = s.reg x := by
  unfold dataShown
  split
  · rw [reg_setReg_ne _ _ h2, reg_setReg_ne _ _ h1]
  · exact reg_setReg_ne _ _ h1

theorem dataShown_mem (s : State) (v : Nat) : (dataShown s v).mem = s.mem := by
  unfold dataShown
  split <;> rfl

/-- The bytes of the word at HDP_ADDR as the bus shows them, as a number. -/
def busWord (s : State) : Nat := leNat ((List.range s.hdpSize).map (fun i => s.busByte (s.fld Reg.HDP_ADDR_ADDR + i)))

theorem hdpDataRead_performed {s : State} {m : Master} (hm : m.isPair = true)
    (hc : s.portCheck (s.fld Reg.HDP_ADDR_ADDR) s.hdpSize s.hdpSize false = none) (hw : isWindow (s.fld Reg.HDP_ADDR_ADDR) = false) :
    hdpDataRead m .clean s = (dataShown s (busWord s)).hdpAdvance.ret m.num (busWord s) := by
  unfold hdpDataRead
  simp only [hc, memEcc_clean, portRead_memory _ _ hw]
  exact if_neg fun h => h hm

theorem hdpDataRead_failed {s : State} {m : Master} {e : PortErr} (hm : m.isPair = true)
    (hc : s.portCheck (s.fld Reg.HDP_ADDR_ADDR) s.hdpSize s.hdpSize false = some e) : ∃ v,
    hdpDataRead m .clean s = (s.hdpFail e (s.fld Reg.HDP_ADDR_ADDR)).draw.ret m.num v := by
  unfold hdpDataRead
  simp only [hc]
  exact ⟨_, if_neg fun h => h hm⟩

/-- The word that a write stores: HDP_DATAH above the data written. -/
def busData (s : State) (w : Word) : Nat := w.toNat + 2 ^ 32 * (s.reg Reg.HDP_DATAH).toNat

/-- What a single write makes of its word, by the answer of its check. -/
def writeOutcome (s : State) (v : Nat) : Option PortErr → State
  | some e => s.hdpFail e (s.fld Reg.HDP_ADDR_ADDR)
  | none => (s.portWrite (s.fld Reg.HDP_ADDR_ADDR) (leBytes s.hdpSize v)).hdpAdvance

theorem hdpDataWrite_eq {s : State} {m : Master} {w : Word} (hm : m.isPair = true) : hdpDataWrite m w .clean s =
    writeOutcome (s.setReg Reg.HDP_DATA w) (busData s w) (s.portCheck (s.fld Reg.HDP_ADDR_ADDR) s.hdpSize s.hdpSize true) := by
  have hc : (s.setReg Reg.HDP_DATA w).portCheck (s.fld Reg.HDP_ADDR_ADDR) s.hdpSize s.hdpSize true =
      s.portCheck (s.fld Reg.HDP_ADDR_ADDR) s.hdpSize s.hdpSize true := portCheck_congr (inHalt_of_fld (fld_setReg_ne _ _ (by decide))) _ _ _ _
  have ha : (s.setReg Reg.HDP_DATA w).fld Reg.HDP_ADDR_ADDR = s.fld Reg.HDP_ADDR_ADDR := fld_setReg_ne _ _ (by decide)
  have hz : (s.setReg Reg.HDP_DATA w).hdpSize = s.hdpSize := congrArg (2 ^ ·) (fld_setReg_ne (f := Reg.HDP_CTRL_SIZE) s w (by decide))
  have hh : (s.setReg Reg.HDP_DATA w).reg Reg.HDP_DATAH = s.reg Reg.HDP_DATAH := reg_setReg_ne _ _ (by decide)
  unfold hdpDataWrite writeOutcome busData
  rw [if_neg (fun h => h (mayWriteRegs_of_isPair hm)), if_neg (fun h => h hm)]
  simp only [hc, ha, hz, hh, portFinds_clean, memEcc_clean]
  rfl

theorem writeOutcome_none {s : State} (v : Nat) (h : isWindow (s.fld Reg.HDP_ADDR_ADDR) = false) :
    writeOutcome s v none = (s.wrBytes (s.fld Reg.HDP_ADDR_ADDR) (leBytes s.hdpSize v)).hdpAdvance := by
  rw [← portWrite_memory _ _ h]
  rfl

/-! ### Bursts (R110) -/

/-- The words of a burst: the count of HDP_CTRL, 256 for 0 and above. -/
def burstCount (w : Word) : Nat := if wordField w 8 9 = 0 ∨ 256 < wordField w 8 9 then 256 else wordField w 8 9

theorem burstCount_lt (w : Word) : burstCount w < 2 ^ 9 := by
  unfold burstCount
  split <;> omega

theorem wordField_bit (w : Word) (i : Nat) : decide (wordField w i 1 = 1) = w.getLsbD i := by
  have h : w.getLsbD i = (wordField w i 1).testBit 0 := by
    unfold wordField
    rw [BitVec.testBit_toNat, BitVec.getLsbD_extractLsb']
    simp
  rw [h, Nat.testBit_zero]
  have := wordField_lt w i 1
  congr 1
  apply propext
  omega

/-- What a write of HDP_CTRL leaves in the registers that GO reads. -/
theorem hdpCtrlSet_reads (s : State) (w : Word) : (s.hdpCtrlSet w).hdpSize = 2 ^ wordField w 0 2 ∧ (s.hdpCtrlSet w).fld Reg.HDP_CTRL_COUNT = burstCount w ∧
    (s.hdpCtrlSet w).flag Reg.HDP_CTRL_DIR = w.getLsbD 3 ∧ ∀ x, x ≠ Reg.HDP_CTRL → (s.hdpCtrlSet w).reg x = s.reg x := by
  have he : s.hdpCtrlSet w = (((s.setFld Reg.HDP_CTRL_SIZE (wordField w 0 2)).setFld Reg.HDP_CTRL_INC (wordField w 2 1)).setFld Reg.HDP_CTRL_DIR
      (wordField w 3 1)).setFld Reg.HDP_CTRL_COUNT (burstCount w) := rfl
  rw [he]
  refine ⟨?size, fld_setFld_of_lt _ (burstCount_lt w) (by decide), ?dir, fun x hx => ?_⟩
  case size =>
    unfold State.hdpSize
    rw [fld_setFld_other _ _ (by decide) (by decide), fld_setFld_other _ _ (by decide) (by decide), fld_setFld_other _ _ (by decide) (by decide),
      fld_setFld_of_lt _ (wordField_lt w 0 2) (by decide)]
  case dir =>
    unfold State.flag
    rw [fld_setFld_other _ _ (by decide) (by decide), fld_setFld_of_lt _ (wordField_lt w 3 1) (by decide)]
    exact wordField_bit w 3
  rw [reg_setFld_ne _ _ hx, reg_setFld_ne _ _ hx, reg_setFld_ne _ _ hx, reg_setFld_ne _ _ hx]

/-- What GO makes of a burst, by the answer of its check. -/
def goOutcome (s : State) (b : HdpBurst) : Option PortErr → State
  | some e => ((s.portFail e b.addr).setFld Reg.HDP_STAT_XFER 0).setFlag Reg.HDP_STAT_DONE true
  | none => { s.setFlag Reg.HDP_STAT_BUSY true with hdp := some b }

/-- The burst that HDP_ADDR and HDP_CTRL describe. -/
def burstSet (s : State) : HdpBurst := ⟨s.fld Reg.HDP_ADDR_ADDR, s.hdpSize, s.fld Reg.HDP_CTRL_COUNT, s.flag Reg.HDP_CTRL_DIR⟩

theorem hdpGo_eq (s : State) : s.hdpGo = goOutcome s (burstSet s)
    (s.portCheck (s.fld Reg.HDP_ADDR_ADDR) (s.fld Reg.HDP_CTRL_COUNT * s.hdpSize) s.hdpSize (s.flag Reg.HDP_CTRL_DIR)) := by
  unfold State.hdpGo goOutcome burstSet
  rfl

theorem hdpCtrl_go {s : State} {m : Master} {w : Word} (hm : m.isPair = true) (hg : w.getLsbD 4 = true) (hb : s.flag Reg.HDP_STAT_BUSY = false) :
    hdpCtrl m w s = (s.hdpCtrlSet w).hdpGo := by
  unfold hdpCtrl
  rw [if_neg (fun h => h (mayWriteRegs_of_isPair hm)), if_neg (fun h => by simp [hb] at h), if_pos hg]

theorem hdpCtrl_busy {s : State} {m : Master} {w : Word} (hm : m.isPair = true) (hg : w.getLsbD 4 = true) (hb : s.flag Reg.HDP_STAT_BUSY = true) :
    hdpCtrl m w s = s := by
  unfold hdpCtrl
  rw [if_neg (fun h => h (mayWriteRegs_of_isPair hm)), if_pos ⟨hg, hb⟩]

/-- The moved words of a writing burst lie in memory, and nothing else has changed. -/
theorem burstMove_writes {b : HdpBurst} (hb : b.write = true) : ∀ (n i : Nat) (s : State),
    (∀ j, i ≤ j → j < i + n → isWindow (b.addr + b.size * j) = false) → ∃ μ, s.burstMove b i n = { s with mem := μ } ∧
      (∀ j, i ≤ j → j < i + n → (s.burstMove b i n).bytes (b.addr + b.size * j) b.size = s.bufGet j b.size) ∧
      (∀ x, (x < b.addr + b.size * i ∨ b.addr + b.size * (i + n) ≤ x) → (s.burstMove b i n).byte x = s.byte x) := by
  intro n
  induction n with
  | zero => exact fun i s _ => ⟨s.mem, rfl, fun j h1 h2 => absurd h2 (by omega), fun x _ => rfl⟩
  | succ n ih =>
    intro i s hwin
    have hl : (s.bufGet i b.size).length = b.size := leBytes_length _ _
    have hstep : s.burstMove b i (n + 1) = (s.wrBytes (b.addr + b.size * i) (s.bufGet i b.size)).burstMove b (i + 1) n := by
      rw [← portWrite_memory s _ (hwin i (by omega) (by omega))]
      show (if b.write = true then _ else _ : State).burstMove b (i + 1) n = _
      rw [if_pos hb]
    obtain ⟨μ, he, hin, hout⟩ := ih (i + 1) (s.wrBytes (b.addr + b.size * i) (s.bufGet i b.size)) fun j h1 h2 => hwin j (by omega) (by omega)
    rw [hstep]
    have hmul : b.size * (i + 1) = b.size * i + b.size := Nat.mul_succ _ _
    have hmono : b.size * (i + 1) ≤ b.size * (i + 1 + n) := Nat.mul_le_mul_left _ (by omega)
    refine ⟨μ, he, fun j h1 h2 => ?_, fun x hx => ?_⟩
    · by_cases hj : j = i
      · subst hj
        have hsame := bytes_wrBytes_same s (b.addr + b.size * j) (s.bufGet j b.size)
        rw [hl] at hsame
        refine Eq.trans (bytes_congr fun k hk => ?_) hsame
        exact hout _ (Or.inl (by omega))
      · exact hin j (by omega) (by omega)
    · have heq : i + (n + 1) = i + 1 + n := by omega
      rw [heq] at hx
      rw [hout x (by omega)]
      exact byte_wrBytes_out s _ (by omega)

/-- The burst that a write of HDP_CTRL starts. -/
def burstOf (s : State) (w : Word) : HdpBurst := ⟨s.fld Reg.HDP_ADDR_ADDR, 2 ^ wordField w 0 2, burstCount w, w.getLsbD 3⟩

theorem burstSet_hdpCtrlSet (s : State) (w : Word) : burstSet (s.hdpCtrlSet w) = burstOf s w := by
  obtain ⟨hsize, hcount, hdir, hreg⟩ := hdpCtrlSet_reads s w
  have ha : (s.hdpCtrlSet w).fld Reg.HDP_ADDR_ADDR = s.fld Reg.HDP_ADDR_ADDR := fld_of_reg (hreg _ (by decide))
  unfold burstSet burstOf
  rw [hsize, hcount, hdir, ha]

/-- What GO of a write of HDP_CTRL checks. -/
theorem hdpBurst_starts {s : State} {m : Master} {w : Word} {c : Option PortErr} (hm : m.isPair = true) (hg : w.getLsbD 4 = true)
    (hb : s.flag Reg.HDP_STAT_BUSY = false)
    (hc : s.portCheck (s.fld Reg.HDP_ADDR_ADDR) (burstCount w * 2 ^ wordField w 0 2) (2 ^ wordField w 0 2) (w.getLsbD 3) = c) :
    hdpCtrl m w s = goOutcome (s.hdpCtrlSet w) (burstOf s w) c := by
  obtain ⟨hsize, hcount, hdir, hreg⟩ := hdpCtrlSet_reads s w
  have ha : (s.hdpCtrlSet w).fld Reg.HDP_ADDR_ADDR = s.fld Reg.HDP_ADDR_ADDR := fld_of_reg (hreg _ (by decide))
  have hh : (s.hdpCtrlSet w).inHalt = s.inHalt := inHalt_of_fld (fld_of_reg (hreg _ (by decide)))
  rw [hdpCtrl_go hm hg hb, hdpGo_eq, hsize, hcount, hdir, ha, portCheck_congr hh, hc, burstSet_hdpCtrlSet]

theorem hdpCtrlSet_mem (s : State) (w : Word) : (s.hdpCtrlSet w).mem = s.mem := rfl

theorem hdpCtrlSet_hdp (s : State) (w : Word) : (s.hdpCtrlSet w).hdp = s.hdp := rfl

/-- The end of a burst whose words all moved. -/
def burstEnded (s : State) (b : HdpBurst) : State :=
  (((s.setFld Reg.HDP_ADDR_ADDR (b.addr + b.size * b.count)).setFld Reg.HDP_STAT_XFER b.count).setFlag Reg.HDP_STAT_BUSY false).setFlag
    Reg.HDP_STAT_DONE true

theorem hdpBurstDone_clean {s : State} {b : HdpBurst} (h : s.hdp = some b) (g : Nat) :
    hdpBurstDone .clean g s = burstEnded (({ s with hdp := none } : State).burstMove b 0 b.count) b := by
  unfold hdpBurstDone
  simp only [h, portStops_clean, portFinds_clean, memEcc_clean]
  rfl

theorem hdpBurstDone_none {s : State} (h : s.hdp = none) (e : Ecc) (g : Nat) : hdpBurstDone e g s = s := by
  unfold hdpBurstDone
  simp only [h]

theorem burstEnded_shows (s : State) {b : HdpBurst} (hc : b.count ≤ 256) : (burstEnded s b).flag Reg.HDP_STAT_BUSY = false ∧
    (burstEnded s b).flag Reg.HDP_STAT_DONE = true ∧ (burstEnded s b).fld Reg.HDP_STAT_XFER = b.count ∧
    (burstEnded s b).fld Reg.HDP_ADDR_ADDR = (b.addr + b.size * b.count) % 2 ^ 32 := by
  unfold burstEnded
  refine ⟨?busy, flag_setFlag_same _ _ _ (by decide) (by decide), ?xfer, ?addr⟩
  case busy =>
    rw [flag_setFlag_other _ _ (by decide) (by decide)]
    exact flag_setFlag_same _ _ _ (by decide) (by decide)
  case xfer =>
    rw [fld_setFlag_other _ _ (by decide) (by decide), fld_setFlag_other _ _ (by decide) (by decide)]
    exact fld_setFld_of_lt _ (Nat.lt_of_le_of_lt hc (by decide)) (by decide)
  case addr =>
    rw [fld_setFlag_addr _ _ (by decide), fld_setFlag_addr _ _ (by decide), fld_setFld_addr _ _ (by decide)]
    exact fld_setFld_same _ _ _ (by decide)

theorem burstEnded_mem (s : State) (b : HdpBurst) : (burstEnded s b).mem = s.mem := rfl

theorem burstEnded_hdp (s : State) (b : HdpBurst) : (burstEnded s b).hdp = s.hdp := rfl

theorem goOutcome_starts (s : State) (b : HdpBurst) : (goOutcome s b none).hdp = some b ∧ (goOutcome s b none).flag Reg.HDP_STAT_BUSY = true ∧
    (goOutcome s b none).mem = s.mem := ⟨rfl, flag_setFlag_same s _ _ (by decide) (by decide), rfl⟩

theorem goOutcome_fails (s : State) (b : HdpBurst) (e : PortErr) : (goOutcome s b (some e)).hdp = s.hdp ∧ (goOutcome s b (some e)).flag e.field = true ∧
    (goOutcome s b (some e)).flag Reg.HDP_STAT_DONE = true ∧ (goOutcome s b (some e)).mem = s.mem := by
  have hw := portFail_within s e b.addr
  obtain ⟨hf, _⟩ := portFail_after s e b.addr
  obtain ⟨_, hwidth, hlo, hhi⟩ := errField_place e
  have h1 : Reg.HDP_STAT_DONE.lo + Reg.HDP_STAT_DONE.width = 2 := by decide
  have h2 : Reg.HDP_STAT_XFER.lo = 16 := by decide
  unfold goOutcome
  refine ⟨?_, ?_, flag_setFlag_same _ _ _ (by decide) (by decide), ?_⟩
  · rw [setFlag_hdp, setFld_hdp, hw.hdp_eq (by decide)]
  · rw [flag_setFlag_other _ _ (by omega) (by omega), flag_setFld_other _ _ (by omega) (by omega)]
    exact hf
  · rw [setFlag_mem, setFld_mem, hw.mem_eq (by decide)]

theorem writeOutcome_some (s : State) (v : Nat) (e : PortErr) : writeOutcome s v (some e) = s.hdpFail e (s.fld Reg.HDP_ADDR_ADDR) := rfl

/-- The data register takes the data of a single write; the access's place and size stand. -/
theorem dataTaken_reads (s : State) (w : Word) : (s.setReg Reg.HDP_DATA w).fld Reg.HDP_ADDR_ADDR = s.fld Reg.HDP_ADDR_ADDR ∧
    (s.setReg Reg.HDP_DATA w).hdpSize = s.hdpSize ∧ nextAddr (s.setReg Reg.HDP_DATA w) = nextAddr s :=
  ⟨fld_setReg_ne _ _ (by decide), congrArg (2 ^ ·) (fld_setReg_ne (f := Reg.HDP_CTRL_SIZE) s w (by decide)),
    nextAddr_congr (reg_setReg_ne _ _ (by decide)) (reg_setReg_ne _ _ (by decide))⟩

theorem nextAddr_of_regs {s t : State} (h : t.regs = s.regs) : nextAddr t = nextAddr s :=
  nextAddr_congr (reg_of_regs_eq h _) (reg_of_regs_eq h _)

/-- Settles O46: single accesses, failed ranges, and bursts of the host data port. -/
theorem hostDataPort : Obligations.HostDataPort := by
  unfold Obligations.HostDataPort
  intro s m w e b g hm
  refine ⟨fun hc hw => ?read, fun hc => ?readFails, fun hc hw => ?write, fun hc => ?writeFails, fun hg hb hc => ?go, fun hg hb hc => ?goFails,
    fun hg hb => next_eq (hdpCtrl_busy hm hg hb), fun h hwr hcount hwin => ?burst, fun h => next_eq (hdpBurstDone_none h _ _)⟩
  case read =>
    refine ⟨_, next_eq (hdpDataRead_performed hm hc hw), returned_ret _ _ _, ?_, (hdpAdvance_mem _).trans (dataShown_mem _ _)⟩
    refine (hdpAdvance_addr (dataShown s (busWord s))).trans (nextAddr_congr ?_ ?_)
    · exact dataShown_reg _ _ (by decide) (by decide)
    · exact dataShown_reg _ _ (by decide) (by decide)
  case readFails =>
    obtain ⟨v, he⟩ := hdpDataRead_failed hm hc
    obtain ⟨hf, ht, hr⟩ := hdpFail_after s e (s.fld Reg.HDP_ADDR_ADDR)
    exact ⟨_, next_eq he, hf, ht, fld_of_reg (hr _ (by decide) (by decide)), (hdpFail_within _ _ _).mem_eq (by decide)⟩
  case write =>
    obtain ⟨ha, hz, hn⟩ := dataTaken_reads s w
    have he := hdpDataWrite_eq (s := s) (w := w) hm
    rw [hc, writeOutcome_none _ (by rw [ha]; exact hw), ha, hz] at he
    have hbytes := bytes_wrBytes_same (s.setReg Reg.HDP_DATA w) (s.fld Reg.HDP_ADDR_ADDR) (leBytes s.hdpSize (busData s w))
    rw [leBytes_length] at hbytes
    refine ⟨_, next_eq he, ?_, ?_, fun x hx => ?_⟩
    · exact (bytes_congr fun i _ => byte_of_mem (hdpAdvance_mem _) _).trans hbytes
    · exact (hdpAdvance_addr _).trans ((nextAddr_of_regs (wrBytes_regs _ _ _)).trans hn)
    · rw [byte_of_mem (hdpAdvance_mem _)]
      exact byte_wrBytes_out _ _ (by rw [leBytes_length]; exact hx)
  case writeFails =>
    obtain ⟨ha, _⟩ := dataTaken_reads s w
    have he := hdpDataWrite_eq (s := s) (w := w) hm
    rw [hc, writeOutcome_some, ha] at he
    obtain ⟨hf, ht, hr⟩ := hdpFail_after (s.setReg Reg.HDP_DATA w) e (s.fld Reg.HDP_ADDR_ADDR)
    exact ⟨_, next_eq he, hf, ht, (fld_of_reg (hr _ (by decide) (by decide))).trans ha,
      ((hdpFail_within _ _ _).mem_eq (by decide)).trans (setReg_mem _ _ _)⟩
  case go =>
    obtain ⟨hhdp, hbusy, hmem⟩ := goOutcome_starts (s.hdpCtrlSet w) (burstOf s w)
    exact ⟨_, next_eq (hdpBurst_starts hm hg hb hc), hhdp, hbusy, hmem.trans (hdpCtrlSet_mem s w)⟩
  case goFails =>
    obtain ⟨hhdp, hf, hdone, hmem⟩ := goOutcome_fails (s.hdpCtrlSet w) (burstOf s w) e
    exact ⟨_, next_eq (hdpBurst_starts hm hg hb hc), hhdp.trans (hdpCtrlSet_hdp s w), hf, hdone, hmem.trans (hdpCtrlSet_mem s w)⟩
  case burst =>
    obtain ⟨μ, he, hin, hout⟩ := burstMove_writes hwr b.count 0 { s with hdp := none } fun j _ hj => hwin j (by omega)
    obtain ⟨hbusy, hdone, hxfer, haddr⟩ := burstEnded_shows (({ s with hdp := none } : State).burstMove b 0 b.count) hcount
    refine ⟨_, next_eq (hdpBurstDone_clean h g), ?_, hbusy, hdone, hxfer, haddr, fun i hi => ?_, fun x hx => ?_⟩
    · rw [burstEnded_hdp, he]
    · exact (bytes_congr fun k _ => byte_of_mem (burstEnded_mem _ _) _).trans (hin i (Nat.zero_le i) (by omega))
    · exact (byte_of_mem (burstEnded_mem _ _) _).trans (hout x (by simpa using hx))

end Sys2Proof.Proofs

/-! The front panel's updates, its frame buffers and the Confirm key (20, R366). -/

namespace Sys2Proof.Proofs
open Sys2Proof Sys2Proof.Machine Sys2Proof.Laws

/-! ### The update record (R508) -/

theorem pnlShowRec_reg (s : State) {x : Nat} (h : x ≠ Reg.PNL_REC) : s.pnlShowRec.reg x = s.reg x := by
  unfold State.pnlShowRec
  split
  · exact reg_setReg_ne _ _ h
  · exact reg_setReg_ne _ _ h

theorem pnlRecord_within (s : State) (b : List Byte) : Within 3 s (s.pnlRecord b) := State_pnlRecord_within rfl .refl

theorem pnlRecord_reg (s : State) (b : List Byte) {x : Nat} (h : x ≠ Reg.PNL_REC) : (s.pnlRecord b).reg x = s.reg x :=
  (pnlShowRec_reg _ h).trans (reg_of_regs_eq ((copyWrite_within s _ _ _).regs_eq (by decide)) x)

theorem pnlRecord_pnl (s : State) (b : List Byte) : (s.pnlRecord b).pnl = s.pnl := (pnlRecord_within s b).pnl_eq (by decide)

theorem pnlRecord_stat (s : State) (b : List Byte) : (s.pnlRecord b).reg Reg.PNL_STAT = s.reg Reg.PNL_STAT := pnlRecord_reg s b (by decide)

/-! ### Requests (R499, R502, R513) -/

theorem pnlCtrl_keyed {m : Master} {w : Word} (hm : m.isPair = true) (hk : wordField w 8 8 = 0xB4) (s : State) : pnlCtrl m w s =
    let t := if w.getLsbD 0 then s.pnlRequest s.pnlRegion else s
    if w.getLsbD 1 then ({ t with pnl := { t.pnl with full := true } }).setFlag Reg.PNL_STAT_RECOV true else t := by
  unfold pnlCtrl
  rw [if_neg (fun h => h (mayWriteRegs_of_isPair hm)), if_neg (fun h => h hk)]

theorem pnlCtrl_noKey {m : Master} {w : Word} (hm : m.isPair = true) (hk : wordField w 8 8 ≠ 0xB4) (s : State) : pnlCtrl m w s = s := by
  unfold pnlCtrl
  rw [if_neg (fun h => h (mayWriteRegs_of_isPair hm)), if_pos hk]

theorem pnlCtrl_update {m : Master} {w : Word} (hm : m.isPair = true) (hk : wordField w 8 8 = 0xB4) (h0 : w.getLsbD 0 = true) (h1 : w.getLsbD 1 = false)
    (s : State) : pnlCtrl m w s = s.pnlRequest s.pnlRegion := by
  rw [pnlCtrl_keyed hm hk]
  dsimp only
  rw [if_pos h0, if_neg (Bool.eq_false_iff.1 h1)]

theorem pnlCtrl_full {m : Master} {w : Word} (hm : m.isPair = true) (hk : wordField w 8 8 = 0xB4) (h0 : w.getLsbD 0 = false) (h1 : w.getLsbD 1 = true)
    (s : State) : pnlCtrl m w s = ({ s with pnl := { s.pnl with full := true } } : State).setFlag Reg.PNL_STAT_RECOV true := by
  rw [pnlCtrl_keyed hm hk]
  dsimp only
  rw [if_neg (Bool.eq_false_iff.1 h0), if_pos h1]

theorem pnlRequest_pend_none {s : State} (h : s.pnl.pend = none) (r : PnlRect) : (s.pnlRequest r).pnl.pend = some r := by
  unfold State.pnlRequest
  rw [h]

theorem pnlRequest_pend_some {s : State} {p : PnlRect} (h : s.pnl.pend = some p) (r : PnlRect) : (s.pnlRequest r).pnl.pend = some (p.bound r) := by
  unfold State.pnlRequest
  rw [h]

/-! ### Running an update (R502, R506, R509) -/

/-- The panel driver busy with a run, its rails raised and no frame ended. -/
def runBegun (s : State) (p : Panel) : State :=
  ((({ s with pnl := p } : State).setFlag Reg.PNL_STAT_BUSY true).setFlag Reg.PNL_STAT_RAILS true).setFld Reg.PNL_STAT_FRAME 0

theorem runBegun_shows (s : State) (p : Panel) : (runBegun s p).flag Reg.PNL_STAT_BUSY = true ∧ (runBegun s p).flag Reg.PNL_STAT_RAILS = true ∧
    (runBegun s p).fld Reg.PNL_STAT_FRAME = 0 := by
  unfold runBegun
  refine ⟨?_, ?_, fld_setFld_of_lt _ (by decide) (by decide)⟩
  · rw [flag_setFld_other _ _ (by decide) (by decide), flag_setFlag_other _ _ (by decide) (by decide)]
    exact flag_setFlag_same _ _ _ (by decide) (by decide)
  · rw [flag_setFld_other _ _ (by decide) (by decide)]
    exact flag_setFlag_same _ _ _ (by decide) (by decide)

/-- A run that begins: its rectangle, band and levels latched, the driver busy with its rails raised and no frame ended. -/
theorem pnlRun_begins (s : State) (r : PnlRect) (clearing recovery whole : Bool) (count : Int) : ∃ q,
    (s.pnlRun r clearing recovery whole count).pnl = { s.pnl with run := some q, pend := if recovery then s.pnl.pend else none } ∧
    q.rect = r ∧ q.levels = s.pnl.back ∧ q.band = s.fld Reg.PNL_STAT_BAND ∧ q.recovery = recovery ∧
    (s.pnlRun r clearing recovery whole count).flag Reg.PNL_STAT_BUSY = true ∧
    (s.pnlRun r clearing recovery whole count).flag Reg.PNL_STAT_RAILS = true ∧
    (s.pnlRun r clearing recovery whole count).fld Reg.PNL_STAT_FRAME = 0 := by
  obtain ⟨b, hb⟩ : ∃ b, s.pnlRun r clearing recovery whole count = (runBegun s { s.pnl with
      run := some ⟨r, s.fld Reg.PNL_STAT_BAND, s.pnl.back, clearing, count.natAbs, count, recovery, whole, s.mono⟩,
      pend := if recovery then s.pnl.pend else none }).pnlRecord b := ⟨_, rfl⟩
  rw [hb]
  obtain ⟨hbusy, hrails, hframe⟩ := runBegun_shows s { s.pnl with
      run := some ⟨r, s.fld Reg.PNL_STAT_BAND, s.pnl.back, clearing, count.natAbs, count, recovery, whole, s.mono⟩,
      pend := if recovery then s.pnl.pend else none }
  refine ⟨_, pnlRecord_pnl _ _, rfl, rfl, rfl, rfl, ?_, ?_, ?_⟩
  · exact (flag_of_fld (fld_of_reg (pnlRecord_stat _ _))).trans hbusy
  · exact (flag_of_fld (fld_of_reg (pnlRecord_stat _ _))).trans hrails
  · exact (fld_of_reg (pnlRecord_stat _ _)).trans hframe

theorem pnlUpdateStart_runs {s : State} {r : PnlRect} (hf : s.pnlFree = true) (hg : s.frontGood = true) (hr : s.flag Reg.PNL_STAT_RECOV = false)
    (hp : s.pnl.pend = some r) : pnlUpdateStart s = s.pnlRun r false false false 0 := by
  unfold pnlUpdateStart
  dsimp only
  rw [if_pos ⟨hf, Or.inl (by rw [hp]; exact Option.some_ne_none r)⟩, if_pos hg, if_neg (Bool.eq_false_iff.1 hr)]
  simp only [hp]

theorem pnlUpdateStart_waits {s : State} (hf : s.pnlFree = false) : pnlUpdateStart s = s := if_neg fun h => by simp [hf] at h

/-- The recovery that waits: its run, after the report of an update cut short. -/
theorem pnlRecover_runs (s : State) : ∃ r whole count, s.pnlRecover = s.pnlRun r true true whole count ∨
    s.pnlRecover = (s.raise 247 0 0).pnlRun r true true whole count := by
  unfold State.pnlRecover
  dsimp only
  split
  · exact ⟨_, _, _, Or.inr rfl⟩
  · exact ⟨_, _, _, Or.inl rfl⟩

theorem pnlRecover_begins (s : State) : ∃ q, s.pnlRecover.pnl.run = some q ∧ q.recovery = true ∧ s.pnlRecover.flag Reg.PNL_STAT_BUSY = true ∧
    s.pnlRecover.pnl.pend = s.pnl.pend := by
  have key : ∀ (u : State), u.pnl = s.pnl → ∀ r whole count, ∃ q, (u.pnlRun r true true whole count).pnl.run = some q ∧ q.recovery = true ∧
      (u.pnlRun r true true whole count).flag Reg.PNL_STAT_BUSY = true ∧ (u.pnlRun r true true whole count).pnl.pend = s.pnl.pend := by
    intro u hu r whole count
    obtain ⟨q, hq, _, _, _, hrec, hbusy, _⟩ := pnlRun_begins u r true true whole count
    refine ⟨q, by rw [hq], hrec, hbusy, ?_⟩
    rw [hq, ← hu]
    rfl
  obtain ⟨r, whole, count, he | he⟩ := pnlRecover_runs s
  · rw [he]
    exact key s rfl r whole count
  · rw [he]
    exact key _ (raise_pnl _ _ _ _) r whole count

theorem pnlFrame_ends {s : State} {q : PnlRun} (h : s.pnl.run = some q) (hk : s.fld Reg.PNL_STAT_FRAME < q.frames) : pnlFrame s =
    (s.toMono (q.boundary (s.fld Reg.PNL_STAT_FRAME + 1))).setFld Reg.PNL_STAT_FRAME (s.fld Reg.PNL_STAT_FRAME + 1) := by
  unfold pnlFrame
  simp only [h]
  exact if_pos hk

/-- The driver at rest with its rails down. -/
def runOver (s : State) : State := (s.setFlag Reg.PNL_STAT_BUSY false).setFlag Reg.PNL_STAT_RAILS false

theorem runOver_shows (s : State) : (runOver s).flag Reg.PNL_STAT_BUSY = false ∧ (runOver s).flag Reg.PNL_STAT_RAILS = false := by
  unfold runOver
  refine ⟨?_, flag_setFlag_same _ _ _ (by decide) (by decide)⟩
  rw [flag_setFlag_other _ _ (by decide) (by decide)]
  exact flag_setFlag_same _ _ _ (by decide) (by decide)

theorem runOver_reg (s : State) {x : Nat} (h : x ≠ Reg.PNL_STAT) : (runOver s).reg x = s.reg x :=
  (reg_setFlag_ne _ _ h).trans (reg_setFlag_ne _ _ h)

theorem runOver_pnl (s : State) : (runOver s).pnl = s.pnl := rfl

/-- The driver without a run. -/
def runGone (s : State) : State := { s with pnl := { s.pnl with run := none } }

theorem runGone_front (s : State) : (runGone s).pnl.front = s.pnl.front := rfl

theorem pnlRailFail_update {s : State} {q : PnlRun} (h : s.pnl.run = some q) (h0 : s.fld Reg.PNL_STAT_FRAME = 0) (hr : q.recovery = false) :
    ∃ b, pnlRailFail s = ((runGone ((runOver s).pnlRecord b)).pnlRequest q.rect).raise 246 0 0 := by
  unfold pnlRailFail
  simp only [h]
  rw [if_pos h0, if_neg (Bool.eq_false_iff.1 hr)]
  exact ⟨_, rfl⟩

theorem pnlRequest_pnl (s : State) (r : PnlRect) : (s.pnlRequest r).pnl.pend.isSome = true ∧ (s.pnlRequest r).pnl.run = s.pnl.run ∧
    (s.pnlRequest r).pnl.front = s.pnl.front ∧ (s.pnlRequest r).regs = s.regs := ⟨rfl, rfl, rfl, rfl⟩

/-! ### The end of an update (R498, R502, R506, R509) -/

/-- FRONT with the latched levels of the rectangle, and its check value. -/
def frontTaken (s : State) (q : PnlRun) : State :=
  let t := ({ s with pnl := { s.pnl with run := none, front := pnlMix q.rect s.pnl.front q.levels } } : State)
  t.setFld Reg.PNL_FCRC_CRC t.frontCrc

theorem frontCrc_of_pnl {s t : State} (h : t.pnl = s.pnl) : t.frontCrc = s.frontCrc := by
  unfold State.frontCrc
  rw [h]

theorem frontGood_congr {s t : State} (h : t.pnl = s.pnl) (hr : t.reg Reg.PNL_FCRC = s.reg Reg.PNL_FCRC) : t.frontGood = s.frontGood := by
  unfold State.frontGood
  rw [frontCrc_of_pnl h, fld_of_reg (f := Reg.PNL_FCRC_CRC) hr]

theorem crc32c_lt (b : List Byte) : crc32c b < 2 ^ 32 := BitVec.isLt _

/-- A stored check value of FRONT matches it. -/
theorem frontGood_stored (s : State) : (s.setFld Reg.PNL_FCRC_CRC s.frontCrc).frontGood = true := by
  unfold State.frontGood
  rw [fld_setFld_of_lt _ (crc32c_lt _) (by decide)]
  exact decide_eq_true (frontCrc_of_pnl rfl)

theorem frontTaken_good (s : State) (q : PnlRun) : (frontTaken s q).frontGood = true := frontGood_stored _

theorem frontTaken_pnl (s : State) (q : PnlRun) :
    (frontTaken s q).pnl = { s.pnl with run := none, front := pnlMix q.rect s.pnl.front q.levels } := rfl

theorem frontTaken_reg (s : State) (q : PnlRun) {x : Nat} (h : x ≠ Reg.PNL_FCRC) : (frontTaken s q).reg x = s.reg x := reg_setFld_ne _ _ h

/-- What a commit leaves before it reports. -/
def committed (s : State) (q : PnlRun) (b : List Byte) : State := runOver ((frontTaken s q).pnlRecord b)

theorem committed_reg (s : State) (q : PnlRun) (b : List Byte) {x : Nat} (h1 : x ≠ Reg.PNL_FCRC) (h2 : x ≠ Reg.PNL_REC) (h3 : x ≠ Reg.PNL_STAT) :
    (committed s q b).reg x = s.reg x := by
  unfold committed
  rw [runOver_reg _ h3, pnlRecord_reg _ _ h2, frontTaken_reg _ _ h1]

theorem committed_pnl (s : State) (q : PnlRun) (b : List Byte) : (committed s q b).pnl = (frontTaken s q).pnl :=
  (runOver_pnl _).trans (pnlRecord_pnl _ _)

theorem committed_good (s : State) (q : PnlRun) (b : List Byte) : (committed s q b).frontGood = true := by
  rw [frontGood_congr (committed_pnl s q b) ((runOver_reg _ (by decide)).trans (pnlRecord_reg _ _ (by decide)))]
  exact frontTaken_good s q

theorem pnlCommit_update {s : State} {q : PnlRun} (h : s.pnl.run = some q) (hk : q.frames ≤ s.fld Reg.PNL_STAT_FRAME) (hr : q.recovery = false) :
    ∃ b, pnlCommit s = ((committed s q b).bump Reg.PNL_UPDCNT_COUNT Reg.PNL_UPDCNT_SAT).raise 240 ((committed s q b).reg Reg.PNL_RGN0).toNat
      ((committed s q b).reg Reg.PNL_RGN1).toNat := by
  unfold pnlCommit
  simp only [h]
  rw [if_neg (Nat.not_lt.2 hk)]
  unfold State.pnlReport
  rw [if_neg (Bool.eq_false_iff.1 hr)]
  exact ⟨_, rfl⟩

/-! ### The check of FRONT and the temperature (R499, R504, R505) -/

theorem pnlBadCrc_tells (s : State) : s.pnlBadCrc.flag Reg.PNL_STAT_RECOV = true ∧ s.pnlBadCrc.told 243 0 0 := by
  unfold State.pnlBadCrc
  refine ⟨?_, raise_told _ (by decide) (by decide) _ _⟩
  rw [raise_flag _ (by decide) (by decide)]
  exact flag_setFlag_same _ _ _ (by decide) (by decide)

/-- The temperature and its band shown. -/
def tempShown (s : State) (t : Int) : State :=
  (s.setFld Reg.PNL_STAT_TEMP (unsint 8 (satInt 8 t))).setFld Reg.PNL_STAT_BAND
    (bandAt t (s.fld Reg.PNL_STAT_BAND))

/-- Whether updates are deferred at a temperature, where they were or were not before. -/
def defers (was : Bool) (t : Int) : Bool := if was then decide (t < -13) else decide (t < -15)

theorem tempShown_defer (s : State) (t : Int) : (tempShown s t).flag Reg.PNL_STAT_DEFER = s.flag Reg.PNL_STAT_DEFER := by
  unfold tempShown
  rw [flag_setFld_other _ _ (by decide) (by decide), flag_setFld_other _ _ (by decide) (by decide)]

theorem tempShown_temp (s : State) (t : Int) : (tempShown s t).fld Reg.PNL_STAT_TEMP = unsint 8 (satInt 8 t) := by
  have hlt : unsint 8 (satInt 8 t) < 2 ^ Reg.PNL_STAT_TEMP.width := by
    show unsint 8 (satInt 8 t) < 2 ^ 8
    unfold unsint
    omega
  unfold tempShown
  rw [fld_setFld_other _ _ (by decide) (by decide)]
  exact fld_setFld_of_lt _ hlt (by decide)

theorem pnlTemp_eq (t : Int) (s : State) : pnlTemp t s =
    if (tempShown s t).flag Reg.PNL_STAT_DEFER = defers ((tempShown s t).flag Reg.PNL_STAT_DEFER) t then tempShown s t
    else ((tempShown s t).setFlag Reg.PNL_STAT_DEFER (defers ((tempShown s t).flag Reg.PNL_STAT_DEFER) t)).raise 244
      (b2n (defers ((tempShown s t).flag Reg.PNL_STAT_DEFER) t)) 0 := by
  unfold pnlTemp defers tempShown
  rfl

theorem pnlTemp_same {s : State} {t : Int} (h : s.flag Reg.PNL_STAT_DEFER = defers (s.flag Reg.PNL_STAT_DEFER) t) : pnlTemp t s = tempShown s t := by
  rw [← tempShown_defer s t] at h
  rw [pnlTemp_eq, if_pos h]

theorem pnlTemp_changed {s : State} {t : Int} (h : s.flag Reg.PNL_STAT_DEFER ≠ defers (s.flag Reg.PNL_STAT_DEFER) t) : pnlTemp t s =
    ((tempShown s t).setFlag Reg.PNL_STAT_DEFER (defers (s.flag Reg.PNL_STAT_DEFER) t)).raise 244 (b2n (defers (s.flag Reg.PNL_STAT_DEFER) t)) 0 := by
  rw [← tempShown_defer s t] at h ⊢
  rw [pnlTemp_eq, if_neg h]

theorem pnlTemp_shows (s : State) (t : Int) : (pnlTemp t s).fld Reg.PNL_STAT_TEMP = unsint 8 (satInt 8 t) ∧
    (pnlTemp t s).flag Reg.PNL_STAT_DEFER = defers (s.flag Reg.PNL_STAT_DEFER) t ∧ (pnlTemp t s).mem = s.mem := by
  by_cases h : s.flag Reg.PNL_STAT_DEFER = defers (s.flag Reg.PNL_STAT_DEFER) t
  · rw [pnlTemp_same h]
    exact ⟨tempShown_temp s t, (tempShown_defer s t).trans h, rfl⟩
  · rw [pnlTemp_changed h]
    refine ⟨?_, ?_, raise_mem _ _ _ _⟩
    · rw [raise_fld _ (by decide) (by decide), fld_setFlag_other _ _ (by decide) (by decide)]
      exact tempShown_temp s t
    · rw [raise_flag _ (by decide) (by decide)]
      exact flag_setFlag_same _ _ _ (by decide) (by decide)

theorem defers_cold {t : Int} (was : Bool) (h : t < -15) : defers was t = true := by
  cases was
  · exact decide_eq_true h
  · exact decide_eq_true (by omega)

theorem defers_warm {t : Int} (was : Bool) (h : -13 ≤ t) : defers was t = false := by
  cases was
  · exact decide_eq_false (by omega)
  · exact decide_eq_false (by omega)

/-! ### The frame buffer (R498, R513) -/

/-- The offset of the next access by a pair. -/
def offsetOn (s : State) (o : Nat) : State := s.setFld Reg.PNL_FBADDR_OFFSET (if o + 4 < 48000 then o + 4 else 0)

theorem offsetOn_offset (s : State) {o : Nat} (h : o + 4 < 48000) : (offsetOn s o).fld Reg.PNL_FBADDR_OFFSET = o + 4 := by
  unfold offsetOn
  rw [if_pos h]
  exact fld_setFld_of_lt _ (Nat.lt_trans h (by decide)) (by decide)

theorem offsetOn_rest (s : State) (o : Nat) : (offsetOn s o).pnl = s.pnl ∧ (offsetOn s o).mem = s.mem ∧ (offsetOn s o).rdata = s.rdata := ⟨rfl, rfl, rfl⟩

theorem pnlFbdata_read {m : Master} (hm : m.isPair = true) (s : State) :
    pnlFbdata m none s = offsetOn (s.ret m.num s.pnlWord) (s.fld Reg.PNL_FBADDR_OFFSET) := if_pos hm

theorem pnlFbdata_front {m : Master} (hm : m.isPair = true) {s : State} (w : Word) (hb : s.flag Reg.PNL_FBADDR_BUF = true) :
    pnlFbdata m (some w) s = offsetOn s (s.fld Reg.PNL_FBADDR_OFFSET) := by
  unfold pnlFbdata
  dsimp only
  rw [if_neg (fun h => h (mayWriteRegs_of_isPair hm)), if_pos hb]
  exact if_pos hm

/-- BACK with a word written at an offset. -/
def backWritten (s : State) (o : Nat) (w : Word) : State := { s with pnl := { s.pnl with back := imgWrite s.pnl.back o (leBytes 4 w.toNat) } }

theorem pnlFbdata_back {m : Master} (hm : m.isPair = true) {s : State} (w : Word) (hb : s.flag Reg.PNL_FBADDR_BUF = false) :
    pnlFbdata m (some w) s = offsetOn (backWritten s (s.fld Reg.PNL_FBADDR_OFFSET) w) (s.fld Reg.PNL_FBADDR_OFFSET) := by
  unfold pnlFbdata
  dsimp only
  rw [if_neg (fun h => h (mayWriteRegs_of_isPair hm)), if_neg (Bool.eq_false_iff.1 hb)]
  exact if_pos hm

theorem imgBytes_imgWrite (l : List Host.Cell) (a : Nat) (bs : List Byte) : imgBytes (imgWrite l a bs) a bs.length = bs := by
  apply List.ext_getElem
  · simp [imgBytes]
  · intro i h1 h2
    simp only [imgBytes, List.getElem_map, List.getElem_range]
    exact Sparse.get_setMany_in _ bs _ a i h2

theorem imgByte_imgWrite_out (l : List Host.Cell) {a k : Nat} (bs : List Byte) (h : k < a ∨ a + bs.length ≤ k) :
    imgByte (imgWrite l a bs) k = imgByte l k := Sparse.get_setMany_out _ bs _ h

/-! ### Posts of the host half (05, R139) -/

/-- What a post leaves: the registers outside the mailboxes and the events, what other sources have told, and the unit's state but for its waking. -/
structure MailKept (s t : State) : Prop where
  reg : ∀ x, x < 0x40024000 ∨ 0x40025000 ≤ x → eventTouches x = false → t.reg x = s.reg x
  told : ∀ n lo hi, n < 256 → n < 64 ∨ 96 ≤ n → n ≠ 232 → s.told n lo hi → t.told n lo hi
  stat : ∀ f : Field, f.addr = Reg.CPM_STAT → f.lo + f.width ≤ 32 → f.lo + f.width ≤ 2 ∨ 5 ≤ f.lo → t.fld f = s.fld f
  same : SameCpm s t

theorem MailKept.refl {s : State} : MailKept s s := ⟨fun _ _ _ => rfl, fun _ _ _ _ _ _ h => h, fun _ _ _ _ => rfl, .refl _⟩

theorem MailKept.trans {s t u : State} (h : MailKept s t) (g : MailKept t u) : MailKept s u :=
  ⟨fun x hx hq => (g.reg x hx hq).trans (h.reg x hx hq), fun n lo hi hn hd he ht => g.told n lo hi hn hd he (h.told n lo hi hn hd he ht),
    fun f ha hw hd => (g.stat f ha hw hd).trans (h.stat f ha hw hd), h.same.trans g.same⟩

theorem MailKept.ite {c : Prop} [Decidable c] {s t u : State} (h : MailKept s t) (g : MailKept s u) : MailKept s (if c then t else u) := by
  split
  · exact h
  · exact g

theorem MailKept.of_eq {s t : State} (h : t.regs = s.regs) (hc : t.cpm = s.cpm) : MailKept s t :=
  ⟨fun x _ _ => reg_of_regs_eq h x, fun _ _ _ _ _ _ ht => (told_of_regs h).2 ht, fun f _ _ _ => fld_of_regs h f, .of_eq hc⟩

theorem setReg_mailKept (s : State) {a : Nat} (w : Word) (h : 0x40024000 ≤ a) (h' : a < 0x40025000) : MailKept s (s.setReg a w) :=
  ⟨fun x hx _ => reg_setReg_ne _ _ (by omega), fun _ _ _ hn _ _ ht => (told_setReg hn (by omega)).2 ht,
    fun f ha _ _ => fld_setReg_ne _ _ (by rw [ha]; unfold Reg.CPM_STAT; omega), .of_eq rfl⟩

theorem setFlag_mailKept (s : State) {f : Field} (b : Bool) (h : 0x40024000 ≤ f.addr) (h' : f.addr < 0x40025000) : MailKept s (s.setFlag f b) :=
  setReg_mailKept s _ h h'

theorem raise_mailKept (s : State) {n : Nat} (h : 64 ≤ n) (h' : n < 96) (lo hi : Nat) : MailKept s (s.raise n lo hi) :=
  ⟨fun _ _ hq => raise_reg _ (by omega) hq, fun _ _ _ hk _ he ht => (told_raise_ne (by omega) hk he (by omega)).2 ht,
    fun _ ha hw hd => raise_cpm _ (by omega) ha hw hd, raise_same _ _ _ _⟩

theorem rimSend_mailKept (s : State) (f : RimFrame) : MailKept s (s.rimSend f) := .of_eq rfl rfl

theorem mbxAttn_mailKept (s : State) {m : Nat} : MailKept s (s.mbxAttn m) := by
  have hp : s.fld (Reg.MBX_CFG_SND m) < 2 ^ 2 := fld_lt _ _
  unfold State.mbxAttn
  dsimp only
  split
  · exact .refl
  · refine (setFlag_mailKept s true ?_ ?_).trans (raise_mailKept _ (by omega) (by omega) _ _)
    · unfold Reg.MBX_ATTN; dsimp only; omega
    · unfold Reg.MBX_ATTN; dsimp only; omega

theorem stageToRx_mailKept {m : Nat} (hm : m < 24) : ∀ (ws : List Nat) (s : State), (∀ w ∈ ws, w < 8) → MailKept s (s.stageToRx m ws)
  | [], s, _ => .refl
  | w :: ws, s, h => by
    have hw : w < 8 := h w List.mem_cons_self
    refine (setReg_mailKept s _ ?_ ?_).trans (stageToRx_mailKept hm ws _ fun x hx => h x (List.mem_cons_of_mem _ hx))
    · unfold Reg.MBX_RX; omega
    · unfold Reg.MBX_RX; omega

theorem stage_mailKept {m : Nat} (hm : m < 24) : ∀ (xs : List Word) (w : Nat) (s : State), w + xs.length ≤ 8 → MailKept s (s.stage m w xs)
  | [], w, s, _ => .refl
  | x :: xs, w, s, h => by
    have hl : (x :: xs).length = xs.length + 1 := rfl
    refine (setReg_mailKept s _ ?_ ?_).trans (stage_mailKept hm xs (w + 1) _ (by omega))
    · unfold Reg.MBX_TX; omega
    · unfold Reg.MBX_TX; omega

theorem mbxAccept_mailKept (s : State) {m : Nat} (hm : m < 24) (len tag : Nat) : MailKept s (s.mbxAccept m len tag) := by
  unfold State.mbxAccept
  extract_lets g s1 s2 s3 mbx s4
  have h1 : MailKept s s1 := stageToRx_mailKept hm _ s fun w hw => List.mem_range.1 hw
  have h2 : MailKept s1 s2 := setReg_mailKept s1 _ (by unfold Reg.MBX_RXHDR; omega) (by unfold Reg.MBX_RXHDR; omega)
  have h3 : MailKept s2 s3 := setFlag_mailKept s2 true (by unfold Reg.MBX_STAT_FULL Reg.MBX_STAT; dsimp only; omega)
    (by unfold Reg.MBX_STAT_FULL Reg.MBX_STAT; dsimp only; omega)
  clear_value s1 s2 s3
  have h4 : MailKept s3 s4 := .of_eq rfl rfl
  clear_value s4
  exact (((h1.trans h2).trans h3).trans h4).trans (.ite (rimSend_mailKept _ _) (raise_mailKept _ (by omega) (by omega) _ _))

theorem hostPost_mailKept (s : State) {m : Nat} (hm : m < 24) (tag : Nat) (b : List Byte) : MailKept s (s.hostPost m tag b) := by
  unfold State.hostPost
  dsimp only
  split
  · refine (setFlag_mailKept s true ?_ ?_).trans (mbxAttn_mailKept _)
    · unfold Reg.MBX_STAT_COLL Reg.MBX_STAT; dsimp only; omega
    · unfold Reg.MBX_STAT_COLL Reg.MBX_STAT; dsimp only; omega
  · exact (stage_mailKept hm _ _ _ (by simp)).trans (mbxAccept_mailKept _ hm _ _)

/-! ### The key (R366, R512) -/

theorem armRequest_within (s : State) : Within 34359743749 s s.armRequest := State_armRequest_within rfl .refl

theorem armRequest_reg (s : State) {x : Nat} (hx : x < 0x40024000 ∨ 0x40025000 ≤ x) (hq : eventTouches x = false) (ha : x ≠ Reg.SAF_STAT) :
    s.armRequest.reg x = s.reg x := by
  have hp : ∀ b, ((s.setFlag Reg.SAF_STAT_ARMED true).hostPost 18 0 b).reg x = s.reg x := fun b =>
    ((hostPost_mailKept _ (by decide) _ _).reg x hx hq).trans (reg_setFlag_ne _ _ ha)
  unfold State.armRequest
  dsimp only
  split
  · split
    · exact hp _
    · exact (raise_reg _ (by decide) hq).trans (hp _)
  · rfl

theorem armRequest_told {s : State} {n lo hi : Nat} (hn : n < 256) (hd : n < 64 ∨ 96 ≤ n) (h232 : n ≠ 232) (h168 : n ≠ 168) (h : s.told n lo hi) :
    s.armRequest.told n lo hi := by
  have hp : ∀ b, ((s.setFlag Reg.SAF_STAT_ARMED true).hostPost 18 0 b).told n lo hi := fun b =>
    (hostPost_mailKept _ (by decide) _ _).told n lo hi hn hd h232 ((told_setFlag hn (by decide)).2 h)
  unfold State.armRequest
  dsimp only
  split
  · split
    · exact hp _
    · exact (told_raise_ne (by decide) hn h232 h168).2 (hp _)
  · exact h

theorem showWindow_reg (s : State) {x : Nat} (h1 : x ≠ Reg.SAF_STAT) (h2 : x ≠ Reg.SAF_CONFT) : s.showWindow.reg x = s.reg x := by
  unfold State.showWindow
  split
  · exact (reg_setReg_ne _ _ h2).trans (reg_setFlag_ne _ _ h1)
  · exact (reg_setReg_ne _ _ h2).trans (reg_setFlag_ne _ _ h1)

theorem showConf_reg (s : State) {x : Nat} (h1 : x ≠ Reg.SAF_STAT) (h2 : x ≠ Reg.SAF_CONF) (h3 : x ≠ Reg.SAF_CONFOLD) :
    s.showConf.reg x = s.reg x :=
  (reg_setFlag_ne _ _ h1).trans ((reg_setReg_ne _ _ h3).trans (reg_setReg_ne _ _ h2))

theorem showWindow_within (s : State) : Within 1 s s.showWindow := State_showWindow_within rfl .refl

theorem showConf_within (s : State) : Within 1 s s.showConf := State_showConf_within rfl .refl

/-- The key's press closes the confirmation window, tells the value, and leaves PNL_KEY. -/
theorem confirmPress_closes (s : State) (v : Nat) : (s.confirmPress v).reg Reg.PNL_KEY = s.reg Reg.PNL_KEY ∧ (s.confirmPress v).told 166 v 0 ∧
    (s.confirmPress v).saf.window = none := by
  unfold State.confirmPress
  extract_lets old s1 was saf s2 s3
  have hreg1 : s1.reg Reg.PNL_KEY = s.reg Reg.PNL_KEY := reg_of_regs_eq ((copyWrite_within s _ _ _).regs_eq (by decide)) _
  have hreg2 : s2.reg Reg.PNL_KEY = s1.reg Reg.PNL_KEY := by
    refine (raise_reg _ (by decide) (by decide)).trans ((showConf_reg _ (by decide) (by decide) (by decide)).trans ?_)
    exact showWindow_reg _ (by decide) (by decide)
  have htold2 : s2.told 166 v 0 := raise_told _ (by decide) (by decide) _ _
  have hsaf2 : s2.saf.window = none := by
    refine (congrArg SafeHost.window (raise_saf _ _ _ _)).trans ?_
    rw [(showConf_within _).saf_eq (by decide), (showWindow_within _).saf_eq (by decide)]
  have hreg3 : s3.reg Reg.PNL_KEY = s2.reg Reg.PNL_KEY ∧ s3.told 166 v 0 ∧ s3.saf = s2.saf := by
    have hset : ∀ u : State, u.told 166 v 0 → (u.setFlag Reg.WVE_SWAP_NEEDCONF false).reg Reg.PNL_KEY = u.reg Reg.PNL_KEY ∧
        (u.setFlag Reg.WVE_SWAP_NEEDCONF false).told 166 v 0 ∧ (u.setFlag Reg.WVE_SWAP_NEEDCONF false).saf = u.saf :=
      fun u hu => ⟨reg_setFlag_ne _ _ (by decide), (told_setFlag (by decide) (by decide)).2 hu, rfl⟩
    show (if _ then _ else _ : State).reg _ = _ ∧ (if _ then _ else _ : State).told _ _ _ ∧ (if _ then _ else _ : State).saf = _
    split
    · exact hset s2 htold2
    · exact ⟨rfl, htold2, rfl⟩
  clear_value s1 s2 s3
  obtain ⟨hr3, ht3, hs3⟩ := hreg3
  split
  · refine ⟨(armRequest_reg _ (by decide) (by decide) (by decide)).trans (hr3.trans (hreg2.trans hreg1)),
      armRequest_told (by decide) (by decide) (by decide) (by decide) ht3, ?_⟩
    rw [(armRequest_within _).saf_eq (by decide), hs3, hsaf2]
  · exact ⟨hr3.trans (hreg2.trans hreg1), ht3, by rw [hs3, hsaf2]⟩

/-- The key up again: the hold time and whether a window was open shown and told. -/
def keyShown (s : State) (h : Nat) (window : Bool) : State :=
  (((s.setFlag Reg.PNL_KEY_DOWN false).setFld Reg.PNL_KEY_HELD h).setFlag Reg.PNL_KEY_WINDOW window).raise 245 (h + 65536 * b2n window) 0

theorem keyShown_shows (s : State) {h : Nat} (window : Bool) (hh : h < 65536) : (keyShown s h window).flag Reg.PNL_KEY_DOWN = false ∧
    (keyShown s h window).fld Reg.PNL_KEY_HELD = h ∧ (keyShown s h window).flag Reg.PNL_KEY_WINDOW = window := by
  unfold keyShown
  refine ⟨?_, ?_, ?_⟩
  · rw [raise_flag _ (by decide) (by decide), flag_setFlag_other _ _ (by decide) (by decide), flag_setFld_other _ _ (by decide) (by decide)]
    exact flag_setFlag_same _ _ _ (by decide) (by decide)
  · rw [raise_fld _ (by decide) (by decide), fld_setFlag_other _ _ (by decide) (by decide)]
    exact fld_setFld_of_lt _ hh (by decide)
  · rw [raise_flag _ (by decide) (by decide)]
    exact flag_setFlag_same _ _ _ (by decide) (by decide)

theorem keyShown_told (s : State) (h : Nat) : (keyShown s h false).told 245 h 0 := raise_told _ (by decide) (by decide) _ _

theorem keyShown_rest (s : State) (h : Nat) (window : Bool) : (keyShown s h window).mem = s.mem ∧ (keyShown s h window).saf = s.saf :=
  ⟨raise_mem _ _ _ _, raise_saf _ _ _ _⟩

theorem keyRelease_press {s : State} (held : Nat) (hd : s.flag Reg.PNL_KEY_DOWN = true) (hw : s.keyWindow = false) (hh : held < 500) :
    keyRelease held s = keyShown s held false := by
  have hmin : min 65535 held = held := by omega
  unfold keyRelease
  rw [if_neg (fun h => h hd), hw]
  dsimp only
  rw [if_neg Bool.false_ne_true, if_neg Bool.false_ne_true, hmin]
  unfold State.keyTest
  exact if_pos (Or.inr hh)

theorem keyWindow_of_window {s : State} {e : Nat × Nat} (h : s.saf.window = some e) : s.keyWindow = true := by
  unfold State.keyWindow
  rw [h]
  rfl

theorem keyRelease_confirms {s : State} {v c : Nat} (held : Nat) (hd : s.flag Reg.PNL_KEY_DOWN = true) (hw : s.saf.window = some (v, c)) :
    keyRelease held s = (keyShown s 0 true).bootPress.confirmPress v := by
  have hs : (keyShown s 0 true).saf.window = some (v, c) := (congrArg SafeHost.window (keyShown_rest s 0 true).2).trans hw
  unfold keyRelease
  rw [if_neg (fun h => h hd), keyWindow_of_window hw]
  dsimp only
  rw [if_pos rfl, if_pos rfl]
  unfold keyShown at hs ⊢
  simp only [hs]

theorem bootPress_regs (s : State) : s.bootPress.regs = s.regs := rfl

/-- Settles O47: the panel's updates, its frame buffers, and the key. -/
theorem displayAndKey : Obligations.DisplayAndKey := by
  unfold Obligations.DisplayAndKey
  constructor
  · intro s m w r q temp hm
    refine ⟨fun hk h0 h1 => ?update, fun hk h0 h1 => ?full, fun hk => ⟨next_eq (pnlCtrl_noKey hm hk s), next_eq (pnlCtrl_noKey hm hk s)⟩,
      fun hf hg hr hp => ?start, fun hf => ⟨next_eq (pnlUpdateStart_waits hf), next_neg fun h => by simp [hf] at h⟩, fun hq hk => ?frame,
      fun hq h0 hr => ?railFail, fun hq hk hr => ?commit, fun hf hr => ?recovery, ?temperature, fun hb hg => ?badCrc,
      fun h => next_pos (h.imp id id)⟩
    case update =>
      exact ⟨_, next_eq (pnlCtrl_update hm hk h0 h1 s), rfl, rfl, fun hp => pnlRequest_pend_none hp _, fun hp => pnlRequest_pend_some hp _⟩
    case full => exact ⟨_, next_eq (pnlCtrl_full hm hk h0 h1 s), rfl, rfl, flag_setFlag_same _ _ _ (by decide) (by decide)⟩
    case start =>
      obtain ⟨q, hq, hrect, hlevels, hband, hrec, hbusy, hrails, hframe⟩ := pnlRun_begins s r false false false 0
      exact ⟨_, q, next_eq (pnlUpdateStart_runs hf hg hr hp), by rw [hq], hrect, hlevels, hband, hrec, by rw [hq]; rfl, hbusy, hrails, hframe⟩
    case frame =>
      refine ⟨_, next_eq (pnlFrame_ends hq hk), fld_setFld_same _ _ _ (by decide), ?_, ?_⟩
      · exact (setFld_pnl _ _ _).trans ((toMono_within s _).pnl_eq (by decide))
      · exact (setFld_mem _ _ _).trans (toMono_mem s _)
    case railFail =>
      obtain ⟨b, he⟩ := pnlRailFail_update hq h0 hr
      obtain ⟨hpend, hrun, hfront, hregs⟩ := pnlRequest_pnl (runGone ((runOver s).pnlRecord b)) q.rect
      obtain ⟨hbusy, hrails⟩ := runOver_shows s
      have hst : ((runGone ((runOver s).pnlRecord b)).pnlRequest q.rect).reg Reg.PNL_STAT = (runOver s).reg Reg.PNL_STAT :=
        (reg_of_regs_eq hregs _).trans (pnlRecord_stat (runOver s) b)
      refine ⟨_, next_eq he, ?_, ?_, ?_, ?_, ?_, raise_told _ (by decide) (by decide) _ _⟩
      · rw [raise_pnl, hrun]
        rfl
      · rw [raise_pnl, hpend]
      · rw [raise_pnl, hfront, runGone_front, pnlRecord_pnl, runOver_pnl]
      · rw [raise_flag _ (by decide) (by decide), flag_of_fld (fld_of_reg (f := Reg.PNL_STAT_BUSY) hst), hbusy]
      · rw [raise_flag _ (by decide) (by decide), flag_of_fld (fld_of_reg (f := Reg.PNL_STAT_RAILS) hst), hrails]
    case commit =>
      obtain ⟨b, he⟩ := pnlCommit_update hq hk hr
      have hpnl := (committed_pnl s q b).trans (frontTaken_pnl s q)
      obtain ⟨hbusy, hrails⟩ := runOver_shows ((frontTaken s q).pnlRecord b)
      have h0 : (committed s q b).reg Reg.PNL_RGN0 = s.reg Reg.PNL_RGN0 := committed_reg _ _ _ (by decide) (by decide) (by decide)
      have h1 : (committed s q b).reg Reg.PNL_RGN1 = s.reg Reg.PNL_RGN1 := committed_reg _ _ _ (by decide) (by decide) (by decide)
      rw [h0, h1] at he
      have hb := bump_within (committed s q b) Reg.PNL_UPDCNT_COUNT Reg.PNL_UPDCNT_SAT
      have hbp := (hb.pnl_eq (by decide)).trans hpnl
      refine ⟨_, next_eq he, ?_, ?_, ?_, ?_, ?_, raise_told _ (by decide) (by decide) _ _⟩
      · rw [raise_pnl, hbp]
      · rw [raise_pnl, hbp]
      · rw [frontGood_congr (raise_pnl _ _ _ _) (raise_reg _ (by decide) (by decide)),
          frontGood_congr (hb.pnl_eq (by decide)) (bump_reg _ (by decide) (by decide))]
        exact committed_good s q b
      · rw [raise_flag _ (by decide) (by decide), bump_flag_addr _ (by decide) (by decide)]
        exact hbusy
      · rw [raise_flag _ (by decide) (by decide), bump_flag_addr _ (by decide) (by decide)]
        exact hrails
    case recovery =>
      obtain ⟨q, hq, hrec, hbusy, hpend⟩ := pnlRecover_begins s
      exact ⟨_, q, next_pos ⟨hf, hr⟩, hq, hrec, hbusy, hpend⟩
    case temperature =>
      obtain ⟨ht, hd, hmem⟩ := pnlTemp_shows s temp
      refine ⟨_, rfl, ht, hmem, fun h => hd.trans (defers_cold _ h), fun h => hd.trans (defers_warm _ h), fun h hs => ?_⟩
      have hc : s.flag Reg.PNL_STAT_DEFER ≠ defers (s.flag Reg.PNL_STAT_DEFER) temp := by
        rw [defers_cold _ h, hs]
        exact Bool.false_ne_true
      rw [pnlTemp_changed hc, defers_cold _ h]
      exact raise_told _ (by decide) (by decide) _ _
    case badCrc =>
      have hn : ¬ (s.flag Reg.PNL_STAT_BUSY = true ∨ s.frontGood = true) := by
        rw [hb, hg]
        simp
      exact ⟨_, next_neg hn, pnlBadCrc_tells s⟩
  · intro s m w held v c hm
    refine ⟨?read, fun hb => ?back, fun hb => ?front, fun hd => ?down, fun hd => next_pos hd, fun hd hw hh => ?press, fun hd hw => ?confirm,
      fun hd => next_pos (Bool.eq_false_iff.1 hd)⟩
    case read =>
      obtain ⟨hpnl, hmem, hrdata⟩ := offsetOn_rest (s.ret m.num s.pnlWord) (s.fld Reg.PNL_FBADDR_OFFSET)
      exact ⟨_, next_eq (pnlFbdata_read hm s), returned_ret _ _ _, hpnl, hmem, fun h => offsetOn_offset _ h⟩
    case back =>
      have hl : (leBytes 4 w.toNat).length = 4 := leBytes_length _ _
      have himg := imgBytes_imgWrite s.pnl.back (s.fld Reg.PNL_FBADDR_OFFSET) (leBytes 4 w.toNat)
      rw [hl] at himg
      exact ⟨_, next_eq (pnlFbdata_back hm w hb), himg, fun k hk => imgByte_imgWrite_out _ _ (by rw [hl]; exact hk), rfl, rfl,
        fun h => offsetOn_offset _ h⟩
    case front => exact ⟨_, next_eq (pnlFbdata_front hm w hb), rfl, rfl⟩
    case down => exact ⟨_, next_neg (Bool.eq_false_iff.1 hd), flag_setFlag_same s _ _ (by decide) (by decide), rfl, rfl⟩
    case press =>
      obtain ⟨hdown, hheld, hwin⟩ := keyShown_shows s false (Nat.lt_trans hh (by decide))
      exact ⟨_, next_eq (keyRelease_press held hd hw hh), hdown, hheld, hwin, keyShown_told s held, (keyShown_rest s held false).1⟩
    case confirm =>
      obtain ⟨hdown, hheld, _⟩ := keyShown_shows s (h := 0) true (by decide)
      obtain ⟨hreg, ht, hwin⟩ := confirmPress_closes (keyShown s 0 true).bootPress v
      have hk : ((keyShown s 0 true).bootPress.confirmPress v).reg Reg.PNL_KEY = (keyShown s 0 true).reg Reg.PNL_KEY :=
        hreg.trans (reg_of_regs_eq (bootPress_regs _) _)
      exact ⟨_, next_eq (keyRelease_confirms held hd hw), (flag_of_fld (fld_of_reg hk)).trans hdown, (fld_of_reg hk).trans hheld, hwin, ht⟩

end Sys2Proof.Proofs

/-! What housekeeping leaves: the registers of the redundant pair, the shown power state, the notices of start-up and of the pair, and the
unit's own state. One rule per operation; the proofs about start-up and the pair (18, 21) go through them. -/

namespace Sys2Proof.Proofs
open Sys2Proof Sys2Proof.Machine Sys2Proof.Laws

/-! ### What stays -/

/-- The notices that start-up and the pair's messages end with: EV_START_FAIL, EV_RDL_TAKE, the pair's EV_RDL_DIV, EV_RDL_LAG, EV_RDL_LINK, EV_HO_FAIL and
EV_CONFLICT, and EV_OVERRUN. -/
abbrev notice (n : Nat) : Prop := n = 21 ∨ n = 48 ∨ n = 49 ∨ n = 51 ∨ n = 52 ∨ n = 56 ∨ n = 58 ∨ n = 96

/-- The registers in which the pair shows itself: RDL_STAT, RDL_LINK, RDL_JOIN, RDL_LAG, RDL_DIV, RDL_SWAP. -/
abbrev pairReg (a : Nat) : Prop :=
  a = Reg.RDL_STAT ∨ a = Reg.RDL_LINK ∨ a = Reg.RDL_JOIN ∨ a = Reg.RDL_LAG ∨ a = Reg.RDL_DIV ∨ a = Reg.RDL_SWAP

/-- What a write of a register that shows the pair's state leaves too: the shown power state and slot, the notices, the unit's state. -/
structure Steady (s t : State) : Prop where
  slot : t.fld Reg.CPM_STAT_SLOT = s.fld Reg.CPM_STAT_SLOT
  pstate : t.fld Reg.CPM_STAT_PSTATE = s.fld Reg.CPM_STAT_PSTATE
  told : ∀ n, notice n → ∀ lo hi, s.told n lo hi → t.told n lo hi
  phase : t.cpm.phase = s.cpm.phase
  faulted : t.cpm.faulted = s.cpm.faulted
  haltOnStop : t.cpm.haltOnStop = s.cpm.haltOnStop

/-- What housekeeping leaves. -/
structure Calm (s t : State) : Prop extends Steady s t where
  pair : ∀ a, pairReg a → t.reg a = s.reg a

theorem Steady.refl {s : State} : Steady s s := ⟨rfl, rfl, fun _ _ _ _ h => h, rfl, rfl, rfl⟩

theorem Steady.trans {s t u : State} (h : Steady s t) (g : Steady t u) : Steady s u :=
  ⟨g.slot.trans h.slot, g.pstate.trans h.pstate, fun n hn lo hi ht => g.told n hn lo hi (h.told n hn lo hi ht), g.phase.trans h.phase,
    g.faulted.trans h.faulted, g.haltOnStop.trans h.haltOnStop⟩

theorem Steady.ite {c : Prop} [Decidable c] {s t u : State} (h : Steady s t) (g : Steady s u) : Steady s (if c then t else u) := by
  split
  · exact h
  · exact g

theorem Steady.foldl {α : Type} {f : State → α → State} (h : ∀ s x, Steady s (f s x)) : ∀ (l : List α) (s : State), Steady s (l.foldl f s)
  | [], _ => .refl
  | x :: l, s => (h s x).trans (Steady.foldl h l (f s x))

theorem Steady.onPairCarrier {s t : State} (h : Steady s t) : t.onPairCarrier = s.onPairCarrier := by
  unfold State.onPairCarrier
  rw [h.slot]

theorem Calm.refl {s : State} : Calm s s := ⟨.refl, fun _ _ => rfl⟩

theorem Calm.trans {s t u : State} (h : Calm s t) (g : Calm t u) : Calm s u := ⟨h.toSteady.trans g.toSteady, fun a ha => (g.pair a ha).trans (h.pair a ha)⟩

theorem Calm.ite {c : Prop} [Decidable c] {s t u : State} (h : Calm s t) (g : Calm s u) : Calm s (if c then t else u) := by
  split
  · exact h
  · exact g

theorem Calm.foldl {α : Type} {f : State → α → State} (h : ∀ s x, Calm s (f s x)) : ∀ (l : List α) (s : State), Calm s (l.foldl f s)
  | [], _ => .refl
  | x :: l, s => (h s x).trans (Calm.foldl h l (f s x))

/-- A field of one of the pair's registers. -/
theorem Calm.fld {s t : State} (h : Calm s t) {f : Field} (hf : pairReg f.addr) : t.fld f = s.fld f := fld_of_reg (h.pair _ hf)

theorem Calm.flag {s t : State} (h : Calm s t) {f : Field} (hf : pairReg f.addr) : t.flag f = s.flag f := flag_of_fld (h.fld hf)

/-! ### Parts beside the registers, and single registers -/

theorem sameCpm_faulted {s t : State} (h : SameCpm s t) : t.cpm.faulted = s.cpm.faulted := by
  have hf := congrArg Cpm.faulted h
  exact hf

theorem Steady.of_eq {s t : State} (h : t.regs = s.regs) (hc : SameCpm s t) : Steady s t :=
  ⟨fld_of_regs h _, fld_of_regs h _, fun _ _ _ _ ht => (told_of_regs h).2 ht, hc.phase, sameCpm_faulted hc, hc.haltOnStop⟩

/-- An operation that changes neither registers nor the unit's state. -/
theorem Calm.of_eq {s t : State} (h : t.regs = s.regs) (hc : t.cpm = s.cpm) : Calm s t :=
  ⟨.of_eq h (.of_eq hc), fun a _ => reg_of_regs_eq h a⟩

/-- An operation whose mask names neither the registers nor the unit's state. -/
theorem Calm.of_within {k : Nat} {s t : State} (h : Within k s t) (hr : k.testBit 0 = false) (hc : k.testBit 8 = false) : Calm s t :=
  .of_eq (h.regs_eq hr) (h.cpm_eq hc)

theorem notice_lt {n : Nat} (h : notice n) : n < 256 ∧ n ≠ 232 ∧ (n < 64 ∨ 96 ≤ n) := by
  unfold notice at h
  omega

/-- Addresses above CPM_STAT and outside the details of the events. -/
abbrev steadyAt (a : Nat) : Prop := 0x40000004 ≤ a ∧ (a < 0x40010800 ∨ 0x40011000 ≤ a)

/-- Those outside the pair's registers as well. -/
abbrev calmAt (a : Nat) : Prop := steadyAt a ∧ (a < 0x40090000 ∨ 0x40090028 ≤ a ∨ a = 0x40090004 ∨ a = 0x40090008 ∨ a = 0x40090020)

theorem setReg_steady (s : State) {a : Nat} (w : Word) (h : steadyAt a) : Steady s (s.setReg a w) := by
  have ha : Reg.CPM_STAT ≠ a := by
    unfold steadyAt at h
    unfold Reg.CPM_STAT
    omega
  exact ⟨fld_setReg_ne _ _ ha, fld_setReg_ne _ _ ha, fun n hn _ _ ht => (told_setReg (notice_lt hn).1 h.2).2 ht, rfl, rfl, rfl⟩

theorem setFld_steady (s : State) {f : Field} (v : Nat) (h : steadyAt f.addr) : Steady s (s.setFld f v) := setReg_steady s _ h

theorem setFlag_steady (s : State) {f : Field} (b : Bool) (h : steadyAt f.addr) : Steady s (s.setFlag f b) := setReg_steady s _ h

theorem setReg_calm (s : State) {a : Nat} (w : Word) (h : calmAt a) : Calm s (s.setReg a w) := by
  refine ⟨setReg_steady s w h.1, fun x hx => reg_setReg_ne _ _ ?_⟩
  obtain ⟨_, h⟩ := h
  unfold pairReg Reg.RDL_STAT Reg.RDL_LINK Reg.RDL_JOIN Reg.RDL_LAG Reg.RDL_DIV Reg.RDL_SWAP at hx
  omega

theorem setFld_calm (s : State) {f : Field} (v : Nat) (h : calmAt f.addr) : Calm s (s.setFld f v) := setReg_calm s _ h

theorem setFlag_calm (s : State) {f : Field} (b : Bool) (h : calmAt f.addr) : Calm s (s.setFlag f b) := setReg_calm s _ h

/-- A flag of CPM_STAT beside PSTATE and SLOT. -/
theorem setFlag_stat_steady (s : State) {f : Field} (b : Bool) (h : f.addr = Reg.CPM_STAT) (hd : 2 ≤ f.lo ∧ f.lo + f.width ≤ 12 ∨ 16 ≤ f.lo) :
    Steady s (s.setFlag f b) := by
  have h1 : Reg.CPM_STAT_SLOT.lo = 12 ∧ Reg.CPM_STAT_SLOT.width = 4 := by decide
  have h2 : Reg.CPM_STAT_PSTATE.lo = 0 ∧ Reg.CPM_STAT_PSTATE.width = 2 := by decide
  exact ⟨fld_setFlag_other _ _ (by omega) (by omega), fld_setFlag_other _ _ (by omega) (by omega),
    fun n hn _ _ ht => (told_setFlag (notice_lt hn).1 (by rw [h]; decide)).2 ht, rfl, rfl, rfl⟩

theorem bump_calm (s : State) {c f : Field} (hc : calmAt c.addr) (hf : calmAt f.addr) : Calm s (s.bump c f) := by
  unfold State.bump
  exact .ite (setFld_calm s _ hc) ((setFld_calm s _ hc).trans (setFlag_calm _ _ hf))

theorem raise_calm (s : State) {n : Nat} (hn : n < 256) (h : ¬ notice n) (lo hi : Nat) : Calm s (s.raise n lo hi) := by
  have hs := raise_same s n lo hi
  refine ⟨⟨raise_cpm _ hn rfl (by decide) (by decide), raise_cpm _ hn rfl (by decide) (by decide), fun k hk _ _ ht => ?_, hs.phase, sameCpm_faulted hs,
    hs.haltOnStop⟩, fun a ha => raise_reg _ hn ?_⟩
  · obtain ⟨hk1, hk2, _⟩ := notice_lt hk
    exact (told_raise_ne hn hk1 hk2 (fun he => h (he ▸ hk))).2 ht
  · rcases ha with rfl | rfl | rfl | rfl | rfl | rfl <;> decide

theorem MailKept.calm {s t : State} (h : MailKept s t) : Calm s t := by
  refine ⟨⟨h.stat _ rfl (by decide) (by decide), h.stat _ rfl (by decide) (by decide), fun n hn lo hi ht => ?_, h.same.phase, sameCpm_faulted h.same,
    h.same.haltOnStop⟩, fun a ha => h.reg a ?_ ?_⟩
  · obtain ⟨h1, h2, h3⟩ := notice_lt hn
    exact h.told n lo hi h1 h3 h2 ht
  · rcases ha with rfl | rfl | rfl | rfl | rfl | rfl <;> decide
  · rcases ha with rfl | rfl | rfl | rfl | rfl | rfl <;> decide

theorem setCan_calm (s : State) (n : Nat) (p : CanPort) : Calm s (s.setCan n p) := .of_eq rfl rfl

theorem setTask_calm (s : State) (c : Nat) (k : Task) : Calm s (s.setTask c k) := .of_eq rfl rfl

theorem rimSend_calm (s : State) (f : RimFrame) : Calm s (s.rimSend f) := .of_eq rfl rfl

theorem tell_calm (s : State) (m : Rolent) : Calm s (s.tell m) := .of_within (k := 137438953472) (State_tell_within rfl .refl) (by decide) (by decide)

theorem draw_calm (s : State) : Calm s s.draw := .of_eq rfl rfl

/-! ### Messages, records -/

theorem hostPost_calm (s : State) {m : Nat} (hm : m < 24) (tag : Nat) (b : List Byte) : Calm s (s.hostPost m tag b) := (hostPost_mailKept s hm tag b).calm

theorem postMode_calm (s : State) (mode t : Nat) : Calm s (s.postMode mode t) := hostPost_calm s (by decide) _ _

theorem postGrant_calm (s : State) : Calm s s.postGrant := hostPost_calm s (by decide) _ _

theorem runRecord_calm (s : State) (f c : Nat) : Calm s (s.runRecord f c) := .of_within (k := 2) (State_runRecord_within rfl .refl) (by decide) (by decide)

theorem recFirst_reg (s : State) (cls src lo hi : Nat) {a : Nat} (h1 : a ≠ Reg.EVR_STAT) (h2 : a ≠ Reg.EVR_PEAK) :
    (s.recFirst cls src lo hi).reg a = s.reg a := by
  unfold State.recFirst
  rw [showBuf_reg _ h1 h2]
  exact recEntry_reg _ _ _ _ _ _ _ _ _

theorem recFirst_calm (s : State) (cls src lo hi : Nat) : Calm s (s.recFirst cls src lo hi) := by
  have hr : ∀ a, a ≠ Reg.EVR_STAT → a ≠ Reg.EVR_PEAK → (s.recFirst cls src lo hi).reg a = s.reg a := fun a => recFirst_reg s cls src lo hi
  have hc : SameCpm s (s.recFirst cls src lo hi) := .of_eq (recFirst_cpm _ _ _ _ _)
  refine ⟨⟨fld_of_reg (hr _ (by decide) (by decide)), fld_of_reg (hr _ (by decide) (by decide)), fun n hn lo hi ht => ?_, hc.phase, sameCpm_faulted hc,
    hc.haltOnStop⟩, fun a ha => hr a ?_ ?_⟩
  · have hn := (notice_lt hn).1
    unfold State.told Reg.EVT_INFO_LO Reg.EVT_INFO_HI at *
    rwa [hr _ (by unfold Reg.EVR_STAT; omega) (by unfold Reg.EVR_PEAK; omega), hr _ (by unfold Reg.EVR_STAT; omega) (by unfold Reg.EVR_PEAK; omega)]
  · rcases ha with rfl | rfl | rfl | rfl | rfl | rfl <;> decide
  · rcases ha with rfl | rfl | rfl | rfl | rfl | rfl <;> decide

theorem stopRecord_calm (s : State) (src : Nat) : Calm s (s.stopRecord src) := recFirst_calm _ _ _ _ _

/-! ### CAN ports that are restricted (R418) -/

theorem queAttn_calm (s : State) {p : Nat} (q : Nat) (hp : p < 3) : Calm s (s.queAttn p q) := by
  have ha : calmAt (if q < 32 then Reg.QUE_ATTN_LO p else Reg.QUE_ATTN_HI p) := by
    unfold Reg.QUE_ATTN_LO Reg.QUE_ATTN_HI calmAt steadyAt
    split <;> omega
  unfold State.queAttn
  exact .ite .refl ((setFlag_calm s true ha).trans (raise_calm _ (by omega) (by unfold notice; omega) _ _))

theorem doneEv_calm (s : State) (q : Nat) (d : List Byte) : Calm s (s.doneEv q d) := by
  unfold State.doneEv
  split
  case isTrue h => exact queAttn_calm s q h.2
  case isFalse => exact .refl

theorem setQue_calm (s : State) (q : Queues) (l : List (Nat × List Byte)) : Calm s { s with que := { q with atPort := l } } := .of_eq rfl rfl

theorem canQueueDone_calm (s : State) (n r sof : Nat) : Calm s (s.canQueueDone n r sof) := by
  unfold State.canQueueDone
  split
  · exact .refl
  · extract_lets a never stamp s1 s2 que
    have h1 : Calm s s1 := .ite (draw_calm s) .refl
    clear_value s1
    have h2 : Calm s1 s2 := .of_eq rfl rfl
    clear_value s2
    exact (h1.trans h2).trans ((setQue_calm s2 que _).trans (doneEv_calm _ _ _))

theorem canTxFail_calm (s : State) {n : Nat} (t : CanTx) (c : Nat) (hn : n < 4) : Calm s (s.canTxFail n t c) := by
  have ha : calmAt (Reg.CAN_TXFAIL n) := by
    unfold Reg.CAN_TXFAIL calmAt steadyAt
    omega
  unfold State.canTxFail
  refine .ite .refl ?_
  exact ((setFld_calm s _ ha).trans (setFld_calm _ _ ha)).trans ((bump_calm _ ha ha).trans
    (raise_calm _ (by unfold canSrc; omega) (by unfold notice canSrc; omega) _ _))

theorem canShowPend_calm (s : State) {n : Nat} (o : Nat) (hn : n < 4) : Calm s (s.canShowPend n o) := by
  unfold State.canShowPend
  split
  case isTrue ho => exact setFlag_calm s _ (by show calmAt (Reg.CAN_OBJ n o); unfold Reg.CAN_OBJ calmAt steadyAt; omega)
  case isFalse => exact .refl

theorem canFail_calm (s : State) {n : Nat} (t : CanTx) (c sof : Nat) (hn : n < 4) : Calm s (s.canFail n t c sof) := by
  unfold State.canFail
  extract_lets s1 s2
  have h1 : Calm s s1 := .ite (canTxFail_calm s t c hn) .refl
  have h2 : Calm s1 s2 := .ite (canQueueDone_calm s1 n c sof) .refl
  exact (h1.trans h2).trans (canShowPend_calm s2 _ hn)

theorem canAbortBus_calm (s : State) {n : Nat} (hn : n < 4) : Calm s (s.canAbortBus n) := by
  unfold State.canAbortBus
  dsimp only
  split
  · exact .refl
  · exact (setCan_calm s n _).trans (canFail_calm _ _ _ _ hn)

theorem canRestrict_calm (on : Bool) : ∀ (l : List Nat) (s : State), (∀ n ∈ l, n < 4) → Calm s (s.canRestrict on l)
  | [], _, _ => .refl
  | n :: ns, s, h => by
    have hn : n < 4 := h n List.mem_cons_self
    have hns : ∀ m ∈ ns, m < 4 := fun m hm => h m (List.mem_cons_of_mem _ hm)
    have ha : calmAt (Reg.CAN_STAT_RESTRICT n).addr := by
      show calmAt (Reg.CAN_STAT n)
      unfold Reg.CAN_STAT calmAt steadyAt
      omega
    unfold State.canRestrict
    refine .ite (canRestrict_calm on ns s hns) ?_
    exact (Calm.trans (.ite (canAbortBus_calm s hn) .refl) (setCan_calm _ n _)).trans
      ((setFlag_calm _ on ha).trans (canRestrict_calm on ns _ hns))

theorem canRestrict_all_calm (on : Bool) (s : State) : Calm s (s.canRestrict on (List.range 4)) := canRestrict_calm on _ s range4

/-! ### Tasks, loops, buses -/

theorem clearTaskBits_calm (pend : Bool) : ∀ (l : List Nat) (s : State), (∀ c ∈ l, c < 16) → Calm s (s.clearTaskBits pend l)
  | [], _, _ => .refl
  | c :: cs, s, h => by
    have hc : c < 16 := h c List.mem_cons_self
    have h1 : calmAt (Reg.IMG_TASK_RUNNING c).addr := by
      show calmAt (Reg.IMG_TASK c)
      unfold Reg.IMG_TASK calmAt steadyAt
      omega
    have h2 : calmAt (Reg.IMG_TRICK_PENDING c).addr := by
      show calmAt (Reg.IMG_TRICK c)
      unfold Reg.IMG_TRICK calmAt steadyAt
      omega
    unfold State.clearTaskBits
    extract_lets s1
    have hs1 : Calm s s1 := (setFlag_calm s false h1).trans (setFlag_calm (f := Reg.IMG_TASK_PREEMPTED c) _ false h1)
    clear_value s1
    have hs2 : Calm s1 (if pend then s1.setFlag (Reg.IMG_TRICK_PENDING c) false else s1) := .ite (setFlag_calm s1 false h2) .refl
    exact (hs1.trans hs2).trans (clearTaskBits_calm pend cs _ fun d hd => h d (List.mem_cons_of_mem _ hd))

theorem stopTasks_calm (s : State) (discard : Bool) : Calm s (s.stopTasks discard) := by
  unfold State.stopTasks
  exact ((setFlag_calm s _ (by decide)).trans (clearTaskBits_calm discard _ _ (by decide))).trans (.of_eq rfl rfl)

theorem safeRequest_calm (s : State) : Calm s s.safeRequest := by
  unfold State.safeRequest
  extract_lets was s1
  have h1 : Calm s s1 := ((rimSend_calm s _).trans (setFlag_calm _ _ (by decide))).trans (setFlag_calm _ _ (by decide))
  exact h1.trans (.ite (raise_calm _ (by decide) (by decide) _ _) .refl)

theorem armRequest_calm (s : State) : Calm s s.armRequest := by
  unfold State.armRequest
  refine .ite ?_ .refl
  extract_lets was s1
  have h1 : Calm s s1 := (setFlag_calm s _ (by decide)).trans (hostPost_calm _ (by decide) _ _)
  exact h1.trans (.ite .refl (raise_calm _ (by decide) (by decide) _ _))

theorem startRefs_calm (s : State) (t : Nat) : Calm s (s.startRefs t) := .of_within (k := 4194304) (State_startRefs_within rfl .refl) (by decide) (by decide)

theorem ecxCfgAll_calm (s : State) : Calm s s.ecxCfgAll := .of_within (k := 137573171200) (State_ecxCfgAll_within rfl .refl) (by decide) (by decide)

theorem ownTrace_calm (s : State) : Calm s s.ownTrace := setFlag_calm s _ (by decide)

theorem startBuses_calm (s : State) (t : Nat) : Calm s (s.startBuses t) :=
  (((canRestrict_all_calm false s).trans (startRefs_calm _ t)).trans (ecxCfgAll_calm _)).trans (ownTrace_calm _)

theorem wvePhase_calm (s : State) (p : Nat) : Calm s (s.wvePhase p) := by
  unfold State.wvePhase
  exact .ite .refl ((setFld_calm s _ (by decide)).trans (raise_calm _ (by decide) (by decide) _ _))

theorem abandonSwap_calm (s : State) : Calm s s.abandonSwap := by
  unfold State.abandonSwap
  refine .ite ?_ .refl
  extract_lets s1
  have h1 : Calm s s1 := .of_eq rfl rfl
  clear_value s1
  exact (((h1.trans (setFld_calm s1 _ (by decide))).trans (setFlag_calm _ _ (by decide))).trans (setFld_calm _ _ (by decide))).trans (wvePhase_calm _ _)

theorem setRdl_calm (s : State) (r : Rdl) : Calm s { s with rdl := r } := .of_eq rfl rfl

theorem dropMirror_calm (s : State) : Calm s s.dropMirror := setRdl_calm s _

/-! ### Operations on the pair's registers -/

theorem setRole_steady (s : State) (r : Nat) : Steady s (s.setRole r) := by
  unfold State.setRole
  exact .ite .refl (((setRdl_calm s _).toSteady.trans (setFld_steady _ _ (by decide))).trans
    ((tell_calm _ _).trans (raise_calm _ (by decide) (by decide) _ _)).toSteady)

/-- The pair's registers beside RDL_STAT. -/
theorem setRole_pair (s : State) (r : Nat) {a : Nat} (ha : pairReg a) (hr : a ≠ Reg.RDL_STAT) : (s.setRole r).reg a = s.reg a := by
  refine setRole_reg s r ?_ hr
  rcases ha with rfl | rfl | rfl | rfl | rfl | rfl <;> decide

theorem setLines_steady (s : State) (give take : Bool) : Steady s (s.setLines give take) :=
  (setFlag_steady s _ (by decide)).trans (setFlag_steady _ _ (by decide))

theorem setLines_reg (s : State) (give take : Bool) {a : Nat} (h : a ≠ Reg.RDL_STAT) : (s.setLines give take).reg a = s.reg a :=
  (reg_setFlag_ne _ _ h).trans (reg_setFlag_ne _ _ h)

/-- The lines as set, and the other fields of RDL_STAT. -/
theorem setLines_give (s : State) (give take : Bool) : (s.setLines give take).flag Reg.RDL_STAT_GIVE_O = give :=
  (flag_setFlag_other _ _ (by decide) (by decide)).trans (flag_setFlag_same _ _ _ (by decide) (by decide))

theorem setLines_take (s : State) (give take : Bool) : (s.setLines give take).flag Reg.RDL_STAT_TAKE_O = take :=
  flag_setFlag_same _ _ _ (by decide) (by decide)

theorem setLines_fld (s : State) (give take : Bool) {f : Field} (hw : f.lo + f.width ≤ 32) (hd : f.lo + f.width ≤ 10 ∨ 12 ≤ f.lo) :
    (s.setLines give take).fld f = s.fld f := by
  have h1 : Reg.RDL_STAT_GIVE_O.lo = 10 ∧ Reg.RDL_STAT_GIVE_O.width = 1 := by decide
  have h2 : Reg.RDL_STAT_TAKE_O.lo = 11 ∧ Reg.RDL_STAT_TAKE_O.width = 1 := by decide
  exact (fld_setFlag_other _ _ hw (by omega)).trans (fld_setFlag_other _ _ hw (by omega))

theorem setRole_flag (s : State) (r : Nat) {f : Field} (hf : f.addr = Reg.RDL_STAT) (hw : f.lo + f.width ≤ 32) (d : 3 ≤ f.lo) :
    (s.setRole r).flag f = s.flag f := flag_of_fld (setRole_fld s r hf hw d)

theorem joinPhase_steady (s : State) (p : Nat) : Steady s (s.joinPhase p) := by
  unfold State.joinPhase
  exact .ite .refl ((setFld_steady s _ (by decide)).trans (raise_calm _ (by decide) (by decide) _ _).toSteady)

theorem joinPhase_phase (s : State) {p : Nat} (h : p < 8) : (s.joinPhase p).fld Reg.RDL_JOIN_PHASE = p := by
  unfold State.joinPhase
  split
  · assumption
  · dsimp only
    rw [raise_fld _ (by decide) (by decide)]
    exact fld_setFld_of_lt _ h (by decide)

theorem joinPhase_fld (s : State) (p : Nat) {f : Field} (hw : f.lo + f.width ≤ 32) (hd : f.addr = Reg.RDL_JOIN → 3 ≤ f.lo)
    (hq : eventTouches f.addr = false) : (s.joinPhase p).fld f = s.fld f := by
  unfold State.joinPhase
  split
  · rfl
  · dsimp only
    rw [raise_fld _ (by decide) hq]
    by_cases ha : f.addr = Reg.RDL_JOIN
    · have h1 : Reg.RDL_JOIN_PHASE.lo = 0 ∧ Reg.RDL_JOIN_PHASE.width = 3 := by decide
      have h2 := hd ha
      exact fld_setFld_other _ _ hw (by omega)
    · exact fld_setFld_addr _ _ ha

theorem joinPhase_reg (s : State) (p : Nat) {a : Nat} (hq : eventTouches a = false) (ha : a ≠ Reg.RDL_JOIN) : (s.joinPhase p).reg a = s.reg a := by
  unfold State.joinPhase
  split
  · rfl
  · exact (raise_reg _ (by decide) hq).trans (reg_setFld_ne _ _ ha)

theorem swapPhase_steady (s : State) (p : Nat) : Steady s (s.swapPhase p) := by
  unfold State.swapPhase
  exact .ite .refl ((setFld_steady s _ (by decide)).trans (raise_calm _ (by decide) (by decide) _ _).toSteady)

theorem swapPhase_phase (s : State) {p : Nat} (h : p < 8) : (s.swapPhase p).fld Reg.RDL_SWAP_PHASE = p := by
  unfold State.swapPhase
  split
  · assumption
  · dsimp only
    rw [raise_fld _ (by decide) (by decide)]
    exact fld_setFld_of_lt _ h (by decide)

theorem swapPhase_reg (s : State) (p : Nat) {a : Nat} (hq : eventTouches a = false) (ha : a ≠ Reg.RDL_SWAP) : (s.swapPhase p).reg a = s.reg a := by
  unfold State.swapPhase
  split
  · rfl
  · exact (raise_reg _ (by decide) hq).trans (reg_setFld_ne _ _ ha)

/-! ### HALT (R92) -/

/-- What HALT leaves of RDL_STAT, and of what was told. -/
structure Halted (s t : State) : Prop where
  phase : t.cpm.phase = .halt
  pstate : t.fld Reg.CPM_STAT_PSTATE = 2
  slot : t.fld Reg.CPM_STAT_SLOT = s.fld Reg.CPM_STAT_SLOT
  faulted : t.cpm.faulted = s.cpm.faulted
  role : t.fld Reg.RDL_STAT_ROLE = 0
  stat : ∀ f : Field, f.addr = Reg.RDL_STAT → f.lo + f.width ≤ 32 → 12 ≤ f.lo → t.fld f = s.fld f
  told : ∀ n, notice n → ∀ lo hi, s.told n lo hi → t.told n lo hi

/-- The unit in HALT before it gives up its role. -/
def haltShown (s : State) : State :=
  let u := (((s.stopTasks false).setFld Reg.CPM_STAT_PSTATE 2).setFlag Reg.LPE_STAT_RUN false).setLines true false
  { u with cpm := { u.cpm with phase := .halt, haltOnStop := false } }

theorem enterHalt_calm (s : State) : Calm ((haltShown s).setRole 0) s.enterHalt := by
  have h : ∀ u : State, Calm u (let v := u.canRestrict true (List.range 4); if v.cpm.gaveUp then v else v.safeRequest) := fun u => by
    dsimp only
    exact .ite (canRestrict_all_calm true u) ((canRestrict_all_calm true u).trans (safeRequest_calm _))
  exact h _

theorem haltShown_slot (s : State) : (haltShown s).fld Reg.CPM_STAT_SLOT = s.fld Reg.CPM_STAT_SLOT := by
  unfold haltShown
  dsimp only
  rw [fld_mk, (setLines_steady _ _ _).slot, fld_setFlag_addr _ _ (by decide), fld_setFld_other _ _ (by decide) (by decide), (stopTasks_calm s false).slot]

theorem haltShown_pstate (s : State) : (haltShown s).fld Reg.CPM_STAT_PSTATE = 2 := by
  unfold haltShown
  dsimp only
  rw [fld_mk, (setLines_steady _ _ _).pstate, fld_setFlag_addr _ _ (by decide)]
  exact fld_setFld_of_lt _ (by decide) (by decide)

theorem haltShown_stat (s : State) {f : Field} (ha : f.addr = Reg.RDL_STAT) (hw : f.lo + f.width ≤ 32) (hd : 12 ≤ f.lo) :
    (haltShown s).fld f = s.fld f := by
  have h1 : f.addr ≠ Reg.LPE_STAT_RUN.addr := by rw [ha]; decide
  have h2 : f.addr ≠ Reg.CPM_STAT_PSTATE.addr := by rw [ha]; decide
  unfold haltShown
  dsimp only
  rw [fld_mk, setLines_fld _ _ _ hw (Or.inr hd), fld_setFlag_addr _ _ h1, fld_setFld_addr _ _ h2, (stopTasks_calm s false).fld (Or.inl ha)]

theorem haltShown_told (s : State) {n lo hi : Nat} (hn : notice n) (h : s.told n lo hi) : (haltShown s).told n lo hi := by
  have h1 := (stopTasks_calm s false).told n hn lo hi h
  have h2 : ((s.stopTasks false).setFld Reg.CPM_STAT_PSTATE 2).told n lo hi := (told_setFld (notice_lt hn).1 (by decide)).2 h1
  have h3 := (setFlag_steady ((s.stopTasks false).setFld Reg.CPM_STAT_PSTATE 2) (f := Reg.LPE_STAT_RUN) false (by decide)).told n hn lo hi h2
  have h4 := (setLines_steady _ true false).told n hn lo hi h3
  unfold haltShown
  dsimp only
  rw [told_mk]
  exact h4

theorem haltShown_cpm (s : State) : (haltShown s).cpm.phase = .halt ∧ (haltShown s).cpm.faulted = s.cpm.faulted := by
  have h := (((stopTasks_calm s false).faulted))
  unfold haltShown
  exact ⟨rfl, h⟩

theorem enterHalt_halted (s : State) : Halted s s.enterHalt := by
  have hc := enterHalt_calm s
  have hr := setRole_steady (haltShown s) 0
  obtain ⟨hp, hf⟩ := haltShown_cpm s
  exact ⟨hc.phase.trans (hr.phase.trans hp), hc.pstate.trans (hr.pstate.trans (haltShown_pstate s)), hc.slot.trans (hr.slot.trans (haltShown_slot s)),
    hc.faulted.trans (hr.faulted.trans hf), (hc.fld (Or.inl rfl)).trans (setRole_role _ (by decide)),
    fun f ha hw hd => (hc.fld (Or.inl ha)).trans ((setRole_fld _ _ ha hw (by omega)).trans (haltShown_stat s ha hw hd)),
    fun n hn lo hi ht => hc.told n hn lo hi (hr.told n hn lo hi (haltShown_told s hn ht))⟩

end Sys2Proof.Proofs

/-! Entering RUN, leaving control, and joining from OFF (R453, R467, R521); negotiation and the handover inputs (R38, R39, R453). -/

namespace Sys2Proof.Proofs
open Sys2Proof Sys2Proof.Machine Sys2Proof.Laws

/-! ### RUN entry -/

/-- The unit shown in RUN. -/
def runShown (s : State) : State := ({ s with cpm := { s.cpm with phase := .run, runAt := s.now } } : State).setFld Reg.CPM_STAT_PSTATE 0

theorem beginRunState_calm (s : State) : Calm (runShown s) s.beginRunState :=
  ((postGrant_calm (runShown s)).trans (armRequest_calm _)).trans (runRecord_calm _ 1 0)

theorem runShown_shows (s : State) : (runShown s).cpm.phase = .run ∧ (runShown s).cpm.haltOnStop = s.cpm.haltOnStop ∧
    (runShown s).fld Reg.CPM_STAT_PSTATE = 0 ∧ (runShown s).fld Reg.CPM_STAT_SLOT = s.fld Reg.CPM_STAT_SLOT := by
  unfold runShown
  refine ⟨rfl, rfl, fld_setFld_of_lt _ (by decide) (by decide), ?_⟩
  rw [fld_setFld_other _ _ (by decide) (by decide), fld_mk]

theorem runShown_reg (s : State) {a : Nat} (h : a ≠ Reg.CPM_STAT) : (runShown s).reg a = s.reg a := by
  unfold runShown
  rw [reg_setFld_ne _ _ h, reg_mk]

theorem pairReg_ne {a : Nat} (h : pairReg a) : a ≠ Reg.CPM_STAT := by
  rcases h with rfl | rfl | rfl | rfl | rfl | rfl <;> decide

/-- The pair's registers at the beginning of RUN. -/
theorem beginRunState_pair (s : State) {a : Nat} (h : pairReg a) : s.beginRunState.reg a = s.reg a :=
  ((beginRunState_calm s).pair a h).trans (runShown_reg s (pairReg_ne h))

theorem setLoops_calm (s : State) (l : Loops) : Calm s { s with loops := l } := .of_eq rfl rfl

theorem firstReleases_calm (s : State) (run : Nat) : Calm s (s.firstReleases run) := by
  unfold State.firstReleases
  extract_lets t s1 k s2
  have h1 : Calm s s1 := by
    refine Calm.foldl (fun u c => ?_) _ s
    split
    · exact setTask_calm u c _
    · exact .refl
  have h2 : Calm s1 s2 := .ite (setTask_calm s1 8 _) .refl
  clear_value s1 s2
  exact ((h1.trans h2).trans (setLoops_calm s2 _)).trans (setFlag_calm _ _ (by decide))

/-- A unit that has taken control and entered RUN: its power state, role, lines, and latched slot. -/
structure InRun (s t : State) : Prop where
  phase : t.cpm.phase = .run
  pstate : t.fld Reg.CPM_STAT_PSTATE = 0
  slot : t.fld Reg.CPM_STAT_SLOT = s.fld Reg.CPM_STAT_SLOT
  role : t.fld Reg.RDL_STAT_ROLE = if s.onPairCarrier then 2 else 1
  offcause : t.fld Reg.RDL_STAT_OFFCAUSE = 0
  give : t.flag Reg.RDL_STAT_GIVE_O = false
  take : t.flag Reg.RDL_STAT_TAKE_O = true

/-- The role taken, with no cause of OFF. -/
def roleTaken (s : State) : State := (s.setFld Reg.RDL_STAT_OFFCAUSE 0).setRole (if s.onPairCarrier then 2 else 1)

theorem enterRun_calm (s : State) : Calm ((roleTaken s).beginRunState.setLines false true) s.enterRun := by
  have h : ∀ (u : State) (pair : Bool) (r : Rdl), Calm u (let v : State := { u with rdl := r }
      let x := if pair then v.postMode 0 v.now else v
      (x.firstReleases x.now).startBuses x.now) := fun u pair r => by
    extract_lets v x
    have hv : Calm u v := setRdl_calm u r
    have hx : Calm v x := .ite (postMode_calm v 0 v.now) .refl
    clear_value v x
    exact ((hv.trans hx).trans (firstReleases_calm x _)).trans (startBuses_calm _ _)
  exact h _ s.onPairCarrier _

theorem roleTaken_shows (s : State) : (roleTaken s).fld Reg.RDL_STAT_ROLE = (if s.onPairCarrier then 2 else 1) ∧
    (roleTaken s).fld Reg.RDL_STAT_OFFCAUSE = 0 ∧ Steady s (roleTaken s) := by
  unfold roleTaken
  refine ⟨setRole_role _ (by split <;> decide), ?_, (setFld_steady s _ (by decide)).trans (setRole_steady _ _)⟩
  rw [setRole_fld _ _ rfl (by decide) (by decide)]
  exact fld_setFld_of_lt _ (by decide) (by decide)

theorem enterRun_inRun (s : State) : InRun s s.enterRun := by
  have hc := enterRun_calm s
  have hl := setLines_steady (roleTaken s).beginRunState false true
  have hb := beginRunState_calm (roleTaken s)
  obtain ⟨hrole, hoff, hs⟩ := roleTaken_shows s
  obtain ⟨hp, _, hps, hslot⟩ := runShown_shows (roleTaken s)
  have hstat : (roleTaken s).beginRunState.reg Reg.RDL_STAT = (roleTaken s).reg Reg.RDL_STAT := beginRunState_pair _ (Or.inl rfl)
  refine ⟨hc.phase.trans (hl.phase.trans (hb.phase.trans hp)), hc.pstate.trans (hl.pstate.trans (hb.pstate.trans hps)),
    hc.slot.trans (hl.slot.trans (hb.slot.trans (hslot.trans hs.slot))), ?_, ?_, (hc.flag (Or.inl rfl)).trans (setLines_give _ _ _),
    (hc.flag (Or.inl rfl)).trans (setLines_take _ _ _)⟩
  · rw [hc.fld (Or.inl rfl), setLines_fld _ _ _ (by decide) (by decide), fld_of_reg hstat, hrole]
  · rw [hc.fld (Or.inl rfl), setLines_fld _ _ _ (by decide) (by decide), fld_of_reg hstat, hoff]

theorem enterRun_within (s : State) : Within 448426679559 s s.enterRun := State_enterRun_within rfl .refl

/-- Without a PTP mode nothing is waited for before RUN. -/
theorem takeControl_noPtp {s : State} (h : s.ptpMode = 0) : s.takeControl = s.enterRun := if_neg fun g => g.1 h

/-! ### A join begins (R459) -/

theorem joinFails_steady (s : State) : Steady s s.joinFails := by
  unfold State.joinFails
  dsimp only
  exact (Steady.of_eq (s := s) (t := { s with load := none }) rfl (.of_eq rfl)).trans ((joinPhase_steady _ 0).trans
    ((dropMirror_calm _).trans (setRdl_calm _ _)).toSteady)

/-- The registers of a join set to their start. -/
def joinPrepared (s : State) : State :=
  ((({ s.setFld Reg.RDL_STAT_OFFCAUSE 1 with rdl := { s.rdl with joinFail := none } } : State).dropMirror.setFld Reg.RDL_JOIN_PASS 0).setFld
    Reg.RDL_JOIN_PCT 0)

theorem joinPrepared_regs (s : State) : (joinPrepared s).regs =
    (((s.setFld Reg.RDL_STAT_OFFCAUSE 1).setFld Reg.RDL_JOIN_PASS 0).setFld Reg.RDL_JOIN_PCT 0).regs := rfl

theorem joinPrepared_reg (s : State) {a : Nat} (h1 : a ≠ Reg.RDL_STAT) (h2 : a ≠ Reg.RDL_JOIN) : (joinPrepared s).reg a = s.reg a := by
  rw [reg_of_regs_eq (joinPrepared_regs s), reg_setFld_ne _ _ h2, reg_setFld_ne _ _ h2, reg_setFld_ne _ _ h1]

theorem joinPrepared_stat (s : State) : (joinPrepared s).fld Reg.RDL_STAT_OFFCAUSE = 1 ∧
    ∀ f : Field, f.addr = Reg.RDL_STAT → f.lo + f.width ≤ 16 → (joinPrepared s).fld f = s.fld f := by
  refine ⟨?_, fun f hf hw => ?_⟩
  · rw [fld_of_regs (joinPrepared_regs s), fld_setFld_addr _ _ (by decide), fld_setFld_addr _ _ (by decide)]
    exact fld_setFld_of_lt _ (by decide) (by decide)
  · have h1 : Reg.RDL_STAT_OFFCAUSE.lo = 16 := rfl
    have h2 : ∀ g : Field, g.addr = Reg.RDL_JOIN → f.addr ≠ g.addr := fun g hg => by rw [hf, hg]; decide
    rw [fld_of_regs (joinPrepared_regs s), fld_setFld_addr _ _ (h2 _ rfl), fld_setFld_addr _ _ (h2 _ rfl), fld_setFld_other _ _ (by omega) (by omega)]

theorem joinPrepared_steady (s : State) : Steady s (joinPrepared s) := by
  have h1 := setFld_steady s (f := Reg.RDL_STAT_OFFCAUSE) 1 (by decide)
  have h2 := setRdl_calm (s.setFld Reg.RDL_STAT_OFFCAUSE 1) { s.rdl with joinFail := none }
  exact (((h1.trans h2.toSteady).trans (dropMirror_calm _).toSteady).trans (setFld_steady _ _ (by decide))).trans (setFld_steady _ _ (by decide))

theorem joinStart_steady (s : State) : Steady s s.joinStart := by
  unfold State.joinStart
  refine .ite .refl ?_
  extract_lets s1 rdl s2 s3
  have h2 : Steady s s2 := (setFld_steady s (f := Reg.RDL_STAT_OFFCAUSE) 1 (by decide)).trans (setRdl_calm _ _).toSteady
  clear_value s2
  have h3 : Steady s2 s3 := ((dropMirror_calm s2).toSteady.trans (setFld_steady _ _ (by decide))).trans (setFld_steady _ _ (by decide))
  clear_value s3
  exact .ite (((h2.trans h3).trans (joinPhase_steady s3 1)).trans (tell_calm _ _).toSteady) (h2.trans (joinFails_steady s2))

/-- A unit in OFF that runs and has the link asks for a join. -/
theorem joinStart_asks {s : State} (hr : s.fld Reg.RDL_STAT_ROLE = 0) (hp : s.cpm.phase = .run) (hh : s.cpm.haltOnStop = false)
    (hj : s.fld Reg.RDL_JOIN_PHASE = 0) (hl : s.flag Reg.RDL_LINK_UP = true) : s.joinStart =
    ((joinPrepared s).joinPhase 1).tell (.joinReq (joinPrepared s).build (joinPrepared s).safeChk (joinPrepared s).ownConf) := by
  have hn : ¬ (s.fld Reg.RDL_STAT_ROLE ≠ 0 ∨ s.cpm.phase ≠ .run ∨ s.cpm.haltOnStop = true ∨ s.joining = true) := by
    have h1 : s.joining = false := by
      unfold State.joining
      rw [hj]
      simp
    simp [hr, hp, hh, h1]
  have hl' : ({ s.setFld Reg.RDL_STAT_OFFCAUSE 1 with rdl := { s.rdl with joinFail := none } } : State).flag Reg.RDL_LINK_UP = true := by
    rw [flag_mk, flag_setFld_addr _ _ (by decide), hl]
  unfold State.joinStart
  rw [if_neg hn]
  exact if_pos hl'

/-- A join asked for. -/
structure JoinAsked (s t : State) : Prop where
  phase : t.fld Reg.RDL_JOIN_PHASE = 1
  role : t.fld Reg.RDL_STAT_ROLE = 0
  offcause : t.fld Reg.RDL_STAT_OFFCAUSE = 1
  outbox : t.outbox = s.outbox ++ [.rolent (.joinReq s.build s.safeChk s.ownConf)]
  mem : t.mem = s.mem

theorem joinPhase_within (s : State) (p : Nat) : Within 1285 s (s.joinPhase p) := State_joinPhase_within rfl .refl

theorem tell_outbox {s : State} (h : s.flag Reg.RDL_LINK_UP = true) (m : Rolent) : (s.tell m).outbox = s.outbox ++ [.rolent m] := by
  unfold State.tell
  rw [if_pos h]
  rfl

theorem joinPrepared_asks (s : State) : (joinPrepared s).build = s.build ∧ (joinPrepared s).safeChk = s.safeChk ∧ (joinPrepared s).ownConf = s.ownConf :=
  ⟨congrArg BitVec.toNat (joinPrepared_reg s (by decide) (by decide)), rfl,
    flag_of_fld (fld_of_reg (joinPrepared_reg s (by decide) (by decide)))⟩

theorem joinStart_asked {s : State} (hr : s.fld Reg.RDL_STAT_ROLE = 0) (hp : s.cpm.phase = .run) (hh : s.cpm.haltOnStop = false)
    (hj : s.fld Reg.RDL_JOIN_PHASE = 0) (hl : s.flag Reg.RDL_LINK_UP = true) : JoinAsked s s.joinStart := by
  obtain ⟨hb, hc, ho⟩ := joinPrepared_asks s
  obtain ⟨hoff, hstat⟩ := joinPrepared_stat s
  rw [joinStart_asks hr hp hh hj hl, hb, hc, ho]
  have hw := joinPhase_within (joinPrepared s) 1
  have ht := tell_within ((joinPrepared s).joinPhase 1) (.joinReq s.build s.safeChk s.ownConf)
  have hregs := ht.regs_eq (by decide)
  have hup : ((joinPrepared s).joinPhase 1).flag Reg.RDL_LINK_UP = true := by
    rw [flag_of_fld (fld_of_reg (joinPhase_reg _ 1 (by decide) (by decide))), flag_of_fld (fld_of_reg (joinPrepared_reg s (by decide) (by decide))), hl]
  refine ⟨(fld_of_regs hregs _).trans (joinPhase_phase _ (by decide)), ?_, ?_, ?_, (ht.mem_eq (by decide)).trans (hw.mem_eq (by decide))⟩
  · rw [fld_of_regs hregs, joinPhase_fld _ _ (by decide) (by decide) (by decide), hstat _ rfl (by decide), hr]
  · rw [fld_of_regs hregs, joinPhase_fld _ _ (by decide) (by decide) (by decide), hoff]
  · rw [tell_outbox hup, hw.outbox_eq (by decide)]
    rfl

/-! ### Control given up, and a station stopped (R201, R468) -/

theorem swapEnd_steady (s : State) : Steady s s.swapEnd := by
  unfold State.swapEnd
  split
  · exact (setRdl_calm s _).toSteady
  · refine .ite .refl ?_
    extract_lets p rdl
    exact ((setRdl_calm s _).toSteady.trans (abandonSwap_calm _).toSteady).trans (swapPhase_steady _ _)

/-- The swap that was under way abandoned. -/
def swapDropped (s : State) : State := s.swapEnd.abandonSwap

theorem swapDropped_steady (s : State) : Steady s (swapDropped s) := (swapEnd_steady s).trans (abandonSwap_calm _).toSteady

/-- What the reactions to a loss of control leave: OFF with its cause, the lines given, the notices, and the unit on its way to HALT. -/
structure Gone (s : State) (cause : Nat) (t : State) : Prop where
  halts : t.cpm.haltOnStop = true
  role : t.fld Reg.RDL_STAT_ROLE = 0
  offcause : t.fld Reg.RDL_STAT_OFFCAUSE = cause
  give : t.flag Reg.RDL_STAT_GIVE_O = true
  take : t.flag Reg.RDL_STAT_TAKE_O = false
  told : ∀ n, notice n → ∀ lo hi, s.told n lo hi → t.told n lo hi

/-- A role given up with its cause, on a state whose lines are given. -/
theorem offWithCause_shows (u : State) {cause : Nat} (h : cause < 16) :
    ((u.setFld Reg.RDL_STAT_OFFCAUSE cause).setRole 0).fld Reg.RDL_STAT_ROLE = 0 ∧
    ((u.setFld Reg.RDL_STAT_OFFCAUSE cause).setRole 0).fld Reg.RDL_STAT_OFFCAUSE = cause ∧
    ((u.setFld Reg.RDL_STAT_OFFCAUSE cause).setRole 0).flag Reg.RDL_STAT_GIVE_O = u.flag Reg.RDL_STAT_GIVE_O ∧
    ((u.setFld Reg.RDL_STAT_OFFCAUSE cause).setRole 0).flag Reg.RDL_STAT_TAKE_O = u.flag Reg.RDL_STAT_TAKE_O ∧
    Steady u ((u.setFld Reg.RDL_STAT_OFFCAUSE cause).setRole 0) := by
  refine ⟨setRole_role _ (by decide), ?_, ?_, ?_, (setFld_steady u _ (by decide)).trans (setRole_steady _ _)⟩
  · rw [setRole_fld _ _ rfl (by decide) (by decide)]
    exact fld_setFld_of_lt _ h (by decide)
  · rw [setRole_flag _ _ rfl (by decide) (by decide), flag_setFld_other _ _ (by decide) (by decide)]
  · rw [setRole_flag _ _ rfl (by decide) (by decide), flag_setFld_other _ _ (by decide) (by decide)]

/-- A reaction that gives the lines, then its role, and then only reports, leaves the unit `Gone`. -/
theorem Gone.of_calm {s x u v t : State} {cause : Nat} (hc : cause < 16) (hx : Steady s x) (hu : Calm (x.setLines true false) u)
    (hv : v.regs = ((u.setFld Reg.RDL_STAT_OFFCAUSE cause).setRole 0).regs) (hh : v.cpm.haltOnStop = true) (ht : Calm v t) : Gone s cause t := by
  obtain ⟨hrole, hoff, hg, hk, hs⟩ := offWithCause_shows u hc
  have hl := setLines_steady x true false
  refine ⟨ht.haltOnStop.trans hh, (ht.fld (Or.inl rfl)).trans ((fld_of_regs hv _).trans hrole), (ht.fld (Or.inl rfl)).trans ((fld_of_regs hv _).trans hoff),
    ?_, ?_, fun n hn lo hi h => ?_⟩
  · rw [ht.flag (Or.inl rfl), flag_of_fld (fld_of_regs hv _), hg, hu.flag (Or.inl rfl), setLines_give]
  · rw [ht.flag (Or.inl rfl), flag_of_fld (fld_of_regs hv _), hk, hu.flag (Or.inl rfl), setLines_take]
  · exact ht.told n hn lo hi ((told_of_regs hv).2 (hs.told n hn lo hi (hu.told n hn lo hi (hl.told n hn lo hi (hx.told n hn lo hi h)))))

theorem giveUp_gone (s : State) (row rec src : Nat) (b : Bool) : Gone s 2 (s.giveUp row rec src b) := by
  unfold State.giveUp
  extract_lets s1 tricks s2 s3 s4 s5 cpm s6
  have h2 : Calm s1 s2 := .ite (tell_calm s1 _) .refl
  have h3 : Calm s2 s3 := (rimSend_calm s2 _).trans (stopTasks_calm _ _)
  have h4 : Calm s3 s4 := (setFlag_calm s3 _ (by decide)).trans (canRestrict_all_calm true _)
  have h6 : Calm s6 (((s6.runRecord 3 (if rec = 0 then 3 else rec)).stopRecord src).raise 47 (Config.giveUpCode row).toNat 0) :=
    ((runRecord_calm s6 _ _).trans (stopRecord_calm _ _)).trans (raise_calm _ (by decide) (by decide) _ _)
  exact Gone.of_calm (v := s6) (by decide) (swapDropped_steady s) ((h2.trans h3).trans h4) rfl rfl h6

theorem stationStop_gone (s : State) (rec src : Nat) : Gone s 5 (s.stationStop rec src) := by
  unfold State.stationStop
  extract_lets s1 s2 s3 cpm s4
  have h1 : Steady s (s1.safeRequest) := ((swapDropped_steady s).trans (stopTasks_calm _ _).toSteady).trans
    ((setFlag_calm _ _ (by decide)).trans (safeRequest_calm s1)).toSteady
  have h2 : Calm (s1.safeRequest.setLines true false) s2 := setFlag_calm _ _ (by decide)
  have h4 : Calm s4 (((s4.canRestrict true (List.range 4)).runRecord 3 (if rec = 0 then 2 else rec)).stopRecord src) :=
    ((canRestrict_all_calm true s4).trans (runRecord_calm _ _ _)).trans (stopRecord_calm _ _)
  exact Gone.of_calm (v := s4) (by decide) h1 h2 rfl rfl h4

/-! ### Negotiation (R453) -/

/-- A NEGOTIATE noted. -/
def negNoted (s : State) (pos build chk : Nat) (conf : Bool) : State :=
  ({ s with rdl := { s.rdl with neg := some (pos, build, chk, conf) } } : State).setFlag Reg.RDL_STAT_PCONF conf

theorem negotiateMsg_up {s : State} {pos : Nat} (hl : s.flag Reg.RDL_LINK_UP = true) (hp : pos ≤ 1) (build chk : Nat) (conf : Bool) :
    negotiateMsg pos build chk conf s = (negNoted s pos build chk conf).negotiateStep :=
  if_neg fun h => h.elim (fun h => h hl) (fun h => Nat.not_lt.2 hp h)

theorem negNoted_calm_fields (s : State) (pos build chk : Nat) (conf : Bool) : Steady s (negNoted s pos build chk conf) ∧
    (∀ f : Field, f.lo + f.width ≤ 7 ∨ 8 ≤ f.lo → f.lo + f.width ≤ 32 → (negNoted s pos build chk conf).fld f = s.fld f) ∧
    (∀ a, a ≠ Reg.RDL_STAT → (negNoted s pos build chk conf).reg a = s.reg a) := by
  unfold negNoted
  refine ⟨(setRdl_calm s _).toSteady.trans (setFlag_steady _ _ (by decide)), fun f hd hw => ?_, fun a ha => ?_⟩
  · have h1 : Reg.RDL_STAT_PCONF.lo = 7 ∧ Reg.RDL_STAT_PCONF.width = 1 := by decide
    rw [fld_setFlag_other _ _ hw (by omega), fld_mk]
  · rw [reg_setFlag_ne _ _ ha, reg_mk]

theorem negNoted_rest (s : State) (pos build chk : Nat) (conf : Bool) : (negNoted s pos build chk conf).cpm = s.cpm ∧
    (negNoted s pos build chk conf).rdl.neg = some (pos, build, chk, conf) ∧ (negNoted s pos build chk conf).img = s.img ∧
    (negNoted s pos build chk conf).ptp = s.ptp := ⟨rfl, rfl, rfl, rfl⟩

/-- The steps against a known partner, once a level is accepted. -/
theorem negotiateStep_some {s : State} {pos b c : Nat} {conf : Bool} (hp : s.cpm.phase = .negotiating) (hs : s.cpm.giveSeen = true)
    (hi : s.cpm.giveIndet = false) (hn : s.rdl.neg = some (pos, b, c, conf)) : s.negotiateStep =
    if pos = s.fld Reg.RDL_STAT_POS then (s.raise 58 1 0).negotiationEnds
    else if ¬ s.flag Reg.RDL_STAT_GIVE_I then s.enterJoin
    else if s.winsNegotiation conf then s.takeControl
    else s.enterJoin := by
  unfold State.negotiateStep
  rw [if_neg (by simp [hp, hs, hi])]
  simp only [hn]

theorem negotiateStep_idle {s : State} (hp : s.cpm.phase ≠ .negotiating) : s.negotiateStep = s := if_pos (Or.inl hp)

/-- The unit stays in HALT with OFFCAUSE 5. -/
theorem negotiationEnds_halts (s : State) : s.negotiationEnds.cpm.phase = .halt ∧ s.negotiationEnds.fld Reg.RDL_STAT_ROLE = 0 ∧
    s.negotiationEnds.fld Reg.RDL_STAT_OFFCAUSE = 5 ∧ s.negotiationEnds.flag Reg.RDL_STAT_HOFAIL = s.flag Reg.RDL_STAT_HOFAIL ∧
    ∀ n, notice n → ∀ lo hi, s.told n lo hi → s.negotiationEnds.told n lo hi := by
  have hh := enterHalt_halted (s.setFld Reg.RDL_STAT_OFFCAUSE 5)
  refine ⟨hh.phase, hh.role, (hh.stat _ rfl (by decide) (by decide)).trans (fld_setFld_of_lt _ (by decide) (by decide)), flag_of_fld ?_,
    fun n hn lo hi h => hh.told n hn lo hi ((setFld_steady s _ (by decide)).told n hn lo hi h)⟩
  exact (hh.stat _ rfl (by decide) (by decide)).trans (fld_setFld_other _ _ (by decide) (by decide))

theorem negotiationEnds_within (s : State) : Within 447755586823 s s.negotiationEnds := State_negotiationEnds_within rfl .refl

theorem enterJoin_asked {s : State} (hr : s.fld Reg.RDL_STAT_ROLE = 0) (hh : s.cpm.haltOnStop = false) (hj : s.fld Reg.RDL_JOIN_PHASE = 0)
    (hl : s.flag Reg.RDL_LINK_UP = true) : s.enterJoin.cpm.phase = .run ∧ JoinAsked s.beginRunState s.enterJoin := by
  have hb := beginRunState_calm s
  obtain ⟨hp, hhs, _, _⟩ := runShown_shows s
  have hreg : ∀ a, pairReg a → s.beginRunState.reg a = s.reg a := fun a => beginRunState_pair s
  have hrun : s.beginRunState.cpm.phase = .run := hb.phase.trans hp
  refine ⟨(joinStart_steady _).phase.trans hrun, joinStart_asked ?_ hrun (hb.haltOnStop.trans (hhs.trans hh)) ?_ ?_⟩
  · exact (fld_of_reg (hreg _ (by decide))).trans hr
  · exact (fld_of_reg (hreg _ (by decide))).trans hj
  · exact (flag_of_fld (fld_of_reg (hreg _ (by decide)))).trans hl

/-! ### The handover inputs (R38, R39) -/

/-- A level of HO_GIVE_I accepted. -/
def giveShown (s : State) (a : Bool) : State :=
  ({ s with cpm := { s.cpm with giveSeen := true, giveIndet := false } } : State).setFlag Reg.RDL_STAT_GIVE_I a

theorem giveLevel_still {s : State} {a : Bool} (hp : s.cpm.phase ≠ .negotiating) (h : s.cpm.giveSeen = false ∨ a = false) :
    s.giveLevel a = giveShown s a := by
  have hi : (giveShown s a).negotiateStep = giveShown s a := negotiateStep_idle hp
  unfold giveShown at hi ⊢
  unfold State.giveLevel
  dsimp only
  rw [hi, if_neg]
  rcases h with h | h
  · simp [h]
  · simp [h]

/-- A level of HO_TAKE_I accepted and passed on to the field side. -/
def takeShown (s : State) (a : Bool) : State :=
  (({ s with cpm := { s.cpm with takeSeen := true, takeIndet := false } } : State).setFlag Reg.RDL_STAT_TAKE_I a).rimSend (.ho a false)

theorem takeShown_role (s : State) (a : Bool) : (takeShown s a).fld Reg.RDL_STAT_ROLE = s.fld Reg.RDL_STAT_ROLE := by
  have h : (takeShown s a).regs = (({ s with cpm := { s.cpm with takeSeen := true, takeIndet := false } } : State).setFlag Reg.RDL_STAT_TAKE_I a).regs := rfl
  rw [fld_of_regs h, fld_setFlag_other _ _ (by decide) (by decide), fld_mk]

theorem takeShown_flag (s : State) (a : Bool) : (takeShown s a).flag Reg.RDL_STAT_TAKE_I = a := by
  have h : (takeShown s a).regs = (({ s with cpm := { s.cpm with takeSeen := true, takeIndet := false } } : State).setFlag Reg.RDL_STAT_TAKE_I a).regs := rfl
  rw [flag_of_fld (fld_of_regs h _)]
  exact flag_setFlag_same _ _ _ (by decide) (by decide)

theorem takeLevel_eq (s : State) (a : Bool) : s.takeLevel a =
    if a && decide ((takeShown s a).fld Reg.RDL_STAT_ROLE = 2) && (takeShown s a).runsOn then ((takeShown s a).raise 58 0 0).giveUp 7 0 58 true
    else takeShown s a := rfl

theorem hoAccept_on {s : State} (h1 : s.cpm.phase ≠ .off) (h2 : s.cpm.phase ≠ .ready) (line : HoLine) (a : Bool) :
    hoAccept line a s = match line with | .give => s.giveLevel a | .take => s.takeLevel a := if_neg fun h => h.elim h1 h2

/-- An indeterminate level noted for a line. -/
def indetNoted (s : State) : HoLine → State
  | .give => { s.setFlag Reg.RDL_STAT_HOFAIL true with cpm := { s.cpm with giveIndet := true } }
  | .take => { s.setFlag Reg.RDL_STAT_HOFAIL true with cpm := { s.cpm with takeIndet := true } }

theorem indetNoted_regs (s : State) (line : HoLine) : (indetNoted s line).regs = (s.setFlag Reg.RDL_STAT_HOFAIL true).regs := by
  cases line <;> rfl

theorem indetNoted_mem (s : State) (line : HoLine) : (indetNoted s line).mem = s.mem := by
  cases line <;> rfl

theorem hoIndet_on {s : State} (h1 : s.cpm.phase ≠ .off) (h2 : s.cpm.phase ≠ .ready) (line : HoLine) :
    hoIndet line s = (indetNoted s line).raise 56 (if line = .give then 0 else 1) 0 := by
  unfold hoIndet
  rw [if_neg fun h => h.elim h1 h2]
  cases line <;> rfl

end Sys2Proof.Proofs

/-! Negotiation at start-up and the handover inputs (R38, R39, R453). -/

namespace Sys2Proof.Proofs
open Sys2Proof Sys2Proof.Machine Sys2Proof.Laws

theorem ptpMode_congr {s t : State} (hi : t.img = s.img) (hp : t.ptp = s.ptp) : t.ptpMode = s.ptpMode := by
  unfold State.ptpMode State.ptpTag
  rw [hi, hp]

/-- The unit that wins takes control: it negotiates with a known partner whose give line is asserted. -/
theorem negotiateStep_wins {s : State} {pos b c : Nat} {conf : Bool} (hp : s.cpm.phase = .negotiating) (hs : s.cpm.giveSeen = true)
    (hi : s.cpm.giveIndet = false) (hn : s.rdl.neg = some (pos, b, c, conf)) (hd : pos ≠ s.fld Reg.RDL_STAT_POS)
    (hg : s.flag Reg.RDL_STAT_GIVE_I = true) (hm : s.ptpMode = 0) (hw : s.winsNegotiation conf = true) : s.negotiateStep = s.enterRun := by
  rw [negotiateStep_some hp hs hi hn, if_neg hd, if_neg (fun h => h hg), if_pos hw, takeControl_noPtp hm]

theorem winsNegotiation_iff (s : State) (conf : Bool) :
    s.winsNegotiation conf = true ↔ (if s.ownConf = conf then s.fld Reg.RDL_STAT_POS = 0 else s.ownConf = true) := by
  unfold State.winsNegotiation
  split
  · exact decide_eq_true_iff
  · exact Iff.rfl

theorem negNoted_wins (s : State) (pos build chk : Nat) (conf : Bool) :
    (negNoted s pos build chk conf).winsNegotiation conf = s.winsNegotiation conf := by
  obtain ⟨_, hf, hr⟩ := negNoted_calm_fields s pos build chk conf
  have ho : (negNoted s pos build chk conf).ownConf = s.ownConf := flag_of_fld (fld_of_reg (hr _ (by decide)))
  unfold State.winsNegotiation
  rw [ho, hf Reg.RDL_STAT_POS (by decide) (by decide)]

/-- The wait for a partner's NEGOTIATE has passed. -/
def waitPassed (s : State) : State := s.toMono (s.cpm.negAt + (if s.fld Reg.RDL_STAT_POS = 0 then 200000000 else 300000000))

/-- A give line that stays indeterminate, shown one second after the negotiation began. -/
def lineFailed (s : State) : State := (s.toMono (s.cpm.negAt + 1000000000)).setFlag Reg.RDL_STAT_HOFAIL true

theorem negotiateIndet_eq {s : State} (hp : s.cpm.phase = .negotiating) (hi : s.cpm.giveIndet = true) :
    negotiateIndet s = ((lineFailed s).raise 56 0 0).negotiationEnds := if_pos ⟨hp, Or.inl hi⟩

theorem lineFailed_shows (s : State) : (lineFailed s).flag Reg.RDL_STAT_HOFAIL = true ∧ s.cpm.negAt + 1000000000 ≤ (lineFailed s).mono := by
  unfold lineFailed
  refine ⟨flag_setFlag_same _ _ _ (by decide) (by decide), ?_⟩
  rw [setFlag_mono]
  exact le_toMono_mono _ _

theorem waitPassed_carrier (s : State) : (waitPassed s).onPairCarrier = s.onPairCarrier :=
  (Calm.of_within (toMono_within s _) (by decide) (by decide)).onPairCarrier

theorem giveShown_rest (s : State) (a : Bool) : (giveShown s a).cpm.giveSeen = true ∧ (giveShown s a).cpm.giveIndet = false ∧
    (giveShown s a).mem = s.mem := ⟨rfl, rfl, rfl⟩

theorem takeShown_rest (s : State) (a : Bool) : (takeShown s a).toField = s.toField ++ [.ho a false] ∧ (takeShown s a).cpm.takeSeen = true ∧
    (takeShown s a).mem = s.mem := ⟨rfl, rfl, rfl⟩

theorem takeShown_runsOn (s : State) (a : Bool) : (takeShown s a).runsOn = s.runsOn := rfl

theorem negotiateTimeout_takes {s : State} (hp : s.cpm.phase = .negotiating) (hs : s.cpm.giveSeen = true) (hi : s.cpm.giveIndet = false)
    (hn : s.rdl.neg = none) (hg : s.flag Reg.RDL_STAT_GIVE_I = true) (hm : s.ptpMode = 0) : negotiateTimeout s = (waitPassed s).enterRun := by
  have hg' : (waitPassed s).flag Reg.RDL_STAT_GIVE_I = true := (toMono_flag s _ _).trans hg
  have hm' : (waitPassed s).ptpMode = 0 := (ptpMode_congr ((toMono_within s _).img_eq (by decide)) ((toMono_within s _).ptp_eq (by decide))).trans hm
  unfold negotiateTimeout
  rw [if_neg (by simp [hp, hs, hi, hn])]
  exact (if_pos hg').trans (takeControl_noPtp hm')

theorem giveUp_within (s : State) (row rec src : Nat) (b : Bool) : Within 447755685127 s (s.giveUp row rec src b) := State_giveUp_within rfl .refl

/-- Settles O49: the partner's NEGOTIATE and its time-outs, and the two handover inputs. -/
theorem negotiationAndHandoverInputs : Obligations.NegotiationAndHandoverInputs := by
  unfold Obligations.NegotiationAndHandoverInputs
  intro s pos build chk conf a line
  obtain ⟨hst, hf, hr⟩ := negNoted_calm_fields s pos build chk conf
  obtain ⟨hcpm, hneg, himg, hptp⟩ := negNoted_rest s pos build chk conf
  have hpos : (negNoted s pos build chk conf).fld Reg.RDL_STAT_POS = s.fld Reg.RDL_STAT_POS := hf _ (by decide) (by decide)
  have hgive : (negNoted s pos build chk conf).flag Reg.RDL_STAT_GIVE_I = s.flag Reg.RDL_STAT_GIVE_I := flag_of_fld (hf _ (by decide) (by decide))
  refine ⟨fun hp hs hi => ⟨fun hl h1 hc => ?conflict, fun hl h1 hd hg hm hw => ?wins, fun hl h1 hd hg hrole hh hj => ?joins, fun hn hg hm => ?timeout⟩,
    fun hl => next_pos (Or.inl (Bool.eq_false_iff.1 hl)), fun h => next_pos ?_, fun hp hi => ?indet, fun h1 h2 =>
      ⟨fun hp h => ?give, fun h => ?take, fun hrole hon => ?giveUp, ?indeterminate⟩, fun h => ⟨next_pos (Or.inl h), next_pos (Or.inl h)⟩⟩
  case conflict =>
    have he := negotiateStep_some (s := negNoted s pos build chk conf) (by rw [hcpm, hp]) (by rw [hcpm, hs]) (by rw [hcpm, hi]) hneg
    rw [if_pos (hc.trans hpos.symm)] at he
    obtain ⟨hhalt, hrole, hoff, _, htold⟩ := negotiationEnds_halts ((negNoted s pos build chk conf).raise 58 1 0)
    exact ⟨_, next_eq ((negotiateMsg_up hl h1 _ _ _).trans he), hhalt, hrole, hoff,
      htold 58 (by decide) _ _ (raise_told _ (by decide) (by decide) _ _)⟩
  case wins =>
    have hm' : (negNoted s pos build chk conf).ptpMode = 0 := (ptpMode_congr himg hptp).trans hm
    have he := negotiateStep_wins (s := negNoted s pos build chk conf) (by rw [hcpm, hp]) (by rw [hcpm, hs]) (by rw [hcpm, hi]) hneg
      (by rw [hpos]; exact hd) (by rw [hgive, hg]) hm' ((negNoted_wins s pos build chk conf).trans ((winsNegotiation_iff s conf).2 hw))
    have hrun := enterRun_inRun (negNoted s pos build chk conf)
    exact ⟨_, next_eq ((negotiateMsg_up hl h1 _ _ _).trans he), hrun.phase, by rw [hrun.role, hst.onPairCarrier], hrun.take⟩
  case joins =>
    have he := negotiateStep_some (s := negNoted s pos build chk conf) (by rw [hcpm, hp]) (by rw [hcpm, hs]) (by rw [hcpm, hi]) hneg
    rw [if_neg (by rw [hpos]; exact hd), if_pos (by rw [hgive, hg]; exact Bool.false_ne_true)] at he
    obtain ⟨hrun, hj'⟩ := enterJoin_asked (s := negNoted s pos build chk conf) ((hf _ (by decide) (by decide)).trans hrole) (by rw [hcpm, hh])
      ((fld_of_reg (hr _ (by decide))).trans hj) ((flag_of_fld (fld_of_reg (hr _ (by decide)))).trans hl)
    exact ⟨_, next_eq ((negotiateMsg_up hl h1 _ _ _).trans he), hrun, hj'.role, hj'.offcause, hj'.phase⟩
  case timeout =>
    have hrun := enterRun_inRun (waitPassed s)
    refine ⟨_, next_eq (negotiateTimeout_takes hp hs hi hn hg hm), hrun.phase, ?_, ?_⟩
    · rw [hrun.role, waitPassed_carrier]
    · rw [(enterRun_within _).mono_eq (by decide)]
      exact le_toMono_mono _ _
  · rcases h with h | h | h
    · exact Or.inl h
    · exact Or.inr (Or.inr (Or.inl h))
    · exact Or.inr (Or.inr (Or.inr h))
  case indet =>
    obtain ⟨hhalt, hrole, hoff, hfail, htold⟩ := negotiationEnds_halts ((lineFailed s).raise 56 0 0)
    obtain ⟨hflag, hmono⟩ := lineFailed_shows s
    refine ⟨_, next_eq (negotiateIndet_eq hp hi), hhalt, hrole, hoff, ?_, htold 56 (by decide) _ _ (raise_told _ (by decide) (by decide) _ _), ?_⟩
    · rw [hfail, raise_flag _ (by decide) (by decide), hflag]
    · rw [(negotiationEnds_within _).mono_eq (by decide), raise_mono]
      exact hmono
  case give =>
    obtain ⟨hseen, hindet, hmem⟩ := giveShown_rest s a
    have he : hoAccept .give a s = giveShown s a := (hoAccept_on h1 h2 .give a).trans (giveLevel_still hp h)
    refine ⟨_, next_eq he, flag_setFlag_same _ _ _ (by decide) (by decide), hseen, hindet, hmem, ?_⟩
    unfold giveShown
    rw [fld_setFlag_other _ _ (by decide) (by decide), fld_mk]
  case take =>
    have hn : ¬ (a && decide ((takeShown s a).fld Reg.RDL_STAT_ROLE = 2) && (takeShown s a).runsOn) = true := by
      rw [takeShown_role]
      simp [h]
    have he : hoAccept .take a s = takeShown s a := (hoAccept_on h1 h2 .take a).trans ((takeLevel_eq s a).trans (if_neg hn))
    obtain ⟨hfield, hseen, hmem⟩ := takeShown_rest s a
    exact ⟨_, next_eq he, takeShown_flag s a, hfield, hseen, hmem⟩
  case giveUp =>
    have hy : (true && decide ((takeShown s true).fld Reg.RDL_STAT_ROLE = 2) && (takeShown s true).runsOn) = true := by
      have hon' : (takeShown s true).runsOn = true := (takeShown_runsOn s true).trans hon
      rw [takeShown_role, hon']
      simp [hrole]
    have he : hoAccept .take true s = ((takeShown s true).raise 58 0 0).giveUp 7 0 58 true :=
      (hoAccept_on h1 h2 .take true).trans ((takeLevel_eq s true).trans (if_pos hy))
    have hg := giveUp_gone ((takeShown s true).raise 58 0 0) 7 0 58 true
    exact ⟨_, next_eq he, hg.told 58 (by decide) _ _ (raise_told _ (by decide) (by decide) _ _), hg.role, hg.offcause, hg.give, hg.take⟩
  case indeterminate =>
    refine ⟨_, next_eq (hoIndet_on h1 h2 line), ?_, raise_told _ (by decide) (by decide) _ _, ?_, (raise_mem _ _ _ _).trans (indetNoted_mem s line)⟩
    · rw [raise_flag _ (by decide) (by decide), flag_of_fld (fld_of_regs (indetNoted_regs s line) _)]
      exact flag_setFlag_same _ _ _ (by decide) (by decide)
    · rw [raise_fld _ (by decide) (by decide), fld_of_regs (indetNoted_regs s line), fld_setFlag_other _ _ (by decide) (by decide)]

end Sys2Proof.Proofs

/-! Planned swaps of the roles (R474 to R476). -/

namespace Sys2Proof.Proofs
open Sys2Proof Sys2Proof.Machine Sys2Proof.Laws

/-! ### RDL_CTRL -/

theorem rdlCtrl_noKey {m : Master} {w : Word} (hm : m.isPair = true) (hk : wordField w 8 8 ≠ 0x69) (s : State) : rdlCtrl m w s = s := by
  unfold rdlCtrl
  rw [if_neg (fun h => h (mayWriteRegs_of_isPair hm)), if_pos hk]

theorem rdlCtrl_swap {m : Master} {w : Word} {s : State} (hm : m.isPair = true) (hk : wordField w 8 8 = 0x69) (h0 : w.getLsbD 0 = true)
    (h1 : w.getLsbD 1 = false) (h2 : w.getLsbD 2 = false) (hr : s.fld Reg.RDL_STAT_ROLE = 2) (hp : s.cpm.phase = .run) :
    rdlCtrl m w s = s.swapRequest := by
  unfold rdlCtrl
  rw [if_neg (fun h => h (mayWriteRegs_of_isPair hm)), if_neg (fun h => h hk)]
  simp only [h0, h1, h2, hr, hp, and_self, if_true, Bool.false_eq_true, false_and, if_false]

theorem rdlCtrl_join {m : Master} {w : Word} {s : State} (hm : m.isPair = true) (hk : wordField w 8 8 = 0x69) (h0 : w.getLsbD 0 = false)
    (h1 : w.getLsbD 1 = true) (h2 : w.getLsbD 2 = false) : rdlCtrl m w s = s.joinStart := by
  unfold rdlCtrl
  rw [if_neg (fun h => h (mayWriteRegs_of_isPair hm)), if_neg (fun h => h hk)]
  simp only [h0, h1, h2, if_true, Bool.false_eq_true, false_and, if_false]

theorem rdlCtrl_give {m : Master} {w : Word} {s : State} (hm : m.isPair = true) (hk : wordField w 8 8 = 0x69) (h0 : w.getLsbD 0 = false)
    (h1 : w.getLsbD 1 = false) (h2 : w.getLsbD 2 = true) : rdlCtrl m w s = if s.inControl then s.unitFault 8 0 0 true else s := by
  unfold rdlCtrl
  rw [if_neg (fun h => h (mayWriteRegs_of_isPair hm)), if_neg (fun h => h hk)]
  simp only [h0, h1, h2, true_and, Bool.false_eq_true, false_and, if_false]

/-! ### A swap proposed or put off (R474) -/

theorem swapReady_congr {s t : State} (h : t.regs = s.regs) (hr : t.rdl = s.rdl) : t.swapReady = s.swapReady := by
  unfold State.swapReady State.partnerStandby
  simp only [flag_of_fld (fld_of_regs h _), fld_of_regs h, hr]

theorem swapUnderWay_congr {s t : State} (h : t.regs = s.regs) (hr : t.rdl = s.rdl) : t.swapUnderWay = s.swapUnderWay := by
  unfold State.swapUnderWay
  simp only [fld_of_regs h, hr]

/-- A swap can be proposed only while the link is up. -/
theorem link_of_swapReady {s : State} (h : s.swapReady = true) : s.flag Reg.RDL_LINK_UP = true := by
  unfold State.swapReady at h
  simp only [Bool.and_eq_true] at h
  exact h.1.1.1.2

theorem swapRequest_ready {s : State} (hu : s.swapUnderWay = false) (hr : s.swapReady = true) : s.swapRequest =
    ({ s with rdl := { s.rdl with swapAsked := true, swapTest := none } } : State).tell (.swapProp (s.t0After (s.now + 100000000)) false) := by
  unfold State.swapRequest
  rw [if_neg (Bool.eq_false_iff.1 hu), if_pos hr]

theorem swapRequest_unready {s : State} (hu : s.swapUnderWay = false) (hr : s.swapReady = false) : s.swapRequest = s.swapDefer := by
  unfold State.swapRequest
  rw [if_neg (Bool.eq_false_iff.1 hu), if_neg (Bool.eq_false_iff.1 hr)]

theorem swapPhase_within (s : State) (p : Nat) : Within 1285 s (s.swapPhase p) := State_swapPhase_within rfl .refl

/-- A swap proposed: the message sent and nothing shown. -/
theorem swapRequest_proposes {s : State} (hu : s.swapUnderWay = false) (hr : s.swapReady = true) : s.swapRequest.rdl.swapAsked = true ∧
    s.swapRequest.regs = s.regs ∧ s.swapRequest.outbox = s.outbox ++ [.rolent (.swapProp (s.t0After (s.now + 100000000)) false)] ∧
    s.swapRequest.mono = s.mono := by
  rw [swapRequest_ready hu hr]
  have hw := tell_within ({ s with rdl := { s.rdl with swapAsked := true, swapTest := none } } : State) (.swapProp (s.t0After (s.now + 100000000)) false)
  refine ⟨?_, hw.regs_eq (by decide), tell_outbox ((flag_mk s _).trans (link_of_swapReady hr)) _, hw.mono_eq (by decide)⟩
  rw [hw.rdl_eq (by decide)]

/-- A swap put off, to be tested again. -/
theorem swapDefer_shows (s : State) : s.swapDefer.rdl.swapAsked = false ∧ s.swapDefer.rdl.swapTest = some s.mono ∧
    s.swapDefer.fld Reg.RDL_SWAP_PHASE = 5 ∧ s.swapDefer.outbox = s.outbox := by
  unfold State.swapDefer
  have hw := swapPhase_within ({ s with rdl := { s.rdl with swapAsked := false, swapTest := some s.mono } } : State) 5
  refine ⟨?_, ?_, swapPhase_phase _ (by decide), hw.outbox_eq (by decide)⟩
  · rw [hw.rdl_eq (by decide)]
  · rw [hw.rdl_eq (by decide)]

/-- The time of the next test of a swap that was put off. -/
theorem swapDue_tests {s : State} {n : Nat} (hr : s.fld Reg.RDL_STAT_ROLE = 2) (hp : s.cpm.phase = .run) (hn : s.rdl.swapTest = some n) :
    swapDue s = (s.toMono (n + 600000000000)).swapRequest := by
  unfold swapDue
  rw [if_neg (fun h => h.elim (fun h => h hr) (fun h => h hp))]
  simp only [hn]

theorem swapDue_hours {s : State} (hr : s.fld Reg.RDL_STAT_ROLE = 2) (hp : s.cpm.phase = .run) (hn : s.rdl.swapTest = none)
    (hh : s.fld Reg.RDL_CFG_SWAP_H ≠ 0) (hd : s.rdl.swapOp + 3600 * s.fld Reg.RDL_CFG_SWAP_H ≤ s.fld Reg.CPM_OPSEC_OPSEC) :
    swapDue s = s.swapRequest := by
  unfold swapDue
  rw [if_neg (fun h => h.elim (fun h => h hr) (fun h => h hp))]
  simp only [hn]
  exact if_pos ⟨hh, hd⟩

theorem swapDue_never {s : State} (hn : s.rdl.swapTest = none) (hh : s.fld Reg.RDL_CFG_SWAP_H = 0) : swapDue s = s := by
  unfold swapDue
  split
  · rfl
  · simp only [hn]
    exact if_neg fun h => h.1 hh

/-! ### t_s fixed, and given up (R475, R476) -/

theorem swapFix_shows (s : State) (ts : Nat) (mine : Bool) : (s.swapFix ts mine).rdl.swapAt = some ts ∧ (s.swapFix ts mine).rdl.swapFrom = mine ∧
    (s.swapFix ts mine).fld Reg.RDL_SWAP_PHASE = 1 ∧ (s.swapFix ts mine).outbox = s.outbox ∧
    ∀ a, eventTouches a = false → a ≠ Reg.RDL_SWAP → (s.swapFix ts mine).reg a = s.reg a := by
  unfold State.swapFix
  have hw := swapPhase_within ({ s with rdl := { s.rdl with swapAt := some ts, swapFrom := mine, swapAsked := false, swapTest := none } } : State) 1
  refine ⟨?_, ?_, swapPhase_phase _ (by decide), hw.outbox_eq (by decide), fun a hq ha => (swapPhase_reg _ _ hq ha).trans (reg_mk s a)⟩
  · rw [hw.rdl_eq (by decide)]
  · rw [hw.rdl_eq (by decide)]

theorem swapFix_link (s : State) (ts : Nat) (mine : Bool) : (s.swapFix ts mine).flag Reg.RDL_LINK_UP = s.flag Reg.RDL_LINK_UP := by
  obtain ⟨_, _, _, _, hreg⟩ := swapFix_shows s ts mine
  exact flag_of_fld (fld_of_reg (hreg _ (by decide) (by decide)))

theorem swapProp_plain {s : State} (hl : s.flag Reg.RDL_LINK_UP = true) (hc : s.inControl = false) (hp : s.fld Reg.RDL_SWAP_PHASE ≠ 1) (ts : Nat) :
    swapProp ts false s = if s.swapAccepts then (s.swapFix ts false).tell (.swapAck ts true) else s.tell (.swapAck ts false) := by
  unfold swapProp
  rw [if_neg (fun h => h.elim (fun h => h hl) (fun h => Bool.eq_false_iff.1 hc h)), if_neg Bool.false_ne_true, if_neg hp]

theorem swapAck_ready {s : State} (ha : s.rdl.swapAsked = true) (hr : s.swapReady = true) (ts : Nat) : swapAck ts true s =
    if s.t0After (s.now + 100000000) = ts then s.swapFix (s.t0After (s.now + 100000000)) true
    else (s.swapFix (s.t0After (s.now + 100000000)) true).tell (.swapProp (s.t0After (s.now + 100000000)) false) := by
  unfold swapAck
  rw [if_pos ha, if_pos ⟨rfl, hr⟩]

theorem swapAck_refused {s : State} (ha : s.rdl.swapAsked = true) (ts : Nat) : swapAck ts false s = s.swapDefer := by
  unfold swapAck
  rw [if_pos ha, if_neg (fun h => Bool.false_ne_true h.1)]

/-- Whether a swap-load is under way rests on the load, the role, the phase of the Weave's swap, and the carry. -/
theorem swapLoading_congr {s t : State} (hl : t.load = s.load) (hr : t.fld Reg.RDL_STAT_ROLE = s.fld Reg.RDL_STAT_ROLE)
    (hp : t.fld Reg.WVE_SWAP_PHASE = s.fld Reg.WVE_SWAP_PHASE) (hc : t.rdl.carryEnd = s.rdl.carryEnd) : t.swapLoading = s.swapLoading := by
  unfold State.swapLoading
  rw [hl, hr, hp, hc]

theorem abandonSwap_none {s : State} (h : s.swapLoading = false) : s.abandonSwap = s := if_neg (Bool.eq_false_iff.1 h)

/-- t_s forgotten. -/
def swapForgotten (s : State) : State := { s with rdl := { s.rdl with swapAt := none, swapFrom := false, swapAsked := false } }

theorem swapForgotten_loading (s : State) : (swapForgotten s).swapLoading = s.swapLoading :=
  swapLoading_congr rfl (fld_mk s _) (fld_mk s _) rfl

theorem swapPhase_loading (s : State) (p : Nat) : (s.swapPhase p).swapLoading = s.swapLoading := by
  have hw := swapPhase_within s p
  exact swapLoading_congr (hw.load_eq (by decide)) (fld_of_reg (swapPhase_reg s p (by decide) (by decide)))
    (fld_of_reg (swapPhase_reg s p (by decide) (by decide))) (congrArg Rdl.carryEnd (hw.rdl_eq (by decide)))

/-- Without a swap-load a planned swap ends with its phase. -/
theorem swapEnd_planned {s : State} {ts : Nat} (ha : s.rdl.swapAt = some ts) (hl : s.swapLoading = false) (ht : s.now < ts) : s.swapEnd =
    (swapForgotten s).swapPhase (if s.now + 1050000 < ts then 0 else 4) := by
  unfold State.swapEnd
  simp only [ha]
  rw [if_neg (Nat.not_le.2 ht)]
  exact congrArg (fun u : State => u.swapPhase _) (abandonSwap_none ((swapForgotten_loading s).trans hl))

theorem swapCancelMsg_planned {s : State} {ts : Nat} (ha : s.rdl.swapAt = some ts) (hl : s.swapLoading = false) (ht : s.now + 1050000 < ts) :
    swapCancelMsg s = (swapForgotten s).swapPhase 0 := by
  have he := swapEnd_planned ha hl (by omega)
  rw [if_pos ht] at he
  unfold swapCancelMsg
  dsimp only
  rw [if_neg (fun h => Bool.eq_false_iff.1 hl h.1), he]
  exact abandonSwap_none ((swapPhase_loading _ _).trans ((swapForgotten_loading s).trans hl))

/-! ### The instants of the sequence (R475) -/

theorem trickBit_calmAt {c : Nat} (h : c < 16) : calmAt (Reg.IMG_TRICK_PENDING c).addr := by
  show calmAt (Reg.IMG_TRICK c)
  unfold Reg.IMG_TRICK calmAt steadyAt
  omega

theorem applyTrick_calm (s : State) {c : Nat} (a : Nat) (h : c < 16) : Calm s (s.applyTrick c a) := by
  unfold State.applyTrick
  extract_lets k s1
  have h1 : Calm s s1 := (setTask_calm s c _).trans (setFlag_calm _ false (trickBit_calmAt h))
  clear_value s1
  exact h1.trans (.ite (.of_within (k := 67108864) (State_safApply_within rfl .refl) (by decide) (by decide)) .refl)

theorem applyDue_calm (s : State) (t : Nat) : Calm s (s.applyDue t) := by
  have h : ∀ (l : List Nat) (s : State), (∀ c ∈ l, c < 16) →
      Calm s (l.foldl (fun s c => match (s.task c).applyAt with | some a => if a ≤ t then s.applyTrick c a else s | none => s) s) := by
    intro l
    induction l with
    | nil => exact fun _ _ => .refl
    | cons c l ih =>
      intro s hl
      refine Calm.trans ?_ (ih _ fun d hd => hl d (List.mem_cons_of_mem _ hd))
      dsimp only
      split
      · exact .ite (applyTrick_calm s _ (hl c List.mem_cons_self)) .refl
      · exact .refl
  exact h _ s (by decide)

theorem lose_calm (c : Nat) : ∀ (n : Nat) (s : State), Calm s (s.lose c n)
  | 0, _ => .refl
  | n + 1, s => ((setFld_calm s _ (by decide)).trans (raise_calm _ (by decide) (by decide) _ _)).trans (lose_calm c n _)

theorem takeTask_calm (s : State) (td c : Nat) : Calm s (s.takeTask td c) := by
  unfold State.takeTask
  split
  · exact .refl
  · exact (setTask_calm s c _).trans (lose_calm c _ _)

theorem takeTasks_calm (s : State) (td : Nat) : Calm s (s.takeTasks td) := Calm.foldl (fun u c => takeTask_calm u td c) _ s

theorem restartF_calm (s : State) (t : Nat) : Calm s (s.restartF t) := by
  unfold State.restartF
  exact .ite ((setTask_calm s 8 _).trans (clearTaskBits_calm false [8] _ (by decide))) .refl

theorem takeLoops_calm (s : State) (td : Nat) : Calm s (s.takeLoops td) := setLoops_calm s _

/-- The partner's role as RDL_STAT shows it, after a write of it. -/
theorem setProle_shows (s : State) {p : Nat} (h : p < 8) : (s.setFld Reg.RDL_STAT_PROLE p).fld Reg.RDL_STAT_PROLE = p ∧
    (s.setFld Reg.RDL_STAT_PROLE p).fld Reg.RDL_STAT_ROLE = s.fld Reg.RDL_STAT_ROLE ∧
    (s.setFld Reg.RDL_STAT_PROLE p).flag Reg.RDL_STAT_GIVE_O = s.flag Reg.RDL_STAT_GIVE_O ∧
    (s.setFld Reg.RDL_STAT_PROLE p).flag Reg.RDL_STAT_TAKE_O = s.flag Reg.RDL_STAT_TAKE_O :=
  ⟨fld_setFld_of_lt _ h (by decide), fld_setFld_other _ _ (by decide) (by decide), flag_setFld_other _ _ (by decide) (by decide),
    flag_setFld_other _ _ (by decide) (by decide)⟩

/-- The old active after t_s. -/
theorem swapLeave_shows (s : State) : s.swapLeave.fld Reg.RDL_STAT_ROLE = 3 ∧ s.swapLeave.fld Reg.RDL_STAT_PROLE = 2 ∧
    s.swapLeave.flag Reg.RDL_STAT_GIVE_O = true ∧ s.swapLeave.flag Reg.RDL_STAT_TAKE_O = false := by
  unfold State.swapLeave
  extract_lets s1 s2
  have h1 := canRestrict_all_calm true s1
  have h2 : Calm s2 ((s2.setTask 8 (s2.task 8).abandon).clearTaskBits false [8]) := (setTask_calm s2 8 _).trans (clearTaskBits_calm false [8] _ (by decide))
  obtain ⟨hp, hr, hg, hk⟩ := setProle_shows (s1.canRestrict true (List.range 4)) (p := 2) (by decide)
  refine ⟨(h2.fld (Or.inl rfl)).trans (hr.trans ((h1.fld (Or.inl rfl)).trans ?_)), (h2.fld (Or.inl rfl)).trans hp,
    (h2.flag (Or.inl rfl)).trans (hg.trans ((h1.flag (Or.inl rfl)).trans (setLines_give _ _ _))),
    (h2.flag (Or.inl rfl)).trans (hk.trans ((h1.flag (Or.inl rfl)).trans (setLines_take _ _ _)))⟩
  exact (setLines_fld _ _ _ (by decide) (by decide)).trans (setRole_role s (by decide))

/-- The new active after t_s. -/
theorem swapEnter_shows (s : State) (ts : Nat) : (s.swapEnter ts).fld Reg.RDL_STAT_ROLE = 2 ∧ (s.swapEnter ts).fld Reg.RDL_STAT_PROLE = 3 := by
  unfold State.swapEnter
  extract_lets s1 s2
  have h : Calm s1 (s2.startBuses ts) := (((takeTasks_calm s1 ts).trans (restartF_calm _ ts)).trans (takeLoops_calm _ ts)).trans (startBuses_calm s2 ts)
  obtain ⟨hp, hr, _, _⟩ := setProle_shows (s.setRole 2) (p := 3) (by decide)
  exact ⟨(h.fld (Or.inl rfl)).trans (hr.trans (setRole_role s (by decide))), (h.fld (Or.inl rfl)).trans hp⟩

theorem swapPost_eq {s : State} {ts : Nat} (ha : s.rdl.swapAt = some ts) (hp : s.fld Reg.RDL_SWAP_PHASE = 1) (ht : s.now + 1050000 ≤ ts) :
    swapPost s = (s.toTime (ts - 1200000)).postMode (if s.rdl.swapFrom then 1 else 0) (if s.rdl.swapFrom then ts else ts - 1000000) := by
  have hr : (s.toTime (ts - 1200000)).rdl.swapFrom = s.rdl.swapFrom := congrArg Rdl.swapFrom ((toTime_within s _).rdl_eq (by decide))
  unfold swapPost
  simp only [ha]
  rw [if_neg (fun h => h.elim (fun h => h hp) (fun h => Nat.not_lt.2 ht h)), hr]
  split <;> rfl

/-- The overlap begun. -/
def overlapBegun (s : State) (ts : Nat) : State := (s.toTime (ts - 1050000)).swapPhase 2

theorem overlapBegun_stat (s : State) (ts : Nat) : (overlapBegun s ts).reg Reg.RDL_STAT = s.reg Reg.RDL_STAT :=
  (swapPhase_reg _ _ (by decide) (by decide)).trans (reg_of_regs_eq (toTime_regs _ _) _)

theorem overlapBegun_rest (s : State) (ts : Nat) : (overlapBegun s ts).rdl = s.rdl ∧ (overlapBegun s ts).now = (s.toTime (ts - 1050000)).now := by
  have hw := swapPhase_within (s.toTime (ts - 1050000)) 2
  exact ⟨(hw.rdl_eq (by decide)).trans ((toTime_within s _).rdl_eq (by decide)), hw.now_eq (by decide)⟩

theorem swapOverlap_eq {s : State} {ts : Nat} (ha : s.rdl.swapAt = some ts) (hp : s.fld Reg.RDL_SWAP_PHASE = 1) (ht : s.now ≤ ts) :
    swapOverlap s = if s.rdl.swapFrom then (overlapBegun s ts).setLines false false else overlapBegun s ts := by
  unfold swapOverlap
  simp only [ha]
  rw [if_neg (fun h => h.elim (fun h => h hp) (fun h => Nat.not_lt.2 ht h))]
  have h := (overlapBegun_rest s ts).1
  unfold overlapBegun at h ⊢
  rw [h]

theorem setLines_now (s : State) (g k : Bool) : (s.setLines g k).now = s.now := rfl

/-- Tricks that are due applied at an instant that has come. -/
def dueApplied (s : State) (ts : Nat) : State := (s.toTime ts).applyDue ts

theorem dueApplied_rest (s : State) (ts : Nat) : (dueApplied s ts).rdl = s.rdl ∧ (dueApplied s ts).now = (s.toTime ts).now := by
  have hw := applyDue_within (s.toTime ts) ts
  exact ⟨(hw.rdl_eq (by decide)).trans ((toTime_within s _).rdl_eq (by decide)), hw.now_eq (by decide)⟩

theorem swapInstant_eq {s : State} {ts : Nat} (ha : s.rdl.swapAt = some ts) (hp : s.fld Reg.RDL_SWAP_PHASE = 2) (hw : s.fld Reg.WVE_SWAP_PHASE ≠ 3)
    (ht : s.now ≤ ts) : swapInstant s = if s.rdl.swapFrom then (dueApplied s ts).swapLeave else (dueApplied s ts).swapEnter ts := by
  unfold swapInstant
  simp only [ha]
  rw [if_neg (fun h => h.elim (fun h => h hp) (fun h => h.elim hw (fun h => Nat.not_lt.2 ht h)))]
  have h := (dueApplied_rest s ts).1
  unfold dueApplied at h ⊢
  rw [h]

theorem swapLeave_now (s : State) : s.swapLeave.now = s.now := (State_swapLeave_within (k := 413395848455) rfl .refl).now_eq (by decide)

theorem swapEnter_now (s : State) (ts : Nat) : (s.swapEnter ts).now = s.now := (State_swapEnter_within (k := 414066937095) rfl .refl).now_eq (by decide)

/-- The swap's end: the lines of the new active, and t_s forgotten. -/
def swapEnded (s : State) (ts : Nat) : State :=
  let u := s.toTime (ts + 20000)
  let u := if u.rdl.swapFrom then u else u.setLines false true
  { u with rdl := { u.rdl with swapAt := none, swapFrom := false, swapOp := u.fld Reg.CPM_OPSEC_OPSEC } }

theorem swapDone_eq {s : State} {ts : Nat} (ha : s.rdl.swapAt = some ts) (hp : s.fld Reg.RDL_SWAP_PHASE = 2) (ht : ts ≤ s.now) :
    swapDone s = (swapEnded s ts).swapPhase 3 := by
  unfold swapDone
  simp only [ha]
  rw [if_neg (fun h => h.elim (fun h => h hp) (fun h => Nat.not_lt.2 ht h))]
  rfl

theorem swapEnded_rest (s : State) (ts : Nat) : (swapEnded s ts).rdl.swapAt = none ∧ (swapEnded s ts).rdl.swapOp = s.fld Reg.CPM_OPSEC_OPSEC ∧
    (swapEnded s ts).now = (s.toTime (ts + 20000)).now ∧
    (s.rdl.swapFrom = false → (swapEnded s ts).flag Reg.RDL_STAT_TAKE_O = true ∧ (swapEnded s ts).flag Reg.RDL_STAT_GIVE_O = false) := by
  have hr := (toTime_within s (ts + 20000)).rdl_eq (by decide)
  have hf := toTime_regs s (ts + 20000)
  unfold swapEnded
  generalize s.toTime (ts + 20000) = u at hr hf ⊢
  dsimp only
  rw [hr]
  split
  case isTrue h => exact ⟨rfl, fld_of_regs hf _, rfl, fun h' => absurd h (Bool.eq_false_iff.1 h')⟩
  case isFalse h =>
    exact ⟨rfl, (fld_of_reg (setLines_reg _ _ _ (by decide))).trans (fld_of_regs hf _), rfl, fun _ =>
      ⟨(flag_mk _ _).trans (setLines_take _ _ _), (flag_mk _ _).trans (setLines_give _ _ _)⟩⟩

/-- Settles O53: the conditions decide whether a swap is proposed or put off, and each instant of the sequence acts only in its own phase. -/
theorem plannedSwaps : Obligations.PlannedSwaps := by
  intro s m w ts r n
  refine ⟨fun hrole hp hu => ⟨fun hm hk h0 h1 h2 => ⟨fun hr => ?now, fun hr => ?unready⟩, fun hr hn => ?again, fun hr hn hh hd => ?hours⟩,
    fun hn hh => next_eq (swapDue_never hn hh), fun hl hc hp => ⟨fun ha => ?accepts, fun ha => ?refuses⟩, fun hc => next_eq ?control,
    fun ha hr => ?fixed, fun ha => ?refused, fun ha hl ht => ?cancelled, fun ha hp ht => next_eq (swapPost_eq ha hp ht), fun ha hp ht => ?overlap,
    fun ha hp hw ht => ?instant, fun ha hp ht => ?done, fun ha => ⟨next_eq ?_, next_eq ?_, next_eq ?_, next_eq ?_, next_eq ?_⟩⟩
  case now =>
    obtain ⟨hasked, hregs, hout, _⟩ := swapRequest_proposes hu hr
    exact ⟨_, next_eq (rdlCtrl_swap hm hk h0 h1 h2 hrole hp), hasked, hregs, hout⟩
  case unready => exact ⟨_, next_eq ((rdlCtrl_swap hm hk h0 h1 h2 hrole hp).trans (swapRequest_unready hu hr)), swapDefer_shows s⟩
  case again =>
    have hregs := toMono_regs s (n + 600000000000)
    have hrdl := (toMono_within s (n + 600000000000)).rdl_eq (by decide)
    obtain ⟨hasked, _, _, hmono⟩ := swapRequest_proposes ((swapUnderWay_congr hregs hrdl).trans hu) ((swapReady_congr hregs hrdl).trans hr)
    exact ⟨_, next_eq (swapDue_tests hrole hp hn), hasked, (le_toMono_mono _ _).trans_eq hmono.symm⟩
  case hours =>
    obtain ⟨hasked, hregs, _⟩ := swapRequest_proposes hu hr
    exact ⟨_, next_eq (swapDue_hours hrole hp hn hh hd), hasked, hregs⟩
  case accepts =>
    obtain ⟨hat, hfrom, hphase, hout, _⟩ := swapFix_shows s ts false
    have hw := tell_within (s.swapFix ts false) (.swapAck ts true)
    refine ⟨_, next_eq ((swapProp_plain hl hc hp ts).trans (if_pos ha)), ?_, ?_, (fld_of_regs (hw.regs_eq (by decide)) _).trans hphase, ?_⟩
    · rw [hw.rdl_eq (by decide), hat]
    · rw [hw.rdl_eq (by decide), hfrom]
    · rw [tell_outbox ((swapFix_link s ts false).trans hl), hout]
  case refuses =>
    exact ⟨_, next_eq ((swapProp_plain hl hc hp ts).trans (if_neg (Bool.eq_false_iff.1 ha))), (tell_within _ _).regs_eq (by decide), tell_outbox hl _⟩
  case control => exact if_pos (Or.inr hc)
  case fixed =>
    obtain ⟨hat, hfrom, hphase, _⟩ := swapFix_shows s (s.t0After (s.now + 100000000)) true
    refine ⟨_, next_eq (swapAck_ready ha hr ts), ?_⟩
    split
    · exact ⟨hat, hfrom, hphase⟩
    · have hw := tell_within (s.swapFix (s.t0After (s.now + 100000000)) true) (.swapProp (s.t0After (s.now + 100000000)) false)
      rw [hw.rdl_eq (by decide), fld_of_regs (hw.regs_eq (by decide))]
      exact ⟨hat, hfrom, hphase⟩
  case refused =>
    obtain ⟨hasked, _, hphase, _⟩ := swapDefer_shows s
    exact ⟨_, next_eq (swapAck_refused ha ts), hasked, hphase⟩
  case cancelled =>
    refine ⟨_, next_eq (swapCancelMsg_planned ha hl ht), ?_, swapPhase_phase _ (by decide), ?_⟩
    · rw [(swapPhase_within _ _).rdl_eq (by decide)]
      rfl
    · exact (fld_of_reg (swapPhase_reg _ _ (by decide) (by decide))).trans (fld_mk s _)
  case overlap =>
    obtain ⟨_, hnow⟩ := overlapBegun_rest s ts
    have hphase : (overlapBegun s ts).fld Reg.RDL_SWAP_PHASE = 2 := swapPhase_phase _ (by decide)
    have hstat := overlapBegun_stat s ts
    have hclock (hc : s.clockRuns) : ts ≤ (s.toTime (ts - 1050000)).now + 1050000 := by
      have := le_toTime_now s (ts - 1050000) hc
      omega
    refine ⟨_, next_eq (swapOverlap_eq ha hp ht), ?_⟩
    split
    case isTrue h =>
      refine ⟨(fld_of_reg (setLines_reg _ _ _ (by decide))).trans hphase, fun hc => ?_, ?_, fun _ => ⟨setLines_take _ _ _, setLines_give _ _ _⟩,
        fun h' => absurd h (Bool.eq_false_iff.1 h')⟩
      · rw [setLines_now, hnow]
        exact hclock hc
      · exact (setLines_fld _ _ _ (by decide) (by decide)).trans (fld_of_reg hstat)
    case isFalse h =>
      refine ⟨hphase, fun hc => ?_, fld_of_reg hstat, fun h' => absurd h' h, fun _ => flag_of_fld (fld_of_reg hstat)⟩
      rw [hnow]
      exact hclock hc
  case instant =>
    obtain ⟨_, hnow⟩ := dueApplied_rest s ts
    refine ⟨_, next_eq (swapInstant_eq ha hp hw ht), ?_⟩
    split
    case isTrue h =>
      obtain ⟨hrole, hprole, hgive, htake⟩ := swapLeave_shows (dueApplied s ts)
      refine ⟨fun hc => ?_, fun _ => ⟨hrole, hgive, htake, hprole⟩, fun h' => absurd h (Bool.eq_false_iff.1 h')⟩
      rw [swapLeave_now, hnow]
      exact le_toTime_now s ts hc
    case isFalse h =>
      refine ⟨fun hc => ?_, fun h' => absurd h' h, fun _ => swapEnter_shows _ ts⟩
      rw [swapEnter_now, hnow]
      exact le_toTime_now s ts hc
  case done =>
    obtain ⟨hat, hop, hnow, hlines⟩ := swapEnded_rest s ts
    have hw := swapPhase_within (swapEnded s ts) 3
    have hst : ((swapEnded s ts).swapPhase 3).reg Reg.RDL_STAT = (swapEnded s ts).reg Reg.RDL_STAT := swapPhase_reg _ _ (by decide) (by decide)
    refine ⟨_, next_eq (swapDone_eq ha hp ht), ?_, swapPhase_phase _ (by decide), ?_, fun hc => ?_, fun hf => ?_⟩
    · rw [hw.rdl_eq (by decide), hat]
    · rw [hw.rdl_eq (by decide), hop]
    · rw [hw.now_eq (by decide), hnow]
      exact le_toTime_now s _ hc
    · obtain ⟨htake, hgive⟩ := hlines hf
      exact ⟨(flag_of_fld (fld_of_reg hst)).trans htake, (flag_of_fld (fld_of_reg hst)).trans hgive⟩
  · unfold swapPost
    simp only [ha]
  · unfold swapOverlap
    simp only [ha]
  · unfold swapInstant
    simp only [ha]
  · unfold swapDone
    simp only [ha]
  · unfold swapLoadInstant
    simp only [ha]

end Sys2Proof.Proofs

/-! Swap-loads of a new image (R178 to R181, R236). -/

namespace Sys2Proof.Proofs
open Sys2Proof Sys2Proof.Machine Sys2Proof.Laws

/-! ### The phase of the Weave's swap -/

theorem wvePhase_phase (s : State) {p : Nat} (h : p < 8) : (s.wvePhase p).fld Reg.WVE_SWAP_PHASE = p := by
  unfold State.wvePhase
  split
  case isTrue he => exact he
  case isFalse =>
    dsimp only
    rw [raise_fld _ (by decide) (by decide)]
    exact fld_setFld_of_lt _ h (by decide)

theorem wvePhase_reg (s : State) (p : Nat) {a : Nat} (hq : eventTouches a = false) (ha : a ≠ Reg.WVE_SWAP) : (s.wvePhase p).reg a = s.reg a := by
  unfold State.wvePhase
  split
  · rfl
  · dsimp only
    rw [raise_reg _ (by decide) hq, reg_setFld_ne _ _ ha]

theorem wvePhase_within (s : State) (p : Nat) : Within 1285 s (s.wvePhase p) := State_wvePhase_within rfl .refl

/-- A phase that begins, with the event that tells of it. -/
theorem wvePhase_tells {s : State} {p : Nat} (h : s.fld Reg.WVE_SWAP_PHASE ≠ p) :
    (s.wvePhase p).told 18 ((s.wvePhase p).reg Reg.WVE_SWAP).toNat 0 ∧ ∀ f : Field, f.addr = Reg.WVE_SWAP → 3 ≤ f.lo → f.lo + f.width ≤ 32 →
      (s.wvePhase p).fld f = s.fld f := by
  unfold State.wvePhase
  rw [if_neg h]
  dsimp only
  rw [raise_reg _ (by decide) (by decide)]
  refine ⟨raise_told _ (by decide) (by decide) _ _, fun f hf hlo hw => ?_⟩
  have h3 : Reg.WVE_SWAP_PHASE.lo + Reg.WVE_SWAP_PHASE.width = 3 := by decide
  rw [raise_fld _ (by decide) (by rw [hf]; decide), fld_setFld_other _ _ hw (Or.inl (by omega))]

/-! ### PREPARED (R178) -/

/-- The new image and the second bank of routes as WVE_ROUTES and WVE_SWAP show them. -/
def altShown (s : State) (i : Image) : State :=
  (s.setFld Reg.WVE_ROUTES_COUNT_ALT i.routes.length).setFlag Reg.WVE_SWAP_NEEDCONF (decide (i.safeChk ≠ s.safeChk) && !s.confirmed i.safeChk)

theorem altShown_shows (s : State) (i : Image) : (altShown s i).fld Reg.WVE_SWAP_PHASE = s.fld Reg.WVE_SWAP_PHASE ∧
    (altShown s i).fld Reg.WVE_ROUTES_COUNT_ALT = i.routes.length % 2 ^ Reg.WVE_ROUTES_COUNT_ALT.width ∧
    (altShown s i).flag Reg.WVE_SWAP_NEEDCONF = (decide (i.safeChk ≠ s.safeChk) && !s.confirmed i.safeChk) ∧ (altShown s i).img = s.img ∧
    (altShown s i).mem = s.mem :=
  ⟨(fld_setFlag_other _ _ (by decide) (by decide)).trans (fld_setFld_addr _ _ (by decide)),
    (fld_setFlag_addr _ _ (by decide)).trans (fld_setFld_same _ _ _ (by decide)), flag_setFlag_same _ _ _ (by decide) (by decide), rfl, rfl⟩

theorem swapPrepared_eq {s : State} {i : Image} (hi : s.imgAlt = some i) (hr : s.fld Reg.RDL_STAT_ROLE = 3) (hp : s.fld Reg.WVE_SWAP_PHASE = 1) :
    swapPrepared s = (altShown s i).wvePhase 2 := by
  unfold swapPrepared
  simp only [hi]
  rw [if_neg (fun h => h.elim (fun h => h hr) (fun h => h hp))]
  rfl

theorem swapPrepared_not {s : State} (h : s.imgAlt = none ∨ s.fld Reg.RDL_STAT_ROLE ≠ 3 ∨ s.fld Reg.WVE_SWAP_PHASE ≠ 1) : swapPrepared s = s := by
  unfold swapPrepared
  split
  case h_1 i hi => exact if_pos (h.resolve_left (by rw [hi]; exact Option.some_ne_none i))
  case h_2 => rfl

/-! ### t_s accepted (R178, R456) -/

theorem swapProp_load {s : State} (hl : s.flag Reg.RDL_LINK_UP = true) (hr : s.fld Reg.RDL_STAT_ROLE = 3) (hp : s.fld Reg.WVE_SWAP_PHASE = 2)
    (hn : s.flag Reg.WVE_SWAP_NEEDCONF = false) (ts : Nat) : swapProp ts true s = ((s.swapFix ts false).swapLoadFix ts).tell (.swapAck ts true) := by
  have hc : s.inControl = false := by
    unfold State.inControl
    rw [hr]
    rfl
  unfold swapProp
  rw [if_neg (fun h => h.elim (fun h => h hl) (fun h => Bool.eq_false_iff.1 hc h)), if_pos rfl, if_pos ⟨hr, hp, Bool.eq_false_iff.1 hn⟩]

/-- The instant of a swap-load as WVE_SWAPT shows it. -/
theorem swapLoadFix_shows (s : State) (ts : Nat) : (s.swapLoadFix ts).fld Reg.WVE_SWAP_PHASE = 3 ∧
    (s.swapLoadFix ts).reg Reg.WVE_SWAPT_NS = BitVec.ofNat 32 (ts % 1000000000) ∧
    (s.swapLoadFix ts).flag Reg.RDL_LINK_UP = s.flag Reg.RDL_LINK_UP := by
  unfold State.swapLoadFix
  dsimp only
  refine ⟨wvePhase_phase _ (by decide), ?_, flag_of_fld (fld_of_reg ?_)⟩
  · rw [wvePhase_reg _ _ (by decide) (by decide), reg_setReg_ne _ _ (by decide), reg_setReg_ne _ _ (by decide), reg_setReg_same]
    rfl
  · rw [wvePhase_reg _ _ (by decide) (by decide), reg_setReg_ne _ _ (by decide), reg_setReg_ne _ _ (by decide), reg_setReg_ne _ _ (by decide)]

theorem swapLoadFix_within (s : State) (ts : Nat) : Within 1285 s (s.swapLoadFix ts) := State_swapLoadFix_within rfl .refl

/-! ### The configuration sent to the field side (R306, R323) -/

theorem sendTrim_calm (s : State) (c : Nat) : Calm s (s.sendTrim c) := by
  unfold State.sendTrim
  refine .ite ?_ .refl
  split
  · exact rimSend_calm s _
  · exact .ite .refl ((setFld_calm s _ (by decide)).trans (raise_calm _ (by decide) (by decide) _ _))

theorem sendCfg_calm (s : State) : Calm s s.sendCfg := by
  unfold State.sendCfg
  split
  · exact ((setFld_calm s _ (by decide)).trans (rimSend_calm _ _)).trans (Calm.foldl sendTrim_calm _ _)
  · exact rimSend_calm s _

theorem sendTrim_reg (s : State) (c : Nat) {a : Nat} (hq : eventTouches a = false) (ha : a ≠ Reg.CHN_TRIM_STAT) : (s.sendTrim c).reg a = s.reg a := by
  unfold State.sendTrim
  split
  · split
    · rfl
    · split
      · rfl
      · rw [raise_reg _ (by decide) hq, reg_setFld_ne _ _ ha]
  · rfl

theorem sendTrims_reg {a : Nat} (hq : eventTouches a = false) (ha : a ≠ Reg.CHN_TRIM_STAT) : ∀ (l : List Nat) (s : State),
    (l.foldl (fun s c => s.sendTrim c) s).reg a = s.reg a
  | [], _ => rfl
  | c :: l, s => (sendTrims_reg hq ha l _).trans (sendTrim_reg s c hq ha)

/-- Sending the configuration shows the field side's time-out and the trim values that are missing, and nothing else. -/
theorem sendCfg_reg (s : State) {a : Nat} (hq : eventTouches a = false) (ha : a ≠ Reg.CHN_TRIM_STAT) (hw : a ≠ Reg.CHN_WDOG) : s.sendCfg.reg a = s.reg a := by
  unfold State.sendCfg
  split
  · dsimp only
    rw [sendTrims_reg hq ha]
    exact reg_setFld_ne _ _ hw
  · rfl

theorem sendCfg_within (s : State) : Within 34359739653 s s.sendCfg := State_sendCfg_within rfl .refl

/-! ### The instant (R180) -/

theorem swapLoadInstant_leaves {s : State} {ts : Nat} (ha : s.rdl.swapAt = some ts) (hp : s.fld Reg.RDL_SWAP_PHASE = 2)
    (hw : s.fld Reg.WVE_SWAP_PHASE = 3) (ht : s.now ≤ ts) (hf : s.rdl.swapFrom = true) :
    swapLoadInstant s = (dueApplied s ts).swapLoadLeave ts := by
  have h : ((s.toTime ts).applyDue ts).rdl = s.rdl := (dueApplied_rest s ts).1
  unfold swapLoadInstant
  simp only [ha]
  rw [if_neg (fun h => h.elim (fun h => h hp) (fun h => h.elim (fun h => h hw) (fun h => Nat.not_lt.2 ht h))), h, if_pos hf]
  rfl

theorem swapLoadInstant_enters {s : State} {ts : Nat} {i : Image} (ha : s.rdl.swapAt = some ts) (hp : s.fld Reg.RDL_SWAP_PHASE = 2)
    (hw : s.fld Reg.WVE_SWAP_PHASE = 3) (ht : s.now ≤ ts) (hf : s.rdl.swapFrom = false) (hi : s.imgAlt = some i) :
    swapLoadInstant s = (dueApplied s ts).swapLoadEnter ts i := by
  have h : ((s.toTime ts).applyDue ts).rdl = s.rdl := (dueApplied_rest s ts).1
  have hi' : ((s.toTime ts).applyDue ts).imgAlt = some i :=
    ((applyDue_within _ ts).imgAlt_eq (by decide)).trans (((toTime_within s ts).imgAlt_eq (by decide)).trans hi)
  unfold swapLoadInstant
  simp only [ha]
  rw [if_neg (fun h => h.elim (fun h => h hp) (fun h => h.elim (fun h => h hw) (fun h => Nat.not_lt.2 ht h))), h, if_neg (Bool.eq_false_iff.1 hf)]
  simp only [hi']
  rfl

theorem dueApplied_img (s : State) (ts : Nat) : (dueApplied s ts).img = s.img :=
  ((applyDue_within _ ts).img_eq (by decide)).trans ((toTime_within s ts).img_eq (by decide))

/-- The old active that has left control for the new image. -/
theorem swapLoadLeave_shows (s : State) (ts : Nat) : (s.swapLoadLeave ts).fld Reg.RDL_STAT_ROLE = 3 ∧ (s.swapLoadLeave ts).fld Reg.RDL_STAT_PROLE = 2 ∧
    (s.swapLoadLeave ts).rdl.carryEnd = some (ts + 50000) ∧ (s.swapLoadLeave ts).flag Reg.LPE_STAT_RUN = false ∧ (s.swapLoadLeave ts).now = s.now := by
  have hn := swapLeave_now s
  obtain ⟨hr, hp, _⟩ := swapLeave_shows s
  unfold State.swapLoadLeave
  generalize s.swapLeave = u at hn hr hp ⊢
  exact ⟨(fld_setFlag_addr _ _ (by decide)).trans hr, (fld_setFlag_addr _ _ (by decide)).trans hp, rfl,
    flag_setFlag_same _ _ _ (by decide) (by decide), hn⟩

theorem setRdl_reg (s : State) (r : Rdl) (a : Nat) : ({ s with rdl := r } : State).reg a = s.reg a := rfl

theorem setImg_rest (s : State) (i : Option Image) : ({ s with img := i } : State).img = i ∧ ({ s with img := i } : State).now = s.now := ⟨rfl, rfl⟩

theorem setImg_reg (s : State) (i : Option Image) (a : Nat) : ({ s with img := i } : State).reg a = s.reg a := rfl

/-- The registers of the new active before the field side is configured. -/
def enterShown (s : State) : State := ((s.setRole 2).setFld Reg.RDL_STAT_PROLE 3).setFlag Reg.LPE_STAT_RUN false

theorem enterShown_shows (s : State) : (enterShown s).fld Reg.RDL_STAT_ROLE = 2 ∧ (enterShown s).fld Reg.RDL_STAT_PROLE = 3 ∧
    (enterShown s).flag Reg.LPE_STAT_RUN = false := by
  obtain ⟨hp, hr, _⟩ := setProle_shows (s.setRole 2) (p := 3) (by decide)
  exact ⟨(fld_setFlag_addr _ _ (by decide)).trans (hr.trans (setRole_role s (by decide))), (fld_setFlag_addr _ _ (by decide)).trans hp,
    flag_setFlag_same _ _ _ (by decide) (by decide)⟩

theorem enterShown_within (s : State) : Within 138512696581 s (enterShown s) :=
  State_setFlag_within rfl (State_setFld_within rfl (State_setRole_within rfl .refl))

/-- The field side configured for an image that does not run yet. -/
def fieldFor (s : State) (new : Image) : State := { ({ s with img := some new } : State).sendCfg with img := s.img }

theorem dropSinks_within (s : State) (i : Image) : Within 16777216 s (s.dropSinks i) := State_dropSinks_within rfl .refl

theorem fieldFor_reg (s : State) (new : Image) {a : Nat} (hq : eventTouches a = false) (ha : a ≠ Reg.CHN_TRIM_STAT) (hw : a ≠ Reg.CHN_WDOG) :
    (fieldFor s new).reg a = s.reg a := by
  unfold fieldFor
  rw [setImg_reg, sendCfg_reg _ hq ha hw, setImg_reg]

theorem fieldFor_rest (s : State) (new : Image) : (fieldFor s new).img = s.img ∧ (fieldFor s new).now = s.now := by
  obtain ⟨_, hn1⟩ := setImg_rest s (some new)
  have hs := sendCfg_within ({ s with img := some new } : State)
  obtain ⟨hi2, hn2⟩ := setImg_rest ({ s with img := some new } : State).sendCfg s.img
  exact ⟨hi2, hn2.trans ((hs.now_eq (by decide)).trans hn1)⟩

/-- The new active while its carry runs. -/
theorem swapLoadEnter_shows (s : State) (ts : Nat) (new : Image) : (s.swapLoadEnter ts new).fld Reg.RDL_STAT_ROLE = 2 ∧
    (s.swapLoadEnter ts new).fld Reg.RDL_STAT_PROLE = 3 ∧ (s.swapLoadEnter ts new).rdl.carryEnd = some (ts + carryTime new) ∧
    (s.swapLoadEnter ts new).flag Reg.LPE_STAT_RUN = false ∧ (s.swapLoadEnter ts new).img = s.img ∧ (s.swapLoadEnter ts new).now = s.now := by
  obtain ⟨hr, hp, hl⟩ := enterShown_shows s
  have hw := enterShown_within s
  have hd := dropSinks_within (enterShown s) new
  unfold State.swapLoadEnter
  extract_lets s1 old sent s2 rdl
  have h1 : s1 = (enterShown s).dropSinks new := rfl
  have h2 : s2 = fieldFor s1 new := rfl
  rw [← h1] at hd
  obtain ⟨himg, hnow⟩ := fieldFor_rest s1 new
  have hreg := fieldFor_reg s1 new (a := Reg.RDL_STAT) (by decide) (by decide) (by decide)
  have hlpe := fieldFor_reg s1 new (a := Reg.LPE_STAT) (by decide) (by decide) (by decide)
  rw [← h2] at himg hnow hreg hlpe
  clear h1 h2
  clear_value rdl s2 sent old s1
  have hdr := hd.regs_eq (by decide)
  have hi := himg.trans ((hd.img_eq (by decide)).trans (hw.img_eq (by decide)))
  have hn := hnow.trans ((hd.now_eq (by decide)).trans (hw.now_eq (by decide)))
  exact ⟨(fld_of_reg hreg).trans ((fld_of_regs hdr _).trans hr), (fld_of_reg hreg).trans ((fld_of_regs hdr _).trans hp), rfl,
    (flag_of_fld (fld_of_reg hlpe)).trans ((flag_of_fld (fld_of_regs hdr _)).trans hl), hi, hn⟩

/-! ### The carry's end (R180, R236) -/

theorem joinPhase_offcause (s : State) (p : Nat) {f : Field} (hf : f.addr = Reg.RDL_STAT) (hw : f.lo + f.width ≤ 32) :
    (s.joinPhase p).fld f = s.fld f :=
  joinPhase_fld s p hw (fun h => absurd (hf.symm.trans h) (by decide)) (by rw [hf]; decide)

/-- A join that fails ends its phase and leaves RDL_STAT as it is. -/
theorem joinFails_reg (s : State) {a : Nat} (hq : eventTouches a = false) (ha : a ≠ Reg.RDL_JOIN) : s.joinFails.reg a = s.reg a := by
  unfold State.joinFails
  exact joinPhase_reg { s with load := none } 0 hq ha

theorem joinFails_carry (s : State) : s.joinFails.rdl.carryEnd = s.rdl.carryEnd := by
  have h : (({ s with load := none } : State).joinPhase 0).rdl = s.rdl := (joinPhase_within { s with load := none } 0).rdl_eq (by decide)
  unfold State.joinFails
  generalize ({ s with load := none } : State).joinPhase 0 = u at h ⊢
  show u.rdl.carryEnd = _
  rw [h]

/-- A join begins without a change of the Weave's registers, of the role, of a carry, or of the time. -/
theorem joinStart_leaves (s : State) : (∀ a, eventTouches a = false → a ≠ Reg.RDL_STAT → a ≠ Reg.RDL_JOIN → s.joinStart.reg a = s.reg a) ∧
    s.joinStart.fld Reg.RDL_STAT_ROLE = s.fld Reg.RDL_STAT_ROLE ∧ s.joinStart.rdl.carryEnd = s.rdl.carryEnd := by
  unfold State.joinStart
  split
  case isTrue => exact ⟨fun _ _ _ _ => rfl, rfl, rfl⟩
  case isFalse =>
    extract_lets s1 rdl s2 s3
    have h2 (a : Nat) (ha : a ≠ Reg.RDL_STAT) : s2.reg a = s.reg a := reg_setFld_ne s _ ha
    have hr2 : s2.fld Reg.RDL_STAT_ROLE = s.fld Reg.RDL_STAT_ROLE := (fld_mk s1 _).trans (fld_setFld_other s 1 (by decide) (by decide))
    have hc2 : s2.rdl.carryEnd = s.rdl.carryEnd := rfl
    clear_value s2
    split
    case isTrue =>
      have h3 (a : Nat) (ha : a ≠ Reg.RDL_JOIN) : s3.reg a = s2.reg a := (reg_setFld_ne _ _ ha).trans (reg_setFld_ne _ _ ha)
      have hc3 : s3.rdl.carryEnd = s2.rdl.carryEnd := rfl
      clear_value s3
      have hw := tell_within (s3.joinPhase 1) (.joinReq s3.build s3.safeChk s3.ownConf)
      have hregs := hw.regs_eq (by decide)
      refine ⟨fun a hq ha hj => ?_, ?_, ?_⟩
      · rw [reg_of_regs_eq hregs, joinPhase_reg _ _ hq hj, h3 a hj, h2 a ha]
      · rw [fld_of_regs hregs, fld_of_reg (joinPhase_reg _ _ (by decide) (by decide)), fld_of_reg (h3 _ (by decide)), hr2]
      · rw [hw.rdl_eq (by decide), (joinPhase_within _ _).rdl_eq (by decide), hc3, hc2]
    case isFalse =>
      exact ⟨fun a hq ha hj => (joinFails_reg s2 hq hj).trans (h2 a ha), (fld_of_reg (joinFails_reg s2 (by decide) (by decide))).trans hr2,
        (joinFails_carry s2).trans hc2⟩

theorem joinStart_within (s : State) : Within 138512762117 s s.joinStart := State_joinStart_within rfl .refl

/-- The tasks have nothing left to do for the old image. -/
theorem carry_idle {s : State} (h : ∀ k ∈ s.tasks, k.latching = false ∧ k.executing = false) : s.tasks.any (fun t => t.latching || t.executing) = false := by
  rw [List.any_eq_false]
  intro k hk
  rw [(h k hk).1, (h k hk).2]
  exact Bool.false_ne_true

theorem carryComplete_starts {s : State} {e : Nat} {new old : Image} (he : s.rdl.carryEnd = some e) (hr : s.rdl.repair = [])
    (hk : ∀ k ∈ s.tasks, k.latching = false ∧ k.executing = false) (hn : s.imgAlt = some new) (ho : s.img = some old)
    (hrole : s.fld Reg.RDL_STAT_ROLE = 2) : carryComplete s = (s.toTime e).startNew old new := by
  have hw := toTime_within s e
  have hn' := (hw.imgAlt_eq (by decide)).trans hn
  have ho' := (hw.img_eq (by decide)).trans ho
  have hrole' := (fld_of_regs (toTime_regs s e) _).trans hrole
  unfold carryComplete
  simp only [he]
  rw [if_neg (fun h => h.elim (Bool.eq_false_iff.1 (carry_idle hk)) (fun h => h hr))]
  generalize s.toTime e = u at hn' ho' hrole' ⊢
  simp only [hn', ho']
  exact if_pos hrole'

/-- The carry forgotten. -/
def carryForgotten (s : State) : State := { s with rdl := { s.rdl with carryEnd := none } }

/-- Control given up for good: the unit is OFF and asks to join. -/
def carryLeft (s : State) : State := (((carryForgotten s).wvePhase 4).setRole 0).joinStart

theorem carryForgotten_rest (s : State) : (carryForgotten s).rdl.carryEnd = none ∧ (carryForgotten s).now = s.now := ⟨rfl, rfl⟩

theorem carryComplete_leaves {s : State} {e : Nat} (he : s.rdl.carryEnd = some e) (hr : s.rdl.repair = [])
    (hk : ∀ k ∈ s.tasks, k.latching = false ∧ k.executing = false) (hn : s.imgAlt = none) :
    carryComplete s = carryLeft (s.toTime e) := by
  have hn' := ((toTime_within s e).imgAlt_eq (by decide)).trans hn
  unfold carryComplete
  simp only [he]
  rw [if_neg (fun h => h.elim (Bool.eq_false_iff.1 (carry_idle hk)) (fun h => h hr))]
  generalize s.toTime e = u at hn' ⊢
  simp only [hn', carryLeft, carryForgotten]

/-- A release of the old image that still runs, or a carry that is not under way, holds the new image back. -/
theorem carryComplete_waits {s : State} (h : ∃ k ∈ s.tasks, k.latching = true ∨ k.executing = true) : carryComplete s = s := by
  have ha : s.tasks.any (fun t => t.latching || t.executing) = true := by
    obtain ⟨k, hk, hr⟩ := h
    exact List.any_eq_true.2 ⟨k, hk, Bool.or_eq_true_iff.2 hr⟩
  unfold carryComplete
  split
  · exact if_pos (Or.inl ha)
  · rfl

theorem setRole_within (s : State) (r : Nat) : Within 138512696581 s (s.setRole r) := State_setRole_within rfl .refl

theorem setRole_carry (s : State) (r : Nat) : (s.setRole r).rdl.carryEnd = s.rdl.carryEnd := by
  unfold State.setRole
  dsimp only
  split
  · rfl
  · rw [(raise_within _ _ _ _).rdl_eq (by decide), (tell_within _ _).rdl_eq (by decide)]
    rfl

/-- The old active in OFF, its carry over. -/
theorem carryLeft_shows (s : State) : (carryLeft s).rdl.carryEnd = none ∧ (carryLeft s).fld Reg.RDL_STAT_ROLE = 0 ∧
    (carryLeft s).fld Reg.WVE_SWAP_PHASE = 4 ∧ (carryLeft s).now = s.now := by
  obtain ⟨hc, hnow⟩ := carryForgotten_rest s
  unfold carryLeft
  generalize carryForgotten s = u at hc hnow ⊢
  obtain ⟨hreg, hrole, hcarry⟩ := joinStart_leaves ((u.wvePhase 4).setRole 0)
  refine ⟨?_, hrole.trans (setRole_role _ (by decide)), ?_, ?_⟩
  · rw [hcarry, setRole_carry, (wvePhase_within u 4).rdl_eq (by decide), hc]
  · rw [fld_of_reg (hreg _ (by decide) (by decide) (by decide)), fld_of_reg (setRole_reg _ _ (by decide) (by decide))]
    exact wvePhase_phase u (by decide)
  · rw [(joinStart_within _).now_eq (by decide), (setRole_within _ _).now_eq (by decide), (wvePhase_within u 4).now_eq (by decide), hnow]

/-- The carry done: one image remains. -/
def carried (s : State) : State := { s with imgAlt := none, rdl := { s.rdl with carryEnd := none, mirror := [] } }

theorem carried_rest (s : State) : (carried s).imgAlt = none ∧ (carried s).rdl.carryEnd = none := ⟨rfl, rfl⟩

/-- The new image's first releases, its buses and its state shown. -/
def newRunning (s : State) (new : Image) : State := ((s.firstReleases (s.now - 1000000)).startBuses s.now).imgRunning new

theorem newRunning_within (s : State) (new : Image) : Within 412993195271 s (newRunning s new) :=
  State_imgRunning_within rfl (State_startBuses_within rfl (State_firstReleases_within rfl .refl))

theorem startNew_eq (s : State) (old new : Image) : ∃ u, s.startNew old new = (newRunning (carried u) new).armRequest.wvePhase 4 := by
  unfold State.startNew
  extract_lets moved s1
  exact ⟨s1, rfl⟩

/-- The new image started: its swap is over and no carry remains. -/
theorem startNew_shows (s : State) (old new : Image) : (s.startNew old new).fld Reg.WVE_SWAP_PHASE = 4 ∧ (s.startNew old new).imgAlt = none ∧
    (s.startNew old new).rdl.carryEnd = none ∧ (s.startNew old new).now = s.now := by
  have hnow := (State_startNew_within (a1 := old) (a2 := new) (k := 453057895687) rfl (.refl (s := s))).now_eq (by decide)
  obtain ⟨u, hu⟩ := startNew_eq s old new
  obtain ⟨halt, hcarry⟩ := carried_rest u
  have hr := newRunning_within (carried u) new
  have ha := armRequest_within (newRunning (carried u) new)
  have hw := wvePhase_within (newRunning (carried u) new).armRequest 4
  refine ⟨?_, ?_, ?_, hnow⟩ <;> rw [hu]
  · exact wvePhase_phase _ (by decide)
  · rw [hw.imgAlt_eq (by decide), ha.imgAlt_eq (by decide), hr.imgAlt_eq (by decide), halt]
  · rw [hw.rdl_eq (by decide), ha.rdl_eq (by decide), hr.rdl_eq (by decide), hcarry]

/-- Settles O54: the load's phases open one after another, control passes at t_s, and the carry's end starts the new image. -/
theorem swapLoads : Obligations.SwapLoads := by
  intro s i old ts e
  refine ⟨fun hi hr hp => ?prepared, fun h => next_eq (swapPrepared_not h), fun hl hr hp hn => ?accepted,
    fun ha hp hw ht => ⟨fun hf => ?leaves, fun hf hi => ?enters⟩, fun he hr hk => ⟨fun hn ho hrole => ?starts, fun hn => ?off⟩,
    fun he => next_eq ?none, fun h => next_eq (carryComplete_waits h)⟩
  case prepared =>
    obtain ⟨hphase, hcount, hconf, himg, hmem⟩ := altShown_shows s i
    have hne : (altShown s i).fld Reg.WVE_SWAP_PHASE ≠ 2 := by
      rw [hphase, hp]
      decide
    obtain ⟨htold, hkeep⟩ := wvePhase_tells hne
    have hw := wvePhase_within (altShown s i) 2
    exact ⟨_, next_eq (swapPrepared_eq hi hr hp), wvePhase_phase _ (by decide),
      (fld_of_reg (wvePhase_reg _ 2 (by decide) (by decide))).trans hcount,
      (flag_of_fld (hkeep Reg.WVE_SWAP_NEEDCONF rfl (by decide) (by decide))).trans hconf, htold, (hw.img_eq (by decide)).trans himg,
      (hw.mem_eq (by decide)).trans hmem⟩
  case accepted =>
    obtain ⟨hat, _, _, hout, _⟩ := swapFix_shows s ts false
    obtain ⟨hphase, hns, hlink⟩ := swapLoadFix_shows (s.swapFix ts false) ts
    have hw := swapLoadFix_within (s.swapFix ts false) ts
    have ht := tell_within ((s.swapFix ts false).swapLoadFix ts) (.swapAck ts true)
    have hregs := ht.regs_eq (by decide)
    refine ⟨_, next_eq (swapProp_load hl hr hp hn ts), ?_, (fld_of_regs hregs _).trans hphase, (reg_of_regs_eq hregs _).trans hns, ?_⟩
    · rw [ht.rdl_eq (by decide), hw.rdl_eq (by decide), hat]
    · rw [tell_outbox (hlink.trans ((swapFix_link s ts false).trans hl)), hw.outbox_eq (by decide), hout]
  case leaves =>
    obtain ⟨hrole, hprole, hcarry, hrun, hnow⟩ := swapLoadLeave_shows (dueApplied s ts) ts
    refine ⟨_, next_eq (swapLoadInstant_leaves ha hp hw ht hf), hrole, hprole, hcarry, hrun, fun hc => ?_⟩
    rw [hnow, (dueApplied_rest s ts).2]
    exact le_toTime_now s ts hc
  case enters =>
    obtain ⟨hrole, hprole, hcarry, hrun, himg, hnow⟩ := swapLoadEnter_shows (dueApplied s ts) ts i
    refine ⟨_, next_eq (swapLoadInstant_enters ha hp hw ht hf hi), hrole, hprole, hcarry, hrun, himg.trans (dueApplied_img s ts), fun hc => ?_⟩
    rw [hnow, (dueApplied_rest s ts).2]
    exact le_toTime_now s ts hc
  case starts =>
    obtain ⟨hphase, halt, hcarry, hnow⟩ := startNew_shows (s.toTime e) old i
    exact ⟨_, next_eq (carryComplete_starts he hr hk hn ho hrole), hphase, halt, hcarry, fun hc => (le_toTime_now s e hc).trans_eq hnow.symm⟩
  case off =>
    obtain ⟨hcarry, hrole, hphase, hnow⟩ := carryLeft_shows (s.toTime e)
    exact ⟨_, next_eq (carryComplete_leaves he hr hk hn), hcarry, hrole, hphase, fun hc => (le_toTime_now s e hc).trans_eq hnow.symm⟩
  case none =>
    unfold carryComplete
    simp only [he]

end Sys2Proof.Proofs

/-! Giving and taking control (R467 to R473, R477). -/

namespace Sys2Proof.Proofs
open Sys2Proof Sys2Proof.Machine Sys2Proof.Laws

/-! ### The takeover (R469 to R471) -/

/-- RDL_TAKE and t_own noted: the takeover is known, and the partner's notice used. -/
theorem takeNote_rdl (s : State) (td own : Nat) (imm : Bool) : (s.takeNote td own imm).rdl.take = some ⟨td, own, imm⟩ ∧
    (s.takeNote td own imm).rdl.giveNotice = none := ⟨rfl, rfl⟩

theorem setRole_rdl (s : State) (r : Nat) : (s.setRole r).rdl.take = s.rdl.take ∧ (s.setRole r).rdl.giveNotice = s.rdl.giveNotice := by
  unfold State.setRole
  dsimp only
  split
  · exact ⟨rfl, rfl⟩
  · rw [(raise_within _ _ _ _).rdl_eq (by decide), (tell_within _ _).rdl_eq (by decide)]
    exact ⟨rfl, rfl⟩

theorem raiseAll_rdl (n : Nat) : ∀ (l : List Nat) (s : State), (l.foldl (fun s c => s.raise n c 0) s).rdl = s.rdl
  | [], _ => rfl
  | _ :: l, s => (raiseAll_rdl n l _).trans ((raise_within s n _ 0).rdl_eq (by decide))

theorem takeRepairs_rdl (s : State) : s.takeRepairs.rdl.take = s.rdl.take ∧ s.takeRepairs.rdl.giveNotice = s.rdl.giveNotice := by
  have h := raiseAll_rdl 57 s.rdl.repair s
  unfold State.takeRepairs
  generalize s.rdl.repair.foldl (fun s c => s.raise 57 c 0) s = u at h ⊢
  show u.rdl.take = _ ∧ u.rdl.giveNotice = _
  rw [h]
  exact ⟨rfl, rfl⟩

theorem raiseAll_calm {n : Nat} (hn : n < 256) (h : ¬ notice n) (l : List Nat) (s : State) : Calm s (l.foldl (fun s c => s.raise n c 0) s) :=
  Calm.foldl (fun u c => raise_calm u hn h c 0) l s

theorem takeRepairs_role (s : State) : s.takeRepairs.fld Reg.RDL_STAT_ROLE = s.fld Reg.RDL_STAT_ROLE := by
  have h := raiseAll_calm (n := 57) (by decide) (by decide) s.rdl.repair s
  unfold State.takeRepairs
  generalize s.rdl.repair.foldl (fun s c => s.raise 57 c 0) s = u at h ⊢
  exact (fld_setFlag_other _ _ (by decide) (by decide)).trans ((fld_mk u _).trans (h.fld (Or.inl rfl)))

theorem dropMirror_rdl (s : State) : s.dropMirror.rdl.take = s.rdl.take ∧ s.dropMirror.rdl.giveNotice = s.rdl.giveNotice := ⟨rfl, rfl⟩

/-- The pair's state once control is taken. -/
def controlTaken (s : State) : State := ((s.setRole 2).takeRepairs).dropMirror.joinPhase 0

theorem controlTaken_shows (s : State) : (controlTaken s).fld Reg.RDL_STAT_ROLE = 2 ∧ (controlTaken s).fld Reg.RDL_JOIN_PHASE = 0 ∧
    (controlTaken s).rdl.take = s.rdl.take ∧ (controlTaken s).rdl.giveNotice = s.rdl.giveNotice := by
  unfold controlTaken
  have hj := (joinPhase_within ((s.setRole 2).takeRepairs).dropMirror 0).rdl_eq (by decide)
  obtain ⟨h1, h1'⟩ := setRole_rdl s 2
  obtain ⟨h2, h2'⟩ := takeRepairs_rdl (s.setRole 2)
  obtain ⟨h3, h3'⟩ := dropMirror_rdl (s.setRole 2).takeRepairs
  refine ⟨?_, joinPhase_phase _ (by decide), ?_, ?_⟩
  · rw [joinPhase_fld _ _ (by decide) (by decide) (by decide), (dropMirror_calm _).fld (Or.inl rfl), takeRepairs_role]
    exact setRole_role s (by decide)
  · rw [hj, h3, h2, h1]
  · rw [hj, h3', h2', h1']

/-- The tasks and loops that go on from t_d. -/
def tasksTaken (s : State) (td : Nat) : State := ((s.takeTasks td).restartF td).takeLoops td

theorem tasksTaken_calm (s : State) (td : Nat) : Calm s (tasksTaken s td) :=
  ((takeTasks_calm s td).trans (restartF_calm _ td)).trans (takeLoops_calm _ td)

theorem tasksTaken_within (s : State) (td : Nat) : Within 537920773 s (tasksTaken s td) :=
  State_takeLoops_within rfl (State_restartF_within rfl (State_takeTasks_within rfl .refl))

/-- What a takeover leaves: the role, t_d and t_own, and the event. -/
structure Taken (s t : State) (y : Takeover) : Prop where
  role : t.fld Reg.RDL_STAT_ROLE = 2
  take : t.rdl.take = some y
  td : y.td = s.now
  immediate : y.immediate = s.rdl.giveNotice.isNone
  own : s.rdl.giveNotice = none → y.own = s.now + 130000
  told : t.told 48 (b2n y.immediate) (y.own % 1000000000)
  join : t.fld Reg.RDL_JOIN_PHASE = 0
  notice : t.rdl.giveNotice = none

theorem startBuses_within (s : State) (t : Nat) : Within 412455275783 s (s.startBuses t) := State_startBuses_within rfl .refl
theorem postMode_within (s : State) (m t : Nat) : Within 34359743749 s (s.postMode m t) := State_postMode_within rfl .refl

/-- t_own as a takeover fixes it. -/
def ownInstant (s : State) : Nat := if s.rdl.giveNotice.isNone then s.now + 130000 else s.t0After (s.now + 130000)

theorem takeover_eq (s : State) : ∃ u : State, s.takeover =
    (((tasksTaken (controlTaken (u.takeNote s.now (ownInstant s) s.rdl.giveNotice.isNone)) s.now).raise 48 (b2n s.rdl.giveNotice.isNone)
      (ownInstant s % 1000000000)).startBuses s.now).postMode 0 (ownInstant s) := by
  refine ⟨s.swapEnd.abandonSwap.applyDue s.now, ?_⟩
  unfold State.takeover tasksTaken controlTaken ownInstant
  rfl

theorem takeover_taken (s : State) : Taken s s.takeover ⟨s.now, ownInstant s, s.rdl.giveNotice.isNone⟩ := by
  obtain ⟨u, hu⟩ := takeover_eq s
  obtain ⟨htake, hnotice⟩ := takeNote_rdl u s.now (ownInstant s) s.rdl.giveNotice.isNone
  obtain ⟨hrole, hjoin, hct, hcn⟩ := controlTaken_shows (u.takeNote s.now (ownInstant s) s.rdl.giveNotice.isNone)
  have hc := tasksTaken_calm (controlTaken (u.takeNote s.now (ownInstant s) s.rdl.giveNotice.isNone)) s.now
  have hw := tasksTaken_within (controlTaken (u.takeNote s.now (ownInstant s) s.rdl.giveNotice.isNone)) s.now
  rw [hu]
  generalize tasksTaken (controlTaken (u.takeNote s.now (ownInstant s) s.rdl.giveNotice.isNone)) s.now = v at hc hw ⊢
  have hr := raise_within v 48 (b2n s.rdl.giveNotice.isNone) (ownInstant s % 1000000000)
  have ht := raise_told v (src := 48) (by decide) (by decide) (b2n s.rdl.giveNotice.isNone) (ownInstant s % 1000000000)
  have hf (f : Field) (hq : eventTouches f.addr = false) := raise_fld v (src := 48) (lo := b2n s.rdl.giveNotice.isNone)
    (hi := ownInstant s % 1000000000) (f := f) (by decide) hq
  generalize v.raise 48 (b2n s.rdl.giveNotice.isNone) (ownInstant s % 1000000000) = x at hr ht hf ⊢
  have he := (startBuses_calm x s.now).trans (postMode_calm _ 0 (ownInstant s))
  have hrdl : ((x.startBuses s.now).postMode 0 (ownInstant s)).rdl = v.rdl :=
    ((postMode_within _ _ _).rdl_eq (by decide)).trans (((startBuses_within _ _).rdl_eq (by decide)).trans (hr.rdl_eq (by decide)))
  refine ⟨?_, ?_, rfl, rfl, fun hn => ?_, he.told 48 (by decide) _ _ ht, ?_, ?_⟩
  · rw [he.fld (Or.inl rfl), hf _ (by decide), hc.fld (Or.inl rfl), hrole]
  · rw [hrdl, hw.rdl_eq (by decide), hct, htake]
  · unfold ownInstant
    rw [hn]
    rfl
  · rw [he.fld (Or.inr (Or.inr (Or.inl rfl))), hf _ (by decide), hc.fld (Or.inr (Or.inr (Or.inl rfl))), hjoin]
  · rw [hrdl, hw.rdl_eq (by decide), hcn, hnotice]

/-- An asserted give line accepted by a standby that runs is a takeover. -/
theorem giveLevel_takes {s : State} (hr : s.fld Reg.RDL_STAT_ROLE = 3) (hp : s.cpm.phase = .run) (hh : s.cpm.haltOnStop = false)
    (hs : s.cpm.giveSeen = true) (hg : s.flag Reg.RDL_STAT_GIVE_I = false) : s.giveLevel true = (giveShown s true).takeover := by
  have hph : (giveShown s true).cpm.phase = .run := hp
  have hha : (giveShown s true).cpm.haltOnStop = false := hh
  have hro : (giveShown s true).fld Reg.RDL_STAT_ROLE = 3 := (fld_setFlag_other _ _ (by decide) (by decide)).trans ((fld_mk s _).trans hr)
  have hi : (giveShown s true).negotiateStep = giveShown s true := negotiateStep_idle (by rw [hph]; decide)
  have hc : (s.cpm.giveSeen && !s.flag Reg.RDL_STAT_GIVE_I && true) = true := by
    rw [hs, hg]
    rfl
  have ha : (giveShown s true).giveAsserted = (giveShown s true).takeover := by
    unfold State.giveAsserted
    rw [if_pos ⟨hph, by rw [hha]; exact Bool.false_ne_true⟩, if_pos hro]
  rw [← ha]
  unfold giveShown at hi ⊢
  unfold State.giveLevel
  dsimp only
  rw [hi, if_pos hc]

theorem giveShown_before (s : State) (a : Bool) : (giveShown s a).now = s.now ∧ (giveShown s a).rdl = s.rdl := ⟨rfl, rfl⟩

theorem noticeTd_takes {s : State} {n : Nat} (hr : s.fld Reg.RDL_STAT_ROLE = 3) (hp : s.cpm.phase = .run) (hh : s.cpm.haltOnStop = false)
    (hn : s.rdl.giveNotice = some n) (hi : s.cpm.giveIndet = true) : noticeTd s = (s.toMono (n + 10000)).takeover := by
  unfold noticeTd
  simp only [hn]
  exact if_pos ⟨hr, hi, hp, Bool.eq_false_iff.1 hh⟩

theorem takeover_within (s : State) : Within 448493886727 s s.takeover := State_takeover_within rfl .refl

/-! ### The partner's notices (R201, R468, R469) -/

/-- The partner's notice as it arrives. -/
def noticeKept (s : State) (indet : Bool) : State := { s with rdl := { s.rdl with giveNotice := some s.mono }, cpm := { s.cpm with giveIndet := indet } }

theorem noticeKept_rest (s : State) (indet : Bool) : (noticeKept s indet).rdl.giveNotice = some s.mono ∧ (noticeKept s indet).cpm.giveIndet = indet ∧
    (noticeKept s indet).regs = s.regs ∧ (noticeKept s indet).mem = s.mem ∧ (noticeKept s indet).cpm.phase = s.cpm.phase ∧
    (noticeKept s indet).cpm.haltOnStop = s.cpm.haltOnStop := ⟨rfl, rfl, rfl, rfl, rfl, rfl⟩

theorem giveUpMsg_up {s : State} (hl : s.flag Reg.RDL_LINK_UP = true) (indet : Bool) : giveUpMsg indet s = (noticeKept s indet).partnerLeft :=
  if_neg fun h => h hl

theorem partnerLeft_standby {s : State} (hr : s.fld Reg.RDL_STAT_ROLE = 3) : s.partnerLeft = s := if_pos (Or.inr (Or.inr (Or.inr hr)))

theorem inControl_eq_false {s : State} {r : Nat} (hr : s.fld Reg.RDL_STAT_ROLE = r) (h1 : r ≠ 1) (h2 : r ≠ 2) : s.inControl = false := by
  unfold State.inControl
  rw [hr, decide_eq_false h1, decide_eq_false h2]
  rfl

/-- A LAGGING unit whose partner gives up starts again. -/
theorem partnerLeft_lagging {s : State} (hr : s.fld Reg.RDL_STAT_ROLE = 4) (hp : s.cpm.phase = .run) (hh : s.cpm.haltOnStop = false) :
    s.partnerLeft = ((s.setFld Reg.RDL_STAT_OFFCAUSE 6).setRole 0).enterHalt.restart .auto := by
  have hc := inControl_eq_false hr (by decide) (by decide)
  unfold State.partnerLeft
  rw [if_neg (by simp [hp, hh, hc, hr]), if_neg (by simp [hr])]

theorem restart_starts (s : State) (c : RstCause) : (s.restart c).cpm.phase = .ready ∧ (s.restart c).cpm.startCause = c := ⟨rfl, rfl⟩

theorem stopMsg_shadow {s : State} (ovr : Word) (h : s.fld Reg.RDL_STAT_ROLE = 3 ∨ s.fld Reg.RDL_STAT_ROLE = 4) :
    stopMsg ovr s = ((s.setReg Reg.IMG_OVR ovr).raise 96 ovr.toNat 0).stationStop 1 96 := if_pos h

theorem stopMsg_control {s : State} (ovr : Word) (h : s.inControl = true) : stopMsg ovr s = s := by
  refine if_neg fun hr => ?_
  rcases hr with hr | hr
  · exact absurd h (Bool.eq_false_iff.1 (inControl_eq_false hr (by decide) (by decide)))
  · exact absurd h (Bool.eq_false_iff.1 (inControl_eq_false hr (by decide) (by decide)))

/-- A cause of R467 in a unit in control that runs: the role and the partner's decide how it leaves. -/
theorem unitFault_gone {s : State} (hc : s.inControl = true) (hp : s.cpm.phase = .run) (hh : s.cpm.haltOnStop = false) (row rec src : Nat) (b : Bool) :
    Gone s (if s.fld Reg.RDL_STAT_ROLE = 2 ∧ s.fld Reg.RDL_STAT_PROLE = 3 then 2 else 5) (s.unitFault row rec src b) := by
  have hs : s.partnerStandby = decide (s.fld Reg.RDL_STAT_PROLE = 3) := rfl
  have he : s.unitFault row rec src b =
      if s.fld Reg.RDL_STAT_ROLE = 2 ∧ s.fld Reg.RDL_STAT_PROLE = 3 then s.giveUp row rec src b else s.stationStop rec src := by
    unfold State.unitFault State.loseControl
    rw [if_neg (fun h => h.1 hp), if_neg (Bool.eq_false_iff.1 hh), if_pos hc, hs]
    simp only [decide_eq_true_eq]
  rw [he]
  split
  · exact giveUp_gone s row rec src b
  · exact stationStop_gone s rec src

/-! ### The terminals at t_own (R471) and the pulse test (R477) -/

/-- The terminals taken. -/
def linesTaken (s : State) : State :=
  let u := s.setLines false true
  { u with rdl := { u.rdl with take := none } }

theorem takeLine_eq {s : State} {x : Takeover} (hx : s.rdl.take = some x) (hr : s.fld Reg.RDL_STAT_ROLE = 2) :
    takeLine s = linesTaken (s.toTime (x.own - 15000)) := by
  unfold takeLine
  simp -zeta only [hx]
  exact if_pos hr

theorem linesTaken_shows (s : State) : (linesTaken s).flag Reg.RDL_STAT_GIVE_O = false ∧ (linesTaken s).flag Reg.RDL_STAT_TAKE_O = true ∧
    (linesTaken s).rdl.take = none ∧ (linesTaken s).now = s.now ∧ (linesTaken s).mem = s.mem ∧
    ∀ a, a ≠ Reg.RDL_STAT → (linesTaken s).reg a = s.reg a :=
  ⟨(flag_mk _ _).trans (setLines_give _ _ _), (flag_mk _ _).trans (setLines_take _ _ _), rfl, rfl, rfl, fun _ ha => setLines_reg s false true ha⟩

/-- A pulse test noted. -/
def pulseNoted (s : State) : State := { s with rdl := { s.rdl with pulseAt := s.mono } }

theorem pulseNoted_shows (s : State) : (pulseNoted s).regs = s.regs ∧ (pulseNoted s).rdl.pulseAt = (pulseNoted s).mono ∧ (pulseNoted s).mono = s.mono :=
  ⟨rfl, rfl, rfl⟩

/-- What the readback of HO_GIVE_O shows, and then that of HO_TAKE_O. -/
def giveChecked (s : State) (ok : Bool) : State := if ok then s else s.pulseFail 0

def takeChecked (s : State) (ok : Bool) : State := if ok then s else s.pulseFail 1

theorem pulseTest_eq {s : State} (hr : s.fld Reg.RDL_STAT_ROLE = 2) (g k : Bool) : pulseTest g k s = 
    takeChecked (giveChecked (pulseNoted (s.toMono (s.rdl.pulseAt + 10000000000))) g) k := by
  unfold pulseTest
  rw [if_pos hr]
  rfl

theorem pulseFail_shows (s : State) (line : Nat) : (s.pulseFail line).flag Reg.RDL_STAT_HOFAIL = true ∧
    (s.pulseFail line).fld Reg.RDL_STAT_ROLE = s.fld Reg.RDL_STAT_ROLE ∧ (s.pulseFail line).told 56 line 0 ∧ (s.pulseFail line).rdl = s.rdl ∧
    (s.pulseFail line).mono = s.mono := by
  unfold State.pulseFail
  have hw := raise_within (s.setFlag Reg.RDL_STAT_HOFAIL true) 56 line 0
  exact ⟨(raise_flag _ (by decide) (by decide)).trans (flag_setFlag_same _ _ _ (by decide) (by decide)),
    (raise_fld _ (by decide) (by decide)).trans (fld_setFlag_other _ _ (by decide) (by decide)), raise_told _ (by decide) (by decide) _ _,
    hw.rdl_eq (by decide), hw.mono_eq (by decide)⟩

theorem giveChecked_shows (s : State) (ok : Bool) : (giveChecked s ok).flag Reg.RDL_STAT_HOFAIL = (s.flag Reg.RDL_STAT_HOFAIL || !ok) ∧
    (giveChecked s ok).fld Reg.RDL_STAT_ROLE = s.fld Reg.RDL_STAT_ROLE ∧ (ok = false → (giveChecked s ok).told 56 0 0) ∧
    (giveChecked s ok).rdl = s.rdl ∧ (giveChecked s ok).mono = s.mono := by
  unfold giveChecked
  cases ok
  case false =>
    obtain ⟨hf, hr, ht, hrdl, hm⟩ := pulseFail_shows s 0
    exact ⟨by simpa using hf, hr, fun _ => ht, hrdl, hm⟩
  case true => exact ⟨by simp, rfl, fun h => absurd h (by decide), rfl, rfl⟩

theorem takeChecked_shows (s : State) (ok : Bool) : (takeChecked s ok).flag Reg.RDL_STAT_HOFAIL = (s.flag Reg.RDL_STAT_HOFAIL || !ok) ∧
    (takeChecked s ok).fld Reg.RDL_STAT_ROLE = s.fld Reg.RDL_STAT_ROLE ∧ (ok = false → (takeChecked s ok).told 56 1 0) ∧
    (ok = true → takeChecked s ok = s) ∧ (takeChecked s ok).rdl = s.rdl ∧ (takeChecked s ok).mono = s.mono := by
  unfold takeChecked
  cases ok
  case false =>
    obtain ⟨hf, hr, ht, hrdl, hm⟩ := pulseFail_shows s 1
    exact ⟨by simpa using hf, hr, fun _ => ht, fun h => absurd h (by decide), hrdl, hm⟩
  case true => exact ⟨by simp, rfl, fun h => absurd h (by decide), fun _ => rfl, rfl, rfl⟩

/-- Settles O52: control is given up by request or stop, taken at t_d, shown on the terminals at t_own, and the drivers tested. -/
theorem givingAndTakingControl : Obligations.GivingAndTakingControl := by
  intro s m w ovr cause tricks indet g k n x
  refine ⟨fun hm hk h0 h1 h2 => ⟨fun hc hp hh => ?give, fun hc => ?noGive⟩,
    fun hm hk => ⟨next_eq (rdlCtrl_noKey hm hk s), next_eq (rdlCtrl_noKey hm hk s), next_eq (rdlCtrl_noKey hm hk s)⟩, fun hr => ?stop,
    fun hc => next_eq (stopMsg_control ovr hc), fun hl hr => ?notice, fun hl hr hp hh => ?lagging,
    fun hl => next_eq (if_pos (Bool.eq_false_iff.1 hl)), fun hr hp hh => ⟨fun hs hg => ?takes, fun hn hi => ?aligned⟩, fun hn => next_eq ?none,
    fun hx hr => ?line, fun hx => next_eq ?noTake, fun hr => ?pulse, fun hr => next_eq (if_neg hr)⟩
  case give =>
    have hg := unitFault_gone hc hp hh 8 0 0 true
    exact ⟨_, next_eq ((rdlCtrl_give hm hk h0 h1 h2).trans (if_pos hc)), hg.halts, hg.role, hg.give, hg.take, hg.offcause⟩
  case noGive => exact next_eq ((rdlCtrl_give hm hk h0 h1 h2).trans (if_neg (Bool.eq_false_iff.1 hc)))
  case stop =>
    have hg := stationStop_gone ((s.setReg Reg.IMG_OVR ovr).raise 96 ovr.toNat 0) 1 96
    exact ⟨_, next_eq (stopMsg_shadow ovr hr), hg.halts, hg.role, hg.offcause,
      hg.told 96 (by decide) _ _ (raise_told _ (by decide) (by decide) _ _)⟩
  case notice =>
    obtain ⟨hnotice, hindet, hregs, hmem, _, _⟩ := noticeKept_rest s indet
    exact ⟨_, next_eq ((giveUpMsg_up hl indet).trans (partnerLeft_standby ((fld_of_regs hregs _).trans hr))), hnotice, hindet, hregs, hmem⟩
  case lagging =>
    obtain ⟨_, _, hregs, _, hphase, hhalt⟩ := noticeKept_rest s indet
    exact ⟨_, next_eq ((giveUpMsg_up hl indet).trans (partnerLeft_lagging ((fld_of_regs hregs _).trans hr) (hphase.trans hp) (hhalt.trans hh))),
      restart_starts _ _⟩
  case takes =>
    obtain ⟨hnow, hrdl⟩ := giveShown_before s true
    have ht := takeover_taken (giveShown s true)
    have he : hoAccept .give true s = (giveShown s true).takeover :=
      (hoAccept_on (by rw [hp]; decide) (by rw [hp]; decide) .give true).trans (giveLevel_takes hr hp hh hs hg)
    refine ⟨_, _, next_eq he, ht.role, ht.take, ht.td.trans hnow, ht.immediate.trans (by rw [hrdl]), fun hn => ?_, ht.told, ht.join, ht.notice⟩
    rw [ht.own (by rw [hrdl]; exact hn), hnow]
  case aligned =>
    have ht := takeover_taken (s.toMono (n + 10000))
    have hrdl := (toMono_within s (n + 10000)).rdl_eq (by decide)
    refine ⟨_, _, next_eq (noticeTd_takes hr hp hh hn hi), ht.role, ht.take, ?_, ?_⟩
    · rw [ht.immediate, hrdl, hn]
      rfl
    · exact (le_toMono_mono s _).trans_eq ((takeover_within _).mono_eq (by decide)).symm
  case none =>
    unfold noticeTd
    simp only [hn]
  case line =>
    obtain ⟨hgive, htake, hnone, hnow, hmem, hreg⟩ := linesTaken_shows (s.toTime (x.own - 15000))
    refine ⟨_, next_eq (takeLine_eq hx hr), hgive, htake, hnone, fun hc => ?_, hmem.trans ((toTime_within s _).mem_eq (by decide)),
      fun a ha => (hreg a ha).trans (reg_of_regs_eq (toTime_regs s _) a)⟩
    have := le_toTime_now s (x.own - 15000) hc
    rw [hnow]
    omega
  case noTake =>
    unfold takeLine
    simp only [hx]
  case pulse =>
    have hpass := le_toMono_mono s (s.rdl.pulseAt + 10000000000)
    have hpre := toMono_regs s (s.rdl.pulseAt + 10000000000)
    have he := pulseTest_eq hr g k
    generalize s.toMono (s.rdl.pulseAt + 10000000000) = u at hpass hpre he
    obtain ⟨hregs, hat, hmono⟩ := pulseNoted_shows u
    obtain ⟨hf1, hr1, ht1, hrdl1, hm1⟩ := giveChecked_shows (pulseNoted u) g
    obtain ⟨hf2, hr2, ht2, hsame, hrdl2, hm2⟩ := takeChecked_shows (giveChecked (pulseNoted u) g) k
    refine ⟨_, next_eq he, ?_, ?_, ?_, ?_, fun hg hk => ?_, ht2⟩
    · rw [hrdl2, hrdl1, hat, hm2, hm1]
    · rw [hm2, hm1, hmono]
      exact hpass
    · rw [hr2, hr1, fld_of_regs hregs, fld_of_regs hpre, hr]
    · rw [hf2, hf1, flag_of_fld (fld_of_regs hregs _), flag_of_fld (fld_of_regs hpre _)]
    · rw [hsame hk]
      exact ht1 hg

end Sys2Proof.Proofs

/-! A swap that fails and a unit that leaves the pair (R451, R454, R463, R466, R476): what they leave of the pair's state. -/

namespace Sys2Proof.Proofs
open Sys2Proof Sys2Proof.Machine Sys2Proof.Laws

/-! ### Values through routes (R165, R476) -/

theorem convey_calm (s : State) (i : Nat) (r : Route) (e : El) : Calm s (s.convey i r e).2 := by
  unfold State.convey
  extract_lets last x s1 s2
  have h1 : Calm s s1 := by
    dsimp only [s1]
    split
    · exact .of_eq rfl rfl
    · exact .refl
  have h2 : Calm s1 s2 := .ite ((bump_calm s1 (by decide) (by decide)).trans (raise_calm _ (by decide) (by decide) _ _)) .refl
  exact (h1.trans h2).trans (.ite (bump_calm s2 (by decide) (by decide)) .refl)

/-- A route counts in the Weave's two counters only. -/
theorem convey_reg (s : State) (i : Nat) (r : Route) (e : El) {a : Nat} (hq : eventTouches a = false) (h1 : a ≠ Reg.WVE_ROUTESAT)
    (h2 : a ≠ Reg.WVE_SUBST) : (s.convey i r e).2.reg a = s.reg a := by
  have hsat (u : State) : ((u.bump Reg.WVE_ROUTESAT_COUNT Reg.WVE_ROUTESAT_SAT).raise 19 i 0).reg a = u.reg a :=
    (raise_reg _ (by decide) hq).trans (bump_reg _ h1 h1)
  have hsub (u : State) : (u.bump Reg.WVE_SUBST_COUNT Reg.WVE_SUBST_SAT).reg a = u.reg a := bump_reg _ h2 h2
  unfold State.convey
  extract_lets last x s1 s2
  have hs1 : s1.reg a = s.reg a := by
    dsimp only [s1]
    split <;> rfl
  have hs2 : s2.reg a = s1.reg a := by
    dsimp only [s2]
    split
    · exact hsat s1
    · rfl
  dsimp only
  split
  · rw [hsub, hs2, hs1]
  · rw [hs2, hs1]

theorem takeEntries_calm (t p a : Nat) : ∀ (l : List (Nat × Route)) (s : State), Calm s (s.takeEntries t p a l).2
  | [], _ => .refl
  | _ :: l, s => (convey_calm s _ _ _).trans (takeEntries_calm t p a l _)

theorem takeEntries_reg (t p x : Nat) {a : Nat} (hq : eventTouches a = false) (h1 : a ≠ Reg.WVE_ROUTESAT) (h2 : a ≠ Reg.WVE_SUBST) :
    ∀ (l : List (Nat × Route)) (s : State), (s.takeEntries t p x l).2.reg a = s.reg a
  | [], _ => rfl
  | _ :: l, s => (takeEntries_reg t p x hq h1 h2 l _).trans (convey_reg s _ _ _ hq h1 h2)

theorem sendOut_regs (s : State) (l : List OutEntry) : (s.sendOut l).regs = s.regs := (State_sendOut_within (k := 34359738368) rfl .refl).regs_eq (by decide)

theorem sendOut_calm (s : State) (l : List OutEntry) : Calm s (s.sendOut l) :=
  .of_within (k := 34359738368) (State_sendOut_within rfl .refl) (by decide) (by decide)

theorem aoFull_calm (s : State) : Calm s s.aoFull := (takeEntries_calm _ _ _ _ s).trans (sendOut_calm _ _)

theorem aoFull_reg (s : State) {a : Nat} (hq : eventTouches a = false) (h1 : a ≠ Reg.WVE_ROUTESAT) (h2 : a ≠ Reg.WVE_SUBST) : s.aoFull.reg a = s.reg a :=
  (reg_of_regs_eq (sendOut_regs _ _) a).trans (takeEntries_reg _ _ _ hq h1 h2 _ s)

theorem aoFull_within (s : State) : Within 34360263941 s s.aoFull := State_aoFull_within rfl .refl

/-! ### What the end of a swap leaves (R476) -/

/-- What the pair's reactions leave: everything of the pair's registers beside RDL_SWAP and the lines of RDL_STAT. -/
structure PairKept (s t : State) : Prop extends Steady s t where
  pair : ∀ a, pairReg a → a ≠ Reg.RDL_STAT → a ≠ Reg.RDL_SWAP → t.reg a = s.reg a
  stat : ∀ f : Field, f.addr = Reg.RDL_STAT → f.lo + f.width ≤ 32 → (f.lo + f.width ≤ 10 ∨ 12 ≤ f.lo) → t.fld f = s.fld f
  own : t.rdl.own = s.rdl.own
  carry : t.rdl.carryEnd = s.rdl.carryEnd

theorem PairKept.refl {s : State} : PairKept s s := ⟨.refl, fun _ _ _ _ => rfl, fun _ _ _ _ => rfl, rfl, rfl⟩

theorem PairKept.trans {s t u : State} (h : PairKept s t) (g : PairKept t u) : PairKept s u :=
  ⟨h.toSteady.trans g.toSteady, fun a ha h1 h2 => (g.pair a ha h1 h2).trans (h.pair a ha h1 h2),
    fun f hf hw hd => (g.stat f hf hw hd).trans (h.stat f hf hw hd), g.own.trans h.own, g.carry.trans h.carry⟩

theorem PairKept.ite {c : Prop} [Decidable c] {s t u : State} (h : PairKept s t) (g : PairKept s u) : PairKept s (if c then t else u) := by
  split
  · exact h
  · exact g

theorem Calm.pairKept {s t : State} (h : Calm s t) (hr : t.rdl = s.rdl) : PairKept s t :=
  ⟨h.toSteady, fun a ha _ _ => h.pair a ha, fun _ hf _ _ => h.fld (Or.inl hf), by rw [hr], by rw [hr]⟩

theorem setLines_pairKept (s : State) (g k : Bool) : PairKept s (s.setLines g k) :=
  ⟨setLines_steady s g k, fun _ _ h _ => setLines_reg s g k h, fun _ _ hw hd => setLines_fld s g k hw hd, rfl, rfl⟩

theorem swapPhase_pairKept (s : State) (p : Nat) : PairKept s (s.swapPhase p) := by
  have hr := (swapPhase_within s p).rdl_eq (by decide)
  refine ⟨swapPhase_steady s p, fun a ha _ h => swapPhase_reg s p ?_ h, fun f hf _ _ => fld_of_reg ?_, by rw [hr], by rw [hr]⟩
  · rcases ha with rfl | rfl | rfl | rfl | rfl | rfl <;> decide
  · rw [hf]
    exact swapPhase_reg s p (by decide) (by decide)

theorem abandonSwap_within (s : State) : Within 99589 s s.abandonSwap := State_abandonSwap_within rfl .refl

theorem abandonSwap_pairKept (s : State) : PairKept s s.abandonSwap := (abandonSwap_calm s).pairKept ((abandonSwap_within s).rdl_eq (by decide))

/-- Forgetting what was asked for changes no register. -/
theorem unask_pairKept (s : State) : PairKept s { s with rdl := { s.rdl with swapAsked := false } } :=
  ⟨(setRdl_calm s _).toSteady, fun _ _ _ _ => rfl, fun _ _ _ _ => rfl, rfl, rfl⟩

theorem swapForgotten_pairKept (s : State) : PairKept s (swapForgotten s) :=
  ⟨(setRdl_calm s _).toSteady, fun _ _ _ _ => rfl, fun _ _ _ _ => rfl, rfl, rfl⟩

theorem swapEnd_pairKept (s : State) : PairKept s s.swapEnd := by
  unfold State.swapEnd
  split
  · exact unask_pairKept s
  · exact .ite .refl (((swapForgotten_pairKept s).trans (abandonSwap_pairKept _)).trans (swapPhase_pairKept _ _))

theorem tell_pairKept (s : State) (m : Rolent) : PairKept s (s.tell m) := (tell_calm s m).pairKept ((tell_within s m).rdl_eq (by decide))

theorem postMode_pairKept (s : State) (m t : Nat) : PairKept s (s.postMode m t) := (postMode_calm s m t).pairKept ((postMode_within s m t).rdl_eq (by decide))

theorem aoFull_pairKept (s : State) : PairKept s s.aoFull := (aoFull_calm s).pairKept ((aoFull_within s).rdl_eq (by decide))

/-- What a failed swap's active does once the swap has ended: it tells its partner, keeps own mode, and takes the terminals back in the overlap. -/
def swapTakenBack (s : State) (posted over_ : Bool) (ts : Nat) : State :=
  let s := s.tell (.swapCancel (s.fld Reg.RDL_SWAP_PHASE))
  let s := if posted then s.postMode 0 ts else s
  if over_ then (s.setLines false true).aoFull else s

theorem swapTakenBack_pairKept (s : State) (posted over_ : Bool) (ts : Nat) : PairKept s (swapTakenBack s posted over_ ts) := by
  unfold swapTakenBack
  extract_lets s1 s2
  have h2 : PairKept s1 s2 := .ite (postMode_pairKept s1 0 ts) .refl
  exact ((tell_pairKept s _).trans h2).trans (.ite ((setLines_pairKept s2 _ _).trans (aoFull_pairKept _)) .refl)

theorem swapFail_cases (s : State) : s.swapFail = s ∨ s.swapFail = s.swapEnd ∨ ∃ posted over_ ts, s.swapFail = swapTakenBack s.swapEnd posted over_ ts := by
  unfold State.swapFail
  split
  case h_1 => exact Or.inr (Or.inl rfl)
  case h_2 ts _ =>
    split
    · exact Or.inl rfl
    · dsimp only
      split
      · exact Or.inr (Or.inr ⟨_, _, ts, rfl⟩)
      · exact Or.inr (Or.inl rfl)

theorem swapFail_pairKept (s : State) : PairKept s s.swapFail := by
  rcases swapFail_cases s with h | h | ⟨p, o, ts, h⟩ <;> rw [h]
  · exact .refl
  · exact swapEnd_pairKept s
  · exact (swapEnd_pairKept s).trans (swapTakenBack_pairKept _ p o ts)

/-! ### Swap-loads that are not under way -/

/-- A unit in whose state no swap-load is under way, as after an operation that leaves what says so. -/
theorem notLoading_congr {s t : State} (h : s.swapLoading = false) (hl : t.load = s.load) (hw : t.reg Reg.WVE_SWAP = s.reg Reg.WVE_SWAP)
    (hk : PairKept s t) : t.swapLoading = false :=
  (swapLoading_congr hl (hk.stat _ rfl (by decide) (by decide)) (fld_of_reg hw) hk.carry).trans h

theorem swapEnd_notLoading {s : State} (h : s.swapLoading = false) : s.swapEnd.swapLoading = false := by
  unfold State.swapEnd
  split
  · exact (swapLoading_congr rfl (fld_mk s _) (fld_mk s _) rfl).trans h
  · split
    · exact h
    · have hf : (swapForgotten s).swapLoading = false := (swapForgotten_loading s).trans h
      refine (swapPhase_loading _ _).trans ?_
      show (swapForgotten s).abandonSwap.swapLoading = false
      rw [abandonSwap_none hf, hf]

theorem swapTakenBack_notLoading {s : State} (h : s.swapLoading = false) (posted over_ : Bool) (ts : Nat) :
    (swapTakenBack s posted over_ ts).swapLoading = false := by
  unfold swapTakenBack
  extract_lets s1 s2
  have ht := tell_within s (.swapCancel (s.fld Reg.RDL_SWAP_PHASE))
  have h1 : s1.swapLoading = false :=
    notLoading_congr h (ht.load_eq (by decide)) (reg_of_regs_eq (ht.regs_eq (by decide)) _) (tell_pairKept s _)
  clear_value s1
  have h2 : s2.swapLoading = false := by
    dsimp only [s2]
    split
    · exact notLoading_congr h1 ((postMode_within s1 0 ts).load_eq (by decide))
        ((hostPost_mailKept s1 (by decide) _ _).reg _ (by decide) (by decide)) (postMode_pairKept s1 0 ts)
    · exact h1
  clear_value s2
  split
  · have h3 : (s2.setLines false true).swapLoading = false :=
      notLoading_congr h2 rfl (setLines_reg s2 _ _ (by decide)) (setLines_pairKept s2 _ _)
    exact notLoading_congr h3 ((aoFull_within _).load_eq (by decide)) (aoFull_reg _ (by decide) (by decide) (by decide)) (aoFull_pairKept _)
  · exact h2

theorem swapFail_notLoading {s : State} (h : s.swapLoading = false) : s.swapFail.swapLoading = false := by
  rcases swapFail_cases s with he | he | ⟨p, o, ts, he⟩ <;> rw [he]
  · exact h
  · exact swapEnd_notLoading h
  · exact swapTakenBack_notLoading (swapEnd_notLoading h) p o ts

/-! ### A unit that goes to OFF and runs on (R451, R454, R466) -/

/-- The unit in OFF, before it is known whether a swap-load takes it further. -/
def offShown (s : State) (cause : Nat) : State :=
  (((((s.stopTasks true).setFlag Reg.LPE_STAT_RUN false).setFlag Reg.RDL_STAT_REPAIR false).swapEnd.abandonSwap.dropMirror.joinPhase 0).setFld
    Reg.RDL_STAT_OFFCAUSE cause).setRole 0

theorem enterOff_plain {s : State} (h : s.swapLoading = false) (cause : Nat) : s.enterOff cause = offShown s cause := by
  unfold State.enterOff
  rw [h]
  rfl

/-- What OFF shows, and what it leaves. -/
theorem offShown_shows (s : State) {cause : Nat} (h : cause < 16) : (offShown s cause).fld Reg.RDL_STAT_ROLE = 0 ∧
    (offShown s cause).fld Reg.RDL_STAT_OFFCAUSE = cause ∧ (offShown s cause).fld Reg.RDL_STAT_PROLE = s.fld Reg.RDL_STAT_PROLE ∧
    (offShown s cause).reg Reg.RDL_LINK = s.reg Reg.RDL_LINK ∧ Steady s (offShown s cause) := by
  unfold offShown
  have h1 := (stopTasks_calm s true).trans (setFlag_calm (f := Reg.LPE_STAT_RUN) (s.stopTasks true) false (by decide))
  generalize (s.stopTasks true).setFlag Reg.LPE_STAT_RUN false = u at h1 ⊢
  have h2 := (swapEnd_pairKept (u.setFlag Reg.RDL_STAT_REPAIR false)).trans (abandonSwap_pairKept _)
  have h2p : (u.setFlag Reg.RDL_STAT_REPAIR false).fld Reg.RDL_STAT_PROLE = u.fld Reg.RDL_STAT_PROLE := fld_setFlag_other _ _ (by decide) (by decide)
  have h2l : (u.setFlag Reg.RDL_STAT_REPAIR false).reg Reg.RDL_LINK = u.reg Reg.RDL_LINK := reg_setFlag_ne _ _ (by decide)
  have h2s : Steady u (u.setFlag Reg.RDL_STAT_REPAIR false) := setFlag_steady _ _ (by decide)
  generalize (u.setFlag Reg.RDL_STAT_REPAIR false).swapEnd.abandonSwap = v at h2 ⊢
  obtain ⟨hrole, hoff, _, _, hs⟩ := offWithCause_shows (v.dropMirror.joinPhase 0) h
  have hj := (dropMirror_calm v).toSteady.trans (joinPhase_steady v.dropMirror 0)
  refine ⟨hrole, hoff, ?_, ?_, (((h1.toSteady.trans h2s).trans h2.toSteady).trans hj).trans hs⟩
  · rw [setRole_fld _ _ rfl (by decide) (by decide), fld_setFld_other _ _ (by decide) (by decide),
      joinPhase_fld _ _ (by decide) (by decide) (by decide), (dropMirror_calm v).fld (Or.inl rfl), h2.stat _ rfl (by decide) (by decide), h2p,
      h1.fld (Or.inl rfl)]
  · rw [setRole_reg _ _ (by decide) (by decide), reg_setFld_ne _ _ (by decide), joinPhase_reg _ _ (by decide) (by decide),
      (dropMirror_calm v).pair _ (Or.inr (Or.inl rfl)), h2.pair _ (Or.inr (Or.inl rfl)) (by decide) (by decide), h2l,
      h1.pair _ (Or.inr (Or.inl rfl))]

end Sys2Proof.Proofs

/-! The Rolent link, ROLE, TIME and digests (R454 to R456, R463, R464). -/

namespace Sys2Proof.Proofs
open Sys2Proof Sys2Proof.Machine Sys2Proof.Laws

/-! ### Lanes and link (R454) -/

theorem linkEvent_shows (s : State) : s.linkEvent.told 52 (s.linkEvent.reg Reg.RDL_LINK).toNat 0 ∧ s.linkEvent.reg Reg.RDL_LINK = s.reg Reg.RDL_LINK ∧
    Within 1285 s s.linkEvent := by
  unfold State.linkEvent
  rw [raise_reg _ (by decide) (by decide)]
  exact ⟨raise_told _ (by decide) (by decide) _ _, rfl, raise_within _ _ _ _⟩

/-- A lane that is up, and the link with it. -/
def laneShown (s : State) (l : Nat) : State := ((s.setFlag (laneBit l) true).setFlag Reg.RDL_LINK_UP true).linkEvent

theorem laneShown_shows (s : State) {l : Nat} (h : l < 2) : (laneShown s l).flag (laneBit l) = true ∧ (laneShown s l).flag Reg.RDL_LINK_UP = true ∧
    (laneShown s l).told 52 ((laneShown s l).reg Reg.RDL_LINK).toNat 0 ∧ (laneShown s l).mem = s.mem ∧ (laneShown s l).mono = s.mono := by
  obtain ⟨htold, hreg, hw⟩ := linkEvent_shows ((s.setFlag (laneBit l) true).setFlag Reg.RDL_LINK_UP true)
  refine ⟨(flag_of_fld (fld_of_reg hreg)).trans ?_, (flag_of_fld (fld_of_reg hreg)).trans ?_, htold, hw.mem_eq (by decide), hw.mono_eq (by decide)⟩
  · have h1 : (laneBit l).lo + (laneBit l).width ≤ Reg.RDL_LINK_UP.lo := (show l + 1 ≤ 2 by omega)
    exact (flag_setFlag_other _ _ (show l + 1 ≤ 32 by omega) (Or.inr h1)).trans (flag_setFlag_same _ _ _ rfl (show l < 32 by omega))
  · exact flag_setFlag_same _ _ _ (by decide) (by decide)

/-- The instant noted at which the link came up. -/
def linkNoted (s : State) : State := { s with rdl := { s.rdl with linkAt := s.mono } }

theorem linkNoted_rest (s : State) : (linkNoted s).regs = s.regs ∧ (linkNoted s).mem = s.mem ∧ (linkNoted s).rdl.linkAt = s.mono := ⟨rfl, rfl, rfl⟩

/-- What a lane's coming up makes of the link. -/
def laneTaken (s : State) (was : Bool) : State :=
  let u := if was then s else linkNoted s
  if !was && decide (u.cpm.phase = .negotiating) then u.sendNegotiate else u

theorem laneUp_eq {s : State} {l : Nat} (h : s.flag (laneBit l) = false) (hc : s.onPairCarrier = true) (hp : s.flag Reg.CPM_STAT_PLL_COAST = false) :
    laneUp l s = laneTaken (laneShown s l) (s.flag Reg.RDL_LINK_UP) := by
  unfold laneUp
  rw [if_neg (by simp [h, hc, hp])]
  rfl

theorem sendNegotiate_within (s : State) : Within 137438953472 s s.sendNegotiate := State_sendNegotiate_within rfl .refl

theorem laneTaken_keeps (s : State) (was : Bool) : (laneTaken s was).regs = s.regs ∧ (laneTaken s was).mem = s.mem ∧
    (was = false → (laneTaken s was).rdl.linkAt = s.mono) := by
  obtain ⟨hregs, hmem, hlink⟩ := linkNoted_rest s
  have hw := sendNegotiate_within (linkNoted s)
  unfold laneTaken
  cases was
  case true => exact ⟨rfl, rfl, fun h => absurd h (by decide)⟩
  case false =>
    rw [if_neg Bool.false_ne_true]
    dsimp only
    split
    · refine ⟨(hw.regs_eq (by decide)).trans hregs, (hw.mem_eq (by decide)).trans hmem, fun _ => ?_⟩
      rw [hw.rdl_eq (by decide), hlink]
    · exact ⟨hregs, hmem, fun _ => hlink⟩

/-! ### The link lost (R454) -/

/-- The partner is unknown, its link down. -/
def partnerUnknown (s : State) : State := (((s.setFlag Reg.RDL_LINK_UP false).linkEvent).setFld Reg.RDL_STAT_PROLE 7).setFlag Reg.RDL_STAT_PCONF false

theorem partnerUnknown_shows (s : State) : (partnerUnknown s).flag Reg.RDL_LINK_UP = false ∧ (partnerUnknown s).fld Reg.RDL_STAT_PROLE = 7 ∧
    (partnerUnknown s).fld Reg.RDL_STAT_ROLE = s.fld Reg.RDL_STAT_ROLE ∧ (partnerUnknown s).told 52 ((partnerUnknown s).reg Reg.RDL_LINK).toNat 0 ∧
    (partnerUnknown s).swapLoading = s.swapLoading := by
  unfold partnerUnknown
  obtain ⟨htold, hreg, hw⟩ := linkEvent_shows (s.setFlag Reg.RDL_LINK_UP false)
  have hf : ∀ f : Field, f.addr ≠ Reg.RDL_LINK → eventTouches f.addr = false → (s.setFlag Reg.RDL_LINK_UP false).linkEvent.fld f = s.fld f :=
    fun f h1 h2 => (raise_fld _ (by decide) h2).trans (fld_setFlag_addr _ _ h1)
  have hup : (s.setFlag Reg.RDL_LINK_UP false).linkEvent.flag Reg.RDL_LINK_UP = false :=
    (flag_of_fld (fld_of_reg hreg)).trans (flag_setFlag_same _ _ _ (by decide) (by decide))
  have hload := hw.load_eq (by decide)
  have hrdl := hw.rdl_eq (by decide)
  generalize (s.setFlag Reg.RDL_LINK_UP false).linkEvent = u at htold hf hup hload hrdl ⊢
  have hlink : ((u.setFld Reg.RDL_STAT_PROLE 7).setFlag Reg.RDL_STAT_PCONF false).reg Reg.RDL_LINK = u.reg Reg.RDL_LINK :=
    (reg_setFlag_ne _ _ (by decide)).trans (reg_setFld_ne _ _ (by decide))
  have hrole : ((u.setFld Reg.RDL_STAT_PROLE 7).setFlag Reg.RDL_STAT_PCONF false).fld Reg.RDL_STAT_ROLE = s.fld Reg.RDL_STAT_ROLE :=
    (fld_setFlag_other _ _ (by decide) (by decide)).trans ((fld_setFld_other _ _ (by decide) (by decide)).trans (hf _ (by decide) (by decide)))
  refine ⟨(flag_of_fld (fld_of_reg hlink)).trans hup, ?_, hrole, ?_, swapLoading_congr hload hrole ?_ (congrArg Rdl.carryEnd hrdl)⟩
  · exact (fld_setFlag_other _ _ (by decide) (by decide)).trans (fld_setFld_of_lt _ (by decide) (by decide))
  · rw [hlink]
    exact (told_setFlag (by decide) (by decide)).2 ((told_setFld (by decide) (by decide)).2 htold)
  · exact (fld_setFlag_addr _ _ (by decide)).trans ((fld_setFld_addr _ _ (by decide)).trans (hf _ (by decide) (by decide)))

/-- How a unit goes on without its partner, by its role. -/
def aloneNow (u : State) : State :=
  if u.fld Reg.RDL_STAT_ROLE = 3 ∨ u.fld Reg.RDL_STAT_ROLE = 4 then u.enterOff 3 else if u.joining then u.joinFails else u.dropMirror.joinPhase 0

theorem linkLoss_eq {s : State} (h : s.flag Reg.RDL_LINK_UP = true) : linkLoss s = aloneNow (partnerUnknown s).swapFail := if_pos h

theorem aloneNow_shows {u : State} (hl : u.swapLoading = false) : (aloneNow u).reg Reg.RDL_LINK = u.reg Reg.RDL_LINK ∧
    (aloneNow u).fld Reg.RDL_STAT_PROLE = u.fld Reg.RDL_STAT_PROLE ∧ Steady u (aloneNow u) ∧
    (u.fld Reg.RDL_STAT_ROLE = 1 ∨ u.fld Reg.RDL_STAT_ROLE = 2 → (aloneNow u).fld Reg.RDL_STAT_ROLE = u.fld Reg.RDL_STAT_ROLE) ∧
    (u.fld Reg.RDL_STAT_ROLE = 3 ∨ u.fld Reg.RDL_STAT_ROLE = 4 →
      (aloneNow u).fld Reg.RDL_STAT_ROLE = 0 ∧ (aloneNow u).fld Reg.RDL_STAT_OFFCAUSE = 3) := by
  obtain ⟨hrole, hoff, hprole, hlink, hs⟩ := offShown_shows u (cause := 3) (by decide)
  unfold aloneNow
  split
  case isTrue h =>
    rw [enterOff_plain hl]
    exact ⟨hlink, hprole, hs, fun h' => by omega, fun _ => ⟨hrole, hoff⟩⟩
  case isFalse h =>
    split
    · have hr : u.joinFails.reg Reg.RDL_STAT = u.reg Reg.RDL_STAT := joinFails_reg u (by decide) (by decide)
      exact ⟨joinFails_reg u (by decide) (by decide), fld_of_reg hr, joinFails_steady u, fun _ => fld_of_reg hr, fun h' => absurd h' h⟩
    · have hr : (u.dropMirror.joinPhase 0).reg Reg.RDL_STAT = u.reg Reg.RDL_STAT := joinPhase_reg u.dropMirror 0 (by decide) (by decide)
      exact ⟨joinPhase_reg u.dropMirror 0 (by decide) (by decide), fld_of_reg hr, (dropMirror_calm u).toSteady.trans (joinPhase_steady _ _),
        fun _ => fld_of_reg hr, fun h' => absurd h' h⟩

/-! ### ROLE and TIME (R455, R456) -/

theorem partnerRole_standby {s : State} (h : s.fld Reg.RDL_STAT_ROLE = 3) (role : Nat) : s.partnerRole role = s.setFld Reg.RDL_STAT_PROLE role := by
  have hd : s.declaredLate = false := by
    unfold State.declaredLate
    simp [h]
  have hr : (s.setFld Reg.RDL_STAT_PROLE role).fld Reg.RDL_STAT_ROLE = 3 := (fld_setFld_other _ _ (by decide) (by decide)).trans h
  have hj : (s.setFld Reg.RDL_STAT_PROLE role).joining = false := by
    unfold State.joining
    simp [hr]
  unfold State.partnerRole
  dsimp only
  rw [if_neg (fun h : s.declaredLate = true ∧ role = 3 => Bool.eq_false_iff.1 hd h.1), if_neg (by rw [hr]; decide),
    if_neg (fun h => Bool.eq_false_iff.1 hj h.1)]

theorem roleMsg_standby {s : State} (hl : s.flag Reg.RDL_LINK_UP = true) {role : Nat} (h4 : role ≤ 4) (h : s.fld Reg.RDL_STAT_ROLE = 3) (trace : Bool) :
    roleMsg role trace s = (s.setFld Reg.RDL_STAT_PROLE role).setFlag Reg.PTP_STAT_TRACE trace := by
  have hf : (s.setFld Reg.RDL_STAT_PROLE role).follows = true := by
    unfold State.follows
    rw [(fld_setFld_other _ _ (by decide) (by decide)).trans h]
    rfl
  unfold roleMsg
  rw [if_neg (fun g => g.elim (fun g => Nat.not_lt.2 h4 g) (fun g => g hl)), partnerRole_standby h]
  exact if_pos hf

/-- The instant of a TIME message noted. -/
def timeKept (s : State) : State := { s with rdl := { s.rdl with timeRx := s.now } }

theorem timeKept_rest (s : State) : (timeKept s).regs = s.regs ∧ (timeKept s).mem = s.mem ∧ (timeKept s).rdl.timeRx = s.now := ⟨rfl, rfl, rfl⟩

theorem timeKept_follows (s : State) : (timeKept s).follows = s.follows := rfl

theorem timeMsg_up {s : State} (hl : s.flag Reg.RDL_LINK_UP = true) : timeMsg s = if (timeKept s).follows then
    (timeKept s).draw.setAddend (0x9FF5C290 + (Config.servoAddend (timeKept s).freeCtr).val) else timeKept s := if_neg fun h => h hl

theorem draw_rest (s : State) : s.draw.regs = s.regs ∧ s.draw.mem = s.mem ∧ s.draw.rdl = s.rdl := ⟨rfl, rfl, rfl⟩

theorem clampAddend_range (v : Nat) : 0x9FF5C290 ≤ clampAddend v ∧ clampAddend v ≤ 0xA00A3D70 := by
  unfold clampAddend
  omega

/-- The load shown. -/
def loadShown (s : State) (peak : Nat) : State := s.setFld Reg.RDL_LOAD_PEAK (min 65535 (max peak (s.fld Reg.RDL_LOAD_PEAK)))

/-- The instant of a message noted. -/
def sentNoted (s : State) : State := { s with rdl := { s.rdl with sentAt := s.mono } }

def timeNoted (s : State) : State := { s with rdl := { s.rdl with timeTx := s.now } }

theorem sentNoted_rest (s : State) : (sentNoted s).regs = s.regs ∧ (sentNoted s).outbox = s.outbox ∧ (sentNoted s).mono = s.mono ∧
    (sentNoted s).rdl.sentAt = s.mono ∧ (sentNoted s).rdl.timeRx = s.rdl.timeRx := ⟨rfl, rfl, rfl, rfl, rfl⟩

theorem timeNoted_rest (s : State) : (timeNoted s).regs = s.regs ∧ (timeNoted s).outbox = s.outbox ∧ (timeNoted s).mono = s.mono ∧
    (timeNoted s).rdl.sentAt = s.rdl.sentAt := ⟨rfl, rfl, rfl, rfl⟩

/-- ROLE and TIME sent. -/
def roleTold (s : State) : State :=
  timeNoted ((s.tell (.role (s.fld Reg.RDL_STAT_ROLE) (s.flag Reg.PTP_STAT_TRACE))).tell (.time s.now s.rdl.timeRx))

/-- The instant noted, and the messages sent while the link is up. -/
def roleDue (s : State) : State := if (sentNoted s).flag Reg.RDL_LINK_UP then roleTold (sentNoted s) else sentNoted s

theorem roleSend_eq {s : State} (hc : s.onPairCarrier = true) (peak : Nat) :
    roleSend peak s = roleDue ((loadShown s peak).toMono ((loadShown s peak).rdl.sentAt + 10000000)) := by
  unfold roleSend
  rw [if_neg (fun h => h hc)]
  rfl

theorem roleDue_up {s : State} (hl : s.flag Reg.RDL_LINK_UP = true) : roleDue s = roleTold (sentNoted s) := if_pos hl

theorem roleTold_shows {s : State} (hl : s.flag Reg.RDL_LINK_UP = true) : (roleTold s).outbox = s.outbox ++
      [.rolent (.role (s.fld Reg.RDL_STAT_ROLE) (s.flag Reg.PTP_STAT_TRACE)), .rolent (.time s.now s.rdl.timeRx)] ∧
    (roleTold s).regs = s.regs ∧ (roleTold s).mono = s.mono ∧ (roleTold s).rdl.sentAt = s.rdl.sentAt := by
  unfold roleTold
  have h1 := tell_within s (.role (s.fld Reg.RDL_STAT_ROLE) (s.flag Reg.PTP_STAT_TRACE))
  have ho := tell_outbox hl (.role (s.fld Reg.RDL_STAT_ROLE) (s.flag Reg.PTP_STAT_TRACE))
  have hl' := flag_of_fld (fld_of_regs (h1.regs_eq (by decide)) Reg.RDL_LINK_UP)
  generalize s.tell (.role (s.fld Reg.RDL_STAT_ROLE) (s.flag Reg.PTP_STAT_TRACE)) = u at h1 ho hl' ⊢
  have h2 := tell_within u (.time s.now s.rdl.timeRx)
  have ho2 := tell_outbox (hl'.trans hl) (.time s.now s.rdl.timeRx)
  generalize u.tell (.time s.now s.rdl.timeRx) = v at h2 ho2 ⊢
  obtain ⟨hregs, hout, hmono, hsent⟩ := timeNoted_rest v
  refine ⟨?_, ?_, ?_, ?_⟩
  · rw [hout, ho2, ho, List.append_assoc]
    rfl
  · rw [hregs, h2.regs_eq (by decide), h1.regs_eq (by decide)]
  · rw [hmono, h2.mono_eq (by decide), h1.mono_eq (by decide)]
  · rw [hsent, h2.rdl_eq (by decide), h1.rdl_eq (by decide)]

/-! ### Digests (R463, R464, R466) -/

/-- An active unit that runs without a swap or a carry: it judges digests and asks for no repair. -/
structure Judges (s : State) : Prop where
  role : s.fld Reg.RDL_STAT_ROLE = 2
  carry : s.rdl.carryEnd = none
  swap : s.rdl.swapAt = none
  run : s.cpm.phase = .run

theorem Judges.of_calm {s t : State} (h : Judges s) (hc : Calm s t) (h1 : t.rdl.carryEnd = s.rdl.carryEnd) (h2 : t.rdl.swapAt = s.rdl.swapAt) : Judges t :=
  ⟨(hc.fld (Or.inl rfl)).trans h.role, h1.trans h.carry, h2.trans h.swap, hc.phase.trans h.run⟩

theorem setFld_judges {s : State} (h : Judges s) {f : Field} (v : Nat) (hd : f.addr = Reg.RDL_STAT → 3 ≤ f.lo) : Judges (s.setFld f v) := by
  refine ⟨Eq.trans ?_ h.role, h.carry, h.swap, h.run⟩
  by_cases ha : Reg.RDL_STAT = f.addr
  · exact fld_setFld_other _ _ (by decide) (Or.inr (hd ha.symm))
  · exact fld_setFld_addr _ _ ha

theorem bump_judges {s : State} (h : Judges s) {c f : Field} (hc : Reg.RDL_STAT ≠ c.addr) (hf : Reg.RDL_STAT ≠ f.addr) : Judges (s.bump c f) := by
  have hw := bump_within s c f
  refine ⟨(bump_fld_addr s hc hf).trans h.role, ?_, ?_, ?_⟩
  · rw [hw.rdl_eq (by decide), h.carry]
  · rw [hw.rdl_eq (by decide), h.swap]
  · rw [hw.cpm_eq (by decide), h.run]

theorem raise_judges {s : State} (h : Judges s) {n : Nat} (hn : n < 256) (lo hi : Nat) : Judges (s.raise n lo hi) := by
  have hw := raise_within s n lo hi
  refine ⟨(raise_fld s hn (by decide)).trans h.role, ?_, ?_, (raise_phase s n lo hi).trans h.run⟩
  · rw [hw.rdl_eq (by decide), h.carry]
  · rw [hw.rdl_eq (by decide), h.swap]

theorem swapFail_noSwap {s : State} (h : s.rdl.swapAt = none) : s.swapFail = { s with rdl := { s.rdl with swapAsked := false } } := by
  unfold State.swapFail State.swapEnd
  simp only [h]

theorem swapFail_judges {s : State} (h : Judges s) : Judges s.swapFail := by
  rw [swapFail_noSwap h.swap]
  exact ⟨h.role, h.carry, h.swap, h.run⟩

theorem digestOnTime_judges {s : State} (h : Judges s) : Judges s.digestOnTime := by
  have h1 := setFld_judges h (f := Reg.RDL_LAG_ONTIME) (min 1000 (s.fld Reg.RDL_LAG_ONTIME + 1)) (by decide)
  unfold State.digestOnTime
  dsimp only
  split
  · exact h1
  · split
    · exact setFld_judges h1 3 (by decide)
    · rw [if_neg (by rw [h1.role]; decide)]
      exact h1

theorem digestMissed_judges {s : State} (h : Judges s) : Judges s.digestMissed := by
  have h1 := setFld_judges h (f := Reg.RDL_LAG_ONTIME) 0 (by decide)
  have h2 := bump_judges h1 (c := Reg.RDL_LAG_LATE) (f := Reg.RDL_LAG_SAT) (by decide) (by decide)
  unfold State.digestMissed
  dsimp only
  rw [if_pos h1.role]
  split
  · exact swapFail_judges (raise_judges (setFld_judges h2 4 (by decide)) (by decide) 0 0)
  · exact h2

/-- A digest on time counts up to 1,000 in a row, and changes RDL_LAG and the partner's role only. -/
theorem digestOnTime_shows {s : State} (h : Judges s) : s.digestOnTime.fld Reg.RDL_LAG_ONTIME = min 1000 (s.fld Reg.RDL_LAG_ONTIME + 1) ∧
    s.digestOnTime.reg Reg.RDL_DIV = s.reg Reg.RDL_DIV ∧ s.digestOnTime.mem = s.mem := by
  have h1 := setFld_judges h (f := Reg.RDL_LAG_ONTIME) (min 1000 (s.fld Reg.RDL_LAG_ONTIME + 1)) (by decide)
  have hn : (s.setFld Reg.RDL_LAG_ONTIME (min 1000 (s.fld Reg.RDL_LAG_ONTIME + 1))).fld Reg.RDL_LAG_ONTIME = min 1000 (s.fld Reg.RDL_LAG_ONTIME + 1) :=
    fld_setFld_of_lt _ (Nat.lt_of_le_of_lt (Nat.min_le_left _ _) (by decide)) (by decide)
  have hd : (s.setFld Reg.RDL_LAG_ONTIME (min 1000 (s.fld Reg.RDL_LAG_ONTIME + 1))).reg Reg.RDL_DIV = s.reg Reg.RDL_DIV := reg_setFld_ne _ _ (by decide)
  unfold State.digestOnTime
  dsimp only
  split
  · exact ⟨hn, hd, rfl⟩
  · split
    · exact ⟨(fld_setFld_addr _ _ (by decide)).trans hn, (reg_setFld_ne _ _ (by decide)).trans hd, rfl⟩
    · rw [if_neg (by rw [h1.role]; decide)]
      exact ⟨hn, hd, rfl⟩

/-- The instant of a divergence listed. -/
def divListed (s : State) : State := { s with rdl := { s.rdl with divs := s.fld Reg.CPM_OPSEC_OPSEC :: s.recentDivs } }

theorem divListed_judges {s : State} (h : Judges s) : Judges (divListed s) := ⟨h.role, h.carry, h.swap, h.run⟩

/-- A divergence counted, before its event. -/
def divCounted (s : State) (c : Nat) : State :=
  let s := divListed ((s.bump Reg.RDL_DIV_COUNT Reg.RDL_DIV_SAT).setFld Reg.RDL_DIV_LAST c)
  s.setFld Reg.RDL_DIV_HOUR (min 3 s.rdl.divs.length)

theorem divCounted_judges {s : State} (h : Judges s) (c : Nat) : Judges (divCounted s c) := by
  have h1 := setFld_judges (bump_judges h (c := Reg.RDL_DIV_COUNT) (f := Reg.RDL_DIV_SAT) (by decide) (by decide)) (f := Reg.RDL_DIV_LAST) c
    (by decide)
  exact setFld_judges (divListed_judges h1) (f := Reg.RDL_DIV_HOUR) _ (by decide)

theorem divCounted_last (s : State) {c : Nat} (h : c < 16) : (divCounted s c).fld Reg.RDL_DIV_LAST = c := by
  unfold divCounted
  dsimp only
  rw [fld_setFld_other _ _ (by decide) (by decide)]
  exact fld_setFld_of_lt _ h (by decide)

/-- An active unit tells of a divergence, counts it, and goes on. -/
theorem diverge_judged {s : State} (h : Judges s) (c trick : Nat) : s.diverge c trick = (divCounted s c).raise 49 c trick := by
  have hj := raise_judges (divCounted_judges h c) (n := 49) (by decide) c trick
  have hd : ((divCounted s c).raise 49 c trick).divEnds c = false := by
    unfold State.divEnds
    rw [hj.swap]
    rfl
  have ha : ((divCounted s c).raise 49 c trick).asksRepair = false := by
    unfold State.asksRepair State.isShadow
    rw [hj.carry, hj.role]
    simp
  have he : s.diverge c trick = (let u := if ((divCounted s c).raise 49 c trick).divEnds c then ((divCounted s c).raise 49 c trick).swapFail
      else (divCounted s c).raise 49 c trick
    if ¬ u.asksRepair then u else if u.isShadow ∧ 3 ≤ u.rdl.divs.length then u.enterOff 4 else u.askRepair c) := rfl
  rw [he, hd]
  exact if_pos (Bool.eq_false_iff.1 ha)

/-- The own and the partner's digest of a release taken. -/
def digestsTaken (s : State) (c : Nat) : State :=
  { s with rdl := { s.rdl with own := s.rdl.own.filter (fun x => decide (x.1 ≠ c)), other := s.rdl.other.filter (fun x => decide (x.1 ≠ c)) } }

theorem digestsTaken_judges {s : State} (h : Judges s) (c : Nat) : Judges (digestsTaken s c) := ⟨h.role, h.carry, h.swap, h.run⟩

/-- A pair of digests judged by its instant. -/
def digestJudged (s : State) (t : Nat) : State := if s.now ≤ t + s.budget then s.digestOnTime else s.digestMissed

theorem digestJudged_judges {s : State} (h : Judges s) (t : Nat) : Judges (digestJudged s t) := by
  unfold digestJudged
  split
  · exact digestOnTime_judges h
  · exact digestMissed_judges h

theorem compareDigests_both {s : State} {c tr d t c' tr' e : Nat} (h1 : s.rdl.own.find? (fun x => decide (x.1 = c ∧ x.2.1 = tr)) = some (c, tr, d, t))
    (h2 : s.rdl.other.find? (fun x => decide (x.1 = c ∧ x.2.1 = tr)) = some (c', tr', e)) : s.compareDigests c tr =
    if d = e ∨ (digestJudged (digestsTaken s c) t).cpm.phase = .ready then digestJudged (digestsTaken s c) t
    else (digestJudged (digestsTaken s c) t).diverge c tr := by
  unfold State.compareDigests
  rw [h1, h2]
  rfl

theorem compareDigests_none {s : State} {c tr : Nat} (h : s.rdl.own.find? (fun x => decide (x.1 = c ∧ x.2.1 = tr)) = none) : s.compareDigests c tr = s := by
  unfold State.compareDigests
  rw [h]

/-- The partner's digest noted. -/
def digestHeard (s : State) (c tr dig : Nat) : State :=
  { s with rdl := { s.rdl with other := (c, tr, dig) :: s.rdl.other.filter (fun x => decide (x.1 ≠ c)) } }

/-- The release that it ends at the partner. -/
def partnerSeen (s : State) (c tr : Nat) : State :=
  if c < 8 ∧ (s.fld (Reg.IMG_TRICK_COMMITTED c) + 1) % 2 ^ 24 = tr then s.setTask c { s.task c with partnerDone := true } else s

theorem digestArrives_eq (s : State) (c tr dig : Nat) : digestArrives c tr dig s = (partnerSeen (digestHeard s c tr dig) c tr).compareDigests c tr := rfl

theorem digestHeard_rest (s : State) (c tr dig : Nat) : (digestHeard s c tr dig).rdl.own = s.rdl.own ∧
    (digestHeard s c tr dig).rdl.other = (c, tr, dig) :: s.rdl.other.filter (fun x => decide (x.1 ≠ c)) ∧
    (digestHeard s c tr dig).regs = s.regs ∧ (digestHeard s c tr dig).mem = s.mem ∧ (digestHeard s c tr dig).now = s.now ∧
    (digestHeard s c tr dig).img = s.img := ⟨rfl, rfl, rfl, rfl, rfl, rfl⟩

theorem digestHeard_judges {s : State} (h : Judges s) (c tr dig : Nat) : Judges (digestHeard s c tr dig) := ⟨h.role, h.carry, h.swap, h.run⟩

theorem partnerSeen_within (s : State) (c tr : Nat) : Within 1048576 s (partnerSeen s c tr) := by
  unfold partnerSeen
  split
  · exact State_setTask_within rfl .refl
  · exact .refl

/-- The budget rests on the image and the registers. -/
theorem budget_congr {s t : State} (h : t.regs = s.regs) (hi : t.img = s.img) : t.budget = s.budget := by
  unfold State.budget State.pT0 State.taskRec
  rw [fld_of_regs h, hi]

end Sys2Proof.Proofs

/-! The Rolent link and digests: the obligation. -/

namespace Sys2Proof.Proofs
open Sys2Proof Sys2Proof.Machine Sys2Proof.Laws

theorem digestsTaken_rest (s : State) (c : Nat) : (digestsTaken s c).regs = s.regs ∧ (digestsTaken s c).mem = s.mem ∧ (digestsTaken s c).now = s.now ∧
    (digestsTaken s c).img = s.img := ⟨rfl, rfl, rfl, rfl⟩

/-! ### Late digests (R463) -/

theorem setRdl_rest (s : State) (r : Rdl) : ({ s with rdl := r } : State).regs = s.regs ∧ ({ s with rdl := r } : State).rdl = r := ⟨rfl, rfl⟩

/-- The one digest that waits is the late one, now or when its budget has passed. -/
theorem digestLate_one {s : State} {c tr d t0 : Nat} (ho : s.rdl.own = [(c, tr, d, t0)]) (ha : s.rdl.asked = []) :
    ∃ u : State, u.regs = s.regs ∧ digestLate s = State.digestMissed { u with rdl := { s.rdl with own := [] } } := by
  have he : s.rdl.own.erase (c, tr, d, t0) = [] := by
    rw [ho]
    simp
  unfold digestLate
  by_cases hp : t0 + s.budget ≤ s.now
  · have hf : s.rdl.own.find? (fun e => decide (e.2.2.2 + s.budget ≤ s.now) && !(s.rdl.asked.contains e.1)) = some (c, tr, d, t0) := by
      simp [ho, ha, hp]
    refine ⟨s, rfl, ?_⟩
    rw [hf]
    dsimp only
    rw [he]
  · have hf : s.rdl.own.find? (fun e => decide (e.2.2.2 + s.budget ≤ s.now) && !(s.rdl.asked.contains e.1)) = none := by
      simp [ho, hp]
    have hl : (s.rdl.own.filter (fun e => !(s.rdl.asked.contains e.1))).getLast? = some (c, tr, d, t0) := by
      simp [ho, ha]
    refine ⟨s.toTime (t0 + s.budget), toTime_regs _ _, ?_⟩
    rw [hf]
    dsimp only
    rw [hl]
    dsimp only
    rw [he]

/-- A late digest makes a STANDBY partner LAGGING. -/
theorem digestMissed_lags {s : State} (hr : s.fld Reg.RDL_STAT_ROLE = 2) (hp : s.fld Reg.RDL_STAT_PROLE = 3) :
    s.digestMissed.fld Reg.RDL_STAT_PROLE = 4 ∧ s.digestMissed.fld Reg.RDL_LAG_ONTIME = 0 ∧ s.digestMissed.rdl.own = s.rdl.own ∧
    s.digestMissed.told 51 0 0 := by
  unfold State.digestMissed
  extract_lets s1 s2
  have hst : s1.reg Reg.RDL_STAT = s.reg Reg.RDL_STAT := reg_setFld_ne _ _ (by decide)
  have hon1 : s1.fld Reg.RDL_LAG_ONTIME = 0 := fld_setFld_of_lt _ (by decide) (by decide)
  have ho1 : s1.rdl = s.rdl := rfl
  clear_value s1
  rw [if_pos ((fld_of_reg hst).trans hr)]
  have hst2 : s2.reg Reg.RDL_STAT = s1.reg Reg.RDL_STAT := bump_reg _ (by decide) (by decide)
  have hon2 : s2.fld Reg.RDL_LAG_ONTIME = 0 := (bump_fld_other _ (by decide) (by decide) (by decide)).trans hon1
  have ho2 : s2.rdl = s1.rdl := (bump_within _ _ _).rdl_eq (by decide)
  clear_value s2
  rw [if_pos ((fld_of_reg hst2).trans ((fld_of_reg hst).trans hp))]
  have hw := raise_within (s2.setFld Reg.RDL_STAT_PROLE 4) 51 0 0
  have hk := swapFail_pairKept ((s2.setFld Reg.RDL_STAT_PROLE 4).raise 51 0 0)
  refine ⟨?_, ?_, ?_, hk.told 51 (by decide) _ _ (raise_told _ (by decide) (by decide) _ _)⟩
  · rw [hk.stat _ rfl (by decide) (by decide), raise_fld _ (by decide) (by decide)]
    exact fld_setFld_of_lt _ (by decide) (by decide)
  · rw [fld_of_reg (hk.pair _ (by decide) (by decide) (by decide)), raise_fld _ (by decide) (by decide), fld_setFld_addr _ _ (by decide), hon2]
  · rw [hk.own, hw.rdl_eq (by decide)]
    show s2.rdl.own = _
    rw [ho2, ho1]

/-! ### Repairs (R464) -/

theorem repairReq_asked {s : State} {c : Nat} (hr : s.fld Reg.RDL_STAT_ROLE = 2) (hc : s.rdl.carryEnd = none) (hm : c ∈ s.rdl.mirror) :
    repairReq c s = { s with rdl := { s.rdl with asked := c :: s.rdl.asked.filter (fun d => decide (d ≠ c)) } } := by
  unfold repairReq
  rw [if_neg (fun h => by simp [hc] at h), if_pos ⟨Or.inl hr, List.contains_iff_mem.2 hm⟩]

theorem repairReq_other {s : State} {c : Nat} (hc : s.rdl.carryEnd = none) (hm : c ∉ s.rdl.mirror) : repairReq c s = s := by
  unfold repairReq
  rw [if_neg (fun h => by simp [hc] at h), if_neg (fun h => hm (List.contains_iff_mem.1 h.2))]

theorem putBufs_within (s : State) (c : Nat) (b : TrickBufs) : Within 1048577 s (s.putBufs c b) := State_putBufs_within rfl .refl

/-- A task with a partner's Trick buffers. -/
def withBufs (t : Task) (b : TrickBufs) : Task :=
  { t with applied := imgClean b.applied, appliedTrick := b.appliedTrick, committed := imgClean b.committed, applyAt := b.applyAt, prevStart := b.began,
           fresh := false }

theorem putBufs_tasks (s : State) (c : Nat) (b : TrickBufs) : (s.putBufs c b).tasks = (s.setTask c (withBufs (s.task c) b)).tasks := rfl

/-- Trick buffers leave the task's variables and its lines. -/
theorem putBufs_task (s : State) (b : TrickBufs) {c : Nat} (h : c < s.tasks.length) :
    ((s.putBufs c b).task c).v = (s.task c).v ∧ ((s.putBufs c b).task c).lines = (s.task c).lines := by
  have he : (s.putBufs c b).task c = withBufs (s.task c) b := by
    unfold State.task
    rw [putBufs_tasks]
    exact task_setTask_same s _ h
  rw [he]
  exact ⟨rfl, rfl⟩

/-- G and Trick buffers that a repair replaces. -/
theorem putBoth_shows (s : State) (g : List Host.Cell) (b : TrickBufs) {c : Nat} (h : c < s.tasks.length) :
    ((({ s with g := g } : State).putBufs c b).task c).v = (s.task c).v ∧ ((({ s with g := g } : State).putBufs c b).task c).lines = (s.task c).lines ∧
    (({ s with g := g } : State).putBufs c b).mem = s.mem := by
  obtain ⟨hv, hli⟩ := putBufs_task { s with g := g } b h
  exact ⟨hv, hli, (putBufs_within { s with g := g } c b).mem_eq (by decide)⟩

/-- A repair of a task: its variables are the partner's, and its lines are gone. -/
theorem putRepair_shows {s : State} {m : RepairMsg} (hs : s.sized) (hm : m.task < 9) : ((s.putRepair m).task m.task).v = imgClean m.v ∧
    ((s.putRepair m).task m.task).lines = [] ∧ (s.putRepair m).mem = s.mem := by
  have hlen : m.task < s.tasks.length := by
    rw [hs.1]
    exact hm
  have hne : m.task ≠ loopKey := by
    unfold loopKey
    omega
  unfold State.putRepair
  rw [if_neg hne]
  extract_lets t s1
  have ht : s1.task m.task = { s.task m.task with v := imgClean m.v, gPend := [], lPend := [], lines := [] } := task_setTask_same s _ hlen
  have hl : s1.tasks.length = s.tasks.length := setTask_length s _ _
  have hmem : s1.mem = s.mem := rfl
  clear_value s1 t
  obtain ⟨hv, hli, hm'⟩ := putBoth_shows s1 (m.g.foldl (fun (g : List Host.Cell) (c : Nat × Byte) => imgWrite g c.1 [c.2]) s1.g) m.bufs
    (c := m.task) (by rw [hl]; exact hlen)
  rw [ht] at hv hli
  exact ⟨hv, hli, hm'.trans hmem⟩

/-- A repair done with. -/
def repairTaken (s : State) (c : Nat) : State :=
  let left := s.rdl.repair.filter (fun d => decide (d ≠ c))
  ({ s with rdl := { s.rdl with repair := left, quiet := s.rdl.quiet.filter (fun d => decide (d ≠ c)) } } : State).setFlag Reg.RDL_STAT_REPAIR
    (!left.isEmpty)

theorem repairTaken_rest (s : State) (c : Nat) : c ∉ (repairTaken s c).rdl.repair ∧ (repairTaken s c).mem = s.mem ∧
    (repairTaken s c).task c = s.task c := by
  refine ⟨fun h => ?_, rfl, rfl⟩
  have h' : c ∈ s.rdl.repair.filter (fun d => decide (d ≠ c)) := h
  simp at h'

theorem repairMsg_taken {s : State} {m : RepairMsg} (ha : s.asksRepair = true) (hm : m.task ∈ s.rdl.repair) :
    repairMsg m s = (repairTaken (s.putRepair m) m.task).raise 50 m.task 0 := by
  unfold repairMsg
  rw [if_pos ⟨ha, List.contains_iff_mem.2 hm⟩]
  rfl

theorem raise_task (s : State) (n lo hi c : Nat) : (s.raise n lo hi).task c = s.task c := by
  unfold State.task
  rw [(raise_within s n lo hi).tasks_eq (by decide)]

/-- Settles O50: lanes, link, ROLE, TIME, digests and repairs each change what they show and no more of the pair's state. -/
theorem linkAndDigests : Obligations.LinkAndDigests := by
  intro s l role dig d t0 tr peak x y trace mine c m
  have hl2 : (laneBit l.val).lo + (laneBit l.val).width ≤ Reg.RDL_LINK_UP.lo := (show l.val + 1 ≤ 2 by omega)
  have hl32 : (laneBit l.val).lo < 32 := (show l.val < 32 by omega)
  refine ⟨fun h hc hp => ?laneUp, fun h => ⟨next_eq (if_pos (Or.inl h)), ?laneLoss⟩, ?crc, fun hl hn => ?loss,
    fun hl => ⟨next_eq (if_neg (Bool.eq_false_iff.1 hl)), next_eq (if_pos (Or.inr (Bool.eq_false_iff.1 hl))), next_eq (if_pos (Bool.eq_false_iff.1 hl))⟩,
    fun hl h4 hr => ?role, fun hl => ?time, fun hc hl => ?send, fun hf hr hc hp hs => ?digest, fun hf => ?early, fun ho ha hr hp => ?late,
    fun ho => next_eq ?nothing, fun hr hc hm => ⟨_, next_eq (repairReq_asked hr hc hm), List.mem_cons_self, rfl, rfl⟩,
    fun hm hc => next_eq (repairReq_other hc hm), fun hs ha hm h9 => ?repair, fun hm => next_eq (if_neg fun h => hm (List.contains_iff_mem.1 h.2))⟩
  case laneUp =>
    obtain ⟨hlane, hup, htold, hmem, hmono⟩ := laneShown_shows s l.isLt
    obtain ⟨hregs, hkept, hlink⟩ := laneTaken_keeps (laneShown s l.val) (s.flag Reg.RDL_LINK_UP)
    refine ⟨_, next_eq (laneUp_eq h hc hp), (flag_of_fld (fld_of_regs hregs _)).trans hlane, (flag_of_fld (fld_of_regs hregs _)).trans hup, ?_,
      hkept.trans hmem, fun hd => (hlink hd).trans hmono⟩
    rw [reg_of_regs_eq hregs]
    exact (told_of_regs hregs).2 htold
  case laneLoss =>
    obtain ⟨htold, hreg, _⟩ := linkEvent_shows (s.setFlag (laneBit l.val) false)
    exact ⟨_, next_eq (if_pos h), (flag_of_fld (fld_of_reg hreg)).trans (flag_setFlag_same _ _ _ rfl hl32),
      (flag_of_fld (fld_of_reg hreg)).trans (flag_setFlag_other _ _ (by decide) (Or.inl hl2)), htold⟩
  case crc =>
    cases mine
    case true =>
      exact ⟨_, next_eq (if_pos rfl), bump_mem _ _ _, fun a ha => bump_reg _ ha ha, fun _ =>
        ⟨bump_fld_other _ (by decide) (by decide) (by decide), bump_fld _ (by decide) (by decide)⟩, fun h => absurd h (by decide)⟩
    case false =>
      exact ⟨_, next_eq (if_neg Bool.false_ne_true), bump_mem _ _ _, fun a ha => bump_reg _ ha ha, fun h => absurd h (by decide), fun _ =>
        ⟨bump_fld _ (by decide) (by decide), bump_fld_other _ (by decide) (by decide) (by decide)⟩⟩
  case loss =>
    obtain ⟨hup, hprole, hrole, htold, hload⟩ := partnerUnknown_shows s
    have hk := swapFail_pairKept (partnerUnknown s)
    have hlink := hk.pair Reg.RDL_LINK (by decide) (by decide) (by decide)
    have hr := (hk.stat Reg.RDL_STAT_ROLE rfl (by decide) (by decide)).trans hrole
    obtain ⟨hlink2, hprole2, hst2, hctl, hoff⟩ := aloneNow_shows (swapFail_notLoading (hload.trans hn))
    refine ⟨_, next_eq (linkLoss_eq hl), ?_, ?_, ?_, fun hc => ?_, fun h => hoff (by rw [hr]; exact h)⟩
    · rw [flag_of_fld (fld_of_reg hlink2), flag_of_fld (fld_of_reg hlink), hup]
    · rw [hprole2, hk.stat _ rfl (by decide) (by decide), hprole]
    · rw [hlink2, hlink]
      exact hst2.told 52 (by decide) _ _ (hk.told 52 (by decide) _ _ htold)
    · have h12 : s.fld Reg.RDL_STAT_ROLE = 1 ∨ s.fld Reg.RDL_STAT_ROLE = 2 := by
        unfold State.inControl at hc
        simpa using hc
      rw [hctl (by rw [hr]; exact h12), hr]
  case role =>
    exact ⟨_, next_eq (roleMsg_standby hl h4 hr trace),
      (fld_setFlag_addr _ _ (by decide)).trans (fld_setFld_of_lt _ (Nat.lt_of_le_of_lt h4 (by decide)) (by decide)),
      flag_setFlag_same _ _ _ (by decide) (by decide), rfl⟩
  case time =>
    obtain ⟨hregs, hmem, hrx⟩ := timeKept_rest s
    refine ⟨_, next_eq (timeMsg_up hl), ?_⟩
    rw [timeKept_follows]
    split
    case isTrue h =>
      obtain ⟨_, hdm, hdr⟩ := draw_rest (timeKept s)
      have hw := setAddend_within (timeKept s).draw (0x9FF5C290 + (Config.servoAddend (timeKept s).freeCtr).val)
      refine ⟨?_, ?_, fun _ => ?_, fun h' => absurd h (Bool.eq_false_iff.1 h')⟩
      · rw [hw.rdl_eq (by decide), hdr, hrx]
      · rw [hw.mem_eq (by decide), hdm, hmem]
      · rw [setAddend_addend]
        exact clampAddend_range _
    case isFalse h => exact ⟨hrx, hmem, fun h' => absurd h' h, fun _ => hregs⟩
  case send =>
    have hsent : (loadShown s peak).rdl.sentAt = s.rdl.sentAt := rfl
    have hmono := le_toMono_mono (loadShown s peak) ((loadShown s peak).rdl.sentAt + 10000000)
    have hw := toMono_within (loadShown s peak) ((loadShown s peak).rdl.sentAt + 10000000)
    have hregs := hw.regs_eq (by decide)
    have hrdl := hw.rdl_eq (by decide)
    have hout := hw.outbox_eq (by decide)
    have he := roleSend_eq hc peak
    generalize (loadShown s peak).toMono ((loadShown s peak).rdl.sentAt + 10000000) = u at hmono hregs hrdl hout he
    have hload (a : Nat) (ha : a ≠ Reg.RDL_LOAD) : (loadShown s peak).reg a = s.reg a := reg_setFld_ne s _ ha
    have hreg (a : Nat) (ha : a ≠ Reg.RDL_LOAD) : u.reg a = s.reg a := (reg_of_regs_eq hregs a).trans (hload a ha)
    obtain ⟨hsr, hso, hsm, hsa, hsx⟩ := sentNoted_rest u
    have hup : u.flag Reg.RDL_LINK_UP = true := (flag_of_fld (fld_of_reg (hreg _ (by decide)))).trans hl
    obtain ⟨hto, htr, htm, hts⟩ := roleTold_shows (s := sentNoted u) ((flag_of_fld (fld_of_regs hsr _)).trans hup)
    refine ⟨_, (sentNoted u).now, next_eq (he.trans (roleDue_up hup)), ?_, ?_, ?_, fun a ha => ?_⟩
    · rw [htm, hsm, ← hsent]
      exact hmono
    · rw [hto, hso, hout, fld_of_regs hsr, fld_of_reg (hreg _ (by decide)), flag_of_fld (fld_of_regs hsr _), flag_of_fld (fld_of_reg (hreg _ (by decide))),
        hsx, hrdl]
      rfl
    · rw [hts, hsa, htm, hsm]
    · rw [reg_of_regs_eq htr, reg_of_regs_eq hsr, hreg a ha]
  case digest =>
    obtain ⟨hown, hother, hregs, hmem, hnow, himg⟩ := digestHeard_rest s c.val tr dig
    have hj0 := digestHeard_judges ⟨hr, hc, hs, hp⟩ c.val tr dig
    have hw := partnerSeen_within (digestHeard s c.val tr dig) c.val tr
    have hrdl := hw.rdl_eq (by decide)
    have hj1 := hj0.of_calm (.of_within hw (by decide) (by decide)) (by rw [hrdl]) (by rw [hrdl])
    have hj2 := digestsTaken_judges hj1 c.val
    have hj3 := digestJudged_judges hj2 t0
    have hf1 : (partnerSeen (digestHeard s c.val tr dig) c.val tr).rdl.own.find? (fun e => decide (e.1 = c.val ∧ e.2.1 = tr)) =
        some (c.val, tr, d, t0) := by
      rw [hrdl, hown, hf]
    have hf2 : (partnerSeen (digestHeard s c.val tr dig) c.val tr).rdl.other.find? (fun e => decide (e.1 = c.val ∧ e.2.1 = tr)) =
        some (c.val, tr, dig) := by
      rw [hrdl, hother, List.find?_cons_of_pos (by simp)]
    have he := (digestArrives_eq s c.val tr dig).trans (compareDigests_both hf1 hf2)
    have hregs1 := hw.regs_eq (by decide)
    have hmem1 := hw.mem_eq (by decide)
    have hnow1 := hw.now_eq (by decide)
    have himg1 := hw.img_eq (by decide)
    generalize partnerSeen (digestHeard s c.val tr dig) c.val tr = u at he hj2 hj3 hregs1 hmem1 hnow1 himg1
    refine ⟨fun hd ht => ?_, fun hd => ?_⟩
    · obtain ⟨hr4, hm4, hn4, hi4⟩ := digestsTaken_rest u c.val
      have hb : (digestsTaken u c.val).now ≤ t0 + (digestsTaken u c.val).budget := by
        rw [hn4, hnow1, hnow, budget_congr (hr4.trans (hregs1.trans hregs)) (hi4.trans (himg1.trans himg))]
        exact ht
      rw [if_pos (Or.inl hd)] at he
      unfold digestJudged at he
      rw [if_pos hb] at he
      obtain ⟨hon, hdiv, hmem5⟩ := digestOnTime_shows hj2
      refine ⟨_, next_eq he, ?_, ?_, ?_⟩
      · rw [hdiv, reg_of_regs_eq hr4, reg_of_regs_eq hregs1, reg_of_regs_eq hregs]
      · rw [hon, fld_of_regs hr4, fld_of_regs hregs1, fld_of_regs hregs]
      · rw [hmem5, hm4, hmem1, hmem]
    · have hrun : ¬ (d = dig ∨ (digestJudged (digestsTaken u c.val) t0).cpm.phase = .ready) := by
        rw [hj3.run]
        simp [hd]
      rw [if_neg hrun, diverge_judged hj3] at he
      refine ⟨_, next_eq he, raise_told _ (by decide) (by decide) _ _, ?_⟩
      rw [raise_fld _ (by decide) (by decide)]
      exact divCounted_last _ (by omega)
  case early =>
    obtain ⟨hown, hother, hregs, _⟩ := digestHeard_rest s c.val tr dig
    have hw := partnerSeen_within (digestHeard s c.val tr dig) c.val tr
    have hrdl := hw.rdl_eq (by decide)
    refine ⟨_, next_eq ((digestArrives_eq s c.val tr dig).trans (compareDigests_none ?_)), (hw.regs_eq (by decide)).trans hregs, ?_⟩
    · rw [hrdl, hown, hf]
    · rw [hrdl, hother]
      rfl
  case late =>
    obtain ⟨u, hu, he⟩ := digestLate_one ho ha
    obtain ⟨hrg, hrd⟩ := setRdl_rest u { s.rdl with own := [] }
    obtain ⟨h1, h2, h3, h4⟩ := digestMissed_lags (s := { u with rdl := { s.rdl with own := [] } }) ((fld_of_regs (hrg.trans hu) _).trans hr)
      ((fld_of_regs (hrg.trans hu) _).trans hp)
    exact ⟨_, next_eq he, h1, h2, h3.trans (by rw [hrd]), h4⟩
  case nothing =>
    unfold digestLate
    simp [ho]
  case repair =>
    obtain ⟨hv, hli, hmem⟩ := putRepair_shows hs h9
    obtain ⟨hleft, hm2, htask⟩ := repairTaken_rest (s.putRepair m) m.task
    have hw := raise_within (repairTaken (s.putRepair m) m.task) 50 m.task 0
    refine ⟨_, next_eq (repairMsg_taken ha hm), ?_, ?_, ?_, raise_told _ (by decide) (by decide) _ _, (hw.mem_eq (by decide)).trans (hm2.trans hmem)⟩
    · rw [hw.rdl_eq (by decide)]
      exact hleft
    · rw [raise_task, htask, hv]
    · rw [raise_task, htask, hli]

end Sys2Proof.Proofs

/-! A unit joins its partner (R458 to R460). -/

namespace Sys2Proof.Proofs
open Sys2Proof Sys2Proof.Machine Sys2Proof.Laws

/-! ### The active answers (R459) -/

/-- The partner known to be OFF, with its confirmation. -/
def partnerAsks (s : State) (conf : Bool) : State := (s.dropMirror.setFld Reg.RDL_STAT_PROLE 0).setFlag Reg.RDL_STAT_PCONF conf

/-- JOIN_ACK sent. -/
def joinAnswered (s : State) : State := (s.joinPhase 1).tell (.joinAck s.build s.safeChk s.ownConf s.now)

/-- The state set sent. -/
def stateSent (s : State) : State := ((s.joinPhase 2).tell (.state s.stateItems)).setFld Reg.RDL_JOIN_PASS 1

/-- The tasks that are still to be cut over. -/
def cutsListed (s : State) : State := { s with rdl := { s.rdl with cutLeft := s.enabledTasks ++ [loopKey], dirty := [] } }

/-- The copy done. -/
def copyDone (s : State) : State := (s.setFld Reg.RDL_JOIN_PCT 100).joinPhase 3

theorem joinReq_active {s : State} (hr : s.fld Reg.RDL_STAT_ROLE = 2) (hl : s.flag Reg.RDL_LINK_UP = true) (build : Nat) (conf : Bool) :
    joinReq build conf s = if build ≠ (joinAnswered (partnerAsks s conf)).build then (joinAnswered (partnerAsks s conf)).sendImage
      else copyDone (cutsListed (stateSent (joinAnswered (partnerAsks s conf)))) := by
  unfold joinReq
  rw [if_neg (fun h => h.elim (fun h => h hr) (fun h => h hl))]
  rfl

theorem partnerAsks_shows (s : State) (conf : Bool) : (partnerAsks s conf).rdl.mirror = [] ∧ (partnerAsks s conf).mem = s.mem ∧
    (partnerAsks s conf).flag Reg.RDL_STAT_PCONF = conf ∧ (partnerAsks s conf).fld Reg.RDL_STAT_ROLE = s.fld Reg.RDL_STAT_ROLE ∧
    ∀ a, a ≠ Reg.RDL_STAT → (partnerAsks s conf).reg a = s.reg a := by
  have hd (a : Nat) : s.dropMirror.reg a = s.reg a := rfl
  refine ⟨rfl, rfl, flag_setFlag_same _ _ _ (by decide) (by decide), ?_, fun a ha => ?_⟩
  · exact (fld_setFlag_other _ _ (by decide) (by decide)).trans ((fld_setFld_other _ _ (by decide) (by decide)).trans (fld_of_reg (hd _)))
  · exact (reg_setFlag_ne _ _ ha).trans ((reg_setFld_ne _ _ ha).trans (hd a))

theorem joinAnswered_shows (s : State) : (joinAnswered s).rdl = s.rdl ∧ (joinAnswered s).mem = s.mem ∧ (joinAnswered s).fld Reg.RDL_JOIN_PHASE = 1 ∧
    ∀ a, eventTouches a = false → a ≠ Reg.RDL_JOIN → (joinAnswered s).reg a = s.reg a := by
  have hj := joinPhase_within s 1
  have ht := tell_within (s.joinPhase 1) (.joinAck s.build s.safeChk s.ownConf s.now)
  have hr := ht.regs_eq (by decide)
  exact ⟨(ht.rdl_eq (by decide)).trans (hj.rdl_eq (by decide)), (ht.mem_eq (by decide)).trans (hj.mem_eq (by decide)),
    (fld_of_regs hr _).trans (joinPhase_phase s (by decide)), fun a hq ha => (reg_of_regs_eq hr a).trans (joinPhase_reg s 1 hq ha)⟩

theorem stateSent_shows (s : State) : (stateSent s).rdl = s.rdl ∧ (stateSent s).mem = s.mem ∧
    ∀ a, eventTouches a = false → a ≠ Reg.RDL_JOIN → (stateSent s).reg a = s.reg a := by
  have hj := joinPhase_within s 2
  have ht := tell_within (s.joinPhase 2) (.state s.stateItems)
  exact ⟨(ht.rdl_eq (by decide)).trans (hj.rdl_eq (by decide)), (ht.mem_eq (by decide)).trans (hj.mem_eq (by decide)),
    fun a hq ha => (reg_setFld_ne _ _ ha).trans ((reg_of_regs_eq (ht.regs_eq (by decide)) a).trans (joinPhase_reg s 2 hq ha))⟩

theorem cutsListed_rest (s : State) : (cutsListed s).rdl.cutLeft = s.enabledTasks ++ [loopKey] ∧ (cutsListed s).rdl.mirror = s.rdl.mirror ∧
    (cutsListed s).mem = s.mem ∧ (cutsListed s).regs = s.regs := ⟨rfl, rfl, rfl, rfl⟩

theorem copyDone_shows (s : State) : (copyDone s).rdl = s.rdl ∧ (copyDone s).mem = s.mem ∧ (copyDone s).fld Reg.RDL_JOIN_PHASE = 3 ∧
    (copyDone s).fld Reg.RDL_JOIN_PCT = 100 ∧ (∀ a, eventTouches a = false → a ≠ Reg.RDL_JOIN → (copyDone s).reg a = s.reg a) := by
  have hj := joinPhase_within (s.setFld Reg.RDL_JOIN_PCT 100) 3
  refine ⟨hj.rdl_eq (by decide), hj.mem_eq (by decide), joinPhase_phase _ (by decide), ?_, fun a hq ha =>
    (joinPhase_reg _ 3 hq ha).trans (reg_setFld_ne _ _ ha)⟩
  exact (joinPhase_fld _ _ (by decide) (fun _ => by decide) (by decide)).trans (fld_setFld_of_lt _ (by decide) (by decide))

theorem imgTask_quiet {c : Nat} (h : c < 9) : eventTouches (Reg.IMG_TASK c) = false ∧ Reg.IMG_TASK c ≠ Reg.RDL_JOIN ∧ Reg.IMG_TASK c ≠ Reg.RDL_STAT := by
  have hc : c = 0 ∨ c = 1 ∨ c = 2 ∨ c = 3 ∨ c = 4 ∨ c = 5 ∨ c = 6 ∨ c = 7 ∨ c = 8 := by omega
  rcases hc with rfl | rfl | rfl | rfl | rfl | rfl | rfl | rfl | rfl <;> decide

/-- The enabled tasks are those that their registers show. -/
theorem enabledTasks_congr {s t : State} (h : ∀ c < 9, t.reg (Reg.IMG_TASK c) = s.reg (Reg.IMG_TASK c)) : t.enabledTasks = s.enabledTasks := by
  unfold State.enabledTasks
  refine List.filter_congr fun c hc => ?_
  exact flag_of_fld (fld_of_reg (h c (List.mem_range.1 hc)))

theorem build_congr {s t : State} (h : t.reg Reg.WVE_BUILD = s.reg Reg.WVE_BUILD) : t.build = s.build := congrArg BitVec.toNat h

/-! ### A join asked for (R459) -/

theorem joinRetry_due {s : State} {n : Nat} (hj : s.rdl.joinFail = some n) (hr : s.fld Reg.RDL_STAT_ROLE = 0) (hp : s.cpm.phase = .run) :
    joinRetry s = (s.toMono (n + 10000000000)).joinStart := by
  unfold joinRetry
  simp only [hj]
  exact if_pos ⟨hr, hp⟩

theorem linkRejoin_due {s : State} (hr : s.fld Reg.RDL_STAT_ROLE = 0) (ho : s.fld Reg.RDL_STAT_OFFCAUSE = 3) (hl : s.flag Reg.RDL_LINK_UP = true) :
    linkRejoin s = (s.toMono (s.rdl.linkAt + 1000000000)).joinStart := if_pos ⟨hr, ho, hl⟩

/-- A join asked for after a wait. -/
theorem joinStart_later {s : State} (hr : s.fld Reg.RDL_STAT_ROLE = 0) (hp : s.cpm.phase = .run) (hh : s.cpm.haltOnStop = false)
    (hj : s.fld Reg.RDL_JOIN_PHASE = 0) (hl : s.flag Reg.RDL_LINK_UP = true) (n : Nat) : let t := (s.toMono n).joinStart
    t.fld Reg.RDL_JOIN_PHASE = 1 ∧ n ≤ t.mono ∧ t.outbox = s.outbox ++ [.rolent (.joinReq s.build s.safeChk s.ownConf)] ∧ t.mem = s.mem := by
  have hw := toMono_within s n
  have hcpm := hw.cpm_eq (by decide)
  have hregs := hw.regs_eq (by decide)
  have hout := hw.outbox_eq (by decide)
  have himg := hw.img_eq (by decide)
  have hmem := hw.mem_eq (by decide)
  have hmono := le_toMono_mono s n
  generalize s.toMono n = u at hcpm hregs hout himg hmem hmono ⊢
  have ha := joinStart_asked (s := u) ((fld_of_regs hregs _).trans hr) (by rw [hcpm, hp]) (by rw [hcpm, hh]) ((fld_of_regs hregs _).trans hj)
    ((flag_of_fld (fld_of_regs hregs _)).trans hl)
  have hb : u.build = s.build := build_congr (reg_of_regs_eq hregs _)
  have hc : u.ownConf = s.ownConf := flag_of_fld (fld_of_regs hregs _)
  have hs : u.safeChk = s.safeChk := by
    unfold State.safeChk
    rw [himg]
  have hout' := ha.outbox
  rw [hout, hb, hs, hc] at hout'
  exact ⟨ha.phase, hmono.trans_eq ((joinStart_within u).mono_eq (by decide)).symm, hout', ha.mem.trans hmem⟩

/-! ### The joining unit (R459) -/

theorem joining_iff {s : State} (hr : s.fld Reg.RDL_STAT_ROLE = 0) {p : Nat} (hp : s.fld Reg.RDL_JOIN_PHASE = p) (h1 : 1 ≤ p) (h3 : p ≤ 3) :
    s.joining = true := by
  unfold State.joining
  rw [hr, hp]
  simp [h1, h3]

/-- The partner's time taken over. -/
def timeTaken (s : State) (conf : Bool) (time : Nat) : State := { s.setFlag Reg.RDL_STAT_PCONF conf with now := time, frac := 0 }

/-- The tasks to be shadowed one after another. -/
def cutsAwaited (s : State) : State := { s with rdl := { s.rdl with cutLeft := s.enabledTasks ++ [loopKey] } }

theorem timeTaken_rest (s : State) (conf : Bool) (time : Nat) : (timeTaken s conf time).now = time ∧ (timeTaken s conf time).mono = s.mono ∧
    (timeTaken s conf time).mem = s.mem ∧ ∀ a, a ≠ Reg.RDL_STAT → (timeTaken s conf time).reg a = s.reg a :=
  ⟨rfl, rfl, rfl, fun _ ha => reg_setFlag_ne s _ ha⟩

theorem cutsAwaited_rest (s : State) : (cutsAwaited s).rdl.cutLeft = s.enabledTasks ++ [loopKey] ∧ (cutsAwaited s).now = s.now ∧
    (cutsAwaited s).mono = s.mono ∧ (cutsAwaited s).mem = s.mem := ⟨rfl, rfl, rfl, rfl⟩

theorem joinAck_waiting {s : State} (hr : s.fld Reg.RDL_STAT_ROLE = 0) (hj : s.fld Reg.RDL_JOIN_PHASE = 1) (build : Nat) (conf : Bool) (time : Nat) :
    joinAck build conf time s =
      if build = (timeTaken s conf time).build then (cutsAwaited (timeTaken s conf time)).joinPhase 2 else timeTaken s conf time := by
  unfold joinAck
  rw [if_neg (fun h => h.elim (fun h => h (joining_iff hr hj (by decide) (by decide))) (fun h => h hj))]
  rfl

theorem stateMsg_copying {s : State} (hr : s.fld Reg.RDL_STAT_ROLE = 0) (hj : s.fld Reg.RDL_JOIN_PHASE = 2) (items : List StateItem) :
    stateMsg items s = copyDone ((s.storeItems items).setFld Reg.RDL_JOIN_PASS 1) := if_pos ⟨joining_iff hr hj (by decide) (by decide), hj⟩

theorem storeItems_within (s : State) (l : List StateItem) : Within 408043523 s (s.storeItems l) := State_storeItems_within rfl .refl

theorem storeItem_lines (s : State) (sp k off : Nat) (bs : List Byte) : s.storeItem (.lines sp k off bs) =
    if sp = 2 then s.setTask k { s.task k with v := imgWrite (s.task k).v off bs } else { s with g := imgWrite s.g off bs } := by
  unfold State.storeItem
  rfl

theorem storeItem_v (s : State) (k off : Nat) (bs : List Byte) :
    s.storeItem (.lines 2 k off bs) = s.setTask k { s.task k with v := imgWrite (s.task k).v off bs } :=
  (storeItem_lines s 2 k off bs).trans (if_pos rfl)

theorem storeItem_g (s : State) (k off : Nat) (bs : List Byte) : s.storeItem (.lines 4 k off bs) = { s with g := imgWrite s.g off bs } :=
  (storeItem_lines s 4 k off bs).trans (if_neg (by decide))

theorem storeItems_two (s : State) (x y : StateItem) : s.storeItems [x, y] = (s.storeItem x).storeItem y := rfl

theorem copyDone_within (s : State) : Within 1285 s (copyDone s) := State_joinPhase_within rfl (State_setFld_within rfl .refl)

theorem task_of_tasks_eq {s t : State} (h : t.tasks = s.tasks) (c : Nat) : t.task c = s.task c := by
  unfold State.task
  rw [h]

theorem setG_tasks (s : State) (g : List Host.Cell) : ({ s with g := g } : State).tasks = s.tasks ∧ ({ s with g := g } : State).g = g ∧
    ({ s with g := g } : State).mem = s.mem := ⟨rfl, rfl, rfl⟩

/-! ### Items of the state set (R458) -/

theorem trickFld_calmAt {c : Nat} (h : c < 16) : calmAt (Reg.IMG_TRICK_COMMITTED c).addr := by
  show calmAt (Reg.IMG_TRICK c)
  unfold Reg.IMG_TRICK calmAt steadyAt
  omega

theorem putBufs_calm (s : State) {c : Nat} (b : TrickBufs) (h : c < 16) : Calm s (s.putBufs c b) := by
  unfold State.putBufs
  extract_lets t u
  have hu : Calm s u := setTask_calm s c _
  clear_value u
  exact (hu.trans (setFld_calm u _ (trickFld_calmAt h))).trans (setFlag_calm _ _ (trickBit_calmAt h))

theorem journalConst_calm (s : State) : Calm s s.journalConst := .of_within (k := 16384) (State_journalConst_within rfl .refl) (by decide) (by decide)

theorem wrBytes_calm (s : State) (a : Nat) (bs : List Byte) : Calm s (s.wrBytes a bs) := .of_eq rfl rfl

theorem setG_calm (s : State) (g : List Host.Cell) : Calm s { s with g := g } := .of_eq rfl rfl

/-- An item of the state set leaves the pair's registers, unless it names a task that does not exist. -/
theorem storeItem_calm (s : State) (x : StateItem) (h : ∀ d b, x = .bufs d b → d < 9) : Calm s (s.storeItem x) := by
  cases x with
  | lines sp c off bs => exact .ite (setTask_calm s c _) (setG_calm s _)
  | bufs c b => exact putBufs_calm s b (Nat.lt_trans (h c b rfl) (by decide))
  | slot n bs => exact wrBytes_calm s _ _
  | station y => exact .of_within (k := 134217728) (State_setStation_within rfl .refl) (by decide) (by decide)
  | esc y => exact .of_within (k := 268435456) (State_setEsc_within rfl .refl) (by decide) (by decide)
  | can n pend => exact setCan_calm s _ _
  | journal bs =>
    have h1 : Calm s s.journalEmpty := (wrBytes_calm s _ _).trans (setFld_calm _ _ (by decide))
    exact ((h1.trans (wrBytes_calm _ _ _)).trans (setFld_calm _ _ (by decide))).trans (journalConst_calm _)

theorem storeItems_calm : ∀ (l : List StateItem) (s : State), (∀ d b, StateItem.bufs d b ∈ l → d < 9) → Calm s (s.storeItems l)
  | [], _, _ => .refl
  | x :: l, s, h => (storeItem_calm s x fun d b hx => h d b (hx ▸ List.mem_cons_self)).trans
      (storeItems_calm l _ fun d b hx => h d b (List.mem_cons_of_mem _ hx))

theorem beginShadow_calm (s : State) {c : Nat} (trick : Nat) (h : c < 11) : Calm s (s.beginShadow c trick) := by
  unfold State.beginShadow
  refine .ite ((setLoops_calm s _).trans (setFlag_calm _ _ (by decide))) (.ite (setFld_calm s _ (by decide)) ?_)
  exact (setTask_calm s c _).trans (setFld_calm _ _ (trickFld_calmAt (Nat.lt_trans h (by decide))))

theorem beginShadow_within (s : State) (c trick : Nat) : Within 537919489 s (s.beginShadow c trick) := State_beginShadow_within rfl .refl

/-! ### Cut-over (R459) -/

/-- A task cut over: shadowed by this unit, and no longer awaited. -/
def cutTaken (s : State) (c : Nat) : State :=
  { s with rdl := { s.rdl with cutLeft := s.rdl.cutLeft.filter (fun d => decide (d ≠ c)), mirror := c :: s.rdl.mirror.filter (fun d => decide (d ≠ c)) } }

theorem cutTaken_rest (s : State) (c : Nat) : c ∈ (cutTaken s c).rdl.mirror ∧ c ∉ (cutTaken s c).rdl.cutLeft ∧ (cutTaken s c).regs = s.regs := by
  refine ⟨List.mem_cons_self, fun h => ?_, rfl⟩
  have h' : c ∈ s.rdl.cutLeft.filter (fun d => decide (d ≠ c)) := h
  simp at h'

theorem cutMsg_awaited {s : State} {c : Nat} (hr : s.fld Reg.RDL_STAT_ROLE = 0) (hj : s.fld Reg.RDL_JOIN_PHASE = 3) (hc : c ∈ s.rdl.cutLeft) (tr : Nat)
    (items : List StateItem) : cutMsg c tr items s =
    if ((s.storeItems items).beginShadow c tr).rdl.cutLeft.filter (fun d => decide (d ≠ c)) = [] then
      (cutTaken ((s.storeItems items).beginShadow c tr) c).joined else cutTaken ((s.storeItems items).beginShadow c tr) c := by
  unfold cutMsg
  rw [if_neg (fun h => h.elim (fun h => h (joining_iff hr hj (by decide) (by decide)))
    (fun h => h.elim (fun h => h hj) (fun h => h (List.contains_iff_mem.2 hc))))]
  rfl

theorem filter_ne_eq_nil {l : List Nat} {c : Nat} : l.filter (fun d => decide (d ≠ c)) = [] ↔ ∀ d ∈ l, d = c := by
  simp [List.filter_eq_nil_iff]

/-- The role that a complete join ends with. -/
def standbyShown (s : State) : State := ((s.joinPhase 4).setFld Reg.RDL_STAT_OFFCAUSE 0).setRole 3

theorem setRole_cuts (s : State) (r : Nat) : (s.setRole r).rdl.mirror = s.rdl.mirror ∧ (s.setRole r).rdl.cutLeft = s.rdl.cutLeft := by
  unfold State.setRole
  dsimp only
  split
  · exact ⟨rfl, rfl⟩
  · rw [(raise_within _ _ _ _).rdl_eq (by decide), (tell_within _ _).rdl_eq (by decide)]
    exact ⟨rfl, rfl⟩

theorem standbyShown_shows (s : State) : (standbyShown s).fld Reg.RDL_STAT_ROLE = 3 ∧ (standbyShown s).fld Reg.RDL_STAT_OFFCAUSE = 0 ∧
    (standbyShown s).fld Reg.RDL_JOIN_PHASE = 4 ∧ (standbyShown s).rdl.mirror = s.rdl.mirror ∧ (standbyShown s).rdl.cutLeft = s.rdl.cutLeft := by
  have hj := (joinPhase_within s 4).rdl_eq (by decide)
  obtain ⟨hm, hc⟩ := setRole_cuts ((s.joinPhase 4).setFld Reg.RDL_STAT_OFFCAUSE 0) 3
  have hr : ((s.joinPhase 4).setFld Reg.RDL_STAT_OFFCAUSE 0).rdl = (s.joinPhase 4).rdl := rfl
  unfold standbyShown
  refine ⟨setRole_role _ (by decide), ?_, ?_, ?_, ?_⟩
  · exact (setRole_fld _ _ rfl (by decide) (by decide)).trans (fld_setFld_of_lt _ (by decide) (by decide))
  · exact (fld_of_reg (setRole_reg _ _ (by decide) (by decide))).trans ((fld_setFld_addr _ _ (by decide)).trans (joinPhase_phase s (by decide)))
  · rw [hm, hr, hj]
  · rw [hc, hr, hj]

/-- The hour of the next planned swap counts from an instant. -/
def swapHoursFrom (s : State) : State := { s with rdl := { s.rdl with swapOp := s.fld Reg.CPM_OPSEC_OPSEC } }

theorem swapHoursFrom_rest (s : State) : (swapHoursFrom s).regs = s.regs ∧ (swapHoursFrom s).rdl.mirror = s.rdl.mirror ∧
    (swapHoursFrom s).rdl.cutLeft = s.rdl.cutLeft := ⟨rfl, rfl, rfl⟩

theorem joined_eq (s : State) : s.joined = swapHoursFrom (standbyShown s) := rfl

theorem joined_shows (s : State) : s.joined.fld Reg.RDL_STAT_ROLE = 3 ∧ s.joined.fld Reg.RDL_STAT_OFFCAUSE = 0 ∧ s.joined.fld Reg.RDL_JOIN_PHASE = 4 ∧
    s.joined.rdl.mirror = s.rdl.mirror ∧ s.joined.rdl.cutLeft = s.rdl.cutLeft := by
  obtain ⟨h1, h2, h3, h4, h5⟩ := standbyShown_shows s
  rw [joined_eq]
  obtain ⟨hr, hm, hc⟩ := swapHoursFrom_rest (standbyShown s)
  exact ⟨(fld_of_regs hr _).trans h1, (fld_of_regs hr _).trans h2, (fld_of_regs hr _).trans h3, hm.trans h4, hc.trans h5⟩

/-- CUT sent: the task is mirrored from then on. -/
def cutSent (s : State) (c : Nat) : State :=
  { s with rdl := { s.rdl with cutLeft := s.rdl.cutLeft.filter (fun d => decide (d ≠ c)), mirror := c :: s.rdl.mirror.filter (fun d => decide (d ≠ c)),
                               dirty := s.rdl.dirty.filter (fun d => decide (d.1 ≠ c)) } }

theorem cutSent_rest (s : State) (c : Nat) : c ∈ (cutSent s c).rdl.mirror ∧ c ∉ (cutSent s c).rdl.cutLeft ∧ (cutSent s c).tasks = s.tasks ∧
    (cutSent s c).mem = s.mem := by
  refine ⟨List.mem_cons_self, fun h => ?_, rfl, rfl⟩
  have h' : c ∈ s.rdl.cutLeft.filter (fun d => decide (d ≠ c)) := h
  simp at h'

/-- CUT as it leaves for the partner. -/
def cutTold (s : State) (c : Nat) : State :=
  s.tell (.cut c (if c = loopKey then s.t0Trick s.now else s.fld (Reg.IMG_TRICK_COMMITTED c)) (s.cutItems c))

theorem sendCut_eq (s : State) (c : Nat) : s.sendCut c =
    if (cutTold s c).rdl.cutLeft.filter (fun d => decide (d ≠ c)) = [] then (cutSent (cutTold s c) c).joinPhase 4 else cutSent (cutTold s c) c := rfl

theorem joinCutOver_task {s : State} {c : Nat} (hr : s.fld Reg.RDL_STAT_ROLE = 2) (hj : s.fld Reg.RDL_JOIN_PHASE = 3) (hc : c ∈ s.rdl.cutLeft) (h9 : c < 9)
    (hl : (s.task c).latching = false) (he : (s.task c).executing = false) : joinCutOver c s = s.sendCut c := by
  unfold joinCutOver
  rw [if_neg (fun h => h.elim (fun h => h hr) (fun h => h.elim (fun h => h hj) (fun h => h (List.contains_iff_mem.2 hc)))),
    if_neg (by unfold loopKey; omega), if_neg (by simp [hl, he])]

/-! ### The partner's image (R459) -/

/-- The first block of a load as the load then holds it. -/
def firstLoad (bs : List Byte) : ImageLoad := ⟨0, u32 bs 8, [0], bs.take 8 ++ List.replicate (8 - bs.length) 0⟩

/-- The first block stored. -/
def firstStored (s : State) (bs : List Byte) : State := (s.loadBegin 0 (u32 bs 8)).loadBlock ⟨0, u32 bs 8, [], List.replicate 8 0⟩ 0 bs

theorem loadBegin_load (s : State) (n : Nat) : (s.loadBegin 0 n).load = some ⟨0, n, [], List.replicate 8 0⟩ := rfl

theorem firstStored_load (s : State) (bs : List Byte) : (firstStored s bs).load = some (firstLoad bs) := rfl

theorem imageMsg_first {s : State} {bs : List Byte} (hr : s.fld Reg.RDL_STAT_ROLE = 0) (hj : s.fld Reg.RDL_JOIN_PHASE = 1) (hl : bs.length = 1024)
    (ht : 1024 < u32 bs 8) : imageMsg 0 bs none s = firstStored s bs := by
  have h1 := loadBegin_load s (u32 bs 8)
  have h2 := firstStored_load s bs
  have h3 : 1024 * (firstLoad bs).blocks.length < (firstLoad bs).total := ht
  unfold imageMsg
  rw [if_neg (fun h => h.elim (fun h => h (joining_iff hr hj (by decide) (by decide)))
    (fun h => h.elim (fun h => h hj) (fun h => h.elim (fun h => by omega) (fun h => h rfl))))]
  dsimp only
  rw [if_pos rfl, h1]
  dsimp only
  unfold firstStored at h2 ⊢
  rw [h2]
  exact if_pos h3

theorem loadBegin_bytes (s : State) (n : Nat) : (s.loadBegin 0 n).regs = s.regs ∧
    ∀ x, (x < 0x20000000 ∨ 0x20000400 ≤ x) → (s.loadBegin 0 n).byte x = s.byte x := by
  refine ⟨rfl, fun x hx => byte_wrBytes_out s (a := storeAt) (List.replicate 8 0) ?_⟩
  rw [List.length_replicate]
  unfold storeAt
  omega

/-- The first block's bytes in the store; its head is held back. -/
theorem firstBlock_bytes (s : State) (l : ImageLoad) {bs : List Byte} (hl : bs.length = 1024) : (s.loadBlock l 0 bs).regs = s.regs ∧
    (s.loadBlock l 0 bs).bytes (0x20000000 + 8) 1016 = bs.drop 8 ∧
    ∀ x, (x < 0x20000000 ∨ 0x20000400 ≤ x) → (s.loadBlock l 0 bs).byte x = s.byte x := by
  have ht : bs.take (6000000 - 0) = bs := List.take_of_length_le (by omega)
  have hd : (bs.drop 8).length = 1016 := by
    rw [List.length_drop, hl]
  have hb (x : Nat) : (s.loadBlock l 0 bs).byte x = (s.wrBytes (storeAt + 8) ((bs.take (6000000 - 0)).drop 8)).byte x := rfl
  rw [ht] at hb
  refine ⟨rfl, ?_, fun x hx => (hb x).trans (byte_wrBytes_out s _ ?_)⟩
  · have hs := bytes_wrBytes_same s (storeAt + 8) (bs.drop 8)
    rw [hd] at hs
    refine Eq.trans ?_ hs
    unfold State.bytes
    exact List.map_congr_left fun i _ => hb _
  · rw [hd]
    unfold storeAt
    omega

/-! ### F's cycle (R460) -/

theorem putBufs_length (s : State) (c : Nat) (b : TrickBufs) : (s.putBufs c b).tasks.length = s.tasks.length := by
  rw [putBufs_tasks]
  exact setTask_length s c _

theorem journalConst_tasks (s : State) : s.journalConst.tasks = s.tasks := (State_journalConst_within (k := 16384) rfl .refl).tasks_eq (by decide)

theorem storeItem_journal (s : State) (bs : List Byte) : s.storeItem (.journal bs) =
    ((s.journalEmpty.wrBytes journalAt (bs.take journalSize)).setFld Reg.WVE_CHGSTAT_JBYTES (min journalSize bs.length)).journalConst := by
  unfold State.storeItem
  rfl

/-- An item replaces a task or leaves the table. -/
theorem storeItem_length (s : State) (x : StateItem) : (s.storeItem x).tasks.length = s.tasks.length := by
  cases x with
  | lines sp c off bs =>
    rw [storeItem_lines]
    split
    · exact setTask_length s c _
    · rfl
  | bufs c b => exact putBufs_length s c b
  | slot n bs => rfl
  | station y => rfl
  | esc y => rfl
  | can n pend => rfl
  | journal bs =>
    have hw : Within 3 s ((s.journalEmpty.wrBytes journalAt (bs.take journalSize)).setFld Reg.WVE_CHGSTAT_JBYTES (min journalSize bs.length)) :=
      State_setFld_within rfl (State_wrBytes_within rfl (State_journalEmpty_within rfl .refl))
    rw [storeItem_journal, journalConst_tasks, hw.tasks_eq (by decide)]

theorem storeItems_length : ∀ (l : List StateItem) (s : State), (s.storeItems l).tasks.length = s.tasks.length
  | [], _ => rfl
  | x :: l, s => (storeItems_length l (s.storeItem x)).trans (storeItem_length s x)

/-- F's cycle with nothing pending. -/
def cycleSet (s : State) (n : Nat) : State := (s.setTask 8 { s.task 8 with gPend := [], lines := [] }).setFld (Reg.IMG_TRICK_COMMITTED 8) n

theorem cycleSet_shows {s : State} (h : 8 < s.tasks.length) (n : Nat) : (cycleSet s n).fld (Reg.IMG_TRICK_COMMITTED 8) = n % 2 ^ 24 ∧
    ((cycleSet s n).task 8).gPend = [] ∧ ((cycleSet s n).task 8).lines = [] := by
  have ht : (cycleSet s n).task 8 = { s.task 8 with gPend := [], lines := [] } := task_setTask_same s _ h
  rw [ht]
  exact ⟨fld_setFld_same _ _ _ (by decide), rfl, rfl⟩

theorem fstateMsg_shadowed {s : State} (h : s.shadows 8 = true) (n : Nat) (items : List StateItem) :
    fstateMsg n [] items s = cycleSet (s.storeItems items) n := if_pos h

theorem sendImage_within (s : State) : Within 137438953472 s s.sendImage := State_sendImage_within rfl .refl

/-- Settles O51: each message of a join acts in its own phase, from the request to the last cut-over. -/
theorem joins : Obligations.Joins := by
  intro s m w build chk time t0 tr off n conf c k items bs
  refine ⟨fun hr hp hh hj hl => ⟨fun hm hk h0 h1 h2 => ?rejoin, fun hf => ?retry, fun ho => ?back⟩, fun hr hl => ⟨fun hb => ?same, fun hb => ?other⟩,
    fun hr => next_eq (if_pos (Or.inl hr)), fun hr hj => ?ack, fun hj => next_eq (if_pos (Or.inr hj)), fun hr hj => ⟨?copy, fun hs => ?lines⟩,
    fun hr hj hc => ?cut, fun hr hj hc h9 hl he => ?send, fun hc => ⟨next_eq ?_, next_eq ?_⟩, fun hr hj hl ht => ?image,
    fun hj => next_eq (if_pos (Or.inl (Bool.eq_false_iff.1 hj))), fun hs hsh => ?fstate, fun hsh => next_eq (if_neg (Bool.eq_false_iff.1 hsh))⟩
  case rejoin =>
    have ha := joinStart_asked hr hp hh hj hl
    exact ⟨_, next_eq (rdlCtrl_join hm hk h0 h1 h2), ha.phase, ha.offcause, ha.outbox, ha.mem⟩
  case retry => exact ⟨_, next_eq (joinRetry_due hf hr hp), joinStart_later hr hp hh hj hl _⟩
  case back => exact ⟨_, next_eq (linkRejoin_due hr ho hl), joinStart_later hr hp hh hj hl _⟩
  case same =>
    obtain ⟨hm1, hmem1, hconf1, hrole1, hreg1⟩ := partnerAsks_shows s conf
    obtain ⟨hrdl2, hmem2, _, hreg2⟩ := joinAnswered_shows (partnerAsks s conf)
    obtain ⟨hrdl3, hmem3, hreg3⟩ := stateSent_shows (joinAnswered (partnerAsks s conf))
    obtain ⟨hcut4, hmir4, hmem4, hregs4⟩ := cutsListed_rest (stateSent (joinAnswered (partnerAsks s conf)))
    obtain ⟨hrdl5, hmem5, hph5, _, hreg5⟩ := copyDone_shows (cutsListed (stateSent (joinAnswered (partnerAsks s conf))))
    have hstat : (copyDone (cutsListed (stateSent (joinAnswered (partnerAsks s conf))))).reg Reg.RDL_STAT = (partnerAsks s conf).reg Reg.RDL_STAT := by
      rw [hreg5 _ (by decide) (by decide), reg_of_regs_eq hregs4, hreg3 _ (by decide) (by decide), hreg2 _ (by decide) (by decide)]
    have hbuild : (joinAnswered (partnerAsks s conf)).build = s.build :=
      build_congr ((hreg2 _ (by decide) (by decide)).trans (hreg1 _ (by decide)))
    have hen : (stateSent (joinAnswered (partnerAsks s conf))).enabledTasks = s.enabledTasks := enabledTasks_congr fun c hc => by
      obtain ⟨hq, h1, h2⟩ := imgTask_quiet hc
      rw [hreg3 _ hq h1, hreg2 _ hq h1, hreg1 _ h2]
    refine ⟨_, next_eq ((joinReq_active hr hl build conf).trans (if_neg (fun h => h (hb.trans hbuild.symm)))), hph5, ?_, ?_, ?_, ?_, ?_⟩
    · rw [hrdl5, hmir4, hrdl3, hrdl2, hm1]
    · rw [hrdl5, hcut4, hen]
      rfl
    · rw [flag_of_fld (fld_of_reg hstat), hconf1]
    · rw [fld_of_reg hstat, hrole1, hr]
    · rw [hmem5, hmem4, hmem3, hmem2, hmem1]
  case other =>
    obtain ⟨hm1, hmem1, _, _, hreg1⟩ := partnerAsks_shows s conf
    obtain ⟨hrdl2, hmem2, hph2, hreg2⟩ := joinAnswered_shows (partnerAsks s conf)
    have hbuild : (joinAnswered (partnerAsks s conf)).build = s.build :=
      build_congr ((hreg2 _ (by decide) (by decide)).trans (hreg1 _ (by decide)))
    have hw := sendImage_within (joinAnswered (partnerAsks s conf))
    refine ⟨_, next_eq ((joinReq_active hr hl build conf).trans (if_pos (fun h => hb (h.trans hbuild)))),
      (fld_of_regs (hw.regs_eq (by decide)) _).trans hph2, ?_, ?_⟩
    · rw [hw.rdl_eq (by decide), hrdl2, hm1]
    · rw [hw.mem_eq (by decide), hmem2, hmem1]
  case ack =>
    obtain ⟨hnow, hmono, hmem, hreg⟩ := timeTaken_rest s conf time
    have hbuild : (timeTaken s conf time).build = s.build := build_congr (hreg _ (by decide))
    refine ⟨_, next_eq ((joinAck_waiting hr hj build conf time).trans (by rw [hbuild])), ?_⟩
    by_cases hb : build = s.build
    · obtain ⟨hcut, hnow2, hmono2, hmem2⟩ := cutsAwaited_rest (timeTaken s conf time)
      have hw := joinPhase_within (cutsAwaited (timeTaken s conf time)) 2
      have hen : (timeTaken s conf time).enabledTasks = s.enabledTasks := enabledTasks_congr fun c hc => hreg _ (imgTask_quiet hc).2.2
      rw [if_pos hb, if_pos hb]
      refine ⟨?_, ?_, joinPhase_phase _ (by decide), fun _ => ?_, ?_⟩
      · rw [hw.now_eq (by decide), hnow2, hnow]
      · rw [hw.mono_eq (by decide), hmono2, hmono]
      · rw [hw.rdl_eq (by decide), hcut, hen]
        rfl
      · rw [hw.mem_eq (by decide), hmem2, hmem]
    · rw [if_neg hb, if_neg hb]
      exact ⟨hnow, hmono, (fld_of_reg (hreg _ (by decide))).trans hj, fun h => absurd h hb, hmem⟩
  case copy =>
    obtain ⟨_, _, hph, hpct, _⟩ := copyDone_shows ((s.storeItems items).setFld Reg.RDL_JOIN_PASS 1)
    exact ⟨_, next_eq (stateMsg_copying hr hj items), hph, hpct⟩
  case lines =>
    have hlen : k.val < s.tasks.length := by
      rw [hs.1]
      exact k.isLt
    refine ⟨_, next_eq (stateMsg_copying hr hj _), ?_⟩
    rw [storeItems_two, storeItem_v, storeItem_g]
    have ht : (s.setTask k.val { s.task k.val with v := imgWrite (s.task k.val).v off bs }).task k.val =
        { s.task k.val with v := imgWrite (s.task k.val).v off bs } := task_setTask_same s _ hlen
    have hne (d : Nat) (hd : d ≠ k.val) := task_setTask_ne s { s.task k.val with v := imgWrite (s.task k.val).v off bs } hd
    have hg : (s.setTask k.val { s.task k.val with v := imgWrite (s.task k.val).v off bs }).g = s.g := rfl
    have hm : (s.setTask k.val { s.task k.val with v := imgWrite (s.task k.val).v off bs }).mem = s.mem := rfl
    generalize s.setTask k.val { s.task k.val with v := imgWrite (s.task k.val).v off bs } = u at ht hne hg hm ⊢
    obtain ⟨hgt, hgg, hgm⟩ := setG_tasks u (imgWrite u.g n bs)
    generalize ({ u with g := imgWrite u.g n bs } : State) = x at hgt hgg hgm ⊢
    have hw := copyDone_within (x.setFld Reg.RDL_JOIN_PASS 1)
    have htk (d : Nat) : (copyDone (x.setFld Reg.RDL_JOIN_PASS 1)).task d = u.task d :=
      (task_of_tasks_eq (hw.tasks_eq (by decide)) d).trans (task_of_tasks_eq hgt d)
    refine ⟨?_, ?_, fun d _ hd => (htk d).trans (hne d hd), (hw.mem_eq (by decide)).trans (hgm.trans hm)⟩
    · rw [htk, ht]
    · exact (hw.g_eq (by decide)).trans (hgg.trans (by rw [hg]))
  case cut =>
    have hw1 := storeItems_within s items
    have hw2 := beginShadow_within (s.storeItems items) c.val tr
    have hrdl : ((s.storeItems items).beginShadow c.val tr).rdl = s.rdl := (hw2.rdl_eq (by decide)).trans (hw1.rdl_eq (by decide))
    have he := cutMsg_awaited hr hj hc tr items
    have hcalm (h : ∀ d b, StateItem.bufs d b ∈ items → d < 9) : Calm s ((s.storeItems items).beginShadow c.val tr) :=
      (storeItems_calm items s h).trans (beginShadow_calm _ tr c.isLt)
    generalize (s.storeItems items).beginShadow c.val tr = u at hrdl he hcalm
    obtain ⟨hm, hl, hregs⟩ := cutTaken_rest u c.val
    obtain ⟨hrole, hoff, hph, hmir, hcut⟩ := joined_shows (cutTaken u c.val)
    rw [hrdl] at he
    by_cases hlast : ∀ d ∈ s.rdl.cutLeft, d = c.val
    · rw [if_pos (filter_ne_eq_nil.2 hlast)] at he
      refine ⟨_, next_eq he, hmir ▸ hm, hcut ▸ hl, fun _ => ⟨hrole, hoff, hph⟩, fun h => ?_⟩
      obtain ⟨d, hd, hne⟩ := h
      exact absurd (hlast d hd) hne
    · rw [if_neg (fun h => hlast (filter_ne_eq_nil.1 h))] at he
      refine ⟨_, next_eq he, hm, hl, fun h => absurd h hlast, fun _ hb => ?_⟩
      rw [fld_of_regs hregs, fld_of_regs hregs, (hcalm hb).fld (Or.inl rfl), (hcalm hb).fld (Or.inr (Or.inr (Or.inl rfl)))]
      exact ⟨hr, hj⟩
  case send =>
    have hw := tell_within s (.cut c.val (if c.val = loopKey then s.t0Trick s.now else s.fld (Reg.IMG_TRICK_COMMITTED c.val)) (s.cutItems c.val))
    have hs := joinCutOver_task hr hj hc h9 hl he
    rw [sendCut_eq] at hs
    have hrdl : (cutTold s c.val).rdl = s.rdl := hw.rdl_eq (by decide)
    have htasks : (cutTold s c.val).tasks = s.tasks := hw.tasks_eq (by decide)
    have hmem : (cutTold s c.val).mem = s.mem := hw.mem_eq (by decide)
    generalize cutTold s c.val = u at hs hrdl htasks hmem
    obtain ⟨hm, hcl, ht, hme⟩ := cutSent_rest u c.val
    have hj4 := joinPhase_within (cutSent u c.val) 4
    rw [hrdl] at hs
    by_cases hlast : ∀ d ∈ s.rdl.cutLeft, d = c.val
    · rw [if_pos (filter_ne_eq_nil.2 hlast)] at hs
      have hr4 := hj4.rdl_eq (by decide)
      refine ⟨_, next_eq hs, by rw [hr4]; exact hm, by rw [hr4]; exact hcl, fun _ => joinPhase_phase _ (by decide), ?_, ?_⟩
      · rw [hj4.tasks_eq (by decide), ht, htasks]
      · rw [hj4.mem_eq (by decide), hme, hmem]
    · rw [if_neg (fun h => hlast (filter_ne_eq_nil.1 h))] at hs
      exact ⟨_, next_eq hs, hm, hcl, fun h => absurd h hlast, ht.trans htasks, hme.trans hmem⟩
  · exact if_pos (Or.inr (Or.inr fun h => hc (List.contains_iff_mem.1 h)))
  · exact if_pos (Or.inr (Or.inr fun h => hc (List.contains_iff_mem.1 h)))
  case image =>
    obtain ⟨hr1, hb1⟩ := loadBegin_bytes s (u32 bs 8)
    obtain ⟨hr2, hb2, hb3⟩ := firstBlock_bytes (s.loadBegin 0 (u32 bs 8)) ⟨0, u32 bs 8, [], List.replicate 8 0⟩ hl
    exact ⟨_, _, next_eq (imageMsg_first hr hj hl ht), firstStored_load s bs, rfl, rfl, hb2, hr2.trans hr1, fun x hx => (hb3 x hx).trans (hb1 x hx)⟩
  case fstate =>
    have hlen : 8 < (s.storeItems items).tasks.length := by
      rw [storeItems_length, hs.1]
      decide
    exact ⟨_, next_eq (fstateMsg_shadowed hsh n items), cycleSet_shows hlen n⟩

end Sys2Proof.Proofs

/-! How an image is placed (R156, R162, R186, R207, R241, R365, R370, R386, R399, R420, R526, R527): registers above the events' details are written,
and the shown power state, the slot, the notices and the unit's own state stay. -/

namespace Sys2Proof.Proofs
open Sys2Proof Sys2Proof.Machine Sys2Proof.Laws

/-! ### The registers that placement writes -/

theorem steadyAt_of_le {a : Nat} (h : 0x40011000 ≤ a) : steadyAt a := ⟨Nat.le_trans (by decide) h, Or.inr h⟩

theorem queCfg_steadyAt (q : Nat) : steadyAt (Reg.QUE_CFG q) := steadyAt_of_le (Nat.le_add_right_of_le (by decide))
theorem queBase_steadyAt (q : Nat) : steadyAt (Reg.QUE_BASE q) := steadyAt_of_le (Nat.le_add_right_of_le (by decide))
theorem queStat_steadyAt (q : Nat) : steadyAt (Reg.QUE_STAT q) := steadyAt_of_le (Nat.le_add_right_of_le (by decide))
theorem evrTrig_steadyAt (n : Nat) : steadyAt (Reg.EVR_TRIG n) := steadyAt_of_le (Nat.le_add_right_of_le (by decide))
theorem evrList_steadyAt (l e : Nat) : steadyAt (Reg.EVR_LIST l e) :=
  steadyAt_of_le (Nat.le_add_right_of_le (Nat.le_add_right_of_le (by decide)))
theorem mbxCfg_steadyAt (m : Nat) : steadyAt (Reg.MBX_CFG m) := steadyAt_of_le (Nat.le_add_right_of_le (by decide))
theorem netPort_steadyAt (p : Nat) : steadyAt (Reg.NET_PORT p) := steadyAt_of_le (Nat.le_add_right_of_le (by decide))
theorem ptpAsym_steadyAt (p : Nat) : steadyAt (Reg.PTP_ASYM p) := steadyAt_of_le (Nat.le_add_right_of_le (by decide))
theorem canStat_steadyAt (n : Nat) : steadyAt (Reg.CAN_STAT n) := steadyAt_of_le (Nat.le_add_right_of_le (by decide))
theorem canNbt_steadyAt (n : Nat) : steadyAt (Reg.CAN_NBT n) := steadyAt_of_le (Nat.le_add_right_of_le (by decide))
theorem canDbt_steadyAt (n : Nat) : steadyAt (Reg.CAN_DBT n) := steadyAt_of_le (Nat.le_add_right_of_le (by decide))
theorem canTdc_steadyAt (n : Nat) : steadyAt (Reg.CAN_TDC n) := steadyAt_of_le (Nat.le_add_right_of_le (by decide))
theorem canObj_steadyAt (n o : Nat) : steadyAt (Reg.CAN_OBJ n o) := steadyAt_of_le (Nat.le_add_right_of_le (Nat.le_add_right_of_le (by decide)))
theorem imgTask_steadyAt (c : Nat) : steadyAt (Reg.IMG_TASK c) := steadyAt_of_le (Nat.le_add_right_of_le (by decide))
theorem safFn_steadyAt (n : Nat) : steadyAt (Reg.SAF_FN n) := steadyAt_of_le (Nat.le_add_right_of_le (by decide))
theorem safResp_steadyAt (n : Nat) : steadyAt (Reg.SAF_RESP n) := steadyAt_of_le (Nat.le_add_right_of_le (by decide))
theorem stnStat_steadyAt (n : Nat) : steadyAt (Reg.IMG_STN_STAT n) := steadyAt_of_le (Nat.le_add_right_of_le (by decide))
theorem escStat_steadyAt (n : Nat) : steadyAt (Reg.SAF_ESC_STAT n) := steadyAt_of_le (Nat.le_add_right_of_le (by decide))

/-- The routes of the events, of which there are 256. -/
theorem evtRoute_steadyAt {n : Nat} (h : n < 256) : steadyAt (Reg.EVT_ROUTE n) := by
  unfold steadyAt Reg.EVT_ROUTE
  omega

theorem u8_lt (b : List Byte) (o : Nat) : u8 b o < 256 := (b.getD o 0).isLt

/-- A fold whose steps keep the shown state for the entries of its list. -/
theorem Steady.foldl_mem {α : Type} {f : State → α → State} : ∀ (l : List α) (s : State), (∀ u, ∀ x ∈ l, Steady u (f u x)) → Steady s (l.foldl f s)
  | [], _, _ => .refl
  | x :: l, s, h => (h s x List.mem_cons_self).trans (Steady.foldl_mem l (f s x) fun u y hy => h u y (List.mem_cons_of_mem _ hy))

/-! ### The Slath (R162) -/

theorem setQueue_steady (s : State) (q cls size prod cons base : Nat) (en : Bool) : Steady s (s.setQueue q cls size prod cons base en) :=
  ((setReg_steady s _ (queCfg_steadyAt q)).trans (setReg_steady _ _ (queBase_steadyAt q))).trans (setFld_steady _ _ (queStat_steadyAt q))

theorem slath_steady (s : State) : Steady s s.slath := by
  unfold State.slath
  extract_lets s1 s2
  have h1 : Steady s s1 := Steady.foldl_mem _ s fun u n hn =>
    setReg_steady u _ (evtRoute_steadyAt (Nat.lt_trans (List.mem_range.1 hn) (by decide)))
  clear_value s1
  have h2 : Steady s1 s2 := (setQueue_steady s1 _ _ _ _ _ _ _).trans (setQueue_steady _ _ _ _ _ _ _ _)
  clear_value s2
  exact (h1.trans h2).trans (setFlag_steady s2 _ (netPort_steadyAt 2))

/-! ### The Weave, SYSTEM, EVENTS and QUEUES -/

theorem placeWeave_steady (s : State) (i : Image) : Steady s (s.placeWeave i) := by
  unfold State.placeWeave
  extract_lets s1 s2 s3
  have h1 : Steady s s1 := (setFld_steady s _ (by decide)).trans (setReg_steady _ _ (by decide))
  clear_value s1
  have h2 : Steady s1 s2 := (setReg_steady s1 _ (by decide)).trans (setFld_steady _ _ (by decide))
  clear_value s2
  have h3 : Steady s2 s3 := .ite (setFld_steady s2 _ (by decide)) .refl
  clear_value s3
  exact ((h1.trans h2).trans h3).trans (.of_eq rfl (.of_eq rfl))

theorem setLists_steady (s : State) (b : List Byte) : Steady s (s.setLists b) :=
  Steady.foldl (fun u l => Steady.foldl (fun v e => setReg_steady v _ (evrList_steadyAt l e)) _ u) _ s

theorem setTrigs_steady (s : State) (b : List Byte) : Steady s (s.setTrigs b) :=
  Steady.foldl (fun u n => ((setFld_steady u _ (evrTrig_steadyAt n)).trans (setFld_steady _ _ (evrTrig_steadyAt n))).trans
    (setFlag_steady _ _ (evrTrig_steadyAt n))) _ s

theorem setPpCfg_steady (s : State) (b : List Byte) : Steady s (s.setPpCfg b) := by
  have h : steadyAt Reg.LPE_PP_CFG := by decide
  exact Steady.foldl (fun u l => .ite .refl ((setFld_steady u _ h).trans (setFlag_steady _ _ h))) _ s

theorem systemTagSet_steady (s : State) (r : Nat × List Byte) : Steady s (s.systemTagSet r) := by
  unfold State.systemTagSet
  split
  · exact setFld_steady s _ (by decide)
  · exact ((setFld_steady s _ (by decide)).trans (setFld_steady _ _ (by decide))).trans (setFld_steady _ _ (by decide))
  · exact setFld_steady s _ (by decide)
  · exact setFld_steady s _ (by decide)
  · exact setFld_steady s _ (by decide)
  · exact setPpCfg_steady s _
  · exact (((setFld_steady s _ (by decide)).trans (setFld_steady _ _ (by decide))).trans (setFld_steady _ _ (by decide))).trans
      (setFld_steady _ _ (by decide))
  · exact setTrigs_steady s _
  · exact setLists_steady s _
  · exact .refl

theorem placeSystem_steady (s : State) (i : Image) : Steady s (s.placeSystem i) := by
  unfold State.placeSystem
  extract_lets b s1
  have h1 : Steady s s1 := Steady.foldl systemTagSet_steady _ s
  clear_value s1
  exact h1.trans (setFld_steady s1 _ (by decide))

theorem placeEvents_steady (s : State) (i : Image) : Steady s (s.placeEvents i) :=
  Steady.foldl (fun u r => setReg_steady u _ (evtRoute_steadyAt (u8_lt r 0))) _ s

theorem placeQueues_steady (s : State) (i : Image) : Steady s (s.placeQueues i) := by
  unfold State.placeQueues
  extract_lets s1
  have h1 : Steady s s1 := Steady.foldl (fun u r => setQueue_steady u _ _ _ _ _ _ _) _ s
  clear_value s1
  exact h1.trans (Steady.foldl (fun u r => setReg_steady u _ (mbxCfg_steadyAt _)) _ s1)

/-! ### NET and CAN -/

theorem placeNet_steady (s : State) (i : Image) : Steady s (s.placeNet i) := by
  unfold State.placeNet
  extract_lets fl mrp s1 s2 s3 s4 s5 s6
  have h1 : Steady s s1 := (setFlag_steady s _ (by decide)).trans (setFlag_steady _ _ (by decide))
  clear_value s1
  have h2 : Steady s1 s2 := (setFlag_steady s1 _ (netPort_steadyAt 0)).trans (setFlag_steady _ _ (netPort_steadyAt 1))
  clear_value s2
  have h3 : Steady s2 s3 := setFlag_steady s2 _ (by decide)
  clear_value s3
  have h4 : Steady s3 s4 := .ite ((setFld_steady s3 _ (netPort_steadyAt 0)).trans (setFld_steady _ _ (netPort_steadyAt 1))) .refl
  clear_value s4
  have h5 : Steady s4 s5 := by
    dsimp only [s5]
    split
    · exact setFld_steady s4 _ (by decide)
    · exact .refl
  clear_value s5
  have h6 : Steady s5 s6 := by
    dsimp only [s6]
    split
    · exact Steady.foldl (fun u p => setReg_steady u _ (ptpAsym_steadyAt p)) _ s5
    · exact .refl
  clear_value s6
  exact (((((h1.trans h2).trans h3).trans h4).trans h5).trans h6).trans (.of_eq rfl (.of_eq rfl))

theorem placeCanPort_steady (s : State) (r : CanPortRec) : Steady s (s.placeCanPort r) := by
  unfold State.placeCanPort
  extract_lets b n s1 s2 s3 s4
  have h1 : Steady s s1 := (setFld_steady s _ (canStat_steadyAt n)).trans (setFlag_steady _ _ (canStat_steadyAt n))
  clear_value s1
  have h2 : Steady s1 s2 := ((setFld_steady s1 _ (canNbt_steadyAt n)).trans (setFld_steady _ _ (canNbt_steadyAt n))).trans
    (setFld_steady _ _ (canNbt_steadyAt n))
  clear_value s2
  have h3 : Steady s2 s3 := (setFld_steady s2 _ (canNbt_steadyAt n)).trans (setFld_steady _ _ (canDbt_steadyAt n))
  clear_value s3
  have h4 : Steady s3 s4 := ((setFld_steady s3 _ (canDbt_steadyAt n)).trans (setFld_steady _ _ (canDbt_steadyAt n))).trans
    (setFld_steady _ _ (canDbt_steadyAt n))
  clear_value s4
  exact (((h1.trans h2).trans h3).trans h4).trans ((setFld_steady s4 _ (canTdc_steadyAt n)).trans (setFlag_steady _ _ (canTdc_steadyAt n)))

theorem placeCan_steady (s : State) (i : Image) : Steady s (s.placeCan i) := by
  unfold State.placeCan
  extract_lets s1 s2
  have h1 : Steady s s1 := Steady.foldl placeCanPort_steady _ s
  clear_value s1
  have h2 : Steady s1 s2 := Steady.foldl (fun u o => (setFlag_steady u _ (canObj_steadyAt _ _)).trans (setFlag_steady _ _ (canObj_steadyAt _ _))) _ s1
  clear_value s2
  exact (h1.trans h2).trans (canRestrict_all_calm true s2).toSteady

/-! ### Tasks, loops, safety, stations -/

theorem placeTask_steady (s : State) (i : Image) (r : TaskRec) : Steady s (s.placeTask i r) :=
  ((setTask_calm s r.cls _).toSteady.trans (setFlag_steady _ _ (imgTask_steadyAt _))).trans (setFld_steady _ _ (imgTask_steadyAt _))

theorem placeTasks_steady (s : State) (i : Image) : Steady s (s.placeTasks i) := Steady.foldl (fun u r => placeTask_steady u i r) _ s

theorem placeLoops_steady (s : State) (i : Image) : Steady s (s.placeLoops i) := by
  unfold State.placeLoops
  extract_lets s1 s2
  have h1 : Steady s s1 := Steady.foldl (fun u r => (wrBytes_calm u _ _).toSteady) _ s
  clear_value s1
  have h2 : Steady s1 s2 := (setFld_steady s1 _ (by decide)).trans (setFld_steady _ _ (by decide))
  clear_value s2
  exact (h1.trans h2).trans ((setLoops_calm s2 _).toSteady.trans (setFld_steady _ _ (by decide)))

theorem showConf_steady (s : State) : Steady s s.showConf :=
  ((setReg_steady s _ (by decide)).trans (setReg_steady _ _ (by decide))).trans (setFlag_steady _ _ (by decide))

theorem placeSafety_steady (s : State) (i : Image) : Steady s (s.placeSafety i) := by
  unfold State.placeSafety
  extract_lets fs s1 saf s2 s3
  have h1 : Steady s s1 := (setFld_steady s _ (by decide)).trans (setFld_steady _ _ (by decide))
  clear_value s1
  have h2 : Steady s1 s2 := .of_eq rfl (.of_eq rfl)
  clear_value s2
  have h3 : Steady s2 s3 := Steady.foldl (fun u f => (setFld_steady u _ (safFn_steadyAt _)).trans (setReg_steady _ _ (safResp_steadyAt _))) _ s2
  clear_value s3
  exact ((h1.trans h2).trans h3).trans (showConf_steady s3)

theorem escPlaced_steady (s : State) (r : EscRec) : Steady s (({ s with escs := s.escs ++ [escStart r.num ((Config.randomWord s.freeCtr).toNat % 65536)] } :
    State).draw.setFlag (Reg.SAF_ESC_STAT_DIR r.num) r.produced) := by
  have h1 : Steady s ({ s with escs := s.escs ++ [escStart r.num ((Config.randomWord s.freeCtr).toNat % 65536)] } : State).draw := .of_eq rfl (.of_eq rfl)
  exact h1.trans (setFlag_steady _ _ (escStat_steadyAt _))

theorem placeStations_steady (s : State) (i : Image) : Steady s (s.placeStations i) := by
  unfold State.placeStations
  extract_lets s1 s2
  have h1 : Steady s s1 := .of_eq rfl (.of_eq rfl)
  clear_value s1
  have h2 : Steady s1 s2 := Steady.foldl (fun u r => (setFlag_steady u _ (stnStat_steadyAt _)).trans (setFld_steady _ _ (stnStat_steadyAt _))) _ s1
  clear_value s2
  exact (h1.trans h2).trans (Steady.foldl escPlaced_steady _ s2)

theorem imgRunning_steady (s : State) (i : Image) : Steady s (s.imgRunning i) :=
  (setFld_steady s _ (by decide)).trans (raise_calm _ (by decide) (by decide) _ _).toSteady

/-- Placing an image leaves the shown power state, the slot and the notices. -/
theorem placeImage_steady (s : State) (i : Image) : Steady s (s.placeImage i) := by
  unfold State.placeImage
  extract_lets s1 s2 s3
  have h1 : Steady s s1 := (placeWeave_steady s i).trans (placeSystem_steady _ i)
  clear_value s1
  have h2 : Steady s1 s2 := ((placeEvents_steady s1 i).trans (placeQueues_steady _ i)).trans (placeNet_steady _ i)
  clear_value s2
  have h3 : Steady s2 s3 := ((placeCan_steady s2 i).trans (placeTasks_steady _ i)).trans (placeLoops_steady _ i)
  clear_value s3
  exact ((h1.trans h2).trans h3).trans (((placeSafety_steady s3 i).trans (placeStations_steady _ i)).trans (imgRunning_steady _ i))

end Sys2Proof.Proofs

/-! Start-up (R515 to R522): what its steps leave of the latched slot, the power state and the notices, and how it ends. -/

namespace Sys2Proof.Proofs
open Sys2Proof Sys2Proof.Machine Sys2Proof.Laws

/-! ### What the steps leave -/

/-- The latched slot, the shown power state and FAULTED. -/
structure Shown (s t : State) : Prop where
  slot : t.fld Reg.CPM_STAT_SLOT = s.fld Reg.CPM_STAT_SLOT
  pstate : t.fld Reg.CPM_STAT_PSTATE = s.fld Reg.CPM_STAT_PSTATE
  faulted : t.cpm.faulted = s.cpm.faulted

theorem Steady.shown {s t : State} (h : Steady s t) : Shown s t := ⟨h.slot, h.pstate, h.faulted⟩

theorem Shown.trans {s t u : State} (h : Shown s t) (g : Shown t u) : Shown s u :=
  ⟨g.slot.trans h.slot, g.pstate.trans h.pstate, g.faulted.trans h.faulted⟩

theorem pnlStart_steady (s : State) : Steady s s.pnlStart := by
  have h : Steady s s.pnlShowRec := by
    unfold State.pnlShowRec
    split
    · exact setReg_steady s _ (by decide)
    · exact setReg_steady s _ (by decide)
  exact h.trans (setFlag_steady _ _ (by decide))

theorem mramNote_steady (s : State) (a m : Nat) (unc : Bool) (syn : BitVec 8) : Steady s (s.mramNote a m unc syn) :=
  (setReg_steady s _ (by decide)).trans (setReg_steady _ _ (by decide))

theorem startEcc_steady (s : State) (e : Option (Nat × BitVec 8)) : Steady s (s.startEcc e) := by
  unfold State.startEcc State.mramEcc
  split
  case h_1 a syn =>
    exact ((mramNote_steady s _ _ _ _).trans (bump_calm _ (by decide) (by decide)).toSteady).trans (raise_calm _ (by decide) (by decide) _ _).toSteady
  case h_2 => exact .refl

theorem loadReject_steady (s : State) (f : Nat × Nat) : Steady s (s.loadReject f) :=
  (setReg_steady s _ (by decide)).trans (raise_calm _ (by decide) (by decide) _ _).toSteady

/-- A divider set where its value is in range. -/
theorem divider_steady (s : State) {f : Field} (h : steadyAt f.addr) (lo hi v : Nat) : Steady s (if lo ≤ v ∧ v ≤ hi then s.setFld f v else s) :=
  .ite (setFld_steady s v h) .refl

theorem setDividers_steady (s : State) (b : List Byte) : Steady s (s.setDividers b) :=
  ((divider_steady s (f := Reg.CPM_CLKDIV_CORE_DIV) (by decide) _ _ _).trans (divider_steady _ (f := Reg.CPM_CLKDIV_FAB_DIV) (by decide) _ _ _)).trans
    (divider_steady _ (f := Reg.CPM_CLKDIV_CAN_DIV) (by decide) _ _ _)

theorem step4_steady (s : State) (lanes : BitVec 24) (clean : Bool) : Steady s (s.step4 lanes clean) := by
  unfold State.step4
  extract_lets s1 s2
  have h1 : Steady s s1 := (setFld_steady s _ (by decide)).trans (setFlag_steady _ _ (by decide))
  clear_value s1
  have h2 : Steady s1 s2 := setFlag_steady s1 _ (by decide)
  clear_value s2
  exact (h1.trans h2).trans (raise_calm s2 (by decide) (by decide) _ _).toSteady

theorem step6_steady (s : State) : Steady s s.step6 := by
  unfold State.step6
  extract_lets field s1
  have h1 : Steady s s1 := .of_eq rfl (.of_eq rfl)
  clear_value s1
  exact h1.trans (raise_calm s1 (by decide) (by decide) _ _).toSteady

theorem step7_steady (s : State) : Steady s s.step7 := by
  unfold State.step7
  extract_lets rim s1
  have h1 : Steady s s1 := .of_eq rfl (.of_eq rfl)
  clear_value s1
  exact (h1.trans (setFlag_steady s1 _ (by decide))).trans (sendCfg_calm _).toSteady

theorem interrupted_steady (s : State) : Steady s s.interrupted := by
  unfold State.interrupted
  split
  · exact .ite (raise_calm s (by decide) (by decide) _ _).toSteady .refl
  · exact .refl

theorem chooseG_steady (s : State) (i : Image) (b0 b1 : Bool) : Steady s (s.chooseG i b0 b1) := by
  have hg (u : State) (g : List Host.Cell) (n : Nat) : Steady u { u with g := g, cpm := { u.cpm with bankSeq := n } } :=
    ⟨fld_mk u _, fld_mk u _, fun _ _ _ _ h => h, rfl, rfl, rfl⟩
  unfold State.chooseG
  dsimp only
  split
  · exact (hg s _ _).trans (raise_calm _ (by decide) (by decide) _ _).toSteady
  · exact (setG_calm s _).toSteady.trans (raise_calm _ (by decide) (by decide) _ _).toSteady

theorem setRecord_steady (s : State) (c : Nat) (e : ChgEntry) (v : Nat) : Steady s (s.setRecord c e v) := by
  unfold State.setRecord
  dsimp only
  split
  · split
    · exact .of_eq rfl (.of_eq rfl)
    · exact .refl
  · exact (setTask_calm s c _).toSteady
  · exact (setTask_calm s c _).toSteady
  · exact .refl

theorem replaySet_steady (s : State) (x : Nat × Nat × List (Nat × Nat)) : Steady s (s.replaySet x) := by
  unfold State.replaySet
  extract_lets all es s1 k
  have h1 : Steady s s1 := Steady.foldl (fun u p => .ite (wrBytes_calm u _ _).toSteady (setRecord_steady u _ _ _)) _ s
  clear_value s1 k
  exact (h1.trans (setG_calm s1 _).toSteady).trans (setTask_calm _ _ _).toSteady

theorem replay_steady (s : State) : Steady s s.replay := by
  unfold State.replay
  extract_lets j s1 s2
  have h1 : Steady s s1 := Steady.foldl replaySet_steady _ s
  clear_value s1
  have h2 : Steady s1 s2 := setFld_steady s1 _ (by decide)
  clear_value s2
  refine (h1.trans h2).trans (.ite ?_ .refl)
  exact ((wrBytes_calm s2 _ _).toSteady.trans (setFlag_steady _ _ (by decide))).trans (raise_calm _ (by decide) (by decide) _ _).toSteady

/-! ### Failures (R516) -/

/-- A failure reported, with its notice. -/
theorem startNote_shows (s : State) (step hi : Nat) : Shown s (s.startNote step hi) ∧ (s.startNote step hi).told 21 step hi ∧
    (∀ f : Field, f.addr = Reg.CPM_STAT → f.lo + f.width ≤ 32 → 5 ≤ f.lo → (s.startNote step hi).fld f = s.fld f) := by
  have hs := raise_same s 21 step hi
  have hc := stopRecord_calm (s.raise 21 step hi) 21
  have hr (f : Field) (ha : f.addr = Reg.CPM_STAT) : ((s.raise 21 step hi).stopRecord 21).fld f = (s.raise 21 step hi).fld f :=
    fld_of_reg (by rw [ha]; exact recFirst_reg _ _ _ _ _ (by decide) (by decide))
  refine ⟨⟨?_, ?_, hc.faulted.trans (sameCpm_faulted hs)⟩, hc.told 21 (by decide) _ _ (raise_told s (by decide) (by decide) _ _), fun f ha hw hl => ?_⟩
  · exact hc.slot.trans (raise_cpm s (by decide) rfl (by decide) (by decide))
  · exact hc.pstate.trans (raise_cpm s (by decide) rfl (by decide) (by decide))
  · exact (hr f ha).trans (raise_cpm s (by decide) ha hw (Or.inr hl))

/-- HALT without a further step, with the service over the Slath or without. -/
def haltFaulted (s : State) (service : Bool) : State :=
  { s with cpm := { s.cpm with phase := .halt, faulted := true, service := service } }

theorem haltFaulted_rest (s : State) (b : Bool) : (haltFaulted s b).cpm.phase = .halt ∧ (haltFaulted s b).cpm.faulted = true ∧
    (haltFaulted s b).cpm.service = b ∧ (haltFaulted s b).regs = s.regs ∧ (haltFaulted s b).now = s.now := ⟨rfl, rfl, rfl, rfl, rfl⟩

theorem startFail_eq (s : State) (step hi : Nat) (b : Bool) : s.startFail step hi b =
    haltFaulted (if b then (s.startNote step hi).slath else s.startNote step hi) b := rfl

/-- HALT, faulted, in the power state that stood. -/
theorem startFail_shows (s : State) (step hi : Nat) (b : Bool) : (s.startFail step hi b).cpm.phase = .halt ∧
    (s.startFail step hi b).cpm.faulted = true ∧ (s.startFail step hi b).fld Reg.CPM_STAT_SLOT = s.fld Reg.CPM_STAT_SLOT ∧
    (s.startFail step hi b).fld Reg.CPM_STAT_PSTATE = s.fld Reg.CPM_STAT_PSTATE := by
  obtain ⟨hsh, _, _⟩ := startNote_shows s step hi
  have hu : Shown s (if b then (s.startNote step hi).slath else s.startNote step hi) := by
    split
    · exact hsh.trans (slath_steady _).shown
    · exact hsh
  rw [startFail_eq]
  generalize (if b then (s.startNote step hi).slath else s.startNote step hi) = u at hu ⊢
  obtain ⟨h1, h2, _, hr, _⟩ := haltFaulted_rest u b
  exact ⟨h1, h2, (fld_of_regs hr _).trans hu.slot, (fld_of_regs hr _).trans hu.pstate⟩

theorem startNote_within (s : State) (step hi : Nat) : Within 1285 s (s.startNote step hi) := State_startNote_within rfl .refl

theorem setImg_steady (s : State) (i : Option Image) : Steady s { s with img := i } := .of_eq rfl (.of_eq rfl)

/-- An image that fails: none is placed, and the failure is reported. -/
theorem imageFail_shows (s : State) (step : Nat) (f : Nat × Nat) : Shown s (s.imageFail step f) ∧ (s.imageFail step f).told 21 step f.1 ∧
    (s.imageFail step f).img = none := by
  have h1 := (setImg_steady s none).trans (loadReject_steady { s with img := none } f)
  have hi : (({ s with img := none } : State).loadReject f).img = none :=
    (State_loadReject_within (k := 1285) rfl (.refl (s := { s with img := none }))).img_eq (by decide)
  unfold State.imageFail
  generalize ({ s with img := none } : State).loadReject f = u at h1 hi ⊢
  obtain ⟨hsh, htold, _⟩ := startNote_shows u step f.1
  exact ⟨h1.shown.trans hsh, htold, ((startNote_within u _ _).img_eq (by decide)).trans hi⟩

/-! ### Steps 9 and 10 (R44, R453) -/

/-- How start-up can end. -/
def Started (p : Phase) : Prop := p = .run ∨ p = .ptpWait ∨ p = .negotiating ∨ p = .halt

/-- An end of start-up with the slot that was latched. -/
def Ends (s t : State) : Prop := t.fld Reg.CPM_STAT_SLOT = s.fld Reg.CPM_STAT_SLOT ∧ Started t.cpm.phase

theorem Ends.after {s t u : State} (h : Ends t u) (hs : t.fld Reg.CPM_STAT_SLOT = s.fld Reg.CPM_STAT_SLOT) : Ends s u := ⟨h.1.trans hs, h.2⟩

theorem enterHalt_ends (s : State) : Ends s s.enterHalt := by
  have h := enterHalt_halted s
  exact ⟨h.slot, Or.inr (Or.inr (Or.inr h.phase))⟩

theorem takeControl_ends (s : State) : Ends s s.takeControl := by
  unfold State.takeControl
  split
  · exact ⟨fld_mk s _, Or.inr (Or.inl rfl)⟩
  · have h := enterRun_inRun s
    exact ⟨h.slot, Or.inl h.phase⟩

theorem enterJoin_ends (s : State) : Ends s s.enterJoin := by
  have hb := beginRunState_calm s
  have hj := joinStart_steady s.beginRunState
  obtain ⟨hp, _, _, hs⟩ := runShown_shows s
  exact ⟨hj.slot.trans (hb.slot.trans hs), Or.inl (hj.phase.trans (hb.phase.trans hp))⟩

theorem negotiationEnds_ends (s : State) : Ends s s.negotiationEnds :=
  (enterHalt_ends _).after (setFld_steady s (f := Reg.RDL_STAT_OFFCAUSE) 5 (by decide)).slot

theorem negotiateStep_ends {s : State} (h : s.cpm.phase = .negotiating) : Ends s s.negotiateStep := by
  have hs : Ends s s := ⟨rfl, Or.inr (Or.inr (Or.inl h))⟩
  unfold State.negotiateStep
  split
  · exact hs
  · split
    · split
      · exact (negotiationEnds_ends _).after (raise_cpm s (by decide) rfl (by decide) (by decide))
      · split
        · exact enterJoin_ends s
        · split
          · exact takeControl_ends s
          · exact enterJoin_ends s
    · split
      · exact hs
      · exact enterJoin_ends s

/-- Negotiation begun. -/
def negotiating (s : State) : State := ({ s with cpm := { s.cpm with phase := .negotiating, negAt := s.mono } } : State).sendNegotiate

theorem negotiating_shows (s : State) : (negotiating s).cpm.phase = .negotiating ∧
    (negotiating s).fld Reg.CPM_STAT_SLOT = s.fld Reg.CPM_STAT_SLOT := by
  have hw := sendNegotiate_within { s with cpm := { s.cpm with phase := .negotiating, negAt := s.mono } }
  refine ⟨?_, (fld_of_regs (hw.regs_eq (by decide)) _).trans (fld_mk s _)⟩
  unfold negotiating
  rw [hw.cpm_eq (by decide)]

theorem step9_ends (s : State) : Ends s s.step9 := by
  obtain ⟨hp, hs⟩ := negotiating_shows s
  unfold State.step9
  split
  · exact takeControl_ends s
  · exact (negotiateStep_ends hp).after hs
  · exact (negotiateStep_ends hp).after hs
  · exact enterHalt_ends s
  · exact (enterHalt_ends _).after (raise_cpm s (by decide) rfl (by decide) (by decide))

/-! ### Steps 3 to 8 -/

theorem haltOnSlath_ends (s : State) : Ends s s.haltOnSlath := (enterHalt_ends s.slath).after (slath_steady s).slot

theorem step8_ends (s : State) (f : StartFindings) (i : Image) : Ends s (s.step8 f i) := by
  unfold State.step8
  split
  · exact (haltOnSlath_ends _).after (imageFail_shows s 8 _).1.slot
  · extract_lets s1 s2
    have h1 : Steady s s1 := ((slath_steady s).trans (placeImage_steady _ i)).trans (interrupted_steady _)
    clear_value s1
    have h2 : Steady s1 s2 := ((startEcc_steady s1 _).trans (startEcc_steady _ _)).trans (chooseG_steady _ _ _ _)
    clear_value s2
    exact (step9_ends _).after (h1.trans (h2.trans (replay_steady s2))).slot

/-- Whether a step from 4 to 7 fails (R516). -/
def StartFindings.fails (f : StartFindings) : Prop :=
  f.lanesPass ≠ BitVec.allOnes 24 ∨ f.cleanRun = false ∨ f.bist = false ∨ (f.field1 = false ∧ f.field2 = false) ∨ f.rimUp = false

/-- The unit as a failed start-up leaves it. -/
def Failed (s t : State) : Prop := t.cpm.phase = .halt ∧ t.cpm.faulted = true ∧ t.fld Reg.CPM_STAT_SLOT = s.fld Reg.CPM_STAT_SLOT ∧
  t.fld Reg.CPM_STAT_PSTATE = s.fld Reg.CPM_STAT_PSTATE

theorem startFail_failed {s u : State} (h : Shown s u) (step hi : Nat) (b : Bool) : Failed s (u.startFail step hi b) := by
  obtain ⟨h1, h2, h3, h4⟩ := startFail_shows u step hi b
  exact ⟨h1, h2, h3.trans h.slot, h4.trans h.pstate⟩

theorem Failed.ends {s t : State} (h : Failed s t) : Ends s t := ⟨h.2.2.1, Or.inr (Or.inr (Or.inr h.1))⟩

theorem Failed.after {s t u : State} (h : Failed t u) (hs : Shown s t) : Failed s u := ⟨h.1, h.2.1, h.2.2.1.trans hs.slot, h.2.2.2.trans hs.pstate⟩

/-- The steps that have passed, up to step 7. -/
def passed (s : State) (f : StartFindings) : State := (s.step4 f.lanesPass f.cleanRun).step6.step7

theorem passed_steady (s : State) (f : StartFindings) : Steady s (passed s f) :=
  ((step4_steady s _ _).trans (step6_steady _)).trans (step7_steady _)

/-- Steps 4 to 7 fail where a finding says so, and else `rest` follows. -/
theorem steps4to7_cases (s : State) (f : StartFindings) (rest : State → State) :
    (StartFindings.fails f ∧ Failed s (s.steps4to7 f rest)) ∨ (¬ StartFindings.fails f ∧ s.steps4to7 f rest = rest (passed s f)) := by
  have h4 := step4_steady s f.lanesPass f.cleanRun
  unfold State.steps4to7 StartFindings.fails
  dsimp only
  split
  case isTrue h =>
    refine Or.inl ⟨h.elim Or.inl fun h => Or.inr (Or.inl (Bool.eq_false_iff.2 h)), startFail_failed h4.shown _ _ _⟩
  case isFalse h =>
    split
    case isTrue h' => exact Or.inl ⟨Or.inr (Or.inr (Or.inl (Bool.eq_false_iff.2 h'))), startFail_failed h4.shown _ _ _⟩
    case isFalse h' =>
      split
      case isTrue h6 =>
        exact Or.inl ⟨Or.inr (Or.inr (Or.inr (Or.inl ⟨Bool.eq_false_iff.2 h6.1, Bool.eq_false_iff.2 h6.2⟩))), startFail_failed h4.shown _ _ _⟩
      case isFalse h6 =>
        split
        case isTrue h7 =>
          exact Or.inl ⟨Or.inr (Or.inr (Or.inr (Or.inr (Bool.eq_false_iff.2 h7)))), startFail_failed (h4.trans (step6_steady _)).shown _ _ _⟩
        case isFalse h7 =>
          refine Or.inr ⟨?_, rfl⟩
          rintro (g | g | g | g | g)
          · exact h (Or.inl g)
          · exact h (Or.inr (Bool.eq_false_iff.1 g))
          · exact h' (Bool.eq_false_iff.1 g)
          · exact h6 ⟨Bool.eq_false_iff.1 g.1, Bool.eq_false_iff.1 g.2⟩
          · exact h7 (Bool.eq_false_iff.1 g)

/-- The image store's checks decide what follows: steps 4 to 7 with or without an image, or a relock that fails. -/
theorem steps3on_cases (s : State) (f : StartFindings) :
    Failed s (s.steps3on f) ∨ ∃ u rest, Shown s u ∧ s.steps3on f = u.steps4to7 f rest ∧ ∀ v, Ends v (rest v) := by
  unfold State.steps3on
  extract_lets b s1
  have h1 : Steady s s1 := startEcc_steady s _
  clear_value s1
  split
  case h_1 e _ => exact Or.inr ⟨_, _, h1.shown.trans (imageFail_shows s1 3 e).1, rfl, haltOnSlath_ends⟩
  case h_2 =>
    rename_i i tag s2 _ _
    clear_value tag i
    have h2 : Steady s1 s2 := by
      dsimp only [s2]
      split
      · exact setDividers_steady s1 _
      · exact .refl
    clear_value s2
    split
    · exact Or.inl (startFail_failed ((h1.trans h2).trans (setFlag_stat_steady s2 false rfl (by decide))).shown _ _ _)
    · exact Or.inr ⟨_, _, ((h1.trans h2).trans (setImg_steady s2 _)).shown, rfl, fun v => step8_ends v f i⟩

theorem steps3on_ends (s : State) (f : StartFindings) : Ends s (s.steps3on f) := by
  rcases steps3on_cases s f with h | ⟨u, rest, hs, he, hr⟩
  · exact h.ends
  · rw [he]
    rcases steps4to7_cases u f rest with ⟨_, h⟩ | ⟨_, h⟩
    · exact (h.after hs).ends
    · rw [h]
      exact (hr _).after ((passed_steady u f).slot.trans hs.slot)

theorem steps3on_failed {s : State} {f : StartFindings} (h : StartFindings.fails f) : Failed s (s.steps3on f) := by
  rcases steps3on_cases s f with h' | ⟨u, rest, hs, he, _⟩
  · exact h'
  · rw [he]
    rcases steps4to7_cases u f rest with ⟨_, h'⟩ | ⟨h', _⟩
    · exact h'.after hs
    · exact absurd h h'

end Sys2Proof.Proofs

/-! Start-up (R515, R516) from OFF or after a restart, and the wait for the time of R433. -/

namespace Sys2Proof.Proofs
open Sys2Proof Sys2Proof.Machine Sys2Proof.Laws

/-! ### The restart and steps 1 and 2 -/

/-- A unit that restarts shows HALT until start-up has ended. -/
theorem restart_pstate (s : State) (c : RstCause) : (s.restart c).fld Reg.CPM_STAT_PSTATE = 2 := by
  unfold State.restart
  dsimp only
  rw [fld_setFld_addr _ _ (by decide), fld_setFld_addr _ _ (by decide), fld_setFlag_other _ _ (by decide) (by decide),
    fld_setFld_other _ _ (by decide) (by decide), fld_setFld_addr _ _ (by decide)]
  exact congrArg (wordField · 0 2) (Sparse.get_filter regReset _ Reg.CPM_STAT s.regs)

/-- Step 1 latches the slot code. -/
theorem step1_slot (s : State) (c : RstCause) : (s.step1 c).fld Reg.CPM_STAT_SLOT = s.cpm.slotNow % 16 := by
  unfold State.step1
  dsimp only
  rw [fld_setFlag_other _ _ (by decide) (by decide), fld_setReg_ne _ _ (by decide), fld_setFld_addr _ _ (by decide),
    fld_setFld_same _ _ _ (by decide)]
  rfl

theorem step1_pstate (s : State) (c : RstCause) : (s.step1 c).fld Reg.CPM_STAT_PSTATE = s.fld Reg.CPM_STAT_PSTATE := by
  unfold State.step1
  dsimp only
  rw [fld_setFlag_other _ _ (by decide) (by decide), fld_setReg_ne _ _ (by decide), fld_setFld_addr _ _ (by decide),
    fld_setFld_other _ _ (by decide) (by decide)]

theorem step1_within (s : State) (c : RstCause) : Within 1 s (s.step1 c) := State_step1_within rfl .refl

theorem alwaysOn_steady (s : State) (cold : Bool) : Steady s (s.alwaysOn cold) := by
  have h (u : State) (n : Nat) : Steady u (u.setFld Reg.CPM_PWRCYC_PWRCYC n) := setFld_steady u n (by decide)
  exact Steady.trans (.ite ((setFld_steady s _ (by decide)).trans (setFld_steady _ _ (by decide))) .refl) (h _ _)

theorem step2Show_steady (s : State) : Steady s s.step2Show :=
  ((pnlStart_steady s).trans (showConf_steady _)).trans (recFirst_calm _ _ _ _ _).toSteady

theorem step2Show_reg (s : State) : s.step2Show.reg Reg.CPM_STAT = s.reg Reg.CPM_STAT := by
  unfold State.step2Show State.pnlStart
  rw [recFirst_reg _ _ _ _ _ (by decide) (by decide), showConf_reg _ (by decide) (by decide) (by decide), reg_setFlag_ne _ _ (by decide),
    pnlShowRec_reg _ (by decide)]

theorem step2Show_within (s : State) : Within 1029 s s.step2Show := State_step2Show_within rfl .refl

/-- The clocks' bits of step 2. -/
def clocksShown (s : State) (locks : Bool) : State :=
  ((((s.setFlag Reg.CPM_STAT_XT32_OK true).setFlag Reg.CPM_STAT_REF_OK locks).setFlag Reg.CPM_STAT_PLL_LOCK locks).setFlag Reg.CPM_STAT_TB_LOCK
    locks).setFlag Reg.CPM_STAT_PLL_COAST (!locks)

theorem clocksShown_steady (s : State) (locks : Bool) : Steady s (clocksShown s locks) :=
  ((((setFlag_stat_steady s _ rfl (by decide)).trans (setFlag_stat_steady _ _ rfl (by decide))).trans
    (setFlag_stat_steady _ _ rfl (by decide))).trans (setFlag_stat_steady _ _ rfl (by decide))).trans (setFlag_stat_steady _ _ rfl (by decide))

theorem clocksShown_coast (s : State) (locks : Bool) : (clocksShown s locks).flag Reg.CPM_STAT_PLL_COAST = !locks := by
  unfold clocksShown
  exact flag_setFlag_same _ _ _ rfl (by decide)

/-- Module time from 0 leaves the registers. -/
theorem timeFromZero_shows (s : State) : s.timeFromZero.regs = s.regs ∧ s.timeFromZero.now = 0 := ⟨rfl, rfl⟩

theorem step2_eq (s : State) (cold locks : Bool) : s.step2 cold locks = (clocksShown (s.alwaysOn cold) locks).timeFromZero.step2Show := by
  unfold State.step2 clocksShown
  rfl

theorem step2_steady (s : State) (cold locks : Bool) : Steady s (s.step2 cold locks) := by
  have hz (u : State) : Steady u u.timeFromZero := .of_eq rfl (.of_eq rfl)
  rw [step2_eq]
  exact (((alwaysOn_steady s cold).trans (clocksShown_steady _ locks)).trans (hz _)).trans (step2Show_steady _)

/-- Step 2 shows a PLL that coasts where it has not locked, and module time starts at 0. -/
theorem step2_clock (s : State) (cold locks : Bool) : (s.step2 cold locks).flag Reg.CPM_STAT_PLL_COAST = !locks ∧ (s.step2 cold locks).now = 0 := by
  rw [step2_eq]
  have hc := clocksShown_coast (s.alwaysOn cold) locks
  generalize clocksShown (s.alwaysOn cold) locks = u at hc ⊢
  obtain ⟨hregs, hnow⟩ := timeFromZero_shows u
  generalize u.timeFromZero = v at hregs hnow ⊢
  exact ⟨(flag_of_fld ((fld_of_reg (step2Show_reg v)).trans (fld_of_regs hregs _))).trans hc, ((step2Show_within v).now_eq (by decide)).trans hnow⟩

theorem step2_within (s : State) (cold locks : Bool) : Within 1053 s (s.step2 cold locks) := State_step2_within rfl .refl

/-- The unit after step 2. -/
def startBegun (s : State) (locks : Bool) : State := ((s.restart s.cpm.startCause).step1 s.cpm.startCause).step2 (decide (s.cpm.phase = .off)) locks

/-- What steps 1 and 2 leave. -/
structure Begun (s t : State) (locks : Bool) : Prop where
  slot : t.fld Reg.CPM_STAT_SLOT = s.cpm.slotNow % 16
  pstate : t.fld Reg.CPM_STAT_PSTATE = 2
  faulted : t.cpm.faulted = false
  coast : t.flag Reg.CPM_STAT_PLL_COAST = !locks
  now : t.now = 0
  byte : ∀ a, inMram a = true → t.byte a = s.byte a

theorem restart_cpm (s : State) (c : RstCause) : (s.restart c).cpm.slotNow = s.cpm.slotNow ∧ (s.restart c).cpm.faulted = false := ⟨rfl, rfl⟩

theorem startBegun_shows (s : State) (locks : Bool) : Begun s (startBegun s locks) locks := by
  obtain ⟨hslot, hfaulted⟩ := restart_cpm s s.cpm.startCause
  have hp := restart_pstate s s.cpm.startCause
  have hb := restart_byte s s.cpm.startCause
  unfold startBegun
  generalize s.restart s.cpm.startCause = u at hslot hfaulted hp hb ⊢
  have h1 := step1_within u s.cpm.startCause
  have h2 := step2_steady (u.step1 s.cpm.startCause) (decide (s.cpm.phase = .off)) locks
  obtain ⟨hcoast, hnow⟩ := step2_clock (u.step1 s.cpm.startCause) (decide (s.cpm.phase = .off)) locks
  refine ⟨?_, ?_, ?_, hcoast, hnow, fun a ha => ?_⟩
  · rw [h2.slot, step1_slot, hslot]
  · rw [h2.pstate, step1_pstate, hp]
  · rw [h2.faulted, h1.cpm_eq (by decide), hfaulted]
  · have hm := ((step2_within (u.step1 s.cpm.startCause) (decide (s.cpm.phase = .off)) locks).mem_eq (by decide)).trans (h1.mem_eq (by decide))
    calc _ = u.byte a := congrArg (Sparse.get memDefault · a) hm
      _ = s.byte a := (hb a).trans (if_pos ha)

/-- The image store lies in MRAM. -/
theorem storeImage_congr {s t : State} (h : ∀ a, inMram a = true → t.byte a = s.byte a) : t.storeImage = s.storeImage := by
  have hin {i : Nat} (hi : i < 6000000) : inMram (storeAt + i) = true := by
    unfold inMram storeAt
    simp only [Bool.and_eq_true, decide_eq_true_eq]
    omega
  have hlen : t.rdLE (storeAt + 8) 4 = s.rdLE (storeAt + 8) 4 := rdLE_congr fun i hi => by
    rw [Nat.add_assoc]
    exact h _ (hin (by omega))
  unfold State.storeImage
  rw [hlen]
  exact bytes_congr fun i hi => h _ (hin (lt_of_lt_of_le hi (Nat.min_le_left _ _)))

/-! ### The whole start-up -/

theorem startup_other {s : State} {f : StartFindings} (h : s.cpm.phase ≠ .off) (g : s.cpm.phase ≠ .ready) : startup f s = s := if_pos ⟨h, g⟩

theorem startup_eq {s : State} {f : StartFindings} (h : s.cpm.phase = .off ∨ s.cpm.phase = .ready) : startup f s =
    if f.pllLocks = true then (startBegun s f.pllLocks).steps3on f else (startBegun s f.pllLocks).startFail 2 0 false := by
  have hn : ¬ (s.cpm.phase ≠ .off ∧ s.cpm.phase ≠ .ready) := fun g => h.elim g.1 g.2
  unfold startup
  rw [if_neg hn]
  exact ite_not _ _ _

theorem startup_ends {s : State} (f : StartFindings) (h : s.cpm.phase = .off ∨ s.cpm.phase = .ready) :
    (startup f s).fld Reg.CPM_STAT_SLOT = s.cpm.slotNow % 16 ∧ Started (startup f s).cpm.phase := by
  have hb := startBegun_shows s f.pllLocks
  have he : Ends (startBegun s f.pllLocks) (startup f s) := by
    rw [startup_eq h]
    split
    · exact steps3on_ends _ f
    · exact (startFail_failed ⟨rfl, rfl, rfl⟩ _ _ _).ends
  exact ⟨he.1.trans hb.slot, he.2⟩

/-- A PLL that does not lock: no service, and the PLL is shown coasting at time 0. -/
theorem startFail_noLock {s : State} (hc : s.flag Reg.CPM_STAT_PLL_COAST = true) (hn : s.now = 0) :
    (s.startFail 2 0 false).cpm.service = false ∧ (s.startFail 2 0 false).flag Reg.CPM_STAT_PLL_COAST = true ∧
      (s.startFail 2 0 false).told 21 2 0 ∧ (s.startFail 2 0 false).now = 0 := by
  obtain ⟨_, htold, hstat⟩ := startNote_shows s 2 0
  have hnow := (startNote_within s 2 0).now_eq (by decide)
  have hs : s.startFail 2 0 false = haltFaulted (s.startNote 2 0) false := rfl
  have ht (u : State) (h : u.told 21 2 0) : (haltFaulted u false).told 21 2 0 := h
  have hcoast : (s.startNote 2 0).flag Reg.CPM_STAT_PLL_COAST = true := (flag_of_fld (hstat Reg.CPM_STAT_PLL_COAST rfl (by decide) (by decide))).trans hc
  rw [hs]
  generalize s.startNote 2 0 = u at htold hnow hcoast ⊢
  obtain ⟨_, _, hserv, hregs, hnow'⟩ := haltFaulted_rest u false
  exact ⟨hserv, (flag_of_fld (fld_of_regs hregs _)).trans hcoast, ht u htold, (hnow'.trans hnow).trans hn⟩

theorem startup_fails {s : State} {f : StartFindings} (h : s.cpm.phase = .off ∨ s.cpm.phase = .ready)
    (hf : f.pllLocks = false ∨ StartFindings.fails f) : (startup f s).cpm.phase = .halt ∧ (startup f s).cpm.faulted = true ∧
      (startup f s).fld Reg.CPM_STAT_PSTATE = 2 ∧ (f.pllLocks = false → (startup f s).cpm.service = false ∧
        (startup f s).flag Reg.CPM_STAT_PLL_COAST = true ∧ (startup f s).told 21 2 0 ∧ (startup f s).now = 0) := by
  have hb := startBegun_shows s f.pllLocks
  rw [startup_eq h]
  split
  case isTrue hl =>
    have hfail : StartFindings.fails f := hf.resolve_left (by rw [hl]; decide)
    obtain ⟨h1, h2, _, h4⟩ := steps3on_failed (s := startBegun s f.pllLocks) hfail
    exact ⟨h1, h2, h4.trans hb.pstate, fun g => absurd (hl.symm.trans g) (by decide)⟩
  case isFalse hl =>
    obtain ⟨h1, h2, _, h4⟩ := startFail_shows (startBegun s f.pllLocks) 2 0 false
    exact ⟨h1, h2, h4.trans hb.pstate, fun g => startFail_noLock (hb.coast.trans (by rw [g]; rfl)) hb.now⟩

/-! ### An image store that fails check 2 -/

theorem steps3on_badImage {s : State} {f : StartFindings} {e : Nat × Nat} (h : loadCheck2 s.storeImage = some e) :
    s.steps3on f = ((s.startEcc f.storeEcc).imageFail 3 e).steps4to7 f State.haltOnSlath := by
  unfold State.steps3on
  extract_lets b s1
  have hb : s1.bootChecks b f.storeEcc.isSome = some e := by
    unfold State.bootChecks
    rw [h]
    rfl
  clear_value b
  split
  case h_1 e' he =>
    cases hb.symm.trans he
    rfl
  case h_2 hn => exact absurd (hb.symm.trans hn) (by simp)

theorem passed_img (s : State) (f : StartFindings) : (passed s f).img = s.img := by
  have h4 : Within 1285 s (s.step4 f.lanesPass f.cleanRun) := State_step4_within rfl .refl
  have h6 (u : State) : Within 16778501 u u.step6 := State_step6_within rfl .refl
  have h7 (u : State) : Within 34368128261 u u.step7 := State_step7_within rfl .refl
  exact ((h7 _).img_eq (by decide)).trans (((h6 _).img_eq (by decide)).trans (h4.img_eq (by decide)))

theorem haltOnSlath_img (s : State) : s.haltOnSlath.img = s.img :=
  (State_haltOnSlath_within (k := 447755586823) rfl (.refl (s := s))).img_eq (by decide)

/-- HALT on the Slath, with the notices kept. -/
theorem haltOnSlath_halted (s : State) : Halted s.slath s.haltOnSlath := enterHalt_halted s.slath

theorem startup_badImage {s : State} {f : StartFindings} {e : Nat × Nat} (h : s.cpm.phase = .off ∨ s.cpm.phase = .ready) (hl : f.pllLocks = true)
    (hf : ¬ StartFindings.fails f) (he : loadCheck2 s.storeImage = some e) : (startup f s).cpm.phase = .halt ∧ (startup f s).cpm.faulted = false ∧
      (startup f s).img = none ∧ (startup f s).fld Reg.CPM_STAT_PSTATE = 2 ∧ (startup f s).fld Reg.RDL_STAT_ROLE = 0 ∧ (startup f s).told 21 3 e.1 := by
  have hb := startBegun_shows s f.pllLocks
  rw [startup_eq h, if_pos hl]
  generalize startBegun s f.pllLocks = u at hb ⊢
  have hecc := startEcc_steady u f.storeEcc
  obtain ⟨hsh, htold, himg⟩ := imageFail_shows (u.startEcc f.storeEcc) 3 e
  rw [steps3on_badImage (by rw [storeImage_congr hb.byte]; exact he)]
  generalize (u.startEcc f.storeEcc).imageFail 3 e = v at hsh htold himg ⊢
  obtain ⟨hfail, _⟩ | ⟨_, heq⟩ := steps4to7_cases v f State.haltOnSlath
  · exact absurd hfail hf
  · have hs := (passed_steady v f).trans (slath_steady (passed v f))
    have hh := haltOnSlath_halted (passed v f)
    rw [heq]
    refine ⟨hh.phase, ?_, ?_, hh.pstate, hh.role, hh.told 21 (by decide) _ _ (hs.told 21 (by decide) _ _ htold)⟩
    · rw [hh.faulted, hs.faulted, hsh.faulted, hecc.faulted, hb.faulted]
    · rw [haltOnSlath_img, passed_img, himg]

/-! ### The wait for the time (R433) -/

theorem startWaitEnd_other {s : State} (how : WaitEnd) (h : s.cpm.phase ≠ .ptpWait) : startWaitEnd how s = s := if_pos h

theorem startWaitEnd_eq {s : State} {how : WaitEnd} (h : s.cpm.phase = .ptpWait) (hl : how = .locked → 4 ≤ s.ptp.startRun)
    (hm : how = .master → s.fld Reg.PTP_STAT_STATE = 4) :
    startWaitEnd how s = (if how = .expired then s.toMono (s.cpm.negAt + 1000000000 * s.ptpByte 9) else s).enterRun := by
  unfold startWaitEnd
  rw [if_neg (fun g => g h)]
  cases how with
  | locked => exact if_pos (hl rfl)
  | master => exact if_pos (hm rfl)
  | expired => rfl

theorem startWaitEnd_early {s : State} (h : s.ptp.startRun < 4) : startWaitEnd .locked s = s := by
  unfold startWaitEnd
  split
  · rfl
  · exact if_neg (Nat.not_le.2 h)

theorem toMono_calm (s : State) (n : Nat) : Calm s (s.toMono n) := .of_within (k := 56) (toMono_within s n) (by decide) (by decide)

/-- The end of a wait by R433. -/
theorem startWaitEnd_runs {s : State} {how : WaitEnd} (h : s.cpm.phase = .ptpWait) (hl : how = .locked → 4 ≤ s.ptp.startRun)
    (hm : how = .master → s.fld Reg.PTP_STAT_STATE = 4) : InRun s (startWaitEnd how s) ∧
      (how = .expired → s.cpm.negAt + 1000000000 * s.ptpByte 9 ≤ (startWaitEnd how s).mono) := by
  rw [startWaitEnd_eq h hl hm]
  split
  case isTrue he =>
    have hc := toMono_calm s (s.cpm.negAt + 1000000000 * s.ptpByte 9)
    have hm := le_toMono_mono s (s.cpm.negAt + 1000000000 * s.ptpByte 9)
    generalize s.toMono (s.cpm.negAt + 1000000000 * s.ptpByte 9) = u at hc hm ⊢
    have hr := enterRun_inRun u
    refine ⟨{ hr with slot := hr.slot.trans hc.slot, role := by rw [hr.role, hc.onPairCarrier] }, fun _ => ?_⟩
    rw [(enterRun_within u).mono_eq (by decide)]
    exact hm
  case isFalse he => exact ⟨enterRun_inRun s, fun g => absurd g he⟩

/-- Settles O48: start-up followed step by step, with what each step leaves of the slot, the power state and the notices. -/
theorem startUp : Obligations.StartUp := by
  unfold Obligations.StartUp
  intro s f how e
  refine ⟨fun h g => next_eq (startup_other h g), fun h => ⟨?ends, fun hf => ?fails, fun hl h1 h2 h3 h4 h5 he => ?bad⟩,
    fun h => next_eq (startWaitEnd_other how h), fun _ h => next_eq (startWaitEnd_early h), fun h hl hm => ?wait⟩
  case ends => exact ⟨_, rfl, startup_ends f h⟩
  case fails => exact ⟨_, rfl, startup_fails h hf⟩
  case bad =>
    have hf : ¬ StartFindings.fails f := by
      unfold StartFindings.fails
      simp [h1, h2, h3, h4, h5]
    exact ⟨_, rfl, startup_badImage h hl hf he⟩
  case wait =>
    obtain ⟨hr, hmono⟩ := startWaitEnd_runs h hl hm
    exact ⟨_, rfl, hr.phase, hr.pstate, hr.role, hr.offcause, hr.give, hr.take, hmono⟩

end Sys2Proof.Proofs
